-- ==== Sys2Proof/Word.lean ====
section
/-! DEFINITION. The word types of the machine and nothing more: 32-bit register and memory words, bytes, and the units
of time in which T0 is counted. -/

set_option Elab.async false

namespace Sys2Proof

/-- A 32-bit register or memory word. -/
abbrev Word := BitVec 32

/-- A byte; memory is little-endian (R7). -/
abbrev Byte := BitVec 8

end Sys2Proof
end

