-- ==== Sys2Proof/Syntax.lean ====
section
/-! DEFINITION. The commands of the block, one constructor for each row of the opcode table, with the operands that a
command of the row carries. A command is a register access or request by an initiator, an event on a pin or a
link, a message, the passing of a time, or one instruction of a core. -/

set_option Elab.async false

namespace Sys2Proof

/-- The initiator identities of R44. -/
inductive Init where
  | part (n : Nat)
  | aon
  | boot
  | siari
  | switch
deriving DecidableEq, Repr

/-- The transfer that a word of a handshake link belongs to (R32): a load of core c or a posted store by an initiator, at an address, or another. -/
inductive LinkUse where
  | other
  | load (c a : Nat)
  | store (init : Init) (a : Nat)
deriving DecidableEq, Repr

/-- What the flash probe reads of a chip-select (R107): the SFDP signature as a little-endian number, the IDs of the parameter tables present, the
density in bits, and the ID in 1S-1S-1S and in 8D-8D-8D mode. -/
structure FlashId where
  signature : Nat
  tables : List Nat
  density : Nat
  id1 : Nat
  id8 : Nat
deriving DecidableEq, Repr

/-- The commands of the block: one constructor for each row of the opcode table, in the table's order. -/
inductive Instr where
  /-- Reading the first word of a register wider than 32 bits takes and locks a snapshot for the reading initiator, clearing RC fields only for an owner (R19). -/
  | snapshot (init : Init) (a : Nat)
  /-- Reading the last word of a wide register returns the snapshot word and releases the initiator's lock (R21). -/
  | snapshotRelease (init : Init) (a : Nat)
  /-- A read of a non-first word without a snapshot returns the live word and is counted as a torn read (R24). -/
  | tornRead (init : Init) (a : Nat)
  /-- A snapshot held 250 us of T0 without the last word being read is released and counted as abandoned (R23). -/
  | abandonedSnapshot (init : Init) (a : Nat)
  /-- Writing a word below the last word of a wide register stages it for the writer; writing the last word applies the whole value (R28). -/
  | wideWordStage (init : Init) (a : Nat) (v : Nat)
  /-- A write to a register without behaviour of its own acts on its RW, WO, W1C and W1S fields, or is dropped and counted (R14). -/
  | registerWrite (init : Init) (a : Nat) (v : Nat)
  /-- An access to an address in a block window with no register reads zero or drops the write and counts it; a write of v, or a read (R18). -/
  | undefinedAddressAccess (init : Init) (a : Nat) (v : Option Nat)
  /-- An access to an undecoded address reads zero or is dropped and counted in the fabric's access error class; a write of v, or a read (R59). -/
  | undecodedAddressAccess (init : Init) (a : Nat) (v : Option Nat)
  /-- A read into an island whose domain is off returns zero, is counted and raises a domain off event (R37). -/
  | domainOffRead (init : Init) (a : Nat)
  /-- A word crosses a handshake link and is corrected, or dropped as uncorrectable, and counted, and its consumer is told; lanes: those in error, 80 the spare (R32). -/
  | linkWord (l : Nat) (lanes : List Nat) (parityBad : Bool) (u : LinkUse)
  /-- The 1 ms idle-pattern check of an idle link looks for stuck lanes (R33). -/
  | idlePatternCheck (l : Nat) (stuck : List Nat)
  /-- Traffic on the link resumes after a lane move, at most 20 us after the pause began (R34). -/
  | laneMoveComplete (l : Nat)
  /-- A write to a channel register in a group or all-channel page stages the field for each owned member (R256). -/
  | groupAliasWrite (init : Init) (a : Nat) (v : Nat)
  /-- A write of a group's MEMBER register by its owner changes membership and discards the staged fields (R260). -/
  | memberWrite (init : Init) (block : Nat) (g : Nat) (w : Nat) (v : Nat)
  /-- VBAT falls below the brown-out threshold, causing a P reset with every output off; VBAT in units of 10 mV (R86). -/
  | brownOut (vbat : Nat)
  /-- VBAT falls below the cut threshold and the cut time restarts from zero; VBAT in units of 10 mV (R87). -/
  | cutThresholdFall (vbat : Nat)
  /-- VBAT rises above the cut threshold and the cut time stops; VBAT in units of 10 mV (R87). -/
  | cutThresholdRise (vbat : Nat)
  /-- The cut time expires and the power stage switches every channel off (R86). -/
  | cutTimeExpiry
  /-- VBAT falls below the falling full-zone limit; diagnosis is suspended and HOLDSEEN set; VBAT in units of 10 mV (R86). -/
  | holdZoneEntry (vbat : Nat)
  /-- VBAT rises above the rising full-zone limit and full function with diagnosis resumes; VBAT in units of 10 mV (R86). -/
  | fullZoneEntry (vbat : Nat)
  /-- VBAT rises above the overvoltage threshold; on-state diagnosis is suspended and OVSEEN set; VBAT in units of 10 mV (R86). -/
  | overvoltageEntry (vbat : Nat)
  /-- VBAT falls below the overvoltage threshold less its hysteresis; VBAT in units of 10 mV (R86). -/
  | overvoltageExit (vbat : Nat)
  /-- VBAT rises above the recovery threshold, re-applying cut channels or ending a P reset; VBAT in units of 10 mV (R88). -/
  | recoveryThresholdRise (vbat : Nat)
  /-- PGOOD_C or PGOOD_I low for more than 5 us while requested on causes a device reset and sets PGLOSS; PGOOD_I where i, else PGOOD_C (R101). -/
  | pgoodLoss (i : Bool)
  /-- RESET_N goes low and a device reset begins with power outputs holding (R307). -/
  | resetNAssert
  /-- RESET_N held low for 10 ms makes every HS, BH and VB output take its default state (R307). -/
  | resetNLongHold
  /-- RESET_N is released, which is the reference instant of the device reset's bring-up (R141). -/
  | resetNRelease
  /-- The test access port carries out BYPASS, or selects bypass for any instruction it may not carry out (R83). -/
  | jtagBypass
  /-- The test access port returns the IDCODE register (R83). -/
  | jtagIdcode
  /-- In boundary-scan mode the port samples the pins into the boundary-scan register (R85). -/
  | samplePreload (pins : List Nat) (preload : List Nat)
  /-- In boundary-scan mode and service-only state the port drives the drive cells (R85). -/
  | extest
  /-- In core debug mode the port halts one C6 core that hosts a partition (R84). -/
  | coreHalt (c : Nat)
  /-- In core debug mode the port steps a halted core by one instruction word (R84). -/
  | coreStep (c : Nat)
  /-- In core debug mode the port resumes a halted core (R84). -/
  | coreResume (c : Nat)
  /-- The port reads a general or control register of a halted core; k: general below 32, else control register k − 32 (R84). -/
  | debugRegisterRead (c : Nat) (k : Nat)
  /-- The port writes a general or control register of a halted core (R84). -/
  | debugRegisterWrite (c : Nat) (k : Nat) (v : Nat)
  /-- The halted core issues a load for the port in supervisor mode under its own identity and regions (R84). -/
  | debugLoad (c : Nat) (a : Nat) (size : Nat)
  /-- The halted core issues a store for the port in supervisor mode under its own identity and regions (R84). -/
  | debugStore (c : Nat) (a : Nat) (size : Nat) (v : Nat)
  /-- A PGOOD input rises after a rail-on request and bring-up goes on to the next rail or domain; PGOOD_I where i, else PGOOD_C (R100). -/
  | pgoodRise (i : Bool)
  /-- A PGOOD input low 2 ms after an acknowledged rail-on request is handled as a missing acknowledgement; PGOOD_I where i, else PGOOD_C (R100). -/
  | pgoodTimeout (i : Bool)
  /-- The postilion switches the next domain on, 200 us after the previous one (R131). -/
  | domainTurnOn
  /-- The SRAM test and repair ends, storing the repair map in AON; faulty: the addresses of the faulty rows (R133). -/
  | sramTestEnd (faulty : List Nat)
  /-- The flash probe ends with the conformance of each chip-select known; what it read of each (R107). -/
  | flashProbeEnd (f0 : FlashId) (f1 : FlashId)
  /-- With no Siari session for 30 min in service-only state the device enters DEEP PARK (R139). -/
  | serviceOnlyTimeout
  /-- A part has been read from flash and is accepted or rejected by the ordered checks; verdict 8: the read did not complete, 7: a table part's
  content checks fail; addrs, vals: what a table part writes (R119). -/
  | partCheckEnd (part : Nat) (verdict : Nat) (addrs : List Nat) (vals : List Word)
  /-- A register block write record writes its value to its register (R126). -/
  | writeRecord
  /-- A burst record writes its values to consecutive registers (R126). -/
  | burstRecord
  /-- A masked write record writes the masked bits of its value (R126). -/
  | maskedWriteRecord
  /-- A wait record starts waiting until the masked register equals its value (R126). -/
  | waitRecord
  /-- The condition of a wait record holds and application continues (R126). -/
  | waitRecordSatisfied
  /-- A wait record times out, fails, is counted in SYS_REGBLK and application continues (R128). -/
  | waitRecordTimeout
  /-- A legal-time message entering the mailbox sets T3 at that T0 instant; t in units of 2⁻¹⁶ ns (R148). -/
  | legalTimeMessage (t : Nat)
  /-- No legal-time message for 3 s clears V3 and makes T3 read zero (R148). -/
  | t3Timeout
  /-- A decoder's round-trip calibration after its domain turns on completes (R151). -/
  | decoderCalibrationEnd (d : Nat)
  /-- A running decoder is recalibrated in the background at least every 100 ms (R151). -/
  | backgroundRecalibration (d : Nat)
  /-- A port's link training ends with its path measurement and cable audit; path: loop-back measurement succeeded; rtt in units of 1/16 ns (R152). -/
  | linkTrainingEnd (p : Nat) (path : Bool) (audited : Bool) (rtt : Option Nat) (cable : Nat) (sqi : Nat)
  /-- A port's link goes down and it becomes uncalibrated (R152). -/
  | linkDown (p : Nat)
  /-- An offset arrives for T1 or T2 and is dropped, accepted for a step or accepted for a rate update; e in units of 2⁻¹⁶ ns (R158). -/
  | servoOffset (n : Nat) (e : Int)
  /-- At its apply tick a step changes the scale's value, clears the integral, validates the scale and raises step events (R159). -/
  | scaleStep (n : Nat)
  /-- At its apply tick the servo's new rate correction takes effect (R160). -/
  | rateUpdate (n : Nat)
  /-- No accepted offset for four expected intervals moves the scale to HOLDOVER (R161). -/
  | holdoverEntry (n : Nat)
  /-- Writing TIM_SnCTL.MODE servo moves the scale to ACQUIRE or TRACK (R161). -/
  | modeServo (init : Init) (n : Nat)
  /-- Writing TIM_SnCTL.MODE increment moves the scale to INCREMENT (R161). -/
  | modeIncrement (init : Init) (n : Nat)
  /-- Writing TIM_SnCTL.MODE off moves the scale to OFF with r := 0 (R161). -/
  | modeOff (init : Init) (n : Nat)
  /-- Writing the last word of TIM_SnOFFS requests a firmware step at the next apply tick (R162). -/
  | offsetWrite (init : Init) (n : Nat) (e : Int)
  /-- Writing the last word of TIM_SnFEED hands a firmware-measured offset to the servo (R165). -/
  | feedWrite (init : Init) (n : Nat) (e : Int)
  /-- A leading edge on the GNSS TCI is stamped and turned into an offset or dropped (R163). -/
  | gnssPulse (n : Nat) (rise : Bool)
  /-- Writing TIM_INCRn sets the increment-mode rate, clamped to its limits (R168). -/
  | incrementWrite (init : Init) (n : Nat) (v : Nat)
  /-- The primary and shadow timebases differ or one loses PLL lock, and the faulty unit is decided; which unit lost its lock, whose tick count differs (R169). -/
  | shadowMismatch (lossP : Bool) (lossS : Bool) (tickP : Bool) (tickS : Bool)
  /-- The shadow switch-over ends with SWITCHED, ONSHADOW and NOSHADOW set and a time switched event (R171). -/
  | switchOverComplete
  /-- One second after an unplanned switch-over the faulted unit self-tests and locks in as shadow or stays out (R173). -/
  | shadowSelfTest (pass : Bool)
  /-- Writing TIM_SHCTL.SWAP requests a swap of primary and shadow (R174). -/
  | plannedSwap (init : Init)
  /-- At its apply tick the planned swap exchanges primary and shadow and is logged (R174). -/
  | plannedSwapApply
  /-- Writing EN := 1 arms a TPO, or sets PAST or drops the write (R177). -/
  | tpoArm (init : Init) (n : Nat)
  /-- Clearing EN ends any active pulse at once (R178). -/
  | tpoDisarm (init : Init) (n : Nat)
  /-- A TPO with SRC 0 makes a leading edge at its programmed instant and stamps it (R175). -/
  | tpoLeadingEdge (n : Nat)
  /-- A TPO makes its trailing edge WIDTH after its leading edge (R175). -/
  | tpoTrailingEdge (n : Nat)
  /-- An edge on a TCI is stamped into TIM_TCInCAP with a capture event (R182). -/
  | tciEdge (i : Nat) (rise : Bool)
  /-- A frame arriving at a port is stamped, classified, filtered, looked up and queued for egress; bytes from destination address to FCS (R203). -/
  | frameReceive (p : Nat) (frame : List Byte)
  /-- A dynamic forwarding entry not refreshed for AGETIME is removed (R207). -/
  | entryAgeing (k : Nat)
  /-- At a transmission opportunity the port picks a frame by precedence, gates, shapers and launch instants and starts it; fault as R201 (R210). -/
  | egressStart (p : Nat) (fault : Nat) (collided : Bool)
  /-- ESW_FDBCMD OP 0 reads the forwarding entry at INDEX (R208). -/
  | fdbReadIndex (init : Init) (idx : Nat)
  /-- ESW_FDBCMD OP 1 writes the entry of the key in FDBDATA (R208). -/
  | fdbWriteByKey (init : Init)
  /-- ESW_FDBCMD OP 2 looks up the key and sets HIT and INDEX (R208). -/
  | fdbLookUpKey (init : Init)
  /-- ESW_FDBCMD OP 3 deletes the entry of the key (R208). -/
  | fdbDeleteByKey (init : Init)
  /-- Writing ESW_AGE.FLUSH removes every dynamic forwarding entry (R207). -/
  | fdbFlush (init : Init)
  /-- Writing TASCTL.CHANGE makes the admin gate list pending (R213). -/
  | gateListChange (init : Init) (p : Nat)
  /-- At the first cycle start after the apply tick the admin list becomes operational and OPBANK flips (R213). -/
  | gateListSwitch (p : Nat)
  /-- A gate list entry's interval ends and the next entry's gate states take effect (R212). -/
  | gateEntryEnd (p : Nat)
  /-- A Sync on the slave port yields an offset and egress Syncs on master ports; times in units of 2⁻¹⁶ ns (R222). -/
  | syncReceive (d : Nat) (p : Nat) (seq : Nat) (two : Bool) (origin : Int) (corr : Int)
  /-- A Follow_Up completes a two-step Sync for the offset and egress conversion (R224). -/
  | followUpReceive (d : Nat) (p : Nat) (seq : Nat) (origin : Int) (corr : Int)
  /-- A two-step Sync without Follow_Up after 10 ms is discarded and counted in FUMISS (R225). -/
  | followUpTimeout (d : Nat)
  /-- No Sync on the slave port for three sync intervals counts SYNCTO and raises sync lost (R226). -/
  | syncTimeout (d : Nat)
  /-- As grandmaster the engine sends a Sync on each master port once per sync interval (R223). -/
  | grandmasterSyncInterval (d : Nat)
  /-- Announce is sent on master ports once per announce interval (R220). -/
  | announceSend (d : Nat)
  /-- A received Announce is counted in ANNRX and not acted upon (R220). -/
  | announceReceive (d : Nat) (p : Nat)
  /-- A received Signaling message is counted in SIGRX and not acted upon (R220). -/
  | signalingReceive (d : Nat) (p : Nat)
  /-- A peer-delay exchange starts on a port once per peer-delay interval (R220). -/
  | pdelayExchange (p : Nat)
  /-- A peer-delay response completes an exchange and updates the mean link delay and asCapable (R220). -/
  | pdelayResponse (p : Nat) (turnaround : Int)
  /-- A write of ESW_PTPdROLE sets port roles, or is dropped if it names two slave ports (R221). -/
  | ptpRoleWrite (init : Init) (d : Nat) (v : Nat)
  /-- Firmware advances a fabric port's TXTAIL, handing descriptors to the device (R228). -/
  | txTailAdvance (init : Init) (p : Nat) (v : Nat)
  /-- Firmware advances a fabric port's RXTAIL, returning receive descriptors (R228). -/
  | rxTailAdvance (init : Init) (p : Nat) (v : Nat)
  /-- A ring base write outside the partition's range stops the ring and is counted (R228). -/
  | ringBaseWrite (init : Init) (p : Nat) (rx : Bool) (a : Nat)
  /-- A schedule entry's occurrence reaches its planned instant and its action is resolved and executed; unc: the read of the entry finds an uncorrectable word, R630 (R242). -/
  | scheduleOccurrence (t : Nat) (e : Nat) (unc : Bool)
  /-- A PULSE's trailing edge executes ARG grid units after its leading edge (R242). -/
  | pulseTrailingEdge (x : Nat)
  /-- A deferred turn-on falls due again and the postilion admits, defers or drops it (R264). -/
  | deferredTurnOnDue (x : Nat)
  /-- An immediate request reaches its executor and executes at the next grid slot (R253). -/
  | immediateRequestArrival (x : Nat)
  /-- An immediate commit reaches the block's executors and the staged fields take effect in one grid slot (R257). -/
  | commitArrival (block : Nat) (g : Nat)
  /-- PSW_CMD ON makes an immediate ON request for a power channel (R253). -/
  | pswCmdOn (init : Init) (x : Nat)
  /-- PSW_CMD OFF makes an immediate OFF request for a power channel (R253). -/
  | pswCmdOff (init : Init) (x : Nat)
  /-- PSW_CMD LOW makes an immediate low-side request for a bridge (R253). -/
  | pswCmdLow (init : Init) (x : Nat)
  /-- VLV_CMD ON makes an immediate ON request for a valve output (R253). -/
  | vlvCmdOn (init : Init) (i : Nat)
  /-- VLV_CMD OFF makes an immediate OFF request for a valve output (R253). -/
  | vlvCmdOff (init : Init) (i : Nat)
  /-- LGT_CMD ON makes an immediate ON request for an LED target (R253). -/
  | lgtCmdOn (init : Init) (m : Nat)
  /-- LGT_CMD OFF makes an immediate OFF request for an LED target (R253). -/
  | lgtCmdOff (init : Init) (m : Nat)
  /-- LGT_CMD LEVEL makes an immediate level request for an LS or AM channel (R358). -/
  | lgtCmdLevel (init : Init) (m : Nat) (lvl : Nat)
  /-- Writing RUN := 1 starts a schedule table, passing over occurrences less than 1 us ahead (R243). -/
  | tableRun (init : Init) (t : Nat)
  /-- Writing RUN := 0 stops handing occurrences and cancels deferred actions (R245). -/
  | tableStop (init : Init) (t : Nat)
  /-- Writing COPY := 1 copies the active bank into the inactive bank (R246). -/
  | bankCopy (init : Init) (t : Nat)
  /-- Writing SWAPREQ := 1 requests a bank swap, or refuses it for an invalid SWSCALE (R246). -/
  | swapRequest (init : Init) (t : Nat)
  /-- At the apply tick or swap instant the table's active bank flips (R248). -/
  | bankSwap (t : Nat)
  /-- Writing COMMIT := 1 to a group's commit register issues an immediate commit (R257). -/
  | groupCommit (init : Init) (block : Nat) (g : Nat)
  /-- Writing DISCARD := 1 discards the group's staged fields (R260). -/
  | groupDiscard (init : Init) (block : Nat) (g : Nat)
  /-- Writing word 0 with EN 1 arms a reflex rule, or drops the write if the rule is refused (R268). -/
  | ruleArm (init : Init) (r : Nat) (w0 : Nat)
  /-- Writing word 0 with EN 0 disarms a rule and releases its claim (R268). -/
  | ruleDisarm (init : Init) (r : Nat)
  /-- A rule's condition turns true and the rule takes a claim or applies its action; unc: the rule reads as uncorrectable, R630 (R270). -/
  | reflexFire (r : Nat) (unc : Bool)
  /-- A LEVEL rule's condition turns false and its claim is released (R270). -/
  | reflexRelease (r : Nat)
  /-- Writing SCH_RFXREL releases the claim of the named rule owned by the writer (R271). -/
  | ruleReleaseWrite (init : Init) (r : Nat)
  /-- A switch enters its current limit and classification starts; p a power channel's target index, or 104 + b for the high-side of bank b (R287). -/
  | currentLimitEntry (p : Nat)
  /-- A limiting output beyond the short threshold for the classification time is classified short; low: a low side; hot: Tj above release (R287). -/
  | shortClassified (p : Nat) (low : Bool) (hot : Bool)
  /-- A switch still limiting when TOVL passes is classified as overloaded (R287). -/
  | overloadClassified (p : Nat) (low : Bool) (hot : Bool)
  /-- A channel's Tj reaches the thermal shutdown threshold and the switch turns off (R287). -/
  | thermalShutdown (p : Nat) (low : Bool)
  /-- A switch below its limit for 10 us ends classification and clears its timers (R291). -/
  | limitExit (p : Nat)
  /-- A retry pause elapses; the channel takes its underlying state or waits for cooling (R290). -/
  | retryPauseEnd (p : Nat)
  /-- A channel cools to release and leaves COOLWAIT for its underlying state (R290). -/
  | thermalRelease (p : Nat) (warm : Bool)
  /-- PSW_PROT.CLR by the owner clears ATT and LATCH (R292). -/
  | protClear (init : Init) (p : Nat)
  /-- CLEAN passes without a break outside PAUSE, COOLWAIT and LATCHED and ATT clears (R291). -/
  | cleanExpiry (p : Nat)
  /-- Writing PSW_BPAIRk.PAIR := 1 puts a bridge pair into pair mode if both members allow (R282). -/
  | pairModeOn (init : Init) (k : Nat)
  /-- Writing PAIR := 0 takes a coasting pair out of pair mode, members inheriting its protection state (R283). -/
  | pairModeOff (init : Init) (k : Nat)
  /-- Writing STOP changes a pair in its stop state between coast and brake as an immediate request (R285). -/
  | stopWrite (init : Init) (k : Nat) (brake : Bool)
  /-- A sense converter completes an on-state measurement of a channel (R297). -/
  | onStateMeasurement (x : Nat) (isense : Nat)
  /-- An off-state diagnosis of pull-up and pull-down phases completes with its result (R299). -/
  | offStateDiagnosis (x : Nat) (low : Bool) (high : Bool)
  /-- A DINT interval ends and RESULT is set, a stretch planned, or not diagnosable reported (R300). -/
  | diagnosisIntervalEnd (x : Nat)
  /-- A diagnostic stretch ends with its measurement and the delayed turn-off (R301). -/
  | diagnosticStretchEnd (x : Nat) (isense : Nat)
  /-- A hold window ends and each channel takes its underlying or default state (R306). -/
  | holdWindowEnd (n : Nat)
  /-- Partition n writes PSW_PLANn.EXT, arming a longer hold window for its next restart (R305). -/
  | plannedRestartNotice (init : Init) (n : Nat) (ext : Nat)
  /-- A planned-restart notice lapses 5 s after its write and ARMED clears (R305). -/
  | noticeLapse (n : Nat)
  /-- A PSW_WDOG write with KEY 0x5A starts a refresh pair for its initiator (R309). -/
  | watchdogKey5a (init : Init)
  /-- A PSW_WDOG write with KEY 0xA5 completes a refresh pair and restarts the watchdog (R309). -/
  | watchdogKeyA5 (init : Init)
  /-- A wrong PSW_WDOG key is dropped, counted in KEYERR and breaks the pair (R309). -/
  | watchdogWrongKey (init : Init) (key : Nat)
  /-- A PSW_WDOG write with KEY 0 sets WDTIME for use from the next completed refresh (R309). -/
  | wdtimeWrite (init : Init) (ms : Nat)
  /-- PSW_WDOG.RELEASE after a refresh ends the towline; otherwise it is dropped (R314). -/
  | towlineRelease (init : Init) (ms : Nat) (key : Nat)
  /-- The output-plane watchdog expires and the towline takes over or the expiry is only counted (R311). -/
  | outputPlaneWatchdogExpiry
  /-- A TOW pin holds a new level through its 1 ms filter and mapped channels follow (R313). -/
  | towPinChange (pin : Nat) (level : Bool)
  /-- At a grid slot the bank admits the head of its queue into peak rise or counts BUDWAIT (R330). -/
  | valveAdmission (b : Nat)
  /-- A valve's current reaches IPEAK; time to peak is judged and peak regulation begins (R338). -/
  | peakReached (i : Nat) (isense : Nat)
  /-- TPKMAX passes before IPEAK is reached and the output passes into hold with peak late (R325). -/
  | tpkmaxExpiry (i : Nat) (isense : Nat)
  /-- Peak regulation ends after TPEAK and the output enters hold (R325). -/
  | tpeakExpiry (i : Nat)
  /-- A timed hold ends after THOLD and the output turns off (R325). -/
  | tholdExpiry (i : Nat)
  /-- A valve's decay current falls below 20 mA and the decay phase ends (R326). -/
  | decayEnd (i : Nat)
  /-- A valve request waiting longer than MAXDLY is dropped, counted and reported (R331). -/
  | maxdlyExpiry (i : Nat)
  /-- The bank current exceeds the low-side sum by 200 mA for 1 ms and short to ground is reported (R339). -/
  | currentMismatch (b : Nat) (ibank : Nat) (pins : Nat)
  /-- An off-state test of a valve output completes with its result (R341). -/
  | valveOffStateDiagnosis (i : Nat) (pinLow : Bool) (pinHigh : Bool) (comLow : Bool)
  /-- A dip in peak-rise current is found and the movement stamp written (R344). -/
  | currentDip (i : Nat) (t : Nat)
  /-- A kink in the coil voltage after decay is found and the movement stamp written (R344). -/
  | closingKink (i : Nat) (t : Nat)
  /-- KWIN passes without a kink and no movement is reported (R344). -/
  | kinkWindowEnd (i : Nat)
  /-- An undercoat period begins with its pulse, taking any range or N change (R360). -/
  | undercoatPeriodStart (m : Nat)
  /-- An undercoat pulse ends after N steps and the shunt closes (R360). -/
  | undercoatPulseEnd (m : Nat)
  /-- A string with IDLE 0 reaches regulation and its shunt opens (R355). -/
  | stringStartTimeEnd (m : Nat)
  /-- VLED falls below the stop threshold; every regulator stops and LS and AM channels are held off (R357). -/
  | vledStop (vled : Nat)
  /-- VLED rises above the resume threshold and the supply hold ends (R357). -/
  | vledResume (vled : Nat)
  /-- A lit segment's LED below the short threshold for 20 us is reported LED short (R364). -/
  | segmentShort (g : Nat) (vseg : Nat)
  /-- An open LED of a lit segment is bypassed by closing its switch (R365). -/
  | segmentBypass (g : Nat) (vseg : Nat)
  /-- Every 10 ms each AM channel takes its gain from its curve at its triplet temperature (R367). -/
  | gainUpdate (t : Nat) (temp : Nat)
  /-- An exposure window opens and locked channels restart or hold their periods (R371). -/
  | windowOpening (k : Nat)
  /-- An exposure window closes; hold-mode channels resume with N' and held stencil actions apply (R372). -/
  | windowClosing (k : Nat)
  /-- Writing STNsCTL.GO starts, arms or faults a stencil, or is dropped while it runs (R378). -/
  | stencilGo (init : Init) (i : Nat)
  /-- Writing STNsCTL.STOP stops an armed or running stencil (R378). -/
  | stencilStop (init : Init) (i : Nat)
  /-- An armed stencil's start instant is reached and step 0 runs (R378). -/
  | stencilStart (i : Nat)
  /-- A stencil step's instant arrives and its operation is carried out; unc: the step reads as uncorrectable, R630 (R377). -/
  | stencilStep (i : Nat) (unc : Bool)
  /-- During a RAMP step the levels are updated every 100 us (R376). -/
  | rampUpdate (i : Nat)
  /-- VOUT below VSHORT for 20 us latches the string off as a short (R379). -/
  | stringShort (n : Nat) (vout : Nat)
  /-- An open string for 20 us is latched off as open (R379). -/
  | stringOpen (n : Nat) (vout : Nat) (idrv : Nat)
  /-- The LED die reaches thermal shutdown and every LS and AM channel is held off (R379). -/
  | ledDieShutdown (tj : Nat)
  /-- The LED die cools by the hysteresis and the thermal hold ends (R379). -/
  | ledDieRelease (tj : Nat) (warm : Bool)
  /-- An AM pin above its over-voltage threshold while sinking latches the channel off (R380). -/
  | amPinOvervoltage (i : Nat)
  /-- LGT_PROT.CLR clears the latch and every segment bypass of the string (R381). -/
  | ledProtClear (init : Init) (m : Nat)
  /-- Writing LGT_CTL.NTREQ starts a neighbour test of the named strings (R385). -/
  | neighbourTestRequest (init : Init) (mask : Nat)
  /-- Writing LGT_CTL.NTFULL starts a neighbour test of every string (R385). -/
  | neighbourTestFull (init : Init)
  /-- One neighbour pair is tested for 20 us and passes or fails (R383). -/
  | neighbourPairTest (a : Nat) (b : Nat) (short : Bool)
  /-- The neighbour test ends, NTRES is set and strings take their underlying states (R386). -/
  | neighbourTestEnd
  /-- A field input pin crosses its threshold and RAW changes (R395). -/
  | inputThresholdCrossing (i : Nat) (high : Bool)
  /-- RAW has held for FILT and STATE takes its value, raising events and cleaning pulses (R399). -/
  | filterElapsed (i : Nat)
  /-- A write of FILT applies at once, changing STATE at the next slot if already elapsed (R400). -/
  | filtWrite (init : Init) (i : Nat) (v : Nat)
  /-- A cleaning pulse ends after CLNLEN and a waiting pulse may start (R401). -/
  | cleaningPulseEnd (i : Nat)
  /-- A cleaning pulse waiting 20 ms is dropped and counted (R401). -/
  | cleaningWaitDrop (i : Nat)
  /-- An analogue input is converted and RAW judged against HI and LO; uv the pin voltage in microvolts (R402). -/
  | analogueConversion (i : Nat) (uv : Nat)
  /-- A fast input's comparator switches and the edge is stamped (R404). -/
  | fastInputEdge (i : Nat) (high : Bool)
  /-- A write of FIN_ATHR sets thresholds and raises a threshold fault if LO exceeds HI (R406). -/
  | athrWrite (init : Init) (i : Nat) (hi : Nat) (lo : Nat)
  /-- A parked polling burst wets, settles and samples a group's inputs against their references; found: inputs whose contact is found active (R409). -/
  | pollingBurst (g : Nat) (found : List Nat)
  /-- A confirming burst 1 ms later raises an input wake if the input is still different (R410). -/
  | confirmingBurst (found : List Nat)
  /-- Writing CAN_CTL.EN := 1 enables the channel if its timing is valid, or sets BADTIM (R417). -/
  | canEnable (init : Init) (c : Nat)
  /-- A CAN frame becomes valid and enters one priority buffer, message buffer or FIFO, or is dropped; a standard id in bits 28:18; sof its start of frame in T0; unc: the buffer that accepts it reads as uncorrectable, R630 (R419). -/
  | frameAcceptance (c : Nat) (id : Nat) (dlc : Nat) (ide : Bool) (fdf : Bool) (brs : Bool) (esi : Bool) (rtr : Bool) (sof : Nat) (data : List Byte) (unc : Bool)
  /-- The owner's read of word 23 of CAN_FIFO releases the snapshot and removes the oldest entry; unc: the entry reads as uncorrectable, R630 (R424). -/
  | fifoEntryRemove (init : Init) (c : Nat) (unc : Bool)
  /-- Writing word 23 of a transmit buffer applies its content and makes a request pending or refuses it; ws: the 24 words written, TXREQ taken as 1 (R425). -/
  | transmitRequest (init : Init) (c : Nat) (k : Nat) (ws : List Word)
  /-- Writing TXABT removes a request not on the bus or stops further attempts (R426). -/
  | transmitAbort (init : Init) (c : Nat) (k : Nat)
  /-- At an intermission the first pending request in arbitration order is started; unc: its transmit buffer reads as uncorrectable, R630 (R426). -/
  | arbitration (c : Nat) (unc : Bool)
  /-- A transmitted frame succeeds with RES 0, stamp and frame sent event; delay: measured loop delay in data quanta (R426). -/
  | transmitSuccess (c : Nat) (delay : Nat)
  /-- A frame loses arbitration and is requested again or ends with RES 2 (R426). -/
  | arbitrationLost (c : Nat)
  /-- A CAN error is detected, counted, recorded and applied to TEC and REC; cls as LEC; kind 0 ordinary, 1 adding 8 at a receiver, 2 one that ISO 11898-1 leaves uncounted (R429). -/
  | busError (c : Nat) (cls : Nat) (kind : Nat) (dataPhase : Bool)
  /-- Writing CTL.BORREQ starts bus-off recovery (R430). -/
  | busOffRecoveryRequest (init : Init) (c : Nat)
  /-- After 128 occurrences of 11 recessive bits the channel becomes error active (R430). -/
  | busOffRecoveryEnd (c : Nat)
  /-- A change of CTL.ROM takes effect at the next bus idle or end of recovery (R431). -/
  | romChange (c : Nat)
  /-- With FDEN 0 an FD frame causes a protocol exception and the channel waits for bus idle (R432). -/
  | protocolException (c : Nat)
  /-- A change of DIR in CAN_MBIDk removes a pending request with RES 1 (R427). -/
  | dirChange (init : Init) (c : Nat) (k : Nat) (dir : Nat)
  /-- Writing RUN := 1 starts LIN schedule table SEL at entry 0 (R437). -/
  | linScheduleRun (init : Init) (l : Nat)
  /-- A LIN schedule slot starts and its header is sent per entry type (R437). -/
  | linSlotStart (l : Nat)
  /-- A LIN frame ends with its result stored, counted and notified; err as ERR: 0, 2, 3, 4 or 5; unc: a response received reads as uncorrectable, R630 (R440). -/
  | linFrameEnd (l : Nat) (err : Nat) (data : List Byte) (unc : Bool)
  /-- A subscribe frame receives no byte within its timeout and ends with ERR 1 (R440). -/
  | linNoResponse (l : Nat)
  /-- Writing SWREQ switches to table SEL at the next slot start (R439). -/
  | linTableSwitch (init : Init) (l : Nat)
  /-- Writing TRC MODE Normal moves a channel toward Normal (R448). -/
  | modeNormal (init : Init) (j : Nat)
  /-- Writing TRC MODE Listen-only moves a channel toward Listen-only (R448). -/
  | modeListenOnly (init : Init) (j : Nat)
  /-- Writing TRC MODE Standby starts or completes the change to Standby (R448). -/
  | modeStandby (init : Init) (j : Nat)
  /-- Writing TRC MODE Sleep starts or completes the change to Sleep (R448). -/
  | modeSleep (init : Init) (j : Nat)
  /-- Bus idle completes a waiting change to Standby, Sleep, Normal or Listen-only (R448). -/
  | busIdle (j : Nat)
  /-- The CAN wake receiver detects the ISO 11898-2 wake-up pattern (R452). -/
  | wakeUpPattern (j : Nat)
  /-- A LIN wake receiver detects a long dominant level followed by a recessive edge (R453). -/
  | linDominantWake (j : Nat)
  /-- The selective-wake decoder receives a frame and matches masking sets or counts errors (R454). -/
  | selectiveWakeFrame (j : Nat) (id : Nat) (dlc : Nat) (ide : Bool) (fdf : Bool) (rtr : Bool) (err : Bool) (data : List Byte)
  /-- WAKE_IN high through its filter wakes the device and sets WILATCH; the level WAKE_IN has held through its filter (R457). -/
  | lineWake (high : Bool)
  /-- An automatic WAKE_OUT pulse ends after WOLEN (R458). -/
  | wakeOutPulseEnd
  /-- 10 ms after WAKE_OUT falls, WAKE_IN filtering resumes (R459). -/
  | loopIgnoreEnd
  /-- FWWIN passes without valid communication and the wake is counted as false (R460). -/
  | falseWakeWindowEnd (j : Nat)
  /-- A wake back-off ends and the channel enters recovery (R461). -/
  | backOffEnd (j : Nat)
  /-- RECWIN after a back-off the recovery phase ends (R462). -/
  | recoveryPhaseEnd (j : Nat)
  /-- GUARD seconds after configuration applied the start-up phase ends (R462). -/
  | startUpPhaseEnd
  /-- An unconfirmed wake condition on a guarded channel is dropped after PFILT and counted (R463). -/
  | confirmationTimeout (j : Nat)
  /-- After a return to RUN following a wake, the channel sends its own wake frame or counts WFSKIP (R466). -/
  | ownWakeFrame (j : Nat)
  /-- A message delivered to the gateway is offered to matching couplings and routed; unc: couplings whose entry reads as uncorrectable, R630 (R476). -/
  | gatewayMessage (unc : List Nat)
  /-- A check-value unit finishes appending or checking a message's header (R498). -/
  | checkValueDone (u : Nat)
  /-- A CAN gateway queue entry older than QAGE is dropped and counted (R478). -/
  | gatewayQueueAge (c : Nat)
  /-- A tunnel's gathering time ends and its AVTPDU is sent through the fabric port (R480). -/
  | tunnelGatherEnd (t : Nat) (p : Nat)
  /-- A matching NTSCF or TSCF AVTPDU is taken and its ACF messages offered for routing (R481). -/
  | avtpduReceive
  /-- Writing EN := 1 enables a coupling or refuses it (R474). -/
  | couplingEnable (init : Init) (i : Nat)
  /-- Writing EN := 0 stops new matches of a coupling (R475). -/
  | couplingDisable (init : Init) (i : Nat)
  /-- GWY_RQp word 15 with OP 1 issues a remote read, or serves it from prefetch, or refuses it (R487). -/
  | remoteReadRequest (init : Init) (p : Nat) (g : Nat) (tag : Nat) (addr : Nat) (count : Nat)
  /-- GWY_RQp word 15 with OP 2 issues a posted remote write or refuses it (R487). -/
  | postedWriteRequest (init : Init) (p : Nat) (g : Nat) (tag : Nat) (addr : Nat) (count : Nat) (data : List Word)
  /-- A remote access reply arrives and ends a read or write, triggers a retry, or counts as stray (R488). -/
  | remoteReply
  /-- A remote access attempt times out after TMO, retrying or ending the request (R488). -/
  | attemptTimeout (g : Nat) (tag : Nat)
  /-- A quarantined tag becomes free after 2 x TMO (R488). -/
  | quarantineEnd (g : Nat) (tag : Nat)
  /-- A prefetch line older than PFAGE is discarded and logged if words were unreturned (R494). -/
  | prefetchLineAge (g : Nat)
  /-- Writing GWY_SIG changes a partition signal and sends its side-band message (R496). -/
  | partitionSignalWrite (init : Init) (sig : Nat) (level : Bool)
  /-- A posted write into an off domain is dropped, counted and raises posted write failed (R492). -/
  | domainOffPostedWrite (init : Init) (addr : Nat) (v : Nat)
  /-- ACC_FNfREQ OP 1 for entry or start starts an authentication exchange; f: 0 entry, 1 start (R508). -/
  | accessAuthenticate (init : Init) (f : Nat) (zreq : Nat)
  /-- Entry OP 2 (lock) starts the polling clock from zero (R516). -/
  | pollingClockLock (init : Init)
  /-- Entry OP 3 (unlock) stops the polling clock (R516). -/
  | pollingClockUnlock (init : Init)
  /-- Enrolment OP 1 starts an enrol challenge granted by a present token (R519). -/
  | enrolPresentToken (init : Init) (id : Nat)
  /-- Enrolment OP 2 starts an enrol challenge granted by the secret code (R519). -/
  | enrolSecretCode (init : Init) (id : Nat)
  /-- Enrolment OP 3 clears a slot in the key store and writes an empty record (R520). -/
  | revoke (init : Init) (slot : Nat)
  /-- A reply slot of an exchange ends and its reply is judged; lat in units of 0.1 µs; unc: the slot's key reads as uncorrectable, R630 (R509). -/
  | replySlotEnd (sync : Bool) (crcOk : Bool) (id : Nat) (resp : Nat) (vec : List Nat) (lat : Int) (unc : Bool)
  /-- At the end of an exchange its result is decided, counted and reported (R512). -/
  | exchangeResult
  /-- An exchange with a garbled slot is repeated 20 ms after its end (R513). -/
  | exchangeRepeat
  /-- The Siari engine finishes writing an enrolment slot record, or fails (R520). -/
  | slotRecordWritten (good : Bool)
  /-- A button telegram with a correct CRC is judged and accepted, held, ignored or dropped (R515). -/
  | buttonTelegram (id : Nat) (cmd : Nat) (cnt : Nat) (mac : Nat)
  /-- A held button telegram is discarded after 10 s (R515). -/
  | buttonHoldExpiry (k : Nat)
  /-- A parked poll burst sends a poll and listens through the poll slots (R517). -/
  | accessPollBurst (replies : List Nat)
  /-- The receiver sniffs 0.25 ms for a preamble and stays on to judge a telegram (R517). -/
  | sniff (heard : Bool) (id : Nat) (cmd : Nat) (cnt : Nat) (mac : Nat)
  /-- The polling clock reaches a step's END and the next poll period applies (R516). -/
  | pollStepChange
  /-- REMAIN reaches 0; the lock-out flag and failure instants clear (R522). -/
  | lockOutEnd
  /-- A secret-code grant lapses 5 min after its verification (R519). -/
  | secretGrantExpiry
  /-- PMU_CTL.REQ REST clock-gates every core (R528). -/
  | reqRest (init : Init)
  /-- PMU_CTL.REQ PARK starts PARK entry (R530). -/
  | reqPark (init : Init)
  /-- PMU_CTL.REQ DEEP PARK starts entry into DEEP PARK (R530). -/
  | reqDeepPark (init : Init)
  /-- PMU_CTL.REQ RUN before the commit point aborts PARK entry (R532). -/
  | reqRun (init : Init)
  /-- An event placed in a queue during REST returns the device to RUN (R528). -/
  | restExit
  /-- REMAIN falling to a quarter of WDTIME returns the device from REST to RUN (R528). -/
  | restWatchdogReturn
  /-- Partition n writes PMU_PARKACKn.ACK; the last one moves entry to the flush phase (R530). -/
  | parkAck (init : Init) (n : Nat)
  /-- PREPTIME passes with partitions unacknowledged; they are counted and entry continues (R530). -/
  | preptimeExpiry
  /-- The event log flush and flash operations end and the dust-sheet save runs (R530). -/
  | parkFlushEnd
  /-- The rail-off request leaves, tables stop, unheld outputs go off and functions pass to the AON core (R531). -/
  | commitPoint
  /-- The companion regulator's acknowledgement of a rail request arrives and is judged; b: the byte (R537). -/
  | railAcknowledgement (b : Nat)
  /-- No start bit within 2 ms fails a rail link attempt (R538). -/
  | railAckTimeout
  /-- 100 us after a failed attempt the rail request frame is sent again (R538). -/
  | railFrameRetry
  /-- After a rail fault the bring-up is retried after 100 ms or 1 s (R539). -/
  | railFaultRetry
  /-- DPTIME minutes in PARK move the device to DEEP PARK (R528). -/
  | dptimeExpiry
  /-- VBAT below DPVBAT for 60 s in PARK moves the device to DEEP PARK (R528). -/
  | dpvbatExpiry
  /-- A wake latched while parked starts the bring-up of a W reset with replay (R534). -/
  | parkedWake
  /-- The AON timer raises a wake TIME seconds after the commit point (R541). -/
  | aonTimerWake
  /-- An AON comparator trips, sets TRIP, drives the KIND 3 term and raises an event or wake (R541). -/
  | comparatorTrip (n : Nat)
  /-- PMU_RESET KEY 0xD5 starts the software device reset pair (R554). -/
  | resetKeyD5 (init : Init)
  /-- PMU_RESET KEY 0x2A after 0xD5 performs a software device reset (R554). -/
  | resetKey2a (init : Init)
  /-- A rising edge on DP0 or DP1 of at least 8 us is counted (R565). -/
  | distancePulse (i : Nat)
  /-- Each 1 s window the island compares c0 and c1 and records a pulse fault with an ALERT (R566). -/
  | pulseWindowCompare
  /-- Every 100 ms with a change the counters are written to the seal memory (R568). -/
  | counterSealWrite
  /-- VMTR below 4.0 V makes the island flush counters and legal time and stop (R564). -/
  | vmtrFlush
  /-- VMTR returns; counters are restored, a power interruption recorded and the clock invalid (R564). -/
  | vmtrReturn
  /-- MTR_RESET_N low restarts the island core while counters and clock run on (R563). -/
  | islandCoreRestart
  /-- Crystals disagreeing by over 200 ppm for 10 s produce a clock fault record and ALERT (R562). -/
  | crystalComparison
  /-- Each second of valid legal time the island sends a LEGALTIME message (R574). -/
  | legaltime
  /-- Each DIST_CFG period the island sends a DISTCOPY message (R584). -/
  | distcopy
  /-- An applied correction's slew at 10 ms/s completes (R571). -/
  | slewEnd
  /-- MTR_SEAL is asserted and the pin timer starts (R575). -/
  | sealPinAssert
  /-- MTR_SEAL is released and the pin timer stops (R575). -/
  | sealPinRelease
  /-- The seal pin asserted 120 s without OPEN moves the island to BROKEN (R575). -/
  | pinTimerExpiry
  /-- 30 min in OPEN without an OPEN-only request reseals or breaks the seal (R575). -/
  | openIdleExpiry
  /-- An OPEN challenge expires 60 s after it was issued (R575). -/
  | challengeExpiry
  /-- The 1 h refusal of OPEN_REQ after three invalid OPEN_AUTH ends (R575). -/
  | openLockoutEnd
  /-- Both copies of the sealed parameter block fail their CRC; it is rebuilt and the seal broken (R577). -/
  | parameterBlockFailure
  /-- New island firmware not passing self-test within 10 s makes the island return to the old store (R580). -/
  | firmwareSelftestTimeout
  /-- The island answers STATUS_REQ with a STATUS message (R584). -/
  | statusReq
  /-- The island judges and applies a legal time correction within the allowance (R570). -/
  | timeCorr
  /-- The island sets or stops the DISTCOPY period (R584). -/
  | distCfg
  /-- The island returns a signed record or live snapshot with the nonce (R579). -/
  | recordReq
  /-- The island issues a 32-byte CHALLENGE for the workshop procedure (R576). -/
  | openReq
  /-- The island verifies the workshop key and signature and opens the seal or refuses (R576). -/
  | openAuth
  /-- In OPEN with the pin released the island seals (R575). -/
  | sealReq
  /-- In OPEN the island sets KFACTOR and optionally resets the counts (R567). -/
  | setKfactor
  /-- In OPEN the island steps the legal clock and clears the allowance history (R573). -/
  | setTime
  /-- In OPEN the island tests seal memory, pulse inputs and crystals (R581). -/
  | islandSelftest (outcome : Nat)
  /-- In OPEN the island writes a 1,024-byte block into its inactive code store (R580). -/
  | fwBlock
  /-- The island verifies the image signature and switches stores or refuses (R580). -/
  | fwCommit
  /-- The island returns its serial and public key (R579). -/
  | pubkeyReq
  /-- Firmware advances MTR_TXHEAD past a request, or the write is dropped and counted (R582). -/
  | mtrTxheadWrite (init : Init) (v : Nat)
  /-- Firmware advances MTR_RXTAIL past read messages, or the write is dropped and counted (R582). -/
  | mtrRxtailWrite (init : Init) (v : Nat)
  /-- LINK falls; the TX indices return to 0, requests are lost and island lost is raised (R583). -/
  | islandLinkFall
  /-- LINK rises; the island sends STATUS and LEGALTIME and island back is raised (R583). -/
  | islandLinkRise
  /-- RD := RS1 + RS2 (R595). -/
  | aluAdd (c : Nat) (rd : Nat) (rs1 : Nat) (rs2 : Nat)
  /-- RD := RS1 - RS2 (R595). -/
  | aluSub (c : Nat) (rd : Nat) (rs1 : Nat) (rs2 : Nat)
  /-- RD := RS1 and RS2 (R595). -/
  | aluAnd (c : Nat) (rd : Nat) (rs1 : Nat) (rs2 : Nat)
  /-- RD := RS1 or RS2 (R595). -/
  | aluOr (c : Nat) (rd : Nat) (rs1 : Nat) (rs2 : Nat)
  /-- RD := RS1 xor RS2 (R595). -/
  | aluXor (c : Nat) (rd : Nat) (rs1 : Nat) (rs2 : Nat)
  /-- RD := RS1 shifted left by RS2[4:0] (R593). -/
  | aluSll (c : Nat) (rd : Nat) (rs1 : Nat) (rs2 : Nat)
  /-- RD := RS1 shifted right logically (R593). -/
  | aluSrl (c : Nat) (rd : Nat) (rs1 : Nat) (rs2 : Nat)
  /-- RD := RS1 shifted right arithmetically (R593). -/
  | aluSra (c : Nat) (rd : Nat) (rs1 : Nat) (rs2 : Nat)
  /-- RD := bits 31:0 of the product (R595). -/
  | aluMul (c : Nat) (rd : Nat) (rs1 : Nat) (rs2 : Nat)
  /-- RD := bits 63:32 of the unsigned product (R595). -/
  | mulhu (c : Nat) (rd : Nat) (rs1 : Nat) (rs2 : Nat)
  /-- RD := bits 63:32 of the signed product (R595). -/
  | mulhs (c : Nat) (rd : Nat) (rs1 : Nat) (rs2 : Nat)
  /-- RD := unsigned quotient, or trap on a C1 core (R596). -/
  | divu (c : Nat) (rd : Nat) (rs1 : Nat) (rs2 : Nat)
  /-- RD := signed quotient toward zero, or trap on a C1 core (R596). -/
  | divs (c : Nat) (rd : Nat) (rs1 : Nat) (rs2 : Nat)
  /-- RD := unsigned remainder, or trap on a C1 core (R596). -/
  | remu (c : Nat) (rd : Nat) (rs1 : Nat) (rs2 : Nat)
  /-- RD := remainder with the sign of RS1, or trap on a C1 core (R596). -/
  | rems (c : Nat) (rd : Nat) (rs1 : Nat) (rs2 : Nat)
  /-- RD := (RS1 = RS2) (R593). -/
  | aluCeq (c : Nat) (rd : Nat) (rs1 : Nat) (rs2 : Nat)
  /-- RD := (RS1 != RS2) (R593). -/
  | cne (c : Nat) (rd : Nat) (rs1 : Nat) (rs2 : Nat)
  /-- RD := (RS1 < RS2) signed (R593). -/
  | aluClt (c : Nat) (rd : Nat) (rs1 : Nat) (rs2 : Nat)
  /-- RD := (RS1 < RS2) unsigned (R593). -/
  | aluCltu (c : Nat) (rd : Nat) (rs1 : Nat) (rs2 : Nat)
  /-- RD := (RS1 >= RS2) signed (R593). -/
  | cge (c : Nat) (rd : Nat) (rs1 : Nat) (rs2 : Nat)
  /-- RD := (RS1 >= RS2) unsigned (R593). -/
  | cgeu (c : Nat) (rd : Nat) (rs1 : Nat) (rs2 : Nat)
  /-- RD := the signed lesser of RS1 and RS2 (R595). -/
  | minS (c : Nat) (rd : Nat) (rs1 : Nat) (rs2 : Nat)
  /-- RD := the signed greater of RS1 and RS2 (R595). -/
  | maxS (c : Nat) (rd : Nat) (rs1 : Nat) (rs2 : Nat)
  /-- RD := the unsigned lesser of RS1 and RS2 (R595). -/
  | minu (c : Nat) (rd : Nat) (rs1 : Nat) (rs2 : Nat)
  /-- RD := the unsigned greater of RS1 and RS2 (R595). -/
  | maxu (c : Nat) (rd : Nat) (rs1 : Nat) (rs2 : Nat)
  /-- RD := RS1 + RS2 in binary32, or trap on a C1 core (R597). -/
  | fadd (c : Nat) (rd : Nat) (rs1 : Nat) (rs2 : Nat)
  /-- RD := RS1 - RS2 in binary32 (R597). -/
  | fsub (c : Nat) (rd : Nat) (rs1 : Nat) (rs2 : Nat)
  /-- RD := RS1 x RS2 in binary32 (R597). -/
  | fmul (c : Nat) (rd : Nat) (rs1 : Nat) (rs2 : Nat)
  /-- RD := RS1 / RS2 in binary32 (R597). -/
  | fdiv (c : Nat) (rd : Nat) (rs1 : Nat) (rs2 : Nat)
  /-- RD := square root of RS1 in binary32 (R597). -/
  | fsqrt (c : Nat) (rd : Nat) (rs1 : Nat) (rs2 : Nat)
  /-- RD := the lesser binary32 operand (R597). -/
  | fmin (c : Nat) (rd : Nat) (rs1 : Nat) (rs2 : Nat)
  /-- RD := the greater binary32 operand (R597). -/
  | fmax (c : Nat) (rd : Nat) (rs1 : Nat) (rs2 : Nat)
  /-- RD := (RS1 = RS2) in binary32 (R597). -/
  | fceq (c : Nat) (rd : Nat) (rs1 : Nat) (rs2 : Nat)
  /-- RD := (RS1 < RS2) in binary32 (R597). -/
  | fclt (c : Nat) (rd : Nat) (rs1 : Nat) (rs2 : Nat)
  /-- RD := (RS1 <= RS2) in binary32 (R597). -/
  | fcle (c : Nat) (rd : Nat) (rs1 : Nat) (rs2 : Nat)
  /-- RD := RS1 converted to a saturated signed integer (R597). -/
  | ftoi (c : Nat) (rd : Nat) (rs1 : Nat) (rs2 : Nat)
  /-- RD := RS1 converted to a saturated unsigned integer (R597). -/
  | ftou (c : Nat) (rd : Nat) (rs1 : Nat) (rs2 : Nat)
  /-- RD := signed integer RS1 as binary32 (R597). -/
  | itof (c : Nat) (rd : Nat) (rs1 : Nat) (rs2 : Nat)
  /-- RD := unsigned integer RS1 as binary32 (R597). -/
  | utof (c : Nat) (rd : Nat) (rs1 : Nat) (rs2 : Nat)
  /-- RD := RS1 + sext(IMM) (R595). -/
  | addi (c : Nat) (rd : Nat) (rs1 : Nat) (imm : Nat)
  /-- RD := RS1 and zext(IMM) (R595). -/
  | andi (c : Nat) (rd : Nat) (rs1 : Nat) (imm : Nat)
  /-- RD := RS1 or zext(IMM) (R595). -/
  | ori (c : Nat) (rd : Nat) (rs1 : Nat) (imm : Nat)
  /-- RD := RS1 xor zext(IMM) (R595). -/
  | xori (c : Nat) (rd : Nat) (rs1 : Nat) (imm : Nat)
  /-- RD := RS1 shifted left by IMM[4:0] (R595). -/
  | slli (c : Nat) (rd : Nat) (rs1 : Nat) (imm : Nat)
  /-- RD := RS1 shifted right logically by IMM[4:0] (R595). -/
  | srli (c : Nat) (rd : Nat) (rs1 : Nat) (imm : Nat)
  /-- RD := RS1 shifted right arithmetically by IMM[4:0] (R595). -/
  | srai (c : Nat) (rd : Nat) (rs1 : Nat) (imm : Nat)
  /-- RD := (RS1 = sext(IMM)) (R595). -/
  | ceqi (c : Nat) (rd : Nat) (rs1 : Nat) (imm : Nat)
  /-- RD := (RS1 < sext(IMM)) signed (R595). -/
  | clti (c : Nat) (rd : Nat) (rs1 : Nat) (imm : Nat)
  /-- RD := (RS1 < sext(IMM)) unsigned (R595). -/
  | cltui (c : Nat) (rd : Nat) (rs1 : Nat) (imm : Nat)
  /-- RD := IMM19 << 13 (R594). -/
  | lui (c : Nat) (rd : Nat) (imm : Nat)
  /-- RD := the aligned memory word at ea; ecc: bit errors of the stored word (R600). -/
  | ldw (c : Nat) (rd : Nat) (rs1 : Nat) (imm : Nat) (ecc : Nat)
  /-- RD := sext of the aligned halfword at ea (R600). -/
  | ldh (c : Nat) (rd : Nat) (rs1 : Nat) (imm : Nat) (ecc : Nat)
  /-- RD := zext of the aligned halfword at ea (R600). -/
  | ldhu (c : Nat) (rd : Nat) (rs1 : Nat) (imm : Nat) (ecc : Nat)
  /-- RD := sext of the byte at ea (R600). -/
  | ldb (c : Nat) (rd : Nat) (rs1 : Nat) (imm : Nat) (ecc : Nat)
  /-- RD := zext of the byte at ea (R600). -/
  | ldbu (c : Nat) (rd : Nat) (rs1 : Nat) (imm : Nat) (ecc : Nat)
  /-- Stores RD as a word at ea (R600). -/
  | stw (c : Nat) (rd : Nat) (rs1 : Nat) (imm : Nat) (ecc : Nat)
  /-- Stores the low halfword of RD at ea (R600). -/
  | sth (c : Nat) (rd : Nat) (rs1 : Nat) (imm : Nat) (ecc : Nat)
  /-- Stores the low byte of RD at ea (R600). -/
  | stb (c : Nat) (rd : Nat) (rs1 : Nat) (imm : Nat) (ecc : Nat)
  /-- Atomically swaps RS2 with the word at RS1, returning the old word (R605). -/
  | amoswap (c : Nat) (rd : Nat) (rs1 : Nat) (rs2 : Nat) (func : Nat) (ecc : Nat)
  /-- Atomically adds RS2 to the word at RS1, returning the old word (R605). -/
  | amoadd (c : Nat) (rd : Nat) (rs1 : Nat) (rs2 : Nat) (func : Nat) (ecc : Nat)
  /-- Branches by OFF19 if RS1 is zero (R593). -/
  | bez (c : Nat) (rs1 : Nat) (off : Nat)
  /-- Branches by OFF19 if RS1 is non-zero (R593). -/
  | bnz (c : Nat) (rs1 : Nat) (off : Nat)
  /-- Writes the return address to g31 and jumps by OFF24 (R592). -/
  | jal (c : Nat) (off : Nat)
  /-- Jumps by OFF24 (R594). -/
  | jump (c : Nat) (off : Nat)
  /-- Writes g31 and jumps to RS1 + sext(IMM), trapping on a misaligned target (R611). -/
  | jalr (c : Nat) (rd : Nat) (rs1 : Nat) (imm : Nat)
  /-- Jumps to RS1 + sext(IMM), trapping on a misaligned target (R611). -/
  | jr (c : Nat) (rd : Nat) (rs1 : Nat) (imm : Nat)
  /-- Reads a control register into RD, within the mode's permissions (R608). -/
  | mfc (c : Nat) (rd : Nat) (rs1 : Nat) (imm : Nat)
  /-- Writes RS1 to a control register, within the mode's permissions (R608). -/
  | mtc (c : Nat) (rd : Nat) (rs1 : Nat) (imm : Nat)
  /-- Takes a trap with cause 9 (R613). -/
  | trapInsn (c : Nat) (rd : Nat) (rs1 : Nat) (imm : Nat)
  /-- Returns from a trap: CPU_STATUS := CPU_ESTAT and pc := CPU_EPC (R613). -/
  | rtt (c : Nat) (rd : Nat) (rs1 : Nat) (imm : Nat)
  /-- Stops the core until its event queue is not empty (R624). -/
  | waitInsn (c : Nat) (rd : Nat) (rs1 : Nat) (imm : Nat)
  /-- Waits until every earlier access has reached its target or been dropped (R604). -/
  | fence (c : Nat) (rd : Nat) (rs1 : Nat) (imm : Nat)
  /-- Takes a trap with cause 11 (R611). -/
  | brk (c : Nat) (rd : Nat) (rs1 : Nat) (imm : Nat)
  /-- Short operation doing nothing; in slot A, or in slot B where inB; other: the other slot (R598). -/
  | shortNop (c : Nat) (inB : Bool) (ra : Nat) (rb : Nat) (other : Nat) (ecc : Nat)
  /-- RA := RB (R598). -/
  | shortMov (c : Nat) (inB : Bool) (ra : Nat) (rb : Nat) (other : Nat) (ecc : Nat)
  /-- RA := RA + RB (R598). -/
  | shortAdd (c : Nat) (inB : Bool) (ra : Nat) (rb : Nat) (other : Nat) (ecc : Nat)
  /-- RA := RA - RB (R598). -/
  | shortSub (c : Nat) (inB : Bool) (ra : Nat) (rb : Nat) (other : Nat) (ecc : Nat)
  /-- RA := RA and RB (R598). -/
  | shortAnd (c : Nat) (inB : Bool) (ra : Nat) (rb : Nat) (other : Nat) (ecc : Nat)
  /-- RA := RA or RB (R598). -/
  | shortOr (c : Nat) (inB : Bool) (ra : Nat) (rb : Nat) (other : Nat) (ecc : Nat)
  /-- RA := RA xor RB (R598). -/
  | shortXor (c : Nat) (inB : Bool) (ra : Nat) (rb : Nat) (other : Nat) (ecc : Nat)
  /-- RA := RA shifted left by RB[4:0] (R598). -/
  | shortSll (c : Nat) (inB : Bool) (ra : Nat) (rb : Nat) (other : Nat) (ecc : Nat)
  /-- RA := RA shifted right logically by RB[4:0] (R598). -/
  | shortSrl (c : Nat) (inB : Bool) (ra : Nat) (rb : Nat) (other : Nat) (ecc : Nat)
  /-- RA := RA shifted right arithmetically by RB[4:0] (R598). -/
  | shortSra (c : Nat) (inB : Bool) (ra : Nat) (rb : Nat) (other : Nat) (ecc : Nat)
  /-- RA := 0 - RB (R598). -/
  | shortNeg (c : Nat) (inB : Bool) (ra : Nat) (rb : Nat) (other : Nat) (ecc : Nat)
  /-- RA := not RB (R598). -/
  | shortNot (c : Nat) (inB : Bool) (ra : Nat) (rb : Nat) (other : Nat) (ecc : Nat)
  /-- RA := RA + sext(RB field) (R598). -/
  | shortAddq (c : Nat) (inB : Bool) (ra : Nat) (rb : Nat) (other : Nat) (ecc : Nat)
  /-- RA := sext(RB field) (R598). -/
  | shortLiq (c : Nat) (inB : Bool) (ra : Nat) (rb : Nat) (other : Nat) (ecc : Nat)
  /-- RA := (RA = RB) (R598). -/
  | shortCeq (c : Nat) (inB : Bool) (ra : Nat) (rb : Nat) (other : Nat) (ecc : Nat)
  /-- RA := (RA < RB) signed (R598). -/
  | shortClt (c : Nat) (inB : Bool) (ra : Nat) (rb : Nat) (other : Nat) (ecc : Nat)
  /-- RA := (RA < RB) unsigned (R598). -/
  | shortCltu (c : Nat) (inB : Bool) (ra : Nat) (rb : Nat) (other : Nat) (ecc : Nat)
  /-- RA := the memory word at RB (R599). -/
  | shortLdw (c : Nat) (inB : Bool) (ra : Nat) (rb : Nat) (other : Nat) (ecc : Nat)
  /-- Stores RA at the word RB (R599). -/
  | shortStw (c : Nat) (inB : Bool) (ra : Nat) (rb : Nat) (other : Nat) (ecc : Nat)
  /-- RA := bits 31:0 of RA x RB (R598). -/
  | shortMul (c : Nat) (inB : Bool) (ra : Nat) (rb : Nat) (other : Nat) (ecc : Nat)
  /-- RA := sext of RB bits 7:0 (R598). -/
  | shortSexb (c : Nat) (inB : Bool) (ra : Nat) (rb : Nat) (other : Nat) (ecc : Nat)
  /-- RA := sext of RB bits 15:0 (R598). -/
  | shortSexh (c : Nat) (inB : Bool) (ra : Nat) (rb : Nat) (other : Nat) (ecc : Nat)
  /-- RA := zext of RB bits 7:0 (R598). -/
  | shortZexb (c : Nat) (inB : Bool) (ra : Nat) (rb : Nat) (other : Nat) (ecc : Nat)
  /-- RA := zext of RB bits 15:0 (R598). -/
  | shortZexh (c : Nat) (inB : Bool) (ra : Nat) (rb : Nat) (other : Nat) (ecc : Nat)
  /-- RA := (RB = 0) (R598). -/
  | shortCeqz (c : Nat) (inB : Bool) (ra : Nat) (rb : Nat) (other : Nat) (ecc : Nat)
  /-- RA := the word at g30 + 4 x RB field (R599). -/
  | shortLdwsp (c : Nat) (inB : Bool) (ra : Nat) (rb : Nat) (other : Nat) (ecc : Nat)
  /-- Stores RA at g30 + 4 x RB field (R599). -/
  | shortStwsp (c : Nat) (inB : Bool) (ra : Nat) (rb : Nat) (other : Nat) (ecc : Nat)
  /-- With a non-empty queue, IE 1 and EXL 0 the core traps with cause 10 at a word boundary (R624). -/
  | eventTrap (c : Nat)
  /-- A core stopped by WAIT resumes or traps when its queue becomes non-empty (R624). -/
  | waitResume (c : Nat)
  /-- A write of CPU_DOORBELL places a doorbell entry in each named running partition's queue (R623). -/
  | doorbell (c : Nat) (target : Nat)
  /-- Reading CPU_EVQ3 removes the oldest event queue entry; unc: it reads as uncorrectable, R630 (R620). -/
  | eventEntryRemove (c : Nat) (unc : Bool)
  /-- The scrubber reads a word and writes back its corrected value; bits: bit errors found (R631). -/
  | scrubVisit (a : Nat) (row : Nat) (bits : Nat) (last : Bool)
  /-- In PARK and DEEP PARK the AON core scrubs the retention RAM every DSSCRUB hours; words corrected of one and two bits; words not correctable (R633). -/
  | parkedScrub (one : Nat) (two : Nat) (unc : List Nat)
  /-- The oldest pending log entry reaching 1 s starts a flush to flash (R638). -/
  | logFlushTimer
  /-- A flush of the event log ring to the flash region completes (R638). -/
  | logFlushEnd
  /-- After RUN following a P reset the engine finds the log head and numbers waiting entries (R639). -/
  | logHeadFound
  /-- SYS_DWDOG KEY 0x3C starts a device watchdog refresh pair (R644). -/
  | dwdogKey3c (init : Init)
  /-- SYS_DWDOG KEY 0xC3 completes a refresh and restarts the device watchdog (R644). -/
  | dwdogKeyC3 (init : Init)
  /-- A wrong SYS_DWDOG key is dropped, counted and breaks the pair (R644). -/
  | dwdogWrongKey (init : Init) (key : Nat)
  /-- A SYS_DWDOG write with KEY 0 sets TIME, starting or switching off the watchdog as R644 gives (R644). -/
  | dwdogTimeWrite (init : Init) (ms : Nat)
  /-- The device watchdog expires and a D reset follows with LASTRST 4 (R644). -/
  | deviceWatchdogExpiry
  /-- SYS_PCTLn.RESTART restarts partition n on its present core (R645). -/
  | partRestart (init : Init) (n : Nat)
  /-- SYS_PCTLn.MOVE restarts partition n on the relief core (R645). -/
  | partMove (init : Init) (n : Nat)
  /-- SYS_PCTLn.BACK restarts partition n on core n (R645). -/
  | partBack (init : Init) (n : Nat)
  /-- SYS_RELIEF.RSTREQ from the system owner restarts the named partitions (R645). -/
  | rstreq (init : Init) (mask : Nat)
  /-- A C6 core check error stops the core and restarts its partition, moving it if AUTO (R645). -/
  | coreCheckError (cores : List Nat)
  /-- PD-RC is on 200 us after being switched on for a move (R646). -/
  | reliefCoreReady
  /-- A core's self-test ends and it becomes available or failed (R647). -/
  | coreSelfTestEnd (c : Nat) (pass : Bool)
  /-- SYS_TESTn OP 1 starts an in-service test of a power or valve output (R649). -/
  | testOutput (init : Init) (n : Nat) (cls : Nat) (idx : Nat)
  /-- SYS_TESTn OP 2 starts an in-service test of an LED string (R649). -/
  | testString (init : Init) (n : Nat) (idx : Nat)
  /-- SYS_TESTn OP 3 starts an internal loop test of a CAN channel (R649). -/
  | testCan (init : Init) (n : Nat) (idx : Nat)
  /-- SYS_TESTn OP 4 starts an internal loop test of a LIN channel (R649). -/
  | testLin (init : Init) (n : Nat) (idx : Nat)
  /-- SYS_TESTn OP 5 starts a loop test of an Ethernet port (R649). -/
  | testPort (init : Init) (n : Nat) (idx : Nat)
  /-- An in-service test ends with pass, fail or abort; res: 1 pass, 2 fail, else aborted (R649). -/
  | inServiceTestEnd (n : Nat) (res : Nat)
  /-- Siari OPEN issues a SESSION and a random CHALLENGE; path: 0 SVC, 1 the on-board port; src: the tool address (R657). -/
  | siariOpen (path : Nat) (src : Nat) (seq : Nat)
  /-- Siari AUTH verifies the tool key and signature and contends for the staging lock (R657). -/
  | siariAuth (path : Nat) (src : Nat) (sess : Nat) (seq : Nat) (key : List Byte) (sig : List Byte)
  /-- Siari CLOSE ends the session and releases the lock (R660). -/
  | siariClose (path : Nat) (src : Nat) (sess : Nat) (seq : Nat)
  /-- Siari STATUS returns the update and bring-up status (R656). -/
  | siariStatus (path : Nat) (src : Nat) (sess : Nat) (seq : Nat)
  /-- Siari STAGE_BEGIN checks a part's placement and erases its sectors; ok_: the flash did not fail (R662). -/
  | stageBegin (path : Nat) (src : Nat) (sess : Nat) (seq : Nat) (part : Nat) (off : Nat) (size : Nat) (ok_ : Bool)
  /-- Siari STAGE_DATA programs data at the given part offset (R662). -/
  | stageData (path : Nat) (src : Nat) (sess : Nat) (seq : Nat) (off : Nat) (data : List Byte) (ok_ : Bool)
  /-- Siari STAGE_END returns the digest of the staged part and writes a STAGE record (R662). -/
  | stageEnd (path : Nat) (src : Nat) (sess : Nat) (seq : Nat)
  /-- Siari ACTIVATE checks a manifest and starts preparing the scaffold (R665). -/
  | activate (path : Nat) (src : Nat) (sess : Nat) (seq : Nat) (m : List Byte)
  /-- Siari ABORT reverts an activation whose commit record is not begun (R672). -/
  | siariAbort (path : Nat) (src : Nat) (sess : Nat) (seq : Nat)
  /-- Siari SECRET verifies the vehicle secret code proof and gives an enrolment grant (R676). -/
  | siariSecret (path : Nat) (src : Nat) (sess : Nat) (seq : Nat) (proof : List Byte)
  /-- Siari WSMSG places a mailbox message in UPD_WSIN and raises workshop message (R677). -/
  | wsmsg (path : Nat) (src : Nat) (sess : Nat) (seq : Nat) (m : List Byte)
  /-- Siari LOGREAD returns event log entries (R656). -/
  | logread (path : Nat) (src : Nat) (sess : Nat) (seq : Nat) (first : Nat) (count : Nat)
  /-- Siari DEBUG MODE 0 locks the debug port (R678). -/
  | debugLock (path : Nat) (src : Nat) (sess : Nat) (seq : Nat)
  /-- Siari DEBUG MODE 1 unlocks the port in core debug mode for a signing-key tool (R678). -/
  | debugCore (path : Nat) (src : Nat) (sess : Nat) (seq : Nat)
  /-- Siari DEBUG MODE 2 unlocks the port in boundary-scan mode for a signing-key tool (R678). -/
  | debugBoundaryScan (path : Nat) (src : Nat) (sess : Nat) (seq : Nat)
  /-- A session not authenticated within 10 s of its OPEN ends (R657). -/
  | authTimeout (sess : Nat)
  /-- The 1 ms arbitration window ends and the staging lock is granted (R659). -/
  | arbitrationWindowEnd
  /-- A session with no request for 60 s ends (R660). -/
  | sessionIdleTimeout (sess : Nat)
  /-- Copies and directory are written, the BEGIN record starts the trial and partitions restart (R666). -/
  | scaffoldReady (ok_ : Bool)
  /-- Partition n writes 0xA5 to UPD_HEALTHn, reporting its part healthy (R669). -/
  | healthyReport (init : Init) (n : Nat) (ok_ : Bool)
  /-- Partition n writes 0x5A to UPD_HEALTHn, failing its part and reverting (R669). -/
  | failedReport (init : Init) (n : Nat)
  /-- A part's TRIAL expires without a health report and the activation fails (R669). -/
  | trialExpiry (part : Nat) (ok_ : Bool)
  /-- TOTAL passes since the BEGIN record and the activation fails (R669). -/
  | totalExpiry
  /-- After RUN the engine completes an unfinished BEGIN as COMMITTED or ABANDONED (R674). -/
  | journalCheck
  /-- UPD_WSCTL.GO hands the island's reply in UPD_WSOUT to the session (R677). -/
  | workshopReply (init : Init)
  /-- No mailbox reply within 5 s answers WSMSG with STATUS 13 (R677). -/
  | workshopTimeout
  /-- A read by an owner of a register holding RC fields returns their value and clears them (R14). -/
  | rcFieldRead (init : Init) (a : Nat)
  /-- A declaration's ACTIVE clears when no leading edge of its TPO has been planned for 1 s, and its locked channels run free again (R368). -/
  | exposureWindowLapse (k : Nat)
  /-- An AM channel that cannot reach its current for lack of headroom takes RESULT open or low headroom and raises an LED fault event (R380). -/
  | amLowHeadroom (i : Nat)
  /-- CI-PWR loses its clock and the power stages hold their outputs while the independent watchdog runs on (R643). -/
  | ciPwrClockLoss
  /-- Every 10 ms while PD-PWR is on, TBP is updated from the baseplate sensors, TPEAK raised and HOT set above 95 °C; in °C (R69). -/
  | baseplateTemperatureSample (tbp : Int)
deriving DecidableEq, Repr

end Sys2Proof
end

