-- ==== Sys2Proof/Decode.lean ====
section
/-! DEFINITION. The decoder of the table's bits. The opcode table gives no bits to any row: the commands of this block come
from outside it, as register accesses, events, messages and times, and a core's instruction comes as the row with its
fields as operands. So no word spells a command. -/

set_option Elab.async false

namespace Sys2Proof

/-- The command that a word of n bits spells by the opcode table's bits: none, since no row of the table has bits. -/
def decodeTableWord (nbits w : Nat) : Option Instr :=
  match nbits, w with
  | _, _ => none

end Sys2Proof
end

