-- ==== Sys2Proof/Machine/Bits.lean ====
section
/-! DEFINITION. Bit fields, sign extension, byte order and the CRC codes of R499, as small functions over words. -/

set_option Elab.async false

namespace Sys2Proof.Machine

/-- Mask of bits hi..lo. -/
def maskBits (hi lo : Nat) : Word := (BitVec.allOnes 32 >>> (31 - (hi - lo))) <<< lo

/-- The field hi..lo of a word, as a number. -/
def bitsOf (w : Word) (hi lo : Nat) : Nat := (w.toNat / 2 ^ lo) % 2 ^ (hi + 1 - lo)

/-- A word with the field hi..lo replaced; the value is taken modulo the field's width. -/
def setBits (w : Word) (hi lo v : Nat) : Word :=
  (w &&& ~~~ maskBits hi lo) ||| ((BitVec.ofNat 32 (v % 2 ^ (hi + 1 - lo))) <<< lo)

/-- Two's complement reading of the low n bits of a number. -/
def signedOf (n v : Nat) : Int :=
  if v % 2 ^ n < 2 ^ (n - 1) then Int.ofNat (v % 2 ^ n) else Int.ofNat (v % 2 ^ n) - Int.ofNat (2 ^ n)

/-- The n-bit two's complement code of an integer. -/
def codeOf (n : Nat) (v : Int) : Nat := (v % (Int.ofNat (2 ^ n))).toNat

/-- Whether bit k of a number is set. -/
def bit (v k : Nat) : Bool := v / 2 ^ k % 2 == 1

/-- A number with bit k set or cleared. -/
def setBit (v k : Nat) (b : Bool) : Nat :=
  if bit v k then (if b then v else v - 2 ^ k) else (if b then v + 2 ^ k else v)

/-- A value held between two limits. -/
def clampNat (lo hi v : Nat) : Nat := if v < lo then lo else if hi < v then hi else v

/-- An integer held between two limits. -/
def clampInt (lo hi v : Int) : Int := if v < lo then lo else if hi < v then hi else v

/-- How many of the low n bits of a number are set. -/
def countBits : Nat → Nat → Nat
  | 0, _ => 0
  | n + 1, v => v % 2 + countBits n (v / 2)

/-- The numbers 0 to n − 1 whose bit is set in a mask. -/
def bitList (n v : Nat) : List Nat := (List.range n).filter (fun k => bit v k)

/-- Little-endian bytes of a word (R7). -/
def bytesOf (w : Word) : List Byte :=
  [w.extractLsb' 0 8, w.extractLsb' 8 8, w.extractLsb' 16 8, w.extractLsb' 24 8]

/-- A word from its four little-endian bytes. -/
def wordOf (b0 b1 b2 b3 : Byte) : Word := b3 ++ b2 ++ b1 ++ b0

/-- The low n bits of a number in reverse order. -/
def reverseBits : Nat → Nat → Nat
  | 0, _ => 0
  | n + 1, v => (v % 2) * 2 ^ n + reverseBits n (v / 2)

/-- One bit of a CRC of the given width, most significant bit first. -/
def crcBit (width poly crc : Nat) : Nat :=
  if bit crc (width - 1) then ((crc * 2) % 2 ^ width) ^^^ poly else (crc * 2) % 2 ^ width

def crcBits (width poly : Nat) : Nat → Nat → Nat
  | 0, crc => crc
  | n + 1, crc => crcBits width poly n (crcBit width poly crc)

/-- The CRC register after a list of bytes, most significant bit first. -/
def crcBytes (width poly : Nat) : Nat → List Nat → Nat
  | crc, [] => crc
  | crc, b :: bs => crcBytes width poly (crcBits width poly 8 (crc ^^^ (b % 256 * 2 ^ (width - 8)))) bs

/-- The CRC codes of R499 over bytes: width, polynomial, initial value, reflection and final XOR of the table; codes 6 and
7 name no CRC and answer 0. -/
def crcCode (code : Nat) (bs : List Nat) : Nat :=
  match code with
  | 0 => crcBytes 8 0x1D 0xFF bs ^^^ 0xFF
  | 1 => crcBytes 8 0x2F 0xFF bs ^^^ 0xFF
  | 2 => crcBytes 16 0x1021 0xFFFF bs
  | 3 => reverseBits 32 (crcBytes 32 0x04C11DB7 0xFFFFFFFF (bs.map (reverseBits 8))) ^^^ 0xFFFFFFFF
  | 4 => reverseBits 32 (crcBytes 32 0xF4ACFB13 0xFFFFFFFF (bs.map (reverseBits 8))) ^^^ 0xFFFFFFFF
  | 5 => reverseBits 64 (crcBytes 64 0x42F0E1EBA9EA3693 0xFFFFFFFFFFFFFFFF (bs.map (reverseBits 8))) ^^^
      0xFFFFFFFFFFFFFFFF
  | _ => 0

/-- The four bytes of a word value, low byte first. -/
def bytes4 (v : Nat) : List Nat := [v % 256, v / 256 % 256, v / 65536 % 256, v / 16777216 % 256]

end Sys2Proof.Machine
end

