-- ==== Sys2Proof/Machine/Sha.lean ====
section
/-! DEFINITION. SHA-256 (FIPS 180-4), which R117, R118, R657, R662, R664, R670 and R676 name, over natural numbers below 2^32. The eight working
words are kept as two sequences: word a and word e of the last four rounds. -/

set_option Elab.async false

namespace Sys2Proof.Machine

/-- A number handed on once it has been worked out, so that the kernel does not carry the expression for it along. -/
def given {α : Type} (x : Nat) (k : Nat → α) : α :=
  match x with
  | 0 => k 0
  | n + 1 => k (n + 1)

theorem given_eq {α : Type} (x : Nat) (k : Nat → α) : given x k = k x := by cases x <;> rfl

/-- The number that bytes spell, the first the most significant. -/
def ofBE (bs : List Byte) : Nat := bs.foldl (fun a b => a * 256 + b.toNat) 0

/-- The n bytes of a number, the most significant first. -/
def toBE (n v : Nat) : List Byte := (List.range n).map (fun i => BitVec.ofNat 8 (v >>> (8 * (n - 1 - i))))

namespace Sha

/-- The fractional parts of the cube roots of the first 64 primes, eight of 32 bits in each number. -/
def cubeRoots : List Nat :=
  [0x428a2f9871374491b5c0fbcfe9b5dba53956c25b59f111f1923f82a4ab1c5ed5,
   0xd807aa9812835b01243185be550c7dc372be5d7480deb1fe9bdc06a7c19bf174,
   0xe49b69c1efbe47860fc19dc6240ca1cc2de92c6f4a7484aa5cb0a9dc76f988da,
   0x983e5152a831c66db00327c8bf597fc7c6e00bf3d5a7914706ca635114292967,
   0x27b70a852e1b21384d2c6dfc53380d13650a7354766a0abb81c2c92e92722c85,
   0xa2bfe8a1a81a664bc24b8b70c76c51a3d192e819d6990624f40e3585106aa070,
   0x19a4c1161e376c082748774c34b0bcb5391c0cb34ed8aa4a5b9cca4f682e6ff3,
   0x748f82ee78a5636f84c878148cc7020890befffaa4506cebbef9a3f7c67178f2]

/-- The fractional parts of the square roots of the first 8 primes. -/
def squareRoots : Nat := 0x6a09e667bb67ae853c6ef372a54ff53a510e527f9b05688c1f83d9ab5be0cd19

/-- Piece i of 32 bits of a number that holds eight, the first the most significant. -/
def piece (v i : Nat) : Nat := v >>> (32 * (7 - i)) % 2 ^ 32

/-- The xor of a word rotated right by two amounts, and rotated (or, where `sh`, shifted) right by a third. -/
def mix (i j k : Nat) (sh : Bool) (x : Nat) : Nat :=
  let twice := x <<< 32 ||| x
  ((twice >>> i) ^^^ (twice >>> j) ^^^ (if sh then x >>> k else twice >>> k)) % 2 ^ 32

/-- Carries out the rounds that are left on the last four a and e words and the last sixteen schedule words, newest first. -/
def rounds : Nat → Nat → List Nat → List Nat → List Nat → List Nat × List Nat
  | 0, _, as, es, _ => (as, es)
  | n + 1, t, as, es, ws =>
    given (if t < 16 then ws.getD (15 - t) 0
      else (mix 17 19 10 true (ws.getD 1 0) + ws.getD 6 0 + mix 7 18 3 true (ws.getD 14 0) + ws.getD 15 0) % 2 ^ 32) fun w =>
    let a := as.getD 0 0
    let e := es.getD 0 0
    given (es.getD 3 0 + mix 6 11 25 false e + (es.getD 2 0 ^^^ (e &&& (es.getD 1 0 ^^^ es.getD 2 0))) +
      piece (cubeRoots.getD (t / 8) 0) (t % 8) + w) fun t1 =>
    given ((t1 + mix 2 13 22 false a + ((a &&& as.getD 1 0) ||| (as.getD 2 0 &&& (a ||| as.getD 1 0)))) % 2 ^ 32) fun a' =>
    given ((as.getD 3 0 + t1) % 2 ^ 32) fun e' =>
    rounds n (t + 1) (a' :: as.take 3) (e' :: es.take 3) (if t < 16 then ws else w :: ws.take 15)

/-- The hash value, as one number of 256 bits, after a block of 64 bytes. -/
def block (h : Nat) (bs : List Byte) : Nat :=
  let ws := ((List.range 16).map (fun i => ofBE ((bs.drop (4 * i)).take 4))).reverse
  let r := rounds 64 0 ((List.range 4).map (piece h)) ((List.range 4).map (fun i => piece h (4 + i))) ws
  (r.1 ++ r.2).zipIdx.foldl (fun acc c => acc * 2 ^ 32 + (c.1 + piece h c.2) % 2 ^ 32) 0

/-- Takes in whole blocks. -/
def blocks : Nat → Nat → List Byte → Nat
  | 0, h, _ => h
  | n + 1, h, bs => given (block h (bs.take 64)) fun h' => blocks n h' (bs.drop 64)

/-- SHA-256 of bytes, as a number of 256 bits. -/
def value (bs : List Byte) : Nat :=
  let pad := (119 - bs.length % 64) % 64
  let all := bs ++ 0x80#8 :: List.replicate pad 0#8 ++ toBE 8 (8 * bs.length)
  blocks (all.length / 64) squareRoots all

/-- SHA-256 of bytes, as its 32 bytes. -/
def digest (bs : List Byte) : List Byte := toBE 32 (value bs)

end Sha

end Sys2Proof.Machine
end

