-- ==== Sys2Proof/Machine/Crypto.lean ====
section
/-! DEFINITION. The cryptographic engine: AES-128 and AES-256 (FIPS 197), GCM (SP 800-38D) and the verification of ECDSA signatures over P-256
(FIPS 186-4), which R117, R119, R504 to R506, R578 to R580, R657 and R664 name. Blocks and field elements are natural numbers, the first byte
the most significant. -/

set_option Elab.async false

namespace Sys2Proof.Machine

/-! ### AES -/

/-- The byte substitution, thirty-two bytes in each number. -/
def aesBox : List Nat :=
  [0x637c777bf26b6fc53001672bfed7ab76ca82c97dfa5947f0add4a2af9ca472c0,
   0xb7fd9326363ff7cc34a5e5f171d8311504c723c31896059a071280e2eb27b275,
   0x09832c1a1b6e5aa0523bd6b329e32f8453d100ed20fcb15b6acbbe394a4c58cf,
   0xd0efaafb434d338545f9027f503c9fa851a3408f929d38f5bcb6da2110fff3d2,
   0xcd0c13ec5f974417c4a77e3d645d197360814fdc222a908846eeb814de5e0bdb,
   0xe0323a0a4906245cc2d3ac629195e479e7c8376d8dd54ea96c56f4ea657aae08,
   0xba78252e1ca6b4c6e8dd741f4bbd8b8a703eb5664803f60e613557b986c11d9e,
   0xe1f8981169d98e949b1e87e9ce5528df8ca1890dbfe6426841992d0fb054bb16]

def aesSub (x : Nat) : Nat := (aesBox.getD (x / 32) 0) >>> (8 * (31 - x % 32)) % 256

/-- Doubles a byte in the field of AES. -/
def aesTwice (x : Nat) : Nat := if x < 128 then 2 * x else (2 * x) ^^^ 0x11B

/-- Substitutes the four bytes of a word. -/
def aesSubWord (w : Nat) : Nat :=
  ((aesSub (w >>> 24 % 256) * 256 + aesSub (w >>> 16 % 256)) * 256 + aesSub (w >>> 8 % 256)) * 256 + aesSub (w % 256)

/-- Byte i of a block. -/
def blockByte (b i : Nat) : Nat := b >>> (8 * (15 - i)) % 256

/-- Column c after the substitution and the row shifts, mixed but in the last round. -/
def aesColumn (last : Bool) (b c : Nat) : Nat :=
  let at_ (r : Nat) : Nat := aesSub (blockByte b ((4 * c + 5 * r) % 16))
  given (at_ 0) fun p => given (at_ 1) fun q => given (at_ 2) fun r => given (at_ 3) fun t =>
    if last then ((p * 256 + q) * 256 + r) * 256 + t
    else
      let all := p ^^^ q ^^^ r ^^^ t
      (((p ^^^ all ^^^ aesTwice (p ^^^ q)) * 256 + (q ^^^ all ^^^ aesTwice (q ^^^ r))) * 256 +
        (r ^^^ all ^^^ aesTwice (r ^^^ t))) * 256 + (t ^^^ all ^^^ aesTwice (t ^^^ p))

/-- A round under a round key. -/
def aesRound (last : Bool) (b key : Nat) : Nat :=
  (((aesColumn last b 0 * 2 ^ 32 + aesColumn last b 1) * 2 ^ 32 + aesColumn last b 2) * 2 ^ 32 + aesColumn last b 3) ^^^ key

/-- The words of the key schedule, newest first: n more, from word i on, for a key of nk words; `rc` is the next round constant. -/
def aesWords : Nat → Nat → Nat → Nat → List Nat → List Nat
  | 0, _, _, _, ws => ws
  | n + 1, nk, i, rc, ws =>
    let w := ws.getD 0 0
    let t := if i % nk = 0 then aesSubWord (w * 256 % 2 ^ 32 + w / 2 ^ 24) ^^^ (rc * 2 ^ 24) else if nk = 8 ∧ i % 8 = 4 then aesSubWord w else w
    given (ws.getD (nk - 1) 0 ^^^ t) fun x => aesWords n nk (i + 1) (if i % nk = 0 then aesTwice rc else rc) (x :: ws)

/-- Groups words in round keys. -/
def aesKeys : List Nat → List Nat
  | a :: b :: c :: d :: ws => (((a * 2 ^ 32 + b) * 2 ^ 32 + c) * 2 ^ 32 + d) :: aesKeys ws
  | _ => []

/-- The round keys of a key of 16 or 32 bytes. -/
def aesSchedule (key : List Byte) : List Nat :=
  let nk := key.length / 4
  let ws := ((List.range nk).map (fun i => ofBE ((key.drop (4 * i)).take 4))).reverse
  aesKeys (aesWords (3 * nk + 28) nk nk 1 ws).reverse

/-- Encrypts a block under round keys, after the first of which it has been xored. -/
def aesRun : List Nat → Nat → Nat
  | [], b => b
  | [k], b => aesRound true b k
  | k :: ks, b => given (aesRound false b k) fun b' => aesRun ks b'

/-- Encrypts a block under a key schedule. -/
def aesBlock (ks : List Nat) (b : Nat) : Nat :=
  match ks with
  | k :: rest => given (b ^^^ k) fun b' => aesRun rest b'
  | [] => b

/-- AES of 16 bytes under a key (R504, R506). -/
def aes (key : List Byte) (b : List Byte) : List Byte := toBE 16 (aesBlock (aesSchedule key) (ofBE b))

/-! ### GCM -/

/-- Multiplies in the field of GCM; i is the next bit of x, from the most significant, n are left. -/
def gcmMul : Nat → Nat → Nat → Nat → Nat
  | 0, _, _, z => z
  | n + 1, x, v, z =>
    given (if x >>> n % 2 = 1 then z ^^^ v else z) fun z' =>
    given (if v % 2 = 1 then (v / 2) ^^^ (0xE1 * 2 ^ 120) else v / 2) fun v' => gcmMul n x v' z'

/-- The 16-byte pieces of bytes as blocks, the last filled with zeros. -/
def gcmPieces : Nat → List Byte → List Nat
  | 0, _ => []
  | n + 1, bs => ofBE (bs.take 16 ++ List.replicate (16 - bs.length) 0#8) :: gcmPieces n (bs.drop 16)

def gcmBlocks (bs : List Byte) : List Nat := gcmPieces ((bs.length + 15) / 16) bs

/-- The authentication hash of blocks. -/
def gcmHash (h : Nat) : List Nat → Nat → Nat
  | [], y => y
  | b :: bs, y => given (gcmMul 128 (y ^^^ b) h 0) fun y' => gcmHash h bs y'

/-- Xors blocks with the counter blocks from c on. -/
def gcmStream (ks : List Nat) : List Nat → Nat → List Byte
  | [], _ => []
  | b :: bs, c => (given (b ^^^ aesBlock ks c) fun x => toBE 16 x) ++ gcmStream ks bs (c + 1)

/-- Decrypts under a key with a 12-byte vector and additional data; none where the tag is wrong (R117, R119). -/
def gcmOpen (key iv aad body : List Byte) (tag : Nat) : Option (List Byte) :=
  let ks := aesSchedule key
  let j := ofBE iv * 2 ^ 32 + 1
  given (aesBlock ks 0) fun h =>
  let sum := gcmHash h (gcmBlocks aad ++ gcmBlocks body ++ [8 * aad.length * 2 ^ 64 + 8 * body.length]) 0
  if sum ^^^ aesBlock ks j = tag then some ((gcmStream ks (gcmBlocks body) (j + 1)).take body.length) else none

/-! ### P-256 -/

def p256 : Nat := 2 ^ 256 - 2 ^ 224 + 2 ^ 192 + 2 ^ 96 - 1
def p256b : Nat := 0x5ac635d8aa3a93e7b3ebbd55769886bc651d06b0cc53b0f63bce3c3e27d2604b
/-- The order of the group. -/
def p256n : Nat := 0xffffffff00000000ffffffffffffffffbce6faada7179e84f3b9cac2fc632551
def p256x : Nat := 0x6b17d1f2e12c4247f8bce6e563a440f277037d812deb33a0f4a13945d898c296
def p256y : Nat := 0x4fe342e2fe1a7f9b8ee7eb4a7c0f9e162bce33576b315ececbb6406837bf51f5

/-- x^e · r modulo m, over the n lowest bits of e. -/
def powMod (m : Nat) : Nat → Nat → Nat → Nat → Nat
  | 0, _, _, r => r
  | n + 1, x, e, r =>
    given (x * x % m) fun x' => given (if e % 2 = 1 then r * x % m else r) fun r' => powMod m n x' (e / 2) r'

/-- A point (x/z², y/z³); z = 0 is the neutral one. -/
structure EcPoint where
  x : Nat
  y : Nat
  z : Nat
deriving DecidableEq, Repr

/-- A point whose coordinates have been worked out. -/
def givenPoint {α : Type} (x y z : Nat) (k : EcPoint → α) : α := given x fun a => given y fun b => given z fun c => k ⟨a, b, c⟩

/-- Doubles a point. -/
def ecTwice {α : Type} (q : EcPoint) (k : EcPoint → α) : α :=
  given (q.z * q.z % p256) fun zz => given (q.y * q.y % p256) fun yy => given (4 * q.x * yy % p256) fun s =>
  given (3 * (q.x + p256 - zz) * (q.x + zz) % p256) fun m => given ((m * m + 2 * (p256 - s)) % p256) fun x =>
  givenPoint x ((m * (s + p256 - x) + 8 * (p256 - yy) * yy) % p256) (2 * q.y * q.z % p256) k

/-- Adds two points. -/
def ecAdd {α : Type} (q r : EcPoint) (k : EcPoint → α) : α :=
  if q.z = 0 then k r
  else if r.z = 0 then k q
  else
    given (q.z * q.z % p256) fun qz => given (r.z * r.z % p256) fun rz =>
    given (q.x * rz % p256) fun u => given (r.x * qz % p256) fun u' =>
    given (q.y * rz % p256 * r.z % p256) fun v => given (r.y * qz % p256 * q.z % p256) fun v' =>
    if u = u' then (if v = v' then ecTwice q k else k ⟨1, 1, 0⟩)
    else
      given (u' + p256 - u) fun h => given (v' + p256 - v) fun d => given (h * h % p256) fun hh => given (h * hh % p256) fun hhh =>
      given (u * hh % p256) fun w => given ((d * d + (p256 - hhh) + 2 * (p256 - w)) % p256) fun x =>
      givenPoint x ((d * (w + p256 - x) + (p256 - v) * hhh) % p256) (h * q.z % p256 * r.z % p256) k

/-- a·G + b·Q by the n lowest bits of both factors, from the most significant. -/
def ecSum (g q gq : EcPoint) : Nat → Nat → Nat → EcPoint → EcPoint
  | 0, _, _, t => t
  | n + 1, a, b, t => ecTwice t fun t2 =>
    match a >>> n % 2, b >>> n % 2 with
    | 0, 0 => ecSum g q gq n a b t2
    | 0, _ => ecAdd t2 q fun t3 => ecSum g q gq n a b t3
    | _, 0 => ecAdd t2 g fun t3 => ecSum g q gq n a b t3
    | _, _ => ecAdd t2 gq fun t3 => ecSum g q gq n a b t3

/-- The coordinates of a·G. -/
def ecBase (a : Nat) : Nat × Nat :=
  let g : EcPoint := ⟨p256x, p256y, 1⟩
  let t := ecSum g g g 256 a 0 ⟨1, 1, 0⟩
  given (powMod p256 256 t.z (p256 - 2) 1) fun w => given (w * w % p256) fun ww => (t.x * ww % p256, t.y * ww % p256 * w % p256)

/-- A number taken as a private key or a nonce: 1 to the order less 1. -/
def asScalar (v : Nat) : Nat := v % (p256n - 1) + 1

/-- The public key of a private key, x then y. -/
def publicKey (d : Nat) : List Byte := toBE 32 (ecBase d).1 ++ toBE 32 (ecBase d).2

/-- The signature of a digest under a private key with a nonce, r then s. -/
def ecdsaSign (d k digest : Nat) : List Byte :=
  given ((ecBase k).1 % p256n) fun r => given (powMod p256n 256 k (p256n - 2) 1) fun w =>
    toBE 32 r ++ toBE 32 (w * (digest + r * d) % p256n)

/-- Whether (r, s) signs a digest under the public key (x, y). -/
def ecdsaOk (x y digest r s : Nat) : Bool :=
  decide (x < p256) && decide (y < p256) && decide (y * y % p256 = (x * x * x + 3 * (p256 - x) + p256b) % p256) &&
  decide (0 < r) && decide (r < p256n) && decide (0 < s) && decide (s < p256n) &&
  (given (powMod p256n 256 s (p256n - 2) 1) fun w =>
    given (digest * w % p256n) fun a => given (r * w % p256n) fun b =>
    ecAdd ⟨p256x, p256y, 1⟩ ⟨x, y, 1⟩ fun gq =>
    let t := ecSum ⟨p256x, p256y, 1⟩ ⟨x, y, 1⟩ gq 256 a b ⟨1, 1, 0⟩
    given t.z fun z => given t.x fun px => given (z * z % p256) fun zz =>
      z != 0 && (px == r * zz % p256 || (decide (r + p256n < p256) && px == (r + p256n) * zz % p256)))

/-- Whether a signature, r then s, signs bytes under a public key, x then y (R117, R664). -/
def signedBy (key sig bytes : List Byte) : Bool :=
  ecdsaOk (ofBE (key.take 32)) (ofBE (key.drop 32)) (Sha.value bytes) (ofBE (sig.take 32)) (ofBE (sig.drop 32))

/-! ### Tokens (R505, R506) -/

/-- The key of the token with an identity, under the vehicle key. -/
def tokenKey (vehicle id : Nat) : Nat := aesBlock (aesSchedule (toBE 16 vehicle)) (id % 2 ^ 32 * 2 ^ 96)

/-- RESP: the first 64 bits of the challenge and VEC under the token's key. -/
def tokenResp (key chal : Nat) (vec : List Nat) : Nat :=
  let v := (List.range 8).foldl (fun n a => n * 256 + vec.getD a 0 % 256) 0
  aesBlock (aesSchedule (toBE 16 key)) (chal % 2 ^ 64 * 2 ^ 64 + v) / 2 ^ 64

/-- MAC of a button telegram: the first 64 bits of ID, CNT, CMD and seven zero bytes under the token's key. -/
def tokenMac (key id cnt cmd : Nat) : Nat :=
  aesBlock (aesSchedule (toBE 16 key)) ((id % 2 ^ 32 * 2 ^ 32 + cnt % 2 ^ 32) * 2 ^ 64 + cmd % 256 * 2 ^ 56) / 2 ^ 64

end Sys2Proof.Machine
end

