-- ==== Sys2Proof/Config.lean ====
section
/-! DEFINITION. What one device fixes and the spec leaves open, and the free values. None of these constants has a body:
nothing in Lean can evaluate one, so a claim holds whatever its value. -/

set_option Elab.async false

namespace Sys2Proof

/-- A fresh free value: the n-th open value of a run, where the spec says that a value arises and does not say which
(DESIGN CHOICE, log entry 1). `State.free` counts them. -/
opaque Config.freeValue : Nat → Nat

/-- Content of the boot ROM, which the spec does not give (DESIGN CHOICE, log entry 2). -/
opaque Config.bootRom : Nat → Byte

/-- IDCODE bits that the spec leaves to the revision: revision and manufacturer (DESIGN CHOICE, log entry 3). -/
opaque Config.idRevision : Nat
opaque Config.idManufacturer : Nat

/-- The source address of the gateway's AVTPDUs, which the spec does not give (DESIGN CHOICE, log entry 14). -/
opaque Config.tunnelAddress : Nat

/-- The metering island's private key, which never leaves it (R579), and its firmware version by code store, which the spec does not
give (DESIGN CHOICE, log entry 18). -/
opaque Config.islandKey : Nat
opaque Config.islandFirmware : Nat → Nat

end Sys2Proof
end

