-- ==== Sys2Proof/Machine/Reg.lean ====
section
/-! DEFINITION. The register map: every register of the spec's register lists by name, where it lies
(R11 and the register-offset rules R189, R227, R273, R320, R349, R390, R413, R434, R441, R468, R501, R524,
R554, R585, R626 and the lists of the system, error and update blocks), and its fields with their access codes
(R14), reset kinds (R12) and reset values. -/

set_option Elab.async false

namespace Sys2Proof.Machine

/-- A register of the spec, named as its register list names it; indices (channel, port, table, entry) stand
apart. A name in a group page is the page's own register. The cores' control registers (R626) are named `CPU_`. -/
inductive Reg where
  | TIM_T0 | TIM_T1 | TIM_T2 | TIM_T3 | TIM_STAT | TIM_SHCTL | TIM_CALSTAT | TIM_SCTL
  | TIM_SSTEP | TIM_SGAIN | TIM_SRATE | TIM_SSTAT | TIM_SOFFS | TIM_SFEED | TIM_SLAST | TIM_SPPS
  | TIM_SCNT | TIM_INCR | TIM_TPOCTL | TIM_TPOSTAT | TIM_TPOWID | TIM_TPOCOUNT | TIM_TPOPER | TIM_TPOSTART
  | TIM_TPOLEDGE | TIM_TCICTL | TIM_TCICAP | TIM_TCICNT | TIM_AUDCTL | TIM_AUD | ESW_STAT | ESW_AGE
  | ESW_FDBCMD | ESW_FDBDATA | ESW_PTPROLE | ESW_PTPSTEP | ESW_PTPINT | ESW_PTPCNT | ESW_PDCTL | ESW_PCTL
  | ESW_PSTAT | ESW_PQMAP | ESW_PCT | ESW_PPLCA | ESW_PQSLOPE | ESW_PQLIM | ESW_PTASCTL | ESW_PTASBASE
  | ESW_PTASCYC | ESW_PCNT | ESW_FPTXBASE | ESW_FPTXSIZE | ESW_FPTXTAIL | ESW_FPTXHEAD | ESW_FPRXBASE | ESW_FPRXSIZE
  | ESW_FPRXTAIL | ESW_FPRXHEAD | ESW_FPLATE | ESW_VLAN | ESW_STREAM | ESW_GATE | SCH_TCTL | SCH_TSWAP
  | SCH_TCNT0 | SCH_TCNT1 | SCH_PCTL | SCH_PWEIGHT | SCH_PBUD | SCH_PCNT | SCH_ICLS | SCH_RFXREL
  | SCH_RFXHELD | SCH_ENTRY | SCH_RULE | SCH_EDGE | PSW_CMD | PSW_CFG | PSW_PROT | PSW_DIAG
  | PSW_CNT | PSW_STR | PSW_WDOG | PSW_WDSTAT | PSW_TOWSTAT | PSW_BPAIR | PSW_PLAN | PSW_MEMBER
  | PSW_GCTL | PSW_AMEMBER | PSW_AGCTL | VLV_MEMBER | VLV_GCTL | VLV_AMEMBER | VLV_AGCTL | VLV_CMD
  | VLV_PROF | VLV_TIME | VLV_CFG | VLV_PRCFG | VLV_PROT | VLV_DIAG | VLV_CNT | VLV_MOVE
  | VLV_BCFG | VLV_BPRCFG | VLV_BPROT | VLV_BSTAT | VLV_BCNT | LGT_MEMBER | LGT_SYNC | LGT_AMEMBER
  | LGT_ASYNC | LGT_CMD | LGT_STATE | LGT_DEF | LGT_DIM | LGT_SPROT | LGT_SCFG | LGT_SDIAG
  | LGT_SCNT | LGT_NT | LGT_MXDIAG | LGT_APROT | LGT_AMDIAG | LGT_CURVE | LGT_TRIT | LGT_EXPW
  | LGT_STNCTL | LGT_STNSTAT | LGT_STNAT | LGT_CTL | LGT_STAT | FIN_CFG | FIN_FILT | FIN_STATE
  | FIN_ACFG | FIN_ATHR | FIN_AVAL | FIN_FSTAMP | FIN_PGRP | FIN_STAT | CAN_CTL | CAN_NBT
  | CAN_DBT | CAN_TDC | CAN_STAT | CAN_ERRC | CAN_ECNT0 | CAN_ECNT1 | CAN_FIFOCTL | CAN_FIFOID
  | CAN_FIFOMSK | CAN_PBID | CAN_PBMSK | CAN_PB | CAN_FIFO | CAN_MBID | CAN_MBMSK | CAN_MB
  | LIN_CTL | LIN_SCHCTL | LIN_STAT | LIN_ECNT | LIN_FCFG | LIN_FR | LIN_ENT | NWK_CTL
  | NWK_SLPSET | NWK_STAT | NWK_WIO | NWK_TRC | NWK_SWCFG | NWK_FW | NWK_CNT | NWK_SET
  | NWK_WKFR | GWY_CTL | GWY_STAT | GWY_SIG | GWY_RBASE | GWY_RSIZE | GWY_RHEAD | GWY_RTAIL
  | GWY_RDROP | GWY_RQ | GWY_GRP | GWY_TUN | GWY_PFLOG | GWY_CPL | GWY_CCNT | CHK_CFG
  | CHK_DID | CHK_CNT | CHK_STAT | ACC_CTL | ACC_AER | ACC_POLL | ACC_ZONECFG | ACC_LOCKOUT
  | ACC_CNT | ACC_WAKE | ACC_POLLSTEP | ACC_ZONE | ACC_FNREQ | ACC_FNSTAT | ACC_TOK | PMU_SUPPLY
  | PMU_THERM | PMU_STATE | PMU_CTL | PMU_WAKECAUSE | PMU_RAIL | PMU_DEEP | PMU_ATMR | PMU_PARKSTAT
  | PMU_DSCTL | PMU_DSSTAT | PMU_DSCNT | PMU_RESET | PMU_PARKACK | PMU_PARKHELD | PMU_CMP | MTR_STAT
  | MTR_CTL | MTR_TXHEAD | MTR_TXTAIL | MTR_RXHEAD | MTR_RXTAIL | MTR_TXBUF | MTR_RXBUF | SYS_PARTHOST
  | SYS_DOMSTAT | SYS_OWNDROP | SYS_OWNLAST | SYS_BOOTSTAT | SYS_BOOTSEQ | SYS_BOOTPART | SYS_BOOTREJ | SYS_REGBLK
  | SYS_SRAMREP | SYS_REGLAST | SYS_PCTL | SYS_RELIEF | SYS_CORESTAT | SYS_DWDOG | SYS_TEST | ERR_BLK0
  | ERR_BLK1 | ERR_BLK2 | ERR_BLK3 | ERR_CUM | ERR_SCRUB | ERR_LOGHEAD | ERR_LOGSEQ | UPD_STAT
  | UPD_GATE | UPD_LAST | UPD_CNT | UPD_HEALTH | UPD_WSCTL | UPD_WSIN | UPD_WSOUT | CPU_STATUS
  | CPU_ESTAT | CPU_EPC | CPU_CAUSE | CPU_BADADDR | CPU_TRAPINSN | CPU_TVEC | CPU_ISAVER | CPU_CORE
  | CPU_SCRATCH | CPU_CYCLE | CPU_DOORBELL | CPU_EVQ | CPU_EVQSTAT | CPU_RBASE | CPU_RLIM
deriving DecidableEq, Repr

/-- Where a register lies: byte address of instance 0, count and stride of its first and of its second index,
and its number of words. -/
structure Geom where
  base : Nat
  n1 : Nat
  s1 : Nat
  n2 : Nat
  s2 : Nat
  words : Nat
deriving DecidableEq, Repr

/-- The access codes of R14. -/
inductive Acc where
  | rw | ro | wo | w1c | w1s | rc
deriving DecidableEq, Repr

/-- One field of a register: its word, its bits, its access code, the reset kinds that restore it as a sum of
1 (P), 2 (D), 4 (T) and 8 (W) (R12), and its reset value. Reserved bits are no fields (R17). -/
structure FieldInfo where
  word : Nat
  hi : Nat
  lo : Nat
  acc : Acc
  kinds : Nat
  rst : Nat
deriving DecidableEq, Repr

/-- A field by name: its register, word and bits. -/
structure Fld where
  reg : Reg
  word : Nat
  hi : Nat
  lo : Nat
deriving DecidableEq, Repr

end Sys2Proof.Machine
end

