-- ==== Sys2Proof/Machine/FieldNamesA.lean ====
section
/-! DEFINITION. The fields of the registers of blocks 0 to 4 by name: F.REGISTER_FIELD is REGISTER.FIELD. -/

set_option Elab.async false

namespace Sys2Proof.Machine

def F.TIM_T0_SECL : Fld := ⟨.TIM_T0, 0, 31, 0⟩
def F.TIM_T0_NSEC : Fld := ⟨.TIM_T0, 1, 31, 0⟩
def F.TIM_T0_FRAC : Fld := ⟨.TIM_T0, 2, 31, 16⟩
def F.TIM_T0_SECH : Fld := ⟨.TIM_T0, 2, 15, 0⟩
def F.TIM_T1_SECL : Fld := ⟨.TIM_T1, 0, 31, 0⟩
def F.TIM_T1_NSEC : Fld := ⟨.TIM_T1, 1, 31, 0⟩
def F.TIM_T1_FRAC : Fld := ⟨.TIM_T1, 2, 31, 16⟩
def F.TIM_T1_SECH : Fld := ⟨.TIM_T1, 2, 15, 0⟩
def F.TIM_T2_SECL : Fld := ⟨.TIM_T2, 0, 31, 0⟩
def F.TIM_T2_NSEC : Fld := ⟨.TIM_T2, 1, 31, 0⟩
def F.TIM_T2_FRAC : Fld := ⟨.TIM_T2, 2, 31, 16⟩
def F.TIM_T2_SECH : Fld := ⟨.TIM_T2, 2, 15, 0⟩
def F.TIM_T3_SECL : Fld := ⟨.TIM_T3, 0, 31, 0⟩
def F.TIM_T3_NSEC : Fld := ⟨.TIM_T3, 1, 31, 0⟩
def F.TIM_T3_FRAC : Fld := ⟨.TIM_T3, 2, 31, 16⟩
def F.TIM_T3_SECH : Fld := ⟨.TIM_T3, 2, 15, 0⟩
def F.TIM_STAT_NOSHADOW : Fld := ⟨.TIM_STAT, 0, 8, 8⟩
def F.TIM_STAT_SWITCHED : Fld := ⟨.TIM_STAT, 0, 7, 7⟩
def F.TIM_STAT_COARSE : Fld := ⟨.TIM_STAT, 0, 6, 6⟩
def F.TIM_STAT_V3 : Fld := ⟨.TIM_STAT, 0, 5, 5⟩
def F.TIM_STAT_V2 : Fld := ⟨.TIM_STAT, 0, 4, 4⟩
def F.TIM_STAT_V1 : Fld := ⟨.TIM_STAT, 0, 3, 3⟩
def F.TIM_STAT_ONSHADOW : Fld := ⟨.TIM_STAT, 0, 2, 2⟩
def F.TIM_STAT_ALIGNED : Fld := ⟨.TIM_STAT, 0, 0, 0⟩
def F.TIM_SHCTL_SWITCHES : Fld := ⟨.TIM_SHCTL, 0, 31, 16⟩
def F.TIM_SHCTL_CAUSE : Fld := ⟨.TIM_SHCTL, 0, 15, 8⟩
def F.TIM_SHCTL_SWAP : Fld := ⟨.TIM_SHCTL, 0, 0, 0⟩
def F.TIM_CALSTAT_PORT : Fld := ⟨.TIM_CALSTAT, 0, 26, 16⟩
def F.TIM_CALSTAT_DEC : Fld := ⟨.TIM_CALSTAT, 0, 9, 0⟩
def F.TIM_SCTL_RMAX : Fld := ⟨.TIM_SCTL, 0, 22, 14⟩
def F.TIM_SCTL_INTV : Fld := ⟨.TIM_SCTL, 0, 13, 11⟩
def F.TIM_SCTL_TCI : Fld := ⟨.TIM_SCTL, 0, 10, 8⟩
def F.TIM_SCTL_SRC : Fld := ⟨.TIM_SCTL, 0, 7, 4⟩
def F.TIM_SCTL_MODE : Fld := ⟨.TIM_SCTL, 0, 1, 0⟩
def F.TIM_SSTEP_THRESH : Fld := ⟨.TIM_SSTEP, 0, 31, 0⟩
def F.TIM_SGAIN_KI : Fld := ⟨.TIM_SGAIN, 0, 31, 16⟩
def F.TIM_SGAIN_KP : Fld := ⟨.TIM_SGAIN, 0, 15, 0⟩
def F.TIM_SRATE_RATE : Fld := ⟨.TIM_SRATE, 0, 31, 0⟩
def F.TIM_SSTAT_HOLDS : Fld := ⟨.TIM_SSTAT, 0, 23, 16⟩
def F.TIM_SSTAT_STATE : Fld := ⟨.TIM_SSTAT, 0, 2, 0⟩
def F.TIM_SOFFS_VAL_LO : Fld := ⟨.TIM_SOFFS, 0, 31, 0⟩
def F.TIM_SOFFS_VAL_HI : Fld := ⟨.TIM_SOFFS, 1, 31, 0⟩
def F.TIM_SFEED_VAL_LO : Fld := ⟨.TIM_SFEED, 0, 31, 0⟩
def F.TIM_SFEED_VAL_HI : Fld := ⟨.TIM_SFEED, 1, 31, 0⟩
def F.TIM_SLAST_VAL_LO : Fld := ⟨.TIM_SLAST, 0, 31, 0⟩
def F.TIM_SLAST_VAL_HI : Fld := ⟨.TIM_SLAST, 1, 31, 0⟩
def F.TIM_SPPS_DELAY : Fld := ⟨.TIM_SPPS, 0, 31, 0⟩
def F.TIM_SCNT_REJ : Fld := ⟨.TIM_SCNT, 0, 31, 16⟩
def F.TIM_SCNT_STEPS : Fld := ⟨.TIM_SCNT, 0, 15, 0⟩
def F.TIM_INCR_NS : Fld := ⟨.TIM_INCR, 0, 31, 24⟩
def F.TIM_INCR_FRAC : Fld := ⟨.TIM_INCR, 0, 23, 0⟩
def F.TIM_TPOCTL_SRC : Fld := ⟨.TIM_TPOCTL, 0, 9, 9⟩
def F.TIM_TPOCTL_POL : Fld := ⟨.TIM_TPOCTL, 0, 8, 8⟩
def F.TIM_TPOCTL_SCALE : Fld := ⟨.TIM_TPOCTL, 0, 7, 6⟩
def F.TIM_TPOCTL_MODE : Fld := ⟨.TIM_TPOCTL, 0, 5, 5⟩
def F.TIM_TPOCTL_EN : Fld := ⟨.TIM_TPOCTL, 0, 4, 4⟩
def F.TIM_TPOSTAT_MADE : Fld := ⟨.TIM_TPOSTAT, 0, 31, 16⟩
def F.TIM_TPOSTAT_SUPP : Fld := ⟨.TIM_TPOSTAT, 0, 15, 8⟩
def F.TIM_TPOSTAT_LATE : Fld := ⟨.TIM_TPOSTAT, 0, 3, 3⟩
def F.TIM_TPOSTAT_PAST : Fld := ⟨.TIM_TPOSTAT, 0, 2, 2⟩
def F.TIM_TPOSTAT_DONE : Fld := ⟨.TIM_TPOSTAT, 0, 1, 1⟩
def F.TIM_TPOSTAT_ACTIVE : Fld := ⟨.TIM_TPOSTAT, 0, 0, 0⟩
def F.TIM_TPOWID_WIDTH : Fld := ⟨.TIM_TPOWID, 0, 31, 0⟩
def F.TIM_TPOCOUNT_COUNT : Fld := ⟨.TIM_TPOCOUNT, 0, 31, 0⟩
def F.TIM_TPOPER_PER_LO : Fld := ⟨.TIM_TPOPER, 0, 31, 0⟩
def F.TIM_TPOPER_PER_HI : Fld := ⟨.TIM_TPOPER, 1, 15, 0⟩
def F.TIM_TPOSTART_SECL : Fld := ⟨.TIM_TPOSTART, 0, 31, 0⟩
def F.TIM_TPOSTART_NSEC : Fld := ⟨.TIM_TPOSTART, 1, 31, 0⟩
def F.TIM_TPOSTART_FRAC : Fld := ⟨.TIM_TPOSTART, 2, 31, 16⟩
def F.TIM_TPOSTART_SECH : Fld := ⟨.TIM_TPOSTART, 2, 15, 0⟩
def F.TIM_TPOLEDGE_SECL : Fld := ⟨.TIM_TPOLEDGE, 0, 31, 0⟩
def F.TIM_TPOLEDGE_NSEC : Fld := ⟨.TIM_TPOLEDGE, 1, 31, 0⟩
def F.TIM_TPOLEDGE_FRAC : Fld := ⟨.TIM_TPOLEDGE, 2, 31, 16⟩
def F.TIM_TPOLEDGE_SECH : Fld := ⟨.TIM_TPOLEDGE, 2, 15, 0⟩
def F.TIM_TCICTL_SCALE : Fld := ⟨.TIM_TCICTL, 0, 7, 6⟩
def F.TIM_TCICTL_EDGE : Fld := ⟨.TIM_TCICTL, 0, 5, 4⟩
def F.TIM_TCICAP_SECL : Fld := ⟨.TIM_TCICAP, 0, 31, 0⟩
def F.TIM_TCICAP_NSEC : Fld := ⟨.TIM_TCICAP, 1, 31, 0⟩
def F.TIM_TCICAP_FRAC : Fld := ⟨.TIM_TCICAP, 2, 31, 16⟩
def F.TIM_TCICAP_SECH : Fld := ⟨.TIM_TCICAP, 2, 15, 0⟩
def F.TIM_TCICAP_SEQ : Fld := ⟨.TIM_TCICAP, 3, 31, 16⟩
def F.TIM_TCICAP_SW : Fld := ⟨.TIM_TCICAP, 3, 3, 3⟩
def F.TIM_TCICAP_INV : Fld := ⟨.TIM_TCICAP, 3, 2, 2⟩
def F.TIM_TCICAP_RISE : Fld := ⟨.TIM_TCICAP, 3, 1, 1⟩
def F.TIM_TCICNT_OVR : Fld := ⟨.TIM_TCICNT, 0, 31, 16⟩
def F.TIM_TCICNT_EDGES : Fld := ⟨.TIM_TCICNT, 0, 15, 0⟩
def F.TIM_AUDCTL_EN : Fld := ⟨.TIM_AUDCTL, 0, 7, 0⟩
def F.TIM_AUD_APPLIED : Fld := ⟨.TIM_AUD, 0, 19, 19⟩
def F.TIM_AUD_NOREFL : Fld := ⟨.TIM_AUD, 0, 18, 18⟩
def F.TIM_AUD_RANGE : Fld := ⟨.TIM_AUD, 0, 17, 17⟩
def F.TIM_AUD_VALID : Fld := ⟨.TIM_AUD, 0, 16, 16⟩
def F.TIM_AUD_CABLE : Fld := ⟨.TIM_AUD, 0, 15, 0⟩
def F.TIM_AUD_PARTNER : Fld := ⟨.TIM_AUD, 1, 31, 0⟩
def F.ESW_STAT_MOVES : Fld := ⟨.ESW_STAT, 0, 31, 16⟩
def F.ESW_STAT_LEARNFULL : Fld := ⟨.ESW_STAT, 0, 15, 0⟩
def F.ESW_AGE_FLUSH : Fld := ⟨.ESW_AGE, 0, 31, 31⟩
def F.ESW_AGE_AGETIME : Fld := ⟨.ESW_AGE, 0, 15, 0⟩
def F.ESW_FDBCMD_OP : Fld := ⟨.ESW_FDBCMD, 0, 31, 30⟩
def F.ESW_FDBCMD_BUSY : Fld := ⟨.ESW_FDBCMD, 0, 29, 29⟩
def F.ESW_FDBCMD_HIT : Fld := ⟨.ESW_FDBCMD, 0, 28, 28⟩
def F.ESW_FDBCMD_FULL : Fld := ⟨.ESW_FDBCMD, 0, 27, 27⟩
def F.ESW_FDBCMD_INDEX : Fld := ⟨.ESW_FDBCMD, 0, 12, 0⟩
def F.ESW_FDBDATA_MAC_LO : Fld := ⟨.ESW_FDBDATA, 0, 31, 0⟩
def F.ESW_FDBDATA_VID : Fld := ⟨.ESW_FDBDATA, 1, 27, 16⟩
def F.ESW_FDBDATA_MAC_HI : Fld := ⟨.ESW_FDBDATA, 1, 15, 0⟩
def F.ESW_FDBDATA_VALID : Fld := ⟨.ESW_FDBDATA, 2, 17, 17⟩
def F.ESW_FDBDATA_STATIC : Fld := ⟨.ESW_FDBDATA, 2, 16, 16⟩
def F.ESW_FDBDATA_PORTS : Fld := ⟨.ESW_FDBDATA, 2, 14, 0⟩
def F.ESW_PTPROLE_ROLE : Fld := ⟨.ESW_PTPROLE, 0, 19, 0⟩
def F.ESW_PTPSTEP_ONESTEP : Fld := ⟨.ESW_PTPSTEP, 0, 9, 0⟩
def F.ESW_PTPINT_RESMIN : Fld := ⟨.ESW_PTPINT, 0, 31, 16⟩
def F.ESW_PTPINT_ANNLOG : Fld := ⟨.ESW_PTPINT, 0, 15, 8⟩
def F.ESW_PTPINT_SYNCLOG : Fld := ⟨.ESW_PTPINT, 0, 7, 0⟩
def F.ESW_PTPCNT_FUMISS : Fld := ⟨.ESW_PTPCNT, 0, 31, 16⟩
def F.ESW_PTPCNT_SYNCTO : Fld := ⟨.ESW_PTPCNT, 0, 15, 0⟩
def F.ESW_PTPCNT_ANNRX : Fld := ⟨.ESW_PTPCNT, 1, 31, 16⟩
def F.ESW_PTPCNT_SIGRX : Fld := ⟨.ESW_PTPCNT, 1, 15, 8⟩
def F.ESW_PTPCNT_NOSYNC : Fld := ⟨.ESW_PTPCNT, 1, 7, 0⟩
def F.ESW_PDCTL_PDLOG : Fld := ⟨.ESW_PDCTL, 0, 31, 24⟩
def F.ESW_PDCTL_THRESH : Fld := ⟨.ESW_PDCTL, 0, 23, 12⟩
def F.ESW_PDCTL_P8DELAY : Fld := ⟨.ESW_PDCTL, 0, 11, 0⟩
def F.ESW_PCTL_EN : Fld := ⟨.ESW_PCTL, 0, 31, 31⟩
def F.ESW_PCTL_ROLE : Fld := ⟨.ESW_PCTL, 0, 30, 30⟩
def F.ESW_PCTL_LEARN : Fld := ⟨.ESW_PCTL, 0, 29, 29⟩
def F.ESW_PCTL_DPCP : Fld := ⟨.ESW_PCTL, 0, 26, 24⟩
def F.ESW_PCTL_PVID : Fld := ⟨.ESW_PCTL, 0, 23, 12⟩
def F.ESW_PSTAT_ASCAP : Fld := ⟨.ESW_PSTAT, 0, 9, 8⟩
def F.ESW_PSTAT_BEACON : Fld := ⟨.ESW_PSTAT, 0, 6, 6⟩
def F.ESW_PSTAT_CABLE : Fld := ⟨.ESW_PSTAT, 0, 5, 4⟩
def F.ESW_PSTAT_SQI : Fld := ⟨.ESW_PSTAT, 0, 3, 1⟩
def F.ESW_PSTAT_LINK : Fld := ⟨.ESW_PSTAT, 0, 0, 0⟩
def F.ESW_PQMAP_RESV : Fld := ⟨.ESW_PQMAP, 0, 31, 24⟩
def F.ESW_PQMAP_MAP : Fld := ⟨.ESW_PQMAP, 0, 23, 0⟩
def F.ESW_PCT_CTMASK : Fld := ⟨.ESW_PCT, 0, 9, 0⟩
def F.ESW_PPLCA_EN : Fld := ⟨.ESW_PPLCA, 0, 31, 31⟩
def F.ESW_PPLCA_TO : Fld := ⟨.ESW_PPLCA, 0, 15, 8⟩
def F.ESW_PPLCA_NCNT : Fld := ⟨.ESW_PPLCA, 0, 7, 4⟩
def F.ESW_PPLCA_ID : Fld := ⟨.ESW_PPLCA, 0, 2, 0⟩
def F.ESW_PQSLOPE_IDLE : Fld := ⟨.ESW_PQSLOPE, 0, 31, 0⟩
def F.ESW_PQLIM_LIM : Fld := ⟨.ESW_PQLIM, 0, 12, 0⟩
def F.ESW_PTASCTL_EN : Fld := ⟨.ESW_PTASCTL, 0, 31, 31⟩
def F.ESW_PTASCTL_CHANGE : Fld := ⟨.ESW_PTASCTL, 0, 30, 30⟩
def F.ESW_PTASCTL_OPBANK : Fld := ⟨.ESW_PTASCTL, 0, 29, 29⟩
def F.ESW_PTASCTL_LEN : Fld := ⟨.ESW_PTASCTL, 0, 25, 16⟩
def F.ESW_PTASCTL_FALLBACK : Fld := ⟨.ESW_PTASCTL, 0, 7, 0⟩
def F.ESW_PTASBASE_SECL : Fld := ⟨.ESW_PTASBASE, 0, 31, 0⟩
def F.ESW_PTASBASE_NSEC : Fld := ⟨.ESW_PTASBASE, 1, 31, 0⟩
def F.ESW_PTASBASE_FRAC : Fld := ⟨.ESW_PTASBASE, 2, 31, 16⟩
def F.ESW_PTASBASE_SECH : Fld := ⟨.ESW_PTASBASE, 2, 15, 0⟩
def F.ESW_PTASCYC_CYCLE : Fld := ⟨.ESW_PTASCYC, 0, 31, 0⟩
def F.ESW_PCNT_COUNT : Fld := ⟨.ESW_PCNT, 0, 31, 0⟩
def F.ESW_FPTXBASE_BASE : Fld := ⟨.ESW_FPTXBASE, 0, 31, 5⟩
def F.ESW_FPTXSIZE_SIZE : Fld := ⟨.ESW_FPTXSIZE, 0, 10, 0⟩
def F.ESW_FPTXTAIL_TAIL : Fld := ⟨.ESW_FPTXTAIL, 0, 9, 0⟩
def F.ESW_FPTXHEAD_HEAD : Fld := ⟨.ESW_FPTXHEAD, 0, 9, 0⟩
def F.ESW_FPRXBASE_BASE : Fld := ⟨.ESW_FPRXBASE, 0, 31, 5⟩
def F.ESW_FPRXSIZE_SIZE : Fld := ⟨.ESW_FPRXSIZE, 0, 10, 0⟩
def F.ESW_FPRXTAIL_TAIL : Fld := ⟨.ESW_FPRXTAIL, 0, 9, 0⟩
def F.ESW_FPRXHEAD_HEAD : Fld := ⟨.ESW_FPRXHEAD, 0, 9, 0⟩
def F.ESW_FPLATE_MAX : Fld := ⟨.ESW_FPLATE, 0, 15, 0⟩
def F.ESW_VLAN_UNTAG : Fld := ⟨.ESW_VLAN, 0, 30, 16⟩
def F.ESW_VLAN_LEARN : Fld := ⟨.ESW_VLAN, 0, 15, 15⟩
def F.ESW_VLAN_MEMBER : Fld := ⟨.ESW_VLAN, 0, 14, 0⟩
def F.ESW_STREAM_MAC_LO : Fld := ⟨.ESW_STREAM, 0, 31, 0⟩
def F.ESW_STREAM_MODE : Fld := ⟨.ESW_STREAM, 1, 29, 28⟩
def F.ESW_STREAM_VID : Fld := ⟨.ESW_STREAM, 1, 27, 16⟩
def F.ESW_STREAM_MAC_HI : Fld := ⟨.ESW_STREAM, 1, 15, 0⟩
def F.ESW_STREAM_MAXSDU : Fld := ⟨.ESW_STREAM, 2, 31, 16⟩
def F.ESW_STREAM_PORTS : Fld := ⟨.ESW_STREAM, 2, 9, 0⟩
def F.ESW_STREAM_CIR : Fld := ⟨.ESW_STREAM, 3, 31, 0⟩
def F.ESW_STREAM_CBS : Fld := ⟨.ESW_STREAM, 4, 31, 0⟩
def F.ESW_STREAM_PASS : Fld := ⟨.ESW_STREAM, 5, 31, 0⟩
def F.ESW_STREAM_SDUDROP : Fld := ⟨.ESW_STREAM, 6, 31, 0⟩
def F.ESW_STREAM_METERDROP : Fld := ⟨.ESW_STREAM, 7, 31, 0⟩
def F.ESW_GATE_GATES : Fld := ⟨.ESW_GATE, 0, 7, 0⟩
def F.ESW_GATE_INTERVAL : Fld := ⟨.ESW_GATE, 1, 31, 0⟩
def F.SCH_TCTL_RUN : Fld := ⟨.SCH_TCTL, 0, 31, 31⟩
def F.SCH_TCTL_SWAPREQ : Fld := ⟨.SCH_TCTL, 0, 30, 30⟩
def F.SCH_TCTL_ACTBANK : Fld := ⟨.SCH_TCTL, 0, 29, 29⟩
def F.SCH_TCTL_SWSCALE : Fld := ⟨.SCH_TCTL, 0, 28, 27⟩
def F.SCH_TCTL_SWAT : Fld := ⟨.SCH_TCTL, 0, 26, 26⟩
def F.SCH_TCTL_STEPPOL : Fld := ⟨.SCH_TCTL, 0, 25, 24⟩
def F.SCH_TCTL_COPY : Fld := ⟨.SCH_TCTL, 0, 23, 23⟩
def F.SCH_TCTL_PASTSWAP : Fld := ⟨.SCH_TCTL, 0, 22, 22⟩
def F.SCH_TCTL_SWREF : Fld := ⟨.SCH_TCTL, 0, 21, 21⟩
def F.SCH_TSWAP_SECL : Fld := ⟨.SCH_TSWAP, 0, 31, 0⟩
def F.SCH_TSWAP_NSEC : Fld := ⟨.SCH_TSWAP, 1, 31, 0⟩
def F.SCH_TSWAP_FRAC : Fld := ⟨.SCH_TSWAP, 2, 31, 16⟩
def F.SCH_TSWAP_SECH : Fld := ⟨.SCH_TSWAP, 2, 15, 0⟩
def F.SCH_TCNT0_EXEC : Fld := ⟨.SCH_TCNT0, 0, 31, 16⟩
def F.SCH_TCNT0_PASSED : Fld := ⟨.SCH_TCNT0, 0, 15, 0⟩
def F.SCH_TCNT1_COLLIDED : Fld := ⟨.SCH_TCNT1, 0, 31, 24⟩
def F.SCH_TCNT1_MASKED : Fld := ⟨.SCH_TCNT1, 0, 23, 16⟩
def F.SCH_TCNT1_DROPPED : Fld := ⟨.SCH_TCNT1, 0, 15, 8⟩
def F.SCH_TCNT1_BADENT : Fld := ⟨.SCH_TCNT1, 0, 7, 0⟩
def F.SCH_PCTL_IMMPRIO : Fld := ⟨.SCH_PCTL, 0, 27, 24⟩
def F.SCH_PCTL_IMMMAXDEF : Fld := ⟨.SCH_PCTL, 0, 21, 16⟩
def F.SCH_PWEIGHT_MOTOR : Fld := ⟨.SCH_PWEIGHT, 0, 23, 16⟩
def F.SCH_PWEIGHT_HEATER : Fld := ⟨.SCH_PWEIGHT, 0, 15, 8⟩
def F.SCH_PWEIGHT_BULB : Fld := ⟨.SCH_PWEIGHT, 0, 7, 0⟩
def F.SCH_PBUD_BUDGET : Fld := ⟨.SCH_PBUD, 0, 9, 0⟩
def F.SCH_PCNT_DEFERRED : Fld := ⟨.SCH_PCNT, 0, 31, 16⟩
def F.SCH_PCNT_DROPPED : Fld := ⟨.SCH_PCNT, 0, 15, 0⟩
def F.SCH_ICLS_CLS : Fld := ⟨.SCH_ICLS, 0, 31, 0⟩
def F.SCH_RFXREL_RULE : Fld := ⟨.SCH_RFXREL, 0, 7, 0⟩
def F.SCH_RFXHELD_HELD : Fld := ⟨.SCH_RFXHELD, 0, 31, 0⟩
def F.SCH_ENTRY_MODE : Fld := ⟨.SCH_ENTRY, 0, 31, 30⟩
def F.SCH_ENTRY_SCALE : Fld := ⟨.SCH_ENTRY, 0, 29, 28⟩
def F.SCH_ENTRY_ACTION : Fld := ⟨.SCH_ENTRY, 0, 27, 24⟩
def F.SCH_ENTRY_PRIO : Fld := ⟨.SCH_ENTRY, 0, 23, 20⟩
def F.SCH_ENTRY_ICLASS : Fld := ⟨.SCH_ENTRY, 0, 19, 18⟩
def F.SCH_ENTRY_MAXDEF : Fld := ⟨.SCH_ENTRY, 0, 17, 12⟩
def F.SCH_ENTRY_NOTIFY : Fld := ⟨.SCH_ENTRY, 0, 11, 11⟩
def F.SCH_ENTRY_GROUP : Fld := ⟨.SCH_ENTRY, 1, 31, 31⟩
def F.SCH_ENTRY_TCLASS : Fld := ⟨.SCH_ENTRY, 1, 23, 16⟩
def F.SCH_ENTRY_INDEX : Fld := ⟨.SCH_ENTRY, 1, 15, 0⟩
def F.SCH_ENTRY_START_SECL : Fld := ⟨.SCH_ENTRY, 2, 31, 0⟩
def F.SCH_ENTRY_START_NSEC : Fld := ⟨.SCH_ENTRY, 3, 31, 0⟩
def F.SCH_ENTRY_START_FRAC : Fld := ⟨.SCH_ENTRY, 4, 31, 16⟩
def F.SCH_ENTRY_START_SECH : Fld := ⟨.SCH_ENTRY, 4, 15, 0⟩
def F.SCH_ENTRY_PER_LO : Fld := ⟨.SCH_ENTRY, 5, 31, 0⟩
def F.SCH_ENTRY_COUNT : Fld := ⟨.SCH_ENTRY, 6, 31, 16⟩
def F.SCH_ENTRY_PER_HI : Fld := ⟨.SCH_ENTRY, 6, 15, 0⟩
def F.SCH_ENTRY_ARG : Fld := ⟨.SCH_ENTRY, 7, 31, 0⟩
def F.SCH_RULE_EN : Fld := ⟨.SCH_RULE, 0, 31, 31⟩
def F.SCH_RULE_MODE : Fld := ⟨.SCH_RULE, 0, 30, 29⟩
def F.SCH_RULE_COMB : Fld := ⟨.SCH_RULE, 0, 28, 27⟩
def F.SCH_RULE_NOTIFY : Fld := ⟨.SCH_RULE, 0, 26, 26⟩
def F.SCH_RULE_ICLASS : Fld := ⟨.SCH_RULE, 0, 25, 24⟩
def F.SCH_RULE_ACTION : Fld := ⟨.SCH_RULE, 0, 23, 20⟩
def F.SCH_RULE_target : Fld := ⟨.SCH_RULE, 1, 31, 0⟩
def F.SCH_RULE_ARG : Fld := ⟨.SCH_RULE, 2, 31, 0⟩
def F.SCH_RULE_KIND : Fld := ⟨.SCH_RULE, 3, 31, 28⟩
def F.SCH_RULE_KIND_1 : Fld := ⟨.SCH_RULE, 4, 31, 28⟩
def F.SCH_RULE_INV : Fld := ⟨.SCH_RULE, 3, 27, 27⟩
def F.SCH_RULE_INV_1 : Fld := ⟨.SCH_RULE, 4, 27, 27⟩
def F.SCH_RULE_SRCIDX : Fld := ⟨.SCH_RULE, 3, 15, 0⟩
def F.SCH_RULE_SRCIDX_1 : Fld := ⟨.SCH_RULE, 4, 15, 0⟩
def F.SCH_RULE_FIRES : Fld := ⟨.SCH_RULE, 7, 31, 16⟩
def F.SCH_EDGE_STAMP_SECL : Fld := ⟨.SCH_EDGE, 0, 31, 0⟩
def F.SCH_EDGE_STAMP_NSEC : Fld := ⟨.SCH_EDGE, 1, 31, 0⟩
def F.SCH_EDGE_STAMP_FRAC : Fld := ⟨.SCH_EDGE, 2, 31, 16⟩
def F.SCH_EDGE_STAMP_SECH : Fld := ⟨.SCH_EDGE, 2, 15, 0⟩
def F.SCH_EDGE_SEQ : Fld := ⟨.SCH_EDGE, 3, 31, 16⟩
def F.SCH_EDGE_SRC : Fld := ⟨.SCH_EDGE, 3, 15, 12⟩
def F.SCH_EDGE_RISE : Fld := ⟨.SCH_EDGE, 3, 8, 8⟩
def F.SCH_EDGE_DEFER : Fld := ⟨.SCH_EDGE, 3, 7, 0⟩
def F.SCH_EDGE_PLAN_SECL : Fld := ⟨.SCH_EDGE, 4, 31, 0⟩
def F.SCH_EDGE_PLAN_NSEC : Fld := ⟨.SCH_EDGE, 5, 31, 0⟩
def F.SCH_EDGE_PLAN_FRAC : Fld := ⟨.SCH_EDGE, 6, 31, 16⟩
def F.SCH_EDGE_PLAN_SECH : Fld := ⟨.SCH_EDGE, 6, 15, 0⟩
def F.PSW_CMD_UND : Fld := ⟨.PSW_CMD, 0, 7, 6⟩
def F.PSW_CMD_OUT : Fld := ⟨.PSW_CMD, 0, 5, 4⟩
def F.PSW_CMD_HELD : Fld := ⟨.PSW_CMD, 0, 3, 3⟩
def F.PSW_CMD_CMD : Fld := ⟨.PSW_CMD, 0, 2, 0⟩
def F.PSW_CFG_DEF : Fld := ⟨.PSW_CFG, 0, 31, 30⟩
def F.PSW_CFG_T0 : Fld := ⟨.PSW_CFG, 0, 29, 27⟩
def F.PSW_CFG_NMAX : Fld := ⟨.PSW_CFG, 0, 26, 22⟩
def F.PSW_CFG_TOVL : Fld := ⟨.PSW_CFG, 0, 21, 19⟩
def F.PSW_CFG_CLEAN : Fld := ⟨.PSW_CFG, 0, 18, 16⟩
def F.PSW_CFG_OFFDIAG : Fld := ⟨.PSW_CFG, 0, 15, 15⟩
def F.PSW_CFG_STRETCH : Fld := ⟨.PSW_CFG, 0, 14, 14⟩
def F.PSW_CFG_DINT : Fld := ⟨.PSW_CFG, 0, 13, 11⟩
def F.PSW_CFG_OLTHR : Fld := ⟨.PSW_CFG, 0, 9, 0⟩
def F.PSW_PROT_CLR : Fld := ⟨.PSW_PROT, 0, 31, 31⟩
def F.PSW_PROT_ATT : Fld := ⟨.PSW_PROT, 0, 20, 16⟩
def F.PSW_PROT_CAUSE : Fld := ⟨.PSW_PROT, 0, 14, 12⟩
def F.PSW_PROT_TWARN : Fld := ⟨.PSW_PROT, 0, 8, 8⟩
def F.PSW_PROT_LATCH : Fld := ⟨.PSW_PROT, 0, 7, 7⟩
def F.PSW_PROT_STATE : Fld := ⟨.PSW_PROT, 0, 2, 0⟩
def F.PSW_DIAG_RESULT : Fld := ⟨.PSW_DIAG, 0, 31, 28⟩
def F.PSW_DIAG_METHOD : Fld := ⟨.PSW_DIAG, 0, 27, 26⟩
def F.PSW_DIAG_ISENSE : Fld := ⟨.PSW_DIAG, 0, 11, 0⟩
def F.PSW_CNT_SHORTS : Fld := ⟨.PSW_CNT, 0, 31, 24⟩
def F.PSW_CNT_OVLDS : Fld := ⟨.PSW_CNT, 0, 23, 16⟩
def F.PSW_CNT_THERMS : Fld := ⟨.PSW_CNT, 0, 15, 8⟩
def F.PSW_CNT_LATCHES : Fld := ⟨.PSW_CNT, 0, 7, 0⟩
def F.PSW_STR_SECL : Fld := ⟨.PSW_STR, 0, 31, 0⟩
def F.PSW_STR_NSEC : Fld := ⟨.PSW_STR, 1, 31, 0⟩
def F.PSW_STR_FRAC : Fld := ⟨.PSW_STR, 2, 31, 16⟩
def F.PSW_STR_SECH : Fld := ⟨.PSW_STR, 2, 15, 0⟩
def F.PSW_WDOG_RELEASE : Fld := ⟨.PSW_WDOG, 0, 31, 31⟩
def F.PSW_WDOG_WDTIME : Fld := ⟨.PSW_WDOG, 0, 25, 16⟩
def F.PSW_WDOG_KEY : Fld := ⟨.PSW_WDOG, 0, 7, 0⟩
def F.PSW_WDSTAT_TOWACT : Fld := ⟨.PSW_WDSTAT, 0, 31, 31⟩
def F.PSW_WDSTAT_EXPIRIES : Fld := ⟨.PSW_WDSTAT, 0, 27, 20⟩
def F.PSW_WDSTAT_KEYERR : Fld := ⟨.PSW_WDSTAT, 0, 19, 12⟩
def F.PSW_WDSTAT_REMAIN : Fld := ⟨.PSW_WDSTAT, 0, 9, 0⟩
def F.PSW_TOWSTAT_PINS : Fld := ⟨.PSW_TOWSTAT, 0, 23, 16⟩
def F.PSW_TOWSTAT_BAD : Fld := ⟨.PSW_TOWSTAT, 0, 15, 8⟩
def F.PSW_TOWSTAT_ENTRIES : Fld := ⟨.PSW_TOWSTAT, 0, 6, 0⟩
def F.PSW_BPAIR_DT : Fld := ⟨.PSW_BPAIR, 0, 8, 4⟩
def F.PSW_BPAIR_STOP : Fld := ⟨.PSW_BPAIR, 0, 1, 1⟩
def F.PSW_BPAIR_PAIR : Fld := ⟨.PSW_BPAIR, 0, 0, 0⟩
def F.PSW_PLAN_ARMED : Fld := ⟨.PSW_PLAN, 0, 31, 31⟩
def F.PSW_PLAN_EXT : Fld := ⟨.PSW_PLAN, 0, 10, 0⟩
def F.PSW_MEMBER_MEMBER : Fld := ⟨.PSW_MEMBER, 0, 31, 0⟩
def F.PSW_GCTL_COMMIT : Fld := ⟨.PSW_GCTL, 0, 31, 31⟩
def F.PSW_GCTL_DISCARD : Fld := ⟨.PSW_GCTL, 0, 30, 30⟩
def F.PSW_GCTL_PEND : Fld := ⟨.PSW_GCTL, 0, 29, 29⟩
def F.PSW_AMEMBER_MEMBER : Fld := ⟨.PSW_AMEMBER, 0, 31, 0⟩
def F.PSW_AGCTL_COMMIT : Fld := ⟨.PSW_AGCTL, 0, 31, 31⟩
def F.PSW_AGCTL_DISCARD : Fld := ⟨.PSW_AGCTL, 0, 30, 30⟩
def F.PSW_AGCTL_PEND : Fld := ⟨.PSW_AGCTL, 0, 29, 29⟩
def F.VLV_MEMBER_MEMBER : Fld := ⟨.VLV_MEMBER, 0, 31, 0⟩
def F.VLV_GCTL_COMMIT : Fld := ⟨.VLV_GCTL, 0, 31, 31⟩
def F.VLV_GCTL_DISCARD : Fld := ⟨.VLV_GCTL, 0, 30, 30⟩
def F.VLV_GCTL_PEND : Fld := ⟨.VLV_GCTL, 0, 29, 29⟩
def F.VLV_AMEMBER_MEMBER : Fld := ⟨.VLV_AMEMBER, 0, 31, 0⟩
def F.VLV_AGCTL_COMMIT : Fld := ⟨.VLV_AGCTL, 0, 31, 31⟩
def F.VLV_AGCTL_DISCARD : Fld := ⟨.VLV_AGCTL, 0, 30, 30⟩
def F.VLV_AGCTL_PEND : Fld := ⟨.VLV_AGCTL, 0, 29, 29⟩
def F.VLV_CMD_PHASE : Fld := ⟨.VLV_CMD, 0, 10, 8⟩
def F.VLV_CMD_UND : Fld := ⟨.VLV_CMD, 0, 7, 6⟩
def F.VLV_CMD_OUT : Fld := ⟨.VLV_CMD, 0, 5, 4⟩
def F.VLV_CMD_HELD : Fld := ⟨.VLV_CMD, 0, 3, 3⟩
def F.VLV_CMD_CMD : Fld := ⟨.VLV_CMD, 0, 2, 0⟩
def F.VLV_PROF_HMODE : Fld := ⟨.VLV_PROF, 0, 31, 31⟩
def F.VLV_PROF_DECAY : Fld := ⟨.VLV_PROF, 0, 30, 30⟩
def F.VLV_PROF_FCHOP : Fld := ⟨.VLV_PROF, 0, 29, 28⟩
def F.VLV_PROF_TPEAK : Fld := ⟨.VLV_PROF, 0, 27, 20⟩
def F.VLV_PROF_IPEAK : Fld := ⟨.VLV_PROF, 0, 15, 8⟩
def F.VLV_PROF_IHOLD : Fld := ⟨.VLV_PROF, 0, 7, 0⟩
def F.VLV_TIME_TPKMIN : Fld := ⟨.VLV_TIME, 0, 31, 24⟩
def F.VLV_TIME_TPKMAX : Fld := ⟨.VLV_TIME, 0, 23, 16⟩
def F.VLV_TIME_THOLD : Fld := ⟨.VLV_TIME, 0, 15, 0⟩
def F.VLV_CFG_DEF : Fld := ⟨.VLV_CFG, 0, 31, 30⟩
def F.VLV_CFG_MOVEM : Fld := ⟨.VLV_CFG, 0, 29, 28⟩
def F.VLV_CFG_OFFDIAG : Fld := ⟨.VLV_CFG, 0, 27, 27⟩
def F.VLV_CFG_DIPTHR : Fld := ⟨.VLV_CFG, 0, 23, 16⟩
def F.VLV_CFG_KWIN : Fld := ⟨.VLV_CFG, 0, 15, 8⟩
def F.VLV_CFG_MAXDLY : Fld := ⟨.VLV_CFG, 0, 7, 0⟩
def F.VLV_PRCFG_T0 : Fld := ⟨.VLV_PRCFG, 0, 29, 27⟩
def F.VLV_PRCFG_NMAX : Fld := ⟨.VLV_PRCFG, 0, 26, 22⟩
def F.VLV_PRCFG_TOVL : Fld := ⟨.VLV_PRCFG, 0, 21, 19⟩
def F.VLV_PRCFG_CLEAN : Fld := ⟨.VLV_PRCFG, 0, 18, 16⟩
def F.VLV_PROT_CLR : Fld := ⟨.VLV_PROT, 0, 31, 31⟩
def F.VLV_PROT_ATT : Fld := ⟨.VLV_PROT, 0, 20, 16⟩
def F.VLV_PROT_CAUSE : Fld := ⟨.VLV_PROT, 0, 14, 12⟩
def F.VLV_PROT_TWARN : Fld := ⟨.VLV_PROT, 0, 8, 8⟩
def F.VLV_PROT_LATCH : Fld := ⟨.VLV_PROT, 0, 7, 7⟩
def F.VLV_PROT_STATE : Fld := ⟨.VLV_PROT, 0, 2, 0⟩
def F.VLV_DIAG_RESULT : Fld := ⟨.VLV_DIAG, 0, 31, 28⟩
def F.VLV_DIAG_MOVE : Fld := ⟨.VLV_DIAG, 0, 27, 26⟩
def F.VLV_DIAG_TTP : Fld := ⟨.VLV_DIAG, 0, 25, 12⟩
def F.VLV_DIAG_ISENSE : Fld := ⟨.VLV_DIAG, 0, 11, 0⟩
def F.VLV_CNT_DROPPED : Fld := ⟨.VLV_CNT, 0, 31, 24⟩
def F.VLV_CNT_WAITED : Fld := ⟨.VLV_CNT, 0, 23, 16⟩
def F.VLV_CNT_NOMOVE : Fld := ⟨.VLV_CNT, 0, 15, 8⟩
def F.VLV_CNT_PKFAULT : Fld := ⟨.VLV_CNT, 0, 7, 0⟩
def F.VLV_MOVE_SECL : Fld := ⟨.VLV_MOVE, 0, 31, 0⟩
def F.VLV_MOVE_NSEC : Fld := ⟨.VLV_MOVE, 1, 31, 0⟩
def F.VLV_MOVE_FRAC : Fld := ⟨.VLV_MOVE, 2, 31, 16⟩
def F.VLV_MOVE_SECH : Fld := ⟨.VLV_MOVE, 2, 15, 0⟩
def F.VLV_BCFG_SGOFF : Fld := ⟨.VLV_BCFG, 0, 8, 8⟩
def F.VLV_BCFG_HBUD : Fld := ⟨.VLV_BCFG, 0, 7, 0⟩
def F.VLV_BPRCFG_T0 : Fld := ⟨.VLV_BPRCFG, 0, 29, 27⟩
def F.VLV_BPRCFG_NMAX : Fld := ⟨.VLV_BPRCFG, 0, 26, 22⟩
def F.VLV_BPRCFG_TOVL : Fld := ⟨.VLV_BPRCFG, 0, 21, 19⟩
def F.VLV_BPRCFG_CLEAN : Fld := ⟨.VLV_BPRCFG, 0, 18, 16⟩
def F.VLV_BPROT_CLR : Fld := ⟨.VLV_BPROT, 0, 31, 31⟩
def F.VLV_BPROT_ATT : Fld := ⟨.VLV_BPROT, 0, 20, 16⟩
def F.VLV_BPROT_CAUSE : Fld := ⟨.VLV_BPROT, 0, 14, 12⟩
def F.VLV_BPROT_TWARN : Fld := ⟨.VLV_BPROT, 0, 8, 8⟩
def F.VLV_BPROT_LATCH : Fld := ⟨.VLV_BPROT, 0, 7, 7⟩
def F.VLV_BPROT_STATE : Fld := ⟨.VLV_BPROT, 0, 2, 0⟩
def F.VLV_BSTAT_IBANK : Fld := ⟨.VLV_BSTAT, 0, 31, 20⟩
def F.VLV_BSTAT_HSUM : Fld := ⟨.VLV_BSTAT, 0, 19, 12⟩
def F.VLV_BSTAT_SGND : Fld := ⟨.VLV_BSTAT, 0, 11, 11⟩
def F.VLV_BSTAT_QLEN : Fld := ⟨.VLV_BSTAT, 0, 10, 8⟩
def F.VLV_BSTAT_PEAK : Fld := ⟨.VLV_BSTAT, 0, 3, 0⟩
def F.VLV_BCNT_PEAKS : Fld := ⟨.VLV_BCNT, 0, 31, 16⟩
def F.VLV_BCNT_FASTSUB : Fld := ⟨.VLV_BCNT, 0, 15, 8⟩
def F.VLV_BCNT_BUDWAIT : Fld := ⟨.VLV_BCNT, 0, 7, 0⟩

end Sys2Proof.Machine
end

