-- ==== Sys2Proof/Machine/FieldNamesB.lean ====
section
/-! DEFINITION. The fields of the registers of blocks 5 to 9 by name: F.REGISTER_FIELD is REGISTER.FIELD. -/

set_option Elab.async false

namespace Sys2Proof.Machine

def F.LGT_MEMBER_MEMBER : Fld := ⟨.LGT_MEMBER, 0, 31, 0⟩
def F.LGT_SYNC_COMMIT : Fld := ⟨.LGT_SYNC, 0, 31, 31⟩
def F.LGT_SYNC_DISCARD : Fld := ⟨.LGT_SYNC, 0, 30, 30⟩
def F.LGT_SYNC_PEND : Fld := ⟨.LGT_SYNC, 0, 29, 29⟩
def F.LGT_AMEMBER_MEMBER : Fld := ⟨.LGT_AMEMBER, 0, 31, 0⟩
def F.LGT_ASYNC_COMMIT : Fld := ⟨.LGT_ASYNC, 0, 31, 31⟩
def F.LGT_ASYNC_DISCARD : Fld := ⟨.LGT_ASYNC, 0, 30, 30⟩
def F.LGT_ASYNC_PEND : Fld := ⟨.LGT_ASYNC, 0, 29, 29⟩
def F.LGT_CMD_ARG : Fld := ⟨.LGT_CMD, 0, 31, 16⟩
def F.LGT_CMD_CMD : Fld := ⟨.LGT_CMD, 0, 2, 0⟩
def F.LGT_STATE_LEVEL : Fld := ⟨.LGT_STATE, 0, 31, 16⟩
def F.LGT_STATE_LOCKED : Fld := ⟨.LGT_STATE, 0, 11, 11⟩
def F.LGT_STATE_RANGE : Fld := ⟨.LGT_STATE, 0, 10, 10⟩
def F.LGT_STATE_UND : Fld := ⟨.LGT_STATE, 0, 7, 6⟩
def F.LGT_STATE_OUT : Fld := ⟨.LGT_STATE, 0, 5, 4⟩
def F.LGT_STATE_HELD : Fld := ⟨.LGT_STATE, 0, 3, 3⟩
def F.LGT_STATE_PSTATE : Fld := ⟨.LGT_STATE, 0, 2, 0⟩
def F.LGT_DEF_DEF : Fld := ⟨.LGT_DEF, 0, 31, 30⟩
def F.LGT_DEF_DEFLVL : Fld := ⟨.LGT_DEF, 0, 15, 0⟩
def F.LGT_DIM_LOCK : Fld := ⟨.LGT_DIM, 0, 31, 30⟩
def F.LGT_DIM_EXPMASK : Fld := ⟨.LGT_DIM, 0, 29, 26⟩
def F.LGT_DIM_CURVE : Fld := ⟨.LGT_DIM, 0, 25, 24⟩
def F.LGT_DIM_UPER : Fld := ⟨.LGT_DIM, 0, 23, 16⟩
def F.LGT_DIM_HTHR : Fld := ⟨.LGT_DIM, 0, 15, 8⟩
def F.LGT_DIM_HOVR : Fld := ⟨.LGT_DIM, 0, 4, 0⟩
def F.LGT_DIM_DUTY : Fld := ⟨.LGT_DIM, 0, 10, 0⟩
def F.LGT_SPROT_CLR : Fld := ⟨.LGT_SPROT, 0, 31, 31⟩
def F.LGT_SPROT_CAUSE : Fld := ⟨.LGT_SPROT, 0, 7, 4⟩
def F.LGT_SPROT_LATCH : Fld := ⟨.LGT_SPROT, 0, 0, 0⟩
def F.LGT_SCFG_IFS : Fld := ⟨.LGT_SCFG, 0, 23, 16⟩
def F.LGT_SCFG_VSHORT : Fld := ⟨.LGT_SCFG, 0, 15, 8⟩
def F.LGT_SCFG_IDLE : Fld := ⟨.LGT_SCFG, 0, 3, 3⟩
def F.LGT_SCFG_OPENBYP : Fld := ⟨.LGT_SCFG, 0, 2, 2⟩
def F.LGT_SCFG_STARTTEST : Fld := ⟨.LGT_SCFG, 0, 1, 1⟩
def F.LGT_SDIAG_RESULT : Fld := ⟨.LGT_SDIAG, 0, 31, 28⟩
def F.LGT_SDIAG_VOUT : Fld := ⟨.LGT_SDIAG, 0, 25, 16⟩
def F.LGT_SDIAG_IDRV : Fld := ⟨.LGT_SDIAG, 0, 11, 0⟩
def F.LGT_SCNT_SHORTS : Fld := ⟨.LGT_SCNT, 0, 31, 24⟩
def F.LGT_SCNT_OPENS : Fld := ⟨.LGT_SCNT, 0, 23, 16⟩
def F.LGT_SCNT_BYPASS : Fld := ⟨.LGT_SCNT, 0, 15, 8⟩
def F.LGT_SCNT_WINHIT : Fld := ⟨.LGT_SCNT, 0, 7, 0⟩
def F.LGT_NT_NTRES : Fld := ⟨.LGT_NT, 0, 31, 30⟩
def F.LGT_NT_PINA : Fld := ⟨.LGT_NT, 0, 25, 16⟩
def F.LGT_NT_PINB : Fld := ⟨.LGT_NT, 0, 9, 0⟩
def F.LGT_MXDIAG_RESULT : Fld := ⟨.LGT_MXDIAG, 0, 31, 28⟩
def F.LGT_MXDIAG_VSEG : Fld := ⟨.LGT_MXDIAG, 0, 7, 0⟩
def F.LGT_APROT_CLR : Fld := ⟨.LGT_APROT, 0, 31, 31⟩
def F.LGT_APROT_CAUSE : Fld := ⟨.LGT_APROT, 0, 7, 4⟩
def F.LGT_APROT_LATCH : Fld := ⟨.LGT_APROT, 0, 0, 0⟩
def F.LGT_AMDIAG_RESULT : Fld := ⟨.LGT_AMDIAG, 0, 31, 28⟩
def F.LGT_AMDIAG_CLAMP : Fld := ⟨.LGT_AMDIAG, 0, 27, 27⟩
def F.LGT_AMDIAG_WINHIT : Fld := ⟨.LGT_AMDIAG, 0, 23, 16⟩
def F.LGT_AMDIAG_GAIN : Fld := ⟨.LGT_AMDIAG, 0, 11, 0⟩
def F.LGT_CURVE_TEMP : Fld := ⟨.LGT_CURVE, 0, 31, 24⟩
def F.LGT_CURVE_GAIN : Fld := ⟨.LGT_CURVE, 0, 11, 0⟩
def F.LGT_TRIT_TEMP0 : Fld := ⟨.LGT_TRIT, 0, 31, 0⟩
def F.LGT_TRIT_TEMP1 : Fld := ⟨.LGT_TRIT, 1, 31, 0⟩
def F.LGT_TRIT_TEMP2 : Fld := ⟨.LGT_TRIT, 2, 31, 0⟩
def F.LGT_EXPW_EN : Fld := ⟨.LGT_EXPW, 0, 31, 31⟩
def F.LGT_EXPW_TPO : Fld := ⟨.LGT_EXPW, 0, 27, 24⟩
def F.LGT_EXPW_OFFS : Fld := ⟨.LGT_EXPW, 0, 23, 0⟩
def F.LGT_EXPW_ACTIVE : Fld := ⟨.LGT_EXPW, 1, 31, 31⟩
def F.LGT_EXPW_BAD : Fld := ⟨.LGT_EXPW, 1, 30, 30⟩
def F.LGT_EXPW_LEN : Fld := ⟨.LGT_EXPW, 1, 23, 0⟩
def F.LGT_STNCTL_GO : Fld := ⟨.LGT_STNCTL, 0, 31, 31⟩
def F.LGT_STNCTL_STOP : Fld := ⟨.LGT_STNCTL, 0, 30, 30⟩
def F.LGT_STNCTL_AT : Fld := ⟨.LGT_STNCTL, 0, 29, 29⟩
def F.LGT_STNCTL_SCALE : Fld := ⟨.LGT_STNCTL, 0, 28, 27⟩
def F.LGT_STNCTL_PROG : Fld := ⟨.LGT_STNCTL, 0, 6, 0⟩
def F.LGT_STNSTAT_SKIPPED : Fld := ⟨.LGT_STNSTAT, 0, 31, 24⟩
def F.LGT_STNSTAT_ERR : Fld := ⟨.LGT_STNSTAT, 0, 19, 16⟩
def F.LGT_STNSTAT_STEP : Fld := ⟨.LGT_STNSTAT, 0, 13, 8⟩
def F.LGT_STNSTAT_PAST : Fld := ⟨.LGT_STNSTAT, 0, 7, 7⟩
def F.LGT_STNSTAT_STATE : Fld := ⟨.LGT_STNSTAT, 0, 2, 0⟩
def F.LGT_STNAT_SECL : Fld := ⟨.LGT_STNAT, 0, 31, 0⟩
def F.LGT_STNAT_NSEC : Fld := ⟨.LGT_STNAT, 1, 31, 0⟩
def F.LGT_STNAT_FRAC : Fld := ⟨.LGT_STNAT, 2, 31, 16⟩
def F.LGT_STNAT_SECH : Fld := ⟨.LGT_STNAT, 2, 15, 0⟩
def F.LGT_CTL_NTFULL : Fld := ⟨.LGT_CTL, 0, 31, 31⟩
def F.LGT_CTL_NTREQ : Fld := ⟨.LGT_CTL, 0, 15, 0⟩
def F.LGT_STAT_NTBUSY : Fld := ⟨.LGT_STAT, 0, 31, 31⟩
def F.LGT_STAT_VLOW : Fld := ⟨.LGT_STAT, 0, 30, 30⟩
def F.LGT_STAT_TSHUT : Fld := ⟨.LGT_STAT, 0, 29, 29⟩
def F.LGT_STAT_TWARN : Fld := ⟨.LGT_STAT, 0, 28, 28⟩
def F.LGT_STAT_VLED : Fld := ⟨.LGT_STAT, 0, 25, 16⟩
def F.LGT_STAT_TJ : Fld := ⟨.LGT_STAT, 0, 8, 0⟩
def F.FIN_CFG_MODE : Fld := ⟨.FIN_CFG, 0, 31, 31⟩
def F.FIN_CFG_POL : Fld := ⟨.FIN_CFG, 0, 30, 30⟩
def F.FIN_CFG_THR : Fld := ⟨.FIN_CFG, 0, 29, 29⟩
def F.FIN_CFG_WET : Fld := ⟨.FIN_CFG, 0, 28, 27⟩
def F.FIN_CFG_CLEAN : Fld := ⟨.FIN_CFG, 0, 26, 26⟩
def F.FIN_CFG_CLNLEN : Fld := ⟨.FIN_CFG, 0, 25, 22⟩
def F.FIN_CFG_INV : Fld := ⟨.FIN_CFG, 0, 21, 21⟩
def F.FIN_CFG_NOTIFY : Fld := ⟨.FIN_CFG, 0, 20, 20⟩
def F.FIN_CFG_STAMP : Fld := ⟨.FIN_CFG, 0, 19, 19⟩
def F.FIN_CFG_EVQ : Fld := ⟨.FIN_CFG, 0, 18, 16⟩
def F.FIN_CFG_PGRP : Fld := ⟨.FIN_CFG, 0, 15, 12⟩
def F.FIN_FILT_FILT : Fld := ⟨.FIN_FILT, 0, 15, 0⟩
def F.FIN_STATE_TOGGLES : Fld := ⟨.FIN_STATE, 0, 31, 16⟩
def F.FIN_STATE_CLNW : Fld := ⟨.FIN_STATE, 0, 3, 3⟩
def F.FIN_STATE_CLNACT : Fld := ⟨.FIN_STATE, 0, 2, 2⟩
def F.FIN_STATE_RAW : Fld := ⟨.FIN_STATE, 0, 1, 1⟩
def F.FIN_STATE_STATE : Fld := ⟨.FIN_STATE, 0, 0, 0⟩
def F.FIN_ACFG_RANGE : Fld := ⟨.FIN_ACFG, 0, 31, 31⟩
def F.FIN_ACFG_SPER : Fld := ⟨.FIN_ACFG, 0, 23, 16⟩
def F.FIN_ATHR_HI : Fld := ⟨.FIN_ATHR, 0, 27, 16⟩
def F.FIN_ATHR_LO : Fld := ⟨.FIN_ATHR, 0, 11, 0⟩
def F.FIN_AVAL_SEQ : Fld := ⟨.FIN_AVAL, 0, 31, 16⟩
def F.FIN_AVAL_VALUE : Fld := ⟨.FIN_AVAL, 0, 11, 0⟩
def F.FIN_FSTAMP_SECL : Fld := ⟨.FIN_FSTAMP, 0, 31, 0⟩
def F.FIN_FSTAMP_NSEC : Fld := ⟨.FIN_FSTAMP, 1, 31, 0⟩
def F.FIN_FSTAMP_FRAC : Fld := ⟨.FIN_FSTAMP, 2, 31, 16⟩
def F.FIN_FSTAMP_SECH : Fld := ⟨.FIN_FSTAMP, 2, 15, 0⟩
def F.FIN_FSTAMP_SEQ : Fld := ⟨.FIN_FSTAMP, 3, 31, 16⟩
def F.FIN_FSTAMP_OVR : Fld := ⟨.FIN_FSTAMP, 3, 15, 8⟩
def F.FIN_FSTAMP_RISE : Fld := ⟨.FIN_FSTAMP, 3, 1, 1⟩
def F.FIN_PGRP_EN : Fld := ⟨.FIN_PGRP, 0, 31, 31⟩
def F.FIN_PGRP_TSET : Fld := ⟨.FIN_PGRP, 0, 30, 24⟩
def F.FIN_PGRP_DPER : Fld := ⟨.FIN_PGRP, 0, 23, 12⟩
def F.FIN_PGRP_PER : Fld := ⟨.FIN_PGRP, 0, 11, 0⟩
def F.FIN_STAT_CLNDROP : Fld := ⟨.FIN_STAT, 0, 31, 24⟩
def F.FIN_STAT_EVDROP : Fld := ⟨.FIN_STAT, 0, 23, 16⟩
def F.FIN_STAT_POLLWAKE : Fld := ⟨.FIN_STAT, 0, 15, 8⟩
def F.FIN_STAT_LASTGRP : Fld := ⟨.FIN_STAT, 0, 3, 0⟩
def F.CAN_CTL_EN : Fld := ⟨.CAN_CTL, 0, 31, 31⟩
def F.CAN_CTL_FDEN : Fld := ⟨.CAN_CTL, 0, 30, 30⟩
def F.CAN_CTL_ROM : Fld := ⟨.CAN_CTL, 0, 29, 29⟩
def F.CAN_CTL_DAR : Fld := ⟨.CAN_CTL, 0, 28, 28⟩
def F.CAN_CTL_BOAUTO : Fld := ⟨.CAN_CTL, 0, 27, 27⟩
def F.CAN_CTL_LOOP : Fld := ⟨.CAN_CTL, 0, 26, 26⟩
def F.CAN_CTL_BORREQ : Fld := ⟨.CAN_CTL, 0, 25, 25⟩
def F.CAN_NBT_BRP : Fld := ⟨.CAN_NBT, 0, 31, 23⟩
def F.CAN_NBT_SJW : Fld := ⟨.CAN_NBT, 0, 22, 16⟩
def F.CAN_NBT_TSEG1 : Fld := ⟨.CAN_NBT, 0, 15, 8⟩
def F.CAN_NBT_TSEG2 : Fld := ⟨.CAN_NBT, 0, 7, 0⟩
def F.CAN_DBT_BRP : Fld := ⟨.CAN_DBT, 0, 28, 24⟩
def F.CAN_DBT_SJW : Fld := ⟨.CAN_DBT, 0, 19, 16⟩
def F.CAN_DBT_TSEG1 : Fld := ⟨.CAN_DBT, 0, 12, 8⟩
def F.CAN_DBT_TSEG2 : Fld := ⟨.CAN_DBT, 0, 3, 0⟩
def F.CAN_TDC_EN : Fld := ⟨.CAN_TDC, 0, 31, 31⟩
def F.CAN_TDC_TDCV : Fld := ⟨.CAN_TDC, 0, 22, 16⟩
def F.CAN_TDC_OFFS : Fld := ⟨.CAN_TDC, 0, 14, 8⟩
def F.CAN_STAT_ESTATE : Fld := ⟨.CAN_STAT, 0, 31, 30⟩
def F.CAN_STAT_ROMACT : Fld := ⟨.CAN_STAT, 0, 29, 29⟩
def F.CAN_STAT_BUSY : Fld := ⟨.CAN_STAT, 0, 28, 28⟩
def F.CAN_STAT_BADTIM : Fld := ⟨.CAN_STAT, 0, 27, 27⟩
def F.CAN_STAT_TXPEND : Fld := ⟨.CAN_STAT, 0, 15, 8⟩
def F.CAN_STAT_DLEC : Fld := ⟨.CAN_STAT, 0, 6, 4⟩
def F.CAN_STAT_LEC : Fld := ⟨.CAN_STAT, 0, 2, 0⟩
def F.CAN_ERRC_REC : Fld := ⟨.CAN_ERRC, 0, 23, 16⟩
def F.CAN_ERRC_RP : Fld := ⟨.CAN_ERRC, 0, 15, 15⟩
def F.CAN_ERRC_TEC : Fld := ⟨.CAN_ERRC, 0, 8, 0⟩
def F.CAN_ECNT0_STUFF : Fld := ⟨.CAN_ECNT0, 0, 31, 24⟩
def F.CAN_ECNT0_FORM : Fld := ⟨.CAN_ECNT0, 0, 23, 16⟩
def F.CAN_ECNT0_CRC : Fld := ⟨.CAN_ECNT0, 0, 15, 8⟩
def F.CAN_ECNT0_BIT : Fld := ⟨.CAN_ECNT0, 0, 7, 0⟩
def F.CAN_ECNT1_ACK : Fld := ⟨.CAN_ECNT1, 0, 31, 24⟩
def F.CAN_ECNT1_BUSOFF : Fld := ⟨.CAN_ECNT1, 0, 23, 16⟩
def F.CAN_ECNT1_RXDROP : Fld := ⟨.CAN_ECNT1, 0, 15, 8⟩
def F.CAN_ECNT1_PXE : Fld := ⟨.CAN_ECNT1, 0, 7, 0⟩
def F.CAN_FIFOCTL_EN : Fld := ⟨.CAN_FIFOCTL, 0, 31, 31⟩
def F.CAN_FIFOCTL_ALL : Fld := ⟨.CAN_FIFOCTL, 0, 30, 30⟩
def F.CAN_FIFOCTL_NOTIFY : Fld := ⟨.CAN_FIFOCTL, 0, 29, 29⟩
def F.CAN_FIFOCTL_WM : Fld := ⟨.CAN_FIFOCTL, 0, 22, 16⟩
def F.CAN_FIFOCTL_FIFOOVR : Fld := ⟨.CAN_FIFOCTL, 0, 15, 8⟩
def F.CAN_FIFOCTL_FILL : Fld := ⟨.CAN_FIFOCTL, 0, 6, 0⟩
def F.CAN_FIFOID_IDE : Fld := ⟨.CAN_FIFOID, 0, 29, 29⟩
def F.CAN_FIFOID_ID : Fld := ⟨.CAN_FIFOID, 0, 28, 0⟩
def F.CAN_FIFOMSK_MASK : Fld := ⟨.CAN_FIFOMSK, 0, 28, 0⟩
def F.CAN_PBID_IDE : Fld := ⟨.CAN_PBID, 0, 29, 29⟩
def F.CAN_PBID_ID : Fld := ⟨.CAN_PBID, 0, 28, 0⟩
def F.CAN_PBMSK_NOTIFY : Fld := ⟨.CAN_PBMSK, 0, 31, 31⟩
def F.CAN_PBMSK_MASK : Fld := ⟨.CAN_PBMSK, 0, 28, 0⟩
def F.CAN_PB_IDE : Fld := ⟨.CAN_PB, 0, 31, 31⟩
def F.CAN_PB_ID : Fld := ⟨.CAN_PB, 0, 28, 0⟩
def F.CAN_PB_FDF : Fld := ⟨.CAN_PB, 1, 31, 31⟩
def F.CAN_PB_BRS : Fld := ⟨.CAN_PB, 1, 30, 30⟩
def F.CAN_PB_ESI : Fld := ⟨.CAN_PB, 1, 29, 29⟩
def F.CAN_PB_RTR : Fld := ⟨.CAN_PB, 1, 28, 28⟩
def F.CAN_PB_DLC : Fld := ⟨.CAN_PB, 1, 3, 0⟩
def F.CAN_PB_STAMP_SECL : Fld := ⟨.CAN_PB, 2, 31, 0⟩
def F.CAN_PB_STAMP_NSEC : Fld := ⟨.CAN_PB, 3, 31, 0⟩
def F.CAN_PB_STAMP_FRAC : Fld := ⟨.CAN_PB, 4, 31, 16⟩
def F.CAN_PB_STAMP_SECH : Fld := ⟨.CAN_PB, 4, 15, 0⟩
def F.CAN_PB_DATA : Fld := ⟨.CAN_PB, 6, 31, 0⟩
def F.CAN_PB_DATA_1 : Fld := ⟨.CAN_PB, 7, 31, 0⟩
def F.CAN_PB_DATA_2 : Fld := ⟨.CAN_PB, 8, 31, 0⟩
def F.CAN_PB_DATA_3 : Fld := ⟨.CAN_PB, 9, 31, 0⟩
def F.CAN_PB_DATA_4 : Fld := ⟨.CAN_PB, 10, 31, 0⟩
def F.CAN_PB_DATA_5 : Fld := ⟨.CAN_PB, 11, 31, 0⟩
def F.CAN_PB_DATA_6 : Fld := ⟨.CAN_PB, 12, 31, 0⟩
def F.CAN_PB_DATA_7 : Fld := ⟨.CAN_PB, 13, 31, 0⟩
def F.CAN_PB_DATA_8 : Fld := ⟨.CAN_PB, 14, 31, 0⟩
def F.CAN_PB_DATA_9 : Fld := ⟨.CAN_PB, 15, 31, 0⟩
def F.CAN_PB_DATA_10 : Fld := ⟨.CAN_PB, 16, 31, 0⟩
def F.CAN_PB_DATA_11 : Fld := ⟨.CAN_PB, 17, 31, 0⟩
def F.CAN_PB_DATA_12 : Fld := ⟨.CAN_PB, 18, 31, 0⟩
def F.CAN_PB_DATA_13 : Fld := ⟨.CAN_PB, 19, 31, 0⟩
def F.CAN_PB_DATA_14 : Fld := ⟨.CAN_PB, 20, 31, 0⟩
def F.CAN_PB_DATA_15 : Fld := ⟨.CAN_PB, 21, 31, 0⟩
def F.CAN_PB_NEW : Fld := ⟨.CAN_PB, 23, 31, 31⟩
def F.CAN_PB_OVR : Fld := ⟨.CAN_PB, 23, 23, 16⟩
def F.CAN_PB_SEQ : Fld := ⟨.CAN_PB, 23, 15, 0⟩
def F.CAN_FIFO_IDE : Fld := ⟨.CAN_FIFO, 0, 31, 31⟩
def F.CAN_FIFO_ID : Fld := ⟨.CAN_FIFO, 0, 28, 0⟩
def F.CAN_FIFO_FDF : Fld := ⟨.CAN_FIFO, 1, 31, 31⟩
def F.CAN_FIFO_BRS : Fld := ⟨.CAN_FIFO, 1, 30, 30⟩
def F.CAN_FIFO_ESI : Fld := ⟨.CAN_FIFO, 1, 29, 29⟩
def F.CAN_FIFO_RTR : Fld := ⟨.CAN_FIFO, 1, 28, 28⟩
def F.CAN_FIFO_DLC : Fld := ⟨.CAN_FIFO, 1, 3, 0⟩
def F.CAN_FIFO_STAMP_SECL : Fld := ⟨.CAN_FIFO, 2, 31, 0⟩
def F.CAN_FIFO_STAMP_NSEC : Fld := ⟨.CAN_FIFO, 3, 31, 0⟩
def F.CAN_FIFO_STAMP_FRAC : Fld := ⟨.CAN_FIFO, 4, 31, 16⟩
def F.CAN_FIFO_STAMP_SECH : Fld := ⟨.CAN_FIFO, 4, 15, 0⟩
def F.CAN_FIFO_DATA : Fld := ⟨.CAN_FIFO, 6, 31, 0⟩
def F.CAN_FIFO_DATA_1 : Fld := ⟨.CAN_FIFO, 7, 31, 0⟩
def F.CAN_FIFO_DATA_2 : Fld := ⟨.CAN_FIFO, 8, 31, 0⟩
def F.CAN_FIFO_DATA_3 : Fld := ⟨.CAN_FIFO, 9, 31, 0⟩
def F.CAN_FIFO_DATA_4 : Fld := ⟨.CAN_FIFO, 10, 31, 0⟩
def F.CAN_FIFO_DATA_5 : Fld := ⟨.CAN_FIFO, 11, 31, 0⟩
def F.CAN_FIFO_DATA_6 : Fld := ⟨.CAN_FIFO, 12, 31, 0⟩
def F.CAN_FIFO_DATA_7 : Fld := ⟨.CAN_FIFO, 13, 31, 0⟩
def F.CAN_FIFO_DATA_8 : Fld := ⟨.CAN_FIFO, 14, 31, 0⟩
def F.CAN_FIFO_DATA_9 : Fld := ⟨.CAN_FIFO, 15, 31, 0⟩
def F.CAN_FIFO_DATA_10 : Fld := ⟨.CAN_FIFO, 16, 31, 0⟩
def F.CAN_FIFO_DATA_11 : Fld := ⟨.CAN_FIFO, 17, 31, 0⟩
def F.CAN_FIFO_DATA_12 : Fld := ⟨.CAN_FIFO, 18, 31, 0⟩
def F.CAN_FIFO_DATA_13 : Fld := ⟨.CAN_FIFO, 19, 31, 0⟩
def F.CAN_FIFO_DATA_14 : Fld := ⟨.CAN_FIFO, 20, 31, 0⟩
def F.CAN_FIFO_DATA_15 : Fld := ⟨.CAN_FIFO, 21, 31, 0⟩
def F.CAN_FIFO_NEW : Fld := ⟨.CAN_FIFO, 23, 31, 31⟩
def F.CAN_FIFO_OVR : Fld := ⟨.CAN_FIFO, 23, 23, 16⟩
def F.CAN_FIFO_SEQ : Fld := ⟨.CAN_FIFO, 23, 15, 0⟩
def F.CAN_MBID_DIR : Fld := ⟨.CAN_MBID, 0, 31, 30⟩
def F.CAN_MBID_IDE : Fld := ⟨.CAN_MBID, 0, 29, 29⟩
def F.CAN_MBID_ID : Fld := ⟨.CAN_MBID, 0, 28, 0⟩
def F.CAN_MBMSK_NOTIFY : Fld := ⟨.CAN_MBMSK, 0, 31, 31⟩
def F.CAN_MBMSK_MASK : Fld := ⟨.CAN_MBMSK, 0, 28, 0⟩
def F.CAN_MB_IDE : Fld := ⟨.CAN_MB, 0, 31, 31⟩
def F.CAN_MB_ID : Fld := ⟨.CAN_MB, 0, 28, 0⟩
def F.CAN_MB_FDF : Fld := ⟨.CAN_MB, 1, 31, 31⟩
def F.CAN_MB_BRS : Fld := ⟨.CAN_MB, 1, 30, 30⟩
def F.CAN_MB_ESI : Fld := ⟨.CAN_MB, 1, 29, 29⟩
def F.CAN_MB_RTR : Fld := ⟨.CAN_MB, 1, 28, 28⟩
def F.CAN_MB_DLC : Fld := ⟨.CAN_MB, 1, 3, 0⟩
def F.CAN_MB_STAMP_SECL : Fld := ⟨.CAN_MB, 2, 31, 0⟩
def F.CAN_MB_STAMP_NSEC : Fld := ⟨.CAN_MB, 3, 31, 0⟩
def F.CAN_MB_STAMP_FRAC : Fld := ⟨.CAN_MB, 4, 31, 16⟩
def F.CAN_MB_STAMP_SECH : Fld := ⟨.CAN_MB, 4, 15, 0⟩
def F.CAN_MB_DATA : Fld := ⟨.CAN_MB, 6, 31, 0⟩
def F.CAN_MB_DATA_1 : Fld := ⟨.CAN_MB, 7, 31, 0⟩
def F.CAN_MB_DATA_2 : Fld := ⟨.CAN_MB, 8, 31, 0⟩
def F.CAN_MB_DATA_3 : Fld := ⟨.CAN_MB, 9, 31, 0⟩
def F.CAN_MB_DATA_4 : Fld := ⟨.CAN_MB, 10, 31, 0⟩
def F.CAN_MB_DATA_5 : Fld := ⟨.CAN_MB, 11, 31, 0⟩
def F.CAN_MB_DATA_6 : Fld := ⟨.CAN_MB, 12, 31, 0⟩
def F.CAN_MB_DATA_7 : Fld := ⟨.CAN_MB, 13, 31, 0⟩
def F.CAN_MB_DATA_8 : Fld := ⟨.CAN_MB, 14, 31, 0⟩
def F.CAN_MB_DATA_9 : Fld := ⟨.CAN_MB, 15, 31, 0⟩
def F.CAN_MB_DATA_10 : Fld := ⟨.CAN_MB, 16, 31, 0⟩
def F.CAN_MB_DATA_11 : Fld := ⟨.CAN_MB, 17, 31, 0⟩
def F.CAN_MB_DATA_12 : Fld := ⟨.CAN_MB, 18, 31, 0⟩
def F.CAN_MB_DATA_13 : Fld := ⟨.CAN_MB, 19, 31, 0⟩
def F.CAN_MB_DATA_14 : Fld := ⟨.CAN_MB, 20, 31, 0⟩
def F.CAN_MB_DATA_15 : Fld := ⟨.CAN_MB, 21, 31, 0⟩
def F.CAN_MB_NEW : Fld := ⟨.CAN_MB, 23, 31, 31⟩
def F.CAN_MB_OVR : Fld := ⟨.CAN_MB, 23, 23, 16⟩
def F.CAN_MB_TXREQ : Fld := ⟨.CAN_MB, 23, 31, 31⟩
def F.CAN_MB_TXABT : Fld := ⟨.CAN_MB, 23, 30, 30⟩
def F.CAN_MB_DONE : Fld := ⟨.CAN_MB, 23, 29, 29⟩
def F.CAN_MB_RES : Fld := ⟨.CAN_MB, 23, 28, 27⟩
def F.CAN_MB_SEQ : Fld := ⟨.CAN_MB, 23, 15, 0⟩
def F.LIN_CTL_EN : Fld := ⟨.LIN_CTL, 0, 31, 31⟩
def F.LIN_CTL_SLOPE : Fld := ⟨.LIN_CTL, 0, 30, 30⟩
def F.LIN_CTL_BRK : Fld := ⟨.LIN_CTL, 0, 22, 20⟩
def F.LIN_CTL_BAUD : Fld := ⟨.LIN_CTL, 0, 14, 0⟩
def F.LIN_SCHCTL_RUN : Fld := ⟨.LIN_SCHCTL, 0, 31, 31⟩
def F.LIN_SCHCTL_SWREQ : Fld := ⟨.LIN_SCHCTL, 0, 30, 30⟩
def F.LIN_SCHCTL_SEL : Fld := ⟨.LIN_SCHCTL, 0, 29, 28⟩
def F.LIN_SCHCTL_ACT : Fld := ⟨.LIN_SCHCTL, 0, 27, 26⟩
def F.LIN_SCHCTL_COLLRUN : Fld := ⟨.LIN_SCHCTL, 0, 25, 25⟩
def F.LIN_SCHCTL_ENTRY : Fld := ⟨.LIN_SCHCTL, 0, 5, 0⟩
def F.LIN_STAT_INCOMP : Fld := ⟨.LIN_STAT, 0, 31, 24⟩
def F.LIN_STAT_COLL : Fld := ⟨.LIN_STAT, 0, 23, 16⟩
def F.LIN_STAT_SLOTOVR : Fld := ⟨.LIN_STAT, 0, 15, 8⟩
def F.LIN_STAT_BUSY : Fld := ⟨.LIN_STAT, 0, 0, 0⟩
def F.LIN_ECNT_NORESP : Fld := ⟨.LIN_ECNT, 0, 31, 24⟩
def F.LIN_ECNT_CHKSUM : Fld := ⟨.LIN_ECNT, 0, 23, 16⟩
def F.LIN_ECNT_BITERR : Fld := ⟨.LIN_ECNT, 0, 15, 8⟩
def F.LIN_ECNT_FRAMING : Fld := ⟨.LIN_ECNT, 0, 7, 0⟩
def F.LIN_FCFG_EN : Fld := ⟨.LIN_FCFG, 0, 31, 31⟩
def F.LIN_FCFG_DIR : Fld := ⟨.LIN_FCFG, 0, 30, 30⟩
def F.LIN_FCFG_CHK : Fld := ⟨.LIN_FCFG, 0, 29, 29⟩
def F.LIN_FCFG_NOTIFY : Fld := ⟨.LIN_FCFG, 0, 28, 28⟩
def F.LIN_FCFG_LEN : Fld := ⟨.LIN_FCFG, 0, 3, 0⟩
def F.LIN_FR_DATA : Fld := ⟨.LIN_FR, 0, 31, 0⟩
def F.LIN_FR_DATA_1 : Fld := ⟨.LIN_FR, 1, 31, 0⟩
def F.LIN_FR_NEW : Fld := ⟨.LIN_FR, 2, 31, 31⟩
def F.LIN_FR_UPD : Fld := ⟨.LIN_FR, 2, 30, 30⟩
def F.LIN_FR_ERR : Fld := ⟨.LIN_FR, 2, 27, 24⟩
def F.LIN_FR_SEQ : Fld := ⟨.LIN_FR, 2, 15, 0⟩
def F.LIN_ENT_TYPE : Fld := ⟨.LIN_ENT, 0, 31, 30⟩
def F.LIN_ENT_COLL : Fld := ⟨.LIN_ENT, 0, 29, 28⟩
def F.LIN_ENT_SPN : Fld := ⟨.LIN_ENT, 0, 18, 16⟩
def F.LIN_ENT_FID : Fld := ⟨.LIN_ENT, 0, 5, 0⟩
def F.LIN_ENT_SLOT : Fld := ⟨.LIN_ENT, 1, 15, 0⟩
def F.NWK_CTL_AUTOPARK : Fld := ⟨.NWK_CTL, 0, 31, 31⟩
def F.NWK_CTL_TEST : Fld := ⟨.NWK_CTL, 0, 30, 30⟩
def F.NWK_CTL_RECWIN : Fld := ⟨.NWK_CTL, 0, 23, 16⟩
def F.NWK_CTL_GUARD : Fld := ⟨.NWK_CTL, 0, 15, 8⟩
def F.NWK_CTL_PFILT : Fld := ⟨.NWK_CTL, 0, 7, 0⟩
def F.NWK_SLPSET_SET : Fld := ⟨.NWK_SLPSET, 0, 21, 0⟩
def F.NWK_STAT_SLPALL : Fld := ⟨.NWK_STAT, 0, 31, 31⟩
def F.NWK_STAT_STARTUP : Fld := ⟨.NWK_STAT, 0, 30, 30⟩
def F.NWK_STAT_WFSKIP : Fld := ⟨.NWK_STAT, 0, 29, 22⟩
def F.NWK_STAT_WOKE : Fld := ⟨.NWK_STAT, 0, 21, 0⟩
def F.NWK_WIO_WIEN : Fld := ⟨.NWK_WIO, 0, 31, 31⟩
def F.NWK_WIO_WILATCH : Fld := ⟨.NWK_WIO, 0, 30, 30⟩
def F.NWK_WIO_WIFILT : Fld := ⟨.NWK_WIO, 0, 29, 24⟩
def F.NWK_WIO_LOOPIGN : Fld := ⟨.NWK_WIO, 0, 23, 23⟩
def F.NWK_WIO_WOAUTO : Fld := ⟨.NWK_WIO, 0, 22, 22⟩
def F.NWK_WIO_WOLVL : Fld := ⟨.NWK_WIO, 0, 21, 21⟩
def F.NWK_WIO_WILVL : Fld := ⟨.NWK_WIO, 0, 20, 20⟩
def F.NWK_WIO_WOLEN : Fld := ⟨.NWK_WIO, 0, 15, 0⟩
def F.NWK_TRC_MODE : Fld := ⟨.NWK_TRC, 0, 31, 30⟩
def F.NWK_TRC_STATE : Fld := ⟨.NWK_TRC, 0, 29, 28⟩
def F.NWK_TRC_GOING : Fld := ⟨.NWK_TRC, 0, 27, 27⟩
def F.NWK_TRC_WKEN : Fld := ⟨.NWK_TRC, 0, 26, 26⟩
def F.NWK_TRC_SWEN : Fld := ⟨.NWK_TRC, 0, 25, 25⟩
def F.NWK_TRC_AUTONORM : Fld := ⟨.NWK_TRC, 0, 24, 24⟩
def F.NWK_TRC_WFEN : Fld := ⟨.NWK_TRC, 0, 23, 23⟩
def F.NWK_TRC_WFMB : Fld := ⟨.NWK_TRC, 0, 22, 16⟩
def F.NWK_SWCFG_FDPASS : Fld := ⟨.NWK_SWCFG, 0, 31, 31⟩
def F.NWK_SWCFG_RATE : Fld := ⟨.NWK_SWCFG, 0, 27, 26⟩
def F.NWK_SWCFG_ERRLIM : Fld := ⟨.NWK_SWCFG, 0, 20, 16⟩
def F.NWK_SWCFG_FEC : Fld := ⟨.NWK_SWCFG, 0, 4, 0⟩
def F.NWK_FW_BACKOFF : Fld := ⟨.NWK_FW, 0, 31, 24⟩
def F.NWK_FW_FWLIM : Fld := ⟨.NWK_FW, 0, 23, 20⟩
def F.NWK_FW_FWCNT : Fld := ⟨.NWK_FW, 0, 19, 16⟩
def F.NWK_FW_BOACT : Fld := ⟨.NWK_FW, 0, 15, 15⟩
def F.NWK_FW_RECACT : Fld := ⟨.NWK_FW, 0, 14, 14⟩
def F.NWK_FW_FWWIN : Fld := ⟨.NWK_FW, 0, 13, 7⟩
def F.NWK_CNT_WAKES : Fld := ⟨.NWK_CNT, 0, 31, 24⟩
def F.NWK_CNT_FALSE : Fld := ⟨.NWK_CNT, 0, 23, 16⟩
def F.NWK_CNT_UNCONF : Fld := ⟨.NWK_CNT, 0, 15, 8⟩
def F.NWK_CNT_BACKOFFS : Fld := ⟨.NWK_CNT, 0, 7, 0⟩
def F.NWK_SET_EN : Fld := ⟨.NWK_SET, 0, 31, 31⟩
def F.NWK_SET_IDE : Fld := ⟨.NWK_SET, 0, 30, 30⟩
def F.NWK_SET_ID : Fld := ⟨.NWK_SET, 0, 28, 0⟩
def F.NWK_SET_MASK : Fld := ⟨.NWK_SET, 1, 28, 0⟩
def F.NWK_SET_DLC : Fld := ⟨.NWK_SET, 2, 3, 0⟩
def F.NWK_SET_DMASK : Fld := ⟨.NWK_SET, 3, 31, 0⟩
def F.NWK_SET_DMASK_1 : Fld := ⟨.NWK_SET, 4, 31, 0⟩
def F.NWK_WKFR_STAMP_SECL : Fld := ⟨.NWK_WKFR, 0, 31, 0⟩
def F.NWK_WKFR_STAMP_NSEC : Fld := ⟨.NWK_WKFR, 1, 31, 0⟩
def F.NWK_WKFR_STAMP_FRAC : Fld := ⟨.NWK_WKFR, 2, 31, 16⟩
def F.NWK_WKFR_STAMP_SECH : Fld := ⟨.NWK_WKFR, 2, 15, 0⟩
def F.NWK_WKFR_IDE : Fld := ⟨.NWK_WKFR, 3, 31, 31⟩
def F.NWK_WKFR_ID : Fld := ⟨.NWK_WKFR, 3, 28, 0⟩
def F.NWK_WKFR_VALID : Fld := ⟨.NWK_WKFR, 4, 31, 31⟩
def F.NWK_WKFR_COARSE : Fld := ⟨.NWK_WKFR, 4, 30, 30⟩
def F.NWK_WKFR_SRC : Fld := ⟨.NWK_WKFR, 4, 29, 27⟩
def F.NWK_WKFR_DLC : Fld := ⟨.NWK_WKFR, 4, 3, 0⟩
def F.NWK_WKFR_DATA : Fld := ⟨.NWK_WKFR, 5, 31, 0⟩
def F.NWK_WKFR_DATA_1 : Fld := ⟨.NWK_WKFR, 6, 31, 0⟩

end Sys2Proof.Machine
end

