-- ==== Sys2Proof/Machine/FieldNamesC.lean ====
section
/-! DEFINITION. The fields of the registers of blocks 10 to 17 by name: F.REGISTER_FIELD is REGISTER.FIELD. -/

set_option Elab.async false

namespace Sys2Proof.Machine

def F.GWY_CTL_EN : Fld := ⟨.GWY_CTL, 0, 31, 31⟩
def F.GWY_CTL_QAGE : Fld := ⟨.GWY_CTL, 0, 7, 0⟩
def F.GWY_STAT_BADCPL : Fld := ⟨.GWY_STAT, 0, 31, 20⟩
def F.GWY_STAT_PFNEXT : Fld := ⟨.GWY_STAT, 0, 19, 16⟩
def F.GWY_STAT_FANOUT : Fld := ⟨.GWY_STAT, 0, 15, 8⟩
def F.GWY_STAT_PFDISC : Fld := ⟨.GWY_STAT, 0, 7, 0⟩
def F.GWY_SIG_LEVEL : Fld := ⟨.GWY_SIG, 0, 31, 31⟩
def F.GWY_SIG_SIG : Fld := ⟨.GWY_SIG, 0, 4, 0⟩
def F.GWY_RBASE_BASE : Fld := ⟨.GWY_RBASE, 0, 31, 7⟩
def F.GWY_RSIZE_SIZE : Fld := ⟨.GWY_RSIZE, 0, 10, 0⟩
def F.GWY_RHEAD_HEAD : Fld := ⟨.GWY_RHEAD, 0, 9, 0⟩
def F.GWY_RTAIL_TAIL : Fld := ⟨.GWY_RTAIL, 0, 9, 0⟩
def F.GWY_RDROP_DROP : Fld := ⟨.GWY_RDROP, 0, 15, 0⟩
def F.GWY_RQ_ADDR : Fld := ⟨.GWY_RQ, 0, 31, 0⟩
def F.GWY_RQ_DATA : Fld := ⟨.GWY_RQ, 1, 31, 0⟩
def F.GWY_RQ_DATA_1 : Fld := ⟨.GWY_RQ, 2, 31, 0⟩
def F.GWY_RQ_DATA_2 : Fld := ⟨.GWY_RQ, 3, 31, 0⟩
def F.GWY_RQ_DATA_3 : Fld := ⟨.GWY_RQ, 4, 31, 0⟩
def F.GWY_RQ_DATA_4 : Fld := ⟨.GWY_RQ, 5, 31, 0⟩
def F.GWY_RQ_DATA_5 : Fld := ⟨.GWY_RQ, 6, 31, 0⟩
def F.GWY_RQ_DATA_6 : Fld := ⟨.GWY_RQ, 7, 31, 0⟩
def F.GWY_RQ_DATA_7 : Fld := ⟨.GWY_RQ, 8, 31, 0⟩
def F.GWY_RQ_DATA_8 : Fld := ⟨.GWY_RQ, 9, 31, 0⟩
def F.GWY_RQ_DATA_9 : Fld := ⟨.GWY_RQ, 10, 31, 0⟩
def F.GWY_RQ_DATA_10 : Fld := ⟨.GWY_RQ, 11, 31, 0⟩
def F.GWY_RQ_DATA_11 : Fld := ⟨.GWY_RQ, 12, 31, 0⟩
def F.GWY_RQ_DATA_12 : Fld := ⟨.GWY_RQ, 13, 31, 0⟩
def F.GWY_RQ_OP : Fld := ⟨.GWY_RQ, 15, 31, 28⟩
def F.GWY_RQ_GRP : Fld := ⟨.GWY_RQ, 15, 27, 22⟩
def F.GWY_RQ_COUNT : Fld := ⟨.GWY_RQ, 15, 21, 18⟩
def F.GWY_RQ_TAG : Fld := ⟨.GWY_RQ, 15, 15, 8⟩
def F.GWY_GRP_CPLREQ : Fld := ⟨.GWY_GRP, 0, 27, 16⟩
def F.GWY_GRP_CPLRSP : Fld := ⟨.GWY_GRP, 0, 11, 0⟩
def F.GWY_GRP_TMO : Fld := ⟨.GWY_GRP, 1, 31, 16⟩
def F.GWY_GRP_PFAGE : Fld := ⟨.GWY_GRP, 1, 15, 8⟩
def F.GWY_GRP_PFLEN : Fld := ⟨.GWY_GRP, 1, 3, 0⟩
def F.GWY_GRP_BASE0 : Fld := ⟨.GWY_GRP, 2, 31, 0⟩
def F.GWY_GRP_SIZE0 : Fld := ⟨.GWY_GRP, 3, 31, 0⟩
def F.GWY_GRP_BASE1 : Fld := ⟨.GWY_GRP, 4, 31, 0⟩
def F.GWY_GRP_SIZE1 : Fld := ⟨.GWY_GRP, 5, 31, 0⟩
def F.GWY_GRP_BASE2 : Fld := ⟨.GWY_GRP, 6, 31, 0⟩
def F.GWY_GRP_SIZE2 : Fld := ⟨.GWY_GRP, 7, 31, 0⟩
def F.GWY_GRP_BASE3 : Fld := ⟨.GWY_GRP, 8, 31, 0⟩
def F.GWY_GRP_SIZE3 : Fld := ⟨.GWY_GRP, 9, 31, 0⟩
def F.GWY_GRP_OUT : Fld := ⟨.GWY_GRP, 10, 8, 0⟩
def F.GWY_TUN_STREAM : Fld := ⟨.GWY_TUN, 0, 31, 0⟩
def F.GWY_TUN_STREAM_1 : Fld := ⟨.GWY_TUN, 1, 31, 0⟩
def F.GWY_TUN_MAC : Fld := ⟨.GWY_TUN, 2, 31, 0⟩
def F.GWY_TUN_MAC_1 : Fld := ⟨.GWY_TUN, 3, 15, 0⟩
def F.GWY_TUN_RXEN : Fld := ⟨.GWY_TUN, 4, 31, 31⟩
def F.GWY_TUN_VID : Fld := ⟨.GWY_TUN, 4, 27, 16⟩
def F.GWY_TUN_PCP : Fld := ⟨.GWY_TUN, 4, 15, 13⟩
def F.GWY_TUN_AGG : Fld := ⟨.GWY_TUN, 4, 9, 0⟩
def F.GWY_TUN_SEQGAP : Fld := ⟨.GWY_TUN, 5, 31, 16⟩
def F.GWY_TUN_BADTYPE : Fld := ⟨.GWY_TUN, 5, 15, 0⟩
def F.GWY_PFLOG_ADDR : Fld := ⟨.GWY_PFLOG, 0, 31, 0⟩
def F.GWY_PFLOG_GRP : Fld := ⟨.GWY_PFLOG, 1, 31, 26⟩
def F.GWY_PFLOG_TAG : Fld := ⟨.GWY_PFLOG, 1, 15, 8⟩
def F.GWY_PFLOG_UNREAD : Fld := ⟨.GWY_PFLOG, 1, 3, 0⟩
def F.GWY_CPL_EN : Fld := ⟨.GWY_CPL, 0, 31, 31⟩
def F.GWY_CPL_KIND : Fld := ⟨.GWY_CPL, 0, 30, 29⟩
def F.GWY_CPL_CHKEN : Fld := ⟨.GWY_CPL, 0, 28, 28⟩
def F.GWY_CPL_CHKU : Fld := ⟨.GWY_CPL, 0, 27, 23⟩
def F.GWY_CPL_GRP : Fld := ⟨.GWY_CPL, 0, 22, 17⟩
def F.GWY_CPL_PF : Fld := ⟨.GWY_CPL, 0, 16, 16⟩
def F.GWY_CPL_SPORT : Fld := ⟨.GWY_CPL, 0, 15, 8⟩
def F.GWY_CPL_DPORT : Fld := ⟨.GWY_CPL, 0, 7, 0⟩
def F.GWY_CPL_SID : Fld := ⟨.GWY_CPL, 1, 29, 0⟩
def F.GWY_CPL_DFMT : Fld := ⟨.GWY_CPL, 2, 31, 30⟩
def F.GWY_CPL_DID : Fld := ⟨.GWY_CPL, 2, 29, 0⟩
def F.GWY_CPL_STUN : Fld := ⟨.GWY_CPL, 3, 31, 24⟩
def F.GWY_CPL_SBUS : Fld := ⟨.GWY_CPL, 3, 23, 19⟩
def F.GWY_CPL_DTUN : Fld := ⟨.GWY_CPL, 3, 15, 8⟩
def F.GWY_CPL_DBUS : Fld := ⟨.GWY_CPL, 3, 7, 3⟩
def F.GWY_CPL_RETRY : Fld := ⟨.GWY_CPL, 3, 2, 0⟩
def F.GWY_CCNT_ROUTED : Fld := ⟨.GWY_CCNT, 0, 31, 16⟩
def F.GWY_CCNT_DROPPED : Fld := ⟨.GWY_CCNT, 0, 15, 0⟩
def F.GWY_CCNT_PWFAIL : Fld := ⟨.GWY_CCNT, 1, 31, 16⟩
def F.GWY_CCNT_PWDROP : Fld := ⟨.GWY_CCNT, 1, 15, 8⟩
def F.GWY_CCNT_STRAY : Fld := ⟨.GWY_CCNT, 1, 7, 0⟩
def F.CHK_CFG_MODE : Fld := ⟨.CHK_CFG, 0, 31, 30⟩
def F.CHK_CFG_CODE : Fld := ⟨.CHK_CFG, 0, 29, 27⟩
def F.CHK_CFG_AW : Fld := ⟨.CHK_CFG, 0, 25, 24⟩
def F.CHK_CFG_MAXDELTA : Fld := ⟨.CHK_CFG, 0, 7, 0⟩
def F.CHK_DID_DATAID : Fld := ⟨.CHK_DID, 0, 15, 0⟩
def F.CHK_CNT_CRCERR : Fld := ⟨.CHK_CNT, 0, 31, 24⟩
def F.CHK_CNT_REPEAT : Fld := ⟨.CHK_CNT, 0, 23, 16⟩
def F.CHK_CNT_SKIP : Fld := ⟨.CHK_CNT, 0, 15, 8⟩
def F.CHK_CNT_JUMP : Fld := ⟨.CHK_CNT, 0, 7, 0⟩
def F.CHK_STAT_SYNC : Fld := ⟨.CHK_STAT, 0, 31, 31⟩
def F.CHK_STAT_NEXT : Fld := ⟨.CHK_STAT, 0, 15, 8⟩
def F.CHK_STAT_LAST : Fld := ⟨.CHK_STAT, 0, 7, 0⟩
def F.ACC_CTL_EN : Fld := ⟨.ACC_CTL, 0, 31, 31⟩
def F.ACC_CTL_BAND : Fld := ⟨.ACC_CTL, 0, 30, 30⟩
def F.ACC_CTL_RELAYACT : Fld := ⟨.ACC_CTL, 0, 29, 29⟩
def F.ACC_CTL_RETRY : Fld := ⟨.ACC_CTL, 0, 26, 24⟩
def F.ACC_CTL_LATWIN : Fld := ⟨.ACC_CTL, 0, 23, 16⟩
def F.ACC_CTL_SPREADMIN : Fld := ⟨.ACC_CTL, 0, 15, 8⟩
def F.ACC_CTL_MINAER : Fld := ⟨.ACC_CTL, 0, 3, 0⟩
def F.ACC_AER_VECMASK : Fld := ⟨.ACC_AER, 0, 31, 24⟩
def F.ACC_AER_POLLMASK : Fld := ⟨.ACC_AER, 0, 23, 16⟩
def F.ACC_AER_AUTHAMP : Fld := ⟨.ACC_AER, 0, 15, 8⟩
def F.ACC_AER_POLLAMP : Fld := ⟨.ACC_AER, 0, 7, 0⟩
def F.ACC_POLL_CLOCK : Fld := ⟨.ACC_POLL, 0, 31, 31⟩
def F.ACC_POLL_STEP : Fld := ⟨.ACC_POLL, 0, 30, 28⟩
def F.ACC_POLL_STOPPED : Fld := ⟨.ACC_POLL, 0, 27, 27⟩
def F.ACC_POLL_DPPER : Fld := ⟨.ACC_POLL, 0, 23, 16⟩
def F.ACC_POLL_SNIFF : Fld := ⟨.ACC_POLL, 0, 15, 8⟩
def F.ACC_ZONECFG_INSIDE : Fld := ⟨.ACC_ZONECFG, 0, 31, 16⟩
def F.ACC_ZONECFG_EN : Fld := ⟨.ACC_ZONECFG, 0, 15, 0⟩
def F.ACC_LOCKOUT_ACTIVE : Fld := ⟨.ACC_LOCKOUT, 0, 31, 31⟩
def F.ACC_LOCKOUT_FAILS : Fld := ⟨.ACC_LOCKOUT, 0, 30, 28⟩
def F.ACC_LOCKOUT_LOTIME : Fld := ⟨.ACC_LOCKOUT, 0, 23, 16⟩
def F.ACC_LOCKOUT_REMAIN : Fld := ⟨.ACC_LOCKOUT, 0, 15, 0⟩
def F.ACC_CNT_FAILED : Fld := ⟨.ACC_CNT, 0, 31, 24⟩
def F.ACC_CNT_RELAY : Fld := ⟨.ACC_CNT, 0, 23, 16⟩
def F.ACC_CNT_FOREIGN : Fld := ⟨.ACC_CNT, 0, 15, 8⟩
def F.ACC_CNT_GARBLE : Fld := ⟨.ACC_CNT, 0, 7, 0⟩
def F.ACC_WAKE_VALID : Fld := ⟨.ACC_WAKE, 0, 31, 31⟩
def F.ACC_WAKE_SRC : Fld := ⟨.ACC_WAKE, 0, 30, 28⟩
def F.ACC_WAKE_SLOT : Fld := ⟨.ACC_WAKE, 0, 26, 24⟩
def F.ACC_WAKE_CMD : Fld := ⟨.ACC_WAKE, 0, 23, 16⟩
def F.ACC_POLLSTEP_END : Fld := ⟨.ACC_POLLSTEP, 0, 31, 16⟩
def F.ACC_POLLSTEP_PER : Fld := ⟨.ACC_POLLSTEP, 0, 15, 0⟩
def F.ACC_ZONE_MIN : Fld := ⟨.ACC_ZONE, 0, 31, 0⟩
def F.ACC_ZONE_MIN_1 : Fld := ⟨.ACC_ZONE, 1, 31, 0⟩
def F.ACC_ZONE_MAX : Fld := ⟨.ACC_ZONE, 2, 31, 0⟩
def F.ACC_ZONE_MAX_1 : Fld := ⟨.ACC_ZONE, 3, 31, 0⟩
def F.ACC_FNREQ_ARG : Fld := ⟨.ACC_FNREQ, 0, 31, 0⟩
def F.ACC_FNREQ_OP : Fld := ⟨.ACC_FNREQ, 1, 31, 28⟩
def F.ACC_FNREQ_SLOT : Fld := ⟨.ACC_FNREQ, 1, 18, 16⟩
def F.ACC_FNREQ_ZREQ : Fld := ⟨.ACC_FNREQ, 1, 15, 0⟩
def F.ACC_FNSTAT_BUSY : Fld := ⟨.ACC_FNSTAT, 0, 31, 31⟩
def F.ACC_FNSTAT_GRANT : Fld := ⟨.ACC_FNSTAT, 0, 30, 30⟩
def F.ACC_FNSTAT_RES : Fld := ⟨.ACC_FNSTAT, 0, 29, 26⟩
def F.ACC_FNSTAT_TRIES : Fld := ⟨.ACC_FNSTAT, 0, 25, 24⟩
def F.ACC_FNSTAT_SLOTS : Fld := ⟨.ACC_FNSTAT, 0, 23, 16⟩
def F.ACC_FNSTAT_ZFOUND : Fld := ⟨.ACC_FNSTAT, 0, 15, 0⟩
def F.ACC_TOK_ID : Fld := ⟨.ACC_TOK, 0, 31, 0⟩
def F.ACC_TOK_ENR : Fld := ⟨.ACC_TOK, 1, 31, 31⟩
def F.ACC_TOK_RESULT : Fld := ⟨.ACC_TOK, 1, 27, 24⟩
def F.ACC_TOK_ZONES : Fld := ⟨.ACC_TOK, 1, 15, 0⟩
def F.ACC_TOK_VEC : Fld := ⟨.ACC_TOK, 2, 31, 0⟩
def F.ACC_TOK_VEC_1 : Fld := ⟨.ACC_TOK, 3, 31, 0⟩
def F.ACC_TOK_LAT : Fld := ⟨.ACC_TOK, 4, 15, 0⟩
def F.ACC_TOK_BCNT : Fld := ⟨.ACC_TOK, 5, 31, 0⟩
def F.ACC_TOK_FID : Fld := ⟨.ACC_TOK, 6, 31, 0⟩
def F.PMU_SUPPLY_ZONE : Fld := ⟨.PMU_SUPPLY, 0, 23, 22⟩
def F.PMU_SUPPLY_PGC : Fld := ⟨.PMU_SUPPLY, 0, 21, 21⟩
def F.PMU_SUPPLY_PGI : Fld := ⟨.PMU_SUPPLY, 0, 20, 20⟩
def F.PMU_SUPPLY_OVSEEN : Fld := ⟨.PMU_SUPPLY, 0, 19, 19⟩
def F.PMU_SUPPLY_HOLDSEEN : Fld := ⟨.PMU_SUPPLY, 0, 18, 18⟩
def F.PMU_SUPPLY_CUTSEEN : Fld := ⟨.PMU_SUPPLY, 0, 17, 17⟩
def F.PMU_SUPPLY_PGLOSS : Fld := ⟨.PMU_SUPPLY, 0, 16, 16⟩
def F.PMU_SUPPLY_VBAT : Fld := ⟨.PMU_SUPPLY, 0, 12, 0⟩
def F.PMU_THERM_HOT : Fld := ⟨.PMU_THERM, 0, 25, 25⟩
def F.PMU_THERM_TPEAK : Fld := ⟨.PMU_THERM, 0, 24, 16⟩
def F.PMU_THERM_TBP : Fld := ⟨.PMU_THERM, 0, 8, 0⟩
def F.PMU_STATE_STATE : Fld := ⟨.PMU_STATE, 0, 31, 29⟩
def F.PMU_STATE_PHASE : Fld := ⟨.PMU_STATE, 0, 28, 26⟩
def F.PMU_STATE_LASTRST : Fld := ⟨.PMU_STATE, 0, 25, 22⟩
def F.PMU_STATE_RAILFAULT : Fld := ⟨.PMU_STATE, 0, 21, 21⟩
def F.PMU_CTL_REQ : Fld := ⟨.PMU_CTL, 0, 31, 29⟩
def F.PMU_CTL_PHWAKE : Fld := ⟨.PMU_CTL, 0, 28, 28⟩
def F.PMU_CTL_PREPTIME : Fld := ⟨.PMU_CTL, 0, 9, 0⟩
def F.PMU_WAKECAUSE_DEEP : Fld := ⟨.PMU_WAKECAUSE, 0, 21, 21⟩
def F.PMU_WAKECAUSE_DURING : Fld := ⟨.PMU_WAKECAUSE, 0, 20, 20⟩
def F.PMU_WAKECAUSE_LOST : Fld := ⟨.PMU_WAKECAUSE, 0, 19, 16⟩
def F.PMU_WAKECAUSE_CMP : Fld := ⟨.PMU_WAKECAUSE, 0, 15, 8⟩
def F.PMU_WAKECAUSE_SRC : Fld := ⟨.PMU_WAKECAUSE, 0, 5, 0⟩
def F.PMU_RAIL_RETRIES : Fld := ⟨.PMU_RAIL, 0, 31, 24⟩
def F.PMU_RAIL_FAULTS : Fld := ⟨.PMU_RAIL, 0, 23, 16⟩
def F.PMU_RAIL_LASTRAIL : Fld := ⟨.PMU_RAIL, 0, 15, 14⟩
def F.PMU_RAIL_LASTSTAT : Fld := ⟨.PMU_RAIL, 0, 13, 12⟩
def F.PMU_RAIL_ON : Fld := ⟨.PMU_RAIL, 0, 2, 0⟩
def F.PMU_DEEP_DPTIME : Fld := ⟨.PMU_DEEP, 0, 31, 16⟩
def F.PMU_DEEP_DPVBAT : Fld := ⟨.PMU_DEEP, 0, 9, 0⟩
def F.PMU_ATMR_EN : Fld := ⟨.PMU_ATMR, 0, 31, 31⟩
def F.PMU_ATMR_TIME : Fld := ⟨.PMU_ATMR, 0, 23, 0⟩
def F.PMU_PARKSTAT_ABORTS : Fld := ⟨.PMU_PARKSTAT, 0, 31, 24⟩
def F.PMU_PARKSTAT_PREPTO : Fld := ⟨.PMU_PARKSTAT, 0, 23, 16⟩
def F.PMU_PARKSTAT_FORCED : Fld := ⟨.PMU_PARKSTAT, 0, 15, 8⟩
def F.PMU_PARKSTAT_PARKS : Fld := ⟨.PMU_PARKSTAT, 0, 7, 0⟩
def F.PMU_DSCTL_SEQ : Fld := ⟨.PMU_DSCTL, 0, 31, 0⟩
def F.PMU_DSSTAT_ALL : Fld := ⟨.PMU_DSSTAT, 0, 31, 0⟩
def F.PMU_DSCNT_ENTRIES : Fld := ⟨.PMU_DSCNT, 0, 31, 19⟩
def F.PMU_DSCNT_BADENT : Fld := ⟨.PMU_DSCNT, 0, 15, 8⟩
def F.PMU_DSCNT_RFAIL : Fld := ⟨.PMU_DSCNT, 0, 7, 0⟩
def F.PMU_RESET_KEY : Fld := ⟨.PMU_RESET, 0, 7, 0⟩
def F.PMU_PARKACK_ACK : Fld := ⟨.PMU_PARKACK, 0, 0, 0⟩
def F.PMU_PARKHELD_BITS : Fld := ⟨.PMU_PARKHELD, 0, 31, 0⟩
def F.PMU_CMP_EN : Fld := ⟨.PMU_CMP, 0, 31, 31⟩
def F.PMU_CMP_WAKE : Fld := ⟨.PMU_CMP, 0, 30, 30⟩
def F.PMU_CMP_DIR : Fld := ⟨.PMU_CMP, 0, 29, 29⟩
def F.PMU_CMP_TRIP : Fld := ⟨.PMU_CMP, 0, 28, 28⟩
def F.PMU_CMP_FILT : Fld := ⟨.PMU_CMP, 0, 27, 24⟩
def F.PMU_CMP_THR : Fld := ⟨.PMU_CMP, 0, 23, 16⟩
def F.PMU_CMP_SRC : Fld := ⟨.PMU_CMP, 0, 6, 0⟩
def F.MTR_STAT_LINK : Fld := ⟨.MTR_STAT, 0, 31, 31⟩
def F.MTR_STAT_LINKLOSS : Fld := ⟨.MTR_STAT, 0, 15, 8⟩
def F.MTR_STAT_BADIDX : Fld := ⟨.MTR_STAT, 0, 7, 0⟩
def F.MTR_CTL_NOTIFY : Fld := ⟨.MTR_CTL, 0, 0, 0⟩
def F.MTR_TXHEAD_HEAD : Fld := ⟨.MTR_TXHEAD, 0, 11, 0⟩
def F.MTR_TXTAIL_TAIL : Fld := ⟨.MTR_TXTAIL, 0, 11, 0⟩
def F.MTR_RXHEAD_HEAD : Fld := ⟨.MTR_RXHEAD, 0, 11, 0⟩
def F.MTR_RXTAIL_TAIL : Fld := ⟨.MTR_RXTAIL, 0, 11, 0⟩
def F.MTR_TXBUF_DATA : Fld := ⟨.MTR_TXBUF, 0, 31, 0⟩
def F.MTR_RXBUF_DATA : Fld := ⟨.MTR_RXBUF, 0, 31, 0⟩
def F.SYS_PARTHOST_SELF : Fld := ⟨.SYS_PARTHOST, 0, 18, 16⟩
def F.SYS_PARTHOST_HOST3 : Fld := ⟨.SYS_PARTHOST, 0, 14, 12⟩
def F.SYS_PARTHOST_HOST2 : Fld := ⟨.SYS_PARTHOST, 0, 10, 8⟩
def F.SYS_PARTHOST_HOST1 : Fld := ⟨.SYS_PARTHOST, 0, 6, 4⟩
def F.SYS_PARTHOST_HOST0 : Fld := ⟨.SYS_PARTHOST, 0, 2, 0⟩
def F.SYS_DOMSTAT_MTR : Fld := ⟨.SYS_DOMSTAT, 0, 11, 11⟩
def F.SYS_DOMSTAT_AON : Fld := ⟨.SYS_DOMSTAT, 0, 10, 10⟩
def F.SYS_DOMSTAT_PD : Fld := ⟨.SYS_DOMSTAT, 0, 9, 0⟩
def F.SYS_OWNDROP_SKIPS : Fld := ⟨.SYS_OWNDROP, 0, 31, 16⟩
def F.SYS_OWNDROP_DROPS : Fld := ⟨.SYS_OWNDROP, 0, 15, 0⟩
def F.SYS_OWNLAST_ADDR : Fld := ⟨.SYS_OWNLAST, 0, 31, 2⟩
def F.SYS_OWNLAST_CAUSE : Fld := ⟨.SYS_OWNLAST, 0, 1, 0⟩
def F.SYS_BOOTSTAT_STATE : Fld := ⟨.SYS_BOOTSTAT, 0, 27, 24⟩
def F.SYS_BOOTSTAT_FALLBACK : Fld := ⟨.SYS_BOOTSTAT, 0, 23, 23⟩
def F.SYS_BOOTSTAT_GEN : Fld := ⟨.SYS_BOOTSTAT, 0, 22, 22⟩
def F.SYS_BOOTSTAT_CS1OK : Fld := ⟨.SYS_BOOTSTAT, 0, 21, 21⟩
def F.SYS_BOOTSTAT_CS0OK : Fld := ⟨.SYS_BOOTSTAT, 0, 20, 20⟩
def F.SYS_BOOTSTAT_CAUSE : Fld := ⟨.SYS_BOOTSTAT, 0, 19, 16⟩
def F.SYS_BOOTSTAT_BOOTTIME : Fld := ⟨.SYS_BOOTSTAT, 0, 15, 0⟩
def F.SYS_BOOTSEQ_SEQ : Fld := ⟨.SYS_BOOTSEQ, 0, 31, 0⟩
def F.SYS_BOOTPART_PARTS : Fld := ⟨.SYS_BOOTPART, 0, 19, 0⟩
def F.SYS_BOOTREJ_VALID : Fld := ⟨.SYS_BOOTREJ, 0, 31, 31⟩
def F.SYS_BOOTREJ_GEN : Fld := ⟨.SYS_BOOTREJ, 0, 30, 30⟩
def F.SYS_BOOTREJ_PART : Fld := ⟨.SYS_BOOTREJ, 0, 23, 16⟩
def F.SYS_BOOTREJ_SKIPPED : Fld := ⟨.SYS_BOOTREJ, 0, 15, 8⟩
def F.SYS_BOOTREJ_REASON : Fld := ⟨.SYS_BOOTREJ, 0, 3, 0⟩
def F.SYS_REGBLK_FAILED : Fld := ⟨.SYS_REGBLK, 0, 31, 16⟩
def F.SYS_REGBLK_APPLIED : Fld := ⟨.SYS_REGBLK, 0, 15, 0⟩
def F.SYS_SRAMREP_LOST : Fld := ⟨.SYS_SRAMREP, 0, 31, 16⟩
def F.SYS_SRAMREP_ROWS : Fld := ⟨.SYS_SRAMREP, 0, 7, 0⟩
def F.SYS_REGLAST_LAST : Fld := ⟨.SYS_REGLAST, 0, 31, 2⟩
def F.SYS_PCTL_RESTART : Fld := ⟨.SYS_PCTL, 0, 31, 31⟩
def F.SYS_PCTL_MOVE : Fld := ⟨.SYS_PCTL, 0, 30, 30⟩
def F.SYS_PCTL_BACK : Fld := ⟨.SYS_PCTL, 0, 29, 29⟩
def F.SYS_PCTL_CAUSE : Fld := ⟨.SYS_PCTL, 0, 23, 20⟩
def F.SYS_PCTL_RESTARTS : Fld := ⟨.SYS_PCTL, 0, 15, 0⟩
def F.SYS_RELIEF_AUTO : Fld := ⟨.SYS_RELIEF, 0, 31, 31⟩
def F.SYS_RELIEF_RSTREQ : Fld := ⟨.SYS_RELIEF, 0, 7, 4⟩
def F.SYS_CORESTAT_CHKERR : Fld := ⟨.SYS_CORESTAT, 0, 31, 16⟩
def F.SYS_CORESTAT_STATE : Fld := ⟨.SYS_CORESTAT, 0, 9, 0⟩
def F.SYS_DWDOG_TIME : Fld := ⟨.SYS_DWDOG, 0, 23, 12⟩
def F.SYS_DWDOG_KEY : Fld := ⟨.SYS_DWDOG, 0, 7, 0⟩
def F.SYS_TEST_OP : Fld := ⟨.SYS_TEST, 0, 31, 28⟩
def F.SYS_TEST_BUSY : Fld := ⟨.SYS_TEST, 0, 27, 27⟩
def F.SYS_TEST_RES : Fld := ⟨.SYS_TEST, 0, 26, 24⟩
def F.SYS_TEST_CLASS : Fld := ⟨.SYS_TEST, 0, 23, 16⟩
def F.SYS_TEST_INDEX : Fld := ⟨.SYS_TEST, 0, 15, 0⟩
def F.ERR_BLK0_ACCESS : Fld := ⟨.ERR_BLK0, 0, 31, 16⟩
def F.ERR_BLK0_SNAP : Fld := ⟨.ERR_BLK0, 0, 15, 0⟩
def F.ERR_BLK1_CORR1 : Fld := ⟨.ERR_BLK1, 0, 31, 16⟩
def F.ERR_BLK1_CORR2 : Fld := ⟨.ERR_BLK1, 0, 15, 0⟩
def F.ERR_BLK2_UNCORR : Fld := ⟨.ERR_BLK2, 0, 31, 16⟩
def F.ERR_BLK2_DOMOFF : Fld := ⟨.ERR_BLK2, 0, 15, 0⟩
def F.ERR_BLK3_LINKCORR : Fld := ⟨.ERR_BLK3, 0, 31, 16⟩
def F.ERR_BLK3_LINKUNC : Fld := ⟨.ERR_BLK3, 0, 15, 8⟩
def F.ERR_BLK3_LANEMOVE : Fld := ⟨.ERR_BLK3, 0, 7, 4⟩
def F.ERR_BLK3_LANE2 : Fld := ⟨.ERR_BLK3, 0, 3, 0⟩
def F.ERR_CUM_COUNT : Fld := ⟨.ERR_CUM, 0, 31, 0⟩
def F.ERR_SCRUB_EN : Fld := ⟨.ERR_SCRUB, 0, 31, 31⟩
def F.ERR_SCRUB_SPER : Fld := ⟨.ERR_SCRUB, 0, 23, 16⟩
def F.ERR_SCRUB_DSSCRUB : Fld := ⟨.ERR_SCRUB, 0, 15, 8⟩
def F.ERR_SCRUB_WEAK : Fld := ⟨.ERR_SCRUB, 0, 7, 0⟩
def F.ERR_LOGHEAD_WRAP : Fld := ⟨.ERR_LOGHEAD, 0, 31, 31⟩
def F.ERR_LOGHEAD_ENTRY : Fld := ⟨.ERR_LOGHEAD, 0, 24, 5⟩
def F.ERR_LOGSEQ_SEQ : Fld := ⟨.ERR_LOGSEQ, 0, 31, 0⟩
def F.UPD_STAT_SESS : Fld := ⟨.UPD_STAT, 0, 31, 29⟩
def F.UPD_STAT_PATH : Fld := ⟨.UPD_STAT, 0, 28, 28⟩
def F.UPD_STAT_SLOT : Fld := ⟨.UPD_STAT, 0, 27, 24⟩
def F.UPD_STAT_ACT : Fld := ⟨.UPD_STAT, 0, 23, 20⟩
def F.UPD_STAT_MODE : Fld := ⟨.UPD_STAT, 0, 19, 19⟩
def F.UPD_STAT_GEN : Fld := ⟨.UPD_STAT, 0, 18, 18⟩
def F.UPD_STAT_PART : Fld := ⟨.UPD_STAT, 0, 15, 8⟩
def F.UPD_STAT_REMAIN : Fld := ⟨.UPD_STAT, 0, 7, 0⟩
def F.UPD_GATE_ALLOW : Fld := ⟨.UPD_GATE, 0, 31, 31⟩
def F.UPD_LAST_OUTCOME : Fld := ⟨.UPD_LAST, 0, 31, 28⟩
def F.UPD_LAST_PART : Fld := ⟨.UPD_LAST, 0, 27, 20⟩
def F.UPD_LAST_CAUSE : Fld := ⟨.UPD_LAST, 0, 19, 16⟩
def F.UPD_LAST_REASON : Fld := ⟨.UPD_LAST, 0, 15, 12⟩
def F.UPD_CNT_SESSIONS : Fld := ⟨.UPD_CNT, 0, 31, 24⟩
def F.UPD_CNT_BUSY : Fld := ⟨.UPD_CNT, 0, 23, 16⟩
def F.UPD_CNT_COMMITS : Fld := ⟨.UPD_CNT, 0, 15, 8⟩
def F.UPD_CNT_REVERTS : Fld := ⟨.UPD_CNT, 0, 7, 0⟩
def F.UPD_HEALTH_TRIAL : Fld := ⟨.UPD_HEALTH, 0, 31, 31⟩
def F.UPD_HEALTH_KEY : Fld := ⟨.UPD_HEALTH, 0, 7, 0⟩
def F.UPD_WSCTL_PEND : Fld := ⟨.UPD_WSCTL, 0, 31, 31⟩
def F.UPD_WSCTL_GO : Fld := ⟨.UPD_WSCTL, 0, 30, 30⟩
def F.UPD_WSCTL_INLEN : Fld := ⟨.UPD_WSCTL, 0, 10, 0⟩
def F.UPD_WSIN_DATA : Fld := ⟨.UPD_WSIN, 0, 31, 0⟩
def F.UPD_WSOUT_DATA : Fld := ⟨.UPD_WSOUT, 0, 31, 0⟩
def F.CPU_STATUS_EXL : Fld := ⟨.CPU_STATUS, 0, 2, 2⟩
def F.CPU_STATUS_IE : Fld := ⟨.CPU_STATUS, 0, 1, 1⟩
def F.CPU_STATUS_MODE : Fld := ⟨.CPU_STATUS, 0, 0, 0⟩
def F.CPU_ESTAT_ALL : Fld := ⟨.CPU_ESTAT, 0, 2, 0⟩
def F.CPU_EPC_ADDR : Fld := ⟨.CPU_EPC, 0, 31, 2⟩
def F.CPU_CAUSE_DBL : Fld := ⟨.CPU_CAUSE, 0, 31, 31⟩
def F.CPU_CAUSE_SLOT : Fld := ⟨.CPU_CAUSE, 0, 9, 8⟩
def F.CPU_CAUSE_CODE : Fld := ⟨.CPU_CAUSE, 0, 4, 0⟩
def F.CPU_BADADDR_ADDR : Fld := ⟨.CPU_BADADDR, 0, 31, 0⟩
def F.CPU_TRAPINSN_WORD : Fld := ⟨.CPU_TRAPINSN, 0, 31, 0⟩
def F.CPU_TVEC_BASE : Fld := ⟨.CPU_TVEC, 0, 31, 8⟩
def F.CPU_ISAVER_MAJOR : Fld := ⟨.CPU_ISAVER, 0, 23, 16⟩
def F.CPU_ISAVER_MINOR : Fld := ⟨.CPU_ISAVER, 0, 15, 8⟩
def F.CPU_ISAVER_FEAT : Fld := ⟨.CPU_ISAVER, 0, 7, 0⟩
def F.CPU_CORE_IDENT : Fld := ⟨.CPU_CORE, 0, 6, 4⟩
def F.CPU_CORE_CORE : Fld := ⟨.CPU_CORE, 0, 2, 0⟩
def F.CPU_SCRATCH_DATA : Fld := ⟨.CPU_SCRATCH, 0, 31, 0⟩
def F.CPU_CYCLE_COUNT : Fld := ⟨.CPU_CYCLE, 0, 31, 0⟩
def F.CPU_CYCLE_COUNT_1 : Fld := ⟨.CPU_CYCLE, 1, 31, 0⟩
def F.CPU_DOORBELL_TARGET : Fld := ⟨.CPU_DOORBELL, 0, 3, 0⟩
def F.CPU_EVQ_entry : Fld := ⟨.CPU_EVQ, 0, 31, 0⟩
def F.CPU_EVQ_entry_1 : Fld := ⟨.CPU_EVQ, 1, 31, 0⟩
def F.CPU_EVQ_entry_2 : Fld := ⟨.CPU_EVQ, 2, 31, 0⟩
def F.CPU_EVQ_entry_3 : Fld := ⟨.CPU_EVQ, 3, 31, 0⟩
def F.CPU_EVQSTAT_LOST : Fld := ⟨.CPU_EVQSTAT, 0, 31, 16⟩
def F.CPU_EVQSTAT_FILL : Fld := ⟨.CPU_EVQSTAT, 0, 10, 0⟩
def F.CPU_RBASE_BASE : Fld := ⟨.CPU_RBASE, 0, 31, 5⟩
def F.CPU_RBASE_EN : Fld := ⟨.CPU_RBASE, 0, 4, 4⟩
def F.CPU_RBASE_STRICT : Fld := ⟨.CPU_RBASE, 0, 3, 3⟩
def F.CPU_RBASE_R : Fld := ⟨.CPU_RBASE, 0, 2, 2⟩
def F.CPU_RBASE_W : Fld := ⟨.CPU_RBASE, 0, 1, 1⟩
def F.CPU_RBASE_X : Fld := ⟨.CPU_RBASE, 0, 0, 0⟩
def F.CPU_RLIM_LIMIT : Fld := ⟨.CPU_RLIM, 0, 31, 5⟩

end Sys2Proof.Machine
end

