-- ==== Sys2Proof/Machine/RegFieldsA.lean ====
section
/-! DEFINITION. The fields of the registers of blocks 0 to 4, from the spec's register tables. -/

set_option Elab.async false

namespace Sys2Proof.Machine

/-- Fields with access code, reset kinds and reset value, as the register tables of the spec give them. -/
def Reg.fieldsA : Reg → List FieldInfo
  | .TIM_T0 => [⟨0, 31, 0, .ro, 0, 0⟩, ⟨1, 31, 0, .ro, 0, 0⟩, ⟨2, 31, 16, .ro, 0, 0⟩, ⟨2, 15, 0, .ro, 0, 0⟩]
  | .TIM_T1 => [⟨0, 31, 0, .ro, 0, 0⟩, ⟨1, 31, 0, .ro, 0, 0⟩, ⟨2, 31, 16, .ro, 0, 0⟩, ⟨2, 15, 0, .ro, 0, 0⟩]
  | .TIM_T2 => [⟨0, 31, 0, .ro, 0, 0⟩, ⟨1, 31, 0, .ro, 0, 0⟩, ⟨2, 31, 16, .ro, 0, 0⟩, ⟨2, 15, 0, .ro, 0, 0⟩]
  | .TIM_T3 => [⟨0, 31, 0, .ro, 0, 0⟩, ⟨1, 31, 0, .ro, 0, 0⟩, ⟨2, 31, 16, .ro, 0, 0⟩, ⟨2, 15, 0, .ro, 0, 0⟩]
  | .TIM_STAT => [⟨0, 8, 8, .ro, 3, 0⟩, ⟨0, 7, 7, .w1c, 3, 0⟩, ⟨0, 6, 6, .w1c, 1, 0⟩, ⟨0, 5, 5, .ro, 11, 0⟩,
      ⟨0, 4, 4, .ro, 11, 0⟩, ⟨0, 3, 3, .ro, 11, 0⟩, ⟨0, 2, 2, .ro, 3, 0⟩, ⟨0, 0, 0, .ro, 11, 0⟩]
  | .TIM_SHCTL => [⟨0, 31, 16, .ro, 1, 0⟩, ⟨0, 15, 8, .ro, 3, 0⟩, ⟨0, 0, 0, .wo, 0, 0⟩]
  | .TIM_CALSTAT => [⟨0, 26, 16, .ro, 11, 0⟩, ⟨0, 9, 0, .ro, 11, 0⟩]
  | .TIM_SCTL => [⟨0, 22, 14, .rw, 11, 0xfa⟩, ⟨0, 13, 11, .rw, 11, 3⟩, ⟨0, 10, 8, .rw, 11, 0⟩, ⟨0, 7, 4, .rw, 11, 0⟩,
      ⟨0, 1, 0, .rw, 11, 0⟩]
  | .TIM_SSTEP => [⟨0, 31, 0, .rw, 11, 0xf4240⟩]
  | .TIM_SGAIN => [⟨0, 31, 16, .rw, 11, 0x113⟩, ⟨0, 15, 0, .rw, 11, 0x112e⟩]
  | .TIM_SRATE => [⟨0, 31, 0, .ro, 11, 0⟩]
  | .TIM_SSTAT => [⟨0, 23, 16, .ro, 11, 0⟩, ⟨0, 2, 0, .ro, 11, 0⟩]
  | .TIM_SOFFS => [⟨0, 31, 0, .wo, 11, 0⟩, ⟨1, 31, 0, .wo, 11, 0⟩]
  | .TIM_SFEED => [⟨0, 31, 0, .wo, 11, 0⟩, ⟨1, 31, 0, .wo, 11, 0⟩]
  | .TIM_SLAST => [⟨0, 31, 0, .ro, 11, 0⟩, ⟨1, 31, 0, .ro, 11, 0⟩]
  | .TIM_SPPS => [⟨0, 31, 0, .rw, 11, 0⟩]
  | .TIM_SCNT => [⟨0, 31, 16, .rc, 11, 0⟩, ⟨0, 15, 0, .rc, 11, 0⟩]
  | .TIM_INCR => [⟨0, 31, 24, .rw, 11, 4⟩, ⟨0, 23, 0, .rw, 11, 0⟩]
  | .TIM_TPOCTL => [⟨0, 9, 9, .rw, 11, 0⟩, ⟨0, 8, 8, .rw, 11, 0⟩, ⟨0, 7, 6, .rw, 11, 0⟩, ⟨0, 5, 5, .rw, 11, 0⟩,
      ⟨0, 4, 4, .rw, 11, 0⟩]
  | .TIM_TPOSTAT => [⟨0, 31, 16, .ro, 11, 0⟩, ⟨0, 15, 8, .rc, 11, 0⟩, ⟨0, 3, 3, .w1c, 11, 0⟩, ⟨0, 2, 2, .w1c, 11, 0⟩,
      ⟨0, 1, 1, .ro, 11, 0⟩, ⟨0, 0, 0, .ro, 11, 0⟩]
  | .TIM_TPOWID => [⟨0, 31, 0, .rw, 11, 0⟩]
  | .TIM_TPOCOUNT => [⟨0, 31, 0, .rw, 11, 0⟩]
  | .TIM_TPOPER => [⟨0, 31, 0, .rw, 11, 0⟩, ⟨1, 15, 0, .rw, 11, 0⟩]
  | .TIM_TPOSTART => [⟨0, 31, 0, .rw, 11, 0⟩, ⟨1, 31, 0, .rw, 11, 0⟩, ⟨2, 31, 16, .rw, 11, 0⟩, ⟨2, 15, 0, .rw, 11, 0⟩]
  | .TIM_TPOLEDGE => [⟨0, 31, 0, .ro, 11, 0⟩, ⟨1, 31, 0, .ro, 11, 0⟩, ⟨2, 31, 16, .ro, 11, 0⟩, ⟨2, 15, 0, .ro, 11, 0⟩]
  | .TIM_TCICTL => [⟨0, 7, 6, .rw, 11, 0⟩, ⟨0, 5, 4, .rw, 11, 0⟩]
  | .TIM_TCICAP => [⟨0, 31, 0, .ro, 11, 0⟩, ⟨1, 31, 0, .ro, 11, 0⟩, ⟨2, 31, 16, .ro, 11, 0⟩, ⟨2, 15, 0, .ro, 11, 0⟩,
      ⟨3, 31, 16, .ro, 11, 0⟩, ⟨3, 3, 3, .ro, 11, 0⟩, ⟨3, 2, 2, .ro, 11, 0⟩, ⟨3, 1, 1, .ro, 11, 0⟩]
  | .TIM_TCICNT => [⟨0, 31, 16, .rc, 11, 0⟩, ⟨0, 15, 0, .rc, 11, 0⟩]
  | .TIM_AUDCTL => [⟨0, 7, 0, .rw, 11, 0⟩]
  | .TIM_AUD => [⟨0, 19, 19, .ro, 11, 0⟩, ⟨0, 18, 18, .ro, 11, 0⟩, ⟨0, 17, 17, .ro, 11, 0⟩, ⟨0, 16, 16, .ro, 11, 0⟩,
      ⟨0, 15, 0, .ro, 11, 0⟩, ⟨1, 31, 0, .ro, 11, 0⟩]
  | .ESW_STAT => [⟨0, 31, 16, .rc, 11, 0⟩, ⟨0, 15, 0, .rc, 11, 0⟩]
  | .ESW_AGE => [⟨0, 31, 31, .wo, 0, 0⟩, ⟨0, 15, 0, .rw, 11, 0x12c⟩]
  | .ESW_FDBCMD => [⟨0, 31, 30, .wo, 0, 0⟩, ⟨0, 29, 29, .ro, 11, 0⟩, ⟨0, 28, 28, .ro, 11, 0⟩, ⟨0, 27, 27, .ro, 11, 0⟩,
      ⟨0, 12, 0, .rw, 11, 0⟩]
  | .ESW_FDBDATA => [⟨0, 31, 0, .rw, 11, 0⟩, ⟨1, 27, 16, .rw, 11, 0⟩, ⟨1, 15, 0, .rw, 11, 0⟩, ⟨2, 17, 17, .rw, 11, 0⟩,
      ⟨2, 16, 16, .rw, 11, 0⟩, ⟨2, 14, 0, .rw, 11, 0⟩]
  | .ESW_PTPROLE => [⟨0, 19, 0, .rw, 11, 0⟩]
  | .ESW_PTPSTEP => [⟨0, 9, 0, .rw, 11, 0⟩]
  | .ESW_PTPINT => [⟨0, 31, 16, .rw, 11, 0x7d0⟩, ⟨0, 15, 8, .rw, 11, 0⟩, ⟨0, 7, 0, .rw, 11, 0xfd⟩]
  | .ESW_PTPCNT => [⟨0, 31, 16, .rc, 11, 0⟩, ⟨0, 15, 0, .rc, 11, 0⟩, ⟨1, 31, 16, .rc, 11, 0⟩, ⟨1, 15, 8, .rc, 11, 0⟩,
      ⟨1, 7, 0, .rc, 11, 0⟩]
  | .ESW_PDCTL => [⟨0, 31, 24, .rw, 11, 0⟩, ⟨0, 23, 12, .rw, 11, 0x320⟩, ⟨0, 11, 0, .rw, 11, 0⟩]
  | .ESW_PCTL => [⟨0, 31, 31, .rw, 11, 0⟩, ⟨0, 30, 30, .rw, 11, 0⟩, ⟨0, 29, 29, .rw, 11, 1⟩, ⟨0, 26, 24, .rw, 11, 0⟩,
      ⟨0, 23, 12, .rw, 11, 1⟩]
  | .ESW_PSTAT => [⟨0, 9, 8, .ro, 11, 0⟩, ⟨0, 6, 6, .ro, 11, 0⟩, ⟨0, 5, 4, .ro, 11, 3⟩, ⟨0, 3, 1, .ro, 11, 0⟩,
      ⟨0, 0, 0, .ro, 11, 0⟩]
  | .ESW_PQMAP => [⟨0, 31, 24, .rw, 11, 8⟩, ⟨0, 23, 0, .rw, 11, 0xfac681⟩]
  | .ESW_PCT => [⟨0, 9, 0, .rw, 11, 0⟩]
  | .ESW_PPLCA => [⟨0, 31, 31, .rw, 11, 0⟩, ⟨0, 15, 8, .rw, 11, 0x20⟩, ⟨0, 7, 4, .rw, 11, 8⟩, ⟨0, 2, 0, .rw, 11, 0⟩]
  | .ESW_PQSLOPE => [⟨0, 31, 0, .rw, 11, 0⟩]
  | .ESW_PQLIM => [⟨0, 12, 0, .rw, 11, 0x400⟩]
  | .ESW_PTASCTL => [⟨0, 31, 31, .rw, 11, 0⟩, ⟨0, 30, 30, .w1s, 11, 0⟩, ⟨0, 29, 29, .ro, 11, 0⟩, ⟨0, 25, 16, .rw, 11, 0⟩,
      ⟨0, 7, 0, .rw, 11, 0xff⟩]
  | .ESW_PTASBASE => [⟨0, 31, 0, .rw, 11, 0⟩, ⟨1, 31, 0, .rw, 11, 0⟩, ⟨2, 31, 16, .rw, 11, 0⟩, ⟨2, 15, 0, .rw, 11, 0⟩]
  | .ESW_PTASCYC => [⟨0, 31, 0, .rw, 11, 0xf4240⟩]
  | .ESW_PCNT => [⟨0, 31, 0, .rc, 11, 0⟩]
  | .ESW_FPTXBASE => [⟨0, 31, 5, .rw, 15, 0⟩]
  | .ESW_FPTXSIZE => [⟨0, 10, 0, .rw, 15, 0⟩]
  | .ESW_FPTXTAIL => [⟨0, 9, 0, .rw, 15, 0⟩]
  | .ESW_FPTXHEAD => [⟨0, 9, 0, .ro, 15, 0⟩]
  | .ESW_FPRXBASE => [⟨0, 31, 5, .rw, 15, 0⟩]
  | .ESW_FPRXSIZE => [⟨0, 10, 0, .rw, 15, 0⟩]
  | .ESW_FPRXTAIL => [⟨0, 9, 0, .rw, 15, 0⟩]
  | .ESW_FPRXHEAD => [⟨0, 9, 0, .ro, 15, 0⟩]
  | .ESW_FPLATE => [⟨0, 15, 0, .rw, 15, 0xa⟩]
  | .ESW_VLAN => [⟨0, 30, 16, .rw, 11, 0⟩, ⟨0, 15, 15, .rw, 11, 0⟩, ⟨0, 14, 0, .rw, 11, 0⟩]
  | .ESW_STREAM => [⟨0, 31, 0, .rw, 11, 0⟩, ⟨1, 29, 28, .rw, 11, 0⟩, ⟨1, 27, 16, .rw, 11, 0⟩, ⟨1, 15, 0, .rw, 11, 0⟩,
      ⟨2, 31, 16, .rw, 11, 0x5f2⟩, ⟨2, 9, 0, .rw, 11, 0⟩, ⟨3, 31, 0, .rw, 11, 0⟩, ⟨4, 31, 0, .rw, 11, 0⟩,
      ⟨5, 31, 0, .rc, 11, 0⟩, ⟨6, 31, 0, .rc, 11, 0⟩, ⟨7, 31, 0, .rc, 11, 0⟩]
  | .ESW_GATE => [⟨0, 7, 0, .rw, 11, 0⟩, ⟨1, 31, 0, .rw, 11, 0⟩]
  | .SCH_TCTL => [⟨0, 31, 31, .rw, 15, 0⟩, ⟨0, 30, 30, .w1s, 15, 0⟩, ⟨0, 29, 29, .ro, 11, 0⟩, ⟨0, 28, 27, .rw, 11, 0⟩,
      ⟨0, 26, 26, .rw, 11, 0⟩, ⟨0, 25, 24, .rw, 11, 0⟩, ⟨0, 23, 23, .wo, 0, 0⟩, ⟨0, 22, 22, .w1c, 11, 0⟩,
      ⟨0, 21, 21, .w1c, 11, 0⟩]
  | .SCH_TSWAP => [⟨0, 31, 0, .rw, 11, 0⟩, ⟨1, 31, 0, .rw, 11, 0⟩, ⟨2, 31, 16, .rw, 11, 0⟩, ⟨2, 15, 0, .rw, 11, 0⟩]
  | .SCH_TCNT0 => [⟨0, 31, 16, .rc, 11, 0⟩, ⟨0, 15, 0, .rc, 11, 0⟩]
  | .SCH_TCNT1 => [⟨0, 31, 24, .rc, 11, 0⟩, ⟨0, 23, 16, .rc, 11, 0⟩, ⟨0, 15, 8, .rc, 11, 0⟩, ⟨0, 7, 0, .rc, 11, 0⟩]
  | .SCH_PCTL => [⟨0, 27, 24, .rw, 11, 8⟩, ⟨0, 21, 16, .rw, 11, 0x28⟩]
  | .SCH_PWEIGHT => [⟨0, 23, 16, .rw, 11, 8⟩, ⟨0, 15, 8, .rw, 11, 3⟩, ⟨0, 7, 0, .rw, 11, 5⟩]
  | .SCH_PBUD => [⟨0, 9, 0, .rw, 11, 0x3c⟩]
  | .SCH_PCNT => [⟨0, 31, 16, .rc, 11, 0⟩, ⟨0, 15, 0, .rc, 11, 0⟩]
  | .SCH_ICLS => [⟨0, 31, 0, .rw, 11, 0⟩]
  | .SCH_RFXREL => [⟨0, 7, 0, .wo, 0, 0⟩]
  | .SCH_RFXHELD => [⟨0, 31, 0, .ro, 11, 0⟩]
  | .SCH_ENTRY => [⟨0, 31, 30, .rw, 11, 0⟩, ⟨0, 29, 28, .rw, 11, 0⟩, ⟨0, 27, 24, .rw, 11, 0⟩, ⟨0, 23, 20, .rw, 11, 0⟩,
      ⟨0, 19, 18, .rw, 11, 0⟩, ⟨0, 17, 12, .rw, 11, 0⟩, ⟨0, 11, 11, .rw, 11, 0⟩, ⟨1, 31, 31, .rw, 11, 0⟩,
      ⟨1, 23, 16, .rw, 11, 0⟩, ⟨1, 15, 0, .rw, 11, 0⟩, ⟨2, 31, 0, .rw, 11, 0⟩, ⟨3, 31, 0, .rw, 11, 0⟩,
      ⟨4, 31, 16, .rw, 11, 0⟩, ⟨4, 15, 0, .rw, 11, 0⟩, ⟨5, 31, 0, .rw, 11, 0⟩, ⟨6, 31, 16, .rw, 11, 0⟩,
      ⟨6, 15, 0, .rw, 11, 0⟩, ⟨7, 31, 0, .rw, 11, 0⟩]
  | .SCH_RULE => [⟨0, 31, 31, .rw, 11, 0⟩, ⟨0, 30, 29, .rw, 11, 0⟩, ⟨0, 28, 27, .rw, 11, 0⟩, ⟨0, 26, 26, .rw, 11, 0⟩,
      ⟨0, 25, 24, .rw, 11, 0⟩, ⟨0, 23, 20, .rw, 11, 0⟩, ⟨1, 31, 0, .rw, 11, 0⟩, ⟨2, 31, 0, .rw, 11, 0⟩,
      ⟨3, 31, 28, .rw, 11, 0⟩, ⟨4, 31, 28, .rw, 11, 0⟩, ⟨3, 27, 27, .rw, 11, 0⟩, ⟨4, 27, 27, .rw, 11, 0⟩,
      ⟨3, 15, 0, .rw, 11, 0⟩, ⟨4, 15, 0, .rw, 11, 0⟩, ⟨7, 31, 16, .rc, 11, 0⟩]
  | .SCH_EDGE => [⟨0, 31, 0, .ro, 11, 0⟩, ⟨1, 31, 0, .ro, 11, 0⟩, ⟨2, 31, 16, .ro, 11, 0⟩, ⟨2, 15, 0, .ro, 11, 0⟩,
      ⟨3, 31, 16, .ro, 11, 0⟩, ⟨3, 15, 12, .ro, 11, 0⟩, ⟨3, 8, 8, .ro, 11, 0⟩, ⟨3, 7, 0, .ro, 11, 0⟩,
      ⟨4, 31, 0, .ro, 11, 0⟩, ⟨5, 31, 0, .ro, 11, 0⟩, ⟨6, 31, 16, .ro, 11, 0⟩, ⟨6, 15, 0, .ro, 11, 0⟩]
  | .PSW_CMD => [⟨0, 7, 6, .ro, 9, 0⟩, ⟨0, 5, 4, .ro, 9, 0⟩, ⟨0, 3, 3, .ro, 9, 0⟩, ⟨0, 2, 0, .wo, 0, 0⟩]
  | .PSW_CFG => [⟨0, 31, 30, .rw, 9, 0⟩, ⟨0, 29, 27, .rw, 9, 2⟩, ⟨0, 26, 22, .rw, 9, 7⟩, ⟨0, 21, 19, .rw, 9, 4⟩,
      ⟨0, 18, 16, .rw, 9, 5⟩, ⟨0, 15, 15, .rw, 9, 0⟩, ⟨0, 14, 14, .rw, 9, 0⟩, ⟨0, 13, 11, .rw, 9, 3⟩,
      ⟨0, 9, 0, .rw, 9, 0⟩]
  | .PSW_PROT => [⟨0, 31, 31, .wo, 0, 0⟩, ⟨0, 20, 16, .ro, 1, 0⟩, ⟨0, 14, 12, .ro, 1, 0⟩, ⟨0, 8, 8, .ro, 9, 0⟩,
      ⟨0, 7, 7, .ro, 1, 0⟩, ⟨0, 2, 0, .ro, 0, 0⟩]
  | .PSW_DIAG => [⟨0, 31, 28, .ro, 9, 0⟩, ⟨0, 27, 26, .ro, 9, 0⟩, ⟨0, 11, 0, .ro, 9, 0⟩]
  | .PSW_CNT => [⟨0, 31, 24, .rc, 9, 0⟩, ⟨0, 23, 16, .rc, 9, 0⟩, ⟨0, 15, 8, .rc, 9, 0⟩, ⟨0, 7, 0, .rc, 9, 0⟩]
  | .PSW_STR => [⟨0, 31, 0, .ro, 9, 0⟩, ⟨1, 31, 0, .ro, 9, 0⟩, ⟨2, 31, 16, .ro, 9, 0⟩, ⟨2, 15, 0, .ro, 9, 0⟩]
  | .PSW_WDOG => [⟨0, 31, 31, .wo, 0, 0⟩, ⟨0, 25, 16, .rw, 9, 0x64⟩, ⟨0, 7, 0, .wo, 0, 0⟩]
  | .PSW_WDSTAT => [⟨0, 31, 31, .ro, 1, 0⟩, ⟨0, 27, 20, .rc, 1, 0⟩, ⟨0, 19, 12, .rc, 9, 0⟩, ⟨0, 9, 0, .ro, 0, 0⟩]
  | .PSW_TOWSTAT => [⟨0, 23, 16, .ro, 0, 0⟩, ⟨0, 15, 8, .ro, 1, 0⟩, ⟨0, 6, 0, .ro, 1, 0⟩]
  | .PSW_BPAIR => [⟨0, 8, 4, .rw, 9, 5⟩, ⟨0, 1, 1, .rw, 9, 0⟩, ⟨0, 0, 0, .rw, 9, 0⟩]
  | .PSW_PLAN => [⟨0, 31, 31, .ro, 11, 0⟩, ⟨0, 10, 0, .rw, 11, 0⟩]
  | .PSW_MEMBER => [⟨0, 31, 0, .rw, 11, 0⟩]
  | .PSW_GCTL => [⟨0, 31, 31, .wo, 0, 0⟩, ⟨0, 30, 30, .wo, 0, 0⟩, ⟨0, 29, 29, .ro, 15, 0⟩]
  | .PSW_AMEMBER => [⟨0, 31, 0, .ro, 0, 0⟩]
  | .PSW_AGCTL => [⟨0, 31, 31, .wo, 0, 0⟩, ⟨0, 30, 30, .wo, 0, 0⟩, ⟨0, 29, 29, .ro, 15, 0⟩]
  | .VLV_MEMBER => [⟨0, 31, 0, .rw, 11, 0⟩]
  | .VLV_GCTL => [⟨0, 31, 31, .wo, 0, 0⟩, ⟨0, 30, 30, .wo, 0, 0⟩, ⟨0, 29, 29, .ro, 15, 0⟩]
  | .VLV_AMEMBER => [⟨0, 31, 0, .ro, 0, 0⟩]
  | .VLV_AGCTL => [⟨0, 31, 31, .wo, 0, 0⟩, ⟨0, 30, 30, .wo, 0, 0⟩, ⟨0, 29, 29, .ro, 15, 0⟩]
  | .VLV_CMD => [⟨0, 10, 8, .ro, 9, 0⟩, ⟨0, 7, 6, .ro, 9, 0⟩, ⟨0, 5, 4, .ro, 9, 0⟩, ⟨0, 3, 3, .ro, 9, 0⟩,
      ⟨0, 2, 0, .wo, 0, 0⟩]
  | .VLV_PROF => [⟨0, 31, 31, .rw, 9, 0⟩, ⟨0, 30, 30, .rw, 9, 0⟩, ⟨0, 29, 28, .rw, 9, 1⟩, ⟨0, 27, 20, .rw, 9, 0xa⟩,
      ⟨0, 15, 8, .rw, 9, 0x28⟩, ⟨0, 7, 0, .rw, 9, 0xa⟩]
  | .VLV_TIME => [⟨0, 31, 24, .rw, 9, 0⟩, ⟨0, 23, 16, .rw, 9, 0xc8⟩, ⟨0, 15, 0, .rw, 9, 0x3e8⟩]
  | .VLV_CFG => [⟨0, 31, 30, .rw, 9, 0⟩, ⟨0, 29, 28, .rw, 9, 0⟩, ⟨0, 27, 27, .rw, 9, 0⟩, ⟨0, 23, 16, .rw, 9, 0x14⟩,
      ⟨0, 15, 8, .rw, 9, 0x64⟩, ⟨0, 7, 0, .rw, 9, 0x32⟩]
  | .VLV_PRCFG => [⟨0, 29, 27, .rw, 9, 2⟩, ⟨0, 26, 22, .rw, 9, 7⟩, ⟨0, 21, 19, .rw, 9, 4⟩, ⟨0, 18, 16, .rw, 9, 5⟩]
  | .VLV_PROT => [⟨0, 31, 31, .wo, 0, 0⟩, ⟨0, 20, 16, .ro, 1, 0⟩, ⟨0, 14, 12, .ro, 1, 0⟩, ⟨0, 8, 8, .ro, 9, 0⟩,
      ⟨0, 7, 7, .ro, 1, 0⟩, ⟨0, 2, 0, .ro, 0, 0⟩]
  | .VLV_DIAG => [⟨0, 31, 28, .ro, 9, 0⟩, ⟨0, 27, 26, .ro, 9, 0⟩, ⟨0, 25, 12, .ro, 9, 0⟩, ⟨0, 11, 0, .ro, 9, 0⟩]
  | .VLV_CNT => [⟨0, 31, 24, .rc, 9, 0⟩, ⟨0, 23, 16, .rc, 9, 0⟩, ⟨0, 15, 8, .rc, 9, 0⟩, ⟨0, 7, 0, .rc, 9, 0⟩]
  | .VLV_MOVE => [⟨0, 31, 0, .ro, 9, 0⟩, ⟨1, 31, 0, .ro, 9, 0⟩, ⟨2, 31, 16, .ro, 9, 0⟩, ⟨2, 15, 0, .ro, 9, 0⟩]
  | .VLV_BCFG => [⟨0, 8, 8, .rw, 9, 1⟩, ⟨0, 7, 0, .rw, 9, 0x3c⟩]
  | .VLV_BPRCFG => [⟨0, 29, 27, .rw, 9, 2⟩, ⟨0, 26, 22, .rw, 9, 7⟩, ⟨0, 21, 19, .rw, 9, 4⟩, ⟨0, 18, 16, .rw, 9, 5⟩]
  | .VLV_BPROT => [⟨0, 31, 31, .wo, 0, 0⟩, ⟨0, 20, 16, .ro, 1, 0⟩, ⟨0, 14, 12, .ro, 1, 0⟩, ⟨0, 8, 8, .ro, 9, 0⟩,
      ⟨0, 7, 7, .ro, 1, 0⟩, ⟨0, 2, 0, .ro, 0, 0⟩]
  | .VLV_BSTAT => [⟨0, 31, 20, .ro, 9, 0⟩, ⟨0, 19, 12, .ro, 9, 0⟩, ⟨0, 11, 11, .w1c, 9, 0⟩, ⟨0, 10, 8, .ro, 9, 0⟩,
      ⟨0, 3, 0, .ro, 9, 0xf⟩]
  | .VLV_BCNT => [⟨0, 31, 16, .rc, 9, 0⟩, ⟨0, 15, 8, .rc, 9, 0⟩, ⟨0, 7, 0, .rc, 9, 0⟩]
  | _ => []

end Sys2Proof.Machine
end

