-- ==== Sys2Proof/Machine/RegFieldsB.lean ====
section
/-! DEFINITION. The fields of the registers of blocks 5 to 9, from the spec's register tables. -/

set_option Elab.async false

namespace Sys2Proof.Machine

/-- Fields with access code, reset kinds and reset value, as the register tables of the spec give them. -/
def Reg.fieldsB : Reg → List FieldInfo
  | .LGT_MEMBER => [⟨0, 31, 0, .rw, 11, 0⟩]
  | .LGT_SYNC => [⟨0, 31, 31, .wo, 0, 0⟩, ⟨0, 30, 30, .wo, 0, 0⟩, ⟨0, 29, 29, .ro, 15, 0⟩]
  | .LGT_AMEMBER => [⟨0, 31, 0, .ro, 0, 0⟩]
  | .LGT_ASYNC => [⟨0, 31, 31, .wo, 0, 0⟩, ⟨0, 30, 30, .wo, 0, 0⟩, ⟨0, 29, 29, .ro, 15, 0⟩]
  | .LGT_CMD => [⟨0, 31, 16, .wo, 0, 0⟩, ⟨0, 2, 0, .wo, 0, 0⟩]
  | .LGT_STATE => [⟨0, 31, 16, .ro, 11, 0⟩, ⟨0, 11, 11, .ro, 11, 0⟩, ⟨0, 10, 10, .ro, 11, 0⟩, ⟨0, 7, 6, .ro, 11, 0⟩,
      ⟨0, 5, 4, .ro, 11, 0⟩, ⟨0, 3, 3, .ro, 11, 0⟩, ⟨0, 2, 0, .ro, 0, 0⟩]
  | .LGT_DEF => [⟨0, 31, 30, .rw, 11, 0⟩, ⟨0, 15, 0, .rw, 11, 0⟩]
  | .LGT_DIM => [⟨0, 31, 30, .rw, 11, 0⟩, ⟨0, 29, 26, .rw, 11, 0⟩, ⟨0, 25, 24, .rw, 11, 0⟩, ⟨0, 23, 16, .rw, 11, 0x19⟩,
      ⟨0, 15, 8, .rw, 11, 0x80⟩, ⟨0, 4, 0, .rw, 11, 0xa⟩, ⟨0, 10, 0, .rw, 11, 0x400⟩]
  | .LGT_SPROT => [⟨0, 31, 31, .wo, 0, 0⟩, ⟨0, 7, 4, .ro, 1, 0⟩, ⟨0, 0, 0, .ro, 1, 0⟩]
  | .LGT_SCFG => [⟨0, 23, 16, .rw, 11, 0x23⟩, ⟨0, 15, 8, .rw, 11, 0x14⟩, ⟨0, 3, 3, .rw, 11, 1⟩, ⟨0, 2, 2, .rw, 11, 1⟩,
      ⟨0, 1, 1, .rw, 11, 0⟩]
  | .LGT_SDIAG => [⟨0, 31, 28, .ro, 11, 0⟩, ⟨0, 25, 16, .ro, 11, 0⟩, ⟨0, 11, 0, .ro, 11, 0⟩]
  | .LGT_SCNT => [⟨0, 31, 24, .rc, 11, 0⟩, ⟨0, 23, 16, .rc, 11, 0⟩, ⟨0, 15, 8, .rc, 11, 0⟩, ⟨0, 7, 0, .rc, 11, 0⟩]
  | .LGT_NT => [⟨0, 31, 30, .ro, 11, 0⟩, ⟨0, 25, 16, .ro, 11, 0⟩, ⟨0, 9, 0, .ro, 11, 0⟩]
  | .LGT_MXDIAG => [⟨0, 31, 28, .ro, 11, 0⟩, ⟨0, 7, 0, .ro, 11, 0⟩]
  | .LGT_APROT => [⟨0, 31, 31, .wo, 0, 0⟩, ⟨0, 7, 4, .ro, 1, 0⟩, ⟨0, 0, 0, .ro, 1, 0⟩]
  | .LGT_AMDIAG => [⟨0, 31, 28, .ro, 11, 0⟩, ⟨0, 27, 27, .ro, 11, 0⟩, ⟨0, 23, 16, .rc, 11, 0⟩, ⟨0, 11, 0, .ro, 11, 0x400⟩]
  | .LGT_CURVE => (List.range 8).flatMap (fun w => [⟨w, 31, 24, .rw, 11, 0⟩, ⟨w, 11, 0, .rw, 11, 0x400⟩])
  | .LGT_TRIT => [⟨0, 31, 0, .ro, 11, 0x80808080⟩, ⟨1, 31, 0, .ro, 11, 0x80808080⟩, ⟨2, 31, 0, .ro, 11, 0x80808080⟩]
  | .LGT_EXPW => [⟨0, 31, 31, .rw, 11, 0⟩, ⟨0, 27, 24, .rw, 11, 0⟩, ⟨0, 23, 0, .rw, 11, 0⟩, ⟨1, 31, 31, .ro, 11, 0⟩,
      ⟨1, 30, 30, .ro, 11, 0⟩, ⟨1, 23, 0, .rw, 11, 0⟩]
  | .LGT_STNCTL => [⟨0, 31, 31, .wo, 0, 0⟩, ⟨0, 30, 30, .wo, 0, 0⟩, ⟨0, 29, 29, .rw, 11, 0⟩, ⟨0, 28, 27, .rw, 11, 0⟩,
      ⟨0, 6, 0, .rw, 11, 0⟩]
  | .LGT_STNSTAT => [⟨0, 31, 24, .ro, 11, 0⟩, ⟨0, 19, 16, .ro, 11, 0⟩, ⟨0, 13, 8, .ro, 11, 0⟩, ⟨0, 7, 7, .w1c, 11, 0⟩,
      ⟨0, 2, 0, .ro, 11, 0⟩]
  | .LGT_STNAT => [⟨0, 31, 0, .rw, 11, 0⟩, ⟨1, 31, 0, .rw, 11, 0⟩, ⟨2, 31, 16, .rw, 11, 0⟩, ⟨2, 15, 0, .rw, 11, 0⟩]
  | .LGT_CTL => [⟨0, 31, 31, .wo, 0, 0⟩, ⟨0, 15, 0, .wo, 0, 0⟩]
  | .LGT_STAT => [⟨0, 31, 31, .ro, 11, 0⟩, ⟨0, 30, 30, .ro, 0, 0⟩, ⟨0, 29, 29, .ro, 0, 0⟩, ⟨0, 28, 28, .ro, 0, 0⟩,
      ⟨0, 25, 16, .ro, 0, 0⟩, ⟨0, 8, 0, .ro, 11, 0x100⟩]
  | .FIN_CFG => [⟨0, 31, 31, .rw, 9, 0⟩, ⟨0, 30, 30, .rw, 9, 0⟩, ⟨0, 29, 29, .rw, 9, 0⟩, ⟨0, 28, 27, .rw, 9, 0⟩,
      ⟨0, 26, 26, .rw, 9, 0⟩, ⟨0, 25, 22, .rw, 9, 5⟩, ⟨0, 21, 21, .rw, 9, 0⟩, ⟨0, 20, 20, .rw, 9, 0⟩,
      ⟨0, 19, 19, .rw, 9, 0⟩, ⟨0, 18, 16, .rw, 9, 0⟩, ⟨0, 15, 12, .rw, 9, 0xf⟩]
  | .FIN_FILT => [⟨0, 15, 0, .rw, 9, 0x3e8⟩]
  | .FIN_STATE => [⟨0, 31, 16, .rc, 9, 0⟩, ⟨0, 3, 3, .ro, 9, 0⟩, ⟨0, 2, 2, .ro, 9, 0⟩, ⟨0, 1, 1, .ro, 9, 0⟩,
      ⟨0, 0, 0, .ro, 9, 0⟩]
  | .FIN_ACFG => [⟨0, 31, 31, .rw, 9, 0⟩, ⟨0, 23, 16, .rw, 9, 0xa⟩]
  | .FIN_ATHR => [⟨0, 27, 16, .rw, 9, 0xfff⟩, ⟨0, 11, 0, .rw, 9, 0⟩]
  | .FIN_AVAL => [⟨0, 31, 16, .ro, 9, 0⟩, ⟨0, 11, 0, .ro, 9, 0⟩]
  | .FIN_FSTAMP => [⟨0, 31, 0, .ro, 9, 0⟩, ⟨1, 31, 0, .ro, 9, 0⟩, ⟨2, 31, 16, .ro, 9, 0⟩, ⟨2, 15, 0, .ro, 9, 0⟩,
      ⟨3, 31, 16, .ro, 9, 0⟩, ⟨3, 15, 8, .rc, 9, 0⟩, ⟨3, 1, 1, .ro, 9, 0⟩]
  | .FIN_PGRP => [⟨0, 31, 31, .rw, 9, 0⟩, ⟨0, 30, 24, .rw, 9, 0xa⟩, ⟨0, 23, 12, .rw, 9, 0⟩, ⟨0, 11, 0, .rw, 9, 0xa⟩]
  | .FIN_STAT => [⟨0, 31, 24, .rc, 9, 0⟩, ⟨0, 23, 16, .rc, 9, 0⟩, ⟨0, 15, 8, .rc, 1, 0⟩, ⟨0, 3, 0, .ro, 1, 0⟩]
  | .CAN_CTL => [⟨0, 31, 31, .rw, 11, 0⟩, ⟨0, 30, 30, .rw, 11, 1⟩, ⟨0, 29, 29, .rw, 11, 0⟩, ⟨0, 28, 28, .rw, 11, 0⟩,
      ⟨0, 27, 27, .rw, 11, 1⟩, ⟨0, 26, 26, .rw, 11, 0⟩, ⟨0, 25, 25, .wo, 0, 0⟩]
  | .CAN_NBT => [⟨0, 31, 23, .rw, 11, 1⟩, ⟨0, 22, 16, .rw, 11, 0xf⟩, ⟨0, 15, 8, .rw, 11, 0x3e⟩, ⟨0, 7, 0, .rw, 11, 0xf⟩]
  | .CAN_DBT => [⟨0, 28, 24, .rw, 11, 0⟩, ⟨0, 19, 16, .rw, 11, 7⟩, ⟨0, 12, 8, .rw, 11, 0x1e⟩, ⟨0, 3, 0, .rw, 11, 7⟩]
  | .CAN_TDC => [⟨0, 31, 31, .rw, 11, 1⟩, ⟨0, 22, 16, .ro, 11, 0⟩, ⟨0, 14, 8, .rw, 11, 0x20⟩]
  | .CAN_STAT => [⟨0, 31, 30, .ro, 11, 0⟩, ⟨0, 29, 29, .ro, 11, 0⟩, ⟨0, 28, 28, .ro, 11, 0⟩, ⟨0, 27, 27, .w1c, 11, 0⟩,
      ⟨0, 15, 8, .ro, 11, 0⟩, ⟨0, 6, 4, .ro, 11, 0⟩, ⟨0, 2, 0, .ro, 11, 0⟩]
  | .CAN_ERRC => [⟨0, 23, 16, .ro, 11, 0⟩, ⟨0, 15, 15, .ro, 11, 0⟩, ⟨0, 8, 0, .ro, 11, 0⟩]
  | .CAN_ECNT0 => [⟨0, 31, 24, .rc, 11, 0⟩, ⟨0, 23, 16, .rc, 11, 0⟩, ⟨0, 15, 8, .rc, 11, 0⟩, ⟨0, 7, 0, .rc, 11, 0⟩]
  | .CAN_ECNT1 => [⟨0, 31, 24, .rc, 11, 0⟩, ⟨0, 23, 16, .rc, 11, 0⟩, ⟨0, 15, 8, .rc, 11, 0⟩, ⟨0, 7, 0, .rc, 11, 0⟩]
  | .CAN_FIFOCTL => [⟨0, 31, 31, .rw, 11, 0⟩, ⟨0, 30, 30, .rw, 11, 0⟩, ⟨0, 29, 29, .rw, 11, 0⟩, ⟨0, 22, 16, .rw, 11, 0x20⟩,
      ⟨0, 15, 8, .rc, 11, 0⟩, ⟨0, 6, 0, .ro, 11, 0⟩]
  | .CAN_FIFOID => [⟨0, 29, 29, .rw, 11, 0⟩, ⟨0, 28, 0, .rw, 11, 0⟩]
  | .CAN_FIFOMSK => [⟨0, 28, 0, .rw, 11, 0⟩]
  | .CAN_PBID => [⟨0, 29, 29, .rw, 11, 0⟩, ⟨0, 28, 0, .rw, 11, 0⟩]
  | .CAN_PBMSK => [⟨0, 31, 31, .rw, 11, 0⟩, ⟨0, 28, 0, .rw, 11, 0⟩]
  | .CAN_PB => [⟨0, 31, 31, .ro, 11, 0⟩, ⟨0, 28, 0, .ro, 11, 0⟩, ⟨1, 31, 31, .ro, 11, 0⟩, ⟨1, 30, 30, .ro, 11, 0⟩,
      ⟨1, 29, 29, .ro, 11, 0⟩, ⟨1, 28, 28, .ro, 11, 0⟩, ⟨1, 3, 0, .ro, 11, 0⟩, ⟨2, 31, 0, .ro, 11, 0⟩,
      ⟨3, 31, 0, .ro, 11, 0⟩, ⟨4, 31, 16, .ro, 11, 0⟩, ⟨4, 15, 0, .ro, 11, 0⟩, ⟨6, 31, 0, .ro, 11, 0⟩,
      ⟨7, 31, 0, .ro, 11, 0⟩, ⟨8, 31, 0, .ro, 11, 0⟩, ⟨9, 31, 0, .ro, 11, 0⟩, ⟨10, 31, 0, .ro, 11, 0⟩,
      ⟨11, 31, 0, .ro, 11, 0⟩, ⟨12, 31, 0, .ro, 11, 0⟩, ⟨13, 31, 0, .ro, 11, 0⟩, ⟨14, 31, 0, .ro, 11, 0⟩,
      ⟨15, 31, 0, .ro, 11, 0⟩, ⟨16, 31, 0, .ro, 11, 0⟩, ⟨17, 31, 0, .ro, 11, 0⟩, ⟨18, 31, 0, .ro, 11, 0⟩,
      ⟨19, 31, 0, .ro, 11, 0⟩, ⟨20, 31, 0, .ro, 11, 0⟩, ⟨21, 31, 0, .ro, 11, 0⟩, ⟨23, 31, 31, .rc, 11, 0⟩,
      ⟨23, 23, 16, .rc, 11, 0⟩, ⟨23, 15, 0, .ro, 11, 0⟩]
  | .CAN_FIFO => [⟨0, 31, 31, .ro, 11, 0⟩, ⟨0, 28, 0, .ro, 11, 0⟩, ⟨1, 31, 31, .ro, 11, 0⟩, ⟨1, 30, 30, .ro, 11, 0⟩,
      ⟨1, 29, 29, .ro, 11, 0⟩, ⟨1, 28, 28, .ro, 11, 0⟩, ⟨1, 3, 0, .ro, 11, 0⟩, ⟨2, 31, 0, .ro, 11, 0⟩,
      ⟨3, 31, 0, .ro, 11, 0⟩, ⟨4, 31, 16, .ro, 11, 0⟩, ⟨4, 15, 0, .ro, 11, 0⟩, ⟨6, 31, 0, .ro, 11, 0⟩,
      ⟨7, 31, 0, .ro, 11, 0⟩, ⟨8, 31, 0, .ro, 11, 0⟩, ⟨9, 31, 0, .ro, 11, 0⟩, ⟨10, 31, 0, .ro, 11, 0⟩,
      ⟨11, 31, 0, .ro, 11, 0⟩, ⟨12, 31, 0, .ro, 11, 0⟩, ⟨13, 31, 0, .ro, 11, 0⟩, ⟨14, 31, 0, .ro, 11, 0⟩,
      ⟨15, 31, 0, .ro, 11, 0⟩, ⟨16, 31, 0, .ro, 11, 0⟩, ⟨17, 31, 0, .ro, 11, 0⟩, ⟨18, 31, 0, .ro, 11, 0⟩,
      ⟨19, 31, 0, .ro, 11, 0⟩, ⟨20, 31, 0, .ro, 11, 0⟩, ⟨21, 31, 0, .ro, 11, 0⟩, ⟨23, 31, 31, .rc, 11, 0⟩,
      ⟨23, 23, 16, .rc, 11, 0⟩, ⟨23, 15, 0, .ro, 11, 0⟩]
  | .CAN_MBID => [⟨0, 31, 30, .rw, 11, 0⟩, ⟨0, 29, 29, .rw, 11, 0⟩, ⟨0, 28, 0, .rw, 11, 0⟩]
  | .CAN_MBMSK => [⟨0, 31, 31, .rw, 11, 0⟩, ⟨0, 28, 0, .rw, 11, 0⟩]
  | .CAN_MB => [⟨0, 31, 31, .rw, 11, 0⟩, ⟨0, 28, 0, .rw, 11, 0⟩, ⟨1, 31, 31, .rw, 11, 0⟩, ⟨1, 30, 30, .rw, 11, 0⟩,
      ⟨1, 29, 29, .ro, 11, 0⟩, ⟨1, 28, 28, .rw, 11, 0⟩, ⟨1, 3, 0, .rw, 11, 0⟩, ⟨2, 31, 0, .ro, 11, 0⟩,
      ⟨3, 31, 0, .ro, 11, 0⟩, ⟨4, 31, 16, .ro, 11, 0⟩, ⟨4, 15, 0, .ro, 11, 0⟩, ⟨6, 31, 0, .rw, 11, 0⟩,
      ⟨7, 31, 0, .rw, 11, 0⟩, ⟨8, 31, 0, .rw, 11, 0⟩, ⟨9, 31, 0, .rw, 11, 0⟩, ⟨10, 31, 0, .rw, 11, 0⟩,
      ⟨11, 31, 0, .rw, 11, 0⟩, ⟨12, 31, 0, .rw, 11, 0⟩, ⟨13, 31, 0, .rw, 11, 0⟩, ⟨14, 31, 0, .rw, 11, 0⟩,
      ⟨15, 31, 0, .rw, 11, 0⟩, ⟨16, 31, 0, .rw, 11, 0⟩, ⟨17, 31, 0, .rw, 11, 0⟩, ⟨18, 31, 0, .rw, 11, 0⟩,
      ⟨19, 31, 0, .rw, 11, 0⟩, ⟨20, 31, 0, .rw, 11, 0⟩, ⟨21, 31, 0, .rw, 11, 0⟩, ⟨23, 31, 31, .rc, 11, 0⟩,
      ⟨23, 23, 16, .rc, 11, 0⟩, ⟨23, 31, 31, .rw, 15, 0⟩, ⟨23, 30, 30, .wo, 0, 0⟩, ⟨23, 29, 29, .ro, 11, 0⟩,
      ⟨23, 28, 27, .ro, 11, 0⟩, ⟨23, 15, 0, .ro, 11, 0⟩]
  | .LIN_CTL => [⟨0, 31, 31, .rw, 11, 0⟩, ⟨0, 30, 30, .rw, 11, 0⟩, ⟨0, 22, 20, .rw, 11, 0⟩, ⟨0, 14, 0, .rw, 11, 0x4b00⟩]
  | .LIN_SCHCTL => [⟨0, 31, 31, .rw, 15, 0⟩, ⟨0, 30, 30, .w1s, 15, 0⟩, ⟨0, 29, 28, .rw, 11, 0⟩, ⟨0, 27, 26, .ro, 11, 0⟩,
      ⟨0, 25, 25, .ro, 11, 0⟩, ⟨0, 5, 0, .ro, 11, 0⟩]
  | .LIN_STAT => [⟨0, 31, 24, .rc, 11, 0⟩, ⟨0, 23, 16, .rc, 11, 0⟩, ⟨0, 15, 8, .rc, 11, 0⟩, ⟨0, 0, 0, .ro, 11, 0⟩]
  | .LIN_ECNT => [⟨0, 31, 24, .rc, 11, 0⟩, ⟨0, 23, 16, .rc, 11, 0⟩, ⟨0, 15, 8, .rc, 11, 0⟩, ⟨0, 7, 0, .rc, 11, 0⟩]
  | .LIN_FCFG => [⟨0, 31, 31, .rw, 11, 0⟩, ⟨0, 30, 30, .rw, 11, 0⟩, ⟨0, 29, 29, .rw, 11, 1⟩, ⟨0, 28, 28, .rw, 11, 0⟩,
      ⟨0, 3, 0, .rw, 11, 8⟩]
  | .LIN_FR => [⟨0, 31, 0, .rw, 11, 0⟩, ⟨1, 31, 0, .rw, 11, 0⟩, ⟨2, 31, 31, .rc, 11, 0⟩, ⟨2, 30, 30, .rw, 11, 0⟩,
      ⟨2, 27, 24, .ro, 11, 0⟩, ⟨2, 15, 0, .ro, 11, 0⟩]
  | .LIN_ENT => [⟨0, 31, 30, .rw, 11, 0⟩, ⟨0, 29, 28, .rw, 11, 0⟩, ⟨0, 18, 16, .rw, 11, 0⟩, ⟨0, 5, 0, .rw, 11, 0⟩,
      ⟨1, 15, 0, .rw, 11, 0⟩]
  | .NWK_CTL => [⟨0, 31, 31, .rw, 11, 0⟩, ⟨0, 30, 30, .rw, 11, 0⟩, ⟨0, 23, 16, .rw, 11, 0x3c⟩, ⟨0, 15, 8, .rw, 11, 0x3c⟩,
      ⟨0, 7, 0, .rw, 11, 0x14⟩]
  | .NWK_SLPSET => [⟨0, 21, 0, .rw, 11, 0⟩]
  | .NWK_STAT => [⟨0, 31, 31, .ro, 11, 0⟩, ⟨0, 30, 30, .ro, 3, 0⟩, ⟨0, 29, 22, .rc, 1, 0⟩, ⟨0, 21, 0, .w1c, 1, 0⟩]
  | .NWK_WIO => [⟨0, 31, 31, .rw, 11, 0⟩, ⟨0, 30, 30, .w1c, 1, 0⟩, ⟨0, 29, 24, .rw, 11, 0xa⟩, ⟨0, 23, 23, .rw, 11, 1⟩,
      ⟨0, 22, 22, .rw, 11, 0⟩, ⟨0, 21, 21, .rw, 11, 0⟩, ⟨0, 20, 20, .ro, 0, 0⟩, ⟨0, 15, 0, .rw, 11, 0x1f4⟩]
  | .NWK_TRC => [⟨0, 31, 30, .rw, 11, 2⟩, ⟨0, 29, 28, .ro, 11, 2⟩, ⟨0, 27, 27, .ro, 11, 0⟩, ⟨0, 26, 26, .rw, 11, 0⟩,
      ⟨0, 25, 25, .rw, 11, 0⟩, ⟨0, 24, 24, .rw, 11, 0⟩, ⟨0, 23, 23, .rw, 11, 0⟩, ⟨0, 22, 16, .rw, 11, 0⟩]
  | .NWK_SWCFG => [⟨0, 31, 31, .rw, 11, 1⟩, ⟨0, 27, 26, .rw, 11, 2⟩, ⟨0, 20, 16, .rw, 11, 0x1f⟩, ⟨0, 4, 0, .ro, 1, 0⟩]
  | .NWK_FW => [⟨0, 31, 24, .rw, 11, 0xf⟩, ⟨0, 23, 20, .rw, 11, 4⟩, ⟨0, 19, 16, .ro, 1, 0⟩, ⟨0, 15, 15, .ro, 1, 0⟩,
      ⟨0, 14, 14, .ro, 1, 0⟩, ⟨0, 13, 7, .rw, 11, 0x14⟩]
  | .NWK_CNT => [⟨0, 31, 24, .rc, 1, 0⟩, ⟨0, 23, 16, .rc, 1, 0⟩, ⟨0, 15, 8, .rc, 1, 0⟩, ⟨0, 7, 0, .rc, 1, 0⟩]
  | .NWK_SET => [⟨0, 31, 31, .rw, 11, 0⟩, ⟨0, 30, 30, .rw, 11, 0⟩, ⟨0, 28, 0, .rw, 11, 0⟩, ⟨1, 28, 0, .rw, 11, 0⟩,
      ⟨2, 3, 0, .rw, 11, 0⟩, ⟨3, 31, 0, .rw, 11, 0⟩, ⟨4, 31, 0, .rw, 11, 0⟩]
  | .NWK_WKFR => [⟨0, 31, 0, .ro, 1, 0⟩, ⟨1, 31, 0, .ro, 1, 0⟩, ⟨2, 31, 16, .ro, 1, 0⟩, ⟨2, 15, 0, .ro, 1, 0⟩,
      ⟨3, 31, 31, .ro, 1, 0⟩, ⟨3, 28, 0, .ro, 1, 0⟩, ⟨4, 31, 31, .rc, 1, 0⟩, ⟨4, 30, 30, .ro, 1, 0⟩,
      ⟨4, 29, 27, .ro, 1, 0⟩, ⟨4, 3, 0, .ro, 1, 0⟩, ⟨5, 31, 0, .ro, 1, 0⟩, ⟨6, 31, 0, .ro, 1, 0⟩]
  | _ => []

end Sys2Proof.Machine
end

