-- ==== Sys2Proof/Machine/RegFieldsC.lean ====
section
/-! DEFINITION. The fields of the registers of blocks 10 to 17, from the spec's register tables. -/

set_option Elab.async false

namespace Sys2Proof.Machine

/-- Fields with access code, reset kinds and reset value, as the register tables of the spec give them. -/
def Reg.fieldsC : Reg → List FieldInfo
  | .GWY_CTL => [⟨0, 31, 31, .rw, 11, 0⟩, ⟨0, 7, 0, .rw, 11, 0x64⟩]
  | .GWY_STAT => [⟨0, 31, 20, .ro, 11, 0⟩, ⟨0, 19, 16, .ro, 11, 0⟩, ⟨0, 15, 8, .rc, 11, 0⟩, ⟨0, 7, 0, .rc, 11, 0⟩]
  | .GWY_SIG => [⟨0, 31, 31, .wo, 0, 0⟩, ⟨0, 4, 0, .wo, 0, 0⟩]
  | .GWY_RBASE => [⟨0, 31, 7, .rw, 15, 0⟩]
  | .GWY_RSIZE => [⟨0, 10, 0, .rw, 15, 0⟩]
  | .GWY_RHEAD => [⟨0, 9, 0, .ro, 15, 0⟩]
  | .GWY_RTAIL => [⟨0, 9, 0, .rw, 15, 0⟩]
  | .GWY_RDROP => [⟨0, 15, 0, .rc, 15, 0⟩]
  | .GWY_RQ => [⟨0, 31, 0, .wo, 0, 0⟩, ⟨1, 31, 0, .wo, 0, 0⟩, ⟨2, 31, 0, .wo, 0, 0⟩, ⟨3, 31, 0, .wo, 0, 0⟩,
      ⟨4, 31, 0, .wo, 0, 0⟩, ⟨5, 31, 0, .wo, 0, 0⟩, ⟨6, 31, 0, .wo, 0, 0⟩, ⟨7, 31, 0, .wo, 0, 0⟩,
      ⟨8, 31, 0, .wo, 0, 0⟩, ⟨9, 31, 0, .wo, 0, 0⟩, ⟨10, 31, 0, .wo, 0, 0⟩, ⟨11, 31, 0, .wo, 0, 0⟩,
      ⟨12, 31, 0, .wo, 0, 0⟩, ⟨13, 31, 0, .wo, 0, 0⟩, ⟨15, 31, 28, .wo, 0, 0⟩, ⟨15, 27, 22, .wo, 0, 0⟩,
      ⟨15, 21, 18, .wo, 0, 0⟩, ⟨15, 15, 8, .wo, 0, 0⟩]
  | .GWY_GRP => [⟨0, 27, 16, .rw, 11, 0⟩, ⟨0, 11, 0, .rw, 11, 0⟩, ⟨1, 31, 16, .rw, 11, 0⟩, ⟨1, 15, 8, .rw, 11, 0⟩,
      ⟨1, 3, 0, .rw, 11, 0⟩, ⟨2, 31, 0, .rw, 11, 0⟩, ⟨3, 31, 0, .rw, 11, 0⟩, ⟨4, 31, 0, .rw, 11, 0⟩,
      ⟨5, 31, 0, .rw, 11, 0⟩, ⟨6, 31, 0, .rw, 11, 0⟩, ⟨7, 31, 0, .rw, 11, 0⟩, ⟨8, 31, 0, .rw, 11, 0⟩,
      ⟨9, 31, 0, .rw, 11, 0⟩, ⟨10, 8, 0, .ro, 11, 0⟩]
  | .GWY_TUN => [⟨0, 31, 0, .rw, 11, 0⟩, ⟨1, 31, 0, .rw, 11, 0⟩, ⟨2, 31, 0, .rw, 11, 0⟩, ⟨3, 15, 0, .rw, 11, 0⟩,
      ⟨4, 31, 31, .rw, 11, 0⟩, ⟨4, 27, 16, .rw, 11, 0⟩, ⟨4, 15, 13, .rw, 11, 0⟩, ⟨4, 9, 0, .rw, 11, 0⟩,
      ⟨5, 31, 16, .rc, 11, 0⟩, ⟨5, 15, 0, .rc, 11, 0⟩]
  | .GWY_PFLOG => [⟨0, 31, 0, .ro, 11, 0⟩, ⟨1, 31, 26, .ro, 11, 0⟩, ⟨1, 15, 8, .ro, 11, 0⟩, ⟨1, 3, 0, .ro, 11, 0⟩]
  | .GWY_CPL => [⟨0, 31, 31, .rw, 11, 0⟩, ⟨0, 30, 29, .rw, 11, 0⟩, ⟨0, 28, 28, .rw, 11, 0⟩, ⟨0, 27, 23, .rw, 11, 0⟩,
      ⟨0, 22, 17, .rw, 11, 0⟩, ⟨0, 16, 16, .rw, 11, 0⟩, ⟨0, 15, 8, .rw, 11, 0⟩, ⟨0, 7, 0, .rw, 11, 0⟩,
      ⟨1, 29, 0, .rw, 11, 0⟩, ⟨2, 31, 30, .rw, 11, 0⟩, ⟨2, 29, 0, .rw, 11, 0⟩, ⟨3, 31, 24, .rw, 11, 0⟩,
      ⟨3, 23, 19, .rw, 11, 0⟩, ⟨3, 15, 8, .rw, 11, 0⟩, ⟨3, 7, 3, .rw, 11, 0⟩, ⟨3, 2, 0, .rw, 11, 0⟩]
  | .GWY_CCNT => [⟨0, 31, 16, .rc, 11, 0⟩, ⟨0, 15, 0, .rc, 11, 0⟩, ⟨1, 31, 16, .rc, 11, 0⟩, ⟨1, 15, 8, .rc, 11, 0⟩,
      ⟨1, 7, 0, .rc, 11, 0⟩]
  | .CHK_CFG => [⟨0, 31, 30, .rw, 11, 0⟩, ⟨0, 29, 27, .rw, 11, 0⟩, ⟨0, 25, 24, .rw, 11, 1⟩, ⟨0, 7, 0, .rw, 11, 2⟩]
  | .CHK_DID => [⟨0, 15, 0, .rw, 11, 0⟩]
  | .CHK_CNT => [⟨0, 31, 24, .rc, 11, 0⟩, ⟨0, 23, 16, .rc, 11, 0⟩, ⟨0, 15, 8, .rc, 11, 0⟩, ⟨0, 7, 0, .rc, 11, 0⟩]
  | .CHK_STAT => [⟨0, 31, 31, .ro, 11, 0⟩, ⟨0, 15, 8, .ro, 11, 0⟩, ⟨0, 7, 0, .ro, 11, 0⟩]
  | .ACC_CTL => [⟨0, 31, 31, .rw, 11, 0⟩, ⟨0, 30, 30, .rw, 11, 0⟩, ⟨0, 29, 29, .rw, 11, 1⟩, ⟨0, 26, 24, .rw, 11, 2⟩,
      ⟨0, 23, 16, .rw, 11, 0x14⟩, ⟨0, 15, 8, .rw, 11, 0xc⟩, ⟨0, 3, 0, .rw, 11, 2⟩]
  | .ACC_AER => [⟨0, 31, 24, .rw, 11, 0xf⟩, ⟨0, 23, 16, .rw, 11, 3⟩, ⟨0, 15, 8, .rw, 11, 0x96⟩, ⟨0, 7, 0, .rw, 11, 0x32⟩]
  | .ACC_POLL => [⟨0, 31, 31, .ro, 1, 0⟩, ⟨0, 30, 28, .ro, 1, 0⟩, ⟨0, 27, 27, .ro, 1, 0⟩, ⟨0, 23, 16, .rw, 11, 0x28⟩,
      ⟨0, 15, 8, .rw, 11, 0x14⟩]
  | .ACC_ZONECFG => [⟨0, 31, 16, .rw, 11, 0⟩, ⟨0, 15, 0, .rw, 11, 0⟩]
  | .ACC_LOCKOUT => [⟨0, 31, 31, .ro, 0, 0⟩, ⟨0, 30, 28, .ro, 0, 0⟩, ⟨0, 23, 16, .rw, 11, 0xa⟩, ⟨0, 15, 0, .ro, 0, 0⟩]
  | .ACC_CNT => [⟨0, 31, 24, .rc, 11, 0⟩, ⟨0, 23, 16, .rc, 11, 0⟩, ⟨0, 15, 8, .rc, 11, 0⟩, ⟨0, 7, 0, .rc, 11, 0⟩]
  | .ACC_WAKE => [⟨0, 31, 31, .rc, 1, 0⟩, ⟨0, 30, 28, .ro, 1, 0⟩, ⟨0, 26, 24, .ro, 1, 0⟩, ⟨0, 23, 16, .ro, 1, 0⟩]
  | .ACC_POLLSTEP => [⟨0, 31, 16, .rw, 11, 0⟩, ⟨0, 15, 0, .rw, 11, 0⟩]
  | .ACC_ZONE => [⟨0, 31, 0, .rw, 11, 0⟩, ⟨1, 31, 0, .rw, 11, 0⟩, ⟨2, 31, 0, .rw, 11, 0xffffffff⟩, ⟨3, 31, 0, .rw, 11, 0xffffffff⟩]
  | .ACC_FNREQ => [⟨0, 31, 0, .wo, 0, 0⟩, ⟨1, 31, 28, .wo, 0, 0⟩, ⟨1, 18, 16, .wo, 0, 0⟩, ⟨1, 15, 0, .wo, 0, 0⟩]
  | .ACC_FNSTAT => [⟨0, 31, 31, .ro, 11, 0⟩, ⟨0, 30, 30, .ro, 11, 0⟩, ⟨0, 29, 26, .ro, 11, 0⟩, ⟨0, 25, 24, .ro, 11, 0⟩,
      ⟨0, 23, 16, .ro, 11, 0⟩, ⟨0, 15, 0, .ro, 11, 0⟩]
  | .ACC_TOK => [⟨0, 31, 0, .ro, 0, 0xffffffff⟩, ⟨1, 31, 31, .ro, 0, 0⟩, ⟨1, 27, 24, .ro, 11, 0⟩, ⟨1, 15, 0, .ro, 11, 0⟩,
      ⟨2, 31, 0, .ro, 11, 0⟩, ⟨3, 31, 0, .ro, 11, 0⟩, ⟨4, 15, 0, .ro, 11, 0⟩, ⟨5, 31, 0, .ro, 0, 0⟩,
      ⟨6, 31, 0, .ro, 11, 0⟩]
  | .PMU_SUPPLY => [⟨0, 23, 22, .ro, 0, 0⟩, ⟨0, 21, 21, .ro, 0, 0⟩, ⟨0, 20, 20, .ro, 0, 0⟩, ⟨0, 19, 19, .w1c, 1, 0⟩,
      ⟨0, 18, 18, .w1c, 1, 0⟩, ⟨0, 17, 17, .w1c, 1, 0⟩, ⟨0, 16, 16, .w1c, 1, 0⟩, ⟨0, 12, 0, .ro, 0, 0⟩]
  | .PMU_THERM => [⟨0, 25, 25, .w1c, 1, 0⟩, ⟨0, 24, 16, .ro, 1, 0x100⟩, ⟨0, 8, 0, .ro, 1, 0x100⟩]
  | .PMU_STATE => [⟨0, 31, 29, .ro, 0, 0⟩, ⟨0, 28, 26, .ro, 11, 0⟩, ⟨0, 25, 22, .ro, 0, 0⟩, ⟨0, 21, 21, .w1c, 1, 0⟩]
  | .PMU_CTL => [⟨0, 31, 29, .wo, 0, 0⟩, ⟨0, 28, 28, .rw, 1, 0⟩, ⟨0, 9, 0, .rw, 1, 0x32⟩]
  | .PMU_WAKECAUSE => [⟨0, 21, 21, .ro, 11, 0⟩, ⟨0, 20, 20, .ro, 11, 0⟩, ⟨0, 19, 16, .ro, 11, 0⟩, ⟨0, 15, 8, .ro, 11, 0⟩,
      ⟨0, 5, 0, .ro, 11, 0⟩]
  | .PMU_RAIL => [⟨0, 31, 24, .rc, 1, 0⟩, ⟨0, 23, 16, .rc, 1, 0⟩, ⟨0, 15, 14, .ro, 1, 0⟩, ⟨0, 13, 12, .ro, 1, 0⟩,
      ⟨0, 2, 0, .ro, 1, 0⟩]
  | .PMU_DEEP => [⟨0, 31, 16, .rw, 1, 0x10e0⟩, ⟨0, 9, 0, .rw, 1, 0⟩]
  | .PMU_ATMR => [⟨0, 31, 31, .rw, 1, 0⟩, ⟨0, 23, 0, .rw, 1, 0⟩]
  | .PMU_PARKSTAT => [⟨0, 31, 24, .rc, 1, 0⟩, ⟨0, 23, 16, .rc, 1, 0⟩, ⟨0, 15, 8, .rc, 1, 0⟩, ⟨0, 7, 0, .rc, 1, 0⟩]
  | .PMU_DSCTL => [⟨0, 31, 0, .ro, 1, 0⟩]
  | .PMU_DSSTAT => [⟨0, 31, 0, .ro, 3, 0⟩]
  | .PMU_DSCNT => [⟨0, 31, 19, .ro, 11, 0⟩, ⟨0, 15, 8, .rc, 11, 0⟩, ⟨0, 7, 0, .rc, 11, 0⟩]
  | .PMU_RESET => [⟨0, 7, 0, .wo, 0, 0⟩]
  | .PMU_PARKACK => [⟨0, 0, 0, .wo, 0, 0⟩]
  | .PMU_PARKHELD => [⟨0, 31, 0, .rw, 1, 0⟩]
  | .PMU_CMP => [⟨0, 31, 31, .rw, 1, 0⟩, ⟨0, 30, 30, .rw, 1, 0⟩, ⟨0, 29, 29, .rw, 1, 0⟩, ⟨0, 28, 28, .w1c, 1, 0⟩,
      ⟨0, 27, 24, .rw, 1, 0⟩, ⟨0, 23, 16, .rw, 1, 0⟩, ⟨0, 6, 0, .rw, 1, 0⟩]
  | .MTR_STAT => [⟨0, 31, 31, .ro, 0, 0⟩, ⟨0, 15, 8, .rc, 11, 0⟩, ⟨0, 7, 0, .rc, 11, 0⟩]
  | .MTR_CTL => [⟨0, 0, 0, .rw, 11, 0⟩]
  | .MTR_TXHEAD => [⟨0, 11, 0, .rw, 11, 0⟩]
  | .MTR_TXTAIL => [⟨0, 11, 0, .ro, 11, 0⟩]
  | .MTR_RXHEAD => [⟨0, 11, 0, .ro, 11, 0⟩]
  | .MTR_RXTAIL => [⟨0, 11, 0, .rw, 11, 0⟩]
  | .MTR_TXBUF => [⟨0, 31, 0, .rw, 0, 0⟩]
  | .MTR_RXBUF => [⟨0, 31, 0, .ro, 0, 0⟩]
  | .SYS_PARTHOST => [⟨0, 18, 16, .ro, 0, 0⟩, ⟨0, 14, 12, .ro, 11, 7⟩, ⟨0, 10, 8, .ro, 11, 7⟩, ⟨0, 6, 4, .ro, 11, 7⟩,
      ⟨0, 2, 0, .ro, 11, 7⟩]
  | .SYS_DOMSTAT => [⟨0, 11, 11, .ro, 0, 0⟩, ⟨0, 10, 10, .ro, 0, 1⟩, ⟨0, 9, 0, .ro, 11, 0⟩]
  | .SYS_OWNDROP => [⟨0, 31, 16, .rc, 11, 0⟩, ⟨0, 15, 0, .rc, 11, 0⟩]
  | .SYS_OWNLAST => [⟨0, 31, 2, .ro, 11, 0⟩, ⟨0, 1, 0, .ro, 11, 0⟩]
  | .SYS_BOOTSTAT => [⟨0, 27, 24, .ro, 11, 0⟩, ⟨0, 23, 23, .ro, 11, 0⟩, ⟨0, 22, 22, .ro, 11, 0⟩, ⟨0, 21, 21, .ro, 3, 0⟩,
      ⟨0, 20, 20, .ro, 3, 0⟩, ⟨0, 19, 16, .ro, 11, 0⟩, ⟨0, 15, 0, .ro, 11, 0⟩]
  | .SYS_BOOTSEQ => [⟨0, 31, 0, .ro, 11, 0⟩]
  | .SYS_BOOTPART => [⟨0, 19, 0, .ro, 11, 0⟩]
  | .SYS_BOOTREJ => [⟨0, 31, 31, .ro, 11, 0⟩, ⟨0, 30, 30, .ro, 11, 0⟩, ⟨0, 23, 16, .ro, 11, 0⟩, ⟨0, 15, 8, .ro, 11, 0⟩,
      ⟨0, 3, 0, .ro, 11, 0⟩]
  | .SYS_REGBLK => [⟨0, 31, 16, .rc, 11, 0⟩, ⟨0, 15, 0, .ro, 11, 0⟩]
  | .SYS_SRAMREP => [⟨0, 31, 16, .ro, 3, 0⟩, ⟨0, 7, 0, .ro, 3, 0⟩]
  | .SYS_REGLAST => [⟨0, 31, 2, .ro, 11, 0⟩]
  | .SYS_PCTL => [⟨0, 31, 31, .wo, 0, 0⟩, ⟨0, 30, 30, .wo, 0, 0⟩, ⟨0, 29, 29, .wo, 0, 0⟩, ⟨0, 23, 20, .ro, 11, 0⟩,
      ⟨0, 15, 0, .rc, 11, 0⟩]
  | .SYS_RELIEF => [⟨0, 31, 31, .rw, 11, 0⟩, ⟨0, 7, 4, .wo, 0, 0⟩]
  | .SYS_CORESTAT => [⟨0, 31, 16, .rc, 11, 0⟩, ⟨0, 9, 0, .ro, 11, 0⟩]
  | .SYS_DWDOG => [⟨0, 23, 12, .rw, 11, 0⟩, ⟨0, 7, 0, .wo, 0, 0⟩]
  | .SYS_TEST => [⟨0, 31, 28, .wo, 0, 0⟩, ⟨0, 27, 27, .ro, 15, 0⟩, ⟨0, 26, 24, .ro, 15, 0⟩, ⟨0, 23, 16, .rw, 15, 0⟩,
      ⟨0, 15, 0, .rw, 15, 0⟩]
  | .ERR_BLK0 => [⟨0, 31, 16, .rc, 11, 0⟩, ⟨0, 15, 0, .rc, 11, 0⟩]
  | .ERR_BLK1 => [⟨0, 31, 16, .rc, 11, 0⟩, ⟨0, 15, 0, .rc, 11, 0⟩]
  | .ERR_BLK2 => [⟨0, 31, 16, .rc, 11, 0⟩, ⟨0, 15, 0, .rc, 11, 0⟩]
  | .ERR_BLK3 => [⟨0, 31, 16, .rc, 11, 0⟩, ⟨0, 15, 8, .rc, 11, 0⟩, ⟨0, 7, 4, .rc, 11, 0⟩, ⟨0, 3, 0, .rc, 11, 0⟩]
  | .ERR_CUM => [⟨0, 31, 0, .ro, 1, 0⟩]
  | .ERR_SCRUB => [⟨0, 31, 31, .rw, 11, 1⟩, ⟨0, 23, 16, .rw, 11, 0x10⟩, ⟨0, 15, 8, .rw, 1, 0x18⟩, ⟨0, 7, 0, .rc, 11, 0⟩]
  | .ERR_LOGHEAD => [⟨0, 31, 31, .ro, 1, 0⟩, ⟨0, 24, 5, .ro, 1, 0⟩]
  | .ERR_LOGSEQ => [⟨0, 31, 0, .ro, 1, 0⟩]
  | .UPD_STAT => [⟨0, 31, 29, .ro, 11, 0⟩, ⟨0, 28, 28, .ro, 11, 0⟩, ⟨0, 27, 24, .ro, 11, 0⟩, ⟨0, 23, 20, .ro, 11, 0⟩,
      ⟨0, 19, 19, .ro, 11, 0⟩, ⟨0, 18, 18, .ro, 11, 0⟩, ⟨0, 15, 8, .ro, 11, 0⟩, ⟨0, 7, 0, .ro, 11, 0⟩]
  | .UPD_GATE => [⟨0, 31, 31, .rw, 11, 0⟩]
  | .UPD_LAST => [⟨0, 31, 28, .ro, 0, 0⟩, ⟨0, 27, 20, .ro, 0, 0⟩, ⟨0, 19, 16, .ro, 0, 0⟩, ⟨0, 15, 12, .ro, 0, 0⟩]
  | .UPD_CNT => [⟨0, 31, 24, .rc, 11, 0⟩, ⟨0, 23, 16, .rc, 11, 0⟩, ⟨0, 15, 8, .rc, 11, 0⟩, ⟨0, 7, 0, .rc, 11, 0⟩]
  | .UPD_HEALTH => [⟨0, 31, 31, .ro, 15, 0⟩, ⟨0, 7, 0, .wo, 0, 0⟩]
  | .UPD_WSCTL => [⟨0, 31, 31, .ro, 11, 0⟩, ⟨0, 30, 30, .wo, 0, 0⟩, ⟨0, 10, 0, .ro, 11, 0⟩]
  | .UPD_WSIN => (List.range 260).map (fun w => ⟨w, 31, 0, .ro, 11, 0⟩)
  | .UPD_WSOUT => (List.range 260).map (fun w => ⟨w, 31, 0, .rw, 11, 0⟩)
  | .CPU_STATUS => [⟨0, 2, 2, .rw, 15, 0⟩, ⟨0, 1, 1, .rw, 15, 0⟩, ⟨0, 0, 0, .rw, 15, 1⟩]
  | .CPU_ESTAT => [⟨0, 2, 0, .rw, 15, 0⟩]
  | .CPU_EPC => [⟨0, 31, 2, .rw, 15, 0⟩]
  | .CPU_CAUSE => [⟨0, 31, 31, .ro, 11, 0⟩, ⟨0, 9, 8, .ro, 15, 0⟩, ⟨0, 4, 0, .ro, 15, 0⟩]
  | .CPU_BADADDR => [⟨0, 31, 0, .ro, 15, 0⟩]
  | .CPU_TRAPINSN => [⟨0, 31, 0, .ro, 15, 0⟩]
  | .CPU_TVEC => [⟨0, 31, 8, .rw, 15, 0x80000⟩]
  | .CPU_ISAVER => [⟨0, 23, 16, .ro, 0, 1⟩, ⟨0, 15, 8, .ro, 0, 0⟩, ⟨0, 7, 0, .ro, 0, 0⟩]
  | .CPU_CORE => [⟨0, 6, 4, .ro, 0, 0⟩, ⟨0, 2, 0, .ro, 0, 0⟩]
  | .CPU_SCRATCH => [⟨0, 31, 0, .rw, 15, 0⟩]
  | .CPU_CYCLE => [⟨0, 31, 0, .ro, 15, 0⟩, ⟨1, 31, 0, .ro, 15, 0⟩]
  | .CPU_DOORBELL => [⟨0, 3, 0, .wo, 0, 0⟩]
  | .CPU_EVQ => [⟨0, 31, 0, .ro, 15, 0⟩, ⟨1, 31, 0, .ro, 15, 0⟩, ⟨2, 31, 0, .ro, 15, 0⟩, ⟨3, 31, 0, .ro, 15, 0⟩]
  | .CPU_EVQSTAT => [⟨0, 31, 16, .rc, 15, 0⟩, ⟨0, 10, 0, .ro, 15, 0⟩]
  | .CPU_RBASE => [⟨0, 31, 5, .rw, 15, 0⟩, ⟨0, 4, 4, .rw, 15, 0⟩, ⟨0, 3, 3, .rw, 15, 0⟩, ⟨0, 2, 2, .rw, 15, 0⟩,
      ⟨0, 1, 1, .rw, 15, 0⟩, ⟨0, 0, 0, .rw, 15, 0⟩]
  | .CPU_RLIM => [⟨0, 31, 5, .rw, 15, 0⟩]
  | _ => []

end Sys2Proof.Machine
end

