-- ==== Sys2Proof/Machine/RegGeom.lean ====
section
/-! DEFINITION. Where each register lies: the offset lists of the spec (R189, R227, R273, R320, R349, R390, R413,
R434, R441, R468, R501, R524, R554, R585) over the bases of the address map. The control registers of core c are
given addresses of their own above the 32-bit space, 0x1_0000_0000 + 0x1000·c + 4·index (R626 reaches them by
index, never by address). -/

set_option Elab.async false

namespace Sys2Proof.Machine

/-- Geometry of each register, from the spec's offset lists. MTR_TXBUF and MTR_RXBUF, of 4 KB without a word count, are 1,024 one-word registers
(DESIGN CHOICE, log entry 150). -/
def Reg.geom : Reg → Geom
  | .TIM_T0 => ⟨0x40000000, 1, 0, 1, 0, 3⟩
  | .TIM_T1 => ⟨0x40000010, 1, 0, 1, 0, 3⟩
  | .TIM_T2 => ⟨0x40000020, 1, 0, 1, 0, 3⟩
  | .TIM_T3 => ⟨0x40000030, 1, 0, 1, 0, 3⟩
  | .TIM_STAT => ⟨0x40000040, 1, 0, 1, 0, 1⟩
  | .TIM_SHCTL => ⟨0x40000044, 1, 0, 1, 0, 1⟩
  | .TIM_CALSTAT => ⟨0x40000048, 1, 0, 1, 0, 1⟩
  | .TIM_SCTL => ⟨0x40000000, 3, 0x100, 1, 0, 1⟩
  | .TIM_SSTEP => ⟨0x40000004, 3, 0x100, 1, 0, 1⟩
  | .TIM_SGAIN => ⟨0x40000008, 3, 0x100, 1, 0, 1⟩
  | .TIM_SRATE => ⟨0x4000000c, 3, 0x100, 1, 0, 1⟩
  | .TIM_SSTAT => ⟨0x40000014, 3, 0x100, 1, 0, 1⟩
  | .TIM_SOFFS => ⟨0x40000018, 3, 0x100, 1, 0, 2⟩
  | .TIM_SFEED => ⟨0x40000020, 3, 0x100, 1, 0, 2⟩
  | .TIM_SLAST => ⟨0x40000028, 3, 0x100, 1, 0, 2⟩
  | .TIM_SPPS => ⟨0x40000030, 3, 0x100, 1, 0, 1⟩
  | .TIM_SCNT => ⟨0x40000034, 3, 0x100, 1, 0, 1⟩
  | .TIM_INCR => ⟨0x40000010, 3, 0x100, 1, 0, 1⟩
  | .TIM_TPOCTL => ⟨0x40001000, 16, 0x40, 1, 0, 1⟩
  | .TIM_TPOSTAT => ⟨0x40001004, 16, 0x40, 1, 0, 1⟩
  | .TIM_TPOWID => ⟨0x40001008, 16, 0x40, 1, 0, 1⟩
  | .TIM_TPOCOUNT => ⟨0x4000100c, 16, 0x40, 1, 0, 1⟩
  | .TIM_TPOPER => ⟨0x40001010, 16, 0x40, 1, 0, 2⟩
  | .TIM_TPOSTART => ⟨0x40001018, 16, 0x40, 1, 0, 3⟩
  | .TIM_TPOLEDGE => ⟨0x40001028, 16, 0x40, 1, 0, 3⟩
  | .TIM_TCICTL => ⟨0x40002000, 8, 0x20, 1, 0, 1⟩
  | .TIM_TCICAP => ⟨0x40002004, 8, 0x20, 1, 0, 4⟩
  | .TIM_TCICNT => ⟨0x40002014, 8, 0x20, 1, 0, 1⟩
  | .TIM_AUDCTL => ⟨0x40003000, 1, 0, 1, 0, 1⟩
  | .TIM_AUD => ⟨0x40003010, 9, 8, 1, 0, 2⟩
  | .ESW_STAT => ⟨0x40100000, 1, 0, 1, 0, 1⟩
  | .ESW_AGE => ⟨0x40100004, 1, 0, 1, 0, 1⟩
  | .ESW_FDBCMD => ⟨0x40100010, 1, 0, 1, 0, 1⟩
  | .ESW_FDBDATA => ⟨0x40100014, 1, 0, 1, 0, 3⟩
  | .ESW_PTPROLE => ⟨0x4010c000, 2, 0x100, 1, 0, 1⟩
  | .ESW_PTPSTEP => ⟨0x4010c004, 2, 0x100, 1, 0, 1⟩
  | .ESW_PTPINT => ⟨0x4010c008, 2, 0x100, 1, 0, 1⟩
  | .ESW_PTPCNT => ⟨0x4010c00c, 2, 0x100, 1, 0, 2⟩
  | .ESW_PDCTL => ⟨0x4010c200, 1, 0, 1, 0, 1⟩
  | .ESW_PCTL => ⟨0x40110000, 15, 0x1000, 1, 0, 1⟩
  | .ESW_PSTAT => ⟨0x40110004, 15, 0x1000, 1, 0, 1⟩
  | .ESW_PQMAP => ⟨0x40110008, 15, 0x1000, 1, 0, 1⟩
  | .ESW_PCT => ⟨0x4011000c, 15, 0x1000, 1, 0, 1⟩
  | .ESW_PPLCA => ⟨0x40110010, 15, 0x1000, 1, 0, 1⟩
  | .ESW_PQSLOPE => ⟨0x40110040, 15, 0x1000, 8, 4, 1⟩
  | .ESW_PQLIM => ⟨0x40110060, 15, 0x1000, 8, 4, 1⟩
  | .ESW_PTASCTL => ⟨0x40110080, 15, 0x1000, 1, 0, 1⟩
  | .ESW_PTASBASE => ⟨0x40110084, 15, 0x1000, 1, 0, 3⟩
  | .ESW_PTASCYC => ⟨0x40110090, 15, 0x1000, 1, 0, 1⟩
  | .ESW_PCNT => ⟨0x40110100, 15, 0x1000, 8, 4, 1⟩
  | .ESW_FPTXBASE => ⟨0x4010d000, 4, 0x40, 1, 0, 1⟩
  | .ESW_FPTXSIZE => ⟨0x4010d004, 4, 0x40, 1, 0, 1⟩
  | .ESW_FPTXTAIL => ⟨0x4010d008, 4, 0x40, 1, 0, 1⟩
  | .ESW_FPTXHEAD => ⟨0x4010d00c, 4, 0x40, 1, 0, 1⟩
  | .ESW_FPRXBASE => ⟨0x4010d010, 4, 0x40, 1, 0, 1⟩
  | .ESW_FPRXSIZE => ⟨0x4010d014, 4, 0x40, 1, 0, 1⟩
  | .ESW_FPRXTAIL => ⟨0x4010d018, 4, 0x40, 1, 0, 1⟩
  | .ESW_FPRXHEAD => ⟨0x4010d01c, 4, 0x40, 1, 0, 1⟩
  | .ESW_FPLATE => ⟨0x4010d020, 4, 0x40, 1, 0, 1⟩
  | .ESW_VLAN => ⟨0x40120000, 4096, 4, 1, 0, 1⟩
  | .ESW_STREAM => ⟨0x40130000, 256, 0x20, 1, 0, 8⟩
  | .ESW_GATE => ⟨0x40140000, 15, 0x2000, 1024, 8, 2⟩
  | .SCH_TCTL => ⟨0x40200100, 8, 0x40, 1, 0, 1⟩
  | .SCH_TSWAP => ⟨0x40200110, 8, 0x40, 1, 0, 3⟩
  | .SCH_TCNT0 => ⟨0x40200120, 8, 0x40, 1, 0, 1⟩
  | .SCH_TCNT1 => ⟨0x40200124, 8, 0x40, 1, 0, 1⟩
  | .SCH_PCTL => ⟨0x40200400, 1, 0, 1, 0, 1⟩
  | .SCH_PWEIGHT => ⟨0x40200404, 1, 0, 1, 0, 1⟩
  | .SCH_PBUD => ⟨0x40200410, 4, 8, 1, 0, 1⟩
  | .SCH_PCNT => ⟨0x40200414, 4, 8, 1, 0, 1⟩
  | .SCH_ICLS => ⟨0x40200440, 5, 4, 1, 0, 1⟩
  | .SCH_RFXREL => ⟨0x40200500, 1, 0, 1, 0, 1⟩
  | .SCH_RFXHELD => ⟨0x40200510, 8, 4, 1, 0, 1⟩
  | .SCH_ENTRY => ⟨0x40210000, 8, 0x8000, 1024, 0x20, 8⟩
  | .SCH_RULE => ⟨0x40260000, 256, 0x20, 1, 0, 8⟩
  | .SCH_EDGE => ⟨0x40270000, 292, 0x20, 1, 0, 8⟩
  | .PSW_CMD => ⟨0x40300000, 72, 0x30, 1, 0, 1⟩
  | .PSW_CFG => ⟨0x40300004, 72, 0x30, 1, 0, 1⟩
  | .PSW_PROT => ⟨0x40300008, 72, 0x30, 1, 0, 1⟩
  | .PSW_DIAG => ⟨0x4030000c, 72, 0x30, 1, 0, 1⟩
  | .PSW_CNT => ⟨0x40300010, 72, 0x30, 1, 0, 1⟩
  | .PSW_STR => ⟨0x40300020, 72, 0x30, 1, 0, 3⟩
  | .PSW_WDOG => ⟨0x40340000, 1, 0, 1, 0, 1⟩
  | .PSW_WDSTAT => ⟨0x40340004, 1, 0, 1, 0, 1⟩
  | .PSW_TOWSTAT => ⟨0x40340008, 1, 0, 1, 0, 1⟩
  | .PSW_BPAIR => ⟨0x40340010, 4, 4, 1, 0, 1⟩
  | .PSW_PLAN => ⟨0x40340020, 4, 4, 1, 0, 1⟩
  | .PSW_MEMBER => ⟨0x40380f00, 32, 0x1000, 8, 4, 1⟩
  | .PSW_GCTL => ⟨0x40380f80, 32, 0x1000, 1, 0, 1⟩
  | .PSW_AMEMBER => ⟨0x403f0f00, 8, 4, 1, 0, 1⟩
  | .PSW_AGCTL => ⟨0x403f0f80, 1, 0, 1, 0, 1⟩
  | .VLV_MEMBER => ⟨0x40480f00, 32, 0x1000, 8, 4, 1⟩
  | .VLV_GCTL => ⟨0x40480f80, 32, 0x1000, 1, 0, 1⟩
  | .VLV_AMEMBER => ⟨0x404f0f00, 8, 4, 1, 0, 1⟩
  | .VLV_AGCTL => ⟨0x404f0f80, 1, 0, 1, 0, 1⟩
  | .VLV_CMD => ⟨0x40400000, 24, 0x40, 1, 0, 1⟩
  | .VLV_PROF => ⟨0x40400004, 24, 0x40, 1, 0, 1⟩
  | .VLV_TIME => ⟨0x40400008, 24, 0x40, 1, 0, 1⟩
  | .VLV_CFG => ⟨0x4040000c, 24, 0x40, 1, 0, 1⟩
  | .VLV_PRCFG => ⟨0x40400010, 24, 0x40, 1, 0, 1⟩
  | .VLV_PROT => ⟨0x40400014, 24, 0x40, 1, 0, 1⟩
  | .VLV_DIAG => ⟨0x40400018, 24, 0x40, 1, 0, 1⟩
  | .VLV_CNT => ⟨0x4040001c, 24, 0x40, 1, 0, 1⟩
  | .VLV_MOVE => ⟨0x40400020, 24, 0x40, 1, 0, 3⟩
  | .VLV_BCFG => ⟨0x40401000, 4, 0x40, 1, 0, 1⟩
  | .VLV_BPRCFG => ⟨0x40401004, 4, 0x40, 1, 0, 1⟩
  | .VLV_BPROT => ⟨0x40401008, 4, 0x40, 1, 0, 1⟩
  | .VLV_BSTAT => ⟨0x4040100c, 4, 0x40, 1, 0, 1⟩
  | .VLV_BCNT => ⟨0x40401010, 4, 0x40, 1, 0, 1⟩
  | .LGT_MEMBER => ⟨0x40580f00, 32, 0x1000, 8, 4, 1⟩
  | .LGT_SYNC => ⟨0x40580f80, 32, 0x1000, 1, 0, 1⟩
  | .LGT_AMEMBER => ⟨0x405f0f00, 8, 4, 1, 0, 1⟩
  | .LGT_ASYNC => ⟨0x405f0f80, 1, 0, 1, 0, 1⟩
  | .LGT_CMD => ⟨0x40500000, 164, 0x10, 1, 0, 1⟩
  | .LGT_STATE => ⟨0x40500004, 164, 0x10, 1, 0, 1⟩
  | .LGT_DEF => ⟨0x40500008, 164, 0x10, 1, 0, 1⟩
  | .LGT_DIM => ⟨0x4050000c, 164, 0x10, 1, 0, 1⟩
  | .LGT_SPROT => ⟨0x40510000, 16, 0x40, 1, 0, 1⟩
  | .LGT_SCFG => ⟨0x40510004, 16, 0x40, 1, 0, 1⟩
  | .LGT_SDIAG => ⟨0x40510008, 16, 0x40, 1, 0, 1⟩
  | .LGT_SCNT => ⟨0x4051000c, 16, 0x40, 1, 0, 1⟩
  | .LGT_NT => ⟨0x40510010, 16, 0x40, 1, 0, 1⟩
  | .LGT_MXDIAG => ⟨0x40520000, 96, 4, 1, 0, 1⟩
  | .LGT_APROT => ⟨0x40530000, 36, 0x10, 1, 0, 1⟩
  | .LGT_AMDIAG => ⟨0x40530004, 36, 0x10, 1, 0, 1⟩
  | .LGT_CURVE => ⟨0x40540000, 4, 0x20, 1, 0, 8⟩
  | .LGT_TRIT => ⟨0x40540080, 1, 0, 1, 0, 3⟩
  | .LGT_EXPW => ⟨0x40550000, 4, 8, 1, 0, 2⟩
  | .LGT_STNCTL => ⟨0x40560000, 16, 0x40, 1, 0, 1⟩
  | .LGT_STNSTAT => ⟨0x40560004, 16, 0x40, 1, 0, 1⟩
  | .LGT_STNAT => ⟨0x40560010, 16, 0x40, 1, 0, 3⟩
  | .LGT_CTL => ⟨0x40570000, 1, 0, 1, 0, 1⟩
  | .LGT_STAT => ⟨0x40570004, 1, 0, 1, 0, 1⟩
  | .FIN_CFG => ⟨0x40600000, 96, 0x20, 1, 0, 1⟩
  | .FIN_FILT => ⟨0x40600004, 96, 0x20, 1, 0, 1⟩
  | .FIN_STATE => ⟨0x40600008, 96, 0x20, 1, 0, 1⟩
  | .FIN_ACFG => ⟨0x4060000c, 96, 0x20, 1, 0, 1⟩
  | .FIN_ATHR => ⟨0x40600010, 96, 0x20, 1, 0, 1⟩
  | .FIN_AVAL => ⟨0x40600014, 96, 0x20, 1, 0, 1⟩
  | .FIN_FSTAMP => ⟨0x40601000, 8, 0x10, 1, 0, 4⟩
  | .FIN_PGRP => ⟨0x40602000, 8, 4, 1, 0, 1⟩
  | .FIN_STAT => ⟨0x40602040, 1, 0, 1, 0, 1⟩
  | .CAN_CTL => ⟨0x40700000, 10, 0x10000, 1, 0, 1⟩
  | .CAN_NBT => ⟨0x40700004, 10, 0x10000, 1, 0, 1⟩
  | .CAN_DBT => ⟨0x40700008, 10, 0x10000, 1, 0, 1⟩
  | .CAN_TDC => ⟨0x4070000c, 10, 0x10000, 1, 0, 1⟩
  | .CAN_STAT => ⟨0x40700010, 10, 0x10000, 1, 0, 1⟩
  | .CAN_ERRC => ⟨0x40700014, 10, 0x10000, 1, 0, 1⟩
  | .CAN_ECNT0 => ⟨0x40700018, 10, 0x10000, 1, 0, 1⟩
  | .CAN_ECNT1 => ⟨0x4070001c, 10, 0x10000, 1, 0, 1⟩
  | .CAN_FIFOCTL => ⟨0x40700020, 10, 0x10000, 1, 0, 1⟩
  | .CAN_FIFOID => ⟨0x40700024, 10, 0x10000, 1, 0, 1⟩
  | .CAN_FIFOMSK => ⟨0x40700028, 10, 0x10000, 1, 0, 1⟩
  | .CAN_PBID => ⟨0x40700100, 10, 0x10000, 4, 8, 1⟩
  | .CAN_PBMSK => ⟨0x40700104, 10, 0x10000, 4, 8, 1⟩
  | .CAN_PB => ⟨0x40700200, 10, 0x10000, 4, 0x60, 24⟩
  | .CAN_FIFO => ⟨0x40700400, 10, 0x10000, 1, 0, 24⟩
  | .CAN_MBID => ⟨0x40700800, 10, 0x10000, 128, 8, 1⟩
  | .CAN_MBMSK => ⟨0x40700804, 10, 0x10000, 128, 8, 1⟩
  | .CAN_MB => ⟨0x40701000, 10, 0x10000, 128, 0x60, 24⟩
  | .LIN_CTL => ⟨0x40800000, 12, 0x10000, 1, 0, 1⟩
  | .LIN_SCHCTL => ⟨0x40800004, 12, 0x10000, 1, 0, 1⟩
  | .LIN_STAT => ⟨0x40800008, 12, 0x10000, 1, 0, 1⟩
  | .LIN_ECNT => ⟨0x4080000c, 12, 0x10000, 1, 0, 1⟩
  | .LIN_FCFG => ⟨0x40800100, 12, 0x10000, 64, 4, 1⟩
  | .LIN_FR => ⟨0x40800200, 12, 0x10000, 64, 0x10, 3⟩
  | .LIN_ENT => ⟨0x40800800, 12, 0x10000, 256, 8, 2⟩
  | .NWK_CTL => ⟨0x40900000, 1, 0, 1, 0, 1⟩
  | .NWK_SLPSET => ⟨0x40900004, 1, 0, 1, 0, 1⟩
  | .NWK_STAT => ⟨0x40900008, 1, 0, 1, 0, 1⟩
  | .NWK_WIO => ⟨0x4090000c, 1, 0, 1, 0, 1⟩
  | .NWK_TRC => ⟨0x40901000, 22, 0x100, 1, 0, 1⟩
  | .NWK_SWCFG => ⟨0x40901004, 22, 0x100, 1, 0, 1⟩
  | .NWK_FW => ⟨0x40901008, 22, 0x100, 1, 0, 1⟩
  | .NWK_CNT => ⟨0x4090100c, 22, 0x100, 1, 0, 1⟩
  | .NWK_SET => ⟨0x40901020, 22, 0x100, 4, 0x20, 5⟩
  | .NWK_WKFR => ⟨0x409010c0, 22, 0x100, 1, 0, 7⟩
  | .GWY_CTL => ⟨0x40a00000, 1, 0, 1, 0, 1⟩
  | .GWY_STAT => ⟨0x40a00004, 1, 0, 1, 0, 1⟩
  | .GWY_SIG => ⟨0x40a00008, 1, 0, 1, 0, 1⟩
  | .GWY_RBASE => ⟨0x40a00100, 4, 0x20, 1, 0, 1⟩
  | .GWY_RSIZE => ⟨0x40a00104, 4, 0x20, 1, 0, 1⟩
  | .GWY_RHEAD => ⟨0x40a00108, 4, 0x20, 1, 0, 1⟩
  | .GWY_RTAIL => ⟨0x40a0010c, 4, 0x20, 1, 0, 1⟩
  | .GWY_RDROP => ⟨0x40a00110, 4, 0x20, 1, 0, 1⟩
  | .GWY_RQ => ⟨0x40a00200, 4, 0x40, 1, 0, 16⟩
  | .GWY_GRP => ⟨0x40a01000, 63, 0x40, 1, 0, 11⟩
  | .GWY_TUN => ⟨0x40a03000, 64, 0x20, 1, 0, 8⟩
  | .GWY_PFLOG => ⟨0x40a03800, 16, 8, 1, 0, 2⟩
  | .GWY_CPL => ⟨0x40a40000, 4096, 0x10, 1, 0, 4⟩
  | .GWY_CCNT => ⟨0x40a60000, 4096, 8, 1, 0, 2⟩
  | .CHK_CFG => ⟨0x40b00000, 32, 0x20, 1, 0, 1⟩
  | .CHK_DID => ⟨0x40b00004, 32, 0x20, 1, 0, 1⟩
  | .CHK_CNT => ⟨0x40b00008, 32, 0x20, 1, 0, 1⟩
  | .CHK_STAT => ⟨0x40b0000c, 32, 0x20, 1, 0, 1⟩
  | .ACC_CTL => ⟨0x40c00000, 1, 0, 1, 0, 1⟩
  | .ACC_AER => ⟨0x40c00004, 1, 0, 1, 0, 1⟩
  | .ACC_POLL => ⟨0x40c00008, 1, 0, 1, 0, 1⟩
  | .ACC_ZONECFG => ⟨0x40c0000c, 1, 0, 1, 0, 1⟩
  | .ACC_LOCKOUT => ⟨0x40c00010, 1, 0, 1, 0, 1⟩
  | .ACC_CNT => ⟨0x40c00014, 1, 0, 1, 0, 1⟩
  | .ACC_WAKE => ⟨0x40c00018, 1, 0, 1, 0, 1⟩
  | .ACC_POLLSTEP => ⟨0x40c00020, 8, 4, 1, 0, 1⟩
  | .ACC_ZONE => ⟨0x40c00100, 16, 0x10, 1, 0, 4⟩
  | .ACC_FNREQ => ⟨0x40c00200, 4, 0x20, 1, 0, 2⟩
  | .ACC_FNSTAT => ⟨0x40c00208, 4, 0x20, 1, 0, 1⟩
  | .ACC_TOK => ⟨0x40c00300, 8, 0x20, 1, 0, 8⟩
  | .PMU_SUPPLY => ⟨0x40d00800, 1, 0, 1, 0, 1⟩
  | .PMU_THERM => ⟨0x40d00804, 1, 0, 1, 0, 1⟩
  | .PMU_STATE => ⟨0x40d00000, 1, 0, 1, 0, 1⟩
  | .PMU_CTL => ⟨0x40d00004, 1, 0, 1, 0, 1⟩
  | .PMU_WAKECAUSE => ⟨0x40d00008, 1, 0, 1, 0, 1⟩
  | .PMU_RAIL => ⟨0x40d0000c, 1, 0, 1, 0, 1⟩
  | .PMU_DEEP => ⟨0x40d00010, 1, 0, 1, 0, 1⟩
  | .PMU_ATMR => ⟨0x40d00014, 1, 0, 1, 0, 1⟩
  | .PMU_PARKSTAT => ⟨0x40d00018, 1, 0, 1, 0, 1⟩
  | .PMU_DSCTL => ⟨0x40d0001c, 1, 0, 1, 0, 1⟩
  | .PMU_DSSTAT => ⟨0x40d00020, 1, 0, 1, 0, 1⟩
  | .PMU_DSCNT => ⟨0x40d00024, 1, 0, 1, 0, 1⟩
  | .PMU_RESET => ⟨0x40d00028, 1, 0, 1, 0, 1⟩
  | .PMU_PARKACK => ⟨0x40d00030, 4, 4, 1, 0, 1⟩
  | .PMU_PARKHELD => ⟨0x40d00040, 4, 4, 1, 0, 1⟩
  | .PMU_CMP => ⟨0x40d00060, 8, 4, 1, 0, 1⟩
  | .MTR_STAT => ⟨0x40e00000, 1, 0, 1, 0, 1⟩
  | .MTR_CTL => ⟨0x40e00004, 1, 0, 1, 0, 1⟩
  | .MTR_TXHEAD => ⟨0x40e00008, 1, 0, 1, 0, 1⟩
  | .MTR_TXTAIL => ⟨0x40e0000c, 1, 0, 1, 0, 1⟩
  | .MTR_RXHEAD => ⟨0x40e00010, 1, 0, 1, 0, 1⟩
  | .MTR_RXTAIL => ⟨0x40e00014, 1, 0, 1, 0, 1⟩
  | .MTR_TXBUF => ⟨0x40e01000, 1024, 4, 1, 0, 1⟩
  | .MTR_RXBUF => ⟨0x40e02000, 1024, 4, 1, 0, 1⟩
  | .SYS_PARTHOST => ⟨0x40f00100, 1, 0, 1, 0, 1⟩
  | .SYS_DOMSTAT => ⟨0x40f00104, 1, 0, 1, 0, 1⟩
  | .SYS_OWNDROP => ⟨0x40f00110, 4, 4, 1, 0, 1⟩
  | .SYS_OWNLAST => ⟨0x40f00120, 4, 4, 1, 0, 1⟩
  | .SYS_BOOTSTAT => ⟨0x40f00200, 1, 0, 1, 0, 1⟩
  | .SYS_BOOTSEQ => ⟨0x40f00204, 1, 0, 1, 0, 1⟩
  | .SYS_BOOTPART => ⟨0x40f00208, 1, 0, 1, 0, 1⟩
  | .SYS_BOOTREJ => ⟨0x40f0020c, 1, 0, 1, 0, 1⟩
  | .SYS_REGBLK => ⟨0x40f00210, 1, 0, 1, 0, 1⟩
  | .SYS_SRAMREP => ⟨0x40f00214, 1, 0, 1, 0, 1⟩
  | .SYS_REGLAST => ⟨0x40f00218, 1, 0, 1, 0, 1⟩
  | .SYS_PCTL => ⟨0x40f00130, 4, 4, 1, 0, 1⟩
  | .SYS_RELIEF => ⟨0x40f00140, 1, 0, 1, 0, 1⟩
  | .SYS_CORESTAT => ⟨0x40f00144, 1, 0, 1, 0, 1⟩
  | .SYS_DWDOG => ⟨0x40f00148, 1, 0, 1, 0, 1⟩
  | .SYS_TEST => ⟨0x40f00150, 4, 4, 1, 0, 1⟩
  | .ERR_BLK0 => ⟨0x40f01000, 17, 0x10, 1, 0, 1⟩
  | .ERR_BLK1 => ⟨0x40f01004, 17, 0x10, 1, 0, 1⟩
  | .ERR_BLK2 => ⟨0x40f01008, 17, 0x10, 1, 0, 1⟩
  | .ERR_BLK3 => ⟨0x40f0100c, 17, 0x10, 1, 0, 1⟩
  | .ERR_CUM => ⟨0x40f01200, 32, 4, 1, 0, 1⟩
  | .ERR_SCRUB => ⟨0x40f01300, 1, 0, 1, 0, 1⟩
  | .ERR_LOGHEAD => ⟨0x40f01304, 1, 0, 1, 0, 1⟩
  | .ERR_LOGSEQ => ⟨0x40f01308, 1, 0, 1, 0, 1⟩
  | .UPD_STAT => ⟨0x41000000, 1, 0, 1, 0, 1⟩
  | .UPD_GATE => ⟨0x41000004, 1, 0, 1, 0, 1⟩
  | .UPD_LAST => ⟨0x41000008, 1, 0, 1, 0, 1⟩
  | .UPD_CNT => ⟨0x4100000c, 1, 0, 1, 0, 1⟩
  | .UPD_HEALTH => ⟨0x41000010, 4, 4, 1, 0, 1⟩
  | .UPD_WSCTL => ⟨0x41000020, 1, 0, 1, 0, 1⟩
  | .UPD_WSIN => ⟨0x41001000, 1, 0, 1, 0, 260⟩
  | .UPD_WSOUT => ⟨0x41002000, 1, 0, 1, 0, 260⟩
  | .CPU_STATUS => ⟨0x100000000, 7, 0x1000, 1, 0, 1⟩
  | .CPU_ESTAT => ⟨0x100000004, 7, 0x1000, 1, 0, 1⟩
  | .CPU_EPC => ⟨0x100000008, 7, 0x1000, 1, 0, 1⟩
  | .CPU_CAUSE => ⟨0x10000000c, 7, 0x1000, 1, 0, 1⟩
  | .CPU_BADADDR => ⟨0x100000010, 7, 0x1000, 1, 0, 1⟩
  | .CPU_TRAPINSN => ⟨0x100000014, 7, 0x1000, 1, 0, 1⟩
  | .CPU_TVEC => ⟨0x100000018, 7, 0x1000, 1, 0, 1⟩
  | .CPU_ISAVER => ⟨0x10000001c, 7, 0x1000, 1, 0, 1⟩
  | .CPU_CORE => ⟨0x100000020, 7, 0x1000, 1, 0, 1⟩
  | .CPU_SCRATCH => ⟨0x100000024, 7, 0x1000, 1, 0, 1⟩
  | .CPU_CYCLE => ⟨0x100000028, 7, 0x1000, 1, 0, 2⟩
  | .CPU_DOORBELL => ⟨0x100000030, 7, 0x1000, 1, 0, 1⟩
  | .CPU_EVQ => ⟨0x100000040, 7, 0x1000, 1, 0, 4⟩
  | .CPU_EVQSTAT => ⟨0x100000050, 7, 0x1000, 1, 0, 1⟩
  | .CPU_RBASE => ⟨0x100000080, 7, 0x1000, 16, 8, 1⟩
  | .CPU_RLIM => ⟨0x100000084, 7, 0x1000, 16, 8, 1⟩

/-- Lowest value of a register's first index (T1 and T2 are the scales 1 and 2, R189). -/
def Reg.first1 : Reg → Nat
  | .TIM_SCTL => 1
  | .TIM_SSTEP => 1
  | .TIM_SGAIN => 1
  | .TIM_SRATE => 1
  | .TIM_SSTAT => 1
  | .TIM_SOFFS => 1
  | .TIM_SFEED => 1
  | .TIM_SLAST => 1
  | .TIM_SPPS => 1
  | .TIM_SCNT => 1
  | .TIM_INCR => 1
  | _ => 0

/-- Registers of each block number k of R125 (17: the cores' control registers). -/
def Reg.ofBlock : Nat → List Reg
  | 0 => [.TIM_T0, .TIM_T1, .TIM_T2, .TIM_T3, .TIM_STAT, .TIM_SHCTL, .TIM_CALSTAT, .TIM_SCTL, .TIM_SSTEP, .TIM_SGAIN, .TIM_SRATE, .TIM_SSTAT] ++
      [.TIM_SOFFS, .TIM_SFEED, .TIM_SLAST, .TIM_SPPS, .TIM_SCNT, .TIM_INCR, .TIM_TPOCTL, .TIM_TPOSTAT, .TIM_TPOWID, .TIM_TPOCOUNT, .TIM_TPOPER, .TIM_TPOSTART] ++
      [.TIM_TPOLEDGE, .TIM_TCICTL, .TIM_TCICAP, .TIM_TCICNT, .TIM_AUDCTL, .TIM_AUD]
  | 1 => [.ESW_STAT, .ESW_AGE, .ESW_FDBCMD, .ESW_FDBDATA, .ESW_PTPROLE, .ESW_PTPSTEP, .ESW_PTPINT, .ESW_PTPCNT, .ESW_PDCTL, .ESW_PCTL, .ESW_PSTAT, .ESW_PQMAP] ++
      [.ESW_PCT, .ESW_PPLCA, .ESW_PQSLOPE, .ESW_PQLIM, .ESW_PTASCTL, .ESW_PTASBASE, .ESW_PTASCYC, .ESW_PCNT, .ESW_FPTXBASE, .ESW_FPTXSIZE, .ESW_FPTXTAIL, .ESW_FPTXHEAD] ++
      [.ESW_FPRXBASE, .ESW_FPRXSIZE, .ESW_FPRXTAIL, .ESW_FPRXHEAD, .ESW_FPLATE, .ESW_VLAN, .ESW_STREAM, .ESW_GATE]
  | 2 => [.SCH_TCTL, .SCH_TSWAP, .SCH_TCNT0, .SCH_TCNT1, .SCH_PCTL, .SCH_PWEIGHT, .SCH_PBUD, .SCH_PCNT, .SCH_ICLS, .SCH_RFXREL, .SCH_RFXHELD, .SCH_ENTRY] ++
      [.SCH_RULE, .SCH_EDGE]
  | 3 => [.PSW_CMD, .PSW_CFG, .PSW_PROT, .PSW_DIAG, .PSW_CNT, .PSW_STR, .PSW_WDOG, .PSW_WDSTAT, .PSW_TOWSTAT, .PSW_BPAIR, .PSW_PLAN, .PSW_MEMBER] ++
      [.PSW_GCTL, .PSW_AMEMBER, .PSW_AGCTL]
  | 4 => [.VLV_MEMBER, .VLV_GCTL, .VLV_AMEMBER, .VLV_AGCTL, .VLV_CMD, .VLV_PROF, .VLV_TIME, .VLV_CFG, .VLV_PRCFG, .VLV_PROT, .VLV_DIAG, .VLV_CNT] ++
      [.VLV_MOVE, .VLV_BCFG, .VLV_BPRCFG, .VLV_BPROT, .VLV_BSTAT, .VLV_BCNT]
  | 5 => [.LGT_MEMBER, .LGT_SYNC, .LGT_AMEMBER, .LGT_ASYNC, .LGT_CMD, .LGT_STATE, .LGT_DEF, .LGT_DIM, .LGT_SPROT, .LGT_SCFG, .LGT_SDIAG, .LGT_SCNT] ++
      [.LGT_NT, .LGT_MXDIAG, .LGT_APROT, .LGT_AMDIAG, .LGT_CURVE, .LGT_TRIT, .LGT_EXPW, .LGT_STNCTL, .LGT_STNSTAT, .LGT_STNAT, .LGT_CTL, .LGT_STAT]
  | 6 => [.FIN_CFG, .FIN_FILT, .FIN_STATE, .FIN_ACFG, .FIN_ATHR, .FIN_AVAL, .FIN_FSTAMP, .FIN_PGRP, .FIN_STAT]
  | 7 => [.CAN_CTL, .CAN_NBT, .CAN_DBT, .CAN_TDC, .CAN_STAT, .CAN_ERRC, .CAN_ECNT0, .CAN_ECNT1, .CAN_FIFOCTL, .CAN_FIFOID, .CAN_FIFOMSK, .CAN_PBID] ++
      [.CAN_PBMSK, .CAN_PB, .CAN_FIFO, .CAN_MBID, .CAN_MBMSK, .CAN_MB]
  | 8 => [.LIN_CTL, .LIN_SCHCTL, .LIN_STAT, .LIN_ECNT, .LIN_FCFG, .LIN_FR, .LIN_ENT]
  | 9 => [.NWK_CTL, .NWK_SLPSET, .NWK_STAT, .NWK_WIO, .NWK_TRC, .NWK_SWCFG, .NWK_FW, .NWK_CNT, .NWK_SET, .NWK_WKFR]
  | 10 => [.GWY_CTL, .GWY_STAT, .GWY_SIG, .GWY_RBASE, .GWY_RSIZE, .GWY_RHEAD, .GWY_RTAIL, .GWY_RDROP, .GWY_RQ, .GWY_GRP, .GWY_TUN, .GWY_PFLOG] ++
      [.GWY_CPL, .GWY_CCNT]
  | 11 => [.CHK_CFG, .CHK_DID, .CHK_CNT, .CHK_STAT]
  | 12 => [.ACC_CTL, .ACC_AER, .ACC_POLL, .ACC_ZONECFG, .ACC_LOCKOUT, .ACC_CNT, .ACC_WAKE, .ACC_POLLSTEP, .ACC_ZONE, .ACC_FNREQ, .ACC_FNSTAT, .ACC_TOK]
  | 13 => [.PMU_SUPPLY, .PMU_THERM, .PMU_STATE, .PMU_CTL, .PMU_WAKECAUSE, .PMU_RAIL, .PMU_DEEP, .PMU_ATMR, .PMU_PARKSTAT, .PMU_DSCTL, .PMU_DSSTAT, .PMU_DSCNT] ++
      [.PMU_RESET, .PMU_PARKACK, .PMU_PARKHELD, .PMU_CMP]
  | 14 => [.MTR_STAT, .MTR_CTL, .MTR_TXHEAD, .MTR_TXTAIL, .MTR_RXHEAD, .MTR_RXTAIL, .MTR_TXBUF, .MTR_RXBUF]
  | 15 => [.SYS_PARTHOST, .SYS_DOMSTAT, .SYS_OWNDROP, .SYS_OWNLAST, .SYS_BOOTSTAT, .SYS_BOOTSEQ, .SYS_BOOTPART, .SYS_BOOTREJ, .SYS_REGBLK, .SYS_SRAMREP, .SYS_REGLAST, .SYS_PCTL] ++
      [.SYS_RELIEF, .SYS_CORESTAT, .SYS_DWDOG, .SYS_TEST, .ERR_BLK0, .ERR_BLK1, .ERR_BLK2, .ERR_BLK3, .ERR_CUM, .ERR_SCRUB, .ERR_LOGHEAD, .ERR_LOGSEQ]
  | 16 => [.UPD_STAT, .UPD_GATE, .UPD_LAST, .UPD_CNT, .UPD_HEALTH, .UPD_WSCTL, .UPD_WSIN, .UPD_WSOUT]
  | 17 => [.CPU_STATUS, .CPU_ESTAT, .CPU_EPC, .CPU_CAUSE, .CPU_BADADDR, .CPU_TRAPINSN, .CPU_TVEC, .CPU_ISAVER, .CPU_CORE, .CPU_SCRATCH, .CPU_CYCLE, .CPU_DOORBELL] ++
      [.CPU_EVQ, .CPU_EVQSTAT, .CPU_RBASE, .CPU_RLIM]
  | _ => []

end Sys2Proof.Machine
end

