-- ==== Sys2Proof/Machine/Sparse.lean ====
section
/-! DEFINITION. Sparse maps: lists of (key, value) pairs with strictly rising keys, the one representation of everything
the machine indexes by a number (registers, memory cells, channels, ports). -/

set_option Elab.async false

namespace Sys2Proof.Machine

variable {α : Type}

/-- A sparse map from numbers to values. -/
abbrev Sparse (α : Type) := List (Nat × α)

/-- The value listed at a key, if any. -/
def Sparse.get : List (Nat × α) → Nat → Option α
  | [], _ => none
  | (a, v) :: m, k => if a = k then some v else Sparse.get m k

/-- The value listed at a key, or a default. -/
def Sparse.at (m : List (Nat × α)) (k : Nat) (d : α) : α := (Sparse.get m k).getD d

/-- Lists a value at a key, in key order. -/
def Sparse.set : List (Nat × α) → Nat → α → List (Nat × α)
  | [], k, v => [(k, v)]
  | (a, w) :: m, k, v =>
    if a = k then (k, v) :: m else if k < a then (k, v) :: (a, w) :: m else (a, w) :: Sparse.set m k v

/-- Takes a key off the list. -/
def Sparse.erase : List (Nat × α) → Nat → List (Nat × α)
  | [], _ => []
  | (a, w) :: m, k => if a = k then Sparse.erase m k else (a, w) :: Sparse.erase m k

/-- Keys above `lo` and strictly rising. -/
def Sparse.sortedFrom : Nat → List (Nat × α) → Bool
  | _, [] => true
  | lo, (a, _) :: m => decide (lo ≤ a) && Sparse.sortedFrom (a + 1) m

/-- The canonical form: keys strictly rise. -/
def Sparse.sorted (m : List (Nat × α)) : Bool := Sparse.sortedFrom 0 m

end Sys2Proof.Machine
end

