-- ==== Sys2Proof/Machine/State.lean ====
section
/-! DEFINITION. The state of the block as plain data: the register file, the memories and everything the spec makes the
machine remember beside its registers, subsystem by subsystem; the reasons a step can stop; the state after reset. -/

set_option Elab.async false

namespace Sys2Proof.Machine

/-- Reasons for which the machine stops with a fault. The spec lets no command end the block's operation: every error it
describes is counted, reported and survived, so no meaning answers a fault. The one constructor is the name such
an answer would carry. Safe. -/
inductive Fault where
  /-- Answered by no meaning, hence by no step. Safe. -/
  | none
deriving DecidableEq, Repr

/-- Reasons for which a command is refused. -/
inductive Refusal where
  /-- The arm of a command that has no meaning yet, by its mnemonic; raised by `exec` only. Safe. -/
  | notModelled (mnemonic : String)
deriving DecidableEq, Repr


/-- A snapshot of a register wider than 32 bits, held by an initiator (R19). -/
structure Snap where
  init : Init
  reg : Reg
  i : Nat
  j : Nat
  words : List Word
  at_ : Nat
deriving DecidableEq, Repr

/-- A staged word of a register wider than 32 bits (R28). -/
structure Staged where
  init : Init
  reg : Reg
  i : Nat
  j : Nat
  word : Nat
  val : Word
deriving DecidableEq, Repr

/-- Delivered data held in a register's pending slot while a snapshot lock is held (R26). -/
structure Slot where
  reg : Reg
  i : Nat
  j : Nat
  words : List Word
deriving DecidableEq, Repr

/-- The access rules' own state: snapshots, staged words, pending slots and the last word read by each initiator (R19 to
R28). -/
structure BusState where
  snaps : List Snap
  staged : List Staged
  slots : List Slot
  rdata : Sparse Word
deriving DecidableEq, Repr

def BusState.reset : BusState := ⟨[], [], [], []⟩

/-- An entry of an event queue (R618). -/
structure Event where
  block : Nat
  code : Nat
  item : Nat
  arg0 : Nat
  arg1 : Nat
  stamp : Nat
  replay : Bool
  ovf : Bool
deriving DecidableEq, Repr

/-- An event queue: its entries, oldest first, its LOST count and whether the next entry carries OVF (R617, R621). -/
structure EvQueue where
  entries : List Event
  lost : Nat
  ovfNext : Bool
deriving DecidableEq, Repr

def EvQueue.empty : EvQueue := ⟨[], 0, false⟩

/-- Events held for a partition's start and the number dropped beyond 64 (R683). -/
structure HeldQueue where
  entries : List Event
  dropped : Nat
deriving DecidableEq, Repr

def HeldQueue.empty : HeldQueue := ⟨[], 0⟩

/-- The event queues, 0 to 3 of the partitions and 4 of the AON core, the events held for each partition's start, and whether
an event was placed in a partition's queue since REST was entered (R528). -/
structure EvState where
  queues : Sparse EvQueue
  held : Sparse HeldQueue
  placed : Bool
deriving DecidableEq, Repr

def EvState.reset : EvState := ⟨[], [], false⟩

/-- An entry of the event log (R640); its SEQ is absent while the head is not found (R639). -/
structure LogEntry where
  seq : Option Nat
  typ : Nat
  block : Nat
  coarse : Bool
  item : Nat
  stamp : Nat
  arg0 : Nat
  arg1 : Nat
deriving DecidableEq, Repr

/-- The event log: pending entries of the ring, oldest first; entries being flushed; whether the head is found and the
next SEQ; the number of entries ever made, which gives the ring position; entries to be reported lost; entries that wait in CI-AON while PD-FAB is off (R637 to R639). -/
structure LogState where
  pend : List LogEntry
  flushing : Nat
  headFound : Bool
  nextSeq : Nat
  made : Nat
  lostNote : Option Nat
  wait : List LogEntry
deriving DecidableEq, Repr

def LogState.reset : LogState := ⟨[], 0, false, 0, 0, none, []⟩

/-- An ownership entry (R125). -/
structure OwnEntry where
  cls : Nat
  owner : Nat
  first : Nat
  last : Nat
deriving DecidableEq, Repr

/-- A partition placement entry (R124). -/
structure Placement where
  present : Bool
  base : Nat
  size : Nat
  hold : Nat
deriving DecidableEq, Repr

def Placement.absent : Placement := ⟨false, 0, 0, 0⟩

/-- What the running configuration image gives beside register values: ownership table, partition placements, dust-sheet
list as (word address, bank), towline map entries, register block records and product code (R122 to R126, R315, R546). -/
structure CfgState where
  owners : List OwnEntry
  place : Sparse Placement
  dust : List (Nat × Nat)
  towline : List Word
  records : List Word
  product : Nat
deriving DecidableEq, Repr

def CfgState.reset : CfgState := ⟨[], [], [], [], [], 0⟩

/-- A handshake link (R31 to R36): failed lane moved to the spare, lanes failed beyond it, end of a pause, and the
instants of corrected errors by lane. -/
structure LinkState where
  moved : Option Nat
  failed : List Nat
  pausedTo : Option Nat
  hits : Sparse (List Nat)
deriving DecidableEq, Repr

def LinkState.good : LinkState := ⟨none, [], none, []⟩

/-- The handshake links by number. -/
structure LinksState where
  links : Sparse LinkState
deriving DecidableEq, Repr

def LinksState.reset : LinksState := ⟨[]⟩

/-- A reflex claim on a target (R270): its rule, the state it gives (none for LEVEL, which gives a level only), its level,
and when a PULSE claim passes into its trailing state. -/
structure Claim where
  rule : Nat
  st : Option Nat
  lvl : Option Nat
  trail : Option Nat
deriving DecidableEq, Repr

/-- An action on its way to a target: desired state and level, its source as SCH_EDGEx.SRC codes it, priority, largest
deferral (none: unbounded), table or rule, entry, whether its edge is notified, planned instant, whether it is
dispatched with the lead, pulse width in T0 units, own inrush class, the partition whose action it is, the number
of deferral steps made, the group of a commit (32: the all-channel alias), and the planned instant of the next leading edge of its entry. -/
structure Act where
  st : Option Nat
  lvl : Option Nat
  src : Nat
  prio : Nat
  maxdef : Option Nat
  table : Nat
  entry : Nat
  notify : Bool
  plan : Nat
  lead : Bool
  width : Option Nat
  icls : Nat
  who : Option Nat
  steps : Nat
  group : Option Nat
  next : Option Nat
deriving DecidableEq, Repr

/-- An action with no effect and no source. -/
def Act.none_ : Act :=
  { st := none, lvl := none, src := 0, prio := 0, maxdef := none, table := 0, entry := 0, notify := false, plan := 0, lead := false,
    width := none, icls := 0, who := none, steps := 0, group := none, next := none }

/-- A deferred turn-on of a target (R264). -/
structure Deferral where
  x : Nat
  act : Act
  due : Nat
deriving DecidableEq, Repr

/-- A trailing edge to come (R242), or the instant at which the PULSE claim of a rule passes into its trailing state (R270). -/
structure Pulse where
  x : Nat
  due : Nat
  act : Act
  claim : Option Nat
deriving DecidableEq, Repr

/-- An immediate request that has left its core (R253). -/
structure ImmReq where
  x : Nat
  st : Option Nat
  lvl : Option Nat
  who : Option Nat
deriving DecidableEq, Repr

/-- An immediate commit that has left its core (R257): block, group (32 the all-channel page) and writer. -/
structure CommitReq where
  block : Nat
  group : Nat
  who : Option Nat
deriving DecidableEq, Repr

/-- A staged register of a group page (R256): block, group, the partition that staged it, register, member and value. -/
structure StagedFld where
  block : Nat
  group : Nat
  who : Nat
  reg : Reg
  i : Nat
  val : Word
deriving DecidableEq, Repr

/-- A schedule table beside its registers: the instant of a pending swap, a RUN write held by the hold window. -/
structure TableSt where
  swapAt : Option Nat
  runHeld : Bool
deriving DecidableEq, Repr

/-- A schedule entry in progress: number of its next occurrence, whether it was found invalid, its shift on its scale under
step policy 1, in units of 2⁻¹⁶ ns, and the occurrences already handed to its executor when RUN was cleared or its scale stepped, oldest first:
the planned T0 instant of each and of the one after it (R242, R245, R250). -/
structure EntSt where
  k : Nat
  bad : Bool
  shift : Int
  handed : List (Nat × Option Nat)
deriving DecidableEq, Repr

/-- The protection timers of a switch (R287 to R293), by site: target index of a power channel, 104 + b for a bank
high-side: when it entered its limit, the grid slot of its last protective switch-off, the end of its retry pause, whether Tj is
above release, and since when CLEAN counts. -/
structure ProtSt where
  limitFrom : Option Nat
  offAt : Option Nat
  pauseEnd : Option Nat
  hot : Bool
  cleanFrom : Option Nat
deriving DecidableEq, Repr

def ProtSt.cool : ProtSt := ⟨none, none, none, false, none⟩

/-- Diagnosis of a channel (R298 to R301): on-state and off-state results of the interval and the method of the first, one low
measurement seen, a stretch planned for the interval, one already made in it, a stretch in progress as its end and the
action that turns the output off then, start of the interval. -/
structure DiagSt where
  onRes : Option Nat
  offRes : Option Nat
  method : Nat
  lowSeen : Bool
  planned : Bool
  done : Bool
  stretching : Option (Nat × Act)
  from_ : Nat
deriving DecidableEq, Repr

def DiagSt.fresh : DiagSt := ⟨none, none, 0, false, false, false, none, 0⟩

/-- A valid towline entry (R315, R316). -/
structure TowEntry where
  pin : Nat
  inv : Bool
  low : Bool
  x : Nat
deriving DecidableEq, Repr

/-- The power switch block beside its registers: protection timers, AON mirror of LATCH, ATT and CAUSE is the register
itself; diagnosis; the towline entries in map order; the output-plane watchdog's deadline and timeout in use, the
initiators with a refresh pair in progress, and whether a refresh completed since the towline began; hold windows of
the partitions; planned-restart notices' instants; the channels that are cut (R86); whether CI-PWR lacks its clock (R643). -/
structure PswState where
  prots : Sparse ProtSt
  diags : Sparse DiagSt
  tow : List TowEntry
  wdAt : Option Nat
  wdUse : Nat
  wdPairs : List Init
  towRefreshed : Bool
  windows : Sparse Nat
  notices : Sparse Nat
  cut : List Nat
  clockLost : Bool
deriving DecidableEq, Repr

def PswState.reset : PswState := ⟨[], [], [], none, 100, [], false, [], [], [], false⟩

/-- A turn-on request of a valve output in its bank's queue (R328 to R332): output, arrival slot, the action, whether MAXDLY
limits it, whether it stands ahead (reflex or towline), and whether the budget has delayed it. -/
structure ValveReq where
  i : Nat
  slot : Nat
  act : Act
  limited : Bool
  ahead : Bool
  counted : Bool
deriving DecidableEq, Repr

/-- A valve output's profile in progress: instant its phase ends at (peak regulation, timed hold), instant of its low-side
turn-on, the source of the action that started it, instant at which decay ended, the movement not yet judged, profile
words in use. -/
structure ValveOut where
  until_ : Option Nat
  onAt : Nat
  act : Option Act
  decayEnd : Option Nat
  judging : Bool
  prof : Word
  time : Word
deriving DecidableEq, Repr

def ValveOut.idle : ValveOut := ⟨none, 0, none, none, false, 0, 0⟩

/-- The valve block beside its registers: the banks' queues, the output profiles, and the output in fast decay of each bank. -/
structure VlvState where
  queues : Sparse (List ValveReq)
  outs : Sparse ValveOut
  fast : Sparse Nat
deriving DecidableEq, Repr

def VlvState.reset : VlvState := ⟨[], [], []⟩


/-- An LED channel by membership bit, beside its registers (R354 to R373): start of its undercoat period, steps N in use (a
segment's DUTY in use) and N to take at the next period, N′ of hold mode, whether current flows in the period, full
scale in use, the latest openings of its masked windows (newest first), the end of an open window, a turn-on that waits
for the regulator, stencil actions held to the window's closing, the level in effect, and an action kept back by a neighbour test. -/
structure LedCh where
  pstart : Nat
  n : Nat
  nNext : Nat
  nHold : Option Nat
  lit : Bool
  ifs : Nat
  opens : List Nat
  open_ : Option Nat
  starting : Option Act
  heldActs : List Act
  lvl : Nat
  waiting : Option Act
deriving DecidableEq, Repr

def LedCh.dark : LedCh := ⟨0, 0, 0, none, false, 35, [], none, none, [], 0, none⟩

/-- A weight that the postilion has admitted (R264): tab group, grid slot, weight, and the place of the turn-on in the order of its slot. -/
structure Admit where
  group : Nat
  slot : Nat
  weight : Nat
  key : List Int
deriving DecidableEq, Repr

/-- What the last action applied to a target was, with what stood before it, so that another action of the same grid slot can be set against it
(R236): the words of the target's registers and the newest words of its edge stamps; its underlying state and times; its protection, diagnosis,
light or profile; how far EXEC, MASKED and the postilion's counters counted the action and the weight it had admitted; and the partition to
which its events went, with their number. -/
structure LastAct where
  slot : Nat
  src : Nat
  prio : Nat
  table : Nat
  entry : Nat
  group : Option Nat
  words : List (Reg × Nat × Nat × Word)
  edges : List (Reg × Nat × List Word)
  und : Nat
  undSet : Bool
  winSet : Bool
  brake : Bool
  offSince : Option Nat
  onSince : Option Nat
  prot : ProtSt
  diag : DiagSt
  led : LedCh
  vout : ValveOut
  req : Option ValveReq
  window : Option Nat
  exec : Nat
  masked : Nat
  deferred : Nat
  dropped : Nat
  weight : Option Admit
  who : Option Nat
  events : Nat
deriving DecidableEq, Repr

/-- What the schedule plane keeps of a target beside its registers: the reasons that hold it off with the precedence of
protection (a bit mask), reflex claims by rule, the end of its hold window and whether its state was set since the
restart, whether its state was set since configuration applied, a TPO's underlying state, when it last went off, whether
a pair brakes, its last action, and when it last went on. -/
structure Chan where
  prot : Nat
  claims : List Claim
  window : Option Nat
  winSet : Bool
  undSet : Bool
  und : Nat
  offSince : Option Nat
  brake : Bool
  last : Option LastAct
  onSince : Option Nat
deriving DecidableEq, Repr

def Chan.idle : Chan := ⟨0, [], none, false, false, 0, none, false, none, none⟩

/-- The schedule plane: targets, deferred turn-ons, admitted weights, trailing edges to
come, requests and commits on their way, staged fields, tables, entries by table · 1024 + bank · 512 + entry, and the
latest momentary term events as (kind · 65536 + index, instant); the rules whose condition was true when they fired, with that instant, for as
long as it has not turned false (R270); and the registers other than commands that commits wrote, as (register, member, grid slot, group)
(R259). -/
structure SchState where
  chans : Sparse Chan
  defer : List Deferral
  admitted : List Admit
  pulses : List Pulse
  imm : List ImmReq
  commits : List CommitReq
  staged : List StagedFld
  tables : Sparse TableSt
  ents : Sparse EntSt
  moments : Sparse Nat
  truth : Sparse Nat
  wrote : List (Reg × Nat × Nat × Nat)
deriving DecidableEq, Repr

def SchState.reset : SchState := ⟨[], [], [], [], [], [], [], [], [], [], [], []⟩

/-- A RAMP in progress (R376): members' levels at its start by membership bit, segments it covers, final level, start and
duration. -/
structure Ramp where
  levels : List (Nat × Nat)
  segs : List Nat
  level : Nat
  start : Nat
  dur : Nat
deriving DecidableEq, Repr

/-- A stencil in progress (R374 to R378): program, step to come and its instant, loop counters by step, steps since time last
advanced, a running RAMP, and its start instant on its scale when armed. -/
structure StencilSt where
  prog : Nat
  step : Nat
  next : Nat
  loops : Sparse Nat
  zero : Nat
  ramp : Option Ramp
  scale : Nat
  armedAt : Nat
deriving DecidableEq, Repr

def StencilSt.idle : StencilSt := ⟨0, 0, 0, [], 0, none, 0, 0⟩

/-- The lighting block beside its registers: channels by membership bit, stencils, strings under test, those that a failing
pair named and whether a pair was passed over, the latest planned leading edge of each TPO with SRC 1. -/
structure LgtState where
  chans : Sparse LedCh
  stencils : Sparse StencilSt
  testing : List Nat
  testFail : List Nat
  testPassed : Bool
  edges : Sparse Nat
  windows : Sparse (List Nat)
deriving DecidableEq, Repr

def LgtState.reset : LgtState := ⟨[], [], [], [], false, [], []⟩


/-- A scale, T1 or T2, beside its registers (R147, R150, R160): its value at a T0 instant in units of 2⁻⁷² ns, that instant,
its rate correction and integral term in units of 2⁻⁵⁶, the instant of its last accepted offset, its last offset that
passed R157 with its instant, since when it waits for an offset, the steps and the rates that wait for their apply ticks in the order they
were decided, and the last accepted GNSS pulse. -/
structure Scale where
  base : Int
  at_ : Nat
  rate : Int
  integ : Int
  lastAcc : Option Nat
  prev : Option (Int × Nat)
  waitFrom : Nat
  stepAt : List (Nat × Int)
  rateAt : List (Nat × Int)
  pulse : Option Nat
deriving DecidableEq, Repr

def Scale.fresh : Scale := ⟨0, 0, 0, 0, none, none, 0, [], [], none⟩

/-- A time pulse output (R171, R172, R175 to R179): number of its next instant, pulses made or passed over so far, T0 instant of its trailing
edge, and whether a leading edge is kept back by a switch-over; for one with SRC 1, the action whose leading edge is kept back, and the one
whose trailing edge is. -/
structure TpoSt where
  k : Nat
  cnt : Nat
  trail : Option Nat
  late : Bool
  kept : Option Act
  ended : Option Act
deriving DecidableEq, Repr

def TpoSt.idle : TpoSt := ⟨0, 0, none, false, none, none⟩

/-- A time capture input: T0 instant of its last edge that was told apart, and whether its newest stamp was read (R182,
R183). -/
structure TciSt where
  last : Option Nat
  unread : Bool
deriving DecidableEq, Repr

def TciSt.quiet : TciSt := ⟨none, false⟩

/-- A port's cable and partner audit (R184 to R187): mean path delays summed so far and their number, and the round trip of the far-end
reflection in units of 1/16 ns, none where the audit was not made or found none. -/
structure AuditSt where
  sum : Int
  count : Nat
  rtt : Option Nat
deriving DecidableEq, Repr

def AuditSt.none_ : AuditSt := ⟨0, 0, none⟩

/-- The timebase beside its registers: the scales 1 and 2; T3 by its last value and the instant that was taken, the apply tick of that value
and the one in force until then; TPOs, TCIs, audits; the apply tick of a planned swap; an unplanned switch-over in progress by its instant; and
when the faulted unit runs its self-test. -/
structure TimState where
  scales : Sparse Scale
  t3 : Nat
  t3At : Nat
  t3From : Nat
  t3Prev : Option (Nat × Nat)
  tpos : Sparse TpoSt
  tcis : Sparse TciSt
  audits : Sparse AuditSt
  swapAt : Option Nat
  switchAt : Option Nat
  testAt : Option Nat
deriving DecidableEq, Repr

def TimState.reset : TimState := ⟨[], 0, 0, 0, none, [], [], [], none, none, none⟩

/-- Which remote access an attempt's frame belongs to: group and tag. -/
structure TagRef where
  grp : Nat
  tag : Nat
deriving DecidableEq, Repr

/-- A frame in the switch: its addresses, VID and PCP as classified (R203), the bytes from its EtherType to before its FCS, its
ingress port and T0 stamp (R219), its queue, its launch instant as scale and value in units of 2⁻¹⁶ ns, the fabric port that
sent it, its descriptor while that waits for the egress, and the remote access attempts it carries. -/
structure Frame where
  dst : Nat
  src : Nat
  vid : Nat
  pcp : Nat
  body : List Byte
  ingress : Nat
  stamp : Nat
  queue : Nat
  launch : Option (Nat × Int)
  fab : Nat
  desc : Option Nat
  atts : List TagRef
deriving DecidableEq, Repr

/-- A message the gPTP engine is to send (R220 to R224): kind 0 Sync, 1 Follow_Up, 2 Announce, 3 Pdelay_Req, 4 Pdelay_Resp,
5 Pdelay_Resp_Follow_Up; its domain, its launch instant in the domain's scale, of kinds 2 to 5 in T0, in units of 2⁻¹⁶ ns, origin or
answered timestamp, correction in units of 2⁻¹⁶ ns, whether twoStepFlag is set, and whether it waits for the message it follows. -/
structure PtpTx where
  kind : Nat
  dom : Nat
  seq : Nat
  launch : Int
  origin : Int
  corr : Int
  two : Bool
  held : Bool
deriving DecidableEq, Repr

/-- What a port sent last: a frame or a gPTP message, its egress stamp in T0 and whether its FCS was complemented. -/
structure Sent where
  frame : Option Frame
  ptp : Option PtpTx
  stamp : Nat
  bad : Bool
deriving DecidableEq, Repr

/-- The operational gate list of a port (R212, R213): base time and cycle in units of 2⁻¹⁶ ns, entries, the entry in force (none:
held until the list restarts), its end and the end of the cycle in T1, and the gate states. -/
structure GateRun where
  base : Int
  cycle : Int
  len : Nat
  idx : Option Nat
  until_ : Int
  cycEnd : Int
  gates : Nat
deriving DecidableEq, Repr

def GateRun.none_ : GateRun := ⟨0, 0, 0, none, 0, 0, 255⟩

/-- A port of the switch beside its registers: egress queues, credits of shaped queues in units of 6.25·10⁻⁸ bit and the instant up
to which they are counted, the end of the frame in transmission with its gap, gPTP messages to send, the gate list, the
apply tick of a pending change, what it sent last, the stamp of the last frame in; and of peer delay: when the exchange in progress began, when the last
began, mean link delay in units of 2⁻¹⁶ ns, consecutive good exchanges. -/
structure EthPort where
  queues : Sparse (List Frame)
  credits : Sparse Int
  creditAt : Nat
  busyTo : Nat
  ptp : List PtpTx
  run : GateRun
  changeAt : Option Nat
  sent : Option Sent
  seen : Option Nat
  pdOpen : Option Nat
  pdLast : Option Nat
  mean : Int
  good : Nat
deriving DecidableEq, Repr

def EthPort.idle : EthPort := ⟨[], [], 0, 0, [], GateRun.none_, none, none, none, none, none, 0, 0⟩

/-- An entry of the forwarding table (R205): address, VID, whether static, ports, and when last refreshed. -/
structure FdbEnt where
  mac : Nat
  vid : Nat
  static : Bool
  ports : Nat
  seen : Nat
deriving DecidableEq, Repr

/-- What learning made of a frame (R208): the instant, the entry it set with what stood there, and the counter it moved (1 MOVES,
2 LEARNFULL, 0 none). -/
structure Learnt where
  at_ : Nat
  bucket : Nat
  idx : Nat
  old : Option FdbEnt
  counted : Nat
deriving DecidableEq, Repr

/-- A Sync received on a slave port (R222 to R225): port, sequence, ingress stamp in T0, origin and correction so far, its instant,
whether its Follow_Up is awaited. -/
structure SyncSt where
  port : Nat
  seq : Nat
  stamp : Nat
  origin : Int
  corr : Int
  waiting : Bool
deriving DecidableEq, Repr

/-- A gPTP domain: the latest Sync, when the last was accepted or counting began, whether sync is lost, when the next Sync as
grandmaster and the next Announce are due, their sequence numbers. -/
structure PtpDom where
  sync : Option SyncSt
  last : Nat
  lost : Bool
  gmNext : Nat
  annNext : Nat
  seq : Nat
  annSeq : Nat
deriving DecidableEq, Repr

def PtpDom.fresh : PtpDom := ⟨none, 0, false, 0, 0, 0, 0⟩

/-- The Ethernet switch beside its registers: ports, forwarding table by entry index, token buckets of the streams as (tokens in
units of 6.25·10⁻⁸ bit, instant), gPTP domains, rings stopped by a refused base (2·p transmit, 2·p + 1 receive), the
AVTPDUs handed to the gateway, oldest first, the buckets that ESW_FDBCMD addressed, as (instant, bucket), and what was learnt in the
access cycle of now (R208), and the tag of P9's last service frame (R654). -/
structure EthState where
  ports : Sparse EthPort
  fdb : Sparse FdbEnt
  buckets : Sparse (Nat × Nat)
  doms : Sparse PtpDom
  stopped : List Nat
  avtp : List Frame
  cmds : List (Nat × Nat)
  learnt : List Learnt
  svcTag : Option Nat
deriving DecidableEq, Repr

def EthState.reset : EthState := ⟨[], [], [], [], [], [], [], [], none⟩

/-- A field input beside its registers (R395 to R404): whether its pin lies above its threshold, where that is known, since when RAW holds, the
end of its cleaning pulse, since when a pulse waits, the latest edge of a fast input, whether its newest stamp is unread,
and when its next conversion is due. -/
structure FinIn where
  pin : Option Bool
  rawSince : Nat
  cleanEnd : Option Nat
  waitFrom : Option Nat
  edgeAt : Option Nat
  unread : Bool
  convAt : Nat
deriving DecidableEq, Repr

def FinIn.quiet : FinIn := ⟨none, 0, none, none, none, false, 0⟩

/-- The field inputs beside their registers, and CI-AON's copy for parked polling (R409 to R411): enabled groups with their FIN_PGRP
word, grouped inputs as (number, FIN_CFG word, reference), last burst samples, the confirming bursts to come as (group, inputs
found different, instant), and when each group's next burst is due. -/
structure FinState where
  ins : Sparse FinIn
  groups : List (Nat × Nat)
  cfgs : List (Nat × Nat × Bool)
  samples : Sparse Bool
  confirm : List (Nat × List Nat × Nat)
  next : Sparse Nat
deriving DecidableEq, Repr

def FinState.reset : FinState := ⟨[], [], [], [], [], []⟩

/-- A message that a port delivers to the gateway (R476): port, identifier coded as SID, FD format, bit rate switch, remote frame,
data, start-of-frame stamp in T0 of a CAN message, tunnel and bus_id, and the number of its delivery. -/
structure Msg where
  port : Nat
  id : Nat
  fdf : Bool
  brs : Bool
  rtr : Bool
  data : List Byte
  stamp : Option Nat
  tun : Nat
  bus : Nat
  num : Nat
deriving DecidableEq, Repr

/-- A frame that leaves the gateway: its coupling, identifier, format, remote frame, data, its source's start-of-frame stamp, and the
remote access whose attempt it is. -/
structure OutMsg where
  cpl : Nat
  id : Nat
  fdf : Bool
  brs : Bool
  rtr : Bool
  data : List Byte
  stamp : Option Nat
  lin : Bool
  att : Option TagRef
deriving DecidableEq, Repr

/-- A message in a check-value unit: at its source, or an outgoing frame at its destination, with its coupling and the number of its
delivery. -/
structure ChkJob where
  cpl : Nat
  num : Nat
  msg : Option Msg
  out : Option OutMsg
deriving DecidableEq, Repr

/-- A ring entry to be written (R483): partition, fields of words 0 to 2, data, the instant of its decision, its coupling group and the
deliveries made before it, which it stays behind (R485). -/
structure RingEnt where
  part : Nat
  typ : Nat
  cpl : Nat
  tag : Nat
  addr : Nat
  code : Nat
  att : Nat
  pf : Bool
  skip : Bool
  sport : Nat
  data : List Byte
  at_ : Nat
  grp : Nat
  before : Nat
deriving DecidableEq, Repr

/-- A remote access (R487 to R490): group, tag, whether a write, address, words asked for, words of the frame, data, attempts made, the
start of the attempt's timeout, and the end of its quarantine. -/
structure Access where
  grp : Nat
  tag : Nat
  write : Bool
  addr : Nat
  count : Nat
  want : Nat
  data : List Byte
  att : Nat
  from_ : Option Nat
  quar : Option Nat
deriving DecidableEq, Repr

/-- A prefetch line (R493): group, tag of the fetching read, address, its words (none: returned), and when it was fetched. -/
structure PfLine where
  grp : Nat
  tag : Nat
  addr : Nat
  words : List (Option Word)
  at_ : Nat
deriving DecidableEq, Repr

/-- A tunnel's gathering (R480): its ACF messages, when the first came, and the attempts among them. -/
structure Gather where
  acf : List (List Byte)
  at_ : Nat
  atts : List TagRef
deriving DecidableEq, Repr

/-- The gateway and the check-value units beside their registers: messages delivered and not yet routed, their count, jobs of the
units, ring entries that wait, remote replies as (response coupling, payload, failed its check), remote accesses, prefetch lines oldest first, gatherings by 4·tunnel + partition, sequence
numbers sent and received by tunnel, AVTPDUs on their way with their attempts, levels of the partition signals by 32·partition + signal. -/
structure GwyState where
  inbox : List Msg
  count : Nat
  jobs : Sparse (List ChkJob)
  waiting : List RingEnt
  replies : List (Nat × List Byte × Bool)
  accs : List Access
  lines : List PfLine
  gathers : Sparse Gather
  seqTx : Sparse Nat
  seqRx : Sparse Nat
  sigs : Sparse Bool
deriving DecidableEq, Repr

def GwyState.reset : GwyState := ⟨[], 0, [], [], [], [], [], [], [], [], []⟩

/-- An entry of a channel's gateway queue (R477): the frame's 24 buffer words, its coupling, when it entered, its number, and the
remote access whose attempt it is. -/
structure CanEnt where
  words : List Word
  cpl : Nat
  at_ : Nat
  num : Nat
  att : Option TagRef
deriving DecidableEq, Repr

/-- The device's frame on a CAN bus (R426, R427): its message buffer or else its gateway entry, start-of-frame instant, whether an abort
allows no further attempt, and a write of the buffer that is held to the attempt's end. -/
structure CanTx where
  buf : Option Nat
  ent : Option CanEnt
  sof : Nat
  abort : Bool
  held : Option (List Word)
deriving DecidableEq, Repr

/-- A CAN channel beside its registers: the device's frame on the bus, the edge stamp that the winner of a lost arbitration
carries (R428), the receive FIFO oldest first and the frames that ever entered it, the end of the 11 recessive bits that a protocol exception
waits for (R432), the gateway queue, and side-band frames that wait with the queue numbers they stay behind (R496). -/
structure CanCh where
  tx : Option CanTx
  edge : Option Nat
  fifo : List (List Word)
  fseq : Nat
  wait : Option Nat
  gq : List CanEnt
  held : List (CanEnt × List Nat)
deriving DecidableEq, Repr

def CanCh.idle : CanCh := ⟨none, none, [], 0, none, [], []⟩

/-- The CAN channels by number, and the count of gateway queue entries ever made. -/
structure CanState where
  chans : Sparse CanCh
  num : Nat
deriving DecidableEq, Repr

def CanState.reset : CanState := ⟨[], 0⟩

/-- A frame on a LIN bus: its identifier, entry type, the entry's collision table, and when its header began. -/
structure LinTx where
  fid : Nat
  typ : Nat
  coll : Nat
  at_ : Nat
deriving DecidableEq, Repr

/-- A LIN channel beside its registers (R437 to R440): the instant of the next slot in T0, the table and entry it takes, the place where an
interrupted table goes on, the collision table that runs from the next slot, the frame on the bus, and the
table and entry whose header waits for it. -/
structure LinCh where
  next : Nat
  pos : Nat × Nat
  back : Option (Nat × Nat)
  collTo : Option Nat
  frame : Option LinTx
  waiting : Option (Nat × Nat)
deriving DecidableEq, Repr

def LinCh.idle : LinCh := ⟨0, (0, 0), none, none, none, none⟩

/-- The LIN channels by number. -/
structure LinState where
  chans : Sparse LinCh
deriving DecidableEq, Repr

def LinState.reset : LinState := ⟨[]⟩

/-- A network channel beside its registers (R448 to R466): the state asked for that waits for bus idle, the end of the false-wake
window (with RUN not yet reached: none), the end of its back-off and of its recovery, and a wake condition of a guarded
channel that waits for confirmation as (end of PFILT, SRC, detection instant, coarse, WKFR words 3 to 6); when its last bus wake came; and the last
write of MODE with the word of NWK_TRC and the request it found. -/
structure NwkChan where
  want : Option Nat
  window : Option Nat
  atRun : Bool
  backTo : Option Nat
  recTo : Option Nat
  cond : Option (Nat × Nat × Nat × Bool × List Word)
  wokeAt : Option Nat
  wrote : Option (Nat × Word × Option Nat)
deriving DecidableEq, Repr

def NwkChan.quiet : NwkChan := ⟨none, none, false, none, none, none, none, none⟩

/-- The network sleep and wake block beside its registers: channels by j; end of the start-up phase; WAKE_IN's level, since when it
counts as high for its filter, whether its wake was raised for that level; the end of an automatic pulse; when WAKE_OUT
last fell with LOOPIGN; channels whose wake frame is due; LIN wake signals in progress by LIN channel with their end;
and CI-AON's copy of the block's words, by address (R451). -/
structure NwkState where
  chans : Sparse NwkChan
  startTo : Option Nat
  wakeIn : Bool
  highFrom : Option Nat
  raised : Bool
  pulseTo : Option Nat
  outHigh : Bool
  ignoreTo : Option Nat
  framesDue : List Nat
  linWake : Sparse Nat
  copy : Sparse Word
deriving DecidableEq, Repr

def NwkState.reset : NwkState := ⟨[], none, false, none, false, none, false, none, [], [], []⟩

/-- An exchange (R508 to R513): its function and OP, requested zones, the new identity and the slot offered to it, the number of its
reply slots, its reference instant, exchanges made, slots judged so far, slots found garbled or failed, when it is repeated, and its
challenge C. -/
structure Exch where
  fn : Nat
  op : Nat
  zreq : Nat
  newId : Nat
  slot : Option Nat
  m : Nat
  at_ : Nat
  tries : Nat
  judged : Nat
  garbled : Bool
  failed : Nat
  again : Option Nat
  chal : Nat
deriving DecidableEq, Repr

/-- What the enrolment and keys region of the flash holds beside the slot records (R506), as the cryptographic engine decrypts it: the vehicle
key, the VID and SHA-256 of the vehicle secret code. -/
structure Vehicle where
  key : Nat
  vid : Nat
  code : Nat
deriving DecidableEq, Repr

/-- The access block beside its registers: the exchange in progress; a slot record being written as (slot, identity, none for
revocation); instants of the last failures, newest first; the end of a lock-out and its flag in flash; the end of a secret-code grant; held button
telegrams by slot as (CNT, end); when the polling clock started; slots whose poll replies raise no wake, with
their missed bursts; when the next burst and the next sniff are due; the slot records in flash as (identity, button counter), with the
sequence number of each slot's latest record; the key store of CI-AON by slot; the vehicle's secrets; and until when a parked polling burst
powers PD-ACC. -/
structure AccState where
  exch : Option Exch
  writing : Option (Nat × Option Nat)
  fails : List Nat
  lockTo : Option Nat
  flag : Bool
  grantTo : Option Nat
  held : Sparse (Nat × Nat)
  clock : Option Nat
  quiet : Sparse Nat
  nextPoll : Nat
  nextSniff : Nat
  flash : Sparse (Nat × Nat)
  seqs : Sparse Nat
  keys : Sparse Nat
  vehicle : Vehicle
  burstTill : Nat
deriving DecidableEq, Repr

def AccState.reset : AccState := ⟨none, none, [], none, false, none, [], none, [], 0, 0, [], [], [], ⟨0, 0, 0⟩, 0⟩


/-- A latched wake (R534): its WAKECAUSE bit, the partition whose queue its event goes to, the event (code 0: none), and whether
it was latched during the entry (R533). -/
structure Wake where
  src : Nat
  queue : Option Nat
  block : Nat
  code : Nat
  item : Nat
  arg0 : Nat
  arg1 : Nat
  during : Bool
deriving DecidableEq, Repr

/-- A rail request on its way (R536 to R538): its frame, the repeats made, when its last frame ended, the status of its last
failure, and the instant of its next repeat. -/
structure RailReq where
  rail : Nat
  level : Nat
  ramp : Nat
  tries : Nat
  sentAt : Nat
  status : Nat
  retryAt : Option Nat
deriving DecidableEq, Repr

/-- The power-state controller beside its registers: acknowledgements of the entry, whether DEEP PARK was asked, when the
entry was accepted, its commit point, wakes to be replayed, whether the present bring-up is a wake's, the rail request
in progress and the SEQ bit of the last, bring-up attempts after rail faults and when the next follows, initiators with
the first reset key written, whether the AON timer has fired; "rail fault" events that wait for the ownership table to name the power owner;
whether the access functions have passed to the AON core, from the commit point until the wake is replayed (R53, R531); whether
WAKE_IN is the only wake source (R139); and how many of the wakes the last bring-up of a wake began with (R539). -/
structure PmuState where
  acks : List Nat
  deepReq : Bool
  entryAt : Nat
  commitAt : Option Nat
  wakes : List Wake
  waking : Option Nat
  rail : Option RailReq
  railSeq : Bool
  attempts : Nat
  againAt : Option Nat
  keyPairs : List Init
  timerFired : Bool
  faultHeld : Nat
  handed : Bool
  lineOnly : Bool
  seen : Nat
deriving DecidableEq, Repr

def PmuState.reset : PmuState := ⟨[], false, 0, none, [], none, none, false, 0, none, [], false, 0, false, false, 0⟩


/-- What a core does: stopped (no partition on it, or held in reset), running, stopped by WAIT until its queue holds an entry (R624). -/
inductive CoreRun where
  | stopped
  | running
  | waiting
deriving DecidableEq, Repr

/-- A core (R592): general registers that are not 0, pc, what it does, whether the debug port halts it (R84), when it last started
(CPU_CYCLE). -/
structure Core where
  gpr : Sparse Word
  pc : Word
  run : CoreRun
  halted : Bool
  startAt : Nat
deriving DecidableEq, Repr

def Core.off : Core := ⟨[], 0, .stopped, false, 0⟩

/-- The seven cores by number (R588, R626), and the addresses of words that the code finds uncorrectable (R629). -/
structure CpuState where
  cores : Sparse Core
  bad : List Nat
deriving DecidableEq, Repr

def CpuState.reset : CpuState := ⟨[], []⟩


/-- Register block records to apply (R126, R135): those of a bring-up, or of a restarted partition; the words left, the registers'
staged words, and a wait in progress as (address, mask, value, end). -/
structure RecJob where
  part : Option Nat
  words : List Word
  wait : Option (Nat × Word × Word × Nat)
deriving DecidableEq, Repr

/-- The bring-up (R130): reset kind (0 P, 1 D, 2 W, 3 the full activation of R668); step (0: held in the reset; 10: parts; 11: ended;
12: service-only); reference instant; rails to request; when VCORE, or VIO and VANA, are to be good after an acknowledged request;
domains to switch on and the instant of the last turn-on; whether the SRAM test and the probe have ended; conformity of
the chip-selects (AON); the selected generation and whether the other was tried; DOMUSE and the configuration
version; record jobs; parts left; parts not loaded (R138); ENTRY of each loaded image by core image (4: the AON core's); and since when
the device is in service-only state. -/
structure BootState where
  kind : Nat
  step : Nat
  refAt : Nat
  rails : List Nat
  pgWait : Option (Nat × Nat)
  doms : List Nat
  domAt : Nat
  sramDone : Bool
  probed : Bool
  cs : Nat
  gen : Nat
  fellBack : Bool
  domuse : Nat
  version : Nat
  jobs : List RecJob
  parts : List Nat
  missing : List Nat
  entries : Sparse Nat
  serviceAt : Option Nat
deriving DecidableEq, Repr

def BootState.reset : BootState := ⟨0, 0, 0, [], none, [], 0, false, false, 0, 0, false, 0, 0, [], [], [], [], none⟩


/-- The supply and the baseplate as the device finds them (R86 to R89): whether a P reset has not ended yet, since when VBAT lies below the
cut threshold, when RESET_N went low, and whether its 10 ms have passed. -/
structure SupState where
  inP : Bool
  cutFrom : Option Nat
  resetFrom : Option Nat
  longDone : Bool
deriving DecidableEq, Repr

def SupState.reset : SupState := ⟨true, none, none, false⟩


/-- The one-time-programmable fuses (R118): the storage key as a number of 256 bits, which only the cryptographic engine reads; the SHA-256 hash
of each signing key by slot; a revocation bit for each; and the 16-byte device serial (R653). No reset changes them (DESIGN CHOICE, log entry
142: what production blows). -/
structure FuseState where
  storage : Nat
  hashes : List Nat
  revoked : Nat
  serial : Nat
deriving DecidableEq, Repr

def FuseState.reset : FuseState := ⟨0, [0, 0, 0, 0], 0, 0⟩


/-- The debug port (R83 to R85): mode (0 locked, 1 core debug, 2 boundary scan), selected instruction (0 BYPASS, 1 IDCODE, 2 SAMPLE/PRELOAD,
3 EXTEST), last word it returned, and the boundary-scan cells. -/
structure JtagState where
  mode : Nat
  ir : Nat
  dr : Nat
  cells : List Bool
deriving DecidableEq, Repr

def JtagState.reset : JtagState := ⟨0, 0, 0, []⟩


/-- A partition restart in progress (R645, R646): its cause, the core it restarts on, and its stage: 0 waits for the core, 1 for its image, 2
for its records; the core it left; whether its image comes from the scaffold (R667). -/
structure Restart where
  cause : Nat
  core : Nat
  stage : Nat
  home : Nat
  scaf : Bool
deriving DecidableEq, Repr

/-- An in-service test (R649): OP, class, index, when it began. -/
structure SvcTest where
  op : Nat
  cls : Nat
  idx : Nat
  at_ : Nat
deriving DecidableEq, Repr

/-- In-service work beside its registers: the device watchdog's deadline and timeout in use, initiators with a refresh pair in progress;
restarts in progress by partition; the core of each partition, its own where none is listed; when the turn-on of PD-RC for a move
began; tests by partition; corrected words of SRAM rows in this scrub pass; weak rows to be repaired; when the retention RAM was
last scrubbed while parked; and the repair map, as stored in AON and as applied in PD-FAB: the address of each replaced row with its
bank's spare (R133, R135). -/
structure IntegState where
  dwAt : Option Nat
  dwUse : Nat
  dwPairs : List Init
  restarts : Sparse Restart
  seat : Sparse Nat
  rcOn : Option Nat
  tests : Sparse SvcTest
  rows : Sparse Nat
  weak : List Nat
  scrubbed : Nat
  repair : List (Nat × Nat)
  mapped : List (Nat × Nat)
deriving DecidableEq, Repr

def IntegState.reset : IntegState := ⟨none, 0, [], [], [], none, [], [], [], 0, [], []⟩


/-- A part staged in a session (R662): PART ID, OFFSET, SIZE, bytes written so far, and whether STAGE_END has come. -/
structure Staged19 where
  part : Nat
  off : Nat
  size : Nat
  fill : Nat
  done : Bool
deriving DecidableEq, Repr

/-- A Siari session (R657 to R660): its path (0 SVC, 1 P9), source address, SESSION value, CHALLENGE, slot
of its tool once authenticated, when it was opened and last asked, SEQ and reply of the last request carried out,
wrong proofs, staged parts, and whether its first STAGE_BEGIN has come. -/
structure Session where
  path : Nat
  src : Nat
  value : Nat
  chal : List Byte
  slot : Option Nat
  at_ : Nat
  last : Nat
  seq : Option Nat
  reply : List Byte
  wrong : Nat
  parts : List Staged19
  begun : Bool
deriving DecidableEq, Repr

/-- A manifest entry (R664). -/
structure ManEntry where
  part : Nat
  src : Nat
  trial : Nat
  version : Nat
  off : Nat
  size : Nat
  digest : List Byte
deriving DecidableEq, Repr

/-- An activation (R666 to R672): entries, BASESEQ, the manifest's digest, whether it is full; when its TOTAL passes; JSEQ of its BEGIN record; parts
found healthy; trials running as (PART, end); partitions yet to be tried and those tried; the generation it builds; its session. -/
structure Activation where
  entries : List ManEntry
  base : Nat
  digest : List Byte
  full : Bool
  total : Nat
  endAt : Option Nat
  jseq : Nat
  healthy : List Nat
  trials : Sparse Nat
  todo : List Nat
  tried : List Nat
  gen : Nat
  session : Nat
deriving DecidableEq, Repr

/-- The Siari engine beside its registers: sessions; holder of the staging lock and when it was granted; the arbitration window's end and the
sessions authenticated in it in order with their AUTH's SEQ; the activation; the replies that the latest request or event sent, as (path,
destination, message); next JSEQ and
journal position; the session whose workshop message waits, with its SEQ and end; paths refused SECRET and until when;
whether the journal check of R674 is due; what the journal's last BEGIN record names, as (generation, BASESEQ), while no outcome follows it; the
parts that stand staged whole in the inactive generation; and those of them that a session did not stage and may still name (R674). -/
structure UpdState where
  sessions : List Session
  holder : Option (Nat × Nat)
  arb : Option (Nat × List (Nat × Nat))
  act : Option Activation
  out : List (Nat × Nat × List Byte)
  jnext : Nat
  jpos : Nat
  ws : Option (Nat × Nat × Nat)
  barred : Sparse Nat
  due : Bool
  opened : Option (Nat × Nat)
  staged : List Staged19
  kept : List Staged19
deriving DecidableEq, Repr

def UpdState.reset : UpdState := ⟨[], none, none, none, [], 0, 0, none, [], false, none, [], []⟩


/-- A record of the seal memory's ring (R578): index, type (1 power interruption, 2 pulse fault, 3 clock fault, 4 time correction, 5 time set,
6 opened, 7 sealed, 8 tamper, 9 k-factor set, 10 firmware change), legal time in ms, or seconds since power-up while it is invalid, its VALID bit,
CNT0, seal state, tamper counter, and 8 bytes of type data. -/
structure MtrRec where
  index : Nat
  typ : Nat
  time : Nat
  valid : Bool
  cnt0 : Nat
  sealSt : Nat
  tamper : Nat
  data : Nat
deriving DecidableEq, Repr

/-- The legal clock (R569 to R572): legal time at an island instant, both in units of 62.5 ps, whether it is valid, and the slew that
began there in ms. -/
structure LegalClock where
  base : Nat
  at_ : Nat
  slew : Int
  valid : Bool
deriving DecidableEq, Repr

/-- The Duthen metering island (R557 to R581). Its time runs with T0 from an offset of its own, since no reset of the main device
touches it. State: offset; whether it is supplied; power-up instant; counters and their last sealed copy with its instant; start of
the pulse window, the counts there, and whether the last window was faulty; the clock; accepted corrections as (legal ms, applied); seal
state (0 SEALED, 1 OPEN, 2 BROKEN), pin, start of its timer; last OPEN-only request; the challenge with its instant; FAILAUTH,
instants of invalid OPEN_AUTH, end of the lock-out; KFACTOR, tamper counter, tamper fuses; records, next index; DISTCOPY
period in ms and next; the island's message count, replies and ALERTs that wait for space, DROPS; last sealed legal time; the legal time
in ms of the next LEGALTIME; running store, blocks of the inactive store, trial of new firmware; the writes of MTR_TXHEAD
with the legal times at them, as far as their requests are not yet served; and what production gave the island: its serial, the hashes of the
workshop keys by slot in its fuses, and the firmware key. -/
structure MtrState where
  off : Int
  on : Bool
  upAt : Nat
  cnt0 : Nat
  cnt1 : Nat
  sealed0 : Nat
  sealed1 : Nat
  sealAt : Nat
  winAt : Nat
  win0 : Nat
  win1 : Nat
  faulty : Bool
  clock : LegalClock
  corr : List (Nat × Int)
  sealSt : Nat
  pin : Bool
  pinFrom : Option Nat
  openAt : Nat
  chal : Option (List Byte × Nat)
  failAuth : Nat
  bad : List Nat
  lockTo : Option Nat
  kfactor : Nat
  tamper : Nat
  fuses : Nat
  recs : List MtrRec
  nextRec : Nat
  dist : Nat
  distAt : Nat
  count : Nat
  waiting : List (List Byte)
  drops : Nat
  sealedTime : Nat
  legalAt : Nat
  store : Nat
  blocks : Sparse (List Byte)
  trialTo : Option Nat
  marks : List (Nat × Nat)
  serial : Nat
  hashes : List Nat
  fwKey : List Byte
deriving DecidableEq, Repr

def MtrState.reset : MtrState :=
  { off := 0
    on := false
    upAt := 0
    cnt0 := 0
    cnt1 := 0
    sealed0 := 0
    sealed1 := 0
    sealAt := 0
    winAt := 0
    win0 := 0
    win1 := 0
    faulty := false
    clock := ⟨0, 0, 0, false⟩
    corr := []
    sealSt := 0
    pin := false
    pinFrom := none
    openAt := 0
    chal := none
    failAuth := 0
    bad := []
    lockTo := none
    kfactor := 1000
    tamper := 0
    fuses := 0
    recs := []
    nextRec := 0
    dist := 0
    distAt := 0
    count := 0
    waiting := []
    drops := 0
    sealedTime := 0
    legalAt := 0
    store := 0
    blocks := []
    trialTo := none
    marks := []
    serial := 0
    hashes := [0, 0, 0, 0]
    fwKey := List.replicate 64 0#8 }

/-- What hardware changed in the access cycle of an instant (R15, R16), by word address: the word before the first change, and beside
it, field by field, what was set or added since. -/
structure CycState where
  at_ : Nat
  words : Sparse (Word × Word)
deriving DecidableEq, Repr

def CycState.reset : CycState := ⟨0, []⟩

/-- The whole machine. -/
structure State where
  /-- T0 in units of 62.5 ps since zero (R142, R143). -/
  now : Nat
  /-- Index of the next free value (the model's own field, DESIGN CHOICE, log entry 1). -/
  free : Nat
  /-- The commands that wait, first in first out. -/
  pending : List Instr
  /-- The register words, by byte address; an unlisted word holds its P reset value. -/
  regs : List (Nat × Word)
  /-- The memories, by address; an unlisted byte reads as `memDefault`. -/
  mem : List Host.Cell
  /-- Powered domains, one bit each, numbered as SYS_DOMSTAT.PD (R38). -/
  dom : Nat
  /-- The access rules' own state: snapshots, staged words, pending slots and the last word read by each initiator (R19 to R28). -/
  bus : BusState
  /-- The event queues, 0 to 3 of the partitions and 4 of the AON core, the events held for each partition's start, and whether an event was placed in a partition's queue since REST was entered (R528). -/
  ev : EvState
  /-- The event log: pending entries of the ring, oldest first; entries being flushed; whether the head is found and the next SEQ; the number of entries ever made, which gives the ring position; entries to be reported lost; entries that wait in CI-AON while PD-FAB is off (R637 to R639). -/
  log : LogState
  /-- What the running configuration image gives beside register values: ownership table, partition placements, dust-sheet list as (word address, bank), towline map entries, register block records and product code (R122 to R126, R315, R546). -/
  cfg : CfgState
  /-- The handshake links by number. -/
  links : LinksState
  /-- The schedule plane: targets, deferred turn-ons, admitted weights as (tab group, instant, weight), trailing edges to come, requests and commits on their way, staged fields, tables, entries by table · 1024 + bank · 512 + entry, and the latest momentary term events as (kind · 65536 + index, instant). -/
  sch : SchState
  /-- The power switch block beside its registers: protection timers, AON mirror of LATCH, ATT and CAUSE is the register itself; diagnosis; the towline entries in map order; the output-plane watchdog's deadline and timeout in use, the initiators with a refresh pair in progress, and whether a refresh completed since the towline began; hold windows of the partitions; planned-restart notices' instants; the channels that are cut (R86); whether CI-PWR lacks its clock (R643). -/
  psw : PswState
  /-- The valve block beside its registers: the banks' queues, the output profiles, and the output in fast decay of each bank. -/
  vlv : VlvState
  /-- The lighting block beside its registers: channels by membership bit, stencils, strings under test, those that a failing pair named and whether a pair was passed over, the latest planned leading edge of each TPO with SRC 1. -/
  lgt : LgtState
  /-- The timebase beside its registers: the scales 1 and 2; T3 by its last value and the instant that was taken, its apply tick and the value in force until then; TPOs, TCIs, audits; the apply tick of a planned swap; an unplanned switch-over in progress by its instant; and when the faulted unit runs its self-test. -/
  tim : TimState
  /-- The Ethernet switch beside its registers: ports, forwarding table by entry index, token buckets of the streams as (tokens in units of 6.25·10⁻⁸ bit, instant), gPTP domains, rings stopped by a refused base (2·p transmit, 2·p + 1 receive), and the AVTPDUs handed to the gateway, oldest first. -/
  eth : EthState
  /-- The field inputs beside their registers, and CI-AON's copy for parked polling (R409 to R411): enabled groups with their FIN_PGRP word, grouped inputs as (number, FIN_CFG word, reference), last burst samples, the confirming burst to come as (group, inputs found different, instant), and when each group's next burst is due. -/
  fin : FinState
  /-- The gateway and the check-value units beside their registers: messages delivered and not yet routed, their count, jobs of the units, ring entries that wait, remote replies as (response coupling, payload, failed its check), remote accesses, prefetch lines oldest first, gatherings by 4·tunnel + partition, sequence numbers sent and received by tunnel, AVTPDUs on their way with their attempts, levels of the partition signals by 32·partition + signal. -/
  gwy : GwyState
  /-- The CAN channels by number, and the count of gateway queue entries ever made. -/
  can : CanState
  /-- The LIN channels by number. -/
  lin : LinState
  /-- The network sleep and wake block beside its registers: channels by j; end of the start-up phase; WAKE_IN's level, since when it counts as high for its filter, whether its wake was raised for that level; the end of an automatic pulse; when WAKE_OUT last fell with LOOPIGN; channels whose wake frame is due; LIN wake signals in progress by LIN channel with their end; and CI-AON's copy of the block's words, by address (R451). -/
  nwk : NwkState
  /-- The access block beside its registers: the exchange in progress; a slot record being written as (slot, identity, none for revocation); instants of the last failures, newest first; the end of a lock-out and its flag in flash; the end of a secret-code grant; held button telegrams by slot as (CNT, end); when the polling clock started; slots whose poll replies raise no wake, with their missed bursts; when the next burst and the next sniff are due; the slot records in flash as (identity, button counter), with the
sequence number of each slot's latest record; the key store of CI-AON by slot; the vehicle's secrets; and until when a parked polling burst
powers PD-ACC. -/
  acc : AccState
  /-- The power-state controller beside its registers: acknowledgements of the entry, whether DEEP PARK was asked, when the entry was accepted, its commit point, wakes to be replayed, whether the present bring-up is a wake's, the rail request in progress and the SEQ bit of the last, bring-up attempts after rail faults and when the next follows, initiators with the first reset key written, whether the AON timer has fired; "rail fault" events that wait for the ownership table to name the power owner. -/
  pmu : PmuState
  /-- The seven cores by number (R588, R626), and the addresses of words that the code finds uncorrectable (R629). -/
  cpu : CpuState
  /-- The bring-up (R130): reset kind (0 P, 1 D, 2 W, 3 the full activation of R668); step (0: held in the reset; 10: parts; 11: ended; 12: service-only); reference instant; rails to request; when VCORE, or VIO and VANA, are to be good after an acknowledged request; domains to switch on and the instant of the last turn-on; whether the SRAM test and the probe have ended; conformity of the chip-selects (AON); the selected generation and whether the other was tried; DOMUSE and the configuration version; record jobs; parts left; ENTRY of each loaded image by core image (4: the AON core's); and since when the device is in service-only state. -/
  boot : BootState
  /-- The supply and the baseplate as the device finds them (R86, R87): since when VBAT lies below the cut threshold, when RESET_N went low, and whether its 10 ms have passed. -/
  sup : SupState
  /-- The debug port (R83 to R85): mode (0 locked, 1 core debug, 2 boundary scan), selected instruction (0 BYPASS, 1 IDCODE, 2 SAMPLE/PRELOAD, 3 EXTEST), last word it returned, and the boundary-scan cells. -/
  jtag : JtagState
  /-- The one-time-programmable fuses (R118). -/
  fuse : FuseState
  /-- In-service work beside its registers: the device watchdog's deadline and timeout in use, initiators with a refresh pair in progress; restarts in progress by partition; the core of each partition, its own where none is listed; when the turn-on of PD-RC for a move began; tests by partition; corrected words of SRAM rows in this scrub pass; weak rows to be repaired; and when the retention RAM was last scrubbed while parked. -/
  integ : IntegState
  /-- The Siari engine beside its registers: sessions; holder of the staging lock and when it was granted; the arbitration window's end and the sessions authenticated in it in order with their AUTH's SEQ; the activation; the replies that the latest request or event sent, as (path, destination, message); next JSEQ and journal position; the session whose workshop message waits, with its SEQ and end; paths refused SECRET and until when; whether the journal check of R674 is due; what the journal's last BEGIN record names, as (generation, BASESEQ), while no outcome follows it; the
parts that stand staged whole in the inactive generation; and those of them that a session did not stage and may still name (R674). -/
  upd : UpdState
  /-- The Duthen metering island (R557 to R581). Its time runs with T0 from an offset of its own, since no reset of the main device touches it. State: offset; whether it is supplied; power-up instant; counters and their last sealed copy with its instant; start of the pulse window, the counts there, and whether the last window was faulty; the clock; accepted corrections as (legal ms, applied); seal state (0 SEALED, 1 OPEN, 2 BROKEN), pin, start of its timer; last OPEN-only request; the challenge with its instant; FAILAUTH, instants of invalid OPEN_AUTH, end of the lock-out; KFACTOR, tamper counter, tamper fuses; records, next index; DISTCOPY period in ms and next; the island's message count, replies and ALERTs that wait for space, DROPS; last sealed legal time; the legal time in ms of the next LEGALTIME; running store, blocks of the inactive store, trial of new firmware; and the writes of MTR_TXHEAD with their island instants, as far as their requests are not yet served. -/
  mtr : MtrState
  /-- What hardware changed in the access cycle of an instant (R15, R16), by word address: the word before the first change, and beside it, field by field, what was set or added since. -/
  cyc : CycState
deriving DecidableEq, Repr

/-- The block right after a P reset: every register word at its P reset value, memories with nothing listed, every queue
empty (R11, R12, R552). PMU_STATE.STATE alone is listed, since its register table gives it no reset kind and bring-up
(5) is the state a P reset starts in. -/
def State.reset : State :=
  { now := 0
    free := 0
    pending := []
    regs := [(0x40D00000, 0xA0000000#32)]
    mem := []
    dom := 0
    bus := BusState.reset
    ev := EvState.reset
    log := LogState.reset
    cfg := CfgState.reset
    links := LinksState.reset
    sch := SchState.reset
    psw := PswState.reset
    vlv := VlvState.reset
    lgt := LgtState.reset
    tim := TimState.reset
    eth := EthState.reset
    fin := FinState.reset
    gwy := GwyState.reset
    can := CanState.reset
    lin := LinState.reset
    nwk := NwkState.reset
    acc := AccState.reset
    pmu := PmuState.reset
    cpu := CpuState.reset
    boot := BootState.reset
    sup := SupState.reset
    jtag := JtagState.reset
    fuse := FuseState.reset
    integ := IntegState.reset
    upd := UpdState.reset
    mtr := MtrState.reset
    cyc := CycState.reset
  }

end Sys2Proof.Machine
end

