-- ==== Sys2Proof/Machine/Ops.lean ====
section
/-! DEFINITION. The named operations every meaning is written with: register words and fields, counters, memory, ownership,
error accounting, event queues and the event log. -/

set_option Elab.async false

namespace Sys2Proof.Machine

/-! ### The answer of a command -/

/-- The next state of a command that began in s: the state its effect leaves, with the queue of waiting commands as it
was (no command adds or removes one). -/
def State.ends (s t : State) : Host.Outcome State Fault Refusal := .next { t with pending := s.pending }

/-! ### Time units (T0 counts 62.5 ps) -/

def usUnits : Nat := 16000
def msUnits : Nat := 16000000
def secUnits : Nat := 16000000000

/-! ### Addresses and reset values of registers -/

/-- The block number of R125 that a register's address lies in; 17 for the cores' control registers. -/
def Reg.block (r : Reg) : Nat :=
  if r.geom.base < 0x100000000 then (r.geom.base - 0x40000000) / 0x100000 else 17

/-- Address of word w of instance (i, j) of a register. -/
def Reg.addr (r : Reg) (i j w : Nat) : Nat := r.geom.base + r.geom.s1 * i + r.geom.s2 * j + 4 * w

/-- The fields of a register, from its block's table. -/
def Reg.fields (r : Reg) : List FieldInfo :=
  if r.block < 5 then r.fieldsA else if r.block < 10 then r.fieldsB else r.fieldsC

/-- Whether a register list gives instance (i, j) of a register: R230 (target indices), R255 (channel bits), R227 (fabric
ports), R413 (analogue inputs), R468 (masking sets). -/
def Reg.valid (r : Reg) (i j : Nat) : Bool :=
  decide (r.first1 ≤ i) && decide (i < r.geom.n1) && decide (j < r.geom.n2) &&
  (match r with
    | .PSW_CMD | .PSW_CFG | .PSW_PROT | .PSW_DIAG | .PSW_CNT | .PSW_STR => decide (i < 60) || decide (64 ≤ i)
    | .LGT_CMD | .LGT_STATE | .LGT_DEF | .LGT_DIM => decide (i < 16) || decide (32 ≤ i)
    | .SCH_EDGE => decide (i < 60) || (decide (64 ≤ i) && decide (i < 72)) || (decide (80 ≤ i) && decide (i < 104)) ||
        (decide (128 ≤ i) && decide (i < 144)) || decide (160 ≤ i)
    | .ESW_PCTL | .ESW_PSTAT | .ESW_PCT | .ESW_PPLCA | .ESW_PQSLOPE | .ESW_PTASCTL | .ESW_PTASBASE | .ESW_PTASCYC
    | .ESW_GATE => decide (i < 11)
    | .FIN_ACFG | .FIN_ATHR | .FIN_AVAL => decide (64 ≤ i) && decide (i < 88)
    | .NWK_SET => decide (i < 10)
    | _ => true)

/-- The word made of the reset values of a register's fields. -/
def rstOfFields (fs : List FieldInfo) (w : Nat) : Word :=
  fs.foldl (fun acc f => if f.word = w then setBits acc f.hi f.lo f.rst else acc) 0

/-- Reset values that the register tables give by instance and not by field: OLTHR by channel class (R276), the polling
steps (R516), the curve points (R390), the matrix segments' DUTY, the versions and core numbers of the cores (R588, R626),
MEMBER of the all-channel page (R255). -/
def Reg.rstSpecial (r : Reg) (i w : Nat) : Option Word :=
  match r with
  | .PSW_CFG => some (setBits (rstOfFields r.fields 0) 9 0 (if 12 ≤ i ∧ i < 36 then 150 else if 36 ≤ i ∧ i < 60 then 30 else 300))
  | .ACC_POLLSTEP => some (BitVec.ofNat 32 (match i with
      | 0 => 15 * 65536 + 25
      | 1 => 240 * 65536 + 100
      | 2 => 4320 * 65536 + 400
      | _ => 65535 * 65536))
  | .LGT_CURVE => some (BitVec.ofNat 32 (((216 + 23 * w) % 256) * 16777216 + 1024))
  | .LGT_DIM => if 32 ≤ i ∧ i < 128 then some 1024#32
      else some (setBits (setBits (setBits 0#32 23 16 25) 15 8 128) 4 0 10)
  | .CPU_ISAVER => some (if i < 5 then 0x00010007#32 else 0x00010004#32)
  | .CPU_CORE => some (BitVec.ofNat 32 i)
  | .PSW_AMEMBER => some (match i with | 0 => 0xFFFFFFFF#32 | 1 => 0x0FFFFFFF#32 | 2 => 0xFF#32 | _ => 0#32)
  | .VLV_AMEMBER => some (match i with | 0 => 0x00FFFFFF#32 | _ => 0#32)
  | .LGT_AMEMBER => some (match i with | 0 => 0xFFFF#32 | 1 | 2 | 3 | 4 => 0xFFFFFFFF#32 | 5 => 0xF#32 | _ => 0#32)
  | _ => none

/-- The P reset value of a register word. -/
def Reg.rst (r : Reg) (i _j w : Nat) : Word := (r.rstSpecial i w).getD (rstOfFields r.fields w)

/-! ### Register words and fields -/

/-- Word w of instance (i, j) of a register. -/
def State.word (s : State) (r : Reg) (i j w : Nat) : Word :=
  (Sparse.get s.regs (r.addr i j w)).getD (r.rst i j w)

/-- Sets a register word; a word at its P reset value is not listed. -/
def State.setWord (s : State) (r : Reg) (i j w : Nat) (v : Word) : State :=
  { s with regs := if v = r.rst i j w then Sparse.erase s.regs (r.addr i j w) else Sparse.set s.regs (r.addr i j w) v }

/-- The value of a field. -/
def State.get (s : State) (f : Fld) (i : Nat := 0) (j : Nat := 0) : Nat :=
  bitsOf (s.word f.reg i j f.word) f.hi f.lo

/-- Whether a field is not zero. -/
def State.on (s : State) (f : Fld) (i : Nat := 0) (j : Nat := 0) : Bool := s.get f i j != 0

/-- Sets a field, modulo its width. -/
def State.put (s : State) (f : Fld) (v : Nat) (i : Nat := 0) (j : Nat := 0) : State :=
  s.setWord f.reg i j f.word (setBits (s.word f.reg i j f.word) f.hi f.lo v)

/-- The largest value of a field. -/
def Fld.top (f : Fld) : Nat := 2 ^ (f.hi + 1 - f.lo) - 1

/-- The same field k words further on. -/
def Fld.up (f : Fld) (k : Nat) : Fld := { f with word := f.word + k }

/-- What hardware has changed of a word in the access cycle of now: the word before, and what was set or added (R15, R16). -/
def State.changed (s : State) (r : Reg) (i j w : Nat) : Word × Word :=
  let old : Word × Word := (s.word r i j w, 0)
  if s.cyc.at_ = s.now then Sparse.at s.cyc.words (r.addr i j w) old else old

/-- Notes what hardware has changed of a word in the access cycle of now. -/
def State.setChanged (s : State) (r : Reg) (i j w : Nat) (c : Word × Word) : State :=
  { s with cyc := ⟨s.now, Sparse.set (if s.cyc.at_ = s.now then s.cyc.words else []) (r.addr i j w) c⟩ }

/-- Notes that hardware adds n to a field, or sets it, in the access cycle of now. -/
def State.noted (s : State) (f : Fld) (n : Nat) (i : Nat := 0) (j : Nat := 0) : State :=
  let c := s.changed f.reg i j f.word
  s.setChanged f.reg i j f.word (c.1, setBits c.2 f.hi f.lo (min f.top (bitsOf c.2 f.hi f.lo + n)))

/-- Sets bit k of a field whose bits stay set until firmware clears them (R15). -/
def State.raiseBit (s : State) (f : Fld) (k : Nat) (i : Nat := 0) (j : Nat := 0) : State :=
  let c := s.changed f.reg i j f.word
  (s.setChanged f.reg i j f.word (c.1, setBits c.2 f.hi f.lo (setBit (bitsOf c.2 f.hi f.lo) k true))).put f
    (setBit (s.get f i j) k true) i j

/-- Adds to a counter field, which saturates at its maximum. -/
def State.bumpBy (s : State) (f : Fld) (n : Nat) (i : Nat := 0) (j : Nat := 0) : State :=
  (s.noted f n i j).put f (min f.top (s.get f i j + n)) i j

/-- Takes back what was added to a counter field in this access cycle. -/
def State.unbump (s : State) (f : Fld) (i : Nat := 0) (j : Nat := 0) : State :=
  let c := s.changed f.reg i j f.word
  (s.setChanged f.reg i j f.word (c.1, setBits c.2 f.hi f.lo (bitsOf c.2 f.hi f.lo - 1))).put f (s.get f i j - 1) i j

/-- Sets a bit that stays set until firmware clears it (R15). -/
def State.raise (s : State) (f : Fld) (i : Nat := 0) (j : Nat := 0) : State := (s.noted f 1 i j).put f 1 i j

/-- Adds one to a counter field, which saturates at its maximum. -/
def State.bump (s : State) (f : Fld) (i : Nat := 0) (j : Nat := 0) : State := s.bumpBy f 1 i j

/-- Adds one to a sequence field, which wraps. -/
def State.wrap (s : State) (f : Fld) (i : Nat := 0) (j : Nat := 0) : State := s.put f (s.get f i j + 1) i j

/-- A register's word list. -/
def State.words (s : State) (r : Reg) (i j : Nat) : List Word :=
  (List.range r.geom.words).map (fun w => s.word r i j w)

/-- Sets consecutive words of a register from word w on. -/
def State.setWordsFrom (s : State) (r : Reg) (i j : Nat) : Nat → List Word → State
  | _, [] => s
  | w, v :: vs => (s.setWord r i j w v).setWordsFrom r i j (w + 1) vs

def State.setWords (s : State) (r : Reg) (i j : Nat) (vs : List Word) : State := s.setWordsFrom r i j 0 vs

/-- Bits of a register word whose field has one of the given access codes. -/
def maskOf (fs : List FieldInfo) (w : Nat) (p : Acc → Bool) : Word :=
  fs.foldl (fun acc f => if f.word = w && p f.acc then acc ||| maskBits f.hi f.lo else acc) 0

/-- The bits of a word that instance (i, j) has no field for although the register's table names one: an MX channel has
only DUTY in LGT_DIM, an LS or AM channel has no DUTY there; PMU_PARKHELD and SCH_ICLS have no bits for target indices that R230
leaves out (R273, R542). -/
def Reg.lacks (r : Reg) (i : Nat) : Word :=
  match r with
  | .PMU_PARKHELD => match i with | 1 => 0xF0000000#32 | 2 => 0x0000FF00#32 | 3 => 0xFFFFFF00#32 | _ => 0#32
  | .SCH_ICLS => match i with | 3 => 0xFF000000#32 | 4 => 0xFFFF0000#32 | _ => 0#32
  | .LGT_DIM => if 32 ≤ i ∧ i < 128 then 0xFFFFF800#32 else if i < 16 then 0x030000E0#32 else 0x000000E0#32
  | _ => 0

/-- A register word after a write under its fields' access codes (R14): RW sets, W1C clears, W1S sets, RO, RC, WO and
reserved bits keep. -/
def Reg.written (r : Reg) (i w : Nat) (old v : Word) : Word :=
  let fs := r.fields
  let rw := maskOf fs w (· == .rw) &&& ~~~ r.lacks i
  let c := maskOf fs w (· == .w1c)
  let t := maskOf fs w (· == .w1s)
  (((old &&& ~~~ rw) ||| (v &&& rw)) &&& ~~~ (v &&& c)) ||| (v &&& t)

/-- A register word after a write: of the W1C bits that hardware set in the access cycle of the write none is cleared (R15). -/
def State.written (s : State) (r : Reg) (i j w : Nat) (v : Word) : Word :=
  r.written i w (s.word r i j w) v ||| ((s.changed r i j w).2 &&& maskOf r.fields w (· == .w1c))

/-- Clears a W1C bit for which a written word holds 1, unless hardware set it in this access cycle (R14, R15). -/
def State.ack (s : State) (f : Fld) (v : Word) (i : Nat := 0) (j : Nat := 0) : State :=
  if bitsOf v f.hi f.lo = 1 ∧ bitsOf (s.changed f.reg i j f.word).2 f.hi f.lo = 0 then s.put f 0 i j else s

/-- Whether a register holds a field that a write may act on (R14). -/
def Reg.writable (r : Reg) : Bool :=
  r.fields.any (fun f => match f.acc with | .rw | .wo | .w1c | .w1s => true | .ro | .rc => false)

/-- The first word of each time value in the layout of R143 that a register holds for writing. -/
def timePart : Reg → Option Nat
  | .TIM_TPOSTART | .SCH_TSWAP | .LGT_STNAT | .ESW_PTASBASE => some 0
  | .SCH_ENTRY => some 2
  | _ => none

/-- What a read returns of a word: WO bits and reserved bits read as zero (R14, R17), and so does FRAC[11:0] of a time value (R144). -/
def Reg.readable (r : Reg) (w : Nat) : Word :=
  let m := maskOf r.fields w (· != .wo)
  match timePart r with
  | some k => if w = k + 2 then m &&& 0xF000FFFF else m
  | none => m

/-- The RC bits of a word. -/
def Reg.rcMask (r : Reg) (w : Nat) : Word := maskOf r.fields w (· == .rc)

/-- A word with its RC fields cleared. -/
def Reg.rcCleared (r : Reg) (w : Nat) (v : Word) : Word := v &&& ~~~ r.rcMask w

/-- What stays of a word when a read clears its RC fields: what hardware changed in the access cycle of the read is kept for the next
read (R16). -/
def State.rcLeft (s : State) (r : Reg) (i j w : Nat) : Word :=
  r.rcCleared w (s.word r i j w) ||| ((s.changed r i j w).2 &&& r.rcMask w)

/-- A word as a read of now finds it: RC fields read as they were before this access cycle (R16). -/
def State.rcSeen (s : State) (r : Reg) (i j w : Nat) (v : Word) : Word :=
  (v &&& ~~~ r.rcMask w) ||| ((s.changed r i j w).1 &&& r.rcMask w)

/-! ### Free values -/

/-- The next free value. -/
def State.fresh (s : State) : Nat := Config.freeValue s.free

/-- The state once the next free value is taken. -/
def State.tookFresh (s : State) : State := { s with free := s.free + 1 }

/-! ### Memory -/

/-- What an unlisted byte reads as: erased flash reads 0xFF (PRESUMED, log entry 4), the boot ROM its content, every RAM 0 (DESIGN CHOICE, log
entry 5). Local memories of the cores lie at 0x2_0000_0000 + 0x100_0000·core. -/
def memDefault (a : Nat) : Byte :=
  if a < 0x10000 then Config.bootRom a
  else if 0x20000000 ≤ a ∧ a < 0x28000000 then 0xFF#8 else 0#8

/-- Reads a byte. -/
def State.rd8 (s : State) (a : Nat) : Byte := (Sparse.get s.mem a).getD (memDefault a)

/-- Writes a byte, keeping the canonical form: no listed byte equals what an unlisted one reads as. -/
def State.wr8 (s : State) (a : Nat) (v : Byte) : State :=
  { s with mem := if v = memDefault a then Sparse.erase s.mem a else Sparse.set s.mem a v }

/-- Reads a little-endian word (R7). -/
def State.rd32 (s : State) (a : Nat) : Word := wordOf (s.rd8 a) (s.rd8 (a + 1)) (s.rd8 (a + 2)) (s.rd8 (a + 3))

/-- Writes a little-endian word (R7). -/
def State.wr32 (s : State) (a : Nat) (v : Word) : State :=
  (((s.wr8 a (v.extractLsb' 0 8)).wr8 (a + 1) (v.extractLsb' 8 8)).wr8 (a + 2) (v.extractLsb' 16 8)).wr8 (a + 3)
    (v.extractLsb' 24 8)

/-- Reads a little-endian halfword. -/
def State.rd16 (s : State) (a : Nat) : BitVec 16 := s.rd8 (a + 1) ++ s.rd8 a

/-- Writes a little-endian halfword. -/
def State.wr16 (s : State) (a : Nat) (v : BitVec 16) : State :=
  (s.wr8 a (v.extractLsb' 0 8)).wr8 (a + 1) (v.extractLsb' 8 8)

/-- Reads n bytes. -/
def State.rdBytes (s : State) (a : Nat) (n : Nat) : List Byte := (List.range n).map (fun k => s.rd8 (a + k))

/-- Writes a list of bytes. -/
def State.wrBytes (s : State) (a : Nat) : List Byte → State
  | [] => s
  | b :: bs => (s.wr8 a b).wrBytes (a + 1) bs

/-- Erases the 4 KB sector at an address: every byte reads as erased. -/
def State.eraseSector (s : State) (a : Nat) : State :=
  { s with mem := s.mem.filter (fun c => !(decide (a ≤ c.1) && decide (c.1 < a + 4096))) }

/-- Bytes at an address, as numbers. -/
def State.nums (s : State) (a n : Nat) : List Nat := (s.rdBytes a n).map (fun b => b.toNat)

/-- Little-endian bytes of a number. -/
def leB (n v : Nat) : List Byte := (List.range n).map (fun k => BitVec.ofNat 8 (v / 2 ^ (8 * k)))

/-- The number of little-endian bytes. -/
def ofLE (bs : List Byte) : Nat := bs.foldr (fun b acc => b.toNat + 256 * acc) 0

/-- The memory's canonical form: addresses strictly rise and no entry equals what an unlisted address reads as. -/
abbrev Memory.wf (m : List Host.Cell) : Prop :=
  Sparse.sorted m = true ∧ ∀ c ∈ m, c.2 ≠ memDefault c.1

/-- The register file's canonical form: addresses strictly rise. -/
abbrev Regs.wf (m : List (Nat × Word)) : Prop := Sparse.sorted m = true

/-! ### Time values (R143) -/

/-- Units of 2⁻¹⁶ ns in one second. -/
def secFine : Nat := 1000000000 * 65536

/-- The three words of a time given in units of 2⁻¹⁶ ns: seconds low, nanoseconds, fraction and seconds high. -/
def timeWords (t : Nat) : List Word :=
  let sec := t / secFine
  let rest := t % secFine
  [BitVec.ofNat 32 sec, BitVec.ofNat 32 (rest / 65536), BitVec.ofNat 32 ((rest % 65536) * 65536 + sec / 2 ^ 32 % 65536)]

/-- A time as the device returns it, at 62.5 ps: FRAC[11:0] is zero (R144). -/
def coarseFrac (t : Nat) : Nat := t / 4096 * 4096

/-- Whether a written time value has an NSEC that R145 accepts. -/
def nsecOk (w1 : Word) : Bool := decide (w1.toNat ≤ 999999999)

/-- A T0 instant (62.5 ps units) in units of 2⁻¹⁶ ns. -/
def fineOf (u : Nat) : Nat := u * 4096

/-- The words of a T0 instant. -/
def t0Words (u : Nat) : List Word := timeWords (fineOf u)

/-- The time that three words of R143 give, in units of 2⁻¹⁶ ns. -/
def timeOfWords (w0 w1 w2 : Word) : Nat :=
  (bitsOf w2 15 0 * 2 ^ 32 + w0.toNat) * secFine + w1.toNat * 65536 + bitsOf w2 31 16

/-- The time value in words w, w+1, w+2 of a register. -/
def State.timeAt (s : State) (r : Reg) (i j w : Nat) : Nat :=
  timeOfWords (s.word r i j w) (s.word r i j (w + 1)) (s.word r i j (w + 2))

/-- The AON coarse count, in units of 1/32,768 s (R618). -/
def State.coarse (s : State) : Nat := s.now * 32768 / secUnits

/-- NSEC of T0 now. -/
def State.nsec (s : State) : Nat := s.now / 16 % 1000000000

/-! ### Domains (R38), hosts and running partitions (R42) -/

def domCA : Nat := 0
def domCB : Nat := 1
def domRC : Nat := 2
def domFAB : Nat := 3
def domNET : Nat := 4
def domBUS : Nat := 5
def domLGT : Nat := 6
def domPWR : Nat := 7
def domACC : Nat := 8
def domTIM : Nat := 9

/-- Whether a domain is on. -/
def State.domOn (s : State) (d : Nat) : Bool := bit s.dom d

/-- The domain that feeds block k (system address map); none for AON's power management block. -/
def domOfBlock (k : Nat) : Option Nat :=
  match k with
  | 0 => some domTIM
  | 1 => some domNET
  | 2 | 3 | 4 | 6 => some domPWR
  | 5 => some domLGT
  | 7 | 8 | 9 => some domBUS
  | 10 | 11 | 14 | 15 | 16 => some domFAB
  | 12 => some domACC
  | _ => none

/-- Whether block k's domain is on. -/
def State.blockOn (s : State) (k : Nat) : Bool :=
  match domOfBlock k with
  | some d => s.domOn d
  | none => true

/-- SYS_PARTHOST field of partition n. -/
def hostFld (n : Nat) : Fld :=
  match n with
  | 0 => F.SYS_PARTHOST_HOST0
  | 1 => F.SYS_PARTHOST_HOST1
  | 2 => F.SYS_PARTHOST_HOST2
  | _ => F.SYS_PARTHOST_HOST3

/-- The core that hosts partition n; 7 when it is not running. -/
def State.host (s : State) (n : Nat) : Nat := s.get (hostFld n)

/-- Whether partition n is running. -/
def State.running (s : State) (n : Nat) : Bool := s.host n != 7

/-- The partitions that run. -/
def State.runningParts (s : State) : List Nat := (List.range 4).filter (fun n => s.running n)

/-- Identity coding of SYS_PARTHOST.SELF. -/
def initCode : Init → Nat
  | .part n => n
  | .aon => 4
  | .boot | .siari | .switch => 7

/-! ### Error accounting (R635, R636) -/

/-- Adds to a cumulative counter ERR_CUMn. -/
def State.cumBy (s : State) (n k : Nat) : State := s.bumpBy F.ERR_CUM_COUNT k n
def State.cum (s : State) (n : Nat) : State := s.cumBy n 1

/-- Counts one case in block k's access error class (R635, R636). -/
def State.accErr (s : State) (k : Nat) : State := (s.bump F.ERR_BLK0_ACCESS k).cum 18

/-- Counts a torn read or an abandoned snapshot of block k; one of a core's control registers counts in block 15. -/
def State.snapErr (s : State) (k : Nat) : State := (s.bump F.ERR_BLK0_SNAP (if k < 17 then k else 15)).cum 19

/-! ### Ownership (R46 to R52, R682) -/

/-- To whom a register belongs: the owner of an item of R125, one partition whatever the table says, or nobody. -/
inductive OwnSpec where
  | item (cls idx : Nat)
  | part (n : Nat)
  | nobody
deriving DecidableEq, Repr

/-- The item of a power channel or LED target index x (R230). -/
def targetSpec (x : Nat) : OwnSpec :=
  if x < 60 then .item 0x01 x
  else if 64 ≤ x ∧ x < 72 then .item 0x02 (x - 64)
  else if 80 ≤ x ∧ x < 104 then .item 0x03 (x - 80)
  else if 128 ≤ x ∧ x < 144 then .item 0x04 (x - 128)
  else if 160 ≤ x ∧ x < 256 then .item 0x05 (x - 160)
  else if 256 ≤ x ∧ x < 292 then .item 0x06 (x - 256)
  else if 384 ≤ x ∧ x < 400 then .item 0x07 (x - 384)
  else .nobody

/-- The item of lighting membership bit m (R255). -/
def ledBitSpec (m : Nat) : OwnSpec :=
  if m < 16 then .item 0x04 m else if m < 128 then .item 0x05 (m - 32) else .item 0x06 (m - 128)

/-- The item of network channel number j (R445). -/
def netSpec (j : Nat) : OwnSpec := if j < 10 then .item 0x0E j else .item 0x0F (j - 10)

/-- To whom instance i of a register belongs, by the ownership sentences of each block's chapter (R56, R192, R229, R277,
R305, R324, R353, R393, R415, R445, R503, R527, R585, R652). -/
def State.ownSpec (s : State) (r : Reg) (i : Nat) : OwnSpec :=
  match r with
  | .TIM_TPOCTL | .TIM_TPOSTAT | .TIM_TPOWID | .TIM_TPOCOUNT | .TIM_TPOPER | .TIM_TPOSTART | .TIM_TPOLEDGE => .item 0x07 i
  | .TIM_TCICTL | .TIM_TCICAP | .TIM_TCICNT => .item 0x08 i
  | .ESW_STREAM => .item 0x10 i
  | .ESW_FPTXBASE | .ESW_FPTXSIZE | .ESW_FPTXTAIL | .ESW_FPTXHEAD | .ESW_FPRXBASE | .ESW_FPRXSIZE | .ESW_FPRXTAIL
  | .ESW_FPRXHEAD | .ESW_FPLATE => .part i
  | .SCH_TCTL | .SCH_TSWAP | .SCH_TCNT0 | .SCH_TCNT1 | .SCH_ENTRY => .item 0x09 i
  | .SCH_RULE => .item 0x0A i
  | .SCH_EDGE => targetSpec i
  | .PSW_CMD | .PSW_CFG | .PSW_PROT | .PSW_DIAG | .PSW_CNT | .PSW_STR => targetSpec i
  | .PSW_MEMBER | .PSW_GCTL => .item 0x0B (96 + i)
  | .VLV_MEMBER | .VLV_GCTL => .item 0x0B (128 + i)
  | .LGT_MEMBER | .LGT_SYNC => .item 0x0B (160 + i)
  | .PSW_AMEMBER | .PSW_AGCTL | .VLV_AMEMBER | .VLV_AGCTL | .LGT_AMEMBER | .LGT_ASYNC => .nobody
  | .PSW_PLAN => .part i
  | .VLV_CMD | .VLV_PROF | .VLV_TIME | .VLV_CFG | .VLV_PRCFG | .VLV_PROT | .VLV_DIAG | .VLV_CNT | .VLV_MOVE => .item 0x03 i
  | .LGT_CMD | .LGT_STATE | .LGT_DEF | .LGT_DIM => ledBitSpec i
  | .LGT_SPROT | .LGT_SCFG | .LGT_SDIAG | .LGT_SCNT | .LGT_NT => .item 0x04 i
  | .LGT_MXDIAG => .item 0x05 i
  | .LGT_APROT | .LGT_AMDIAG => .item 0x06 i
  | .LGT_STNCTL | .LGT_STNSTAT | .LGT_STNAT => .item 0x0B (160 + i)
  | .NWK_TRC | .NWK_SWCFG | .NWK_FW | .NWK_CNT | .NWK_SET | .NWK_WKFR => netSpec i
  | .GWY_CPL | .GWY_CCNT => .item 0x0C i
  | .GWY_GRP => .item 0x0C (s.get F.GWY_GRP_CPLREQ i)
  | .GWY_RBASE | .GWY_RSIZE | .GWY_RHEAD | .GWY_RTAIL | .GWY_RDROP | .GWY_RQ => .part i
  | .ACC_FNREQ | .ACC_FNSTAT => .item 0x11 i
  | .PMU_PARKACK => .part i
  | .SYS_OWNDROP | .SYS_OWNLAST | .SYS_PCTL | .SYS_TEST => .part i
  | .UPD_HEALTH => .part i
  | .UPD_WSCTL | .UPD_WSIN | .UPD_WSOUT => .item 0x12 14
  | r =>
    match r.block with
    | 7 => .item 0x0E i
    | 8 => .item 0x0F i
    | 11 => .item 0x0D i
    | k => .item 0x12 k

/-- The partition that the ownership table names for an item. -/
def ownerIn : List OwnEntry → Nat → Nat → Option Nat
  | [], _, _ => none
  | e :: es, c, x => if e.cls = c ∧ e.first ≤ x ∧ x ≤ e.last then some e.owner else ownerIn es c x

/-- The partition to which something belongs. -/
def State.ownerOf (s : State) : OwnSpec → Option Nat
  | .item c x => ownerIn s.cfg.owners c x
  | .part n => some n
  | .nobody => none

/-- The owner of the control registers of block k. -/
def State.blockOwner (s : State) (k : Nat) : Option Nat := s.ownerOf (.item 0x12 k)

/-- Whether an initiator's identity owns a register (R27, R49): a partition that the table names. -/
def State.ownsSpec (s : State) (init : Init) (sp : OwnSpec) : Bool :=
  match init with
  | .part n => s.ownerOf sp == some n
  | _ => false

/-- Whether the device is parked: PARK or DEEP PARK. -/
def State.parked (s : State) : Bool := s.get F.PMU_STATE_STATE == 3 || s.get F.PMU_STATE_STATE == 4

/-- Whether a parked polling burst is under way, which powers PD-ACC from the AON regulator (R38, R41, R517). -/
def State.bursting (s : State) : Bool := s.parked && decide (s.now < s.acc.burstTill)

/-- Whether a configuration image is being applied, or the dust sheet restored: steps 7 to 10 of R130, and the records of a restart (R135). -/
def State.applying (s : State) : Bool := (decide (7 ≤ s.boot.step) && decide (s.boot.step ≤ 10)) || !s.boot.jobs.isEmpty

/-- Whether an item has passed from its owner to the AON core: the access functions from the commit point until the wake is replayed (R53,
R531). -/
def State.passed (s : State) (sp : OwnSpec) : Bool :=
  match sp with
  | .item c _ => c == 0x11 && s.pmu.handed
  | _ => false

/-- Whether an initiator may write a register: its owner; the boot loader and the Siari engine while they apply an image or restore the
dust sheet (R48); the AON core for the registers R682 names. -/
def State.mayWrite (s : State) (init : Init) (r : Reg) (i : Nat) : Bool :=
  match init with
  | .part _ => s.ownsSpec init (s.ownSpec r i) && !s.passed (s.ownSpec r i)
  | .boot | .siari => s.applying && decide (r ≠ .PSW_PLAN) && decide (r ≠ .PMU_PARKACK)
  | .aon => (r.block == 13 && decide (r ≠ .PMU_PARKACK)) || (r.block == 12 && s.pmu.handed)
  | .switch => false

/-- Drops a write under R47 or R48. -/
def State.ownDrop (s : State) (init : Init) (r : Reg) (i a : Nat) : State :=
  match init with
  | .part n =>
    ((s.bump F.SYS_OWNDROP_DROPS n).put F.SYS_OWNLAST_ADDR (a / 4) n).put F.SYS_OWNLAST_CAUSE
      (if (s.ownerOf (s.ownSpec r i)).isSome then 0 else 1) n
  | _ => s.accErr r.block


/-! ### Event queues (R617 to R622, R683) -/

/-- The queue of partition n (4: the AON core). -/
def State.queue (s : State) (n : Nat) : EvQueue := Sparse.at s.ev.queues n EvQueue.empty

def State.setQueue (s : State) (n : Nat) (q : EvQueue) : State :=
  { s with ev := { s.ev with queues := Sparse.set s.ev.queues n q } }

/-- Entries a queue holds at most (R617). -/
def queueCap (n : Nat) : Nat := if n < 4 then 1024 else 64

/-- Places an entry in a queue, or counts it as lost (R621). -/
def State.enqueue (s : State) (n : Nat) (e : Event) : State :=
  let q := s.queue n
  let s := { s with ev := { s.ev with placed := s.ev.placed || decide (n < 4) } }
  if q.entries.length < queueCap n then
    s.setQueue n { q with entries := q.entries ++ [{ e with ovf := e.ovf || q.ovfNext }], ovfNext := false }
  else
    (s.setQueue n { q with lost := min 0xFFFF (q.lost + 1), ovfNext := true }).cum 27

/-- The stamp of an entry placed now in queue n (R618). -/
def State.evStamp (s : State) (n : Nat) : Nat := if n < 4 then s.nsec else s.coarse % 2 ^ 32

/-- Places an event in queue n. -/
def State.event (s : State) (n block code item : Nat) (arg0 : Nat := 0) (arg1 : Nat := 0) (replay : Bool := false) :
    State :=
  s.enqueue n ⟨block, code, item, arg0 % 2 ^ 32, arg1 % 2 ^ 32, s.evStamp n, replay, false⟩

/-- Places an event in the queue of the owner of something, where it has one. -/
def State.eventTo (s : State) (sp : OwnSpec) (block code item : Nat) (arg0 : Nat := 0) (arg1 : Nat := 0) : State :=
  match s.ownerOf sp with
  | some n => s.event n block code item arg0 arg1
  | none => s

/-- Places an event in the queue of every partition named. -/
def State.eventAll (s : State) (ns : List Nat) (block code item : Nat) (arg0 : Nat := 0) (arg1 : Nat := 0) : State :=
  ns.foldl (fun t n => t.event n block code item arg0 arg1) s

/-- The events held for partition n. -/
def State.heldQ (s : State) (n : Nat) : HeldQueue := Sparse.at s.ev.held n HeldQueue.empty

/-- Places an event in partition n's queue at its start (R683): at once when it runs, else held. -/
def State.eventAtStart (s : State) (n block code item : Nat) (arg0 : Nat := 0) (arg1 : Nat := 0)
    (replay : Bool := false) : State :=
  if s.running n then s.event n block code item arg0 arg1 replay
  else
    let h := s.heldQ n
    let h' := if h.entries.length < 64 then
        { h with entries := h.entries ++ [⟨block, code, item, arg0 % 2 ^ 32, arg1 % 2 ^ 32, 0, replay, false⟩] }
      else { h with dropped := h.dropped + 1 }
    { s with ev := { s.ev with held := Sparse.set s.ev.held n h' } }

/-- Places the held events of partition n when it starts, ahead of every other event (R683). -/
def State.releaseHeld (s : State) (n : Nat) : State :=
  let h := s.heldQ n
  let q := s.queue n
  let es := h.entries.map (fun e => { e with stamp := s.nsec })
  let rest := match q.entries with
    | [] => []
    | e :: r => { e with ovf := e.ovf || h.dropped != 0 } :: r
  let q' : EvQueue :=
    { entries := es ++ rest
      lost := min 0xFFFF (q.lost + h.dropped)
      ovfNext := q.ovfNext || (h.dropped != 0 && q.entries.isEmpty) }
  (({ s with ev := { s.ev with held := Sparse.erase s.ev.held n } }).setQueue n q').cumBy 27 h.dropped

/-- Empties partition n's queue (R617). -/
def State.emptyQueue (s : State) (n : Nat) : State :=
  { s with ev := { s.ev with queues := Sparse.erase s.ev.queues n } }

/-! ### Event log (R637 to R640) -/

/-- The 32 bytes of a log entry, words 0 to 6 and the CRC of code 3 (R640). -/
def LogEntry.words (e : LogEntry) : List Word :=
  let w : List Word := [BitVec.ofNat 32 (e.seq.getD 0),
    BitVec.ofNat 32 (e.typ * 2 ^ 24 + e.block * 2 ^ 19 + (if e.coarse then 2 ^ 18 else 0) + e.item % 65536)] ++
    t0Words e.stamp ++ [BitVec.ofNat 32 e.arg0, BitVec.ofNat 32 e.arg1]
  w ++ [BitVec.ofNat 32 (crcCode 3 (w.flatMap (fun x => bytes4 x.toNat)))]

/-- Writes words into memory from an address on. -/
def State.wrWords (s : State) (a : Nat) : List Word → State
  | [] => s
  | w :: ws => (s.wr32 a w).wrWords (a + 4) ws

/-- The ring position of the k-th entry made (R637). -/
def logSlot (k : Nat) : Nat := 0x107F0000 + 32 * (k % 2048)

/-- Appends an entry to the ring with the SEQ it takes, or counts it lost when the ring is full (R638, R639). -/
def State.logPush (s : State) (e0 : LogEntry) : State :=
  if s.log.pend.length < 2048 then
    let e : LogEntry := { e0 with seq := if s.log.headFound then some (s.log.nextSeq % 2 ^ 32) else none }
    let pend := s.log.pend ++ [e]
    let s1 := { s with log :=
      { s.log with
        pend := pend
        made := s.log.made + 1
        nextSeq := if s.log.headFound then s.log.nextSeq + 1 else s.log.nextSeq
        flushing := if s.log.flushing = 0 ∧ 256 ≤ pend.length then pend.length else s.log.flushing } }
    let s2 := s1.put F.ERR_LOGSEQ_SEQ (if s1.log.headFound then s1.log.nextSeq else 0)
    s2.wrWords (logSlot s.log.made) e.words
  else s.cum 26

/-- Puts an entry into the ring; the first after a loss is preceded by the entry that reports it (R639). -/
def State.logPut (s : State) (e : LogEntry) : State :=
  match s.log.lostNote with
  | none => s.logPush e
  | some n => (({ s with log := { s.log with lostNote := none } }).logPush { e with typ := 19, block := 15, item := 0xFFFF, arg0 := n, arg1 := 0 }).logPush e

/-- Writes an event log entry (R637); while PD-FAB is off it waits in CI-AON. -/
def State.logEntry (s : State) (typ block item arg0 : Nat) (arg1 : Nat := 0) : State :=
  let e : LogEntry := ⟨none, typ, block, !s.domOn domTIM, item % 65536, s.now, arg0 % 2 ^ 32, arg1 % 2 ^ 32⟩
  if s.domOn domFAB then s.logPut e else { s with log := { s.log with wait := s.log.wait ++ [e] } }

/-- Puts the entries that waited in CI-AON into the ring. -/
def State.logDrain (s : State) : State :=
  s.log.wait.foldl (fun t e => t.logPut e) { s with log := { s.log with wait := [] } }

/-! ### Words of RAM (R134, R629, R630) -/

/-- Whether an address lies in the retention RAM. -/
def inRetention (a : Nat) : Bool := decide (0x0C000000 ≤ a) && decide (a < 0x0C040000)

/-- The block that counts the errors of a memory word (R630, R635). -/
def ramBlock (a : Nat) : Nat := if inRetention a then 13 else 15

/-- Counts a word of block `k` that was read with `bits` bit errors (R629); 3 stands for three or more, or a wrong address parity. -/
def State.eccBlock (s : State) (k bits : Nat) : State :=
  if bits = 0 then s
  else if bits = 1 then (s.bump F.ERR_BLK1_CORR1 k).cum 0
  else if bits = 2 then (s.bump F.ERR_BLK1_CORR2 k).cum 1
  else (s.bump F.ERR_BLK2_UNCORR k).cum 2

/-- Counts a memory word that was read with `bits` bit errors. -/
def State.eccCount (s : State) (a bits : Nat) : State := s.eccBlock (ramBlock a) bits

/-- Whether an address lies in a bank of shared SRAM that is out of service. -/
def State.lostBank (s : State) (a : Nat) : Bool :=
  decide (0x10000000 ≤ a) && decide (a < 0x10800000) && bit (s.get F.SYS_SRAMREP_LOST) ((a - 0x10000000) / 0x80000)

/-- Whether the 64-bit word with an address reads as uncorrectable. -/
def State.wordBad (s : State) (a : Nat) : Bool := s.cpu.bad.contains (a / 8 * 8) || s.lostBank a

/-- Whether any 64-bit word of a range of n bytes does; the first address that does. -/
def State.badIn (s : State) (a n : Nat) : Option Nat :=
  ((List.range ((a % 8 + n + 7) / 8)).map (fun k => max a (a / 8 * 8 + 8 * k))).find? (fun x => s.wordBad x)

/-- The RAM code of a type 1 log entry: the row of R630's table, from 1; the row of the retention RAM or of a lost bank, where the word lies in
one, else the one given. -/
def State.ramCode (s : State) (row a : Nat) : Nat := if inRetention a then 14 else if s.lostBank a then 5 else row

/-- Counts and logs a word that its consumer, a row of R630's table, finds uncorrectable. -/
def State.badSeen (s : State) (row a : Nat) : State := (s.eccCount a 3).logEntry 1 (ramBlock a) 0xFFFF a (s.ramCode row a)

/-- Counts and logs an uncorrectable word of a RAM behind registers, which the read of a command finds (R630): its block, its row of R630's
table and the address of its register. -/
def State.ramLost (s : State) (k row a : Nat) : State := (s.eccBlock k 3).logEntry 1 k 0xFFFF a row

/-- Lists a 64-bit word as uncorrectable, so that its consumer is told at its own read. -/
def State.markBad (s : State) (a : Nat) : State :=
  let w := a / 8 * 8
  if w ∈ s.cpu.bad then s else { s with cpu := { s.cpu with bad := s.cpu.bad ++ [w] } }

/-- Takes words off the list of those that read as uncorrectable: they are written afresh. -/
def State.madeGood (s : State) (a n : Nat) : State :=
  { s with cpu := { s.cpu with bad := s.cpu.bad.filter (fun w => !(decide (a < w + 8) && decide (w < a + n))) } }

/-- Takes the words that a write of n bytes replaces whole off the list. -/
def State.madeWhole (s : State) (a n : Nat) : State :=
  { s with cpu := { s.cpu with bad := s.cpu.bad.filter (fun w => !(decide (a ≤ w) && decide (w + 8 ≤ a + n))) } }

/-- Whether any byte of a range lies in a bank of shared SRAM that is out of service. -/
def State.lostIn (s : State) (a n : Nat) : Bool := s.lostBank a || s.lostBank (a + (n - 1))

/-! ### Writes and the domains they go to (R37, R47, R48, R60, R492) -/

/-- Whether an access is the AON core's over its own link to PD-ACC during a parked polling burst (R41). -/
def State.aonAccess (s : State) (init : Init) (k : Nat) : Bool := decide (init = .aon) && k == 12 && s.bursting

/-- Whether an initiator reaches block k at all: over the fabric, or, while PD-FAB is off, the AON core the block of AON and PD-ACC (R60). -/
def State.reachable (s : State) (init : Init) (k : Nat) : Bool :=
  s.domOn domFAB || (decide (init = .aon) && (k == 13 || k == 12))

/-- A posted write into an island whose domain is off (R492). -/
def State.offWrite (s : State) (init : Init) (a : Nat) : State :=
  let s1 := ((s.bump F.ERR_BLK2_DOMOFF 15).cum 20).logEntry 3 15 0xFFFF a (initCode init)
  match init with
  | .part n => s1.event n 15 5 0xFFFF a 6
  | _ => s1

/-- Carries out a write at an address of block k, if the initiator reaches the block and the block is on (R37, R60). -/
def State.reaching (s : State) (init : Init) (k a : Nat) (act : State → State) : State :=
  if !s.reachable init k && k != 17 then s
  else if !s.blockOn k ∧ !s.aonAccess init k then s.offWrite init a
  else act s

/-- Carries out a write at an address on a register's item, if its block is reached and on, under the ownership rule; else drops it. -/
def State.ownedAt (s : State) (init : Init) (r : Reg) (i a : Nat) (act : State → State) : State :=
  s.reaching init r.block a (fun t => if t.mayWrite init r i then act t else t.ownDrop init r i a)

/-- Carries out a write of a register under the ownership rule. -/
def State.owned (s : State) (init : Init) (r : Reg) (i j w : Nat) (act : State → State) : State := s.ownedAt init r i (r.addr i j w) act

/-! ### Delivered data (R26) -/

/-- Whether any initiator holds a snapshot of a register. -/
def State.locked (s : State) (r : Reg) (i j : Nat) : Bool :=
  s.bus.snaps.any (fun x => x.reg = r && x.i = i && x.j = j)

/-- Whether the pending slot of a register is full. -/
def State.slotFull (s : State) (r : Reg) (i j : Nat) : Bool :=
  s.bus.slots.any (fun x => x.reg = r && x.i = i && x.j = j)

/-- Puts data into a register, or into its pending slot while a lock is held; newer data replaces pending data. -/
def State.deliver (s : State) (r : Reg) (i j : Nat) (ws : List Word) : State :=
  if s.locked r i j then
    let rest := s.bus.slots.filter (fun x => !(x.reg = r && x.i = i && x.j = j))
    { s with bus := { s.bus with slots := rest ++ [⟨r, i, j, ws⟩] } }
  else s.setWords r i j ws

end Sys2Proof.Machine
end

