-- ==== Sys2Proof/Machine/Targets.lean ====
section
/-! DEFINITION. The targets of the schedule plane (R230) and their drivers: output and underlying states, the reasons that
hold a target, edge stamps (R233), and how each kind of target is driven: power channels and bridge pairs (R281 to R286),
valve outputs (R325 to R332), LED channels (R354 to R363) and time pulse outputs (R179). -/

set_option Elab.async false

namespace Sys2Proof.Machine

/-! ### Kinds of target by target index x; 384 + n stands for TPOn (R684) -/

def isPower (x : Nat) : Bool := decide (x < 60) || (decide (64 ≤ x) && decide (x < 72))
def isValve (x : Nat) : Bool := decide (80 ≤ x) && decide (x < 104)
def isLed (x : Nat) : Bool :=
  (decide (128 ≤ x) && decide (x < 144)) || (decide (160 ≤ x) && decide (x < 292))
def isTpo (x : Nat) : Bool := decide (384 ≤ x) && decide (x < 400)
def isTarget (x : Nat) : Bool := isPower x || isValve x || isLed x || isTpo x

/-- The grid of a target in T0 units (R230): 100 ns, 10 ns, or 62.5 ps for a TPO. -/
def gridOf (x : Nat) : Nat := if x < 104 then 1600 else if x < 292 then 160 else 1

/-- The first grid slot after an instant (R232). -/
def slotAfter (grid t : Nat) : Nat := (t / grid + 1) * grid

/-- The first grid slot at or after an instant (R231). -/
def slotAt (grid t : Nat) : Nat := (t + grid - 1) / grid * grid

/-- The target index of an item of classes 0x01 to 0x07 (R125, R230). -/
def targetOf (cls idx : Nat) : Option Nat :=
  match cls with
  | 1 => if idx < 60 then some idx else none
  | 2 => if idx < 8 then some (64 + idx) else none
  | 3 => if idx < 24 then some (80 + idx) else none
  | 4 => if idx < 16 then some (128 + idx) else none
  | 5 => if idx < 96 then some (160 + idx) else none
  | 6 => if idx < 36 then some (256 + idx) else none
  | 7 => if idx < 16 then some (384 + idx) else none
  | _ => none

/-- Every target that has a target index, in order. -/
def allChannels : List Nat :=
  List.range 60 ++ (List.range 8).map (· + 64) ++ (List.range 24).map (· + 80) ++ (List.range 16).map (· + 128) ++
    (List.range 96).map (· + 160) ++ (List.range 36).map (· + 256)

/-- Every target. -/
def allTargets : List Nat := allChannels ++ (List.range 16).map (· + 384)

/-- The power channels (R230). -/
def powerChannels : List Nat :=
  List.range 60 ++ (List.range 8).map (· + 64) ++ (List.range 24).map (· + 80)

/-- The LED targets. -/
def ledTargets : List Nat :=
  (List.range 16).map (· + 128) ++ (List.range 96).map (· + 160) ++ (List.range 36).map (· + 256)

/-! ### Reasons that hold a target off with the precedence of protection: bits of `Chan.prot` -/

/-- Its own protective switch-off, latch included (R289, R379, R380). -/
def pOff : Nat := 0
/-- The cut rule (R294). -/
def pCut : Nat := 1
/-- A protective switch-off of its bank high-side (R336). -/
def pBank : Nat := 2
/-- Thermal shutdown of the LED die (R379). -/
def pThermal : Nat := 3
/-- Supply stop of the strings (R357). -/
def pSupply : Nat := 4
/-- Segment bypass (R365). -/
def pBypass : Nat := 5
/-- A neighbour test of its string in progress (R386). -/
def pTest : Nat := 6

/-! ### State of a target -/

def State.chan (s : State) (x : Nat) : Chan := Sparse.at s.sch.chans x Chan.idle
def State.setChan (s : State) (x : Nat) (c : Chan) : State :=
  { s with sch := { s.sch with chans := Sparse.set s.sch.chans x c } }

/-- Underlying state: 0 off, 1 on, 2 low side or reverse (R235). -/
def State.und (s : State) (x : Nat) : Nat :=
  if x < 72 then s.get F.PSW_CMD_UND x
  else if x < 104 then s.get F.VLV_CMD_UND (x - 80)
  else if x < 292 then s.get F.LGT_STATE_UND (x - 128)
  else (s.chan x).und

def State.setUnd (s : State) (x v : Nat) : State :=
  if x < 72 then s.put F.PSW_CMD_UND v x
  else if x < 104 then s.put F.VLV_CMD_UND v (x - 80)
  else if x < 292 then s.put F.LGT_STATE_UND v (x - 128)
  else s.setChan x { s.chan x with und := v }

/-- Output state, coded as the underlying state; a TPO's ACTIVE. -/
def State.out (s : State) (x : Nat) : Nat :=
  if x < 72 then s.get F.PSW_CMD_OUT x
  else if x < 104 then s.get F.VLV_CMD_OUT (x - 80)
  else if x < 292 then s.get F.LGT_STATE_OUT (x - 128)
  else s.get F.TIM_TPOSTAT_ACTIVE (x - 384)

def State.putOut (s : State) (x v : Nat) : State :=
  if x < 72 then s.put F.PSW_CMD_OUT v x
  else if x < 104 then s.put F.VLV_CMD_OUT v (x - 80)
  else if x < 292 then s.put F.LGT_STATE_OUT v (x - 128)
  else s.put F.TIM_TPOSTAT_ACTIVE v (x - 384)

/-- The default state of a target (R237); a TPO's is its inactive level. -/
def State.defState (s : State) (x : Nat) : Nat :=
  if x < 60 then (if s.get F.PSW_CFG_DEF x = 1 then 1 else 0)
  else if x < 72 then (if s.get F.PSW_CFG_DEF x = 3 then 0 else s.get F.PSW_CFG_DEF x)
  else if x < 104 then (if s.get F.VLV_CFG_DEF (x - 80) = 1 then 1 else 0)
  else if x < 292 then (if s.get F.LGT_DEF_DEF (x - 128) = 1 then 1 else 0)
  else 0

/-- Whether a bridge pair k is in pair mode (R282). -/
def State.paired (s : State) (k : Nat) : Bool := s.on F.PSW_BPAIR_PAIR k

/-- Whether target x is a half-bridge of a pair in pair mode. -/
def State.inPair (s : State) (x : Nat) : Bool := decide (64 ≤ x) && decide (x < 72) && s.paired ((x - 64) / 2)

/-- Whether target x is the odd member of a pair in pair mode, which accepts no action (R284). -/
def State.oddMember (s : State) (x : Nat) : Bool := s.inPair x && x % 2 == 1

/-- The site that keeps the protection state of a switch: the even member for a pair (R286). -/
def State.site (s : State) (p : Nat) : Nat := if p < 72 ∧ s.oddMember p then p - 1 else p

/-- Whether term KIND k is momentary (R269). -/
def momentary (k : Nat) : Bool := k == 4 || k == 7

/-- COMB of a rule word 0: 1 A and B, 2 A or B, else A. -/
def combOf (w0 : Word) : Nat := if bitsOf w0 28 27 = 3 then 0 else bitsOf w0 28 27

/-- Whether a term is true (R269): a momentary one for one grid slot after its event, unless `quiet` leaves such events out. -/
def State.term (s : State) (w : Word) (quiet : Bool := false) : Bool :=
  let i := bitsOf w 15 0
  let k := bitsOf w 31 28
  let raw := match k with
    | 1 => s.on F.FIN_STATE_RAW i
    | 2 => s.on F.FIN_STATE_STATE i
    | 3 => s.on F.PMU_CMP_TRIP i
    | 4 | 7 => (match Sparse.get s.sch.moments (k * 65536 + i) with
        | some t => !quiet && decide (s.now < t + 1600)
        | none => false)
    | 5 => s.out i != 0
    | 6 => (s.chan (s.site i)).prot != 0
    | _ => false
  raw != (bitsOf w 27 27 == 1)

/-- Whether the condition of rule r is true. -/
def State.ruleCond (s : State) (r : Nat) (quiet : Bool := false) : Bool :=
  let a := s.term (s.word .SCH_RULE r 0 3) quiet
  let b := s.term (s.word .SCH_RULE r 0 4) quiet
  match combOf (s.word .SCH_RULE r 0 0) with
  | 1 => a && b
  | 2 => a || b
  | _ => a

/-- Forgets of the rules that fired those whose condition has turned false, so that it can turn true again (R270). Whatever a term that is not
momentary reads passes through here when it changes. -/
def State.termsSeen (s : State) : State :=
  if s.sch.truth = [] then s
  else { s with sch := { s.sch with truth := s.sch.truth.filter (fun p => s.ruleCond p.1 true || decide (s.now < p.2 + 1600)) } }

/-- Sets the output state of a target. -/
def State.setOut (s : State) (x v : Nat) : State := (s.putOut x v).termsSeen

/-- The dead time of a half-bridge in T0 units; values below 2 are taken as 2 (R281). -/
def State.deadTime (s : State) (x : Nat) : Nat := max 2 (s.get F.PSW_BPAIR_DT ((x - 64) / 2)) * 1600

/-- Whether the towline holds a target: every HS, BH, VB, LS, MX and AM output (R312). -/
def State.towHolds (s : State) (x : Nat) : Bool := s.on F.PSW_WDSTAT_TOWACT && decide (x < 292)

/-- Whether a target is held by protection off, the towline, a reflex or a hold window (the HELD fields). -/
def State.held (s : State) (x : Nat) : Bool :=
  let c := s.chan x
  setBit c.prot pTest false != 0 || s.towHolds x || !c.claims.isEmpty || c.window.isSome

/-- Writes a target's HELD field, and an LED channel's PSTATE, as its holds stand. -/
def State.putHeld (s : State) (x : Nat) : State :=
  let h := if s.held x then 1 else 0
  if x < 72 then s.put F.PSW_CMD_HELD h x
  else if x < 104 then s.put F.VLV_CMD_HELD h (x - 80)
  else if x < 292 then
    let p := (s.chan x).prot
    let st := if bit p pOff then 1 else if bit p pThermal then 2 else if bit p pSupply then 3 else if bit p pBypass then 4
      else if bit p pTest then 5 else 0
    (s.put F.LGT_STATE_HELD h (x - 128)).put F.LGT_STATE_PSTATE st (x - 128)
  else s

/-- The output that the towline gives a target: a mapped channel follows its filtered pin, every other is off (R311,
R313, R316). -/
def State.towOut (s : State) (x : Nat) : Nat :=
  match s.psw.tow.find? (fun e => e.x == x) with
  | some e => if (bit (s.get F.PSW_TOWSTAT_PINS) e.pin) != e.inv then (if e.low then 2 else 1) else 0
  | none => 0

/-- Whether a channel is park-held (R542). -/
def State.parkHeld (s : State) (x : Nat) : Bool := bit (s.word .PMU_PARKHELD (x / 32) 0 0).toNat (x % 32)

/-- Whether the commit point has switched a channel off until configuration applied (R531, R544): it is not park-held, or DEEP PARK has
been entered (R545). -/
def State.parkOff (s : State) (x : Nat) : Bool :=
  s.pmu.handed && decide (x < 104) && (!s.parkHeld x || s.get F.PMU_STATE_STATE == 4 || s.pmu.waking == some 4)

/-- Whether the stop state of the pair with even member x is brake (R285); a pair that parking has switched off coasts (R531). -/
def State.stopBrakes (s : State) (x : Nat) : Bool := s.on F.PSW_BPAIR_STOP ((x - 64) / 2) && !s.parkOff x

/-- Whether a park-held channel keeps its output state through the bring-up of a wake from PARK (R544). -/
def State.parkKeeps (s : State) (x : Nat) : Bool :=
  s.pmu.handed && s.pmu.waking == some 3 && decide (x < 104) && s.parkHeld x

/-- The state a target is to take from its sources in the order of R234: protection off, towline, the lowest-numbered
reflex claim, then, outside a hold window, its underlying state, or its default state if nothing has set it since
configuration applied (R235). A channel that parking has switched off stays off (R88, R531); none while a hold window or the bring-up of a wake
keeps the output as it stands, and for the odd member of a pair in pair mode, which the even member commands (R284). -/
def State.wanted (s : State) (x : Nat) : Option Nat :=
  let c := s.chan x
  if s.oddMember x then none
  else if c.prot ≠ 0 then some 0
  else if s.towHolds x then some (s.towOut x)
  else match c.claims with
    | cl :: _ => some (cl.st.getD (s.out x))
    | [] =>
      if s.parkOff x then some 0
      else if c.window.isSome || s.parkKeeps x then none
      else if c.undSet then some (s.und x) else some (s.defState x)

/-! ### Edge stamps (R233) -/

/-- The newest words of a register: those of its pending slot, else its own. -/
def State.latest (s : State) (r : Reg) (i j : Nat) : List Word :=
  match s.bus.slots.find? (fun x => x.reg = r && x.i = i && x.j = j) with
  | some x => x.words
  | none => s.words r i j

/-- SEQ of the newest edge stamp of target x. -/
def State.edgeSeq (s : State) (x : Nat) : Nat := bitsOf ((s.latest .SCH_EDGE x 0).getD 3 0) 31 16

/-- The largest reflex latency of R272 on an LED target in T0 units: 2.0 µs where a used term of the rule is of KIND 3, 4 or 7, else 1.5 µs. -/
def State.reflexLimit (s : State) (r : Nat) : Nat :=
  let slow (w : Nat) : Bool := [3, 4, 7].contains (bitsOf (s.word .SCH_RULE r 0 w) 31 28)
  let c := combOf (s.word .SCH_RULE r 0 0)
  if slow 3 || ((c == 1 || c == 2) && slow 4) then 32000 else 24000

/-- The instant of the 10 % point: within the limits of R275 about the planned instant for an action dispatched with the
lead, after the gate delay otherwise, for a reflex on an LED target within the latency of R272 from now; a free value within those limits (DESIGN
CHOICE, log entry 6). -/
def State.edgeInstant (s : State) (x plan : Nat) (lead : Bool) (rule : Option Nat := none) : Nat :=
  if x < 104 then (if lead then plan - 4000 + s.fresh % 8001 else plan + s.fresh % 12001)
  else if lead then plan - 160 + s.fresh % 321
  else match rule with
    | some r => plan + s.fresh % (s.now + s.reflexLimit r - plan + 1)
    | none => plan + s.fresh

/-- The slot at which an action takes effect: its planned instant, or the present slot where it was moved (R267). -/
def State.effective (s : State) (x plan : Nat) : Nat := max plan (slotAt (gridOf x) s.now)

/-- Stamps a change of output state into SCH_EDGEx: PLAN keeps the planned instant and is zero for sources 1, 2 and 3; the
stamp lies about the slot of effect, shifted by a dead time where the block chapter gives one. -/
def State.stampEdge (s : State) (x : Nat) (rise : Bool) (src plan defer : Nat) (lead : Bool) (shift : Int := 0) (rule : Option Nat := none) :
    State :=
  let seq := (s.edgeSeq x + 1) % 65536
  let w3 := seq * 65536 + src * 4096 + (if rise then 256 else 0) + defer % 256
  let ws := t0Words (Int.ofNat (s.edgeInstant x (s.effective x plan) lead rule) + shift).toNat ++ [BitVec.ofNat 32 w3] ++
    (if src ≤ 3 then [0, 0, 0] else t0Words plan) ++ [0]
  (s.deliver .SCH_EDGE x 0 ws).tookFresh

/-- Raises the "edge" event of an action with NOTIFY 1, at each edge that is stamped (R274, R684). -/
def State.notifyEdge (s : State) (x : Nat) (a : Act) : State :=
  if a.notify then
    s.eventTo (.item 0x09 a.table) 2 1 x (if x < 384 then s.edgeSeq x else s.get F.TIM_TPOSTAT_MADE (x - 384)) a.table
  else s

/-- An edge that an action makes: its stamp, and its event. -/
def State.edge (s : State) (x : Nat) (rise : Bool) (a : Act) (shift : Int := 0) : State :=
  (s.stampEdge x rise a.src a.plan a.steps a.lead shift (if a.src = 3 then some a.table else none)).notifyEdge x a

/-! ### Power channels and pairs -/

def State.prot (s : State) (p : Nat) : ProtSt := Sparse.at s.psw.prots p ProtSt.cool
def State.setProt (s : State) (p : Nat) (v : ProtSt) : State :=
  { s with psw := { s.psw with prots := Sparse.set s.psw.prots p v } }

/-- The edges of one switch going from one state to another. A change of side passes through off: the dead time lies before
the planned instant for an action with the lead, after it otherwise (R281). -/
def State.switchEdges (s : State) (x old new : Nat) (a : Act) : State :=
  if old = new then s
  else if old ≠ 0 ∧ new ≠ 0 then
    let dt := s.deadTime x
    (s.edge x false a (if a.lead then -Int.ofNat dt else 0)).edge x true a (if a.lead then 0 else Int.ofNat dt)
  else s.edge x (new != 0) a

/-- Lets the odd member of a pair show what the even member's PSW_PROT holds (R286). -/
def State.mirrorPair (s : State) (p : Nat) : State :=
  if s.inPair p then s.setWord .PSW_PROT (p + 1) 0 0 (s.word .PSW_PROT p 0 0) else s

/-- Protection STATE after a turn-on or turn-off outside a protective hold (R291): OFF or CUT to ON, ON or LIMIT to OFF. -/
def followState (st : Nat) (on : Bool) : Nat :=
  if on then (if st = 0 ∨ st = 6 then 1 else st) else if st = 1 ∨ st = 2 then 0 else st

/-- Protection STATE of a power channel that conducts or does not; the low sides of a pair in brake conduct, so that a cause in them leads to
coast (R286, DEDUCED, log entry 159). -/
def State.protFollow (s : State) (x new : Nat) : State :=
  let s1 := (s.put F.PSW_PROT_STATE (followState (s.get F.PSW_PROT_STATE x) (new != 0)) x).mirrorPair x
  if new = 0 then s1.setProt x { s1.prot x with limitFrom := none } else s1

/-- Protection STATE of a valve output and of its bank high-side, which conducts while an output of the bank is in peak or
hold. -/
def State.valveFollow (s : State) (i : Nat) : State :=
  let active (n : Nat) : Bool := (s.get F.VLV_CMD_PHASE n == 2 || s.get F.VLV_CMD_PHASE n == 3 || s.get F.VLV_CMD_PHASE n == 4)
  let b := i / 6
  (s.put F.VLV_PROT_STATE (followState (s.get F.VLV_PROT_STATE i) (active i)) i).put F.VLV_BPROT_STATE
    (followState (s.get F.VLV_BPROT_STATE b) ((List.range 6).any (fun n => active (6 * b + n)))) b

/-- State of the switch of a pair's member: even or odd, for a pair state and brake (R284, R285). -/
def memberState (odd : Bool) (st : Nat) (brake : Bool) : Nat :=
  if st = 0 then (if brake then 2 else 0) else if odd then (if st = 1 then 2 else 1) else st

/-- Drives a bridge pair through its even member x to forward (1), reverse (2) or its stop state (0). A protective
switch-off leads to coast (R286). -/
def State.drivePair (s : State) (x st : Nat) (brake : Bool) (a : Act) : State :=
  let c := s.chan x
  let s1 := s.switchEdges x (memberState false (s.out x) c.brake) (memberState false st brake) a
  let s2 := s1.switchEdges (x + 1) (memberState true (s.out x) c.brake) (memberState true st brake) a
  let s3 := (s2.setOut x st).setOut (x + 1) (memberState true st brake)
  let off := if st = 0 ∧ s.out x ≠ 0 then some (s.effective x a.plan) else c.offSince
  let on := if st ≠ 0 then some (s.effective x a.plan) else c.onSince
  let s4 := s3.setChan x { s3.chan x with brake := brake, offSince := off, onSince := on }
  s4.protFollow x (if st = 0 ∧ brake then 1 else st)

/-- Drives an HS or BH channel to a state and stamps its edges. -/
def State.drivePower (s : State) (x st : Nat) (a : Act) : State :=
  if s.inPair x then
    s.drivePair x st (decide (st = 0) && s.stopBrakes x && decide (a.src ≠ 1)) a
  else if s.out x = st then s
  else
    let s1 := (s.switchEdges x (s.out x) st a).setOut x st
    let s2 := if st = 0 then s1.setChan x { s1.chan x with offSince := some (s.effective x a.plan) }
      else s1.setChan x { s1.chan x with onSince := some (s.effective x a.plan) }
    s2.protFollow x st

/-! ### Valve outputs (R325 to R332) -/

def State.vq (s : State) (b : Nat) : List ValveReq := Sparse.at s.vlv.queues b []

/-- Sets a bank's queue; QLEN shows how many requests wait. -/
def State.setVq (s : State) (b : Nat) (q : List ValveReq) : State :=
  { s with vlv := { s.vlv with queues := Sparse.set s.vlv.queues b q } }.put F.VLV_BSTAT_QLEN (min 7 q.length) b

def State.vout (s : State) (i : Nat) : ValveOut := Sparse.at s.vlv.outs i ValveOut.idle
def State.setVout (s : State) (i : Nat) (v : ValveOut) : State :=
  { s with vlv := { s.vlv with outs := Sparse.set s.vlv.outs i v } }

/-- IHOLD of an output's profile in use, in units of 50 mA, held to 4–60. -/
def State.ihold (s : State) (i : Nat) : Nat := clampNat 4 60 (bitsOf (s.vout i).prof 7 0)

/-- Sum of IHOLD of a bank's outputs in hold, in units of 50 mA (R330). -/
def State.holdSum (s : State) (b : Nat) : Nat :=
  ((List.range 6).filter (fun n => s.get F.VLV_CMD_PHASE (6 * b + n) == 4)).foldl (fun t n => t + s.ihold (6 * b + n)) 0

/-- HSUM as the bank's outputs stand, in units of 0.1 A. -/
def State.putHsum (s : State) (b : Nat) : State := s.put F.VLV_BSTAT_HSUM (min 255 (s.holdSum b / 2)) b

/-- Whether a request goes before another: reflex and towline requests first (R329), then by arrival slot, priority and
output (R328). -/
def ValveReq.before (r q : ValveReq) : Bool :=
  if r.ahead != q.ahead then r.ahead
  else if r.slot ≠ q.slot then decide (r.slot < q.slot)
  else if r.act.prio ≠ q.act.prio then decide (q.act.prio < r.act.prio)
  else decide (r.i < q.i)

/-- Inserts a request into a bank's queue. -/
def insertReq (r : ValveReq) : List ValveReq → List ValveReq
  | [] => [r]
  | q :: qs => if r.before q then r :: q :: qs else q :: insertReq r qs

/-- Queues a turn-on of valve output i, unless it already waits or runs its profile (R327, R328). Requests of the towline,
ends of hold and re-applications have no limit of wait (R331). -/
def State.valveOn (s : State) (i : Nat) (a : Act) : State :=
  let b := i / 6
  let ph := s.get F.VLV_CMD_PHASE i
  if (s.vq b).any (fun r => r.i == i) then s
  else if ph = 0 ∨ ph = 5 then
    let r : ValveReq := ⟨i, s.effective (80 + i) a.plan, a, a.src == 3 || a.src == 4 || a.src == 5 || a.src == 6,
      a.src == 2 || a.src == 3, false⟩
    let s1 := s.setVq b (insertReq r (s.vq b))
    if ph = 0 then s1.put F.VLV_CMD_PHASE 1 i else s1
  else s

/-- Takes an output's request out of its bank's queue. -/
def State.valveUnqueue (s : State) (i : Nat) : State :=
  let s1 := s.setVq (i / 6) ((s.vq (i / 6)).filter (fun r => r.i != i))
  if s1.get F.VLV_CMD_PHASE i = 1 then s1.put F.VLV_CMD_PHASE 0 i else s1

/-- Whether output i runs a phase in which its low side is on. -/
def State.valveLive (s : State) (i : Nat) : Bool :=
  let ph := s.get F.VLV_CMD_PHASE i
  ph == 2 || ph == 3 || ph == 4

/-- The outputs of bank b. -/
def bankIdx (b : Nat) : List Nat := (List.range 6).map (fun n => 6 * b + n)

/-- IBANK of bank b: the currents of its outputs in peak regulation and hold; while one is in peak rise its current is not known and the value is
free (DESIGN CHOICE, log entry 160). -/
def State.bankCurrent (s : State) (b : Nat) : State :=
  if (bankIdx b).any (fun i => s.get F.VLV_CMD_PHASE i == 2) then (s.put F.VLV_BSTAT_IBANK (s.fresh % 4096) b).tookFresh
  else s.put F.VLV_BSTAT_IBANK
    (min 0xFFF (((bankIdx b).filter s.valveLive).foldl (fun t i => t + s.get F.VLV_DIAG_ISENSE i) 0 / 2)) b

/-- Turns off the low side of an output in peak rise, peak regulation or hold: fast decay only if DECAY is 1 and no other
output of the bank is in those phases, else slow decay, counted in FASTSUB where fast was asked (R326). -/
def State.valveTurnOff (s : State) (i : Nat) (a : Act) : State :=
  let b := i / 6
  let ph := s.get F.VLV_CMD_PHASE i
  let wantsFast := bit (s.vout i).prof.toNat 30
  let others := (List.range 6).any (fun n => 6 * b + n != i &&
    (let p := s.get F.VLV_CMD_PHASE (6 * b + n); p == 2 || p == 3 || p == 4))
  let s1 := (s.put F.VLV_CMD_PHASE 5 i).edge (80 + i) false a
  let s2 := if ph = 2 ∨ ph = 3 then s1.put F.VLV_BSTAT_PEAK 0xF b else s1
  let s3 := if wantsFast && !others then
      { s2 with vlv := { s2.vlv with fast := Sparse.set s2.vlv.fast b i } }.put F.VLV_BSTAT_PEAK 0xE b
    else if wantsFast then s2.bump F.VLV_BCNT_FASTSUB b else s2
  ((s3.putHsum b).bankCurrent b).valveFollow i

/-- OFF on a valve output (R327). -/
def State.valveOff (s : State) (i : Nat) (a : Act) : State :=
  let s1 := if (s.vq (i / 6)).any (fun r => r.i == i) then s.valveUnqueue i else s
  let ph := s1.get F.VLV_CMD_PHASE i
  if ph = 2 ∨ ph = 3 ∨ ph = 4 then s1.valveTurnOff i a else s1

/-- Whether a valve output is commanded on: it waits or runs its profile. -/
def State.valveActive (s : State) (i : Nat) : Bool :=
  let ph := s.get F.VLV_CMD_PHASE i
  ph == 2 || ph == 3 || ph == 4 || (s.vq (i / 6)).any (fun r => r.i == i)

/-! ### LED channels (R354 to R363), by membership bit m = x − 128 -/

def State.led (s : State) (m : Nat) : LedCh := Sparse.at s.lgt.chans m LedCh.dark
def State.setLed (s : State) (m : Nat) (v : LedCh) : State :=
  { s with lgt := { s.lgt with chans := Sparse.set s.lgt.chans m v } }

/-- Whether membership bit m is a matrix segment. -/
def isMx (m : Nat) : Bool := decide (32 ≤ m) && decide (m < 128)

/-- The handover code LH of a channel (R359). -/
def State.ledLH (s : State) (m : Nat) : Nat := (65535 * clampNat 5 25 (s.get F.LGT_DIM_HOVR m) + 50) / 100

/-- The undercoat period P in T0 units: UPER × 10.24 µs, 0 taken as 1 (R360). -/
def State.ledPeriod (s : State) (m : Nat) : Nat := max 1 (s.get F.LGT_DIM_UPER m) * 163840

/-- The level that its sources give a channel: that of the reflex claim that applies, else the underlying level (R235, R271, R358). -/
def State.levelFor (s : State) (m : Nat) : Nat :=
  match (s.chan (m + 128)).claims with
  | { lvl := some v, .. } :: _ => v
  | _ => s.get F.LGT_STATE_LEVEL m

/-- The level of the light: the level in effect, or on an AM channel L′ = round(L × g), clamped (R367). -/
def State.ledLevel (s : State) (m : Nat) : Nat :=
  let l := (s.led m).lvl
  if m < 128 then l else min 65535 ((l * s.get F.LGT_AMDIAG_GAIN (m - 128) + 512) / 1024)

/-- The pulse steps N of a level: round(1,024 × L / LH), clamped at 1,024 (R360). -/
def ledN (level lh : Nat) : Nat := min 1024 ((2048 * level + lh) / (2 * lh))

/-- Sets the underlying level of an LS or AM channel (R358). -/
def State.ledSetLevel (s : State) (m l : Nat) : State := if isMx m then s else s.put F.LGT_STATE_LEVEL l m

/-- Lets the light of an LS or AM channel follow a level. A channel in topcoat follows at its grid slot, one in undercoat takes N from
its next period (R361); on an AM channel CLAMP shows whether L′ was clamped (R367). -/
def State.ledFollow (s : State) (m l : Nat) : State :=
  if isMx m then s
  else
    let s1 := s.setLed m { s.led m with lvl := l }
    let s2 := if 128 ≤ m then
        s1.put F.LGT_AMDIAG_CLAMP (if 65535 < (l * s1.get F.LGT_AMDIAG_GAIN (m - 128) + 512) / 1024 then 1 else 0) (m - 128)
      else s1
    s2.setLed m { s2.led m with nNext := ledN (s2.ledLevel m) (s2.ledLH m) }

/-- The segments of string n as membership bits. -/
def segBits (n : Nat) : List Nat := if n < 8 then (List.range 12).map (fun k => 32 + 12 * n + k) else []

/-- At a period start each segment of a string takes its DUTY, 1,024 at most (R363). -/
def State.segDuty (s : State) (m : Nat) : State :=
  (segBits m).foldl (fun u g => u.setLed g { u.led g with n := min 1024 (u.get F.LGT_DIM_DUTY g) }) s

/-- Starts a channel's light at a slot, at the level its sources give it: its range counts from topcoat, its periods run from that slot
(R358 to R360). -/
def State.ledStart (s : State) (m slot : Nat) : State :=
  let s0 := s.ledFollow m (s.levelFor m)
  let lh := s0.ledLH m
  let l := s0.ledLevel m
  let under := decide (l < lh - lh / 8)
  let s1 := s0.put F.LGT_STATE_RANGE (if under then 1 else 0) m
  (s1.setLed m { s1.led m with
    pstart := slot, n := ledN l lh, nNext := ledN l lh, nHold := none, lit := !under || decide (ledN l lh ≠ 0)
    ifs := if m < 16 then clampNat 10 150 (s1.get F.LGT_SCFG_IFS m) else 6 }).segDuty m

/-- Whether a string's regulator stops while it is off, so that a turn-on waits for its start time (R355). -/
def State.ledSlowStart (s : State) (m : Nat) : Bool := decide (m < 16) && !s.on F.LGT_SCFG_IDLE m

/-- Whether exposure declaration k is active (R368). -/
def State.expActive (s : State) (k : Nat) : Bool :=
  let n := s.get F.LGT_EXPW_TPO k
  s.on F.LGT_EXPW_EN k && s.on F.LGT_EXPW_LEN k && s.on F.TIM_TPOCTL_SRC n &&
    (match Sparse.get s.lgt.edges n with
      | some t => decide (s.now ≤ t + secUnits)
      | none => false)

/-- Writes ACTIVE and BAD of a declaration as it stands. -/
def State.expRefresh (s : State) (k : Nat) : State :=
  (s.put F.LGT_EXPW_ACTIVE (if s.expActive k then 1 else 0) k).put F.LGT_EXPW_BAD
    (if s.on F.LGT_EXPW_EN k && !s.on F.TIM_TPOCTL_SRC (s.get F.LGT_EXPW_TPO k) then 1 else 0) k

/-- Whether a channel is locked (R370). -/
def State.ledLocked (s : State) (m : Nat) : Bool :=
  let lock := s.get F.LGT_DIM_LOCK m
  !isMx m && decide (s.out (m + 128) ≠ 0) && (lock == 1 || (lock == 2 && decide (2 ≤ (s.led m).opens.length))) &&
    s.on F.LGT_STATE_RANGE m && (List.range 4).any (fun k => bit (s.get F.LGT_DIM_EXPMASK m) k && s.on F.LGT_EXPW_ACTIVE k)

/-- Writes LOCKED as the channel stands. -/
def State.lockRefresh (s : State) (m : Nat) : State :=
  if isMx m then s else s.put F.LGT_STATE_LOCKED (if s.ledLocked m then 1 else 0) m

/-- The LS and AM channels by membership bit. -/
def lightBits : List Nat := List.range 16 ++ (List.range 36).map (· + 128)

/-- All declarations and all locks as they stand. -/
def State.exposures (s : State) : State :=
  lightBits.foldl (fun t m => t.lockRefresh m) ((List.range 4).foldl (fun t k => t.expRefresh k) s)

/-- Drives an LED channel on or off and stamps the edge; a string with IDLE 0 waits for regulation before its shunt opens. -/
def State.driveLed (s : State) (m st : Nat) (a : Act) : State :=
  let x := m + 128
  if st = 0 then
    let s1 := s.setLed m { s.led m with starting := none, lit := false }
    if s1.out x = 0 then s1
    else ((s1.setOut x 0).edge x false a).put F.LGT_STATE_LOCKED 0 m
  else if s.out x ≠ 0 then s
  else if s.ledSlowStart m then s.setLed m { s.led m with starting := some a }
  else
    let s1 := (s.setOut x 1).edge x true a
    if isMx m then s1 else (s1.ledStart m (s.effective x a.plan)).lockRefresh m

/-! ### Time pulse outputs with SRC 1 (R179, R180) -/

/-- Makes an edge of a TPO: the leading edge is stamped in T0 into TIM_TPOnLEDGE and counted in MADE; no register counts a pending stamp
that it replaces (DESIGN CHOICE, log entry 149). -/
def State.tpoEdge (s : State) (n st instant : Nat) : State :=
  if st = 0 then s.put F.TIM_TPOSTAT_ACTIVE 0 n
  else ((s.deliver .TIM_TPOLEDGE n 0 (t0Words instant)).bump F.TIM_TPOSTAT_MADE n).put F.TIM_TPOSTAT_ACTIVE 1 n

def State.tpo (s : State) (n : Nat) : TpoSt := Sparse.at s.tim.tpos n TpoSt.idle
def State.setTpo (s : State) (n : Nat) (v : TpoSt) : State :=
  { s with tim := { s.tim with tpos := Sparse.set s.tim.tpos n v } }

/-- The level at TPOn's pin: POL 0 makes the leading edge rising (R175). -/
def State.tpoLevel (s : State) (n : Nat) : Bool := s.on F.TIM_TPOSTAT_ACTIVE n != s.on F.TIM_TPOCTL_POL n

/-- Ends an active pulse of a TPO at once. -/
def State.tpoOff (s : State) (n : Nat) : State := (s.tpoEdge n 0 s.now).setTpo n { s.tpo n with trail := none, late := false }

/-- A pulse of a TPO that is not made counts in SUPP (R172). -/
def State.tpoSupp (s : State) (n : Nat) : State := s.bump F.TIM_TPOSTAT_SUPP n

/-- An edge of TPOn that an action of the schedule plane makes at its planned instant, or at `instant` where it was kept back. -/
def State.planEdge (s : State) (n st instant : Nat) (a : Act) : State := (s.tpoEdge n st instant).notifyEdge (384 + n) a

/-- Takes note of a leading edge that a schedule entry plans on TPOn: it keeps the exposure declarations that name the TPO active, and each of
them gets a window (R179, R368). A pulse made late or suppressed does not move it (R369). -/
def State.planWindow (s : State) (n : Nat) (a : Act) : State :=
  if a.src ≠ 4 then s
  else
    let ks := (List.range 4).filter (fun k => s.on F.LGT_EXPW_EN k && s.get F.LGT_EXPW_TPO k == n)
    { s with lgt := { s.lgt with
        edges := Sparse.set s.lgt.edges n a.plan
        windows := ks.foldl (fun w k => Sparse.set w k (Sparse.at w k [] ++ [a.plan])) s.lgt.windows } }.exposures

/-- Drives TPOn from the schedule plane; a TPO with SRC 0 is left to its own registers (R57). While a switch-over holds the outputs an edge
is kept back (R171): a leading edge that another follows in that time is suppressed, and a trailing edge after one keeps it back no longer
unless the action is a PULSE, which keeps its width (R172). -/
def State.driveTpo (s0 : State) (n st : Nat) (a : Act) : State :=
  let c := s0.tpo n
  if !s0.on F.TIM_TPOCTL_SRC n then s0
  else if s0.tim.switchAt.isSome then
    if st ≠ 0 then
      if s0.on F.TIM_TPOSTAT_ACTIVE n ∧ c.ended = none then s0
      else
        let s := s0.planWindow n a
        (if c.kept.isSome then s.tpoSupp n else s).setTpo n { c with kept := some a }
    else match c.kept with
      | some p => if p.width.isSome then s0 else (s0.tpoSupp n).setTpo n { c with kept := none }
      | none => if s0.on F.TIM_TPOSTAT_ACTIVE n then s0.setTpo n { c with ended := some a } else s0
  else if (s0.out (384 + n) != 0) = (st != 0) then s0
  else (if st ≠ 0 then s0.planWindow n a else s0).planEdge n st a.plan a

/-! ### All targets -/

/-- Whether a target already stands as commanded: the output of a power channel, LED channel or TPO, the profile of a valve
output; a pair in its stop state also brakes or coasts as STOP says (R285). -/
def State.stands (s : State) (x st : Nat) : Bool :=
  if isValve x then s.valveActive (x - 80) == (st != 0)
  else if isPower x && s.inPair x && decide (st = 0) then
    s.out x == 0 && (s.chan x).brake == s.stopBrakes x
  else if isLed x then (s.out x == st) && !(s.led (x - 128)).starting.isSome
  else s.out x == st

/-- The target of an in-service test of an output, by its class and index (R649). -/
def svcTarget (cls idx : Nat) : Nat := if cls = 1 then idx else if cls = 2 then 64 + idx else 80 + idx

/-- A turn-on of a channel ends an in-service test of it with RES 4 (R649). -/
def State.svcTurnOn (s : State) (x : Nat) : State :=
  match s.integ.tests.find? (fun (t : Nat × SvcTest) => t.2.op == 1 && svcTarget t.2.cls t.2.idx == x) with
  | some (n, _) =>
    (({ s with integ := { s.integ with tests := Sparse.erase s.integ.tests n } }).put F.SYS_TEST_BUSY 0 n).put F.SYS_TEST_RES 4 n
  | none => s

/-- Drives a target to a state. -/
def State.drive (s0 : State) (x st : Nat) (a : Act) : State :=
  let s := if st = 0 then s0 else s0.svcTurnOn x
  if isPower x then (if s.oddMember x then s else s.drivePower x st a)
  else if isValve x then (if st = 0 then s.valveOff (x - 80) a else s.valveOn (x - 80) a)
  else if isLed x then s.driveLed (x - 128) st a
  else if isTpo x then s.driveTpo (x - 384) st a
  else s

end Sys2Proof.Machine
end

