-- ==== Sys2Proof/Machine/Scales.lean ====
section
/-! DEFINITION. The time scales as functions of T0 (R142, R147, R160) and the schedule entries as sequences of instants
(R239 to R244). -/

set_option Elab.async false

namespace Sys2Proof.Machine

/-! ### Scales 0 to 2 -/

def State.scale (s : State) (n : Nat) : Scale := Sparse.at s.tim.scales n Scale.fresh
def State.setScale (s : State) (n : Nat) (v : Scale) : State :=
  { s with tim := { s.tim with scales := Sparse.set s.tim.scales n v } }

/-- Whether a scale code of T0, T1, T2 names a valid scale (R147); code 3 is reserved. -/
def State.scaleValid (s : State) (n : Nat) : Bool :=
  match n with
  | 0 => true
  | 1 => s.on F.TIM_STAT_V1
  | 2 => s.on F.TIM_STAT_V2
  | _ => false

/-- A scale's value at a T0 instant in units of 2⁻⁷² ns; an invalid scale is a copy of T0 (R147). -/
def State.scaleFine (s : State) (n u : Nat) : Int :=
  if n = 0 ∨ !s.scaleValid n then Int.ofNat u * 4096 * 2 ^ 56
  else
    let c := s.scale n
    c.base + (Int.ofNat u - Int.ofNat c.at_) * 4096 * (2 ^ 56 + c.rate)

/-- A scale's value at a T0 instant in units of 2⁻¹⁶ ns. -/
def State.scaleAt (s : State) (n u : Nat) : Int := s.scaleFine n u / 2 ^ 56

/-- The first T0 instant at which a scale reaches a value given in units of 2⁻¹⁶ ns; none while the scale is invalid. -/
def State.t0Of (s : State) (n : Nat) (t : Int) : Option Nat :=
  if !s.scaleValid n then none
  else if n = 0 then some ((t + 4095) / 4096).toNat
  else
    let c := s.scale n
    let per := 4096 * (2 ^ 56 + c.rate)
    some (Int.ofNat c.at_ + (t * 2 ^ 56 - c.base + per - 1) / per).toNat

/-- Milliseconds, microseconds of T0 from now on. -/
def State.after (s : State) (units : Nat) : Nat := s.now + units

/-- The apply tick of a change decided now: the first whole microsecond of T0 at least 2 µs ahead (R150). -/
def State.applyTick (s : State) : Nat := (s.now + 2 * usUnits + usUnits - 1) / usUnits * usUnits

/-! ### Schedule entries: entry e of bank b of table t -/

/-- Second register index of an entry. -/
def entJ (b e : Nat) : Nat := 512 * b + e

def State.entSt (s : State) (t b e : Nat) : EntSt := Sparse.at s.sch.ents (1024 * t + entJ b e) ⟨0, false, 0, []⟩
def State.setEntSt (s : State) (t b e : Nat) (v : EntSt) : State :=
  { s with sch := { s.sch with ents := Sparse.set s.sch.ents (1024 * t + entJ b e) v } }

/-- Bank that runs in table t. -/
def State.actBank (s : State) (t : Nat) : Nat := s.get F.SCH_TCTL_ACTBANK t

/-- Whether the lists of a group action or all-channel action are those of block 3, 4 or 5 and the group exists. -/
def groupOk (block g : Nat) : Bool := (block == 3 || block == 4 || block == 5) && decide (g ≤ 32)

/-- Grid of a block's channels. -/
def blockGrid (block : Nat) : Nat := if block = 5 then 160 else 1600

/-- The target of an entry or rule word 1: a target index, or a group of a block. -/
inductive Tgt where
  | one (x : Nat)
  | group (block g : Nat)
  | bad
deriving DecidableEq, Repr

/-- Reads word 1 of an entry or a rule. -/
def tgtOf (w : Word) : Tgt :=
  if bitsOf w 31 31 = 1 then (if groupOk (bitsOf w 23 16) (bitsOf w 15 0) then .group (bitsOf w 23 16) (bitsOf w 15 0) else .bad)
  else match targetOf (bitsOf w 23 16) (bitsOf w 15 0) with
    | some x => .one x
    | none => .bad

/-- Grid of a target. -/
def Tgt.grid : Tgt → Nat
  | .one x => gridOf x
  | .group block _ => blockGrid block
  | .bad => 1600

/-- Whether a target accepts an action (R240, R284): 0 none, 1 ON, 2 OFF, 3 PULSE, 4 LEVEL, 5 LOW, 6 COMMIT. -/
def State.accepts (s : State) (x action : Nat) : Bool :=
  isTarget x && !s.oddMember x &&
  (match action with
    | 0 | 1 | 2 => true
    | 3 => !(decide (256 ≤ x) && decide (x < 292))
    | 4 => (decide (128 ≤ x) && decide (x < 144)) || (decide (256 ≤ x) && decide (x < 292))
    | 5 => decide (64 ≤ x) && decide (x < 72)
    | _ => false)

/-- Whether an entry's or a rule's target accepts an action (R240). -/
def State.tgtAccepts (s : State) (g : Tgt) (action : Nat) : Bool :=
  match g with
  | .one x => s.accepts x action
  | .group block _ => decide (action ≤ 6) && decide (action ≠ 5) && (decide (action ≠ 4) || block == 5)
  | .bad => false

/-- State an action gives: ON and PULSE 1, OFF 0, LOW 2; none for the others. -/
def actionState (action : Nat) : Option Nat :=
  match action with
  | 1 | 3 => some 1
  | 2 => some 0
  | 5 => some 2
  | _ => none

def State.entTgt (s : State) (t b e : Nat) : Tgt := tgtOf (s.word .SCH_ENTRY t (entJ b e) 1)

/-- START of an entry in units of 2⁻¹⁶ ns; FRAC[11:0] is ignored (R144). -/
def State.entStart (s : State) (t b e : Nat) : Nat := s.timeAt .SCH_ENTRY t (entJ b e) 2 / 4096 * 4096

/-- Period of an entry in units of 2⁻¹⁶ ns. -/
def State.entPer (s : State) (t b e : Nat) : Nat :=
  (s.get F.SCH_ENTRY_PER_HI t (entJ b e) * 2 ^ 32 + s.get F.SCH_ENTRY_PER_LO t (entJ b e)) * 4096

/-- Whether an entry is off. -/
def State.entOff (s : State) (t b e : Nat) : Bool :=
  let m := s.get F.SCH_ENTRY_MODE t (entJ b e)
  m == 0 || m == 3

/-- Whether an entry that is not off is invalid (R241). -/
def State.entInvalid (s : State) (t b e : Nat) : Bool :=
  let j := entJ b e
  let act := s.get F.SCH_ENTRY_ACTION t j
  let g := s.entTgt t b e
  s.cpu.bad.contains (Reg.SCH_ENTRY.addr t j 0) || s.get F.SCH_ENTRY_SCALE t j == 3 || decide (6 < act) || !s.tgtAccepts g act ||
    (match g with
      | .one x => isTpo x && !s.on F.TIM_TPOCTL_SRC (x - 384)
      | _ => false) ||
    (s.get F.SCH_ENTRY_MODE t j == 2 && decide (s.entPer t b e < g.grid * 4096)) ||
    (act == 3 && s.get F.SCH_ENTRY_ARG t j == 0)

/-- Instant of occurrence k of an entry on its scale (R242). -/
def State.entInstant (s : State) (t b e k : Nat) : Int :=
  Int.ofNat (s.entStart t b e) + Int.ofNat k * Int.ofNat (s.entPer t b e) + (s.entSt t b e).shift

/-- Whether occurrence k of an entry exists. -/
def State.entHas (s : State) (t b e k : Nat) : Bool :=
  if s.get F.SCH_ENTRY_MODE t (entJ b e) = 1 then k == 0
  else s.get F.SCH_ENTRY_COUNT t (entJ b e) == 0 || decide (k < s.get F.SCH_ENTRY_COUNT t (entJ b e))

/-- Planned T0 instant of occurrence k (R231); none while its scale is invalid. -/
def State.entPlan (s : State) (t b e k : Nat) : Option Nat :=
  (s.t0Of (s.get F.SCH_ENTRY_SCALE t (entJ b e)) (s.entInstant t b e k)).map (slotAt (s.entTgt t b e).grid)

/-- The first occurrence of an entry whose instant is not before a value of its scale in units of 2⁻⁷² ns. -/
def State.entFirst (s : State) (t b e : Nat) (v : Int) : Nat :=
  let d := (v + 2 ^ 56 - 1) / 2 ^ 56 - s.entInstant t b e 0
  if d ≤ 0 then 0
  else if s.get F.SCH_ENTRY_MODE t (entJ b e) = 1 then 1
  else (d + Int.ofNat (s.entPer t b e) - 1).toNat / max 1 (s.entPer t b e)

/-- Planned instant of the next occurrence of an entry of a running table, if it has one. -/
def State.entNext (s : State) (t b e : Nat) : Option Nat :=
  if s.entOff t b e then none
  else
    let st := s.entSt t b e
    if st.bad || !s.entHas t b e st.k then none else s.entPlan t b e st.k

/-- Planned instant of the occurrence after the next one, if there is one. -/
def State.entAfter (s : State) (t b e : Nat) : Option Nat :=
  let k := (s.entSt t b e).k + 1
  if s.entHas t b e k then s.entPlan t b e k else none

/-- Whether an action of an entry can fall on target x: it names x, or a group. -/
def State.entNames (s : State) (t b e x : Nat) : Bool :=
  match s.entTgt t b e with
  | .one y => y == x
  | .group block _ => if x < 72 then block == 3 else if x < 104 then block == 4 else block == 5
  | .bad => false

/-- The instants planned ahead for target x: trailing edges, deferred turn-ons and the next occurrences of running tables. -/
def State.plannedFor (s : State) (x : Nat) : List Nat :=
  (s.sch.pulses.filter (fun p => p.x == x)).map (fun p => p.due) ++
  (s.sch.defer.filter (fun d => d.x == x)).map (fun d => d.due) ++
  ((List.range 8).filter (fun t => s.on F.SCH_TCTL_RUN t)).flatMap (fun t =>
    ((List.range 512).filter (fun e => s.entNames t (s.actBank t) e x)).filterMap (fun e => s.entNext t (s.actBank t) e))

end Sys2Proof.Machine
end

