-- ==== Sys2Proof/Machine/Gates.lean ====
section
/-! DEFINITION. The ports of the Ethernet switch, their time-aware gates (R212 to R214) and credits (R211). -/

set_option Elab.async false

namespace Sys2Proof.Machine

/-! ### Ports -/

def State.eport (s : State) (p : Nat) : EthPort := Sparse.at s.eth.ports p EthPort.idle
def State.setEport (s : State) (p : Nat) (v : EthPort) : State :=
  { s with eth := { s.eth with ports := Sparse.set s.eth.ports p v } }

/-- The frames in queue q of port p, oldest first. -/
def State.equeue (s : State) (p q : Nat) : List Frame := Sparse.at (s.eport p).queues q []
def State.setEqueue (s : State) (p q : Nat) (fs : List Frame) : State :=
  s.setEport p { s.eport p with queues := Sparse.set (s.eport p).queues q fs }

/-- Rate of a port in Mb/s (R191); a fabric port runs at the switch core's rate, which takes no time here. -/
def portRate (p : Nat) : Nat :=
  if p < 4 then 1000 else if p < 8 then 100 else if p = 8 then 10 else if p = 9 then 2500 else if p = 10 then 100 else 0

/-- Time of a number of bytes on a port, in T0 units. -/
def wireTime (p bytes : Nat) : Nat := if portRate p = 0 then 0 else bytes * 8 * 16000 / portRate p

/-- Length of a frame from destination address to FCS, tagged or not; at least 64 bytes (R197). -/
def Frame.wireLen (f : Frame) (tagged : Bool) : Nat := max 64 (12 + (if tagged then 4 else 0) + f.body.length + 4)

/-- Cells of 256 bytes that a frame takes (R199). -/
def Frame.cells (f : Frame) : Nat := (f.wireLen true + 255) / 256

/-! ### Gates -/

/-- Entry e of a bank of port p: its gate states and its duration, at least 32 ns, in units of 2⁻¹⁶ ns (R212). -/
def State.bankEnt (s : State) (p b e : Nat) : Nat × Int :=
  let j := 512 * b + e
  (s.get F.ESW_GATE_GATES p j, Int.ofNat (max 32 (s.get F.ESW_GATE_INTERVAL p j)) * 65536)

/-- Entry e of the operational bank of port p. -/
def State.gateEnt (s : State) (p e : Nat) : Nat × Int := s.bankEnt p (s.get F.ESW_PTASCTL_OPBANK p) e

/-- Enters entry e at a T1 instant; the last entry holds, and every entry is cut off, at the cycle's end (R212). -/
def State.gateEnter (s : State) (p e : Nat) (start cycEnd : Int) : State :=
  let r := (s.eport p).run
  let (g, d) := s.gateEnt p e
  let stop := if r.len ≤ e + 1 then cycEnd else min cycEnd (start + d)
  s.setEport p { s.eport p with run := { r with idx := some e, until_ := stop, cycEnd := cycEnd, gates := g } }

/-- The first cycle start of a list at or after a T1 instant. -/
def GateRun.cycleAt (r : GateRun) (t : Int) : Int :=
  if t ≤ r.base then r.base else r.base + (t - r.base + r.cycle - 1) / max 1 r.cycle * r.cycle

/-- Lets port p hold the gate states in force until its list restarts at the first cycle start at least 1 µs after the apply tick of a
step of T1 (R214). -/
def State.gateHold (s : State) (tick p : Nat) : State :=
  let r := (s.eport p).run
  if r.len = 0 then s
  else
    let t := r.cycleAt (s.scaleAt 1 (tick + usUnits))
    s.setEport p { s.eport p with run := { r with idx := none, until_ := t, cycEnd := t } }

/-- Every port after a step of T1 (R214). -/
def State.gateStep (s : State) (tick : Nat) : State := (List.range 11).foldl (fun t p => t.gateHold tick p) s

/-- Enters the entry that stands at T1 instant t: walks the entries from e on, which begins at `start`. -/
def State.gateWalk (s : State) (p : Nat) (t cycEnd : Int) : Nat → Nat → Int → State
  | 0, e, start => s.gateEnter p e start cycEnd
  | n + 1, e, start =>
    let stop := start + (s.gateEnt p e).2
    if stop ≤ t then s.gateWalk p t cycEnd n (e + 1) stop else s.gateEnter p e start cycEnd

/-- The place that T1 gives the list of port p at EN := 1 (R212); a wait for a restart goes on. -/
def State.gateSeek (s : State) (p : Nat) : State :=
  let r := (s.eport p).run
  let t := s.scaleAt 1 s.now
  if r.len = 0 ∨ !s.scaleValid 1 ∨ (r.idx.isNone ∧ t < r.until_) then s
  else
    let start := r.base + (t - r.base) / max 1 r.cycle * r.cycle
    s.gateWalk p t (start + r.cycle) (r.len - 1) 0 start

/-- The cycle time of the admin list, in units of 2⁻¹⁶ ns, held to the limits of TASCYC. -/
def gateCycle (s : State) (p : Nat) : Int := Int.ofNat (min 1000000000 (max 1000 (s.get F.ESW_PTASCYC_CYCLE p))) * 65536

/-- The T1 instant at which the admin list of port p becomes operational: the first cycle start at or after the apply tick (R213). -/
def State.gateSwitchAt (s : State) (p : Nat) : Option Int :=
  match (s.eport p).changeAt with
  | none => none
  | some t =>
    let r : GateRun := ⟨Int.ofNat (s.timeAt .ESW_PTASBASE p 0 0 / 4096 * 4096), gateCycle s p, 0, none, 0, 0, 0⟩
    if s.scaleValid 1 then some (r.cycleAt (s.scaleAt 1 t)) else none

/-- The gate states of a port: all open without a list in operation, FALLBACK while T1 is invalid (R212, R214). -/
def State.gatesNow (s : State) (p : Nat) : Nat :=
  if 11 ≤ p ∨ !s.on F.ESW_PTASCTL_EN p then 255
  else if !s.scaleValid 1 then s.get F.ESW_PTASCTL_FALLBACK p
  else if (s.eport p).run.len = 0 then 255
  else (s.eport p).run.gates

/-- When the gate of queue q closes in a cycle that ends at `cycEnd`, in T1: walks the entries of bank b from e on, which starts at a
given instant; none if it stays open to the end of the cycle. -/
def State.gateCloses (s : State) (p q b : Nat) (cycEnd : Int) : Nat → Nat → Int → Option Int
  | 0, _, _ => none
  | n + 1, e, start =>
    if cycEnd ≤ start then none
    else
      let (g, d) := s.bankEnt p b e
      if bit g q then s.gateCloses p q b cycEnd n (e + 1) (start + d) else some start

/-- When the gate of queue q, which is open now, closes under the operational list: in the cycle that runs or, if it stays open to its end,
in the next; none if it stays open there too. -/
def State.gateShuts (s : State) (p q : Nat) : Option Int :=
  let r := (s.eport p).run
  let b := s.get F.ESW_PTASCTL_OPBANK p
  let next := s.gateCloses p q b (r.cycEnd + r.cycle) r.len 0 r.cycEnd
  match r.idx with
  | none => next
  | some e => (s.gateCloses p q b r.cycEnd (r.len - e - 1) (e + 1) r.until_).or next

/-- When the gate of queue q closes: under the operational list until a pending change takes effect, then under the admin list (R213). -/
def State.gateEnds (s : State) (p q : Nat) : Option Int :=
  match s.gateSwitchAt p with
  | none => s.gateShuts p q
  | some u =>
    let new := s.gateCloses p q (1 - s.get F.ESW_PTASCTL_OPBANK p) (u + gateCycle s p) (min 512 (max 1 (s.get F.ESW_PTASCTL_LEN p))) 0 u
    match s.gateShuts p q with
    | some c => if c < u then some c else new
    | none => new

/-- Whether what takes `dur` T0 units from now ends before the gate of queue q closes (R212). -/
def State.gateFits (s : State) (p q dur : Nat) : Bool :=
  if 11 ≤ p ∨ !s.on F.ESW_PTASCTL_EN p ∨ !s.scaleValid 1 ∨ ((s.eport p).run.len = 0 ∧ (s.gateSwitchAt p).isNone) then true
  else match s.gateEnds p q with
    | some c => decide (s.scaleAt 1 (s.now + dur) ≤ c)
    | none => true

/-! ### Credits -/

/-- Bits of the largest frame, in units of 6.25·10⁻⁸ bit. -/
def maxFrameUnits : Int := 1522 * 8 * 16000000

/-- Whether queue q of port p is shaped: an IDLE value at or above the port rate switches the shaper off (R211). -/
def State.shaped (s : State) (p q : Nat) : Bool :=
  decide (p < 11) && s.on F.ESW_PQSLOPE_IDLE p q && decide (s.get F.ESW_PQSLOPE_IDLE p q < portRate p * 1000)

/-- Credit of a shaped queue. -/
def State.credit (s : State) (p q : Nat) : Int := Sparse.at (s.eport p).credits q 0
def State.setCredit (s : State) (p q : Nat) (v : Int) : State :=
  s.setEport p { s.eport p with credits := Sparse.set (s.eport p).credits q v }

/-- Counts a queue's credit from creditAt to now: at idleSlope up to hiCredit, frozen while its gate is closed, and not above 0
while the queue is empty (R211). -/
def State.creditOne (s : State) (p q : Nat) : State :=
  let idle := Int.ofNat (s.get F.ESW_PQSLOPE_IDLE p q)
  let dt := Int.ofNat (s.now - (s.eport p).creditAt)
  if !s.shaped p q then s
  else
    let c := s.credit p q
    let c' := if bit (s.gatesNow p) q then c + idle * dt else c
    let hi := maxFrameUnits * idle / Int.ofNat (portRate p * 1000)
    s.setCredit p q (if (s.equeue p q).isEmpty then min c' 0 else min c' hi)

/-- Counts the credits of a port up to now. -/
def State.creditTick (s : State) (p : Nat) : State :=
  let s1 := (List.range 8).foldl (fun t q => t.creditOne p q) s
  s1.setEport p { s1.eport p with creditAt := s.now }

/-- Counts the credits of every port up to now, before gate states change with T1. -/
def State.creditTicks (s : State) : State := (List.range 11).foldl (fun t p => t.creditTick p) s

/-- Takes the credit of a transmission of `dur` T0 units out of queue q: sendSlope over its duration less the idleSlope that
creditTick will count for the same time, down to loCredit (R211). -/
def State.creditSpend (s : State) (p q dur : Nat) : State :=
  if !s.shaped p q then s
  else
    let rate := Int.ofNat (portRate p * 1000)
    let lo := maxFrameUnits * (Int.ofNat (s.get F.ESW_PQSLOPE_IDLE p q) - rate) / rate
    s.setCredit p q (max (s.credit p q - rate * Int.ofNat dur)
      (lo - Int.ofNat (s.get F.ESW_PQSLOPE_IDLE p q) * Int.ofNat dur))

end Sys2Proof.Machine
end

