-- ==== Sys2Proof/Machine/Sched.lean ====
section
/-! DEFINITION. The schedule plane's shared operations: postilion (R261 to R267), actions and their precedence (R234 to
R238, R266), holds and the states targets take when holds end, group pages with staging and commit (R254 to R260). -/

set_option Elab.async false

namespace Sys2Proof.Machine

/-! ### Postilion -/

/-- The tab group of an HS or BH channel (R74). -/
def tabGroup (x : Nat) : Nat :=
  if x < 12 then x / 3 else if x < 36 then (x - 12) / 6 else if x < 60 then (x - 36) / 6 else (x - 64) / 2

/-- Size factor of a channel: 4 class H, 2 class M, 1 class L, 3 a bridge (R262). -/
def sizeFactor (x : Nat) : Nat := if x < 12 then 4 else if x < 36 then 2 else if x < 60 then 1 else 3

/-- Inrush class of a turn-on: the action's own, else the channel's in SCH_ICLS (R261). -/
def State.inrush (s : State) (x : Nat) (a : Act) : Nat :=
  if a.icls ≠ 0 then a.icls else s.get F.SCH_ICLS_CLS (x / 16) / 4 ^ (x % 16) % 4

/-- Weight of a turn-on of a class (R262). -/
def State.weight (s : State) (x cls : Nat) : Nat :=
  sizeFactor x * (match cls with
    | 1 => s.get F.SCH_PWEIGHT_BULB
    | 2 => s.get F.SCH_PWEIGHT_HEATER
    | 3 => s.get F.SCH_PWEIGHT_MOTOR
    | _ => 0)

/-- Whether a turn-on is warm: the channel has been off for less than 10 ms; a change of side never is (R263). -/
def State.warm (s : State) (x : Nat) : Bool :=
  s.out x == 0 && (match (s.chan x).offSince with
    | some t => decide (s.now < t + 10 * msUnits)
    | none => false)

/-- Whether the postilion counts a change of target x to a state (R261, R263). -/
def State.counted (s : State) (x st : Nat) (a : Act) : Bool :=
  isPower x && decide (st ≠ 0) && decide (s.inrush x a ≠ 0) && !s.warm x

/-- The place of a turn-on in the order of its slot (R264): priority descending, then the instant before deferral, the source code, the table
and the entry. -/
def Act.key (a : Act) : List Int :=
  [-Int.ofNat a.prio, Int.ofNat a.plan, Int.ofNat a.src, Int.ofNat a.table, Int.ofNat a.entry]

/-- Whether a place comes before another. -/
def keyBefore : List Int → List Int → Bool
  | k :: ks, l :: ls => decide (k < l) || (k == l && keyBefore ks ls)
  | _, _ => false

/-- The present grid slot of the power channels. -/
def State.slotNow (s : State) : Nat := slotAt 1600 s.now

/-- Sum of the weights admitted in a tab group within the last 100 µs (R264), but for those of the present slot that a turn-on comes before. -/
def State.usedWeight (s : State) (g : Nat) (key : List Int) : Nat :=
  (s.sch.admitted.filter (fun e => e.group == g && decide (s.slotNow < e.slot + 100 * usUnits) &&
    !(e.slot == s.slotNow && keyBefore key e.key))).foldl (fun t e => t + e.weight) 0

/-- Records an admitted weight; weights outside every window are forgotten. -/
def State.recordWeight (s : State) (g w : Nat) (key : List Int) : State :=
  let live := s.sch.admitted.filter (fun e => decide (s.slotNow < e.slot + 100 * usUnits))
  { s with sch := { s.sch with admitted := live ++ [⟨g, s.slotNow, w, key⟩] } }

/-- Whether a weight fits a budget beside what is used, or exceeds it alone while nothing else is admitted (R264). -/
def fitsBudget (used w budget : Nat) : Bool := decide (used + w ≤ budget) || (decide (budget < w) && decide (used = 0))

/-- The turn-ons of channels that an entry's occurrence of the present slot, still to be made, will ask for: place and weight. -/
def State.entDue (s : State) (t b e g : Nat) : List (List Int × Nat) :=
  let j := entJ b e
  match s.entNext t b e, actionState (s.get F.SCH_ENTRY_ACTION t j) with
  | some plan, some st =>
    let xs := match s.entTgt t b e with
      | .one x => [x]
      | .group block k => if block = 3 then powerChannels.filter (fun m => decide (m < 72) &&
          (decide (32 ≤ k) || bit (s.word .PSW_MEMBER k (m / 32) 0).toNat (m % 32))) else []
      | .bad => []
    let a : Act := { Act.none_ with
      src := 4, prio := s.get F.SCH_ENTRY_PRIO t j, table := t, entry := e, plan := plan, icls := s.get F.SCH_ENTRY_ICLASS t j }
    if s.slotNow < plan then []
    else (xs.filter (fun x => isPower x && tabGroup x == g && s.accepts x (s.get F.SCH_ENTRY_ACTION t j) && s.counted x st a &&
        decide (s.out x ≠ st) && (s.chan x).prot == 0 && (s.chan x).claims.isEmpty && !s.towHolds x &&
        s.ownerOf (targetSpec x) == s.ownerOf (.item 0x09 t) && (s.ownerOf (.item 0x09 t)).isSome)).map
      (fun x => (a.key, s.weight x (s.inrush x a)))
  | _, _ => []

/-- The turn-ons of a tab group that are due at the present slot and not yet taken, with their weights: deferred ones and those of the running
tables. -/
def State.dueNow (s : State) (g : Nat) : List (List Int × Nat) :=
  ((s.sch.defer.filter (fun d => decide (d.due ≤ s.slotNow) && isPower d.x && tabGroup d.x == g)).map
    (fun d => (d.act.key, s.weight d.x (s.inrush d.x d.act)))) ++
  ((List.range 8).filter (fun t => s.on F.SCH_TCTL_RUN t)).flatMap (fun t => (List.range 512).flatMap (fun e => s.entDue t (s.actBank t) e g))

/-- Inserts a turn-on by its place. -/
def insertDue (d : List Int × Nat) : List (List Int × Nat) → List (List Int × Nat)
  | [] => [d]
  | e :: es => if keyBefore d.1 e.1 then d :: e :: es else e :: insertDue d es

/-- Whether the postilion admits a turn-on of a tab group at the present slot (R264): those due at the slot that come before it are judged
first. -/
def State.fits (s : State) (g w : Nat) (key : List Int) : Bool :=
  let budget := s.get F.SCH_PBUD_BUDGET g
  let first := ((s.dueNow g).filter (fun d => keyBefore d.1 key)).foldr insertDue []
  let used := first.foldl (fun u d => if fitsBudget u d.2 budget then u + d.2 else u) (s.usedWeight g key)
  fitsBudget used w budget

/-- Sets out the trailing edge of a PULSE whose leading edge is made at an instant, unless it would fall at or after the next leading edge of
its entry (R242, R266). -/
def State.trailFrom (s : State) (x t : Nat) (a : Act) : State :=
  match a.width with
  | some w =>
    if a.next.any (fun u => decide (u ≤ t + w)) then s
    else { s with sch := { s.sch with pulses := s.sch.pulses ++ [⟨x, t + w, { a with width := none }, none⟩] } }
  | none => s

/-- The trailing edge that an executed PULSE leads to, ARG grid units after its leading edge (R242, R266); that of a valve
turn-on that waits is set out at its admission (R327). -/
def State.trailing (s : State) (x : Nat) (a : Act) : State :=
  if isValve x && (s.vq ((x - 80) / 6)).any (fun r => r.i == x - 80 && r.act.plan == a.plan && r.act.entry == a.entry) then s
  else s.trailFrom x (s.effective x a.plan) a

/-- Counts a schedule action that is applied and admitted in EXEC, once for each target (DEDUCED, log entry 7). -/
def State.countExec (s : State) (a : Act) : State := if a.src = 4 then s.bump F.SCH_TCNT0_EXEC a.table else s

def State.diag (s : State) (x : Nat) : DiagSt := Sparse.at s.psw.diags x DiagSt.fresh
def State.setDiag (s : State) (x : Nat) (d : DiagSt) : State :=
  { s with psw := { s.psw with diags := Sparse.set s.psw.diags x d } }

/-- Where a trailing edge meets the first on-period of an interval that carries a diagnostic stretch, the T0 instant of that
on-period's leading edge: it is too short for a measurement, and the next action after it lies at least 50 µs after its
leading edge (R301). -/
def State.stretches (s : State) (x st : Nat) (a : Act) : Option Nat :=
  let d := s.diag x
  if isPower x && decide (st = 0) && decide (3 ≤ a.src) && decide (a.src ≤ 5) && d.planned && !d.done then
    match (s.chan x).onSince with
    | some t0 =>
      if s.now < t0 + 40 * usUnits ∧ s.out x ≠ 0 ∧
          (s.plannedFor x).all (fun u => decide (u ≤ a.plan) || decide (t0 + 50 * usUnits ≤ u)) then some t0 else none
    | none => none
  else none

/-- Changes an output. A turn-off that a diagnostic stretch delays leaves the output on until 40 µs after its leading edge
(R301). -/
def State.change (s : State) (x st : Nat) (a : Act) : State :=
  match s.stretches x st a with
  | some t0 =>
    (s.setDiag x { s.diag x with done := true, stretching := some (t0 + 40 * usUnits, a) }).deliver .PSW_STR x 0 (t0Words t0)
  | none => s.drive x st a

/-- Executes a change of output, and sets out a PULSE's trailing edge. -/
def State.execute (s : State) (x st : Nat) (a : Act) : State := ((s.countExec a).change x st a).trailing x a

/-- Drops a turn-on that its largest deferral does not admit (R264): counted in its tab group and in its table, with an
"action dropped" event to the owner of its source. -/
def State.postilionDrop (s : State) (x : Nat) (a : Act) : State :=
  let s1 := (s.bump F.SCH_PCNT_DROPPED (tabGroup x)).cum 16
  let s2 := if a.src = 4 then s1.bump F.SCH_TCNT1_DROPPED a.table else s1
  match a.who with
  | some n => s2.event n 2 3 x a.src (if a.src = 4 ∨ a.src = 3 then a.table else 0xFFFF)
  | none => s2

/-- The postilion at a turn-on of a counted class (R264, R265): a reflex is admitted at once; others are admitted, deferred by
25 µs or dropped. -/
def State.postilion (s : State) (x st : Nat) (a : Act) : State :=
  let g := tabGroup x
  let w := s.weight x (s.inrush x a)
  if a.src = 3 ∨ s.fits g w a.key then (s.recordWeight g w a.key).execute x st a
  else if (match a.maxdef with | some m => decide (a.steps < m) | none => true) then
    let s1 := if a.steps = 0 then s.bump F.SCH_PCNT_DEFERRED g else s
    { s1 with sch := { s1.sch with
        defer := s1.sch.defer ++ [⟨x, { a with st := some st, steps := a.steps + 1 }, s.now + 25 * usUnits⟩] } }
  else s.postilionDrop x a

/-- Brings a target to a state, through the postilion where the change is a counted turn-on. -/
def State.request (s : State) (x st : Nat) (a : Act) : State :=
  if s.stands x st then (if st ≠ 0 then (s.countExec a).trailing x a else s.countExec a)
  else if s.counted x st a then s.postilion x st a
  else s.execute x st a

/-! ### Holds -/

/-- An action of the device itself: a default state (source 6) or an end of hold or re-application (7), with priority 15 and
unbounded deferral (R265), or protection (1), the towline (2). -/
def ownAct (src plan : Nat) : Act := { Act.none_ with src := src, prio := 15, plan := plan }

/-- The place of a target in the towline map, which orders the towline's turn-ons in the postilion (R312). -/
def State.towPlace (s : State) (x : Nat) : Nat := s.psw.tow.findIdx (fun e => e.x == x)

/-- Whether a target would take its default state: no hold stands and nothing has set it since configuration applied. -/
def State.byDefault (s : State) (x : Nat) : Bool :=
  let c := s.chan x
  c.prot == 0 && !s.towHolds x && c.claims.isEmpty && c.window.isNone && !c.undSet

/-- Lets an LED channel follow the level its sources give it, and first its default level where it takes its default state; during a hold
window a channel without a claim keeps its level (R235, R387). -/
def State.settleLevel (s : State) (x : Nat) : State :=
  if isLed x then
    let s1 := if s.byDefault x then s.ledSetLevel (x - 128) (s.get F.LGT_DEF_DEFLVL (x - 128)) else s
    if (s1.chan x).window.isSome && (s1.chan x).claims.isEmpty then s1 else s1.ledFollow (x - 128) (s1.levelFor (x - 128))
  else s

/-- Lets a target take the state its sources give it (R234, R235), with an edge of the given source, or of source 6 where it
falls back to its default state (DEDUCED, log entry 8); HELD follows. -/
def State.settle (s : State) (x src : Nat) : State :=
  let s1 := (s.putHeld x).settleLevel x
  match s1.wanted x with
  | some st => s1.request x st { ownAct (if src = 7 && s1.byDefault x then 6 else src) (slotAfter (gridOf x) s1.now) with
      entry := if src = 2 then s1.towPlace x else 0 }
  | none => s1

/-- Sets or clears a reason that holds a target off. -/
def State.setHold (s : State) (x reason : Nat) (b : Bool) : State :=
  (s.setChan x { s.chan x with prot := setBit (s.chan x).prot reason b }).termsSeen

/-- Holds a target off with the precedence of protection. Its output goes off at once, stamped with source 1; its pair goes
into coast. -/
def State.holdOff (s : State) (x reason : Nat) : State :=
  let s1 := (s.setHold x reason true).putHeld x
  s1.drive x 0 (ownAct 1 (slotAfter (gridOf x) s1.now))

/-- Ends a reason that holds a target off; when no hold is left the target takes its state at its next grid slot. -/
def State.holdEnd (s : State) (x reason : Nat) : State := (s.setHold x reason false).settle x 7

/-! ### Actions -/

/-- Cancels the deferred turn-ons of a target (R266). -/
def State.cancelDeferred (s : State) (x : Nat) : State :=
  { s with sch := { s.sch with defer := s.sch.defer.filter (fun d => d.x != x) } }

/-- Table number that marks the actions of stencils, to which every other source goes before (R377); no table and no rule has it. -/
def stencilMark : Nat := 4096

/-- Precedence of a source (R234): reflex 3, schedule 4, immediate 5. -/
def precOf (src : Nat) : Nat := src

/-- Whether an action goes before the last one applied at the same grid slot (R236): by precedence; among schedule actions by
PRIO, table and entry; of two reflexes the lower rule (DESIGN CHOICE, log entry 158); a later immediate request replaces an earlier one (R253); of two commits the one of the higher group (R259). -/
def Act.beats (a : Act) (l : LastAct) : Bool :=
  match a.group, l.group with
  | some g, some h => decide (h ≤ g)
  | _, _ =>
  if stencilMark ≤ a.table then decide (stencilMark ≤ l.table)
  else if a.src ≠ l.src then decide (precOf a.src < precOf l.src)
  else if a.src = 4 then
    if a.prio ≠ l.prio then decide (l.prio < a.prio)
    else if a.table ≠ l.table then decide (a.table < l.table)
    else decide (a.entry ≤ l.entry)
  else if a.src = 3 then decide (a.table ≤ l.table)
  else decide (l.entry ≤ a.entry)

/-- The words that an action on target x can change, of registers that are the target's own. -/
def State.actWords (s : State) (x : Nat) : List (Reg × Nat × Nat) :=
  if x < 72 then
    [(.PSW_CMD, x, 0), (.PSW_PROT, x, 0), (.PSW_STR, x, 0), (.PSW_STR, x, 1), (.PSW_STR, x, 2)] ++
      (if s.inPair x then [(.PSW_CMD, x + 1, 0), (.PSW_PROT, x + 1, 0)] else [])
  else if x < 104 then [(.VLV_CMD, x - 80, 0), (.VLV_PROT, x - 80, 0), (.VLV_DIAG, x - 80, 0), (.VLV_BPROT, (x - 80) / 6, 0), (.VLV_BSTAT, (x - 80) / 6, 0)]
  else if x < 144 then [(.LGT_STATE, x - 128, 0), (.LGT_SCNT, x - 128, 0)]
  else if x < 256 then [(.LGT_STATE, x - 128, 0)]
  else if x < 292 then [(.LGT_STATE, x - 128, 0), (.LGT_AMDIAG, x - 256, 0)]
  else [(.TIM_TPOSTAT, x - 384, 0)]

/-- The registers that hold a target's edge stamps. -/
def State.stampRegs (s : State) (x : Nat) : List (Reg × Nat) :=
  if x < 384 then (.SCH_EDGE, x) :: (if s.inPair x then [(.SCH_EDGE, x + 1)] else []) else [(.TIM_TPOLEDGE, x - 384)]

/-- Whether an event tells of an action on target x. -/
def Event.ofAct (e : Event) (x : Nat) : Bool := e.block == 2 && (e.code == 1 || e.code == 3) && (e.item == x || (isPower x && e.item == x + 1))

/-- Takes the last n entries that a test picks out of a list. -/
def dropLast (p : Event → Bool) : Nat → List Event → List Event
  | 0, es => es
  | n + 1, es => match es.reverse.find? p with
    | some e => dropLast p n (es.reverse.erase e).reverse
    | none => es

/-- Takes back what the last action of the same grid slot did to a target. -/
def State.undoLast (s : State) (x : Nat) (l : LastAct) : State :=
  let s1 := l.words.foldl (fun t q => t.setWord q.1 q.2.1 0 q.2.2.1 q.2.2.2) s
  let s2 := l.edges.foldl (fun t q => t.deliver q.1 q.2.1 0 q.2.2) s1
  let s3 := if isPower x then (s2.setProt x l.prot).setDiag x l.diag
    else if isValve x then
      let q := (s2.vq ((x - 80) / 6)).filter (fun r => r.i != x - 80)
      (s2.setVout (x - 80) l.vout).setVq ((x - 80) / 6) (match l.req with | some r => insertReq r q | none => q)
    else if isLed x then s2.setLed (x - 128) l.led
    else
      let edges := match l.window with
        | some t => Sparse.set s2.lgt.edges (x - 384) t
        | none => Sparse.erase s2.lgt.edges (x - 384)
      let windows := if Sparse.get s2.lgt.edges (x - 384) = l.window then s2.lgt.windows
        else s2.lgt.windows.map (fun (w : Nat × List Nat) =>
          if s2.get F.LGT_EXPW_TPO w.1 = x - 384 then (w.1, w.2.filter (fun t => t != l.slot)) else w)
      { s2 with lgt := { s2.lgt with edges := edges, windows := windows } }.exposures
  let s4 := { s3 with sch := { s3.sch with
    pulses := s3.sch.pulses.filter (fun p => !(p.x == x && p.act.plan == l.slot))
    admitted := match l.weight with | some w => s3.sch.admitted.erase w | none => s3.sch.admitted } }
  let s5 := if l.src = 4 then
      ((s4.put F.SCH_TCNT0_EXEC (s4.get F.SCH_TCNT0_EXEC l.table - l.exec) l.table).put F.SCH_TCNT1_MASKED
        (s4.get F.SCH_TCNT1_MASKED l.table - l.masked) l.table).put F.SCH_TCNT1_DROPPED
        (s4.get F.SCH_TCNT1_DROPPED l.table - l.dropped) l.table
    else s4
  let s6 := if l.deferred + l.dropped = 0 then s5
    else (s5.put F.SCH_PCNT_DEFERRED (s5.get F.SCH_PCNT_DEFERRED (tabGroup x) - l.deferred) (tabGroup x)).put F.SCH_PCNT_DROPPED
      (s5.get F.SCH_PCNT_DROPPED (tabGroup x) - l.dropped) (tabGroup x)
  let s7 := match l.who with
    | some n => if l.events = 0 then s6 else s6.setQueue n { s6.queue n with entries := dropLast (fun e => e.ofAct x) l.events (s6.queue n).entries }
    | none => s6
  (s7.setChan x { s7.chan x with
    und := l.und, undSet := l.undSet, winSet := l.winSet, brake := l.brake, offSince := l.offSince, onSince := l.onSince }).termsSeen

/-- Records what an action did, for another action of its grid slot. -/
def State.noteAct (s0 s : State) (x : Nat) (a : Act) : State :=
  let c := s0.chan x
  let g := tabGroup x
  let grown (f : Fld) (i : Nat) : Nat := s.get f i - s0.get f i
  let count (u : State) (n : Nat) : Nat := ((u.queue n).entries.filter (fun e => e.ofAct x)).length
  let l : LastAct := {
    slot := a.plan, src := a.src, prio := a.prio, table := a.table, entry := a.entry, group := a.group
    words := (s0.actWords x).map (fun q => (q.1, q.2.1, q.2.2, s0.word q.1 q.2.1 0 q.2.2))
    edges := (s0.stampRegs x).map (fun q => (q.1, q.2, s0.latest q.1 q.2 0))
    und := c.und, undSet := c.undSet, winSet := c.winSet, brake := c.brake, offSince := c.offSince, onSince := c.onSince
    prot := s0.prot x, diag := s0.diag x, led := s0.led (x - 128), vout := s0.vout (x - 80)
    req := (s0.vq ((x - 80) / 6)).find? (fun r => isValve x && r.i == x - 80)
    window := Sparse.get s0.lgt.edges (x - 384)
    exec := if a.src = 4 then grown F.SCH_TCNT0_EXEC a.table else 0
    masked := if a.src = 4 then grown F.SCH_TCNT1_MASKED a.table else 0
    deferred := if isPower x then grown F.SCH_PCNT_DEFERRED g else 0
    dropped := if isPower x then grown F.SCH_PCNT_DROPPED g else 0
    weight := s.sch.admitted.find? (fun e => isPower x && decide (e.group = g) && decide (e.slot = s.slotNow) && !s0.sch.admitted.contains e)
    who := a.who
    events := match a.who with | some n => count s n - count s0 n | none => 0 }
  s.setChan x { s.chan x with last := some l }

/-- Whether a hold keeps an action of a source from a target's output: a hold window lets reflexes act (R304). -/
def State.heldFor (s : State) (x src : Nat) : Bool :=
  let c := s.chan x
  c.prot != 0 || s.towHolds x || !c.claims.isEmpty || (c.window.isSome && decide (src ≠ 3))

/-- Whether a neighbour test alone keeps a string from its state: an action then waits for the test's end (R267, R386). -/
def State.underTest (s : State) (x : Nat) : Bool := isLed x && bit (s.chan x).prot pTest && !s.held x

/-- Counts a change of a locked LED channel inside one of its windows (R373); stencil actions are no such change. -/
def State.winHit (s : State) (x : Nat) (a : Act) : State :=
  let m := x - 128
  if isLed x && !isMx m && s.on F.LGT_STATE_LOCKED m && (s.led m).open_.isSome && decide (a.table < stencilMark) then
    if m < 16 then s.bump F.LGT_SCNT_WINHIT m else s.bump F.LGT_AMDIAG_WINHIT (m - 128)
  else s

/-- Applies an action of a reflex EVENT, a schedule entry, an immediate request or a commit to a target (R235, R236, R266): it
sets the underlying state; on a held target it does no more, and a schedule action is counted as MASKED; on a string under test it waits for
the test's end (R386). -/
def State.apply (s : State) (x : Nat) (a : Act) : State :=
  let s0 := s.cancelDeferred x
  let c := s0.chan x
  let s1 := s0.setChan x { c with undSet := true, winSet := c.winSet || c.window.isSome }
  let s2 := match a.lvl with
    | some v => let t := s1.ledSetLevel (x - 128) v; if t.heldFor x a.src then t else t.ledFollow (x - 128) v
    | none => s1
  let s3 := match a.st with
    | some st => s2.setUnd x st
    | none => s2
  let s4 :=
    if s3.underTest x then
      match a.st with
      | some _ => (s3.setLed (x - 128) { s3.led (x - 128) with waiting := some a }).trailFrom x a.plan a
      | none => s3.countExec a
    else if s3.heldFor x a.src then
      (if a.src = 4 then s3.bump F.SCH_TCNT1_MASKED a.table else s3).trailFrom x a.plan a
    else
      let s5 := s3.winHit x a
      match a.st with
      | some st => s5.request x st a
      | none => s5.countExec a
  s0.noteAct s4 x a

/-- Lets an action act on a target by `act`, unless another of the same grid slot goes before it: of two only one applies, and a schedule action
that loses is counted as COLLIDED (R236). -/
def State.contend (s : State) (x : Nat) (a : Act) (act : State → State) : State :=
  match (s.chan x).last with
  | some l =>
    if l.slot = a.plan then
      if a.beats l then
        let s1 := if l.src = 4 then s.bump F.SCH_TCNT1_COLLIDED l.table else s
        act (s1.undoLast x l)
      else if a.src = 4 then s.bump F.SCH_TCNT1_COLLIDED a.table else s
    else act s
  | none => act s

/-- An action reaches its target at its planned instant. -/
def State.actOn (s : State) (x : Nat) (a : Act) : State := s.contend x a (fun t => t.apply x a)

/-! ### Group pages (R254 to R260) -/

/-- The block numbers that have group pages, as an offset from block 3. -/
def groupReg (block : Nat) : Reg := if block = 3 then .PSW_MEMBER else if block = 4 then .VLV_MEMBER else .LGT_MEMBER

/-- Whether membership bit m is set in group g of a block; g = 32 is the all-channel page (R255). -/
def State.member (s : State) (block g m : Nat) : Bool :=
  if g < 32 then bit (s.word (groupReg block) g (m / 32) 0).toNat (m % 32)
  else bit ((match block with | 3 => Reg.PSW_AMEMBER | 4 => .VLV_AMEMBER | _ => .LGT_AMEMBER).rst (m / 32) 0 0).toNat (m % 32)

/-- Target index of membership bit m of a block (R255). -/
def memberTarget (block m : Nat) : Option Nat :=
  match block with
  | 3 => if isPower m then some m else none
  | 4 => if m < 24 then some (80 + m) else none
  | _ => if isLed (m + 128) then some (m + 128) else none

/-- Membership bits a block's channels take. -/
def memberBits (block : Nat) : List Nat := (List.range 164).filter (fun m => (memberTarget block m).isSome)

/-- The members of group g of a block, in membership-bit order; the all-channel page has every channel. -/
def State.members (s : State) (block g : Nat) : List Nat :=
  (memberBits block).filter (fun m => if g < 32 then s.member block g m else true)

/-- The commit registers of a group, or of the all-channel page (g = 32). -/
def pendFld (block g : Nat) : Fld :=
  match block, decide (g < 32) with
  | 3, true => F.PSW_GCTL_PEND
  | 4, true => F.VLV_GCTL_PEND
  | _, true => F.LGT_SYNC_PEND
  | 3, false => F.PSW_AGCTL_PEND
  | 4, false => F.VLV_AGCTL_PEND
  | _, false => F.LGT_ASYNC_PEND

def State.groupStaged (s : State) (block g : Nat) : Bool :=
  s.sch.staged.any (fun f => f.block == block && f.group == g)

/-- PEND shows whether fields are staged. -/
def State.putPend (s : State) (block g : Nat) : State :=
  s.put (pendFld block g) (if s.groupStaged block g then 1 else 0) (if g < 32 then g else 0)

/-- Discards staged fields of a group, in the all-channel page those of one partition only (R260). -/
def State.discard (s : State) (block g : Nat) (who : Option Nat) : State :=
  let keep := s.sch.staged.filter (fun f => !(f.block == block && f.group == g &&
    (match who with | some n => decide (g < 32) || f.who == n | none => true)))
  { s with sch := { s.sch with staged := keep } }.putPend block g

end Sys2Proof.Machine
end

