-- ==== Sys2Proof/Machine/Prot.lean ====
section
/-! DEFINITION. Protection of switches (R287 to R295, R335, R336), shared by power channels, valve outputs and bank
high-sides. A site is a target index of a power channel, or 104 + b for the high-side of bank b. -/

set_option Elab.async false

namespace Sys2Proof.Machine

/-- Whether a number names a protected switch. -/
def isSite (p : Nat) : Bool := isPower p || isValve p || (decide (104 ≤ p) && decide (p < 108))

/-- The field of a site among those of PSW_, VLV_ outputs and VLV_ banks. -/
def siteFld (p : Nat) (psw vlv bank : Fld) : Fld := if p < 72 then psw else if p < 104 then vlv else bank

/-- The register index of a site. -/
def siteIdx (p : Nat) : Nat := if p < 72 then p else if p < 104 then p - 80 else p - 104

def fState (p : Nat) : Fld := siteFld p F.PSW_PROT_STATE F.VLV_PROT_STATE F.VLV_BPROT_STATE
def fAtt (p : Nat) : Fld := siteFld p F.PSW_PROT_ATT F.VLV_PROT_ATT F.VLV_BPROT_ATT
def fLatch (p : Nat) : Fld := siteFld p F.PSW_PROT_LATCH F.VLV_PROT_LATCH F.VLV_BPROT_LATCH
def fCause (p : Nat) : Fld := siteFld p F.PSW_PROT_CAUSE F.VLV_PROT_CAUSE F.VLV_BPROT_CAUSE
def fTwarn (p : Nat) : Fld := siteFld p F.PSW_PROT_TWARN F.VLV_PROT_TWARN F.VLV_BPROT_TWARN
def fNmax (p : Nat) : Fld := siteFld p F.PSW_CFG_NMAX F.VLV_PRCFG_NMAX F.VLV_BPRCFG_NMAX
def fT0 (p : Nat) : Fld := siteFld p F.PSW_CFG_T0 F.VLV_PRCFG_T0 F.VLV_BPRCFG_T0
def fTovl (p : Nat) : Fld := siteFld p F.PSW_CFG_TOVL F.VLV_PRCFG_TOVL F.VLV_BPRCFG_TOVL
def fClean (p : Nat) : Fld := siteFld p F.PSW_CFG_CLEAN F.VLV_PRCFG_CLEAN F.VLV_BPRCFG_CLEAN

/-- STATE of a site: 0 OFF, 1 ON, 2 LIMIT, 3 PAUSE, 4 COOLWAIT, 5 LATCHED, 6 CUT (R291). -/
def State.pstate (s : State) (p : Nat) : Nat := s.get (fState p) (siteIdx p)

/-- Sets a protection field of a site. -/
def State.pput (s : State) (f : Fld) (p v : Nat) : State := (s.put f v (siteIdx p)).mirrorPair p

/-- TOVL in T0 units. -/
def State.tovl (s : State) (p : Nat) : Nat :=
  (match s.get (fTovl p) (siteIdx p) with
    | 0 => 100 | 1 => 500 | 2 => 1000 | 3 => 2000 | 4 => 5000 | 5 => 10000 | 6 => 20000 | _ => 50000) * usUnits

/-- CLEAN in T0 units. -/
def State.clean (s : State) (p : Nat) : Nat :=
  (match s.get (fClean p) (siteIdx p) with
    | 0 => 10 | 1 => 50 | 2 => 100 | 3 => 250 | 4 => 500 | 5 => 1000 | 6 => 2000 | _ => 5000) * msUnits

/-- The retry pause after attempt ATT: T0 · 2^(ATT−1), at most 16,384 ms (R289). -/
def State.pause (s : State) (p att : Nat) : Nat :=
  min (16384 * msUnits) (250 * usUnits * 2 ^ (min 6 (s.get (fT0 p) (siteIdx p))) * 2 ^ (att - 1))

/-- Sets RESULT of a channel; a change places a "diagnosis changed" event in its owner's queue (R302, R343). -/
def State.setResult (s : State) (x r : Nat) : State :=
  if x < 72 then
    if s.get F.PSW_DIAG_RESULT x = r then s
    else (s.put F.PSW_DIAG_RESULT r x).eventTo (targetSpec x) 3 2 x r
  else if s.get F.VLV_DIAG_RESULT (x - 80) = r then s
  else (s.put F.VLV_DIAG_RESULT r (x - 80)).eventTo (targetSpec x) 4 2 x r

/-- The finding that a cause gives: cause 1 short, 2 overload, 3 thermal; a short on a low side is one to battery or supply
(R298, R342). -/
def causeResult (p cause : Nat) (low : Bool) : Nat :=
  if p < 72 then (match cause with | 1 => if low then 3 else 5 | 2 => 4 | _ => 6)
  else match cause with | 1 => 3 | 2 => 9 | _ => 7

/-- The counter of a cause in PSW_CNT; valve sites have none. -/
def causeCnt (cause : Nat) : Fld :=
  match cause with
  | 1 => F.PSW_CNT_SHORTS
  | 2 => F.PSW_CNT_OVLDS
  | _ => F.PSW_CNT_THERMS

/-- The order in which CAUSE takes two causes of one grid slot: short, thermal, overload (R288). -/
def causeRank (cause : Nat) : Nat := match cause with | 1 => 0 | 3 => 1 | _ => 2

/-- The outputs of bank b as target indices. -/
def bankOuts (b : Nat) : List Nat := (List.range 6).map (fun n => 80 + 6 * b + n)

/-- Holds a bank's output off; a request of it that waits stays in the queue (R336). -/
def State.bankHold (s : State) (x : Nat) : State :=
  let s1 := (s.setHold x pBank true).putHeld x
  let ph := s1.get F.VLV_CMD_PHASE (x - 80)
  if ph = 2 ∨ ph = 3 ∨ ph = 4 then s1.valveTurnOff (x - 80) (ownAct 1 (slotAfter 1600 s1.now)) else s1

/-- Holds a site's outputs off: the channel itself, or every output of a bank, whose RESULT becomes bank fault (R336). -/
def State.siteHold (s : State) (p : Nat) : State :=
  if p < 104 then s.holdOff p pOff
  else (bankOuts (p - 104)).foldl (fun t x => (t.bankHold x).setResult x 8) s

/-- Tells of a latch: the channel's owner, or for a bank high-side the valve owner and every owner of an output of the
bank (R321, R350), and the event log (R640, type 12). -/
def State.tellLatch (s : State) (p cause : Nat) : State :=
  if p < 104 then
    let k := if p < 72 then 3 else 4
    (s.eventTo (targetSpec p) k (if p < 72 then 1 else 4) p cause).logEntry 12 k (if p < 64 then p else if p < 72 then p - 64 else p - 80)
      p cause
  else
    let b := p - 104
    let ns := (List.range 4).filter (fun n =>
      s.blockOwner 4 == some n || (bankOuts b).any (fun x => s.ownerOf (targetSpec x) == some n))
    (s.eventAll ns 4 4 0xFFFF cause b).logEntry 12 4 0xFFFF 0xFFFF cause

/-- Starts an automatic pulse on WAKE_OUT when a wake other than one on WAKE_IN is latched and WOAUTO is 1 (R458). -/
def State.wakePulse (s : State) (src : Nat) : State :=
  if src ≠ 0 ∧ s.on F.NWK_WIO_WOAUTO then
    { s with nwk := { s.nwk with
      pulseTo := some (s.now + max 1 (s.get F.NWK_WIO_WOLEN) * msUnits), outHigh := true, ignoreTo := none } }
  else s

/-- The replayed event of a wake, at its partition's start (R534, R683). -/
def State.replayWake (s : State) (w : Wake) : State :=
  match w.queue with
  | some n => if w.code = 0 then s else s.eventAtStart n w.block w.code w.item w.arg0 w.arg1 true
  | none => s

/-- Latches a wake for the replay of R534. During a bring-up its bit of PMU_WAKECAUSE is set at once; one that comes after
configuration applied is handed to its partition's start directly. -/
def State.latchWake (s : State) (w : Wake) : State :=
  let st := s.get F.PMU_STATE_STATE
  let s1 := if st = 5 ∧ 10 ≤ s.boot.step then s.replayWake w
    else { s with pmu := { s.pmu with wakes := s.pmu.wakes ++ [{ w with during := st == 2 }] } }
  (if st = 5 then s1.setWord .PMU_WAKECAUSE 0 0 0 (s1.word .PMU_WAKECAUSE 0 0 0 ||| BitVec.ofNat 32 (2 ^ w.src)) else s1).wakePulse w.src

/-- In PARK a protective switch-off of a park-held channel raises a wake if PHWAKE is 1 (R543). -/
def State.parkFault (s : State) (p : Nat) : State :=
  if s.get F.PMU_STATE_STATE = 3 ∧ s.on F.PMU_CTL_PHWAKE ∧
      (if p < 104 then s.parkHeld p else (bankOuts (p - 104)).any (fun x => s.parkHeld x)) then
    s.latchWake ⟨5, none, 0, 0, 0, 0, 0, false⟩
  else s

/-- A protective switch-off of a site (R289, R290): hold, ATT, cause counter, CAUSE; then a latch or a retry pause. `hot`
says whether Tj lies above release, `low` whether a low side was switched off. -/
def State.protOff (s : State) (p cause : Nat) (low hot : Bool) : State :=
  let i := siteIdx p
  let att := min 31 (s.get (fAtt p) i + 1)
  let s1 := (s.siteHold p).setProt p { s.prot p with
    limitFrom := none, offAt := some (s.now / 1600), hot := hot, cleanFrom := none, pauseEnd := none }
  let s2 := (s1.pput (fAtt p) p att).pput (fCause p) p cause
  let s3 := if p < 72 then s2.bump (causeCnt cause) i else s2
  let s4 := (if p < 104 then s3.setResult p (causeResult p cause low) else s3).cum 13
  let s5 :=
    if max 1 (s.get (fNmax p) i) ≤ att then
      let t := (s4.pput (fLatch p) p 1).pput (fState p) p 5
      ((if p < 72 then t.bump F.PSW_CNT_LATCHES i else t).cum 14).tellLatch p cause
    else (s4.setProt p { s4.prot p with pauseEnd := some (s.now + s.pause p att) }).pput (fState p) p 3
  s5.parkFault p

/-- A cause arises: a protective switch-off while the site conducts; a second cause of the same grid slot only moves CAUSE and
its counter to the earlier one in the order of R288. -/
def State.protCause (s : State) (p cause : Nat) (low hot : Bool) : State :=
  let st := s.pstate p
  let old := s.get (fCause p) (siteIdx p)
  if st = 1 ∨ st = 2 then s.protOff p cause low hot
  else if (s.prot p).offAt = some (s.now / 1600) ∧ causeRank cause < causeRank old then
    let s1 := s.pput (fCause p) p cause
    let s2 := if p < 72 then (s1.put (causeCnt old) (s1.get (causeCnt old) p - 1) p).bump (causeCnt cause) p else s1
    let s3 := if p < 104 then s2.setResult p (causeResult p cause low) else s2
    s3.setProt p { s3.prot p with hot := hot || (s3.prot p).hot }
  else s

/-- The STATE a site shows once its protective hold ends: CUT while the cut rule still holds it, else OFF, from which a
turn-on leads to ON. -/
def State.restState (s : State) (p : Nat) : Nat :=
  if p < 104 then (if bit (s.chan p).prot pCut then 6 else 0) else 0

/-- Ends the protective hold of a site (R290): the channel takes its state at the next grid slot; the outputs of a bank are
queued as re-applications (R336). CLEAN counts from here. -/
def State.protRelease (s : State) (p : Nat) : State :=
  let s1 := (s.setProt p { s.prot p with pauseEnd := none, cleanFrom := some s.now }).pput (fState p) p (s.restState p)
  let s2 := if p < 104 then s1.holdEnd p pOff else (bankOuts (p - 104)).foldl (fun t x => t.holdEnd x pBank) s1
  s2.mirrorPair p

/-- PSW_PROT.CLR, VLV_PROT.CLR, VLV_BPROT.CLR (R291, R292). -/
def State.protClear (s : State) (p0 : Nat) : State :=
  let p := s.site p0
  let st := s.pstate p
  let s1 := (s.pput (fAtt p) p 0).pput (fLatch p) p 0
  if st = 3 ∨ st = 4 ∨ st = 5 then
    if (s1.prot p).hot then (s1.setProt p { s1.prot p with pauseEnd := none }).pput (fState p) p 4 else s1.protRelease p
  else s1

end Sys2Proof.Machine
end

