-- ==== Sys2Proof/Machine/Power.lean ====
section
/-! DEFINITION. The power switch block: writes of its registers, immediate requests, bridge pairs, protection, diagnosis,
planned-restart notices, the output-plane watchdog and the towline (R276 to R321), and the meanings of its commands. -/

set_option Elab.async false

namespace Sys2Proof.Machine

/-! ### Writes without behaviour of their own -/

/-- A write of a register word under its access codes (R14); a register without a writable field drops and counts it. -/
def State.plainWrite (s : State) (r : Reg) (i j w : Nat) (v : Word) : State :=
  if r.writable then s.setWord r i j w (s.written r i j w v) else s.accErr r.block

/-! ### Immediate requests (R253) -/

/-- The partition of an initiator. -/
def partOf : Init → Option Nat
  | .part n => some n
  | _ => none

/-- An immediate request or commit as an action at the first grid slot after now (R232, R265); `group` is that of a
commit (R259). -/
def State.immAct (s : State) (x : Nat) (st lvl who group : Option Nat) : Act :=
  { Act.none_ with
    st := st, lvl := lvl, src := 5, prio := s.get F.SCH_PCTL_IMMPRIO, maxdef := some (s.get F.SCH_PCTL_IMMMAXDEF)
    plan := slotAfter (gridOf x) s.now, who := who, group := group }

/-- A command field of a channel as an action: 1 ON, 2 OFF, 3 LOW on a bridge or LEVEL on an LS or AM channel. None for a
reserved code or one the channel does not take. -/
def cmdAction (x code : Nat) (lvl : Nat) : Option (Option Nat × Option Nat) :=
  match code with
  | 1 => some (some 1, none)
  | 2 => some (some 0, none)
  | 3 => if 64 ≤ x ∧ x < 72 then some (some 2, none)
    else if isLed x && !isMx (x - 128) then some (none, some lvl) else none
  | _ => none

/-- The block of a target's registers. -/
def blockOfTarget (x : Nat) : Nat := if x < 72 then 3 else if x < 104 then 4 else 5

/-- A write of a command field through a single-channel alias: the request leaves its core (R253). The odd member of a pair
takes none (R284). -/
def State.immediate (s : State) (init : Init) (x code lvl : Nat) : State :=
  if code = 0 then s
  else if s.oddMember x then s.accErr 3
  else match cmdAction x code lvl with
    | some (st, l) => { s with sch := { s.sch with imm := s.sch.imm ++ [⟨x, st, l, partOf init⟩] } }
    | none => s.accErr (blockOfTarget x)

/-! ### Bridge pairs (R281 to R286) -/

/-- Puts pair k into pair mode where its members have one owner and are off (R282). -/
def State.pairOn (s : State) (k : Nat) : Option State :=
  let x := 64 + 2 * k
  if (s.ownerOf (targetSpec x)).isSome ∧ s.ownerOf (targetSpec x) = s.ownerOf (targetSpec (x + 1)) ∧ s.out x = 0 ∧ s.out (x + 1) = 0 then
    some ((s.put F.PSW_BPAIR_PAIR 1 k).mirrorPair x)
  else none

/-- Takes pair k out of pair mode where it coasts and neither a claim nor the towline holds it (R283). -/
def State.pairOff (s : State) (k : Nat) : Option State :=
  let x := 64 + 2 * k
  let c := s.chan x
  if s.out x = 0 ∧ c.brake = false ∧ c.claims = [] ∧ !s.towHolds x then
    let s1 := ((s.mirrorPair x).setProt (x + 1) (s.prot x)).put F.PSW_BPAIR_PAIR 0 k
    let s2 := (s1.setUnd x 0).setUnd (x + 1) 0
    let s3 := s2.setChan (x + 1) { c with claims := (s.chan (x + 1)).claims, undSet := true, last := none }
    some (((s3.setChan x { c with undSet := true }).putHeld x).putHeld (x + 1))
  else none

/-- A write of STOP (R285): a pair in its stop state changes between coast and brake as an immediate request. -/
def State.stopWrite (s : State) (k b : Nat) : State :=
  let x := 64 + 2 * k
  let s1 := s.put F.PSW_BPAIR_STOP b k
  if s1.paired k && s1.out x == 0 && !s1.held x && (s1.chan x).brake != s1.stopBrakes x then
    s1.drivePair x 0 (s1.stopBrakes x) (s1.immAct x (some 0) none none none)
  else s1

/-- A write of PSW_BPAIRk: PAIR acts first, and a refused change of PAIR drops the whole write. -/
def State.bpairWrite (s : State) (k : Nat) (v : Word) : State :=
  let pair := bitsOf v 0 0
  let s1 := if pair = s.get F.PSW_BPAIR_PAIR k then some s else if pair = 1 then s.pairOn k else s.pairOff k
  match s1 with
  | some t => (t.put F.PSW_BPAIR_DT (bitsOf v 8 4) k).stopWrite k (bitsOf v 1 1)
  | none => s.accErr 3

/-! ### Output-plane watchdog and towline (R309 to R316) -/

/-- Starts the watchdog with its full timeout in use (R309, R310). -/
def State.wdStart (s : State) : State := { s with psw := { s.psw with wdAt := some (s.now + s.psw.wdUse * msUnits) } }

/-- A completed refresh: the timeout written last takes effect. -/
def State.wdRefresh (s : State) : State :=
  { s with psw := { s.psw with
      wdUse := clampNat 10 1000 (s.get F.PSW_WDOG_WDTIME)
      towRefreshed := s.psw.towRefreshed || s.on F.PSW_WDSTAT_TOWACT } }.wdStart

/-- Time to expiry in ms, as PSW_WDSTAT.REMAIN shows it; 0 while the watchdog is stopped. -/
def State.wdRemain (s : State) : Nat :=
  match s.psw.wdAt with
  | some t => (t - s.now) / msUnits
  | none => 0

/-- The targets that the towline holds. -/
def towTargets : List Nat := allChannels

/-- Ends the towline (R314): channels take their underlying states under R235. -/
def State.towEnd (s : State) : State :=
  let s1 := { s.put F.PSW_WDSTAT_TOWACT 0 with psw := { s.psw with towRefreshed := false } }
  towTargets.foldl (fun t x => t.settle x 7) s1

/-- A write of PSW_WDOG (R309, R314): KEY acts before RELEASE. -/
def State.wdogWrite (s : State) (init : Init) (v : Word) : State :=
  let key := bitsOf v 7 0
  let others := s.psw.wdPairs.filter (fun i => i ≠ init)
  let s1 :=
    if key = 0 then s.put F.PSW_WDOG_WDTIME (bitsOf v 25 16)
    else if key = 0x5A then { s with psw := { s.psw with wdPairs := others ++ [init] } }
    else if key = 0xA5 ∧ init ∈ s.psw.wdPairs then { s with psw := { s.psw with wdPairs := others } }.wdRefresh
    else { s with psw := { s.psw with wdPairs := others } }.bump F.PSW_WDSTAT_KEYERR
  if bitsOf v 31 31 = 0 then s1
  else if s1.on F.PSW_WDSTAT_TOWACT && s1.psw.towRefreshed then s1.towEnd
  else s1.accErr 3

/-- A channel that the towline map does not name, or whose pin does not call it on. -/
def State.towOff (s : State) (x : Nat) : State :=
  let s1 := s.putHeld x
  if s1.towOut x = 0 then s1.settle x 2 else s1

/-- The towline takes over (R311): other channels go off, then mapped channels turn on in map order (R312). -/
def State.towTake (s : State) : State :=
  let s1 := { s.put F.PSW_WDSTAT_TOWACT 1 with psw := { s.psw with towRefreshed := false } }
  let s2 := (s1.eventAll s1.runningParts 3 3 0xFFFF).logEntry 11 3 0xFFFF 0
  let s3 := towTargets.foldl (fun t x => t.towOff x) s2
  s3.psw.tow.foldl (fun t e => t.settle e.x 2) s3

/-- The watchdog expires (R311): it stops; an expiry while the towline holds is only counted. -/
def State.wdExpire (s : State) : State :=
  let s1 := ({ s with psw := { s.psw with wdAt := none } }.bump F.PSW_WDSTAT_EXPIRIES).cum 12
  if s1.on F.PSW_WDSTAT_TOWACT then s1 else s1.towTake

/-! ### Planned-restart notices (R305) -/

/-- A write of PSW_PLANn by partition n; EXT 0 is no notice. -/
def State.planWrite (s : State) (n : Nat) (v : Word) : State :=
  let s1 := (s.put F.PSW_PLAN_EXT (bitsOf v 10 0) n).put F.PSW_PLAN_ARMED (if bitsOf v 10 0 = 0 then 0 else 1) n
  { s1 with psw := { s1.psw with notices := Sparse.set s1.psw.notices n s1.now } }

/-! ### Writes of the block's registers -/

/-- The effect of a write of a register of the power switch block, but for its group pages. -/
def State.pswWrite (s : State) (init : Init) (r : Reg) (i w : Nat) (v : Word) : State :=
  match r with
  | .PSW_CMD => s.immediate init i (bitsOf v 2 0) 0
  | .PSW_PROT => if bitsOf v 31 31 = 1 then s.protClear i else s
  | .PSW_WDOG => s.wdogWrite init v
  | .PSW_BPAIR => s.bpairWrite i v
  | .PSW_PLAN => s.planWrite i v
  | r => s.plainWrite r i 0 w v

/-! ### Meanings: protection -/

/-- R287: an output that conducts enters its limit. -/
def execCurrentLimitEntry (p : Nat) (s : State) : Host.Outcome State Fault Refusal :=
  let q := s.site p
  s.ends (if isSite p && s.pstate q == 1 then
    (s.setProt q { s.prot q with limitFrom := some s.now }).pput (fState q) q 2 else s)

/-- R287: short for the classification time while limiting. -/
def execShortClassified (p : Nat) (low hot : Bool) (s : State) : Host.Outcome State Fault Refusal :=
  let q := s.site p
  s.ends (if isSite p && (s.pstate q == 2 || (s.prot q).offAt == some (s.now / 1600)) then s.protCause q 1 low hot else s)

/-- R287: still limiting when TOVL has passed since the limit was entered. -/
def execOverloadClassified (p : Nat) (low hot : Bool) (s : State) : Host.Outcome State Fault Refusal :=
  let q := s.site p
  s.ends (match (s.prot q).limitFrom with
    | some t => if isSite p && s.pstate q == 2 && decide (t + s.tovl q ≤ s.now) then s.protCause q 2 low hot else s
    | none => s)

/-- R287: Tj reaches the shutdown threshold; the switch turns off whether or not it limits. -/
def execThermalShutdown (p : Nat) (low : Bool) (s : State) : Host.Outcome State Fault Refusal :=
  let q := s.site p
  s.ends (if isSite p then
    let s1 := (s.protCause q 3 low true).pput (fTwarn q) q 1
    s1.setProt q { s1.prot q with hot := true }
  else s)

/-- R291: below the limit for 10 µs. -/
def execLimitExit (p : Nat) (s : State) : Host.Outcome State Fault Refusal :=
  let q := s.site p
  s.ends (if isSite p && s.pstate q == 2 then (s.setProt q { s.prot q with limitFrom := none }).pput (fState q) q 1 else s)

/-- R290: a retry pause elapses. -/
def execRetryPauseEnd (p : Nat) (s : State) : Host.Outcome State Fault Refusal :=
  let q := s.site p
  s.ends (match (s.prot q).pauseEnd with
    | some t =>
      if isSite p && s.pstate q == 3 && decide (t ≤ s.now) then
        if (s.prot q).hot then (s.setProt q { s.prot q with pauseEnd := none }).pput (fState q) q 4 else s.protRelease q
      else s
    | none => s)

/-- R290: Tj falls to release; `warm` says whether it still lies above the warning threshold. -/
def execThermalRelease (p : Nat) (warm : Bool) (s : State) : Host.Outcome State Fault Refusal :=
  let q := s.site p
  s.ends (if isSite p then
    let s1 := (s.setProt q { s.prot q with hot := false }).pput (fTwarn q) q (if warm then 1 else 0)
    if s1.pstate q = 4 then s1.protRelease q else s1
  else s)

/-- The register that holds CLR of a site. -/
def protReg (p : Nat) : Reg := if p < 72 then .PSW_PROT else if p < 104 then .VLV_PROT else .VLV_BPROT

/-- R291, R292: CLR by the owner. -/
def execProtClear (init : Init) (p : Nat) (s : State) : Host.Outcome State Fault Refusal :=
  s.ends (if isSite p then s.owned init (protReg p) (siteIdx p) 0 0 (fun t => t.protClear p) else s)

/-- R291: CLEAN has passed without a break outside PAUSE, COOLWAIT and LATCHED. -/
def execCleanExpiry (p : Nat) (s : State) : Host.Outcome State Fault Refusal :=
  let q := s.site p
  let st := s.pstate q
  s.ends (match (s.prot q).cleanFrom with
    | some t =>
      if isSite p && (st == 0 || st == 1 || st == 2 || st == 6) && decide (t + s.clean q ≤ s.now) then
        (s.setProt q { s.prot q with cleanFrom := none }).pput (fAtt q) q 0
      else s
    | none => s)

/-! ### Meanings: bridge pairs -/

/-- R282. -/
def execPairModeOn (init : Init) (k : Nat) (s : State) : Host.Outcome State Fault Refusal :=
  s.ends (if k < 4 then s.owned init .PSW_BPAIR k 0 0 (fun t => t.bpairWrite k (t.word .PSW_BPAIR k 0 0 ||| 1)) else s)

/-- R283. -/
def execPairModeOff (init : Init) (k : Nat) (s : State) : Host.Outcome State Fault Refusal :=
  s.ends (if k < 4 then s.owned init .PSW_BPAIR k 0 0 (fun t => t.bpairWrite k (t.word .PSW_BPAIR k 0 0 &&& ~~~1)) else s)

/-- R285. -/
def execStopWrite (init : Init) (k : Nat) (brake : Bool) (s : State) : Host.Outcome State Fault Refusal :=
  s.ends (if k < 4 then s.owned init .PSW_BPAIR k 0 0
    (fun t => t.bpairWrite k (setBits (t.word .PSW_BPAIR k 0 0) 1 1 (if brake then 1 else 0))) else s)

/-! ### Meanings: diagnosis -/

/-- Sense step of a channel in units of 0.1 mA (R322). -/
def senseStep (x : Nat) : Nat := if 12 ≤ x ∧ x < 36 then 80 else if 36 ≤ x ∧ x < 60 then 25 else 160

/-- DINT in T0 units. -/
def State.dint (s : State) (x : Nat) : Nat :=
  (match s.get F.PSW_CFG_DINT x with
    | 0 => 100 | 1 => 250 | 2 => 500 | 3 => 1000 | 4 => 2000 | 5 => 5000 | 6 => 10000 | _ => 30000) * msUnits

/-- Whether on-state diagnosis runs: only in the full zone (R86, R296); the cut zone, of which R86 does not say it, counts as suspended
(DESIGN CHOICE, log entry 145). -/
def State.fullZone (s : State) : Bool := s.get F.PMU_SUPPLY_ZONE == 2

/-- Whether off-state diagnosis runs: in overvoltage too, which suspends on-state diagnosis alone (R86). -/
def State.offZone (s : State) : Bool := s.get F.PMU_SUPPLY_ZONE == 2 || s.get F.PMU_SUPPLY_ZONE == 3

/-- An on-state measurement of a channel that conducts (R297, R298): open load at the second of two consecutive measurements
below OLTHR, good otherwise. -/
def State.measureOn (s : State) (x isense method : Nat) : State :=
  let low := isense * senseStep x < s.get F.PSW_CFG_OLTHR x * 10
  let d := s.diag x
  (s.put F.PSW_DIAG_ISENSE (min 0xFFF isense) x).setDiag x { d with
    onRes := some (if low ∧ d.lowSeen then 2 else 1), method := method, lowSeen := decide low }

/-- R297: a converter completes an on-state measurement, in sense steps. -/
def execOnStateMeasurement (x isense : Nat) (s : State) : Host.Outcome State Fault Refusal :=
  s.ends (if isPower x && decide (x < 72) && !s.oddMember x && decide (s.out x ≠ 0) && s.fullZone then s.measureOn x isense 1 else s)

/-- R299: `low` is whether the output lay at V_OL or below under the pull-up, `high` whether it still lay above V_OL under the
pull-down. -/
def execOffStateDiagnosis (x : Nat) (low high : Bool) (s : State) : Host.Outcome State Fault Refusal :=
  s.ends (if isPower x && decide (x < 72) && !s.oddMember x && s.on F.PSW_CFG_OFFDIAG x && decide (s.out x = 0) &&
      !(s.chan x).brake && s.offZone then
    s.setDiag x { s.diag x with offRes := some (if low then 1 else if high then 3 else 2) } else s)

/-- The end of a diagnosis interval (R298, R300, R301): the first rule that fits, unless a protection finding stands. -/
def State.judge (s : State) (x : Nat) : State :=
  let d := s.diag x
  let st := s.pstate x
  let next : DiagSt := { d with
    onRes := none, offRes := none, planned := false, done := false, from_ := s.now }
  let fail := (s.setResult x 7).setDiag x { next with planned := s.on F.PSW_CFG_STRETCH x }
  if st = 3 ∨ st = 4 ∨ st = 5 then s.setDiag x next
  else if !s.offZone || (!s.fullZone && d.offRes.isNone) then (s.setResult x 0).setDiag x next
  else match d.onRes, d.offRes with
    | some r, _ => ((s.setResult x r).put F.PSW_DIAG_METHOD d.method x).setDiag x next
    | none, some r => ((s.setResult x r).put F.PSW_DIAG_METHOD 2 x).setDiag x next
    | none, none =>
      if s.on F.PSW_CFG_STRETCH x && !d.planned then s.setDiag x { next with planned := true }
      else fail

/-- R300: an interval of DINT ends. -/
def execDiagnosisIntervalEnd (x : Nat) (s : State) : Host.Outcome State Fault Refusal :=
  s.ends (if isPower x && decide (x < 72) && !s.oddMember x && decide ((s.diag x).from_ + s.dint x ≤ s.now) then s.judge x else s)

/-- R301: a stretch ends with its measurement, in sense steps, and the delayed turn-off; a hold that took the output meanwhile
leaves nothing to turn off, and an action that has set the channel on since leaves it on. -/
def execDiagnosticStretchEnd (x isense : Nat) (s : State) : Host.Outcome State Fault Refusal :=
  s.ends (match (s.diag x).stretching with
    | some (t, a) =>
      if t ≤ s.now then
        let s1 := s.setDiag x { s.diag x with stretching := none }
        if s1.out x = 0 ∨ s1.held x ∨ s1.und x ≠ 0 then s1 else (if s1.fullZone then s1.measureOn x isense 3 else s1).drive x 0 a
      else s
    | none => s)

/-! ### Meanings: notices, watchdog, towline -/

/-- R305. -/
def execPlannedRestartNotice (init : Init) (n ext : Nat) (s : State) : Host.Outcome State Fault Refusal :=
  s.ends (if n < 4 then s.owned init .PSW_PLAN n 0 0 (fun t => t.planWrite n (BitVec.ofNat 32 (ext % 2048))) else s)

/-- R305: 5 s after the write. -/
def execNoticeLapse (n : Nat) (s : State) : Host.Outcome State Fault Refusal :=
  s.ends (match Sparse.get s.psw.notices n with
    | some t => if s.on F.PSW_PLAN_ARMED n && decide (t + 5 * secUnits ≤ s.now) then s.put F.PSW_PLAN_ARMED 0 n else s
    | none => s)

/-- A write of PSW_WDOG by an initiator. -/
def State.wdogBy (s : State) (init : Init) (v : Nat) : State :=
  s.owned init .PSW_WDOG 0 0 0 (fun t => t.wdogWrite init (BitVec.ofNat 32 v))

/-- R309. -/
def execWatchdogKey5a (init : Init) (s : State) : Host.Outcome State Fault Refusal := s.ends (s.wdogBy init 0x5A)

/-- R309. -/
def execWatchdogKeyA5 (init : Init) (s : State) : Host.Outcome State Fault Refusal := s.ends (s.wdogBy init 0xA5)

/-- R309: any other key; a key that is 0, 0x5A or 0xA5 is none of this command's. -/
def execWatchdogWrongKey (init : Init) (key : Nat) (s : State) : Host.Outcome State Fault Refusal :=
  s.ends (if key % 256 = 0 ∨ key % 256 = 0x5A then s else s.wdogBy init (key % 256))

/-- R309: KEY 0 sets WDTIME. -/
def execWdtimeWrite (init : Init) (ms : Nat) (s : State) : Host.Outcome State Fault Refusal :=
  s.ends (s.wdogBy init (ms % 1024 * 65536))

/-- R314: RELEASE, with the KEY and WDTIME of the same write. -/
def execTowlineRelease (init : Init) (ms key : Nat) (s : State) : Host.Outcome State Fault Refusal :=
  s.ends (s.wdogBy init (2 ^ 31 + ms % 1024 * 65536 + key % 256))

/-- R311. -/
def execOutputPlaneWatchdogExpiry (s : State) : Host.Outcome State Fault Refusal :=
  s.ends (match s.psw.wdAt with
    | some t => if t ≤ s.now then s.wdExpire else s
    | none => s)

/-- R313: a TOW pin has held a new level for its filter time; mapped channels follow in map order while the towline holds. -/
def execTowPinChange (pin : Nat) (level : Bool) (s : State) : Host.Outcome State Fault Refusal :=
  let s1 := s.put F.PSW_TOWSTAT_PINS (setBit (s.get F.PSW_TOWSTAT_PINS) pin level)
  s.ends (if pin < 8 then
    if s1.on F.PSW_WDSTAT_TOWACT then (s1.psw.tow.filter (fun e => e.pin == pin)).foldl (fun t e => t.settle e.x 2) s1 else s1
  else s)

end Sys2Proof.Machine
end

