-- ==== Sys2Proof/Machine/Valve.lean ====
section
/-! DEFINITION. The valve block: bank arbitration, current profiles, diagnosis and movement detection (R323 to R350), and the
meanings of its commands. Output i is VBb.n with i = 6·b + n. -/

set_option Elab.async false

namespace Sys2Proof.Machine

/-- MOVEM; 3 is taken as 0. -/
def State.movem (s : State) (i : Nat) : Nat := if s.get F.VLV_CFG_MOVEM i = 3 then 0 else s.get F.VLV_CFG_MOVEM i

/-- Whether a waiting request has waited longer than its output's MAXDLY (R331). -/
def State.tooLate (s : State) (r : ValveReq) : Bool :=
  let m := s.get F.VLV_CFG_MAXDLY r.i
  r.limited && decide (m ≠ 255) && decide (r.act.plan + m * msUnits < s.now)

/-- Drops a waiting request (R331): its output's underlying state goes off and the owner of its source hears of it; a request
of the default state is reported to the output's owner (DEDUCED, log entry 9). -/
def State.dropValve (s : State) (r : ValveReq) : State :=
  let x := 80 + r.i
  let s1 := (((s.valveUnqueue r.i).bump F.VLV_CNT_DROPPED r.i).cum 17).setUnd x 0
  let arg := if r.act.src = 3 ∨ r.act.src = 4 then r.act.table else 0xFFFF
  match (if r.act.who.isSome then r.act.who else s.ownerOf (targetSpec x)) with
  | some n => s1.event n 4 1 x r.act.src arg
  | none => s1

/-- Takes note that no movement was found (R345). -/
def State.noMovement (s : State) (i : Nat) : State :=
  ((s.put F.VLV_DIAG_MOVE 2 i).bump F.VLV_CNT_NOMOVE i).eventTo (targetSpec (80 + i)) 4 3 (80 + i)

/-- Admits a request: the low side of its output turns on, and its peak rise counts from the 10 % point (R325, R330, R332, R333). -/
def State.admitValve (s : State) (r : ValveReq) : State :=
  let i := r.i
  let b := i / 6
  let x := 80 + i
  let t := slotAt 1600 s.now
  let waited := decide (r.slot < t)
  let a : Act := { r.act with lead := r.act.lead && !waited }
  let s1 := ((s.valveUnqueue i).put F.VLV_CMD_PHASE 2 i).put F.VLV_BSTAT_PEAK (i % 6) b
  let s2 := if (s1.vout i).judging then s1.put F.VLV_DIAG_MOVE 3 i else s1
  let time := s.word .VLV_TIME i 0 0
  let on := s2.edgeInstant x (s2.effective x a.plan) a.lead (if a.src = 3 then some a.table else none)
  let s3 := s2.setVout i { s2.vout i with
    until_ := some (on + max 1 (bitsOf time 23 16) * 100 * usUnits)
    onAt := on
    act := some a
    judging := s.movem i == 1
    prof := s.word .VLV_PROF i 0 0
    time := time }
  let s4 := (((s3.setOut x 1).edge x true a).bump F.VLV_BCNT_PEAKS b).valveFollow i
  let s5 := if waited then s4.bump F.VLV_CNT_WAITED i else s4
  (s5.bankCurrent b).trailFrom x t r.act

/-- The sequencer of bank b at a grid slot (R332): drops what waited too long, then admits the head of the queue or counts
that the hold budget delays it. -/
def State.bankSlot (s : State) (b : Nat) : State :=
  let s1 := ((s.vq b).filter s.tooLate).foldl State.dropValve s
  let st := s1.get F.VLV_BPROT_STATE b
  match s1.vq b with
  | [] => s1
  | r :: rest =>
    if s1.get F.VLV_BSTAT_PEAK b ≠ 0xF ∨ 3 ≤ st ∧ st ≤ 5 then s1
    else
      let ihold := clampNat 4 60 (s1.get F.VLV_PROF_IHOLD r.i)
      if s1.holdSum b + ihold ≤ 2 * min 100 (s1.get F.VLV_BCFG_HBUD b) ∨ s1.holdSum b = 0 then s1.admitValve r
      else if r.counted then s1
      else (s1.setVq b ({ r with counted := true } :: rest)).bump F.VLV_BCNT_BUDWAIT b

/-- The end of peak rise for movement detection by current dip (R344): no dip is no movement; outside the full zone it is not
judged (R343). -/
def State.dipEnd (s : State) (i : Nat) : State :=
  if (s.vout i).judging then
    let s1 := s.setVout i { s.vout i with judging := false }
    if s1.fullZone then s1.noMovement i else s1.put F.VLV_DIAG_MOVE 3 i
  else s

/-- Enters hold (R325); from the commit point on a park-held output stays there whatever THOLD says (R543, DEDUCED, log entry 176). -/
def State.enterHold (s : State) (i : Nat) : State :=
  let v := s.vout i
  let s1 := (s.put F.VLV_CMD_PHASE 4 i).put F.VLV_BSTAT_PEAK 0xF (i / 6)
  let until_ := if bit v.prof.toNat 31 && !(s.pmu.handed && s.parkHeld (80 + i)) then some (s.now + max 1 (bitsOf v.time 15 0) * msUnits) else none
  ((s1.setVout i { v with until_ := until_ }).putHsum (i / 6)).bankCurrent (i / 6)

/-- Enters hold from a peak that reached IPEAK: ISENSE, in codes of 2.5 mA, becomes a free value within the limits of R351 about IHOLD (DESIGN
CHOICE, log entry 160). -/
def State.holdFromPeak (s : State) (i : Nat) : State :=
  let err := s.ihold i + 12
  ((s.put F.VLV_DIAG_ISENSE (20 * s.ihold i - err + s.fresh % (2 * err + 1)) i).tookFresh).enterHold i

/-- Whether an output's phase timer has run out. -/
def State.phaseDue (s : State) (i : Nat) : Bool :=
  match (s.vout i).until_ with
  | some t => decide (t ≤ s.now)
  | none => false

/-- The effect of a write of a register of the valve block, but for its group pages. A MOVEM of none shows MOVE not
configured. -/
def State.vlvWrite (s : State) (init : Init) (r : Reg) (i w : Nat) (v : Word) : State :=
  match r with
  | .VLV_CMD => s.immediate init (80 + i) (if bitsOf v 2 0 = 3 then 4 else bitsOf v 2 0) 0
  | .VLV_PROT => if bitsOf v 31 31 = 1 then s.protClear (80 + i) else s
  | .VLV_BPROT => if bitsOf v 31 31 = 1 then s.protClear (104 + i) else s
  | .VLV_CFG =>
    let s1 := s.plainWrite r i 0 w v
    if s1.movem i = 0 then (s1.put F.VLV_DIAG_MOVE 0 i).setVout i { s1.vout i with judging := false } else s1
  | r => s.plainWrite r i 0 w v

/-! ### Meanings -/

/-- R330. -/
def execValveAdmission (b : Nat) (s : State) : Host.Outcome State Fault Refusal := s.ends (if b < 4 ∧ s.psw.clockLost = false then s.bankSlot b else s)

/-- R338: the current of output i reaches IPEAK; `isense` is its code. -/
def execPeakReached (i isense : Nat) (s : State) : Host.Outcome State Fault Refusal :=
  let v := s.vout i
  let ttp := s.now - v.onAt
  s.ends (if i < 24 ∧ s.get F.VLV_CMD_PHASE i = 2 then
    let s1 := (s.put F.VLV_DIAG_TTP (min 0x3FFF (ttp / (10 * usUnits))) i).put F.VLV_DIAG_ISENSE (min 0xFFF isense) i
    let s2 :=
      if !s.fullZone then s1.setResult (80 + i) 0
      else if ttp < bitsOf v.time 31 24 * 100 * usUnits then (s1.setResult (80 + i) 5).bump F.VLV_CNT_PKFAULT i
      else s1.setResult (80 + i) 1
    let s3 := s2.dipEnd i
    let tpeak := bitsOf v.prof 27 20
    if tpeak = 0 then s3.holdFromPeak i
    else ((s3.put F.VLV_CMD_PHASE 3 i).setVout i { s3.vout i with until_ := some (s.now + tpeak * 100 * usUnits) }).bankCurrent (i / 6)
  else s)

/-- R325, R338: TPKMAX passes before IPEAK; below 100 mA the coil is open. -/
def execTpkmaxExpiry (i isense : Nat) (s : State) : Host.Outcome State Fault Refusal :=
  s.ends (if i < 24 ∧ s.get F.VLV_CMD_PHASE i = 2 ∧ s.phaseDue i then
    let s1 := s.put F.VLV_DIAG_ISENSE (min 0xFFF isense) i
    let s2 :=
      if !s.fullZone then s1.setResult (80 + i) 0
      else if isense * 25 < 1000 then s1.setResult (80 + i) 2
      else (s1.setResult (80 + i) 6).bump F.VLV_CNT_PKFAULT i
    (s2.dipEnd i).enterHold i
  else s)

/-- R325: peak regulation ends. -/
def execTpeakExpiry (i : Nat) (s : State) : Host.Outcome State Fault Refusal :=
  s.ends (if i < 24 ∧ s.get F.VLV_CMD_PHASE i = 3 ∧ s.phaseDue i then s.holdFromPeak i else s)

/-- R325, R327: a timed hold ends; the edge takes the source of the action that started the profile. -/
def execTholdExpiry (i : Nat) (s : State) : Host.Outcome State Fault Refusal :=
  s.ends (if i < 24 ∧ s.get F.VLV_CMD_PHASE i = 4 ∧ s.phaseDue i then
    let a := (s.vout i).act.getD (ownAct 5 0)
    (s.setUnd (80 + i) 0).valveTurnOff i { a with plan := slotAt 1600 s.now, width := none, lead := false, steps := 0 }
  else s)

/-- R326: the current falls below 20 mA. -/
def execDecayEnd (i : Nat) (s : State) : Host.Outcome State Fault Refusal :=
  let b := i / 6
  s.ends (if i < 24 ∧ s.get F.VLV_CMD_PHASE i = 5 then
    let s1 := (s.put F.VLV_CMD_PHASE (if (s.vq b).any (fun r => r.i == i) then 1 else 0) i).setOut (80 + i) 0
    let s2 := if Sparse.get s1.vlv.fast b = some i then
        { s1 with vlv := { s1.vlv with fast := Sparse.erase s1.vlv.fast b } }.put F.VLV_BSTAT_PEAK 0xF b else s1
    s2.setVout i { s2.vout i with decayEnd := some s.now, judging := s.movem i == 2 }
  else s)

/-- R331. -/
def execMaxdlyExpiry (i : Nat) (s : State) : Host.Outcome State Fault Refusal :=
  s.ends (match (s.vq (i / 6)).find? (fun r => r.i == i) with
    | some r => if s.tooLate r then s.dropValve r else s
    | none => s)

/-- R339, R340: the current of bank b, in codes of 5 mA, exceeds the sum of its low sides for 1 ms; `pins` are its outputs whose
pins lie below V_OL. -/
def execCurrentMismatch (b ibank pins : Nat) (s : State) : Host.Outcome State Fault Refusal :=
  s.ends (if b < 4 ∧ (bankIdx b).any s.valveLive then
    let s1 := (s.put F.VLV_BSTAT_IBANK (min 0xFFF ibank) b).raise F.VLV_BSTAT_SGND b
    let low := (bankIdx b).filter (fun i => bit pins (i % 6) && !s.valveLive i)
    let found := if low = [] then (bankIdx b).filter (fun i => s.get F.VLV_CMD_PHASE i == 4) else low
    let s2 := found.foldl (fun t i => t.setResult (80 + i) 4) s1
    if s2.on F.VLV_BCFG_SGOFF b then s2.protCause (104 + b) 1 false (s2.prot (104 + b)).hot else s2
  else s)

/-- R341: an off-state test of output i: its pin below V_OL, its pin above 6 V, VBb.C below V_OL. Where R86 suspends it the result is not
measured (R296, R343). -/
def execValveOffStateDiagnosis (i : Nat) (pinLow pinHigh comLow : Bool) (s : State) : Host.Outcome State Fault Refusal :=
  let b := i / 6
  s.ends (if i < 24 ∧ s.on F.VLV_CFG_OFFDIAG i ∧ s.out (80 + i) = 0 then
    if !s.offZone then s.setResult (80 + i) 0
    else if (bankIdx b).any s.valveLive then
      s.setResult (80 + i) (if !pinLow then 1 else if s.on F.VLV_BSTAT_SGND b then 4 else 2)
    else if (bankIdx b).all (fun n => s.out (80 + n) == 0) then
      s.setResult (80 + i) (if pinHigh then 3 else if comLow then 4 else if pinLow then 2 else 1)
    else s
  else s)

/-- Writes a movement stamp (R345). -/
def State.movement (s : State) (i t : Nat) : State :=
  (((s.setVout i { s.vout i with judging := false }).put F.VLV_DIAG_MOVE 1 i).deliver .VLV_MOVE i 0 (t0Words (min t s.now)))

/-- R344: a dip is found in peak rise; t is the T0 instant of its lowest sample. -/
def execCurrentDip (i t : Nat) (s : State) : Host.Outcome State Fault Refusal :=
  s.ends (if i < 24 ∧ s.get F.VLV_CMD_PHASE i = 2 ∧ s.movem i = 1 ∧ (s.vout i).judging ∧ s.fullZone then s.movement i t else s)

/-- R344: a kink is found after decay; t is its T0 instant. -/
def execClosingKink (i t : Nat) (s : State) : Host.Outcome State Fault Refusal :=
  s.ends (if i < 24 ∧ s.out (80 + i) = 0 ∧ s.movem i = 2 ∧ (s.vout i).judging ∧ s.fullZone then s.movement i t else s)

/-- R344: KWIN passes without a kink. -/
def execKinkWindowEnd (i : Nat) (s : State) : Host.Outcome State Fault Refusal :=
  s.ends (match (s.vout i).decayEnd with
    | some t =>
      if i < 24 ∧ s.movem i = 2 ∧ (s.vout i).judging ∧ s.out (80 + i) = 0 ∧
          t + s.get F.VLV_CFG_KWIN i * 100 * usUnits ≤ s.now then
        let s1 := s.setVout i { s.vout i with judging := false }
        if s.fullZone then s1.noMovement i else s1.put F.VLV_DIAG_MOVE 3 i
      else s
    | none => s)

end Sys2Proof.Machine
end

