-- ==== Sys2Proof/Machine/Led.lean ====
section
/-! DEFINITION. The lighting block: undercoat periods, strings, segments, ambient gain, exposure windows, stencils, faults and
the neighbour-pin test (R352 to R391), and the meanings of its commands. Channels are named by membership bit m (R255),
segments by 12·ss + kk. -/

set_option Elab.async false

namespace Sys2Proof.Machine

/-! ### Results and faults -/

/-- Sets RESULT of an LED channel; a change places an "LED fault" event in its owner's queue (R381). -/
def State.ledResult (s : State) (m r : Nat) : State :=
  let f := if m < 16 then F.LGT_SDIAG_RESULT else if m < 128 then F.LGT_MXDIAG_RESULT else F.LGT_AMDIAG_RESULT
  let i := if m < 16 then m else if m < 128 then m - 32 else m - 128
  if s.get f i = r then s else (s.put f r i).eventTo (ledBitSpec m) 5 1 (m + 128) r

/-- A protective switch-off of a string or AM channel, latched at once (R379, R380). -/
def State.ledTrip (s : State) (m cause : Nat) : State :=
  let i := if m < 16 then m else m - 128
  let (fl, fc) := if m < 16 then (F.LGT_SPROT_LATCH, F.LGT_SPROT_CAUSE) else (F.LGT_APROT_LATCH, F.LGT_APROT_CAUSE)
  let s1 := ((s.put fl 1 i).put fc cause i).holdOff (m + 128) pOff
  let s2 := if m < 16 ∧ cause = 1 then s1.bump F.LGT_SCNT_SHORTS m else if m < 16 ∧ cause = 2 then s1.bump F.LGT_SCNT_OPENS m else s1
  let res := if m < 16 then (match cause with | 1 => 3 | 2 => 2 | _ => 4) else (if cause = 4 then 3 else 4)
  (((s2.ledResult m res).cum 15).cum 14).logEntry 12 5 i (m + 128) cause

/-- CLR of a string or AM channel (R365, R381): the latch and every bypass of the string's segments end. -/
def State.ledClear (s : State) (m : Nat) : State :=
  let s1 := if m < 16 then s.put F.LGT_SPROT_LATCH 0 m else s.put F.LGT_APROT_LATCH 0 (m - 128)
  let s2 := (segBits m).foldl (fun t g => if bit (t.chan (g + 128)).prot pBypass then t.holdEnd (g + 128) pBypass else t) s1
  if bit (s2.chan (m + 128)).prot pOff then s2.holdEnd (m + 128) pOff else s2

/-- Holds every string and AM channel off for a reason and gives it a result. -/
def State.lightsOff (s : State) (reason res : Nat) : State :=
  lightBits.foldl (fun t m =>
    let t1 := t.holdOff (m + 128) reason
    if reason = pSupply ∧ 128 ≤ m then t1 else t1.ledResult m res) s
/-- Ends a reason that holds the strings and AM channels off; a string whose RESULT was supply fault reads not measured (log entry 47). -/
def State.lightsBack (s : State) (reason : Nat) : State :=
  lightBits.foldl (fun t m =>
    let t1 := if bit (t.chan (m + 128)).prot reason then t.holdEnd (m + 128) reason else t
    if reason = pSupply ∧ m < 16 ∧ t1.get F.LGT_SDIAG_RESULT m = 6 then t1.ledResult m 0 else t1) s

/-! ### Ambient gain (R367) -/

/-- Temperature and gain of point j of curve c. -/
def State.curveT (s : State) (c j : Nat) : Int := signedOf 8 (bitsOf (s.word .LGT_CURVE c 0 j) 31 24)
def State.curveG (s : State) (c j : Nat) : Nat := max 256 (bitsOf (s.word .LGT_CURVE c 0 j) 11 0)

/-- Whether a curve's temperatures rise strictly. -/
def State.curveOk (s : State) (c : Nat) : Bool := (List.range 7).all (fun j => decide (s.curveT c j < s.curveT c (j + 1)))

/-- The gain of a curve at a temperature in units of 1/1,024. Between points the exact value is rounded down or up, which the
spec leaves open: `up` chooses (DESIGN CHOICE, log entry 10). -/
def State.curveGain (s : State) (c : Nat) (t : Int) (up : Nat) : Nat :=
  if t ≤ s.curveT c 0 then s.curveG c 0
  else match (List.range 7).find? (fun j => decide (t ≤ s.curveT c (j + 1))) with
    | some j =>
      let d := s.curveT c (j + 1) - s.curveT c j
      let num := Int.ofNat (s.curveG c j) * d + (Int.ofNat (s.curveG c (j + 1)) - Int.ofNat (s.curveG c j)) * (t - s.curveT c j)
      (num / d).toNat + (if num % d = 0 then 0 else up % 2)
    | none => s.curveG c 7

/-- One AM channel takes its gain at a temperature. -/
def State.gainTo (s : State) (i : Nat) (t : Int) : State :=
  let c := s.get F.LGT_DIM_CURVE (128 + i)
  let s1 :=
    if s.curveOk c then
      let s2 := (s.put F.LGT_AMDIAG_GAIN (s.curveGain c t s.fresh) i).tookFresh
      if s2.get F.LGT_AMDIAG_RESULT i = 6 then s2.ledResult (128 + i) 0 else s2
    else (s.put F.LGT_AMDIAG_GAIN 1024 i).ledResult (128 + i) 6
  s1.ledFollow (128 + i) (s1.led (128 + i)).lvl

/-! ### Undercoat periods (R359 to R363) -/

/-- A new period of a channel starts at an instant: its range and its N are taken anew; N′ stands while hold mode locks the channel (R370,
R372). -/
def State.ledPeriodStart (s : State) (m t : Nat) : State :=
  let lh := s.ledLH m
  let l := s.ledLevel m
  let under := s.on F.LGT_STATE_RANGE m
  let under' := if under then decide (l < lh) else decide (l < lh - lh / 8)
  let c := s.led m
  let hold := if s.get F.LGT_DIM_LOCK m = 2 ∧ s.ledLocked m then c.nHold else none
  let n := hold.getD c.nNext
  let s1 := (s.put F.LGT_STATE_RANGE (if under' then 1 else 0) m).setLed m
    { c with pstart := t, n := n, nHold := hold, lit := !under' || decide (n ≠ 0) }
  (s1.segDuty m).lockRefresh m

/-- Whether a channel's light is held constant by hold mode: a window is open under an effective LOCK 2. -/
def State.ledFrozen (s : State) (m : Nat) : Bool :=
  s.get F.LGT_DIM_LOCK m == 2 && s.on F.LGT_STATE_LOCKED m && (s.led m).open_.isSome

/-! ### Exposure windows (R368 to R373) -/

/-- Whether declaration k is one whose windows a channel follows: for LOCK 1 the lowest set in EXPMASK, for LOCK 2 each set. -/
def State.follows (s : State) (m k : Nat) : Bool :=
  let mask := s.get F.LGT_DIM_EXPMASK m
  match s.get F.LGT_DIM_LOCK m with
  | 1 => bit mask k && (List.range k).all (fun q => !bit mask q)
  | 2 => bit mask k
  | _ => false

/-- N′ of hold mode (R372): whether the output was held on, G between the two latest openings, LEN of the merged window, all in T0 units. -/
def holdSteps (n : Nat) (on : Bool) (g len p : Nat) : Nat :=
  if g < len + p then n
  else
    let sOn : Int := if on then 1 else 0
    let num := Int.ofNat n * Int.ofNat g - 1024 * sOn * Int.ofNat len
    let d := Int.ofNat (g - len)
    (clampInt 0 1024 ((2 * num + d) / (2 * d))).toNat

/-- A channel's merged window closes at its end: a channel locked in hold mode starts a period with N′, and the stencil actions kept back
apply (R372, R373). -/
def State.ledWindowClose (s : State) (m : Nat) : State :=
  let c := s.led m
  let frozen := s.ledFrozen m
  let e := c.open_.getD s.now
  let s1 := s.setLed m { c with open_ := none, heldActs := [] }
  let s2 :=
    if frozen then
      match c.opens with
      | o1 :: o0 :: _ =>
        let n' := holdSteps c.nNext c.lit (o1 - o0) (e - o1) (s.ledPeriod m)
        (s1.setLed m { s1.led m with nHold := some n' }).ledPeriodStart m e
      | _ => s1
    else s1
  c.heldActs.foldl (fun t a => t.actOn (m + 128) { a with plan := slotAt 160 e }) s2

/-- A window of length LEN opens for a channel at an instant: it merges with one that is open there, restarts the period of a channel locked in
equal-integral mode, and freezes one locked in hold mode (R369, R371, R372). -/
def State.ledWindowOpen (s : State) (m at_ len : Nat) : State :=
  let fresh (t : State) : State :=
    let c := t.led m
    let s1 := (t.setLed m { c with opens := at_ :: c.opens.take 1, open_ := some (at_ + len) }).lockRefresh m
    if !s1.on F.LGT_STATE_LOCKED m then s1
    else if s1.get F.LGT_DIM_LOCK m = 1 then s1.ledPeriodStart m at_
    else s1.setLed m { s1.led m with lit := decide (4 * s1.get F.LGT_DIM_HTHR m ≤ (s1.led m).nNext), n := (s1.led m).nNext }
  match (s.led m).open_ with
  | some e => if at_ < e then s.setLed m { s.led m with open_ := some (max e (at_ + len)) } else fresh (s.ledWindowClose m)
  | none => fresh s

/-! ### Stencils (R374 to R378) -/

def State.stn (s : State) (i : Nat) : StencilSt := Sparse.at s.lgt.stencils i StencilSt.idle
def State.setStn (s : State) (i : Nat) (v : StencilSt) : State :=
  { s with lgt := { s.lgt with stencils := Sparse.set s.lgt.stencils i v } }

/-- The owner of stencil i and its registers. -/
def State.stnOwner (s : State) (i : Nat) : Option Nat := s.ownerOf (.item 0x0B (160 + i))

/-- The members that stencil i acts on by ordinal, as membership bits; those its owner does not own are passed over. -/
def State.stnMembers (s : State) (i first last : Nat) : List Nat :=
  (((s.members 5 i).take (last + 1)).drop first).filter (fun m => s.ownerOf (ledBitSpec m) == s.stnOwner i)

/-- A stencil's action at its instant: an immediate request of its owner, dispatched with the lead (R377). -/
def State.stnAct (s : State) (i at_ : Nat) (st lvl : Option Nat) : Act :=
  { Act.none_ with
    st := st, lvl := lvl, src := 5, prio := s.get F.SCH_PCTL_IMMPRIO, maxdef := some (s.get F.SCH_PCTL_IMMMAXDEF), table := stencilMark
    entry := i, plan := slotAt 160 at_, lead := true, who := s.stnOwner i }

/-- Applies a stencil action to a member, or keeps it for the close of a window the member is locked in (R373). -/
def State.stnApply (s : State) (i at_ m : Nat) (st lvl : Option Nat) : State :=
  let a := s.stnAct i at_ st lvl
  if s.on F.LGT_STATE_LOCKED m && (s.led m).open_.isSome && !isMx m then
    s.setLed m { s.led m with heldActs := (s.led m).heldActs ++ [a] }
  else s.actOn (m + 128) a

/-- Stops a stencil in a state with an error code. -/
def State.stnEnd (s : State) (i st err : Nat) : State :=
  ((s.put F.LGT_STNSTAT_STATE st i).put F.LGT_STNSTAT_ERR err i).setStn i { s.stn i with ramp := none }

/-- Starts step 0 at an instant (R378). -/
def State.stnRun (s : State) (i at_ : Nat) : State :=
  (((s.put F.LGT_STNSTAT_STATE 2 i).put F.LGT_STNSTAT_ERR 0 i).put F.LGT_STNSTAT_STEP 0 i).setStn i
    { s.stn i with step := 0, next := at_, loops := [], zero := 0, ramp := none }

/-- GO of stencil i (R378); its program, scale and start instant are taken at GO. Without the stencil library no stencil runs (R138). -/
def State.stnGo (s : State) (i : Nat) : State :=
  let st := s.get F.LGT_STNSTAT_STATE i
  if st = 1 ∨ st = 2 then s.accErr 5
  else if 0x21 ∈ s.boot.missing then s
  else
    let skipped := ((s.members 5 i).filter (fun m => s.ownerOf (ledBitSpec m) != s.stnOwner i)).length
    let s1 := (s.put F.LGT_STNSTAT_SKIPPED (min 255 skipped) i).setStn i { s.stn i with prog := s.get F.LGT_STNCTL_PROG i }
    if s1.get F.LGT_STNCTL_AT i = 0 then s1.stnRun i (slotAfter 160 s1.now)
    else
      let sc := s1.get F.LGT_STNCTL_SCALE i
      let v := s1.timeAt .LGT_STNAT i 0 0 / 4096 * 4096
      match s1.t0Of sc (Int.ofNat v) with
      | none => s1.stnEnd i 5 4
      | some u =>
        if u < s1.now + usUnits then (s1.stnRun i (slotAfter 160 s1.now)).raise F.LGT_STNSTAT_PAST i
        else (s1.put F.LGT_STNSTAT_STATE 1 i).setStn i { s1.stn i with scale := sc, armedAt := v }

/-- STOP of stencil i, or a restart of its owner: members keep their state. -/
def State.stnStop (s : State) (i : Nat) : State :=
  let st := s.get F.LGT_STNSTAT_STATE i
  if st = 1 ∨ st = 2 then (s.put F.LGT_STNSTAT_STATE 4 i).setStn i { s.stn i with ramp := none } else s

/-- A write of LGT_STNsCTL: a GO on a stencil that is armed or runs drops the write. -/
def State.stnWrite (s : State) (i : Nat) (v : Word) : State :=
  let st := s.get F.LGT_STNSTAT_STATE i
  if bitsOf v 31 31 = 1 ∧ (st = 1 ∨ st = 2) then s.accErr 5
  else
    let s1 := s.plainWrite .LGT_STNCTL i 0 0 v
    if bitsOf v 31 31 = 1 then s1.stnGo i else if bitsOf v 30 30 = 1 then s1.stnStop i else s1

/-- The level a RAMP gives a member at an instant. Between its ends the exact value is rounded down or up, which the spec
leaves open: `up` chooses (DESIGN CHOICE, log entry 10). -/
def rampLevel (r : Ramp) (from_ t up : Nat) : Nat :=
  if r.dur ≤ t - r.start then r.level
  else
    let num := Int.ofNat from_ * Int.ofNat r.dur + (Int.ofNat r.level - Int.ofNat from_) * Int.ofNat (t - r.start)
    (num / Int.ofNat r.dur).toNat + (if num % Int.ofNat r.dur = 0 then 0 else up % 2)

/-- Moves the levels of a running RAMP to the present instant; at its end segments change as for SET. -/
def State.rampMove (s : State) (i : Nat) (r : Ramp) (ended : Bool) : State :=
  let u := if ended then r.start + r.dur else s.now
  let s1 := r.levels.foldl (fun t e =>
    (t.stnApply i u e.1 none (some (if ended then r.level else rampLevel r e.2 t.now t.fresh))).tookFresh) s
  if ended then
    let s2 := r.segs.foldl (fun t m => t.stnApply i u m (some (if r.level = 0 then 0 else 1)) none) s1
    s2.setStn i { s2.stn i with ramp := none }
  else s1

/-- Faults a stencil whose step breaks its format (R378). -/
def State.stnFault (s : State) (i err : Nat) : State :=
  match s.stnOwner i with
  | some n => (s.stnEnd i 5 err).event n 5 3 0xFFFF
  | none => s.stnEnd i 5 err

/-- Executes the step to come of a running stencil (R375 to R378). A reserved bit that is not zero breaks R375; the spec names no ERR for it, and
ERR is a free value (DESIGN CHOICE, log entry 162). -/
def State.stnStep (s0 : State) (i : Nat) : State :=
  let s := match (s0.stn i).ramp with
    | some r => s0.rampMove i r true
    | none => s0
  let c := s.stn i
  let a := 0x405A0000 + 512 * c.prog + 8 * c.step
  let w0 := s.rd32 a
  let w1 := s.rd32 (a + 4)
  let opc := bitsOf w0 31 28
  let first := bitsOf w0 23 16
  let last := bitsOf w0 15 8
  let level := bitsOf w1 31 16
  let time := bitsOf w1 15 0
  let s1 := s.put F.LGT_STNSTAT_STEP c.step i
  let ms := s1.stnMembers i first last
  let still := if time = 0 ∨ opc = 4 then c.zero + 1 else 0
  let next : StencilSt := { c with step := (c.step + 1) % 64, next := c.next + time * 100 * usUnits, zero := still }
  let onOff (st : Nat) (t : State) : State := ms.foldl (fun u m => u.stnApply i c.next m (some st) none) t
  if 7 ≤ opc then s1.stnFault i 1
  else if bitsOf w0 27 24 ≠ 0 ∨ bitsOf w0 7 6 ≠ 0 then (s1.stnFault i (s1.fresh % 16)).tookFresh
  else if (opc = 1 ∨ opc = 2 ∨ opc = 5 ∨ opc = 6) ∧ last < first then s1.stnFault i 2
  else if opc = 0 then
    match s1.stnOwner i with
    | some n => (s1.stnEnd i 3 0).event n 5 2 0xFFFF
    | none => s1.stnEnd i 3 0
  else if 64 ≤ still then s1.stnEnd i 5 5
  else if opc = 1 then
    (ms.foldl (fun u m => if isMx m then u.stnApply i c.next m (some (if level = 0 then 0 else 1)) none
      else u.stnApply i c.next m none (some level)) s1).setStn i next
  else if opc = 2 then
    let lights := ms.filter (fun m => !isMx m)
    let r : Ramp := ⟨lights.map (fun m => (m, s1.get F.LGT_STATE_LEVEL m)), ms.filter isMx, level, c.next, time * 100 * usUnits⟩
    s1.setStn i { next with ramp := some r }
  else if opc = 3 then s1.setStn i next
  else if opc = 4 then
    let cnt := Sparse.at c.loops c.step 0
    if level = 0 ∨ cnt < level then
      s1.setStn i { next with step := bitsOf w0 5 0, next := c.next, loops := Sparse.set c.loops c.step (cnt + 1) }
    else s1.setStn i { next with next := c.next, loops := Sparse.erase c.loops c.step }
  else if opc = 5 then (onOff 1 s1).setStn i next
  else (onOff 0 s1).setStn i next

/-! ### Neighbour-pin short test (R382 to R386) -/

/-- What stands at a pin position (R71): (m, tested) for an OUT or RET pin or a matrix node of the string m, or an AM pin of
membership bit m, which is in no tested set. -/
def pinOf (k : Nat) : Option (Nat × Bool) :=
  if 136 ≤ k ∧ k < 184 then (if (k - 136) % 3 = 0 then none else some ((k - 136) / 3, true))
  else if 184 ≤ k ∧ k < 272 then some ((k - 184) / 11, true)
  else if 272 ≤ k ∧ k < 308 then some (128 + (k - 272), false)
  else none

/-- Whether two positions of the pin field of 37 columns are neighbours (R382). -/
def neighbours (a b : Nat) : Bool :=
  (decide (a + 1 = b) && decide (b % 37 ≠ 0)) || (decide (b + 1 = a) && decide (a % 37 ≠ 0)) || a + 37 == b || b + 37 == a

/-- Begins a test of strings that are off (R385): each is held with PSTATE 5. -/
def State.ntBegin (s : State) (mask : Nat) : State :=
  let ns := (bitList 16 mask).filter (fun n => s.out (n + 128) == 0 && (s.led n).starting.isNone)
  if ns = [] then s
  else
    let s1 := { s with lgt := { s.lgt with testing := ns, testFail := [], testPassed := false } }.put F.LGT_STAT_NTBUSY 1
    ns.foldl (fun t n => (t.setHold (n + 128) pTest true).putHeld (n + 128)) s1

/-- A write of LGT_CTL (R385). -/
def State.ntWrite (s : State) (v : Word) : State :=
  if s.on F.LGT_STAT_NTBUSY then s.accErr 5
  else s.ntBegin (if bitsOf v 31 31 = 1 then 0xFFFF else bitsOf v 15 0)

/-- Names the first failing pair of a string. -/
def State.ntName (s : State) (m a b : Nat) : State :=
  if m < 16 ∧ m ∉ s.lgt.testFail then
    let s1 := (s.put F.LGT_NT_PINA a m).put F.LGT_NT_PINB b m
    { s1 with lgt := { s1.lgt with testFail := m :: s1.lgt.testFail } }
  else s

/-- The result of one pair (R383, R384): `short` when the driven pin stayed below the threshold. -/
def State.ntPair (s : State) (a b : Nat) (short : Bool) : State :=
  match pinOf a, pinOf b with
  | some (m, true), some (q, _) =>
    let tested := (s.on F.LGT_STAT_NTBUSY && s.lgt.testing.contains m) ||
      s.integ.tests.any (fun (t : Nat × SvcTest) => t.2.op == 2 && t.2.idx == m)
    if tested && neighbours a b then
      if s.out (q + 128) ≠ 0 then { s with lgt := { s.lgt with testPassed := true } }
      else if short then
        let s1 := (s.ntName m a b).ntName q a b
        let s2 := s1.ledTrip m 3
        if q = m then s2 else s2.ledTrip q 3
      else s
    else s
  | _, _ => s

/-- A string's test ends (R386): an action that waited for it is applied with its own planned instant, unless it is no longer what the string's
sources give it. -/
def State.testOver (s : State) (n : Nat) : State :=
  let x := n + 128
  let w := (s.led n).waiting
  let s1 := (((s.setLed n { s.led n with waiting := none }).setHold x pTest false).putHeld x).settleLevel x
  match w, s1.wanted x with
  | some a, some st =>
    if !s1.held x && (a.st == some st || (a.src == 6 && s1.byDefault x)) then s1.request x st { a with st := some st, lead := false, width := none }
    else s1.settle x 7
  | _, _ => s1.settle x 7

/-- The end of the test (R384, R386). -/
def State.ntEnd (s : State) : State :=
  let ns := s.lgt.testing
  let res (n : Nat) : Nat := if s.lgt.testFail.contains n then 2 else if s.lgt.testPassed then 3 else 1
  let s1 := ns.foldl (fun t n => t.put F.LGT_NT_NTRES (res n) n) (s.put F.LGT_STAT_NTBUSY 0)
  let s2 := { s1 with lgt := { s1.lgt with testing := [] } }
  let s3 := ns.foldl (fun t n => t.testOver n) s2
  let who := (List.range 4).filter (fun p =>
    s3.blockOwner 5 == some p || ns.any (fun n => s3.ownerOf (.item 0x04 n) == some p))
  s3.eventAll who 5 4 0xFFFF

/-- The drive current of a string that is on, in mA: its level of the full scale in topcoat, the handover current in undercoat (R357, R359). A
value between two codes is rounded down or up, which the spec leaves open (DESIGN CHOICE, log entry 161). -/
def State.driveCurrent (s : State) (n : Nat) : Nat :=
  let full := (s.led n).ifs * 10
  let (num, den) := if s.on F.LGT_STATE_RANGE n then (clampNat 5 25 (s.get F.LGT_DIM_HOVR n) * full, 100) else ((s.led n).lvl * full, 65535)
  num / den + (if num % den = 0 then 0 else s.fresh % 2)

/-! ### Writes of the block's registers -/

/-- The effect of a write of a register of the lighting block, but for its group pages. -/
def State.lgtWrite (s : State) (init : Init) (r : Reg) (i j w : Nat) (v : Word) : State :=
  match r with
  | .LGT_CMD =>
    let c := bitsOf v 2 0
    s.immediate init (i + 128) (if c = 4 then 3 else if c = 3 then 7 else c) (bitsOf v 31 16)
  | .LGT_SPROT => if bitsOf v 31 31 = 1 then s.ledClear i else s
  | .LGT_APROT => if bitsOf v 31 31 = 1 then s.ledClear (128 + i) else s
  | .LGT_DIM =>
    let s1 := s.plainWrite r i j w v
    let same := s1.get F.LGT_DIM_LOCK i == s.get F.LGT_DIM_LOCK i && s1.get F.LGT_DIM_EXPMASK i == s.get F.LGT_DIM_EXPMASK i
    if isMx i then s1
    else (s1.setLed i { s1.led i with
        nNext := ledN (s1.ledLevel i) (s1.ledLH i), opens := if same then (s1.led i).opens else [] }).lockRefresh i
  | .LGT_EXPW =>
    let s1 := s.plainWrite r i j w v
    let same := s1.on F.LGT_EXPW_EN i && s1.get F.LGT_EXPW_TPO i == s.get F.LGT_EXPW_TPO i
    (if same then s1 else { s1 with lgt := { s1.lgt with windows := Sparse.erase s1.lgt.windows i } }).exposures
  | .LGT_STNCTL => s.stnWrite i v
  | .LGT_CTL => s.ntWrite v
  | r => s.plainWrite r i j w v

/-! ### Meanings: periods and strings -/

/-- R360: a period of channel m ends and the next starts. -/
def execUndercoatPeriodStart (m : Nat) (s : State) : Host.Outcome State Fault Refusal :=
  let c := s.led m
  s.ends (if lightBits.contains m && s.out (m + 128) != 0 && decide (c.pstart + s.ledPeriod m ≤ s.now) && !s.ledFrozen m then
    s.ledPeriodStart m (c.pstart + s.ledPeriod m) else s)

/-- R360: the pulse of N steps that begins a period ends. -/
def execUndercoatPulseEnd (m : Nat) (s : State) : Host.Outcome State Fault Refusal :=
  let c := s.led m
  s.ends (if lightBits.contains m && s.out (m + 128) != 0 && s.on F.LGT_STATE_RANGE m && c.lit && !s.ledFrozen m &&
      decide (c.n < 1024) && decide (c.pstart + c.n * (s.ledPeriod m / 1024) ≤ s.now) then s.setLed m { c with lit := false } else s)

/-- R355: a string with IDLE 0 reaches regulation and its shunt opens. -/
def execStringStartTimeEnd (m : Nat) (s : State) : Host.Outcome State Fault Refusal :=
  let x := m + 128
  s.ends (match (s.led m).starting with
    | some a =>
      let s1 := s.setLed m { s.led m with starting := none }
      let s2 := (s1.setOut x 1).edge x true { a with lead := false }
      (s2.ledStart m (slotAt 160 s.now)).lockRefresh m
    | none => s)

/-- R357: VLED, in units of 0.1 V, falls below the stop threshold. -/
def execVledStop (vled : Nat) (s : State) : Host.Outcome State Fault Refusal :=
  s.ends (((s.put F.LGT_STAT_VLOW 1).put F.LGT_STAT_VLED (min 1023 vled)).lightsOff pSupply 6)

/-- R357: VLED rises above the resume threshold. -/
def execVledResume (vled : Nat) (s : State) : Host.Outcome State Fault Refusal :=
  s.ends (((s.put F.LGT_STAT_VLOW 0).put F.LGT_STAT_VLED (min 1023 vled)).lightsBack pSupply)

/-- The string of a segment shows a segment fault. -/
def State.segFault (s : State) (g : Nat) : State := s.ledResult (g / 12) 7

/-- R364: the voltage across a lit segment's LED, in units of 0.1 V, lies below the short threshold. -/
def execSegmentShort (g vseg : Nat) (s : State) : Host.Outcome State Fault Refusal :=
  s.ends (if g < 96 ∧ s.out (160 + g) ≠ 0 ∧ s.out (128 + g / 12) ≠ 0 then
    ((s.put F.LGT_MXDIAG_VSEG (min 255 vseg) g).ledResult (32 + g) 3).segFault g else s)

/-- R365: the voltage across a lit segment exceeds the open threshold and its switch closes. -/
def execSegmentBypass (g vseg : Nat) (s : State) : Host.Outcome State Fault Refusal :=
  let n := g / 12
  s.ends (if g < 96 ∧ s.out (160 + g) ≠ 0 ∧ s.on F.LGT_SCFG_OPENBYP n then
    let s1 := ((s.put F.LGT_MXDIAG_VSEG (min 255 vseg) g).holdOff (160 + g) pBypass).bump F.LGT_SCNT_BYPASS n
    (s1.ledResult (32 + g) 2).segFault g
  else s)

/-- R367: every 10 ms; the sensor of triplet t reads a temperature code (0x80: not measured). -/
def execGainUpdate (t temp : Nat) (s : State) : Host.Outcome State Fault Refusal :=
  s.ends (if t < 12 then
    let w := s.word .LGT_TRIT 0 0 (t / 4)
    let s1 := s.setWord .LGT_TRIT 0 0 (t / 4) (setBits w (8 * (t % 4) + 7) (8 * (t % 4)) temp)
    if temp % 256 = 0x80 then s1
    else [3 * t, 3 * t + 1, 3 * t + 2].foldl (fun u i => u.gainTo i (signedOf 8 temp)) s1
  else s)

/-! ### Meanings: exposure windows -/

/-- R369 to R372: a window of declaration k opens, OFFS after a planned leading edge of its TPO; one of an inactive declaration does not. -/
def execWindowOpening (k : Nat) (s : State) : Host.Outcome State Fault Refusal :=
  s.ends (match Sparse.at s.lgt.windows k [] with
    | t :: ts =>
      let u := t + s.get F.LGT_EXPW_OFFS k * 160
      if u ≤ s.now then
        let s1 := { s with lgt := { s.lgt with windows := Sparse.set s.lgt.windows k ts } }
        if s.on F.LGT_EXPW_ACTIVE k then
          (lightBits.filter (fun m => s.follows m k)).foldl (fun v m => v.ledWindowOpen m u (s.get F.LGT_EXPW_LEN k * 160)) s1
        else s1
      else s
    | [] => s)

/-- R372, R373: windows of declaration k's channels that have run their length close. -/
def execWindowClosing (k : Nat) (s : State) : Host.Outcome State Fault Refusal :=
  s.ends ((lightBits.filter (fun m => s.follows m k && (match (s.led m).open_ with
    | some e => decide (e ≤ s.now)
    | none => false))).foldl (fun u m => u.ledWindowClose m) s)

/-- R368: no leading edge has been planned within the last second. -/
def execExposureWindowLapse (k : Nat) (s : State) : Host.Outcome State Fault Refusal :=
  s.ends (if k < 4 ∧ !s.expActive k then s.exposures else s)

/-! ### Meanings: stencils -/

/-- R378: GO with the fields of LGT_STNsCTL as they stand. -/
def execStencilGo (init : Init) (i : Nat) (s : State) : Host.Outcome State Fault Refusal :=
  s.ends (if i < 16 then s.owned init .LGT_STNCTL i 0 0 (fun t => t.stnWrite i (t.word .LGT_STNCTL i 0 0 ||| 0x80000000)) else s)

/-- R378: STOP. -/
def execStencilStop (init : Init) (i : Nat) (s : State) : Host.Outcome State Fault Refusal :=
  s.ends (if i < 16 then s.owned init .LGT_STNCTL i 0 0 (fun t => t.stnWrite i (t.word .LGT_STNCTL i 0 0 ||| 0x40000000)) else s)

/-- R378: the start instant of an armed stencil is reached; where a step of its scale passed it, step 0 is at the next grid slot. -/
def execStencilStart (i : Nat) (s : State) : Host.Outcome State Fault Refusal :=
  s.ends (match s.t0Of (s.stn i).scale (Int.ofNat (s.stn i).armedAt) with
    | some u => if s.get F.LGT_STNSTAT_STATE i = 1 ∧ u ≤ s.now then s.stnRun i (if u + 160 ≤ s.now then slotAt 160 s.now else u) else s
    | none => s)

/-- R377: the instant of a step; one that reads as uncorrectable is taken as a reserved operation (R630). -/
def execStencilStep (i : Nat) (unc : Bool) (s : State) : Host.Outcome State Fault Refusal :=
  s.ends (if i < 16 ∧ s.get F.LGT_STNSTAT_STATE i = 2 ∧ (s.stn i).next ≤ s.now then
    if unc then (s.ramLost 5 11 (0x405A0000 + 512 * (s.stn i).prog + 8 * (s.stn i).step)).stnFault i 1 else s.stnStep i
  else s)

/-- R376: a RAMP is updated every 100 µs. -/
def execRampUpdate (i : Nat) (s : State) : Host.Outcome State Fault Refusal :=
  s.ends (match (s.stn i).ramp with
    | some r => if s.get F.LGT_STNSTAT_STATE i = 2 ∧ s.now < r.start + r.dur then s.rampMove i r false else s
    | none => s)

/-! ### Meanings: faults -/

/-- Whether string n counts as having a lit LED (R379). -/
def State.anyLit (s : State) (n : Nat) : Bool := decide (8 ≤ n) || (segBits n).any (fun g => s.out (g + 128) != 0)

/-- R379: VOUT, in units of 0.1 V, lies below VSHORT for 20 µs. -/
def execStringShort (n vout : Nat) (s : State) : Host.Outcome State Fault Refusal :=
  s.ends (if n < 16 ∧ s.out (n + 128) ≠ 0 ∧ s.anyLit n then (s.put F.LGT_SDIAG_VOUT (min 1023 vout) n).ledTrip n 1 else s)

/-- R379: no current at full voltage for 20 µs; `idrv` is the drive current in mA. -/
def execStringOpen (n vout idrv : Nat) (s : State) : Host.Outcome State Fault Refusal :=
  s.ends (if n < 16 ∧ s.out (n + 128) ≠ 0 then
    ((s.put F.LGT_SDIAG_VOUT (min 1023 vout) n).put F.LGT_SDIAG_IDRV (min 0xFFF idrv) n).ledTrip n 2 else s)

/-- R379: the LED die reaches the thermal shutdown at a temperature code. -/
def execLedDieShutdown (tj : Nat) (s : State) : Host.Outcome State Fault Refusal :=
  s.ends ((((s.put F.LGT_STAT_TSHUT 1).put F.LGT_STAT_TWARN 1).put F.LGT_STAT_TJ tj).lightsOff pThermal 5)

/-- R379: the die has cooled by the hysteresis; `warm` says whether it still lies above the warning. -/
def execLedDieRelease (tj : Nat) (warm : Bool) (s : State) : Host.Outcome State Fault Refusal :=
  s.ends ((((s.put F.LGT_STAT_TSHUT 0).put F.LGT_STAT_TWARN (if warm then 1 else 0)).put F.LGT_STAT_TJ tj).lightsBack pThermal)

/-- R380: an AM pin exceeds its over-voltage threshold while it sinks. -/
def execAmPinOvervoltage (i : Nat) (s : State) : Host.Outcome State Fault Refusal :=
  s.ends (if i < 36 ∧ s.out (256 + i) ≠ 0 then s.ledTrip (128 + i) 4 else s)

/-- R380: an AM channel cannot reach its current; reported only. -/
def execAmLowHeadroom (i : Nat) (s : State) : Host.Outcome State Fault Refusal :=
  s.ends (if i < 36 ∧ s.out (256 + i) ≠ 0 then s.ledResult (128 + i) 2 else s)

/-- R381: CLR of a string (m below 16) or AM channel by the owner. -/
def execLedProtClear (init : Init) (m : Nat) (s : State) : Host.Outcome State Fault Refusal :=
  s.ends (if m < 16 then s.owned init .LGT_SPROT m 0 0 (fun t => t.ledClear m)
    else if 128 ≤ m ∧ m < 164 then s.owned init .LGT_APROT (m - 128) 0 0 (fun t => t.ledClear m) else s)

/-! ### Meanings: neighbour test -/

/-- R385: NTREQ. -/
def execNeighbourTestRequest (init : Init) (mask : Nat) (s : State) : Host.Outcome State Fault Refusal :=
  s.ends (s.owned init .LGT_CTL 0 0 0 (fun t => t.ntWrite (BitVec.ofNat 32 (mask % 65536))))

/-- R385: NTFULL. -/
def execNeighbourTestFull (init : Init) (s : State) : Host.Outcome State Fault Refusal :=
  s.ends (s.owned init .LGT_CTL 0 0 0 (fun t => t.ntWrite 0x80000000))

/-- R383, R384: the pair of pin positions a and b has been tested. -/
def execNeighbourPairTest (a b : Nat) (short : Bool) (s : State) : Host.Outcome State Fault Refusal := s.ends (s.ntPair a b short)

/-- R386: every pair has been tested. -/
def execNeighbourTestEnd (s : State) : Host.Outcome State Fault Refusal :=
  s.ends (if s.on F.LGT_STAT_NTBUSY then s.ntEnd else s)

end Sys2Proof.Machine
end

