-- ==== Sys2Proof/Machine/Plane.lean ====
section
/-! DEFINITION. The schedule plane's commands: table entries and bank swaps (R239 to R252), pulses and deferrals, immediate
requests, group pages and commits (R253 to R260), reflex rules (R268 to R272), and the end of a hold window (R306). -/

set_option Elab.async false

namespace Sys2Proof.Machine

/-! ### Ownership of an action's target (R238) -/

/-- Counts an action dropped for want of ownership in SYS_OWNDROP of the owner of its source, with the address of the entry or
rule that made it. -/
def State.specDrop (s : State) (who : Option Nat) (sp : OwnSpec) (addr : Nat) : State :=
  match who with
  | some n =>
    ((s.bump F.SYS_OWNDROP_DROPS n).put F.SYS_OWNLAST_ADDR (addr / 4) n).put F.SYS_OWNLAST_CAUSE
      (if (s.ownerOf sp).isSome then 0 else 1) n
  | none => s

/-- An action on a target that the owner of its source does not own. -/
def State.actDrop (s : State) (who : Option Nat) (x addr : Nat) : State := s.specDrop who (targetSpec x) addr

/-- Whether the owner of a source owns target x. -/
def State.whoOwns (s : State) (who : Option Nat) (x : Nat) : Bool :=
  match who with
  | some n => s.ownerOf (targetSpec x) == some n
  | none => false

/-- Applies an action to a single target or to the members of a group that accept it (R238, R240). -/
def State.actTgt (s : State) (g : Tgt) (action addr : Nat) (who : Option Nat) (act : Nat → Act) : State :=
  match g with
  | .one x =>
    if !s.accepts x action then s
    else if s.whoOwns who x then s.actOn x (act x) else s.actDrop who x addr
  | .group block k =>
    let xs := ((s.members block k).filterMap (memberTarget block)).filter (fun x => s.accepts x action)
    let s1 := (xs.filter (fun x => s.whoOwns who x)).foldl (fun t x => t.actOn x (act x)) s
    match who with
    | some n => if k < 32 then s1.bumpBy F.SYS_OWNDROP_SKIPS (xs.filter (fun x => !s.whoOwns who x)).length n else s1
    | none => s1
  | .bad => s

/-! ### Group pages: staging and commit -/

/-- Whether a page of a block carries a register of the channel register set for one member: every channel of a block has them all (R254, R256). -/
def pageHas (block m : Nat) (r : Reg) : Bool :=
  (memberTarget block m).isSome && r.block == block

/-- Stages a written register for one member (R256); a later staging replaces an earlier one. -/
def State.stage (s : State) (block g who : Nat) (r : Reg) (m : Nat) (v : Word) : State :=
  let rest := s.sch.staged.filter (fun f => !(f.block == block && f.group == g && f.reg = r && f.i == m &&
    (decide (g < 32) || f.who == who)))
  { s with sch := { s.sch with staged := rest ++ [⟨block, g, who, r, m, v⟩] } }

/-- The number a writer's stagings go under: its partition, or 7. -/
def writerNo (init : Init) : Nat := (partOf init).getD 7

/-- Whether a writer owns a member's channel; the boot loader and the Siari engine are exempt (R48). -/
def State.writerOwns (s : State) (init : Init) (x : Nat) : Bool :=
  match init with
  | .part n => s.ownerOf (targetSpec x) == some n
  | .boot | .siari => true
  | _ => false

/-- A write at a channel register's position in group page g, or in the all-channel page (g = 32) (R50, R51, R256). -/
def State.pageWrite (s : State) (init : Init) (block g : Nat) (r : Reg) (v : Word) (addr : Nat) : State :=
  let spec : OwnSpec := .item 0x0B ((if block = 3 then 96 else if block = 4 then 128 else 160) + g)
  let allowed := match init with
    | .part _ => decide (g = 32) || s.ownsSpec init spec
    | .boot | .siari => s.applying
    | _ => false
  if !allowed then
    match init with
    | .part n =>
      ((s.bump F.SYS_OWNDROP_DROPS n).put F.SYS_OWNLAST_ADDR (addr / 4) n).put F.SYS_OWNLAST_CAUSE
        (if (s.ownerOf spec).isSome then 0 else 1) n
    | _ => s.accErr block
  else if !r.writable then s.accErr block
  else
    let ms := (s.members block g).filter (fun m => pageHas block m r)
    let mine := ms.filter (fun m => match memberTarget block m with
      | some x => s.writerOwns init x
      | none => false)
    let s1 := mine.foldl (fun t m => t.stage block g (writerNo init) r m v) s
    let s2 := match init with
      | .part n => if g < 32 then s1.bumpBy F.SYS_OWNDROP_SKIPS (ms.length - mine.length) n else s1
      | _ => s1
    s2.putPend block g

/-- Whether a commit's write of a register gives way to one of a higher group at the same grid slot (R259). -/
def State.writeYields (s : State) (f : StagedFld) (slot : Nat) : Bool :=
  s.sch.wrote.any (fun q => q.1 = f.reg && q.2.1 == f.i && q.2.2.1 == slot && decide (f.group < q.2.2.2))

/-- Takes note of a commit's write of a register at a grid slot. -/
def State.noteWrite (s : State) (f : StagedFld) (slot : Nat) : State :=
  { s with sch := { s.sch with wrote := s.sch.wrote.filter (fun q => decide (slot ≤ q.2.2.1)) ++ [(f.reg, f.i, slot, f.group)] } }

/-- The effect of one staged register on its member: a command acts as an action, any other register takes the value as
written (R256, R257); of two commits at one grid slot the one of the higher group applies (R259). -/
def State.commitOne (s : State) (f : StagedFld) (act : Nat → Option Nat → Option Nat → Act) : State :=
  match memberTarget f.block f.i with
  | none => s
  | some x =>
    let code := bitsOf f.val 2 0
    match f.reg with
    | .PSW_CMD | .VLV_CMD | .LGT_CMD =>
      let c := if f.block = 5 then (if code = 4 then 3 else if code = 3 then 7 else code)
        else if f.block = 4 ∧ code = 3 then 7 else code
      if code = 0 ∨ s.oddMember x then s
      else match cmdAction x c (bitsOf f.val 31 16) with
        | some (st, lvl) => s.actOn x (act x st lvl)
        | none => s.accErr f.block
    | r =>
      let slot := (act x none none).plan
      if s.writeYields f slot then s
      else
        let s1 := s.noteWrite f slot
        if f.block = 3 then s1.pswWrite .boot r f.i 0 f.val
        else if f.block = 4 then s1.vlvWrite .boot r f.i 0 f.val
        else s1.lgtWrite .boot r f.i 0 0 f.val

/-- Takes the staged fields of a group, or of one writer's in the all-channel page, out of the stage, in the order of its members. -/
def State.unstage (s : State) (block g : Nat) (who : Nat) : State × List StagedFld :=
  let hit (f : StagedFld) : Bool := f.block == block && f.group == g && (decide (g < 32) || f.who == who)
  let fs := s.sch.staged.filter hit
  ({ s with sch := { s.sch with staged := s.sch.staged.filter (fun f => !hit f) } }.putPend block g,
    (memberBits block).flatMap (fun m => fs.filter (fun f => f.i == m)))

/-- A commit makes every staged field of a group take effect (R257 to R259); of the all-channel page those of one writer. -/
def State.commit (s : State) (block g : Nat) (who : Nat) (act : Nat → Option Nat → Option Nat → Act) : State :=
  let p := s.unstage block g who
  p.2.foldl (fun u f => u.commitOne f act) p.1

/-- The owner of group g of a block. -/
def groupSpec (block g : Nat) : OwnSpec := .item 0x0B ((if block = 3 then 96 else if block = 4 then 128 else 160) + g)

/-- A scheduled commit (R238, R257): a group that the table's owner does not own is dropped; members that it does not own are skipped. -/
def State.commitFor (s : State) (block g addr : Nat) (who : Option Nat) (act : Nat → Option Nat → Option Nat → Act) : State :=
  if g < 32 ∧ (who = none ∨ s.ownerOf (groupSpec block g) ≠ who) then s.specDrop who (groupSpec block g) addr
  else
    let p := s.unstage block g (who.getD 7)
    let owns (f : StagedFld) : Bool := (memberTarget block f.i).any (fun x => s.whoOwns who x)
    let skipped := ((p.2.filter (fun f => !owns f)).map (fun f => f.i)).eraseDups.length
    let s1 := match who with
      | some n => if g < 32 then p.1.bumpBy F.SYS_OWNDROP_SKIPS skipped n else p.1
      | none => p.1
    (p.2.filter owns).foldl (fun u f => u.commitOne f act) s1

/-- A write of a commit register (R257, R260): COMMIT leaves the core, DISCARD acts at once, both together are dropped. -/
def State.gctlWrite (s : State) (init : Init) (block g : Nat) (v : Word) : State :=
  let c := bitsOf v 31 31
  let d := bitsOf v 30 30
  if c = 1 ∧ d = 1 then s.accErr block
  else if c = 1 then { s with sch := { s.sch with commits := s.sch.commits ++ [⟨block, g, some (writerNo init)⟩] } }
  else if d = 1 then s.discard block g (some (writerNo init))
  else s

/-- A write of MEMBERw of a group: staged fields are discarded (R260); bits that name no channel stay 0. -/
def State.memberWrite (s : State) (block g w : Nat) (v : Word) : State :=
  let full : Word := (match block with | 3 => Reg.PSW_AMEMBER | 4 => .VLV_AMEMBER | _ => .LGT_AMEMBER).rst w 0 0
  (s.setWord (groupReg block) g w 0 (v &&& full)).discard block g none

/-! ### Occurrences of schedule entries -/

/-- The action of an occurrence planned at an instant (R239, R242), with the next one of its entry. -/
def State.entAct (s : State) (t b e plan : Nat) (next : Option Nat) (grid : Nat) (st lvl : Option Nat) : Act :=
  let j := entJ b e
  { Act.none_ with
    st := st, lvl := lvl, src := 4, prio := s.get F.SCH_ENTRY_PRIO t j, maxdef := some (s.get F.SCH_ENTRY_MAXDEF t j), table := t, entry := e
    notify := s.on F.SCH_ENTRY_NOTIFY t j, plan := plan, lead := true
    width := if s.get F.SCH_ENTRY_ACTION t j = 3 then some (s.get F.SCH_ENTRY_ARG t j * grid) else none
    icls := s.get F.SCH_ENTRY_ICLASS t j, who := s.ownerOf (.item 0x09 t), next := next }

/-- Resolves and executes the action of an occurrence (R238, R240, R257). -/
def State.occur (s : State) (t b e plan : Nat) (next : Option Nat) : State :=
  let j := entJ b e
  let action := s.get F.SCH_ENTRY_ACTION t j
  let g := s.entTgt t b e
  let who := s.ownerOf (.item 0x09 t)
  let addr := Reg.SCH_ENTRY.addr t j 0
  if action = 0 then s
  else if action = 6 then
    match g with
    | .group block k =>
      s.commitFor block k addr who (fun x st lvl =>
        { s.entAct t b e plan next (gridOf x) st lvl with width := none, group := some k })
    | _ => s
  else
    s.actTgt g action addr who (fun _ =>
      s.entAct t b e plan next g.grid (actionState action)
        (if action = 4 then some (s.get F.SCH_ENTRY_ARG t j % 65536) else none))

/-- Without its clock CI-PWR executes nothing but the towline (R643). -/
def State.clocked (s : State) : Bool := !s.psw.clockLost

/-- In PARK and DEEP PARK no table runs and no rule is evaluated (R252), and none without the island's clock (R643). -/
def State.planeRuns (s : State) : Bool := !s.parked && s.clocked

/-- The read of an entry finds an uncorrectable word: it is invalid until rewritten, and counted (R630). -/
def State.entLost (s : State) (t b e : Nat) : State :=
  let a := Reg.SCH_ENTRY.addr t (entJ b e) 0
  (((s.markBad a).ramLost 2 8 a).setEntSt t b e { s.entSt t b e with bad := true }).bump F.SCH_TCNT1_BADENT t

/-- R242: the occurrence of entry e of table t reaches its planned instant; one already handed is made whatever became of
RUN (R245). -/
def execScheduleOccurrence (t e : Nat) (unc : Bool) (s : State) : Host.Outcome State Fault Refusal :=
  let b := s.actBank t
  let st := s.entSt t b e
  s.ends (if !s.planeRuns || decide (8 ≤ t) || decide (512 ≤ e) then s
    else match st.handed with
      | (plan, next) :: rest => if plan ≤ s.now then (s.setEntSt t b e { st with handed := rest }).occur t b e plan next else s
      | [] =>
        match s.entNext t b e with
        | some plan =>
          if s.on F.SCH_TCTL_RUN t && decide (plan ≤ s.now) then
            if unc then s.entLost t b e else (s.setEntSt t b e { st with k := st.k + 1 }).occur t b e plan (s.entAfter t b e)
          else s
        | none => s)

/-- A PULSE claim of a rule passes into its trailing state, which it holds until release (R270). -/
def State.claimTrail (s : State) (r x : Nat) (a : Act) : State :=
  let c := s.chan x
  let s1 := s.setChan x { c with claims := c.claims.map (fun k => if k.rule = r then { k with st := some 0, trail := none } else k) }
  match s1.wanted x with
  | some w => s1.request x w { a with st := some w }
  | none => s1

/-- R242: a trailing edge of target x; it sets the underlying state off, and the output unless a hold stands. As an edge of its action it
contends with the other actions of its grid slot (R236, DEDUCED, log entry 158). -/
def execPulseTrailingEdge (x : Nat) (s : State) : Host.Outcome State Fault Refusal :=
  s.ends (match s.sch.pulses.find? (fun p => p.x == x && decide (p.due ≤ s.now) && s.clocked) with
    | some p =>
      let s1 := { s with sch := { s.sch with pulses := s.sch.pulses.erase p } }
      let a : Act := { p.act with st := some 0, plan := p.due, steps := 0 }
      match p.claim with
      | some r => if (s1.chan x).claims.any (fun k => k.rule == r) then s1.claimTrail r x a else s1
      | none => s1.contend x a (fun t =>
          let t1 := t.setUnd x 0
          t.noteAct (if t1.heldFor x a.src || t1.stands x 0 then t1 else t1.change x 0 a) x a)
    | none => s)

/-- R264: a deferred turn-on of target x falls due again. A hold cancels nothing (R266): on a channel that one has taken meanwhile the turn-on
stays in the underlying state, a PULSE ends its width later, and a schedule action is counted as MASKED. -/
def execDeferredTurnOnDue (x : Nat) (s : State) : Host.Outcome State Fault Refusal :=
  s.ends (match s.sch.defer.find? (fun d => d.x == x && decide (d.due ≤ s.now) && (s.clocked || d.act.src == 2)) with
    | some d =>
      let s1 := { s with sch := { s.sch with defer := s.sch.defer.erase d } }
      if s1.heldFor x d.act.src ∧ !(d.act.src = 2 ∧ s1.towHolds x ∧ (s1.chan x).prot = 0) ∧
          !(d.act.src = 3 ∧ (s1.chan x).prot = 0 ∧ !s1.towHolds x) then
        (if d.act.src = 4 then s1.bump F.SCH_TCNT1_MASKED d.act.table else s1).trailFrom x (slotAt (gridOf x) s1.now) d.act
      else s1.postilion x (d.act.st.getD 1) d.act
    | none => s)

/-! ### Tables -/

def State.table (s : State) (t : Nat) : TableSt := Sparse.at s.sch.tables t ⟨none, false⟩
def State.setTable (s : State) (t : Nat) (v : TableSt) : State :=
  { s with sch := { s.sch with tables := Sparse.set s.sch.tables t v } }

/-- An entry of the active bank begins when RUN becomes 1 or its bank becomes active (R241, R243): an invalid entry is counted,
occurrences less than 1 µs ahead are passed over. While its scale is invalid an entry is suspended at its first occurrence
(R244). -/
def State.entBegin (s : State) (t b e : Nat) : State :=
  let bad := s.entInvalid t b e
  let st := s.entSt t b e
  let s1 := s.setEntSt t b e { st with k := 0, bad := bad, shift := 0 }
  if bad then s1.bump F.SCH_TCNT1_BADENT t
  else
    let sc := s.get F.SCH_ENTRY_SCALE t (entJ b e)
    if !s.scaleValid sc then s1
    else
      let k := s1.entFirst t b e (s1.scaleFine sc (s1.now + usUnits))
      let s2 := s1.setEntSt t b e { s1.entSt t b e with k := k }
      if k ≠ 0 ∧ s.get F.SCH_ENTRY_MODE t (entJ b e) = 1 then s2.bump F.SCH_TCNT0_PASSED t else s2

/-- The entries of a bank that are not off. -/
def State.liveEnts (s : State) (t b : Nat) : List Nat := (List.range 512).filter (fun e => !s.entOff t b e)

/-- Every entry of the active bank of table t begins. -/
def State.bankBegin (s : State) (t : Nat) : State :=
  let b := s.actBank t
  (s.liveEnts t b).foldl (fun u e => u.entBegin t b e) s

/-- RUN becomes 1 (R243). -/
def State.tableStart (s : State) (t : Nat) : State :=
  ((s.put F.SCH_TCTL_RUN 1 t).setTable t { s.table t with runHeld := false }).bankBegin t

/-- The occurrences of an entry whose planned instants lie less than 1 µs after an instant have been handed to their executor and are still made
(R243, R245, R250); at most one a unit of T0. -/
def State.entHandN (s : State) (t b e at_ : Nat) : Nat → State
  | 0 => s
  | fuel + 1 => match s.entNext t b e with
    | some plan =>
      if plan < at_ + usUnits then
        let st := s.entSt t b e
        (s.setEntSt t b e { st with handed := st.handed ++ [(plan, s.entAfter t b e)], k := st.k + 1 }).entHandN t b e at_ fuel
      else s
    | none => s

def State.entHand (s : State) (t b e at_ : Nat) : State := s.entHandN t b e at_ (usUnits + 1)

/-- RUN becomes 0 (R245): what was handed stays handed, deferred actions of the table are cancelled. -/
def State.tableHalt (s : State) (t : Nat) : State :=
  let s2 := (s.setTable t { s.table t with runHeld := false }).put F.SCH_TCTL_RUN 0 t
  { s2 with sch := { s2.sch with defer := s2.sch.defer.filter (fun d => !(d.act.src == 4 && d.act.table == t)) } }

/-- A write of RUN := 0 (R245): what has been handed by now is still made. -/
def State.tableStop (s : State) (t : Nat) : State :=
  if !s.on F.SCH_TCTL_RUN t then s.setTable t { s.table t with runHeld := false }
  else ((s.liveEnts t (s.actBank t)).foldl (fun u e => u.entHand t (s.actBank t) e s.now) s).tableHalt t

/-- A write of RUN (R245, R251): RUN := 1 during the owner's hold window waits for its end. -/
def State.runWrite (s : State) (t b : Nat) : State :=
  if b = 0 then s.tableStop t
  else if s.on F.SCH_TCTL_RUN t then s
  else match s.ownerOf (.item 0x09 t) with
    | some n =>
      if (Sparse.get s.psw.windows n).isSome then s.setTable t { s.table t with runHeld := true } else s.tableStart t
    | none => s.tableStart t

/-- COPY (R246): the active bank into the inactive bank. -/
def State.bankCopy (s : State) (t : Nat) : State :=
  let b := s.actBank t
  (List.range 512).foldl (fun u e => u.setWords .SCH_ENTRY t (entJ (1 - b) e) (s.words .SCH_ENTRY t (entJ b e))) s

/-- The T0 instant that SCH_TnSWAP names. -/
def State.swapT0 (s : State) (t : Nat) : Option Nat :=
  s.t0Of (s.get F.SCH_TCTL_SWSCALE t) (Int.ofNat (s.timeAt .SCH_TSWAP t 0 0 / 4096 * 4096))

/-- The instant of the swap: the first CI-PWR grid slot at or after the one named (R246). -/
def State.swapInstant (s : State) (t : Nat) : Option Nat := (s.swapT0 t).map (slotAt 1600)

/-- SWAPREQ := 1 (R246, R249). -/
def State.swapReq (s : State) (t : Nat) : State :=
  let pend (u : State) (at_ : Option Nat) : State := (u.put F.SCH_TCTL_SWAPREQ 1 t).setTable t { u.table t with swapAt := at_ }
  if !s.on F.SCH_TCTL_SWAT t then pend s (some s.applyTick)
  else match s.swapT0 t with
    | none => s.raise F.SCH_TCTL_SWREF t
    | some u =>
      if u < s.now + usUnits then pend (s.raise F.SCH_TCTL_PASTSWAP t) (some s.applyTick) else pend s none

/-- A write of SCH_TnCTL. While a swap is pending, changes of SWAT and SWSCALE and COPY are dropped and counted (R247). -/
def State.tctlWrite (s : State) (t : Nat) (v : Word) : State :=
  let busy := s.on F.SCH_TCTL_SWAPREQ t
  let s2 := ((s.ack F.SCH_TCTL_PASTSWAP v t).ack F.SCH_TCTL_SWREF v t).put F.SCH_TCTL_STEPPOL (bitsOf v 25 24) t
  let s3 :=
    if busy then
      if bitsOf v 28 26 = bitsOf (s.word .SCH_TCTL t 0 0) 28 26 ∧ bitsOf v 23 23 = 0 then s2 else s2.accErr 2
    else
      let s4 := (s2.put F.SCH_TCTL_SWSCALE (bitsOf v 28 27) t).put F.SCH_TCTL_SWAT (bitsOf v 26 26) t
      let s5 := if bitsOf v 23 23 = 1 then s4.bankCopy t else s4
      if bitsOf v 30 30 = 1 then s5.swapReq t else s5
  s3.runWrite t (bitsOf v 31 31)

/-- R248: the swap takes place; what the old bank handed before is done, the new bank starts under R243. -/
def State.swap (s : State) (t : Nat) : State :=
  let b := s.actBank t
  let s1 := ((s.put F.SCH_TCTL_ACTBANK (1 - b) t).put F.SCH_TCTL_SWAPREQ 0 t).setTable t { s.table t with swapAt := none }
  let s2 := (s.liveEnts t b).foldl (fun u e => u.setEntSt t b e { u.entSt t b e with handed := [] }) s1
  s2.bankBegin t

/-- Cancels a pending swap (R251). -/
def State.swapCancel (s : State) (t : Nat) : State :=
  (s.put F.SCH_TCTL_SWAPREQ 0 t).setTable t { s.table t with swapAt := none }

/-- The entries of the running tables on scale n after a step of it by e, in units of 2⁻¹⁶ ns, at its apply tick (R250). -/
def State.entStep (s : State) (t b e' tick : Nat) (e : Int) : State :=
  let st := s.entSt t b e'
  if s.get F.SCH_TCTL_STEPPOL t = 1 then s.setEntSt t b e' { st with shift := st.shift + e }
  else
    let k := max st.k (s.entFirst t b e' (s.scaleFine (s.get F.SCH_ENTRY_SCALE t (entJ b e')) (tick + usUnits)))
    let last := if s.get F.SCH_ENTRY_MODE t (entJ b e') = 1 then 1
      else if s.get F.SCH_ENTRY_COUNT t (entJ b e') = 0 then k else s.get F.SCH_ENTRY_COUNT t (entJ b e')
    (s.setEntSt t b e' { st with k := k }).bumpBy F.SCH_TCNT0_PASSED (min k last - min st.k last) t

/-- A table's entries on scale n follow a step at an apply tick (R250): policy 2 stops the table. What was handed before the tick is made under
every policy. -/
def State.tableStep (s : State) (t n tick : Nat) (e : Int) : State :=
  let b := s.actBank t
  let es := (s.liveEnts t b).filter (fun q => s.get F.SCH_ENTRY_SCALE t (entJ b q) == n && !(s.entSt t b q).bad)
  if !s.on F.SCH_TCTL_RUN t || es.isEmpty then s
  else if s.get F.SCH_TCTL_STEPPOL t = 2 then
    (((s.liveEnts t b).filter (fun q => !es.contains q)).foldl (fun u q => u.entHand t b q tick) s).tableHalt t |>.eventTo (.item 0x09 t) 2 4 t
  else es.foldl (fun u q => u.entStep t b q tick e) s

/-- Entries on scale n that were suspended resume when the scale becomes valid (R244), without count. -/
def State.tableResume (s : State) (t n tick : Nat) : State :=
  let b := s.actBank t
  if !s.on F.SCH_TCTL_RUN t then s
  else ((s.liveEnts t b).filter (fun q => s.get F.SCH_ENTRY_SCALE t (entJ b q) == n && !(s.entSt t b q).bad)).foldl (fun u q =>
    u.setEntSt t b q { u.entSt t b q with k := max (u.entSt t b q).k (u.entFirst t b q (u.scaleFine n (tick + usUnits))) }) s

/-- Before a step takes effect, occurrences of scale n that were already handed keep their planned instants (R250). -/
def State.tableHand (s : State) (t n tick : Nat) : State :=
  let b := s.actBank t
  if !s.on F.SCH_TCTL_RUN t then s
  else ((s.liveEnts t b).filter (fun q => s.get F.SCH_ENTRY_SCALE t (entJ b q) == n)).foldl (fun u q => u.entHand t b q tick) s

/-- A write of a word of a schedule entry (R247): dropped in the active bank, and in the inactive bank while a swap is
pending. -/
def State.entryOk (s : State) (t j : Nat) : Bool := j / 512 != s.actBank t && !s.on F.SCH_TCTL_SWAPREQ t

/-! ### Reflex rules -/

/-- Whether a used term is acceptable (R268, R269). -/
def termOk (k i : Nat) : Bool :=
  match k with
  | 0 => true
  | 1 => decide (88 ≤ i) && decide (i ≤ 95)
  | 2 => decide (i ≤ 95)
  | 3 => decide (i ≤ 7)
  | 4 => decide (i < 40)
  | 5 => allChannels.contains i
  | 6 => isPower i || isValve i
  | 7 => decide (i ≤ 7)
  | _ => false

/-- Whether rule r would be refused with a word 0 (R268). -/
def State.ruleRefused (s : State) (r : Nat) (w0 : Word) : Bool :=
  let a := s.word .SCH_RULE r 0 3
  let b := s.word .SCH_RULE r 0 4
  let useB := combOf w0 == 1 || combOf w0 == 2
  let level := bitsOf w0 30 29 == 1
  let action := bitsOf w0 23 20
  !termOk (bitsOf a 31 28) (bitsOf a 15 0) || (useB && !termOk (bitsOf b 31 28) (bitsOf b 15 0)) ||
    decide (5 < action) || !s.tgtAccepts (tgtOf (s.word .SCH_RULE r 0 1)) action ||
    (level && (momentary (bitsOf a 31 28) || (useB && momentary (bitsOf b 31 28))))

/-- The targets of rule r that its owner owns and that accept its action; a TPO with SRC 0 takes none (R268). -/
def State.ruleTargets (s : State) (r : Nat) : List Nat :=
  let action := s.get F.SCH_RULE_ACTION r
  let who := s.ownerOf (.item 0x0A r)
  let xs := match tgtOf (s.word .SCH_RULE r 0 1) with
    | .one x => [x]
    | .group block g => (s.members block g).filterMap (memberTarget block)
    | .bad => []
  xs.filter (fun x => s.accepts x action && s.whoOwns who x && !(isTpo x && !s.on F.TIM_TPOCTL_SRC (x - 384)))

/-- Sets a rule's bit in SCH_RFXHELD (R270). -/
def State.rfxHeld (s : State) (r : Nat) (b : Bool) : State :=
  s.put F.SCH_RFXHELD_HELD (setBit (s.get F.SCH_RFXHELD_HELD (r / 32)) (r % 32) b) (r / 32)

/-- Inserts a claim by rule number (R271). -/
def insertClaim (c : Claim) : List Claim → List Claim
  | [] => [c]
  | d :: ds => if c.rule < d.rule then c :: d :: ds else if c.rule = d.rule then c :: ds else d :: insertClaim c ds

/-- The action of a rule on a target at the present grid slot (R232): precedence 3, no lead. -/
def State.ruleAct (s : State) (r x : Nat) : Act :=
  let action := s.get F.SCH_RULE_ACTION r
  { Act.none_ with
    st := actionState action, lvl := if action = 4 then some (s.get F.SCH_RULE_ARG r % 65536) else none, src := 3, prio := 15, table := r
    plan := slotAfter (gridOf x) s.now, width := if action = 3 then some (s.get F.SCH_RULE_ARG r * gridOf x) else none
    icls := s.get F.SCH_RULE_ICLASS r, who := s.ownerOf (.item 0x0A r) }

/-- A claim on one target (R270): a PULSE claim lights now and passes into its trailing state; a LEVEL claim gives a level to
an LS or AM channel and lights it while it applies (DEDUCED, log entry 11). -/
def State.claimOn (s : State) (r x : Nat) : State :=
  let a := s.ruleAct r x
  let action := s.get F.SCH_RULE_ACTION r
  let st := if action = 4 then some 1 else a.st
  let c : Claim := ⟨r, st, a.lvl, a.width.map (fun w => a.plan + w)⟩
  let s1 := s.setChan x { s.chan x with claims := insertClaim c (s.chan x).claims }
  let applies := ((s1.chan x).claims.head?.map Claim.rule) == some r
  let s2 := if isLed x && applies then (s1.winHit x a).ledFollow (x - 128) (s1.levelFor (x - 128)) else s1
  let s3 := s2.putHeld x
  let rest := s3.sch.pulses.filter (fun p => !(p.x == x && p.claim == some r))
  let s4 : State := match c.trail with
    | some u => { s3 with sch := { s3.sch with pulses := rest ++ [(⟨x, u, { a with width := none }, some r⟩ : Pulse)] } }
    | none => s3
  match s4.wanted x with
  | some w => s4.request x w { a with st := some w, width := none }
  | none => s4

/-- Releases the claims of rule r on every target (R270). -/
def State.claimRelease (s : State) (r : Nat) : State :=
  let s1 := s.rfxHeld r false
  let s2 : State := { s1 with sch := { s1.sch with pulses := s1.sch.pulses.filter (fun p => p.claim != some r) } }
  (allTargets.filter (fun x => (s.chan x).claims.any (fun c => c.rule == r))).foldl (fun t x =>
    (t.setChan x { t.chan x with claims := (t.chan x).claims.filter (fun c => c.rule != r) }).settle x 7) s2

/-- Whether the condition of rule r turns true now: it is true, and since the rule fired last it has turned false, as it does between two
momentary events (R269, R270). -/
def State.turnsTrue (s : State) (r : Nat) : Bool :=
  s.ruleCond r && (match Sparse.get s.sch.truth r with
    | some t => decide (t + 1600 ≤ s.now) && !s.ruleCond r true
    | none => true)

/-- Sets whether rule r is known to have fired on a condition that still stands. -/
def State.setTruth (s : State) (r : Nat) (b : Bool) : State :=
  { s with sch := { s.sch with truth := if b then Sparse.set s.sch.truth r s.now else Sparse.erase s.sch.truth r } }

/-- Rule r fires (R270). -/
def State.ruleFire (s : State) (r : Nat) : State :=
  let mode := s.get F.SCH_RULE_MODE r
  let action := s.get F.SCH_RULE_ACTION r
  let s1 := s.bump F.SCH_RULE_FIRES r
  let g := tgtOf (s.word .SCH_RULE r 0 1)
  let item := match g with
    | .one x => x
    | _ => 0xFFFF
  let s2 := if s1.on F.SCH_RULE_NOTIFY r then s1.eventTo (.item 0x0A r) 2 2 r item (s1.get F.SCH_RULE_FIRES r) else s1
  let who := s2.ownerOf (.item 0x0A r)
  let s3 := match g, who with
    | .one x, _ => if s2.whoOwns who x || action == 0 then s2 else s2.actDrop who x (Reg.SCH_RULE.addr r 0 0)
    | .group block k, some n =>
      if k < 32 ∧ action ≠ 0 then
        s2.bumpBy F.SYS_OWNDROP_SKIPS (((s2.members block k).filterMap (memberTarget block)).filter (fun x =>
          s2.accepts x action && !s2.whoOwns who x)).length n
      else s2
    | _, _ => s2
  if action = 0 then s3
  else if mode = 3 then (s3.ruleTargets r).foldl (fun t x => t.actOn x (t.ruleAct r x)) s3
  else
    let xs := s3.ruleTargets r
    if xs = [] then s3 else xs.foldl (fun t x => t.claimOn r x) (s3.rfxHeld r true)

/-- A write of word 0 of rule r (R268): while EN is 1 only EN 0 acts; EN 1 arms the rule or is dropped as a whole. -/
def State.ruleWrite0 (s : State) (r : Nat) (v : Word) : State :=
  if s.on F.SCH_RULE_EN r then
    if bitsOf v 31 31 = 1 then s else ((s.put F.SCH_RULE_EN 0 r).setTruth r false).claimRelease r
  else if bitsOf v 31 31 = 1 ∧ s.ruleRefused r v then s.accErr 2
  else (s.setWord .SCH_RULE r 0 0 v).setTruth r false

/-- A write of word w of a rule. -/
def State.ruleWrite (s : State) (r w : Nat) (v : Word) : State :=
  if w = 0 then s.ruleWrite0 r v
  else if s.on F.SCH_RULE_EN r && (w == 1 || w == 3 || w == 4 || w == 5) then s.accErr 2
  else if w = 7 then s.accErr 2
  else s.setWord .SCH_RULE r 0 w v

/-- A write of SCH_RFXREL (R270, R271): one naming a rule that the writer does not own is dropped under R48. -/
def State.rfxRel (s : State) (init : Init) (r : Nat) : State :=
  s.ownedAt init .SCH_RULE (r % 256) (Reg.SCH_RFXREL.addr 0 0 0) (fun t => t.claimRelease (r % 256))

/-- R270: the condition of an armed rule turns true; a condition that stays true fires once (log entry 37). A rule that reads as
uncorrectable is disarmed and any claim of it released (R630). -/
def execReflexFire (r : Nat) (unc : Bool) (s : State) : Host.Outcome State Fault Refusal :=
  s.ends (if r < 256 ∧ unc = true ∧ s.planeRuns ∧ s.on F.SCH_RULE_EN r then
      ((s.ramLost 2 9 (Reg.SCH_RULE.addr r 0 0)).put F.SCH_RULE_EN 0 r).claimRelease r
    else if r < 256 ∧ s.planeRuns ∧ s.on F.SCH_RULE_EN r ∧ s.get F.SCH_RULE_MODE r ≠ 0 ∧ s.turnsTrue r then (s.setTruth r true).ruleFire r else s)

/-- R270: the condition of a LEVEL rule turns false. -/
def execReflexRelease (r : Nat) (s : State) : Host.Outcome State Fault Refusal :=
  s.ends (if r < 256 ∧ s.planeRuns ∧ s.on F.SCH_RULE_EN r ∧ s.get F.SCH_RULE_MODE r = 1 ∧ !s.ruleCond r then s.claimRelease r else s)

/-- R268: EN 1 with the other fields of word 0 as they stand. -/
def execRuleArm (init : Init) (r : Nat) (w0 : Nat) (s : State) : Host.Outcome State Fault Refusal :=
  s.ends (if r < 256 then s.owned init .SCH_RULE r 0 0 (fun t => t.ruleWrite r 0 (BitVec.ofNat 32 w0 ||| 0x80000000)) else s)

/-- R268: EN 0. -/
def execRuleDisarm (init : Init) (r : Nat) (s : State) : Host.Outcome State Fault Refusal :=
  s.ends (if r < 256 then s.owned init .SCH_RULE r 0 0 (fun t => t.ruleWrite r 0 (t.word .SCH_RULE r 0 0 &&& 0x7FFFFFFF)) else s)

/-- R271. -/
def execRuleReleaseWrite (init : Init) (r : Nat) (s : State) : Host.Outcome State Fault Refusal := s.ends (s.rfxRel init r)

/-! ### Writes of the block's registers -/

/-- The effect of a write of a register of the schedule block. -/
def State.schWrite (s : State) (init : Init) (r : Reg) (i j w : Nat) (v : Word) : State :=
  match r with
  | .SCH_TCTL => s.tctlWrite i v
  | .SCH_RULE => s.ruleWrite i w v
  | .SCH_RFXREL => s.rfxRel init (bitsOf v 7 0)
  | r => s.plainWrite r i j w v

/-! ### Meanings: requests and commits -/

/-- R253: the oldest request for target x reaches its executor. -/
def execImmediateRequestArrival (x : Nat) (s : State) : Host.Outcome State Fault Refusal :=
  s.ends (match s.sch.imm.find? (fun q => q.x == x && s.clocked) with
    | some q =>
      let s1 := { s with sch := { s.sch with imm := s.sch.imm.erase q } }
      s1.actOn x (s1.immAct x q.st q.lvl q.who none)
    | none => s)

/-- R257: the oldest commit of a group reaches the block's executors. -/
def execCommitArrival (block g : Nat) (s : State) : Host.Outcome State Fault Refusal :=
  s.ends (match s.sch.commits.find? (fun q => q.block == block && q.group == g && s.clocked) with
    | some q =>
      let s1 := { s with sch := { s.sch with commits := s.sch.commits.erase q } }
      let who := q.who.getD 7
      s1.commit block g who (fun x st lvl => s1.immAct x st lvl (if who < 4 then some who else none) (some g))
    | none => s)

/-- R253: a write of PSW_CMD of target x. -/
def State.pswCmd (s : State) (init : Init) (x code : Nat) : State :=
  if isPower x && decide (x < 72) then s.owned init .PSW_CMD x 0 0 (fun t => t.pswWrite init .PSW_CMD x 0 (BitVec.ofNat 32 code)) else s

def execPswCmdOn (init : Init) (x : Nat) (s : State) : Host.Outcome State Fault Refusal := s.ends (s.pswCmd init x 1)
def execPswCmdOff (init : Init) (x : Nat) (s : State) : Host.Outcome State Fault Refusal := s.ends (s.pswCmd init x 2)
def execPswCmdLow (init : Init) (x : Nat) (s : State) : Host.Outcome State Fault Refusal := s.ends (s.pswCmd init x 3)

/-- R253: a write of VLV_CMD of output i. -/
def State.vlvCmd (s : State) (init : Init) (i code : Nat) : State :=
  if i < 24 then s.owned init .VLV_CMD i 0 0 (fun t => t.vlvWrite init .VLV_CMD i 0 (BitVec.ofNat 32 code)) else s

def execVlvCmdOn (init : Init) (i : Nat) (s : State) : Host.Outcome State Fault Refusal := s.ends (s.vlvCmd init i 1)
def execVlvCmdOff (init : Init) (i : Nat) (s : State) : Host.Outcome State Fault Refusal := s.ends (s.vlvCmd init i 2)

/-- R253, R358: a write of LGT_CMD of membership bit m. -/
def State.lgtCmd (s : State) (init : Init) (m code lvl : Nat) : State :=
  if isLed (m + 128) then
    s.owned init .LGT_CMD m 0 0 (fun t => t.lgtWrite init .LGT_CMD m 0 0 (BitVec.ofNat 32 (lvl % 65536 * 65536 + code))) else s

def execLgtCmdOn (init : Init) (m : Nat) (s : State) : Host.Outcome State Fault Refusal := s.ends (s.lgtCmd init m 1 0)
def execLgtCmdOff (init : Init) (m : Nat) (s : State) : Host.Outcome State Fault Refusal := s.ends (s.lgtCmd init m 2 0)
def execLgtCmdLevel (init : Init) (m lvl : Nat) (s : State) : Host.Outcome State Fault Refusal := s.ends (s.lgtCmd init m 4 lvl)

/-! ### Meanings: tables -/

/-- A write of SCH_TnCTL that sets or clears one bit and repeats the RW fields. -/
def State.tctlBy (s : State) (init : Init) (t : Nat) (clear set : Word) : State :=
  if t < 8 then
    s.owned init .SCH_TCTL t 0 0 (fun u => u.tctlWrite t ((u.word .SCH_TCTL t 0 0 &&& 0x9F000000 &&& ~~~clear) ||| set)) else s

/-- R243, R251. -/
def execTableRun (init : Init) (t : Nat) (s : State) : Host.Outcome State Fault Refusal := s.ends (s.tctlBy init t 0 0x80000000)
/-- R245. -/
def execTableStop (init : Init) (t : Nat) (s : State) : Host.Outcome State Fault Refusal := s.ends (s.tctlBy init t 0x80000000 0)
/-- R246, R247. -/
def execBankCopy (init : Init) (t : Nat) (s : State) : Host.Outcome State Fault Refusal := s.ends (s.tctlBy init t 0 0x00800000)
/-- R246, R249. -/
def execSwapRequest (init : Init) (t : Nat) (s : State) : Host.Outcome State Fault Refusal := s.ends (s.tctlBy init t 0 0x40000000)

/-- R248: the apply tick or swap instant of a pending swap. -/
def execBankSwap (t : Nat) (s : State) : Host.Outcome State Fault Refusal :=
  let due := match (s.table t).swapAt with
    | some u => decide (u ≤ s.now)
    | none => (match s.swapInstant t with
        | some u => decide (u ≤ s.now)
        | none => false)
  s.ends (if t < 8 ∧ s.on F.SCH_TCTL_SWAPREQ t ∧ due = true then s.swap t else s)

/-- The commit register of a block's group page, or of its all-channel page. -/
def gctlReg (block g : Nat) : Reg :=
  match block, decide (g < 32) with
  | 3, true => .PSW_GCTL
  | 4, true => .VLV_GCTL
  | _, true => .LGT_SYNC
  | 3, false => .PSW_AGCTL
  | 4, false => .VLV_AGCTL
  | _, false => .LGT_ASYNC

/-- A write of a commit register; every partition may write that of an all-channel page, for its own stagings (R51, R260); another initiator's
write is dropped and counted (R48). -/
def State.gctlBy (s : State) (init : Init) (block g : Nat) (v : Word) : State :=
  if !groupOk block g then s
  else if g < 32 then s.owned init (gctlReg block g) g 0 0 (fun t => t.gctlWrite init block g v)
  else s.reaching init block ((gctlReg block g).addr 0 0 0) (fun t => match init with
    | .part _ => t.gctlWrite init block g v
    | .boot | .siari => if t.applying then t.gctlWrite init block g v else t.accErr block
    | _ => t.accErr block)

/-- R257. -/
def execGroupCommit (init : Init) (block g : Nat) (s : State) : Host.Outcome State Fault Refusal :=
  s.ends (s.gctlBy init block g 0x80000000)
/-- R260. -/
def execGroupDiscard (init : Init) (block g : Nat) (s : State) : Host.Outcome State Fault Refusal :=
  s.ends (s.gctlBy init block g 0x40000000)

/-! ### Hold windows (R303 to R306) -/

/-- The targets that partition n owns. -/
def State.ownTargets (s : State) (n : Nat) : List Nat := allTargets.filter (fun x => s.ownerOf (targetSpec x) == some n)

/-- Begins the hold window of partition n: its outputs hold what they show (R303, R305); a full activation gives its length (R668). -/
def State.windowBegin (s : State) (n : Nat) (fixed : Option Nat := none) : State :=
  let conf := (Sparse.at s.cfg.place n Placement.absent).hold
  let base := if conf = 0 then 50 else conf
  let told := (Sparse.get s.psw.notices n).any (fun t => decide (s.now ≤ t + 5 * secUnits))
  let ms := if s.on F.PSW_PLAN_ARMED n ∧ told then max base (min 2000 (s.get F.PSW_PLAN_EXT n)) else base
  let until_ := s.now + fixed.getD ms * msUnits
  let s1 := (s.ownTargets n).foldl (fun t x =>
    (t.setChan x { t.chan x with window := some until_, winSet := false }).putHeld x) (s.put F.PSW_PLAN_ARMED 0 n)
  { s1 with psw := { s1.psw with windows := Sparse.set s1.psw.windows n until_ } }

/-- The hold window of partition n ends (R306): each channel takes its underlying state if the restarted partition has set it,
else its default state, a TPO with SRC 0 its inactive level (R180); RUN writes that waited take effect (R251). -/
def State.windowEnd (s : State) (n : Nat) : State :=
  let s1 := { s with psw := { s.psw with windows := Sparse.erase s.psw.windows n } }
  let s2 := (s1.ownTargets n).foldl (fun t x =>
    let c := t.chan x
    let u := t.setChan x { c with window := none, undSet := c.winSet }
    if isTpo x && !u.on F.TIM_TPOCTL_SRC (x - 384) then u.tpoOff (x - 384) else u.settle x 7) s1
  ((List.range 8).filter (fun t => s2.ownerOf (.item 0x09 t) == some n && (s2.table t).runHeld)).foldl
    (fun u t => u.tableStart t) s2

/-- R306. -/
def execHoldWindowEnd (n : Nat) (s : State) : Host.Outcome State Fault Refusal :=
  s.ends (match Sparse.get s.psw.windows n with
    | some t => if t ≤ s.now then s.windowEnd n else s
    | none => s)

end Sys2Proof.Machine
end

