-- ==== Sys2Proof/Machine/Time.lean ====
section
/-! DEFINITION. The timebase (R142 to R188, R685): scales and their servo, decoder and port calibration, the shadow timebase,
time pulse outputs, capture inputs and the cable audit, and the meanings of its commands. -/

set_option Elab.async false

namespace Sys2Proof.Machine

/-! ### The servo (R155 to R168) -/

/-- MODE of a scale; 3 is taken as off. -/
def State.smode (s : State) (n : Nat) : Nat := if s.get F.TIM_SCTL_MODE n = 3 then 0 else s.get F.TIM_SCTL_MODE n

/-- SRC of a scale; a reserved value or one not permitted for it counts as 0 (R155). -/
def srcOf (n src : Nat) : Nat := if src = 1 then (if n = 1 then 1 else 0) else if src = 2 then (if n = 2 then 2 else 0)
  else if src = 3 ∨ src = 4 then src else 0

/-- The expected interval of a scale in T0 units (R161). -/
def State.expected (s : State) (n : Nat) : Nat := 2 ^ s.get F.TIM_SCTL_INTV n * 15625 * usUnits

/-- TIM_SnSTEP in units of 2⁻¹⁶ ns. -/
def State.stepThr (s : State) (n : Nat) : Nat := max 1000 (s.get F.TIM_SSTEP_THRESH n) * 65536

/-- RMAX in units of 2⁻⁵⁶. -/
def State.rmax (s : State) (n : Nat) : Int := Int.ofNat (clampNat 1 500 (s.get F.TIM_SCTL_RMAX n) * 2 ^ 56 / 1000000)

/-- The rate correction that TIM_INCRn gives, in units of 2⁻⁵⁶ (R685). -/
def State.incrRate (s : State) (n : Nat) : Int :=
  (Int.ofNat (s.get F.TIM_INCR_NS n * 2 ^ 24 + s.get F.TIM_INCR_FRAC n) * 2 ^ 14 - 2 ^ 40) * 2 ^ 16

/-- Shows a rate in TIM_SnRATE. -/
def State.putRate (s : State) (n : Nat) (r : Int) : State := s.put F.TIM_SRATE_RATE (codeOf 32 (r / 2 ^ 16)) n

/-- Decides a rate, to take effect at the apply tick (R150). -/
def State.rateLater (s : State) (n : Nat) (r : Int) : State :=
  s.setScale n { s.scale n with rateAt := (s.scale n).rateAt ++ [(s.applyTick, r)] }

/-- Counts a rejected offset or write. -/
def State.rej (s : State) (n : Nat) : State := s.bump F.TIM_SCNT_REJ n

/-- Writes an accepted offset to TIM_SnLAST (R156). -/
def State.putLast (s : State) (n : Nat) (e : Int) : State :=
  let v := codeOf 64 e
  (s.deliver .TIM_SLAST n 0 [BitVec.ofNat 32 v, BitVec.ofNat 32 (v / 2 ^ 32)]).setScale n { s.scale n with lastAcc := some s.now }

/-- An offset that passes R157 leads from HOLDOVER to TRACK, whether R158 then accepts or drops it; the four intervals without an accepted
offset count anew from there (R161, DEDUCED, log entry 12). -/
def State.endHoldover (s : State) (n : Nat) : State :=
  if s.get F.TIM_SSTAT_STATE n = 3 then
    ((s.put F.TIM_SSTAT_STATE 2 n).setScale n { s.scale n with waitFrom := s.now }).eventTo (.item 0x12 0) 0 5 n
  else s

/-- An offset updates the rate (R160). -/
def State.servoRate (s : State) (n : Nat) (e : Int) : State :=
  let c := s.scale n
  let m := s.rmax n
  let i := clampInt (-m) m (c.integ + Int.ofNat (s.get F.TIM_SGAIN_KI n) * e)
  let r := clampInt (-m) m (Int.ofNat (s.get F.TIM_SGAIN_KP n) * e + i)
  (s.setScale n { c with integ := i }).rateLater n r

/-- Decides a step (R159). -/
def State.stepLater (s : State) (n : Nat) (e : Int) : State :=
  s.setScale n { s.scale n with stepAt := (s.scale n).stepAt ++ [(s.applyTick, e)] }

/-- An offset e, in units of 2⁻¹⁶ ns, arrives for scale n (R157, R158, R160, R161, R685). -/
def State.offset (s : State) (n : Nat) (e : Int) : State :=
  let c := s.scale n
  let st := s.get F.TIM_SSTAT_STATE n
  let early := match c.lastAcc with
    | some t => decide (s.now < t + 15625 * usUnits)
    | none => false
  if early then s.rej n
  else
    let s1 := (s.setScale n { c with prev := some (e, s.now) }).endHoldover n
    let thr := Int.ofNat (s.stepThr n)
    if st = 0 ∨ st = 4 then s1.putLast n e
    else if st = 1 then ((s1.put F.TIM_SSTAT_STATE 2 n).putLast n e).stepLater n e
    else if e.natAbs ≤ s.stepThr n then (s1.putLast n e).servoRate n e
    else
      let again := match c.prev with
        | some (p, t) => decide (thr < Int.ofNat p.natAbs) && (decide (0 ≤ p) == decide (0 ≤ e)) &&
            decide (s.now ≤ t + 4 * s.expected n)
        | none => false
      if again then (s1.putLast n e).stepLater n e else s1.rej n

/-- PER of a TPO in units of 1/16 ns. -/
def State.tpoPer (s : State) (n : Nat) : Nat := s.get F.TIM_TPOPER_PER_HI n * 2 ^ 32 + s.get F.TIM_TPOPER_PER_LO n

/-- Instant k of a TPO's sequence on its scale, in units of 2⁻¹⁶ ns (R175). -/
def State.tpoInstant (s : State) (n k : Nat) : Int :=
  Int.ofNat (s.timeAt .TIM_TPOSTART n 0 0 / 4096 * 4096) + Int.ofNat k * Int.ofNat (s.tpoPer n) * 4096

/-- The first instant of a TPO's sequence that does not lie before a T0 instant. -/
def State.tpoFirst (s : State) (n from_ : Nat) : Nat :=
  let v := (s.scaleFine (s.get F.TIM_TPOCTL_SCALE n) from_ + 2 ^ 56 - 1) / 2 ^ 56
  let d := v - s.tpoInstant n 0
  let p := s.tpoPer n * 4096
  if d ≤ 0 then 0
  else if s.get F.TIM_TPOCTL_MODE n = 0 then 1
  else (d + Int.ofNat p - 1).toNat / max 1 p

/-- How many pulses an armed TPO makes at most; none: unbounded. -/
def State.tpoLimit (s : State) (n : Nat) : Option Nat :=
  if s.get F.TIM_TPOCTL_MODE n = 0 then some 1
  else if s.get F.TIM_TPOCOUNT_COUNT n = 0 then none else some (s.get F.TIM_TPOCOUNT_COUNT n)

/-- Sets DONE once a TPO's pulses are made or passed over. -/
def State.tpoDone (s : State) (n : Nat) : State :=
  match s.tpoLimit n with
  | some m => if m ≤ (s.tpo n).cnt then s.put F.TIM_TPOSTAT_DONE 1 n else s
  | none => s

/-- Whether a TPO runs its own sequence. -/
def State.tpoRuns (s : State) (n : Nat) : Bool := s.on F.TIM_TPOCTL_EN n && !s.on F.TIM_TPOCTL_SRC n && !s.on F.TIM_TPOSTAT_DONE n

/-- The instants before number k are passed over: they are counted in SUPP and count towards COUNT. -/
def State.tpoPass (s : State) (n k : Nat) : State :=
  let c := s.tpo n
  let passed := match s.tpoLimit n with
    | some m => min (k - c.k) (m - c.cnt)
    | none => k - c.k
  ((s.setTpo n { c with k := max c.k k, cnt := c.cnt + passed, late := false }).bumpBy F.TIM_TPOSTAT_SUPP passed n).tpoDone n

/-- An armed TPO with SRC 0 after a step of its scale at apply tick t (R176). -/
def State.tpoStep (s : State) (n t : Nat) : State :=
  if s.tpoRuns n then s.tpoPass n (s.tpoFirst n (t + usUnits)) else s

/-- The partitions that own a TPO or a schedule table, and the timebase owner (R159). -/
def State.stepAudience (s : State) : List Nat :=
  (List.range 4).filter (fun p => s.blockOwner 0 == some p ||
    (List.range 16).any (fun n => s.ownerOf (.item 0x07 n) == some p) ||
    (List.range 8).any (fun t => s.ownerOf (.item 0x09 t) == some p))

/-- A step of scale n by e takes place at its apply tick t (R159). -/
def State.stepNow (s : State) (n t : Nat) (e : Int) : State :=
  let fld := if n = 1 then F.TIM_STAT_V1 else F.TIM_STAT_V2
  let was := s.on fld
  let s1 := (List.range 8).foldl (fun u q => u.tableHand q n t) (if n = 1 then s.creditTicks else s)
  let c := s1.scale n
  let s2 := ((s1.setScale n { c with base := s1.scaleFine n t + e * 2 ^ 56, at_ := t, integ := 0, stepAt := c.stepAt.drop 1 }).put fld 1).bump
    F.TIM_SCNT_STEPS n
  let v := codeOf 64 e
  let s3 := s2.eventAll s2.stepAudience 0 3 n v (v / 2 ^ 32)
  let s4 := (List.range 8).foldl (fun u q => if was then u.tableStep q n t e else u.tableResume q n t) s3
  let s5 := ((List.range 16).filter (fun q => s4.get F.TIM_TPOCTL_SCALE q == n)).foldl (fun u q => u.tpoStep q t) s4
  if n = 1 then s5.gateStep t else s5

/-- A change of MODE (R161). -/
def State.modeTo (s : State) (n old new : Nat) : State :=
  if old = new then s
  else
    let c := s.scale n
    let s1 := s.setScale n { c with pulse := none, waitFrom := s.now }
    match new with
    | 1 =>
      if old = 2 then (s1.put F.TIM_SSTAT_STATE 2 n).setScale n { s1.scale n with integ := s1.incrRate n }
      else ((s1.put F.TIM_SSTAT_STATE 1 n).rateLater n 0).putRate n 0
    | 2 =>
      let s2 := (s1.put F.TIM_SSTAT_STATE 4 n).setScale n { s1.scale n with integ := 0 }
      (s2.rateLater n (s2.incrRate n)).putRate n (s2.incrRate n)
    | _ => ((s1.put F.TIM_SSTAT_STATE 0 n).rateLater n 0).putRate n 0

/-- A write of TIM_SnCTL. -/
def State.sctlWrite (s : State) (n : Nat) (v : Word) : State :=
  let old := s.smode n
  let oldSrc := s.get F.TIM_SCTL_SRC n
  let s1 := s.plainWrite .TIM_SCTL n 0 0 v
  let src := s1.get F.TIM_SCTL_SRC n
  let s2 := if src ≠ 0 ∧ srcOf n src = 0 then s1.rej n else s1
  let s3 := if src ≠ oldSrc then s2.setScale n { s2.scale n with pulse := none } else s2
  s3.modeTo n old (s3.smode n)

/-- The limits of R168 in units of 2⁻²⁴ ns: the codes within 3.996 ns to 4.004 ns. -/
def incrLow : Nat := 67041756
def incrHigh : Nat := 67175972

/-- A write of TIM_INCRn (R168). -/
def State.incrWrite (s : State) (n v : Nat) : State :=
  let c := clampNat incrLow incrHigh (v % 2 ^ 32)
  let s1 := s.setWord .TIM_INCR n 0 0 (BitVec.ofNat 32 c)
  let s2 := if c ≠ v % 2 ^ 32 then s1.rej n else s1
  if s2.get F.TIM_SSTAT_STATE n = 4 then (s2.rateLater n (s2.incrRate n)).putRate n (s2.incrRate n) else s2

/-- The value of TIM_SnOFFS is applied (R162). -/
def State.offsApply (s : State) (n : Nat) (e : Int) : State :=
  let st := s.get F.TIM_SSTAT_STATE n
  if st = 1 ∨ st = 2 ∨ st = 3 then s.rej n
  else if s.scaleAt n s.applyTick + (s.scale n).stepAt.foldl (fun t p => t + p.2) 0 + e < 0 then s.rej n
  else s.stepLater n e

/-- The value of TIM_SnFEED is applied (R165). -/
def State.feedApply (s : State) (n : Nat) (e : Int) : State :=
  if s.get F.TIM_SCTL_SRC n = 4 then s.offset n e else s.rej n

/-! ### Calibration and audit (R151, R152, R184 to R188) -/

/-- The domain of a decoder as TIM_CALSTAT.DEC numbers it. -/
def decDom (d : Nat) : Nat :=
  match d with
  | 0 => domTIM | 1 => domCA | 2 => domCB | 3 => domRC | 4 => domFAB | 5 => domNET | 6 => domBUS | 7 => domLGT | 8 => domPWR
  | _ => domACC

/-- ALIGNED: every running decoder is calibrated, and no switch-over is in progress (R151, R171). -/
def State.putAligned (s : State) : State :=
  let dec := s.get F.TIM_CALSTAT_DEC
  s.put F.TIM_STAT_ALIGNED
    (if s.tim.switchAt.isNone && (List.range 10).all (fun d => !s.domOn (decDom d) || bit dec d) then 1 else 0)

/-- Sets or clears a decoder's bit. -/
def State.calDec (s : State) (d : Nat) (b : Bool) : State :=
  (s.put F.TIM_CALSTAT_DEC (setBit (s.get F.TIM_CALSTAT_DEC) d b)).putAligned

/-- Sets or clears a port's bit: 0 to 9 P0 to P9, 10 SVC. -/
def State.calPort (s : State) (p : Nat) (b : Bool) : State :=
  s.put F.TIM_CALSTAT_PORT (setBit (s.get F.TIM_CALSTAT_PORT) p b)

def State.audit (s : State) (k : Nat) : AuditSt := Sparse.at s.tim.audits k AuditSt.none_
def State.setAudit (s : State) (k : Nat) (v : AuditSt) : State :=
  { s with tim := { s.tim with audits := Sparse.set s.tim.audits k v } }

/-- Adds 1 to a rounded-down quotient that is not exact, or does not: the rounding is a free value (DESIGN CHOICE, log entry 151). -/
def State.rounded (s : State) (exact : Bool) : Int := if exact then 0 else Int.ofNat (s.fresh % 2)

/-- Takes away what a port's audit found: none is complete on the present link. -/
def State.auditNone (s : State) (k : Nat) : State := ((s.setWord .TIM_AUD k 0 0 0).setWord .TIM_AUD k 0 1 0).setAudit k AuditSt.none_

/-- The audit at a link training (R184 to R186): `rtt` is the reflection's round trip in units of 1/16 ns, none where it lies below the
detection level. The cable delay is half of it: below 2.4 ns or above 77 ns RANGE is set. An audit that was not made leaves VALID 0. -/
def State.auditTraining (s : State) (k : Nat) (made : Bool) (rtt : Option Nat) : State :=
  let s1 := s.auditNone k
  if !made then s1
  else match rtt with
    | none => s1.put F.TIM_AUD_NOREFL 1 k
    | some r =>
      let c := Int.ofNat (r / 2) + s.rounded (r % 2 = 0)
      let s2 := (((s1.setAudit k { AuditSt.none_ with rtt := some r }).put F.TIM_AUD_RANGE (if r * 5 < 384 ∨ 2464 < r then 1 else 0) k).put
        F.TIM_AUD_CABLE c.toNat k).tookFresh
      if k = 8 then s2.put F.TIM_AUD_VALID 1 k else s2

/-- A mean path delay of port k, in units of 2⁻¹⁶ ns, enters the partner error (R185): once 16 are in, their mean less the
cable delay is shown in units of 1/16 ns. -/
def State.auditDelay (s : State) (k : Nat) (d : Int) : State :=
  let a := s.audit k
  if 8 ≤ k ∨ 16 ≤ a.count then s
  else
    let a' : AuditSt := { a with sum := a.sum + d, count := a.count + 1 }
    let s1 := s.setAudit k a'
    match a.rtt with
    | some r =>
      if a'.count = 16 then
        let num := a'.sum - 16 * 2048 * Int.ofNat r
        let err := num / 65536 + s.rounded (num % 65536 = 0)
        (((s1.setWord .TIM_AUD k 0 1 (BitVec.ofNat 32 (codeOf 32 err)))).put F.TIM_AUD_VALID 1 k).tookFresh
      else s1
    | none => s1

/-- The path delay that the gPTP engine uses for a port at a path delay result, in units of 2⁻¹⁶ ns: the cable delay where the audit is
applied (R187). APPLIED shows it. -/
def State.pathDelay (s : State) (k : Nat) (measured : Int) : State × Int :=
  match (s.audit k).rtt with
  | some r =>
    if k < 8 ∧ bit (s.get F.TIM_AUDCTL_EN) k ∧ s.on F.TIM_AUD_VALID k ∧ !s.on F.TIM_AUD_RANGE k then
      (s.put F.TIM_AUD_APPLIED 1 k, 2048 * Int.ofNat r)
    else (if k < 8 then s.put F.TIM_AUD_APPLIED 0 k else s, measured)
  | none => (if k < 8 then s.put F.TIM_AUD_APPLIED 0 k else s, measured)

/-- A write of TIM_AUDCTL: a port whose bit is 0 uses the measured path delay from here on (R187). -/
def State.audctlWrite (s : State) (v : Word) : State :=
  let s1 := s.plainWrite .TIM_AUDCTL 0 0 0 v
  ((List.range 8).filter (fun k => !bit (s1.get F.TIM_AUDCTL_EN) k)).foldl (fun t k => t.put F.TIM_AUD_APPLIED 0 k) s1

/-- The path measurement at a link training (R152). -/
def State.pathTraining (s : State) (p : Nat) (good : Bool) : State :=
  if good then s.calPort p true else ((s.calPort p false).accErr 0).eventTo (.item 0x12 0) 0 2 p

/-! ### Time pulse outputs (R175 to R180) -/

/-- EN := 1 on a TPO whose other CTL fields stand (R177). A TPO with SRC 1 uses none of START, PER, WID, COUNT and its scale (R179), so it arms
without these checks; of two grounds the invalid scale counts (DESIGN CHOICE, log entry 152). -/
def State.tpoArm (s : State) (n : Nat) : State :=
  let sc := s.get F.TIM_TPOCTL_SCALE n
  let w := s.get F.TIM_TPOWID_WIDTH n
  let per := s.tpoPer n
  let periodic := s.get F.TIM_TPOCTL_MODE n = 1
  if s.on F.TIM_TPOCTL_SRC n then s.put F.TIM_TPOCTL_EN 1 n
  else if !s.scaleValid sc then s.raise F.TIM_TPOSTAT_PAST n
  else if w < 320 ∨ 268000000 * 16 < w ∨ periodic ∧ (per < 3200 ∨ 3600000000000 * 16 < per ∨ per < w + 320) then s.accErr 0
  else
    let k := s.tpoFirst n (s.now + usUnits)
    let s1 := ((s.put F.TIM_TPOCTL_EN 1 n).put F.TIM_TPOSTAT_MADE 0 n).put F.TIM_TPOSTAT_DONE 0 n
    let s2 := if k = 0 then s1 else s1.raise F.TIM_TPOSTAT_PAST n
    let s3 := if k ≠ 0 ∧ !periodic then s2.put F.TIM_TPOSTAT_DONE 1 n else s2
    s3.setTpo n { TpoSt.idle with k := k }

/-- A write of TIM_TPOnCTL (R177, R178). -/
def State.tpoctlWrite (s : State) (n : Nat) (v : Word) : State :=
  let cur := s.word .TIM_TPOCTL n 0 0
  if s.on F.TIM_TPOCTL_EN n then
    let s1 := if bitsOf v 9 5 = bitsOf cur 9 5 then s else s.accErr 0
    if bitsOf v 4 4 = 0 then (s1.put F.TIM_TPOCTL_EN 0 n).tpoOff n else s1
  else
    let s1 := s.setWord .TIM_TPOCTL n 0 0 (setBits (cur &&& ~~~ maskBits 9 5 ||| (v &&& maskBits 9 5)) 4 4 0)
    let s2 := s1.exposures
    if bitsOf v 4 4 = 1 then s2.tpoArm n else s2

/-- Makes the leading edge of instant k at a T0 instant; the trailing edge follows WIDTH later. With the last pulse DONE is set here
(DESIGN CHOICE, log entry 152). -/
def State.tpoLead (s : State) (n instant : Nat) : State :=
  let c := s.tpo n
  ((s.tpoEdge n 1 instant).setTpo n { c with
    k := c.k + 1, cnt := c.cnt + 1, trail := some (instant + s.get F.TIM_TPOWID_WIDTH n), late := false }).tpoDone n

/-- The next planned leading-edge instant of a TPO with SRC 1 after a given one, of the schedule entries that run. -/
def State.planNext (s : State) (n after_ : Nat) : Option Nat :=
  let us := ((List.range 8).filter (fun t => s.on F.SCH_TCTL_RUN t)).flatMap (fun t =>
    ((List.range 512).filter (fun e => s.entNames t (s.actBank t) e (384 + n) &&
      (actionState (s.get F.SCH_ENTRY_ACTION t (entJ (s.actBank t) e))).getD 0 != 0)).filterMap (fun e => s.entNext t (s.actBank t) e))
  (us.filter (fun u => decide (after_ < u))).min?

/-- After a switch-over, a TPO with SRC 1 makes what was kept back: a leading edge late, its trailing edge one width later, unless fewer than
20 ns stay before its next leading-edge instant; and the end of a pulse that was active (R172). -/
def State.planResume (s : State) (n : Nat) : State :=
  let c := s.tpo n
  let x := 384 + n
  let s1 := s.setTpo n { c with kept := none, ended := none }
  let s2 := match c.ended with
    | some a => s1.planEdge n 0 s.now a
    | none => s1
  match c.kept with
  | some a =>
    let others := s2.sch.pulses.filter (fun p => p.x != x)
    if (s2.planNext n a.plan).all (fun u => decide (s.now + 320 ≤ u)) then
      let s3 := (s2.planEdge n 1 s.now a).raise F.TIM_TPOSTAT_LATE n
      match a.width with
      | some w => { s3 with sch := { s3.sch with pulses := others ++ [⟨x, s.now + w, { a with width := none }, none⟩] } }
      | none => s3
    else { (s2.tpoSupp n) with sch := { s2.sch with pulses := others } }
  | none => s2

/-- After a switch-over, a pulse that should have ended ends, and of the pulses whose instants fell into the time without edges the last is
made late if at least 20 ns stay before the next instant; the others are suppressed (R172). -/
def State.tpoResume (s : State) (n : Nat) : State :=
  let c := s.tpo n
  let s1 := match c.trail with
    | some t => if t ≤ s.now then s.tpoOff n else s
    | none => s
  if s.on F.TIM_TPOCTL_SRC n then s1.planResume n
  else if c.late then
    let last := min (s.tpoFirst n (s.now + 1) - 1) (match s.tpoLimit n with
      | some m => c.k + (m - c.cnt) - 1
      | none => s.tpoFirst n (s.now + 1) - 1)
    let s2 := s1.tpoPass n last
    let next := if (s2.tpoLimit n).all (fun m => decide ((s2.tpo n).cnt + 1 < m)) then
        s2.t0Of (s.get F.TIM_TPOCTL_SCALE n) (s.tpoInstant n (last + 1)) else none
    if next.all (fun u => decide (s.now + 320 ≤ u)) then (s2.tpoLead n s.now).raise F.TIM_TPOSTAT_LATE n else s2.tpoPass n (last + 1)
  else s1

/-! ### Writes of the block's registers -/

/-- Whether a register of a TPO is frozen while EN is 1 (R178). -/
def tpoFrozen : Reg → Bool
  | .TIM_TPOWID | .TIM_TPOCOUNT | .TIM_TPOPER | .TIM_TPOSTART => true
  | _ => false

/-- SWAP := 1 (R174). -/
def State.swapTime (s : State) : State :=
  if s.on F.TIM_STAT_NOSHADOW || s.tim.swapAt.isSome then s.accErr 0
  else { s with tim := { s.tim with swapAt := some s.applyTick } }

/-- The effect of a write of a one-word register of the timebase. -/
def State.timWrite (s : State) (r : Reg) (i j w : Nat) (v : Word) : State :=
  match r with
  | .TIM_SCTL => s.sctlWrite i v
  | .TIM_INCR => s.incrWrite i v.toNat
  | .TIM_SHCTL => if bitsOf v 0 0 = 1 then s.swapTime else s
  | .TIM_TPOCTL => s.tpoctlWrite i v
  | .TIM_AUDCTL => s.audctlWrite v
  | r => if tpoFrozen r && s.on F.TIM_TPOCTL_EN i then s.accErr 0 else s.plainWrite r i j w v

/-- The effect of a whole value of a wide register of the timebase (R28). -/
def State.timWide (s : State) (r : Reg) (i : Nat) (vs : List Word) : State :=
  let e := signedOf 64 ((vs.getD 1 0).toNat * 2 ^ 32 + (vs.getD 0 0).toNat)
  match r with
  | .TIM_SOFFS => s.offsApply i e
  | .TIM_SFEED => s.feedApply i e
  | r => if tpoFrozen r && s.on F.TIM_TPOCTL_EN i then s.accErr 0 else s.setWords r i 0 vs

/-! ### Meanings: T3 and calibration -/

/-- T3 now, in units of 2⁻¹⁶ ns: the value of the newest message, which runs at the rate of T0 (R148), from its apply tick on (R150); until then
the value before it. None while T3 is invalid. -/
def State.t3Value (s : State) : Option Nat :=
  if !s.on F.TIM_STAT_V3 then none
  else if s.tim.t3From ≤ s.now then some (s.tim.t3 + (s.now - s.tim.t3At) * 4096)
  else s.tim.t3Prev.map (fun p => p.1 + (s.now - p.2) * 4096)

/-- R148: a legal-time message, in units of 2⁻¹⁶ ns, enters the mailbox. The change takes effect at its apply tick. -/
def State.legalTime (s : State) (t : Nat) : State :=
  { s with tim := { s.tim with
    t3 := t, t3At := s.now, t3From := s.applyTick, t3Prev := s.t3Value.map (fun v => (v, s.now)) } }.put F.TIM_STAT_V3 1

def execLegalTimeMessage (t : Nat) (s : State) : Host.Outcome State Fault Refusal :=
  s.ends (if s.domOn domTIM then s.legalTime t else s)

/-- R148. -/
def execT3Timeout (s : State) : Host.Outcome State Fault Refusal :=
  s.ends (if s.on F.TIM_STAT_V3 ∧ s.tim.t3At + 3 * secUnits ≤ s.now then s.put F.TIM_STAT_V3 0 else s)

/-- R151: the calibration of decoder d after its domain turned on ends. -/
def execDecoderCalibrationEnd (d : Nat) (s : State) : Host.Outcome State Fault Refusal :=
  s.ends (if d < 10 ∧ s.domOn (decDom d) then s.calDec d true else s)

/-- R151: a running decoder that is calibrated is calibrated anew, which leaves it calibrated. -/
def execBackgroundRecalibration (d : Nat) (s : State) : Host.Outcome State Fault Refusal :=
  s.ends (if d < 10 ∧ s.domOn (decDom d) ∧ bit (s.get F.TIM_CALSTAT_DEC) d then s.calDec d true else s)

/-! ### Meanings: servo -/

/-- R157, R158, R685: an offset of the gPTP engine for scale n, in units of 2⁻¹⁶ ns. -/
def State.sourceOffset (s : State) (n src : Nat) (e : Int) : State :=
  if s.domOn domTIM && srcOf n (s.get F.TIM_SCTL_SRC n) == src then s.offset n e else s

def execServoOffset (n : Nat) (e : Int) (s : State) : Host.Outcome State Fault Refusal :=
  s.ends (if (n = 1 ∨ n = 2) ∧ srcOf n (s.get F.TIM_SCTL_SRC n) ≠ 0 ∧ s.domOn domTIM then s.offset n e else s)

/-- R159. -/
def execScaleStep (n : Nat) (s : State) : Host.Outcome State Fault Refusal :=
  s.ends (match (s.scale n).stepAt with
    | (t, e) :: _ => if (n = 1 ∨ n = 2) ∧ t ≤ s.now then s.stepNow n t e else s
    | [] => s)

/-- R150, R160: the rate decided first of those that wait takes effect at its apply tick. -/
def execRateUpdate (n : Nat) (s : State) : Host.Outcome State Fault Refusal :=
  s.ends (match (s.scale n).rateAt with
    | (t, r) :: rest =>
      if (n = 1 ∨ n = 2) ∧ t ≤ s.now then
        (s.setScale n { s.scale n with base := s.scaleFine n t, at_ := t, rate := r, rateAt := rest }).putRate n r
      else s
    | [] => s)

/-- R161: four expected intervals without an accepted offset. -/
def execHoldoverEntry (n : Nat) (s : State) : Host.Outcome State Fault Refusal :=
  let from_ := max (s.scale n).waitFrom ((s.scale n).lastAcc.getD 0)
  s.ends (if (n = 1 ∨ n = 2) ∧ s.get F.TIM_SSTAT_STATE n = 2 ∧ from_ + 4 * s.expected n ≤ s.now then
    ((s.put F.TIM_SSTAT_STATE 3 n).bump F.TIM_SSTAT_HOLDS n).eventTo (.item 0x12 0) 0 4 n else s)

/-- A write of MODE with the other fields of TIM_SnCTL as they stand. -/
def State.modeBy (s : State) (init : Init) (n m : Nat) : State :=
  if n = 1 ∨ n = 2 then
    s.owned init .TIM_SCTL n 0 0 (fun t => t.sctlWrite n (setBits (t.word .TIM_SCTL n 0 0) 1 0 m)) else s

/-- R161. -/
def execModeServo (init : Init) (n : Nat) (s : State) : Host.Outcome State Fault Refusal := s.ends (s.modeBy init n 1)
/-- R161, R167. -/
def execModeIncrement (init : Init) (n : Nat) (s : State) : Host.Outcome State Fault Refusal := s.ends (s.modeBy init n 2)
/-- R161. -/
def execModeOff (init : Init) (n : Nat) (s : State) : Host.Outcome State Fault Refusal := s.ends (s.modeBy init n 0)

/-- R162. -/
def execOffsetWrite (init : Init) (n : Nat) (e : Int) (s : State) : Host.Outcome State Fault Refusal :=
  s.ends (if n = 1 ∨ n = 2 then s.owned init .TIM_SOFFS n 0 1 (fun t => t.offsApply n e) else s)

/-- R165. -/
def execFeedWrite (init : Init) (n : Nat) (e : Int) (s : State) : Host.Outcome State Fault Refusal :=
  s.ends (if n = 1 ∨ n = 2 then s.owned init .TIM_SFEED n 0 1 (fun t => t.feedApply n e) else s)

/-- Whether an edge is the leading edge that EDGE of a TCI sets: the rising edge for 1 and 3, the falling edge for 2; none for 0 (R163). -/
def leadingEdge (edge : Nat) (rise : Bool) : Bool := if edge = 2 then !rise else (edge == 1 || edge == 3) && rise

/-- R163, R164: an edge on the TCI that scale n follows, now. A stamp half a second from two whole seconds is rounded up (DESIGN CHOICE, log
entry 153). -/
def execGnssPulse (n : Nat) (rise : Bool) (s : State) : Host.Outcome State Fault Refusal :=
  let tci := s.get F.TIM_SCTL_TCI n
  let c := s.scale n
  let inWindow := match c.pulse with
    | some t => decide (t + 999900 * usUnits ≤ s.now) && decide (s.now ≤ t + 1000100 * usUnits)
    | none => true
  let d := s.scaleAt n s.now - signedOf 32 (s.get F.TIM_SPPS_DELAY n) * 4096
  let sec := (2 * d + Int.ofNat secFine) / (2 * Int.ofNat secFine) * Int.ofNat secFine
  s.ends (if (n = 1 ∨ n = 2) ∧ s.get F.TIM_SCTL_SRC n = 3 ∧ leadingEdge (s.get F.TIM_TCICTL_EDGE tci) rise ∧ s.domOn domTIM then
    if inWindow then (s.setScale n { c with pulse := some s.now }).offset n (sec - d) else s.rej n
  else s)

/-- R168: a write of TIM_INCRn as NS · 2²⁴ + FRAC. -/
def execIncrementWrite (init : Init) (n v : Nat) (s : State) : Host.Outcome State Fault Refusal :=
  s.ends (if n = 1 ∨ n = 2 then s.owned init .TIM_INCR n 0 0 (fun t => t.incrWrite n v) else s)

/-! ### Meanings: shadow timebase -/

/-- R169 to R171: a difference of code or parameters, or a loss of PLL lock of the primary or shadow; `tickP` and `tickS` say
which unit's tick count differs from the count of reference edges. Where a lock was lost the tick counts are not judged, and where both were CAUSE
is 2 (DESIGN CHOICE, log entry 154). -/
def execShadowMismatch (lossP lossS tickP tickS : Bool) (s : State) : Host.Outcome State Fault Refusal :=
  let primary := if lossP || lossS then lossP && !lossS else tickP && !tickS
  let s1 := s.put F.TIM_SHCTL_CAUSE (if lossP then 2 else if lossS then 3 else 1)
  s.ends (if s.on F.TIM_STAT_NOSHADOW || s.tim.switchAt.isSome then s
    else if primary then { s1 with tim := { s1.tim with switchAt := some s1.now } }.putAligned
    else (s1.put F.TIM_STAT_NOSHADOW 1).eventAll (List.range 4) 0 6 0xFFFF)

/-- R171, R172: the shadow drives the time bus. -/
def execSwitchOverComplete (s : State) : Host.Outcome State Fault Refusal :=
  s.ends (match s.tim.switchAt with
    | some _ =>
      let s1 := { s with tim := { s.tim with switchAt := none, testAt := some (s.now + secUnits) } }
      let s2 := ((s1.raise F.TIM_STAT_SWITCHED).put F.TIM_STAT_NOSHADOW 1).put F.TIM_STAT_ONSHADOW (1 - s1.get F.TIM_STAT_ONSHADOW)
      let s3 := ((s2.bump F.TIM_SHCTL_SWITCHES).putAligned).eventAll (List.range 4) 0 7 0xFFFF
      let s4 := s3.logEntry 10 0 0xFFFF (s3.get F.TIM_SHCTL_CAUSE)
      (List.range 16).foldl (fun t n => t.tpoResume n) s4
    | none => s)

/-- R173: the faulted unit's self-test. -/
def execShadowSelfTest (pass : Bool) (s : State) : Host.Outcome State Fault Refusal :=
  s.ends (match s.tim.testAt with
    | some t =>
      if t ≤ s.now then
        let s1 := { s with tim := { s.tim with testAt := none } }
        if pass then s1.put F.TIM_STAT_NOSHADOW 0 else s1
      else s
    | none => s)

/-- R174. -/
def execPlannedSwap (init : Init) (s : State) : Host.Outcome State Fault Refusal :=
  s.ends (s.owned init .TIM_SHCTL 0 0 0 State.swapTime)

/-- R174: the apply tick of a planned swap. -/
def execPlannedSwapApply (s : State) : Host.Outcome State Fault Refusal :=
  s.ends (match s.tim.swapAt with
    | some t =>
      if t ≤ s.now then
        let s1 := { s with tim := { s.tim with swapAt := none } }
        (((s1.bump F.TIM_SHCTL_SWITCHES).put F.TIM_SHCTL_CAUSE 4).put F.TIM_STAT_ONSHADOW (1 - s1.get F.TIM_STAT_ONSHADOW)).logEntry
          10 0 0xFFFF 4
      else s
    | none => s)

/-! ### Meanings: time pulse outputs and captures -/

/-- R177. -/
def execTpoArm (init : Init) (n : Nat) (s : State) : Host.Outcome State Fault Refusal :=
  s.ends (if n < 16 then s.owned init .TIM_TPOCTL n 0 0 (fun t => t.tpoctlWrite n (t.word .TIM_TPOCTL n 0 0 ||| 0x10)) else s)

/-- R178. -/
def execTpoDisarm (init : Init) (n : Nat) (s : State) : Host.Outcome State Fault Refusal :=
  s.ends (if n < 16 then s.owned init .TIM_TPOCTL n 0 0 (fun t => t.tpoctlWrite n (t.word .TIM_TPOCTL n 0 0 &&& ~~~0x10)) else s)

/-- R175: the next instant of an armed TPO; while a switch-over holds the outputs its leading edge is kept back (R171), and a hold window passes
it over (R180, DEDUCED, log entry 49). -/
def execTpoLeadingEdge (n : Nat) (s : State) : Host.Outcome State Fault Refusal :=
  let c := s.tpo n
  s.ends (if n < 16 ∧ s.on F.TIM_TPOCTL_EN n ∧ !s.on F.TIM_TPOCTL_SRC n ∧ !s.on F.TIM_TPOSTAT_DONE n ∧ c.late = false then
    match s.t0Of (s.get F.TIM_TPOCTL_SCALE n) (s.tpoInstant n c.k) with
    | some u =>
      if s.now < u then s
      else if s.tim.switchAt.isSome then s.setTpo n { c with late := true }
      else if (s.chan (384 + n)).window.isSome then s.tpoPass n (c.k + 1)
      else s.tpoLead n u
    | none => s
  else s)

/-- R175: WIDTH after the leading edge. -/
def execTpoTrailingEdge (n : Nat) (s : State) : Host.Outcome State Fault Refusal :=
  s.ends (match (s.tpo n).trail with
    | some t => if n < 16 ∧ t ≤ s.now ∧ s.tim.switchAt.isNone ∧ (s.chan (384 + n)).window.isNone then s.tpoOff n else s
    | none => s)

def State.tci (s : State) (i : Nat) : TciSt := Sparse.at s.tim.tcis i TciSt.quiet
def State.setTci (s : State) (i : Nat) (v : TciSt) : State :=
  { s with tim := { s.tim with tcis := Sparse.set s.tim.tcis i v } }

/-- A stamp of TCI i (R181, R182). -/
def State.tciStamp (s : State) (i : Nat) (rise : Bool) : State :=
  let sc := s.get F.TIM_TCICTL_SCALE i
  let valid := s.scaleValid sc
  let seq := (bitsOf ((s.latest .TIM_TCICAP i 0).getD 3 0) 31 16 + 1) % 65536
  let t := if valid then timeWords ((s.scaleAt sc s.now).toNat / 4096 * 4096) else [0, 0, 0]
  let w3 := seq * 65536 + (if s.tim.switchAt.isSome then 8 else 0) + (if valid then 0 else 4) + (if rise then 2 else 0)
  let ovr := if s.locked .TIM_TCICAP i 0 then s.slotFull .TIM_TCICAP i 0 else (s.tci i).unread
  let s1 := (s.deliver .TIM_TCICAP i 0 (t ++ [BitVec.ofNat 32 w3])).bump F.TIM_TCICNT_EDGES i
  let s1a := if ovr then s1.bump F.TIM_TCICNT_OVR i else s1
  let s2 := if s.locked .TIM_TCICAP i 0 then s1a else s1a.setTci i { s1.tci i with unread := true }
  let s3 := { s2 with sch := { s2.sch with moments := Sparse.set s2.sch.moments (7 * 65536 + i) s2.now } }
  s3.eventTo (.item 0x08 i) 0 8 i seq

/-- R182, R183: an edge on TCI i. The 10 ns are measured from the last edge that was told apart (DESIGN CHOICE, log entry 156). -/
def execTciEdge (i : Nat) (rise : Bool) (s : State) : Host.Outcome State Fault Refusal :=
  let near := match (s.tci i).last with
    | some t => decide (s.now < t + 160)
    | none => false
  let e := s.get F.TIM_TCICTL_EDGE i
  s.ends (if 8 ≤ i ∨ near = true ∨ !s.domOn domTIM then s
    else
      let s1 := s.setTci i { s.tci i with last := some s.now }
      if e = 3 ∨ (e = 1 ∧ rise = true) ∨ (e = 2 ∧ rise = false) then s1.tciStamp i rise else s1)

end Sys2Proof.Machine
end

