-- ==== Sys2Proof/Machine/Ether.lean ====
section
/-! DEFINITION. The Ethernet switch (R191 to R228): forwarding table, ingress, egress, gates, gPTP engine and fabric ports, and
the meanings of its commands. Latency within the bounds of R218 is left out: a frame is classified when it is in. -/

set_option Elab.async false

namespace Sys2Proof.Machine

/-- The switch owner's events (R192). -/
def switchOwner : OwnSpec := .item 0x12 1

/-- Whether a port is an external one that carries frames: enabled and linked. -/
def State.portUp (s : State) (p : Nat) : Bool :=
  if p < 11 then s.on F.ESW_PCTL_EN p && s.on F.ESW_PSTAT_LINK p else decide (p < 15)

/-! ### Forwarding table (R205 to R208) -/

/-- The big-endian bytes of an n-byte number. -/
def beBytes : Nat → Nat → List Nat
  | 0, _ => []
  | n + 1, v => (v / 256 ^ n % 256) :: beBytes n v

/-- The bucket of an address in a VLAN (R205). -/
def fdbBucket (vid mac : Nat) : Nat := crcBytes 16 0x1021 0xFFFF (beBytes 2 (vid % 4096) ++ beBytes 6 mac) % 2048

def State.fdbAt (s : State) (k : Nat) : Option FdbEnt := Sparse.get s.eth.fdb k
def State.setFdb (s : State) (k : Nat) (e : Option FdbEnt) : State :=
  { s with eth := { s.eth with fdb := match e with
    | some v => Sparse.set s.eth.fdb k v
    | none => Sparse.erase s.eth.fdb k } }

/-- The entry index of an address, if it is in its bucket. -/
def State.fdbFind (s : State) (vid mac : Nat) : Option Nat :=
  ((List.range 4).map (fun w => 4 * fdbBucket vid mac + w)).find? (fun k =>
    match s.fdbAt k with
    | some e => e.mac == mac && e.vid == vid
    | none => false)

/-- A free way of an address's bucket. -/
def State.fdbFree (s : State) (vid mac : Nat) : Option Nat :=
  ((List.range 4).map (fun w => 4 * fdbBucket vid mac + w)).find? (fun k => (s.fdbAt k).isNone)

/-- What the access cycle of now holds of commands and learning (R208). -/
def State.fdbCycle (s : State) : State :=
  { s with eth := { s.eth with
    cmds := s.eth.cmds.filter (fun x => x.1 == s.now), learnt := s.eth.learnt.filter (fun x => x.at_ == s.now) } }

/-- Sets an entry that is learnt and notes what stood there. -/
def State.learnSet (s : State) (b k : Nat) (e : Option FdbEnt) (counted : Nat) : State :=
  let s1 := { s with eth := { s.eth with learnt := s.eth.learnt ++ [⟨s.now, b, k, s.fdbAt k, counted⟩] } }
  let s2 := match e with
    | some v => s1.setFdb k (some v)
    | none => s1
  if counted = 1 then s2.bump F.ESW_STAT_MOVES else if counted = 2 then s2.bump F.ESW_STAT_LEARNFULL else s2

/-- Learns or refreshes a source address seen on a port (R207), unless a command addresses its bucket in the same cycle (R208). -/
def State.learn (s0 : State) (p vid mac : Nat) : State :=
  let b := fdbBucket vid mac
  let s := s0.fdbCycle
  if 11 ≤ p ∨ !s.on F.ESW_PCTL_LEARN p ∨ !s.on F.ESW_VLAN_LEARN vid ∨ (s.now, b) ∈ s.eth.cmds then s
  else match s.fdbFind vid mac with
    | some k =>
      (match s.fdbAt k with
      | some e =>
        if e.static then s
        else s.learnSet b k (some { e with ports := 2 ^ p, seen := s.now }) (if e.ports = 2 ^ p then 0 else 1)
      | none => s)
    | none =>
      match s.fdbFree vid mac with
      | some k => s.learnSet b k (some ⟨mac, vid, false, 2 ^ p, s.now⟩) 0
      | none => s.learnSet b 0 none 2

/-- A command addresses a bucket: what was learnt in it in the same cycle is dropped (R208). -/
def State.learnDrop (s0 : State) (b : Nat) : State :=
  let s := s0.fdbCycle
  let mine := s.eth.learnt.filter (fun x => x.bucket == b)
  let s1 := mine.reverse.foldl (fun t x =>
    if x.counted = 2 then t.unbump F.ESW_STAT_LEARNFULL
    else
      let t1 := t.setFdb x.idx x.old
      if x.counted = 1 then t1.unbump F.ESW_STAT_MOVES else t1) s
  { s1 with eth := { s1.eth with learnt := s1.eth.learnt.filter (fun x => x.bucket != b), cmds := s1.eth.cmds ++ [(s.now, b)] } }

/-- Removes every dynamic entry (R207). -/
def State.fdbFlush (s : State) : State :=
  { s with eth := { s.eth with fdb := s.eth.fdb.filter (fun e => e.2.static) } }

/-- The key in ESW_FDBDATA: VID and address. -/
def State.fdbKey (s : State) : Nat × Nat :=
  (s.get F.ESW_FDBDATA_VID, s.get F.ESW_FDBDATA_MAC_HI * 2 ^ 32 + s.get F.ESW_FDBDATA_MAC_LO)

/-- Shows an entry in ESW_FDBDATA. -/
def State.fdbShow (s : State) (e : Option FdbEnt) : State :=
  match e with
  | some e => ((((((s.put F.ESW_FDBDATA_MAC_LO e.mac).put F.ESW_FDBDATA_MAC_HI (e.mac / 2 ^ 32)).put F.ESW_FDBDATA_VID e.vid).put
      F.ESW_FDBDATA_VALID 1).put F.ESW_FDBDATA_STATIC (if e.static then 1 else 0)).put F.ESW_FDBDATA_PORTS e.ports)
  | none => s.setWords .ESW_FDBDATA 0 0 [0, 0, 0]

/-- The command OP of ESW_FDBCMD (R208), which ends at once. -/
def State.fdbCmd (s0 : State) (op : Nat) : State :=
  let (vid, mac) := s0.fdbKey
  let s := s0.learnDrop (if op = 0 then s0.get F.ESW_FDBCMD_INDEX / 4 else fdbBucket vid mac)
  let hit := s.fdbFind vid mac
  let s2 := s.put F.ESW_FDBCMD_FULL 0
  let s1 := match hit with
    | some k => (s2.put F.ESW_FDBCMD_HIT 1).put F.ESW_FDBCMD_INDEX k
    | none => s2.put F.ESW_FDBCMD_HIT 0
  match op with
  | 0 => s.fdbShow (s.fdbAt (s.get F.ESW_FDBCMD_INDEX))
  | 1 =>
    let e : Option FdbEnt := if s.on F.ESW_FDBDATA_VALID then
        some ⟨mac, vid, s.on F.ESW_FDBDATA_STATIC, s.get F.ESW_FDBDATA_PORTS, s.now⟩ else none
    (match hit with
    | some k => s1.setFdb k e
    | none =>
      match s.fdbFree vid mac with
      | some k => if e.isSome then (s1.setFdb k e).put F.ESW_FDBCMD_INDEX k else s1
      | none => s1.put F.ESW_FDBCMD_FULL 1)
  | 2 =>
    (match hit with
    | some k => s1.fdbShow (s.fdbAt k)
    | none => s1)
  | _ =>
    (match hit with
    | some k => s1.setFdb k none
    | none => s1)

/-! ### Frame buffer (R199, R200) -/

/-- The egress ports that share the frame buffer, in index order. -/
def bufPorts : List Nat := List.range 10 ++ [11, 12, 13, 14]

/-- Cells that ports of a list reserve, granted in order until 4,096 are reserved (R199). -/
def State.granted (s : State) : Nat → List Nat → List (Nat × Nat)
  | _, [] => []
  | left, p :: ps =>
    let g := min left (s.get F.ESW_PQMAP_RESV p * 16)
    (p, g) :: s.granted (left - g) ps

/-- Cells that a queue holds. -/
def cellsOf (fs : List Frame) : Nat := fs.foldl (fun t f => t + f.cells) 0

/-- Cells that a port's queues hold. -/
def State.portCells (s : State) (p : Nat) : Nat := (List.range 8).foldl (fun t q => t + cellsOf (s.equeue p q)) 0

/-- Cells free for port p: what is left of its reservation and of the shared pool. -/
def State.cellsFree (s : State) (p : Nat) : Nat :=
  let g := s.granted 4096 bufPorts
  let pool := 8192 - g.foldl (fun t x => t + x.2) 0
  let taken := g.foldl (fun t x => t + (s.portCells x.1 - x.2)) 0
  let own := (Sparse.at g p 0) - s.portCells p
  own + (pool - taken)

/-- Queues a copy of a frame at port p, or counts its drop (R200). Answers whether it entered. -/
def State.enq (s : State) (p : Nat) (f : Frame) : State × Bool :=
  if f.cells ≤ s.cellsFree p ∧ cellsOf (s.equeue p f.queue) < s.get F.ESW_PQLIM_LIM p f.queue then
    let s1 := s.creditTick p
    (s1.setEqueue p f.queue (s1.equeue p f.queue ++ [f]), true)
  else (s.bump F.ESW_PCNT_COUNT p 4, false)

/-- The queue of a frame from an external port at egress port p (R209). -/
def State.mapQueue (s : State) (p pcp : Nat) : Nat := s.get F.ESW_PQMAP_MAP p / 2 ^ (3 * pcp) % 8

/-! ### Stamps -/

/-- A T0 instant in scale n, in units of 2⁻¹⁶ ns at the resolution of R144. -/
def State.inScale (s : State) (n u : Nat) : Int := s.scaleAt n u / 4096 * 4096

/-- The three words of a stamp in a scale; zero where the scale is invalid. -/
def State.stampWords (s : State) (n u : Nat) : List Word :=
  if s.scaleValid n then timeWords (s.inScale n u).toNat else [0, 0, 0]

/-! ### Fabric ports (R228) -/

/-- The range of partition p in shared SRAM (R124). -/
def State.partRange (s : State) (p : Nat) : Nat × Nat :=
  let c := Sparse.at s.cfg.place p Placement.absent
  if c.present then (c.base, c.base + c.size) else (0, 0)

/-- Whether a ring of a number of descriptors runs: a SIZE of a power of two from 16 to 1,024, a base that was not refused and lies in the
partition's range. -/
def State.ringRuns (s : State) (p : Nat) (rx : Bool) : Bool :=
  let size := if rx then s.get F.ESW_FPRXSIZE_SIZE p else s.get F.ESW_FPTXSIZE_SIZE p
  let base := 32 * (if rx then s.get F.ESW_FPRXBASE_BASE p else s.get F.ESW_FPTXBASE_BASE p)
  let (lo, hi) := s.partRange p
  [16, 32, 64, 128, 256, 512, 1024].contains size && decide (lo ≤ base) && decide (base < hi) &&
    !s.eth.stopped.contains (2 * p + if rx then 1 else 0)

/-- Writes a descriptor back: OWN cleared, RES and, for a receive descriptor, PORT and LEN set; a stamp into words 2 to 4. -/
def State.descBack (s : State) (d res : Nat) (rx : Option (Nat × Nat)) (stamp : Option (List Word)) : State :=
  let w := s.rd32 (d + 4)
  let w1 := setBits (setBits w 31 31 0) 19 16 res
  let w2 := match rx with
    | some (port, len) => setBits (setBits w1 23 20 port) 15 0 len
    | none => w1
  let s1 := s.wr32 (d + 4) w2
  match stamp with
  | some ws => s1.wrWords (d + 8) ws
  | none => s1

/-- Whether any egress queue still holds a copy of the frame of a descriptor. -/
def State.descWaits (s : State) (d : Nat) : Bool :=
  (List.range 15).any (fun p => (List.range 8).any (fun q => (s.equeue p q).any (fun f => f.desc == some d)))

/-- Writes the descriptor of a sent or dropped frame back, once. -/
def State.txBack (s : State) (f : Frame) (res : Nat) (u : Option Nat) : State :=
  match f.desc with
  | none => s
  | some d =>
    let w := s.rd32 (d + 4)
    if bitsOf w 31 31 = 0 then s
    else s.descBack d res none (match u with
      | some t => if bitsOf w 29 29 = 1 then some (s.stampWords (bitsOf w 28 27) t) else none
      | none => none)

/-- The copy of a frame that leaves without an egress stamp was its last: its descriptor is written back (DESIGN CHOICE, log entry 169). -/
def State.txLast (s : State) (f : Frame) (res : Nat) : State :=
  match f.desc with
  | some d => if s.descWaits d then s else s.txBack f res none
  | none => s

/-- Whether n bytes at an address lie in shared SRAM. -/
def inSram (a n : Nat) : Bool := decide (0x10000000 ≤ a) && decide (a + n ≤ 0x10800000)

/-- The bytes of a frame from destination address on, tagged or not, without FCS. -/
def Frame.bytes (f : Frame) (tagged : Bool) : List Byte :=
  (beBytes 6 f.dst ++ beBytes 6 f.src ++ (if tagged then beBytes 2 0x8100 ++ beBytes 2 (f.pcp * 8192 + f.vid) else [])).map
    (fun x => BitVec.ofNat 8 x) ++ f.body

/-- The EtherType of a frame. -/
def Frame.etype (f : Frame) : Nat :=
  match f.body with
  | a :: b :: _ => a.toNat * 256 + b.toNat
  | _ => 0

/-- Whether a frame leaves port p tagged (R204). -/
def State.taggedAt (s : State) (p vid : Nat) : Bool := !bit (s.get F.ESW_VLAN_UNTAG vid) p

/-- Whether the gateway takes a frame that is forwarded to a fabric port (R481): an NTSCF (0x82) or TSCF (0x04) AVTPDU whose
stream_id is that of a tunnel with RXEN 1. -/
def State.forGateway (s : State) (f : Frame) : Bool :=
  match f.body.map (fun b => b.toNat) with
  | 0x22 :: 0xF0 :: t :: _ :: _ :: _ :: id =>
    (t == 0x04 || t == 0x82) && decide (8 ≤ id.length) && (List.range 64).any (fun k =>
      s.on F.GWY_TUN_RXEN k &&
        s.get F.GWY_TUN_STREAM_1 k * 2 ^ 32 + s.get F.GWY_TUN_STREAM k == (id.take 8).foldl (fun n x => 256 * n + x) 0)
  | _ => false

/-- Delivers a frame to the receive ring of partition p, or drops it (R228). A descriptor with an uncorrectable word is returned with RES 1
(R630), as is one whose buffer does not lie in shared SRAM (DESIGN CHOICE, log entry 169). -/
def State.toRing (s : State) (p : Nat) (f : Frame) : State :=
  let h := s.get F.ESW_FPRXHEAD_HEAD p
  let d := 32 * s.get F.ESW_FPRXBASE_BASE p + 32 * h
  let w := s.rd32 (d + 4)
  let next (t : State) : State := t.put F.ESW_FPRXHEAD_HEAD ((h + 1) % max 1 (s.get F.ESW_FPRXSIZE_SIZE p)) p
  let bs := f.bytes (s.taggedAt (11 + p) f.vid)
  if !s.ringRuns p true || h == s.get F.ESW_FPRXTAIL_TAIL p then s.bump F.ESW_PCNT_COUNT (11 + p) 4
  else match s.badIn d 32 with
    | some a => next (((s.badSeen 4 a).bump F.ESW_PCNT_COUNT (11 + p) 4).descBack d 1 none none)
    | none =>
      if bitsOf w 31 31 = 0 then s.bump F.ESW_PCNT_COUNT (11 + p) 4
      else if !inSram (s.rd32 d).toNat bs.length ∨ s.lostIn (s.rd32 d).toNat bs.length then next ((s.bump F.ESW_PCNT_COUNT (11 + p) 4).descBack d 1 none none)
      else
        let s1 := (s.madeWhole (s.rd32 d).toNat bs.length).wrBytes (s.rd32 d).toNat bs
        (next (s1.descBack d 0 (some (f.ingress, bs.length)) (some (s1.stampWords (bitsOf w 28 27) f.stamp)))).bump F.ESW_PCNT_COUNT
          (11 + p) 1

/-! ### Egress (R210 to R215) -/

/-- A frame's launch instant as a T0 instant; none while its scale is invalid. -/
def State.launchAt (s : State) (f : Frame) : Option Nat :=
  match f.launch with
  | some (n, t) => s.t0Of n t
  | none => none

/-- How late a frame is at present, in T0 units. -/
def State.lateness (s : State) (f : Frame) : Nat :=
  match s.launchAt f with
  | some u => s.now - u
  | none => 0

/-- Whether a frame is eligible (R210). -/
def State.eligible (s : State) (f : Frame) : Bool :=
  f.launch.isNone || (match s.launchAt f with
    | some u => decide (u ≤ s.now)
    | none => false)

/-- Whether a gPTP message is an event message, which takes precedence (R210): Sync, Pdelay_Req, Pdelay_Resp. -/
def PtpTx.isEvent (m : PtpTx) : Bool := m.kind == 0 || m.kind == 3 || m.kind == 4

/-- The T0 instant a gPTP message is launched at. -/
def State.ptpAt (s : State) (m : PtpTx) : Option Nat := s.t0Of (if m.kind < 2 then m.dom + 1 else 0) m.launch

/-- Whether a gPTP message's launch instant has been reached. -/
def State.ptpDue (s : State) (m : PtpTx) : Bool :=
  !m.held && (match s.ptpAt m with
    | some u => decide (u ≤ s.now)
    | none => false)

/-- Whether a gPTP event frame is due at a port. -/
def State.ptpFirst (s : State) (p : Nat) : Option PtpTx := (s.eport p).ptp.find? (fun m => m.isEvent && s.ptpDue m)

/-- Whether what ends at `u` would overlap a pending launch instant of port p in queue q or above, or of the gPTP engine. -/
def State.blocksLaunch (s : State) (p q u : Nat) : Bool :=
  let early (t : Option Nat) : Bool := match t with
    | some v => decide (s.now < v) && decide (v < u)
    | none => false
  (s.eport p).ptp.any (fun m => m.isEvent && !m.held && early (s.ptpAt m)) ||
    ((List.range 8).filter (fun k => decide (q ≤ k))).any (fun k => (s.equeue p k).any (fun f => early (s.launchAt f)))

/-- How long port p is taken by a frame in its form there, with preamble and gap. -/
def State.frameTime (s : State) (p : Nat) (f : Frame) : Nat := wireTime p (8 + f.wireLen (s.taggedAt p f.vid) + 12)

/-- Whether queue q of port p may start what takes `dur` T0 units: gate open and not closing before its end, credit, no pending launch
instant in the way (R210 to R212). -/
def State.queueGoes (s : State) (p q dur : Nat) : Bool :=
  bit (s.gatesNow p) q && (!s.shaped p q || decide (0 ≤ s.credit p q)) && s.gateFits p q dur && !s.blocksLaunch p q (s.now + dur)

/-- The queue that port p serves now: the highest-numbered one that R210 lets through. -/
def State.pickQueue (s : State) (p : Nat) : Option (Nat × Frame) :=
  ([7, 6, 5, 4, 3, 2, 1, 0].filterMap (fun q =>
    match s.equeue p q with
    | f :: _ =>
      if s.eligible f && s.queueGoes p q (s.frameTime p f) then some (q, f) else none
    | [] => none)).head?

/-- Drops the heads of a queue that are later than ESW_FPpLATE.MAX (R215); CNT7 of a fabric port reads zero (R227). -/
def State.dropLate (s : State) (p q : Nat) : Nat → State
  | 0 => s
  | n + 1 =>
    match s.equeue p q with
    | f :: fs =>
      if f.launch.isSome && decide (s.get F.ESW_FPLATE_MAX f.fab * usUnits < s.lateness f) then
        let s1 := s.setEqueue p q fs
        ((if p < 11 then s1.bump F.ESW_PCNT_COUNT p 7 else s1).txLast f 3).dropLate p q n
      else s
    | [] => s

/-- Remote access attempts start: their timeouts run from `u` (R488), and each counts as sent. -/
def State.attStart (s : State) (atts : List TagRef) (u : Nat) : State :=
  atts.foldl (fun t a =>
    if t.gwy.accs.any (fun (x : Access) => x.grp == a.grp && x.tag == a.tag && x.quar.isNone && x.from_.isNone) then
      ({ t with gwy := { t.gwy with accs := t.gwy.accs.map (fun (x : Access) =>
        if x.grp = a.grp ∧ x.tag = a.tag ∧ x.quar.isNone then { x with from_ := some u } else x) } }).bump F.GWY_CCNT_ROUTED
          (t.get F.GWY_GRP_CPLREQ a.grp)
    else t) s

/-- What a read of the frame buffer finds (R201, R629, R630): `fault` 1 and 2 an uncorrectable word, 3 and 4 a corrected one of one or two bits.
The address in the log entry is a free value, for the spec gives the frame buffer none (log entry 169). -/
def State.bufRead (s : State) (fault : Nat) : State :=
  if fault = 1 ∨ fault = 2 then ((s.eccBlock 1 3).logEntry 1 1 0xFFFF s.fresh 6).tookFresh
  else if fault = 3 then s.eccBlock 1 1
  else if fault = 4 then s.eccBlock 1 2
  else s

/-- Sends a frame of queue q from port p; `fault` 1: its read finds an uncorrectable word before its first bit has left, 2: after, 3, 4: a
corrected word (R201); 5: it comes by cut-through and its FCS turns out wrong (R202). -/
def State.sendFrame (s : State) (p q fault : Nat) (f : Frame) : State :=
  let dur := s.frameTime p f
  let s1 := (s.setEqueue p q ((s.equeue p q).drop 1)).bufRead fault
  let cut := fault == 2 || fault == 5
  if fault = 1 then (s1.bump F.ESW_PCNT_COUNT p 4).txLast f 1
  else if 11 ≤ p then (s1.toRing (p - 11) f).txLast f 0
  else
    let s2 := (s1.creditSpend p q dur).bump F.ESW_PCNT_COUNT p 1
    let s3 := if 0 < s.lateness f then s2.bump F.ESW_PCNT_COUNT p 6 else s2
    let s4 := if cut then (s3.bump F.ESW_PCNT_COUNT p 5).cum 29 else s3
    ((s4.setEport p { s4.eport p with busyTo := s.now + dur, sent := some ⟨some f, none, s.now, cut⟩ }).txBack f 0 (some s.now)).attStart
      f.atts s.now

/-- How long a gPTP message takes a port, with preamble and gap. -/
def ptpTime (p : Nat) : Nat := wireTime p (8 + 64 + 12)

/-- Sends a gPTP message. A Pdelay_Resp gives its egress stamp to the message that follows it. -/
def State.sendPtp (s : State) (p : Nat) (m : PtpTx) : State :=
  let e := s.eport p
  let rest := e.ptp.filter (fun x => x != m)
  let ms := if m.kind = 4 then rest.map (fun x =>
      if x.kind = 5 ∧ x.seq = m.seq then { x with held := false, origin := Int.ofNat (fineOf s.now), launch := Int.ofNat (fineOf s.now) } else x)
    else rest
  let s1 := s.setEport p { e with
    ptp := ms, busyTo := s.now + ptpTime p, sent := some ⟨none, some m, s.now, false⟩ }
  s1.bump F.ESW_PCNT_COUNT p 1

/-- The gPTP message that a port may send as a frame of queue 7: one that is no event message goes under that queue's gate and credit,
ahead of its frames (DESIGN CHOICE, log entry 170). -/
def State.ptpGeneral (s : State) (p : Nat) : Option PtpTx :=
  if s.queueGoes p 7 (ptpTime p) then (s.eport p).ptp.find? (fun m => !m.isEvent && s.ptpDue m) else none

/-- A transmission opportunity of port p (R210). -/
def State.egress (s : State) (p fault : Nat) : State :=
  let s1 := (List.range 8).foldl (fun t q => t.dropLate p q (t.equeue p q).length) (s.creditTick p)
  match s1.ptpFirst p with
  | some m => s1.sendPtp p m
  | none =>
    match s1.ptpGeneral p with
    | some m => (s1.creditSpend p 7 (ptpTime p)).sendPtp p m
    | none =>
      match s1.pickQueue p with
      | some (q, f) => s1.sendFrame p q fault f
      | none => s1

/-! ### Ingress (R197, R203 to R209, R216, R217) -/

/-- Takes a frame's length out of the token bucket of stream k: whether it finds enough tokens (R216). -/
def State.meter (s : State) (k len : Nat) : State × Bool :=
  let cir := s.get F.ESW_STREAM_CIR k
  let cap := s.get F.ESW_STREAM_CBS k * 8 * 16000000
  if cir = 0 then (s, true)
  else
    let (t, at_) := Sparse.at s.eth.buckets k (cap, s.now)
    let have_ := min cap (t + cir * (s.now - at_))
    let need := len * 8 * 16000000
    if need ≤ have_ then ({ s with eth := { s.eth with buckets := Sparse.set s.eth.buckets k (have_ - need, s.now) } }, true)
    else ({ s with eth := { s.eth with buckets := Sparse.set s.eth.buckets k (have_, s.now) } }, false)

/-- Whether stream entry k matches a frame. -/
def State.streamHit (s : State) (k : Nat) (f : Frame) : Bool :=
  let mac := s.get F.ESW_STREAM_MAC_HI k * 2 ^ 32 + s.get F.ESW_STREAM_MAC_LO k
  let mode := s.get F.ESW_STREAM_MODE k
  decide (f.ingress < 10) && bit (s.get F.ESW_STREAM_PORTS k) f.ingress && s.get F.ESW_STREAM_VID k == f.vid &&
    ((mode == 1 && f.dst == mac) || (mode == 2 && f.src == mac))

/-- Stream filtering and policing of a frame of a given length (R216). -/
def State.police (s : State) (f : Frame) (len : Nat) : State × Bool :=
  match (List.range 256).find? (fun k => s.streamHit k f) with
  | none => (s, true)
  | some k =>
    if s.get F.ESW_STREAM_MAXSDU k < len then (s.bump F.ESW_STREAM_SDUDROP k, false)
    else
      let (s1, pass) := s.meter k len
      if pass then (s1.bump F.ESW_STREAM_PASS k, true) else (s1.bump F.ESW_STREAM_METERDROP k, false)

/-- The destination ports of a frame (R206), bit 10 ignored. -/
def State.destPorts (s : State) (f : Frame) : List Nat :=
  let m := s.get F.ESW_VLAN_MEMBER f.vid
  let set_ := match (if f.dst = 2 ^ 48 - 1 then none else s.fdbFind f.vid f.dst) with
    | some k => (match s.fdbAt k with
        | some e => e.ports &&& m
        | none => m)
    | none => m
  (bitList 15 set_).filter (fun p => p != 10 && p != f.ingress && s.portUp p)

/-- Whether a frame goes from one port to another by cut-through (R217). -/
def State.cutThrough (s : State) (f : Frame) (q p : Nat) : Bool :=
  bit (s.get F.ESW_PCT_CTMASK q) p && ((decide (q < 4) && decide (p < 4)) ||
    (decide (4 ≤ q) && decide (q < 8) && decide (4 ≤ p) && decide (p < 8))) &&
    (s.equeue p (s.mapQueue p f.pcp)).isEmpty && f.launch.isNone

/-- Forwards a classified frame: to every port of its set; where it cuts through a port that is free its egress starts at once.
Answers false if every port of its set dropped it for its buffer. -/
def State.forward (s : State) (f : Frame) (q : Option Nat) : State × Bool :=
  let ps := s.destPorts f
  let taken := ps.any (fun p => decide (11 ≤ p)) && s.forGateway f
  let s0 := if taken then { s with eth := { s.eth with avtp := s.eth.avtp ++ [f] } } else s
  (if taken then ps.filter (fun p => decide (p < 11)) else ps).foldl (fun (acc : State × Bool) p =>
    let t := acc.1
    let ct := t.cutThrough f f.ingress p
    let g := { f with queue := q.getD (t.mapQueue p f.pcp) }
    let (t1, took) := t.enq p g
    let t2 := if took ∧ ct ∧ (t1.eport p).busyTo ≤ s.now then t1.egress p 0 else t1
    (t2, acc.2 || took)) (s0, taken || ps.isEmpty)

/-- A frame as its bytes from the destination address to before the FCS give it: with the PVID and PCP given for an untagged one
(R203). A VID of 4,095 stays. -/
def parseFrame (bs : List Byte) (pvid dpcp ingress stamp : Nat) : Frame :=
  let ns := bs.map (fun b => b.toNat)
  let num (l : List Nat) : Nat := l.foldl (fun t x => 256 * t + x) 0
  let dst := num (ns.take 6)
  let src := num ((ns.drop 6).take 6)
  let tci := num ((ns.drop 14).take 2)
  if num ((ns.drop 12).take 2) = 0x8100 then
    ⟨dst, src, if tci % 4096 = 0 then pvid else tci % 4096, tci / 8192, bs.drop 16, ingress, stamp, 0, none, 0, none, []⟩
  else ⟨dst, src, pvid, dpcp, bs.drop 12, ingress, stamp, 0, none, 0, none, []⟩

/-- The service address (R653). -/
def State.serviceAddr (s : State) : Nat := 0x024B58 * 2 ^ 24 + s.fuse.serial % 2 ^ 24

/-- Whether a frame is a service frame. -/
def State.service (s : State) (f : Frame) : Bool := f.etype == 0x88B5 && f.dst == s.serviceAddr

/-- The destination address of gPTP (R206). -/
def ptpAddr : Nat := 0x0180C200000E

/-- Puts a gPTP message on a port's list. -/
def State.ptpSend (s : State) (p : Nat) (m : PtpTx) : State := s.setEport p { s.eport p with ptp := (s.eport p).ptp ++ [m] }

/-- The peer-delay responder (R220): a Pdelay_Req, messageType 2 of a gPTP frame, is answered on the port it came in by a Pdelay_Resp with its
ingress stamp and a follow-up with the stamp of that (PRESUMED from IEEE 802.1AS, log entry 170). -/
def State.pdRespond (s : State) (f : Frame) : State :=
  let ns := f.body.map (fun b => b.toNat)
  let seq := ns.getD 32 0 * 256 + ns.getD 33 0
  if f.etype = 0x88F7 ∧ ns.getD 2 0 % 16 = 2 ∧ (f.ingress < 8 ∨ f.ingress = 9) then
    (s.ptpSend f.ingress ⟨4, 0, seq, Int.ofNat (fineOf s.now), Int.ofNat (fineOf f.stamp), 0, true, false⟩).ptpSend f.ingress
      ⟨5, 0, seq, 0, 0, 0, false, true⟩
  else s

/-- Whether a frame is a gPTP or MAC control frame, or of VID 4,095, or comes in where its VLAN has no member: it is never forwarded
(R197, R203, R204, R206). -/
def State.unforwarded (s : State) (f : Frame) : Bool :=
  f.etype == 0x8808 || f.vid == 4095 || f.dst == ptpAddr || !bit (s.get F.ESW_VLAN_MEMBER f.vid) f.ingress

/-- Classifies, filters and forwards a good frame of length `len`; `q` is the queue that a descriptor names, `tag` the frame's tag as it
came in. Service frames of SVC and P9 go to the Siari engine, whose requests are commands of their own (R653); gPTP frames to the
engine. Answers false if every port that was to send it dropped it for its buffer. -/
def State.ingress (s : State) (f : Frame) (len : Nat) (q tag : Option Nat) : State × Bool :=
  let p := f.ingress
  let drop : State × Bool := (if p < 11 then s.bump F.ESW_PCNT_COUNT p 3 else s, true)
  if f.etype = 0x8808 then drop
  else if p = 10 then (if s.service f then (s, true) else drop)
  else if p = 9 ∧ s.service f ∧ f.vid ≠ 4095 ∧ (tag.isNone ∨ bit (s.get F.ESW_VLAN_MEMBER f.vid) 9) then
    ({ s with eth := { s.eth with svcTag := tag } }, true)
  else if f.vid = 4095 then drop
  else if f.dst = ptpAddr then (s.pdRespond f, true)
  else if !bit (s.get F.ESW_VLAN_MEMBER f.vid) p then drop
  else
    let (s1, pass) := s.police f len
    if !pass then (s1, true) else (s1.learn p f.vid f.src).forward f q

/-- The FCS of a frame's bytes as four bytes, low byte first. -/
def fcsOf (bs : List Byte) : List Byte := (bytes4 (crcCode 3 (bs.map (fun b => b.toNat)))).map (fun x => BitVec.ofNat 8 x)

/-- The egress of a frame with a wrong FCS at port e, where it cuts through and has started (R202): as a good frame's start, but with a
complemented FCS. A copy that has not started is dropped with the frame. -/
def State.cutBad (s : State) (f : Frame) (e : Nat) : State :=
  let g := { f with queue := s.mapQueue e f.pcp }
  let (s1, took) := s.enq e g
  if took ∧ (s.eport e).busyTo ≤ s.now ∧ (s1.ptpFirst e).isNone ∧ (s1.ptpGeneral e).isNone ∧ s1.pickQueue e = some (g.queue, g) then
    s1.sendFrame e g.queue 5 g
  else s

/-- The tag of a frame's bytes: its TCI (R203). -/
def tagOf (bs : List Byte) : Option Nat :=
  let num (l : List Byte) : Nat := l.foldl (fun t x => 256 * t + x.toNat) 0
  if num ((bs.drop 12).take 2) = 0x8100 then some (num ((bs.drop 14).take 2)) else none

/-- R203: a frame from destination address to FCS arrives at an external port and is stamped (R219). A wrong FCS of a frame that was cut
through complements the FCS of each copy that has started (R202); the policing that let it start stands. -/
def execFrameReceive (p : Nat) (frame : List Byte) (s0 : State) : Host.Outcome State Fault Refusal :=
  let n := frame.length
  let bs := frame.take (n - 4)
  let f := parseFrame bs (s0.get F.ESW_PCTL_PVID p) (s0.get F.ESW_PCTL_DPCP p) p s0.now
  s0.ends (if 10 < p ∨ !s0.domOn domNET ∨ !s0.portUp p then s0
    else
      let s := s0.setEport p { s0.eport p with seen := some s0.now }
      if n < 64 ∨ 1522 < n then s.bump F.ESW_PCNT_COUNT p 2
      else if frame.drop (n - 4) ≠ fcsOf bs then
        let s1 := s.bump F.ESW_PCNT_COUNT p 2
        if p < 8 ∧ s.unforwarded f = false then
          let (s2, pass) := s1.police f n
          if pass then ((s.destPorts f).filter (fun e => s.cutThrough f p e)).foldl (fun t e => t.cutBad f e) s2 else s1
        else s1
      else ((s.bump F.ESW_PCNT_COUNT p 0).ingress f n none (tagOf bs)).1)

/-- R210: a transmission opportunity. `fault` as in R201; `collided`: under CSMA/CD a frame of P8 is aborted by a collision and its stamp
discarded (R194), so that it waits on. -/
def execEgressStart (p fault : Nat) (collided : Bool) (s : State) : Host.Outcome State Fault Refusal :=
  s.ends (if 14 < p ∨ p = 10 ∨ !s.domOn domNET ∨ !s.portUp p ∨ s.now < (s.eport p).busyTo then s
    else if collided ∧ p = 8 ∧ !s.on F.ESW_PPLCA_EN 8 then s
    else s.egress p fault)

/-! ### Meanings: forwarding table -/

/-- R207. -/
def execEntryAgeing (k : Nat) (s : State) : Host.Outcome State Fault Refusal :=
  s.ends (match s.fdbAt k with
    | some e =>
      if e.static = false ∧ e.seen + max 1 (s.get F.ESW_AGE_AGETIME) * secUnits ≤ s.now then s.setFdb k none else s
    | none => s)

/-- A write of ESW_FDBCMD with a command and, for OP 0, an index. -/
def State.fdbWrite (s : State) (init : Init) (op idx : Nat) : State :=
  s.owned init .ESW_FDBCMD 0 0 0 (fun t => (t.put F.ESW_FDBCMD_INDEX idx).fdbCmd op)

/-- R208. -/
def execFdbReadIndex (init : Init) (idx : Nat) (s : State) : Host.Outcome State Fault Refusal := s.ends (s.fdbWrite init 0 idx)
/-- R208. -/
def execFdbWriteByKey (init : Init) (s : State) : Host.Outcome State Fault Refusal :=
  s.ends (s.fdbWrite init 1 (s.get F.ESW_FDBCMD_INDEX))
/-- R208. -/
def execFdbLookUpKey (init : Init) (s : State) : Host.Outcome State Fault Refusal :=
  s.ends (s.fdbWrite init 2 (s.get F.ESW_FDBCMD_INDEX))
/-- R208. -/
def execFdbDeleteByKey (init : Init) (s : State) : Host.Outcome State Fault Refusal :=
  s.ends (s.fdbWrite init 3 (s.get F.ESW_FDBCMD_INDEX))
/-- R207. -/
def execFdbFlush (init : Init) (s : State) : Host.Outcome State Fault Refusal :=
  s.ends (s.owned init .ESW_AGE 0 0 0 State.fdbFlush)

/-! ### Meanings: gate lists -/

/-- CHANGE := 1 (R213). -/
def State.gateChange (s : State) (p : Nat) : State :=
  if s.on F.ESW_PTASCTL_CHANGE p then s
  else (s.put F.ESW_PTASCTL_CHANGE 1 p).setEport p { s.eport p with changeAt := some s.applyTick }

/-- A write of TASCTL: while a change is pending a write that would change LEN is dropped in that field and counted (R213). EN := 1 takes the list up where T1 gives it (R212). -/
def State.tasctlWrite (s : State) (p : Nat) (v : Word) : State :=
  let busy := s.on F.ESW_PTASCTL_CHANGE p
  let s0 := ((s.creditTick p).put F.ESW_PTASCTL_EN (bitsOf v 31 31) p).put F.ESW_PTASCTL_FALLBACK (bitsOf v 7 0) p
  let s1 := if bitsOf v 31 31 = 1 ∧ !s.on F.ESW_PTASCTL_EN p then s0.gateSeek p else s0
  let s2 := if busy then (if bitsOf v 25 16 = s.get F.ESW_PTASCTL_LEN p then s1 else s1.accErr 1)
    else s1.put F.ESW_PTASCTL_LEN (bitsOf v 25 16) p
  if bitsOf v 30 30 = 1 then s2.gateChange p else s2

/-- R213. -/
def execGateListChange (init : Init) (p : Nat) (s : State) : Host.Outcome State Fault Refusal :=
  s.ends (if p < 11 then s.owned init .ESW_PTASCTL p 0 0 (fun t => t.gateChange p) else s)

/-- R213: the first cycle start after the apply tick. -/
def execGateListSwitch (p : Nat) (s : State) : Host.Outcome State Fault Refusal :=
  s.ends (match s.gateSwitchAt p with
    | some t =>
      if p < 11 ∧ s.on F.ESW_PTASCTL_CHANGE p ∧ t ≤ s.scaleAt 1 s.now then
        let cyc := gateCycle s p
        let base := Int.ofNat (s.timeAt .ESW_PTASBASE p 0 0 / 4096 * 4096)
        let s1 := ((s.creditTick p).put F.ESW_PTASCTL_OPBANK (1 - s.get F.ESW_PTASCTL_OPBANK p) p).put F.ESW_PTASCTL_CHANGE 0 p
        let r : GateRun := ⟨base, cyc, clampNat 1 512 (s.get F.ESW_PTASCTL_LEN p), none, 0, 0, 255⟩
        (s1.setEport p { s1.eport p with changeAt := none, run := r }).gateEnter p 0 t (t + cyc)
      else s
    | none => s)

/-- R212: the end of a gate list entry's interval, or of the wait for a restart (R214). -/
def execGateEntryEnd (p : Nat) (s : State) : Host.Outcome State Fault Refusal :=
  let r := (s.eport p).run
  s.ends (if p < 11 ∧ s.on F.ESW_PTASCTL_EN p ∧ r.len ≠ 0 ∧ s.scaleValid 1 ∧ r.until_ ≤ s.scaleAt 1 s.now then
    let s1 := s.creditTick p
    match r.idx with
    | some e => if r.until_ < r.cycEnd then s1.gateEnter p (e + 1) r.until_ r.cycEnd
        else s1.gateEnter p 0 r.cycEnd (r.cycEnd + r.cycle)
    | none => s1.gateEnter p 0 r.cycEnd (r.cycEnd + r.cycle)
  else s)

/-! ### gPTP (R219 to R226) -/

def State.ptpDom (s : State) (d : Nat) : PtpDom := Sparse.at s.eth.doms d PtpDom.fresh
def State.setPtpDom (s : State) (d : Nat) (v : PtpDom) : State :=
  { s with eth := { s.eth with doms := Sparse.set s.eth.doms d v } }

/-- Role of port p in domain d: 0 disabled, 1 master, 2 slave; P8 is never slave (R220). -/
def State.ptpRole (s : State) (d p : Nat) : Nat :=
  let r := s.get F.ESW_PTPROLE_ROLE d / 4 ^ p % 4
  if r = 3 ∨ (p = 8 ∧ r = 2) then 0 else r

/-- Whether port p takes part in gPTP: up, and asCapable unless it is P8. -/
def State.ptpUp (s : State) (d p : Nat) : Bool := s.portUp p && (p == 8 || bit (s.get F.ESW_PSTAT_ASCAP p) d)

/-- The slave port of domain d. -/
def State.slavePort (s : State) (d : Nat) : Option Nat := (List.range 10).find? (fun p => s.ptpRole d p == 2)

/-- The master ports of domain d that can send. -/
def State.masterPorts (s : State) (d : Nat) : List Nat := (List.range 10).filter (fun p => s.ptpRole d p == 1 && s.ptpUp d p)

/-- A signed log₂ interval in T0 units, held to given limits. -/
def logInterval (lo hi : Int) (v : Nat) : Nat :=
  let k := clampInt lo hi (signedOf 8 v)
  if k < 0 then secUnits / 2 ^ k.natAbs else secUnits * 2 ^ k.natAbs

/-- The sync interval of domain d (−7 to +1). -/
def State.syncInterval (s : State) (d : Nat) : Nat := logInterval (-7) 1 (s.get F.ESW_PTPINT_SYNCLOG d)

/-- Latency bounds IN and OUT of R218 in units of 10 ns. -/
def latIn (p : Nat) : Nat := if p < 4 then 30 else if p < 8 then 120 else if p = 8 then 300 else 10
def latOut (p : Nat) : Nat := if p < 4 then 30 else if p < 8 then 100 else if p = 8 then 250 else 10

/-- The store-and-forward latency of a 64-byte Sync between two ports, in units of 2⁻¹⁶ ns. -/
def syncLatency (p q : Nat) : Int :=
  Int.ofNat ((10 * (latIn p + latOut q) + 150) * 65536 + wireTime p 64 * 4096)

/-- The end of the transmission in progress with its gap, in the domain's scale. -/
def State.freeAt (s : State) (d p : Nat) : Int := s.inScale (d + 1) (max s.now (s.eport p).busyTo)

/-- The mean link delay in use for a port: P8DELAY on P8, the audit's where it applies, else the measured one (R187, R220). -/
def State.linkDelay (s : State) (p : Nat) : Int :=
  if p = 8 then Int.ofNat (s.get F.ESW_PDCTL_P8DELAY) * 65536
  else match (s.audit p).rtt with
    | some r => if p < 8 ∧ s.on F.TIM_AUD_APPLIED p then 2048 * Int.ofNat r else (s.eport p).mean
    | none => (s.eport p).mean

/-- Relays a Sync of domain d to master port q (R223, R224), once its correction is known. -/
def State.relayOne (s : State) (d q : Nat) (y : SyncSt) : State :=
  let inS := s.inScale (d + 1) y.stamp
  let res := max (Int.ofNat (s.get F.ESW_PTPINT_RESMIN d) * 65536) (syncLatency y.port q)
  let launch := max (inS + res) (s.freeAt d q)
  let corr := y.corr + s.linkDelay y.port + (launch - inS)
  if bit (s.get F.ESW_PTPSTEP_ONESTEP d) q then s.ptpSend q ⟨0, d, y.seq, launch, y.origin, corr, false, false⟩
  else (s.ptpSend q ⟨0, d, y.seq, launch, y.origin, 0, true, false⟩).ptpSend q ⟨1, d, y.seq, launch, y.origin, corr, true, false⟩

/-- Relays a Sync to every master port; while the scale is invalid each is left unsent and counted (R221). -/
def State.relay (s : State) (d : Nat) (y : SyncSt) : State :=
  (s.masterPorts d).foldl (fun t q => if s.scaleValid (d + 1) then t.relayOne d q y else t.bump F.ESW_PTPCNT_NOSYNC d) s

/-- A complete Sync yields its offset (R222). -/
def State.syncOffset (s : State) (d : Nat) (y : SyncSt) : State :=
  s.sourceOffset (d + 1) (d + 1) (y.origin + y.corr + s.linkDelay y.port - s.inScale (d + 1) y.stamp)

/-- A two-step Sync without its Follow_Up is discarded: no offset, no egress Sync (R225). -/
def State.fuMissed (s : State) (d : Nat) : State :=
  (s.setPtpDom d { s.ptpDom d with sync := none }).bump F.ESW_PTPCNT_FUMISS d

/-- A Sync, in two-step with its Follow_Up, is accepted: sync is regained (R226), it is relayed and yields its offset. -/
def State.syncAccept (s : State) (d : Nat) (y : SyncSt) : State :=
  let g := s.ptpDom d
  let s1 := s.setPtpDom d { g with sync := some y, last := s.now, lost := false }
  let s2 := if g.lost then s1.eventTo switchOwner 1 2 d else s1
  (s2.relay d y).syncOffset d y

/-- R222: a Sync arrives at port p of domain d now; origin and correction in units of 2⁻¹⁶ ns. A two-step Sync waits for its Follow_Up, for
without it no egress Sync may leave (R225; DEDUCED, log entry 170). -/
def execSyncReceive (d p seq : Nat) (two : Bool) (origin corr : Int) (s : State) : Host.Outcome State Fault Refusal :=
  s.ends (if 1 < d ∨ 9 < p ∨ !s.domOn domNET ∨ s.ptpRole d p ≠ 2 ∨ !s.ptpUp d p then s
    else
      let s1 := match (s.ptpDom d).sync with
        | some y => if y.waiting then s.fuMissed d else s
        | none => s
      let y : SyncSt := ⟨p, seq, s.now, origin, corr, two⟩
      if two then s1.setPtpDom d { s1.ptpDom d with sync := some y } else s1.syncAccept d y)

/-- R224: the Follow_Up of the Sync that waits for it. -/
def execFollowUpReceive (d p seq : Nat) (origin corr : Int) (s : State) : Host.Outcome State Fault Refusal :=
  s.ends (match (s.ptpDom d).sync with
    | some y =>
      if y.waiting ∧ y.port = p ∧ y.seq = seq ∧ s.domOn domNET then
        s.syncAccept d { y with origin := origin, corr := y.corr + corr, waiting := false }
      else s
    | none => s)

/-- R225. -/
def execFollowUpTimeout (d : Nat) (s : State) : Host.Outcome State Fault Refusal :=
  s.ends (match (s.ptpDom d).sync with
    | some y => if y.waiting ∧ y.stamp + 10 * msUnits ≤ s.now then s.fuMissed d else s
    | none => s)

/-- R226. -/
def execSyncTimeout (d : Nat) (s : State) : Host.Outcome State Fault Refusal :=
  let p := s.ptpDom d
  s.ends (if d < 2 ∧ (s.slavePort d).isSome ∧ p.lost = false ∧ p.last + 3 * s.syncInterval d ≤ s.now ∧ s.domOn domNET then
    ((s.setPtpDom d { p with lost := true, gmNext := s.now }).bump F.ESW_PTPCNT_SYNCTO d).eventTo switchOwner 1 1 d
  else s)

/-- Whether the device is grandmaster of a domain, or serves it as such while sync is lost (R221, R226). -/
def State.isGm (s : State) (d : Nat) : Bool := (s.slavePort d).isNone || (s.ptpDom d).lost

/-- R223: a Sync on each master port once per sync interval as grandmaster: its originTimestamp is its launch instant. -/
def execGrandmasterSyncInterval (d : Nat) (s : State) : Host.Outcome State Fault Refusal :=
  let g := s.ptpDom d
  let sendOne (t : State) (q : Nat) : State :=
    let l := t.freeAt d q
    if !t.scaleValid (d + 1) then t.bump F.ESW_PTPCNT_NOSYNC d
    else if bit (t.get F.ESW_PTPSTEP_ONESTEP d) q then t.ptpSend q ⟨0, d, g.seq, l, l, 0, false, false⟩
    else (t.ptpSend q ⟨0, d, g.seq, l, 0, 0, true, false⟩).ptpSend q ⟨1, d, g.seq, l, l, 0, true, false⟩
  s.ends (if d < 2 ∧ s.domOn domNET ∧ s.isGm d ∧ g.gmNext ≤ s.now then
    let s1 := s.setPtpDom d { g with gmNext := s.now + s.syncInterval d, seq := (g.seq + 1) % 65536 }
    (s.masterPorts d).foldl sendOne s1
  else s)

/-- R220: Announce on each master port but P8 once per announce interval. -/
def execAnnounceSend (d : Nat) (s : State) : Host.Outcome State Fault Refusal :=
  let g := s.ptpDom d
  s.ends (if d < 2 ∧ s.domOn domNET ∧ g.annNext ≤ s.now then
    let s1 := s.setPtpDom d { g with
      annNext := s.now + logInterval (-128) 16 (s.get F.ESW_PTPINT_ANNLOG d), annSeq := (g.annSeq + 1) % 65536 }
    ((s.masterPorts d).filter (fun q => q != 8)).foldl (fun t q => t.ptpSend q ⟨2, d, g.annSeq, Int.ofNat (fineOf s.now), 0, 0, false, false⟩) s1
  else s)

/-- R220. -/
def execAnnounceReceive (d p : Nat) (s : State) : Host.Outcome State Fault Refusal :=
  s.ends (if d < 2 ∧ p < 10 ∧ s.portUp p ∧ s.domOn domNET then s.bump F.ESW_PTPCNT_ANNRX d else s)

/-- R220. -/
def execSignalingReceive (d p : Nat) (s : State) : Host.Outcome State Fault Refusal :=
  s.ends (if d < 2 ∧ p < 10 ∧ s.portUp p ∧ s.domOn domNET then s.bump F.ESW_PTPCNT_SIGRX d else s)

/-- Sets asCapable of both domains, which share the exchange (R220). -/
def State.putAscap (s : State) (p : Nat) (b : Bool) : State := s.put F.ESW_PSTAT_ASCAP (if b then 3 else 0) p

/-- The peer-delay interval. -/
def State.pdInterval (s : State) : Nat := logInterval (-3) 3 (s.get F.ESW_PDCTL_PDLOG)

/-- R220: an exchange starts; one that had no response breaks the row of good exchanges. -/
def execPdelayExchange (p : Nat) (s : State) : Host.Outcome State Fault Refusal :=
  let e := s.eport p
  let due := match e.pdLast with
    | some t => decide (t + s.pdInterval ≤ s.now)
    | none => true
  s.ends (if (p < 8 ∨ p = 9) ∧ s.domOn domNET ∧ s.portUp p ∧ due = true then
    let s1 := if e.pdOpen.isSome then (s.putAscap p false).setEport p { e with good := 0 } else s
    (s1.setEport p { s1.eport p with pdOpen := some s.now, pdLast := some s.now }).ptpSend p
      ⟨3, 0, 0, Int.ofNat (fineOf s.now), 0, 0, false, false⟩
  else s)

/-- R220: the response, after a turnaround in units of 2⁻¹⁶ ns: the mean link delay, the audit (R185, R187) and asCapable. -/
def execPdelayResponse (p : Nat) (turnaround : Int) (s : State) : Host.Outcome State Fault Refusal :=
  let e := s.eport p
  s.ends (match e.pdOpen with
    | some t =>
      if (p < 8 ∨ p = 9) ∧ s.domOn domNET ∧ s.portUp p then
        let mean := (Int.ofNat (fineOf (s.now - t)) - turnaround) / 2
        let (s0, use_) := s.pathDelay p mean
        let s1 := s0.auditDelay p mean
        let fine := decide (use_ ≤ Int.ofNat (s.get F.ESW_PDCTL_THRESH) * 65536)
        let good := if fine then e.good + 1 else 0
        (s1.setEport p { e with pdOpen := none, mean := mean, good := good }).putAscap p (decide (3 ≤ good))
      else s
    | none => s)

/-- How many ports a role word makes slave. -/
def slavesOf (v : Nat) : Nat := ((List.range 10).filter (fun p => v / 4 ^ p % 4 == 2)).length

/-- A write of ESW_PTPdROLE (R221). -/
def State.roleWrite (s : State) (d v : Nat) : State :=
  if 1 < slavesOf v then s.accErr 1
  else (s.put F.ESW_PTPROLE_ROLE v d).setPtpDom d { s.ptpDom d with sync := none, last := s.now, lost := false, gmNext := s.now }

/-- R221. -/
def execPtpRoleWrite (init : Init) (d v : Nat) (s : State) : Host.Outcome State Fault Refusal :=
  s.ends (if d < 2 then s.owned init .ESW_PTPROLE d 0 0 (fun t => t.roleWrite d v) else s)

/-! ### Rings -/

/-- Takes the frame of the descriptor at address d of partition p's transmit ring (R215, R228). A frame that no egress queue holds is
written back at once: RES 1 if it was dropped for buffer everywhere, else 0 (DESIGN CHOICE, log entry 169). -/
def State.txFrame (s : State) (p d len : Nat) (launch : Option (Nat × Int)) : State :=
  let a := (s.rd32 d).toNat
  let w := s.rd32 (d + 4)
  let bs := s.rdBytes a len
  let f0 := parseFrame bs 1 0 (11 + p) s.now
  let wait := launch.isSome ∨ bitsOf w 29 29 = 1
  let f : Frame := { f0 with launch := launch, fab := p, desc := if wait then some d else none }
  let (s1, took) := s.ingress f (len + 4) (some (bitsOf w 26 24)) (tagOf bs)
  if wait ∧ s1.descWaits d then s1
  else if bitsOf (s1.rd32 (d + 4)) 31 31 = 0 then s1
  else s1.descBack d (if took then 0 else 1) none none

/-- Processes the descriptor at address d of partition p's transmit ring (R215, R228). A frame with an uncorrectable word, or whose buffer does
not lie in shared SRAM (DESIGN CHOICE, log entry 169), is dropped with RES 1 (R630). -/
def State.txOne (s : State) (p d : Nat) : State :=
  let w := s.rd32 (d + 4)
  let len := bitsOf w 15 0
  let launch := bitsOf w 30 30 = 1
  let sc := bitsOf w 28 27
  let t := Int.ofNat (timeOfWords (s.rd32 (d + 8)) (s.rd32 (d + 12)) (s.rd32 (d + 16)) / 4096 * 4096)
  let s0 := s.bump F.ESW_PCNT_COUNT (11 + p) 0
  if len + 4 < 64 ∨ 1522 < len + 4 then s0.descBack d 2 none none
  else if launch ∧ (sc = 3 ∨ !s.scaleValid sc ∨ !nsecOk (s.rd32 (d + 12)) ∨ s.scaleAt sc s.now + Int.ofNat secFine < t) then
    s0.descBack d 4 none none
  else if !inSram (s.rd32 d).toNat len then s0.descBack d 1 none none
  else match s.badIn (s.rd32 d).toNat len with
    | some a => (s0.badSeen 4 a).descBack d 1 none none
    | none => s0.txFrame p d len (if launch then some (sc, t) else none)

/-- Processes descriptors from HEAD up to TAIL while the device owns them. A descriptor with an uncorrectable word is returned with RES 1
(R630). -/
def State.txRun (s : State) (p : Nat) : Nat → State
  | 0 => s
  | n + 1 =>
    let h := s.get F.ESW_FPTXHEAD_HEAD p
    let d := 32 * s.get F.ESW_FPTXBASE_BASE p + 32 * h
    let on (t : State) : State := (t.put F.ESW_FPTXHEAD_HEAD ((h + 1) % max 1 (s.get F.ESW_FPTXSIZE_SIZE p)) p).txRun p n
    if h = s.get F.ESW_FPTXTAIL_TAIL p then s
    else match s.badIn d 32 with
      | some a => on ((s.badSeen 4 a).descBack d 1 none none)
      | none => if bitsOf (s.rd32 (d + 4)) 31 31 = 0 then s else on (s.txOne p d)

/-- TAIL of a transmit ring advances. -/
def State.txTail (s : State) (p v : Nat) : State :=
  let s1 := s.put F.ESW_FPTXTAIL_TAIL v p
  if s1.ringRuns p false && s1.domOn domNET then s1.txRun p (s1.get F.ESW_FPTXSIZE_SIZE p) else s1

/-- R228. -/
def execTxTailAdvance (init : Init) (p v : Nat) (s : State) : Host.Outcome State Fault Refusal :=
  s.ends (if p < 4 then s.owned init .ESW_FPTXTAIL p 0 0 (fun t => t.txTail p v) else s)

/-- R228. -/
def execRxTailAdvance (init : Init) (p v : Nat) (s : State) : Host.Outcome State Fault Refusal :=
  s.ends (if p < 4 then s.owned init .ESW_FPRXTAIL p 0 0 (fun t => t.put F.ESW_FPRXTAIL_TAIL v p) else s)

/-- A write of a ring base: outside the partition's range it is refused and the ring stays stopped (R228). -/
def State.ringBase (s : State) (p : Nat) (rx : Bool) (a : Nat) : State :=
  let (lo, hi) := s.partRange p
  let k := 2 * p + if rx then 1 else 0
  let rest := s.eth.stopped.filter (fun x => x != k)
  if lo ≤ a ∧ a < hi then
    { s.put (if rx then F.ESW_FPRXBASE_BASE else F.ESW_FPTXBASE_BASE) (a / 32) p with eth := { s.eth with stopped := rest } }
  else { s.accErr 1 with eth := { s.eth with stopped := rest ++ [k] } }

/-- R228. -/
def execRingBaseWrite (init : Init) (p : Nat) (rx : Bool) (a : Nat) (s : State) : Host.Outcome State Fault Refusal :=
  s.ends (if p < 4 then
    s.owned init (if rx then .ESW_FPRXBASE else .ESW_FPTXBASE) p 0 0 (fun t => t.ringBase p rx a) else s)

/-! ### Link training (R152, R184, R193 to R195) -/

/-- A port's training ends: the cable as the reflection of R184 shows it (R193), not measured on a port or at a training without one; a port with
an open or short cable has no link (DEDUCED, log entry 171); else its path measurement, its audit and its link (R152, R184). P8 under
PLCA has its BEACON as coordinator or, as `audited` says there, hears one (R194). -/
def State.linkTrained (s : State) (p : Nat) (path audited : Bool) (rtt : Option Nat) (cable sqi : Nat) : State :=
  let seen := if (p < 8 ∨ p = 10) ∧ audited ∧ rtt.isSome then cable % 4 else 3
  let s0 := s.put F.ESW_PSTAT_CABLE seen p
  if seen = 1 ∨ seen = 2 then s0
  else
    let s1 := s0.pathTraining p path
    let s2 := if p < 8 then s1.auditTraining p audited rtt else if p = 10 then s1.auditTraining 8 audited rtt else s1
    let s3 := (s2.put F.ESW_PSTAT_LINK 1 p).put F.ESW_PSTAT_SQI sqi p
    if p = 8 then s3.put F.ESW_PSTAT_BEACON (if s3.on F.ESW_PPLCA_EN 8 ∧ (s3.get F.ESW_PPLCA_ID 8 = 0 ∨ audited) then 1 else 0) 8 else s3

/-- R152, R184: `path` says whether the loop-back measurement succeeded, `rtt` the reflection's round trip in units of 1/16 ns, `cable`
and `sqi` what the PHY reports; on P8 `audited` says that a BEACON of another coordinator is heard. -/
def execLinkTrainingEnd (p : Nat) (path audited : Bool) (rtt : Option Nat) (cable sqi : Nat) (s : State) :
    Host.Outcome State Fault Refusal :=
  s.ends (if p < 11 ∧ s.domOn domNET ∧ s.on F.ESW_PCTL_EN p then s.linkTrained p path audited rtt cable sqi else s)

/-- A port's link goes down: uncalibrated (R152), no audit in use, not asCapable. -/
def State.linkLost (s : State) (p : Nat) : State :=
  let s1 := ((s.calPort p false).put F.ESW_PSTAT_LINK 0 p).putAscap p false
  let k := if p = 10 then 8 else p
  let s2 := if p < 8 ∨ p = 10 then ((s1.put F.TIM_AUD_VALID 0 k).put F.TIM_AUD_APPLIED 0 k).setAudit k AuditSt.none_ else s1
  s2.setEport p { s2.eport p with pdOpen := none, good := 0, ptp := [] }

/-! ### Writes of the block's registers -/

/-- The effect of a write of a one-word register of the switch. Without its configuration part the switched ports stay disabled (R138). -/
def State.eswWrite (s : State) (r : Reg) (i j w : Nat) (v : Word) : State :=
  match r with
  | .ESW_AGE =>
    let s1 := s.plainWrite .ESW_AGE 0 0 0 v
    if bitsOf v 31 31 = 1 then s1.fdbFlush else s1
  | .ESW_FDBCMD => (s.put F.ESW_FDBCMD_INDEX (bitsOf v 12 0)).fdbCmd (bitsOf v 31 30)
  | .ESW_PTPROLE => s.roleWrite i (bitsOf v 19 0)
  | .ESW_PCTL =>
    let s1 := s.plainWrite .ESW_PCTL i j w v
    if i < 10 ∧ 0x20 ∈ s.boot.missing then s1.put F.ESW_PCTL_EN 0 i else s1
  | .ESW_PPLCA =>
    if i ≠ 8 then s.accErr 1
    else
      let s1 := s.plainWrite .ESW_PPLCA 8 0 0 v
      if s1.on F.ESW_PPLCA_EN 8 ∧ s1.get F.ESW_PPLCA_ID 8 = 0 ∧ s1.portUp 8 then s1.put F.ESW_PSTAT_BEACON 1 8 else s1
  | .ESW_PQSLOPE =>
    let s1 := (s.creditTick i).plainWrite .ESW_PQSLOPE i j 0 v
    if portRate i * 1000 ≤ v.toNat then s1.bump F.ESW_PCNT_COUNT i 3 else s1
  | .ESW_PTASCTL => s.tasctlWrite i v
  | .ESW_PTASCYC => if s.on F.ESW_PTASCTL_CHANGE i then s.accErr 1 else s.plainWrite .ESW_PTASCYC i 0 0 v
  | .ESW_FPTXBASE => s.ringBase i false (v.toNat / 32 * 32)
  | .ESW_FPRXBASE => s.ringBase i true (v.toNat / 32 * 32)
  | .ESW_FPTXTAIL => s.txTail i (bitsOf v 9 0)
  | r => s.plainWrite r i j w v

/-- The effect of a whole value of a wide register of the switch (R28): TASBASE and the admin bank stay while a change is
pending (R213). -/
def State.eswWide (s : State) (r : Reg) (i j : Nat) (vs : List Word) : State :=
  let busy := s.on F.ESW_PTASCTL_CHANGE i
  match r with
  | .ESW_PTASBASE => if busy then s.accErr 1 else s.setWords r i 0 vs
  | .ESW_GATE => if busy ∧ j / 512 ≠ s.get F.ESW_PTASCTL_OPBANK i then s.accErr 1 else s.setWords r i j vs
  | r => (List.range r.geom.words).foldl (fun t w =>
      t.setWord r i j w (t.written r i j w (vs.getD w 0))) s

end Sys2Proof.Machine
end

