-- ==== Sys2Proof/Machine/Wake.lean ====
section
/-! DEFINITION. What a wake does in each power state (R532 to R534, R464, R465), shared by every wake source. -/

set_option Elab.async false

namespace Sys2Proof.Machine

/-- The power owner's events (R527). -/
def powerOwner : OwnSpec := .item 0x12 13

/-- Power states of PMU_STATE.STATE. -/
def State.pwr (s : State) : Nat := s.get F.PMU_STATE_STATE
def State.setPwr (s : State) (v : Nat) : State := s.put F.PMU_STATE_STATE v

def State.nchan (s : State) (j : Nat) : NwkChan := Sparse.at s.nwk.chans j NwkChan.quiet
def State.setNchan (s : State) (j : Nat) (v : NwkChan) : State :=
  { s with nwk := { s.nwk with chans := Sparse.set s.nwk.chans j v } }

/-- WAKE_OUT's level as it stands (R458): WOLVL in RUN and REST, or an automatic pulse. A fall with LOOPIGN 1 starts the 10 ms of
R459. -/
def State.wakeOut (s : State) : State :=
  let b := (s.on F.NWK_WIO_WOLVL && (s.pwr == 0 || s.pwr == 1)) || s.nwk.pulseTo.isSome
  if b = s.nwk.outHigh then s
  else if b then { s with nwk := { s.nwk with outHigh := true, ignoreTo := none } }
  else { s with nwk := { s.nwk with outHigh := false, ignoreTo := some (s.now + 10 * msUnits) } }

/-- The channels of NWK_SLPSET. -/
def State.sleepSet (s : State) : List Nat := bitList 22 (s.get F.NWK_SLPSET_SET)

/-- Channels with WFEN 1: their wake frames are due after a return to RUN that follows a wake (R466). -/
def State.wakeFrames (s : State) : State :=
  { s with nwk := { s.nwk with framesDue := (List.range 22).filter (fun j => s.on F.NWK_TRC_WFEN j) } }

/-- Case 2 of R464: the channels of NWK_SLPSET return to Normal; wake frames are due. -/
def State.channelsBack (s : State) : State :=
  let s1 := s.sleepSet.foldl (fun t j =>
    ((t.put F.NWK_TRC_STATE 0 j).put F.NWK_TRC_GOING 0 j).setNchan j { t.nchan j with want := none }) s
  (s1.put F.NWK_STAT_SLPALL 0).wakeFrames

/-- R532: the entry is aborted. An entry out of service-only state returns there, and the 30 min begin again (DESIGN CHOICE, log entry 144). -/
def State.entryAbort (s : State) : State :=
  let s1 := (s.wrap F.PMU_DSCTL_SEQ).bump F.PMU_PARKSTAT_ABORTS
  let s2 := s1.eventAll s1.runningParts 13 2 0xFFFF
  let s3 := s2.put F.PMU_STATE_PHASE 0
  if s.boot.step = 12 then
    { s3.setPwr 5 with boot := { s3.boot with serviceAt := some s3.now }, pmu := { s3.pmu with deepReq := false, lineOnly := false } }
  else
    let s4 := (s3.setPwr 0).channelsBack
    ({ s4 with pmu := { s4.pmu with acks := [], deepReq := false } }).wakeOut

/-- Whether the entry in progress can still be aborted: its commit point has not come. -/
def State.inEntry (s : State) : Bool := s.pwr == 2 && s.pmu.commitAt.isNone

/-- The ordinary event of a wake. -/
def State.wakeEvent (s : State) (w : Wake) : State :=
  match w.queue with
  | some n => if w.code = 0 then s else s.event n w.block w.code w.item w.arg0 w.arg1
  | none => s

/-- A wake arises: in RUN and REST its ordinary event; before the commit point the entry is aborted and the event follows; in any
other state it is latched for the replay (R465, R532 to R534). A device parked out of service-only state takes WAKE_IN alone (R139). -/
def State.raiseWake (s : State) (w : Wake) : State :=
  if s.pmu.lineOnly ∧ w.src ≠ 0 then s
  else if s.pwr = 0 ∨ s.pwr = 1 then s.wakeEvent w
  else if s.inEntry then (s.wakePulse w.src).entryAbort.wakeEvent w
  else s.latchWake w

/-- Hands a message to the gateway (R476), which routes while GWY_CTL.EN is 1. -/
def State.toGateway (s : State) (m : Msg) : State :=
  if s.on F.GWY_CTL_EN ∧ s.domOn domFAB then
    { s with gwy := { s.gwy with inbox := s.gwy.inbox ++ [{ m with num := s.gwy.count }], count := s.gwy.count + 1 } }
  else s

end Sys2Proof.Machine
end

