-- ==== Sys2Proof/Machine/Can.lean ====
section
/-! DEFINITION. The CAN FD controllers (R415 to R434): enabling, acceptance, the receive FIFO, transmission, error confinement, and the
meanings of their commands. -/

set_option Elab.async false

namespace Sys2Proof.Machine

def State.can_ (s : State) (c : Nat) : CanCh := Sparse.at s.can.chans c CanCh.idle
def State.setCan (s : State) (c : Nat) (v : CanCh) : State :=
  { s with can := { s.can with chans := Sparse.set s.can.chans c v } }

/-- The transceiver state of channel j: 0 Normal, 1 Listen-only, 2 Standby, 3 Sleep (R446). -/
def State.trc (s : State) (j : Nat) : Nat := s.get F.NWK_TRC_STATE j

/-- Places an event in the queue of the owner of channel c; the channel is the item it names (DEDUCED, log entry 13). -/
def State.canEvent (s : State) (c code : Nat) (arg : Nat := 0) : State := s.eventTo (.item 0x0E c) 7 code c arg

/-- Whether a channel is looped internally by an in-service test, from bus idle on (R649). -/
def State.canLooped (s : State) (c : Nat) : Bool :=
  s.integ.tests.any (fun (t : Nat × SvcTest) => t.2.op == 3 && t.2.idx == c) && !s.on F.CAN_STAT_BUSY c

/-- Whether the channel takes part in the bus: enabled, neither bus-off nor recovering, its receiver on. -/
def State.canOn (s : State) (c : Nat) : Bool :=
  decide (c < 10) && s.domOn domBUS && s.on F.CAN_CTL_EN c && decide (s.get F.CAN_STAT_ESTATE c ≤ 1) && decide (s.trc c ≤ 1) &&
    !s.canLooped c

/-- Valid communication on channel j within the window after a bus wake (R460). -/
def State.validComm (s : State) (j : Nat) : State :=
  match (s.nchan j).window with
  | some t =>
    if s.now ≤ t then (s.put F.NWK_FW_FWCNT 0 j).setNchan j { s.nchan j with window := none } else s
  | none => s

/-! ### Timing (R416, R417) -/

/-- The length of a bit in units of 12.5 ns. -/
def bitLen (brp tseg1 tseg2 : Nat) : Nat := (brp + 1) * (3 + tseg1 + tseg2)

/-- Whether the timing registers let the channel be enabled. -/
def State.canTimingOk (s : State) (c : Nat) : Bool :=
  let n := bitLen (s.get F.CAN_NBT_BRP c) (s.get F.CAN_NBT_TSEG1 c) (s.get F.CAN_NBT_TSEG2 c)
  let d := bitLen (s.get F.CAN_DBT_BRP c) (s.get F.CAN_DBT_TSEG1 c) (s.get F.CAN_DBT_TSEG2 c)
  decide (80 ≤ n) && decide (n ≤ 640) && decide (16 ≤ d) && decide (d ≤ n) &&
    decide (1 ≤ s.get F.CAN_NBT_TSEG2 c) && decide (1 ≤ s.get F.CAN_DBT_TSEG2 c) &&
    decide (s.get F.CAN_NBT_SJW c ≤ s.get F.CAN_NBT_TSEG2 c) && decide (s.get F.CAN_DBT_SJW c ≤ s.get F.CAN_DBT_TSEG2 c)

/-! ### Frames as buffer words (R421) -/

/-- Data bytes of a data length code. -/
def dlcLen (fdf : Bool) (dlc : Nat) : Nat :=
  if dlc ≤ 8 then dlc
  else if fdf then (match dlc with
    | 9 => 12
    | 10 => 16
    | 11 => 20
    | 12 => 24
    | 13 => 32
    | 14 => 48
    | _ => 64)
  else 8

/-- The smallest data length code of an FD frame that holds n bytes. -/
def dlcFor (n : Nat) : Nat :=
  if n ≤ 8 then n else if n ≤ 12 then 9 else if n ≤ 16 then 10 else if n ≤ 20 then 11 else if n ≤ 24 then 12
  else if n ≤ 32 then 13 else if n ≤ 48 then 14 else 15

/-- Sixteen data words from bytes, low byte first, zero beyond them. -/
def dataWords (bs : List Byte) : List Word :=
  (List.range 16).map (fun j => wordOf ((bs[4 * j]?).getD 0) ((bs[4 * j + 1]?).getD 0) ((bs[4 * j + 2]?).getD 0)
    ((bs[4 * j + 3]?).getD 0))

/-- The 24 words of a frame with word 23 zero; a remote frame carries no data. -/
def frameWords (id : Nat) (ide fdf brs esi rtr : Bool) (dlc : Nat) (data : List Byte) (stamp : List Word) : List Word :=
  let b (x : Bool) (k : Nat) : Nat := if x then 2 ^ k else 0
  [BitVec.ofNat 32 (b ide 31 + id % 2 ^ 29), BitVec.ofNat 32 (b fdf 31 + b brs 30 + b esi 29 + b rtr 28 + dlc % 16)] ++ stamp ++ [0] ++
    dataWords (if rtr then [] else data.take (dlcLen fdf (dlc % 16))) ++ [0, 0]

def frIde (ws : List Word) : Bool := bitsOf (ws.getD 0 0) 31 31 == 1
def frId (ws : List Word) : Nat := bitsOf (ws.getD 0 0) 28 0
def frFdf (ws : List Word) : Bool := bitsOf (ws.getD 1 0) 31 31 == 1
def frBrs (ws : List Word) : Bool := bitsOf (ws.getD 1 0) 30 30 == 1
def frRtr (ws : List Word) : Bool := bitsOf (ws.getD 1 0) 28 28 == 1
def frDlc (ws : List Word) : Nat := bitsOf (ws.getD 1 0) 3 0

/-- The data bytes of a frame. -/
def frData (ws : List Word) : List Byte :=
  if frRtr ws then [] else (((ws.drop 6).take 16).flatMap bytesOf).take (dlcLen (frFdf ws) (frDlc ws))

/-- Whether a frame matches a filter (R420). -/
def frMatches (ws : List Word) (ide : Bool) (id mask : Nat) : Bool :=
  let m := if ide then mask else mask / 2 ^ 18 * 2 ^ 18
  frIde ws == ide && decide (((frId ws) ^^^ id) &&& m = 0)

/-! ### Acceptance (R419 to R424) -/

/-- A frame enters a receive buffer (R422). -/
def State.canEnter (s : State) (r : Reg) (c j : Nat) (ws : List Word) : State :=
  let w := s.word r c j 23
  let ovr := if bitsOf w 31 31 = 1 then min 0xFF (bitsOf w 23 16 + 1) else bitsOf w 23 16
  let w' := BitVec.ofNat 32 (2 ^ 31 + ovr * 2 ^ 16 + (bitsOf w 15 0 + 1) % 2 ^ 16)
  let s1 := (s.setWordsFrom r c j 0 (ws.take 23)).setWord r c j 23 w'
  if r = .CAN_MB ∧ s.on F.CAN_MBMSK_NOTIFY c j then s1.canEvent c 1 else s1

/-- A frame accepted into a buffer enters it, or waits in its pending slot while a lock is held (R26). -/
def State.canDeliver (s : State) (r : Reg) (c j : Nat) (ws : List Word) : State :=
  if s.locked r c j then
    (if s.slotFull r c j then s.put (if r = .CAN_PB then F.CAN_PB_OVR else F.CAN_MB_OVR)
      (min 0xFF (s.get (if r = .CAN_PB then F.CAN_PB_OVR else F.CAN_MB_OVR) c j + 1)) c j else s).deliver r c j ws
  else s.canEnter r c j ws

/-- The receive FIFO's window and FILL (R424). -/
def State.canFifoShow (s : State) (c : Nat) : State :=
  let f := (s.can_ c).fifo
  (s.setWords .CAN_FIFO c 0 (f.headD (List.replicate 24 0))).put F.CAN_FIFOCTL_FILL f.length c

/-- A frame enters the receive FIFO, or is dropped when 64 entries stand. -/
def State.canFifo (s : State) (c : Nat) (ws : List Word) : State :=
  let ch := s.can_ c
  if 64 ≤ ch.fifo.length then s.bump F.CAN_FIFOCTL_FIFOOVR c
  else
    let e := ws.take 23 ++ [BitVec.ofNat 32 (2 ^ 31 + (ch.fseq + 1) % 2 ^ 16)]
    let s1 := (s.setCan c { ch with fifo := ch.fifo ++ [e], fseq := ch.fseq + 1 }).canFifoShow c
    if ch.fifo.length + 1 = clampNat 1 64 (s.get F.CAN_FIFOCTL_WM c) ∧ s.on F.CAN_FIFOCTL_NOTIFY c then s1.canEvent c 3 else s1

/-- Removes the oldest FIFO entry: what the owner's read of word 23 does (R424). -/
def State.canFifoRemove (s : State) (c : Nat) : State :=
  (s.setCan c { s.can_ c with fifo := (s.can_ c).fifo.drop 1 }).canFifoShow c

/-- The priority buffer that takes a frame first (R419). -/
def State.canPrio (s : State) (c : Nat) (ws : List Word) : Option Nat :=
  (List.range 4).find? (fun p => bitsOf (s.word .CAN_PBID c p 0) 31 31 == 1 &&
    frMatches ws (s.on F.CAN_PBID_IDE c p) (s.get F.CAN_PBID_ID c p) (s.get F.CAN_PBMSK_MASK c p))

/-- The message buffer that takes a frame first (R419). -/
def State.canBuf (s : State) (c : Nat) (ws : List Word) : Option Nat :=
  (List.range 128).find? (fun k => s.get F.CAN_MBID_DIR c k == 1 &&
    frMatches ws (s.on F.CAN_MBID_IDE c k) (s.get F.CAN_MBID_ID c k) (s.get F.CAN_MBMSK_MASK c k))

/-- Offers a frame for acceptance: it enters the first place that takes it (R419). -/
def State.canAccept (s : State) (c : Nat) (ws : List Word) : State :=
  match s.canPrio c ws, s.canBuf c ws with
  | some p, _ =>
    let s1 := { s with sch := { s.sch with moments := Sparse.set s.sch.moments (4 * 65536 + 4 * c + p) s.now } }
    (s1.canDeliver .CAN_PB c p ws).canEvent c 2 p
  | none, some k => s.canDeliver .CAN_MB c k ws
  | none, none =>
    if s.on F.CAN_FIFOCTL_EN c ∧ (s.on F.CAN_FIFOCTL_ALL c ∨
        frMatches ws (s.on F.CAN_FIFOID_IDE c) (s.get F.CAN_FIFOID_ID c) (s.get F.CAN_FIFOMSK_MASK c) = true) then s.canFifo c ws
    else s.bump F.CAN_ECNT1_RXDROP c

/-- A frame is accepted into a receive buffer that reads as uncorrectable: it is dropped and counted (R630); a place that is no buffer takes it. -/
def State.canUntaken (s : State) (c : Nat) (ws : List Word) : State :=
  let lost (r : Reg) (k : Nat) : State := (s.ramLost 7 12 (r.addr c k 0)).bump F.CAN_ECNT1_RXDROP c
  match s.canPrio c ws, s.canBuf c ws with
  | some p, _ => lost .CAN_PB p
  | none, some k => lost .CAN_MB k
  | none, none => s.canAccept c ws

/-! ### Error confinement (R429, R430) -/

/-- Whether TEC and REC stand: in restricted operation and in Listen-only (R431, R447). -/
def State.canFrozen (s : State) (c : Nat) : Bool := s.on F.CAN_STAT_ROMACT c || s.trc c == 1

/-- The channel's error state after a change of its counters: error passive while TEC or REC is 128 or more, with an event at each
entry, and error active below. -/
def State.canConfine (s : State) (c : Nat) : State :=
  let passive := decide (128 ≤ s.get F.CAN_ERRC_TEC c) || s.on F.CAN_ERRC_RP c
  if s.get F.CAN_STAT_ESTATE c = 0 ∧ passive = true then (s.put F.CAN_STAT_ESTATE 1 c).canEvent c 5
  else if s.get F.CAN_STAT_ESTATE c = 1 ∧ passive = false then s.put F.CAN_STAT_ESTATE 0 c
  else s

/-- A frame received without error: REC falls by one, or from 128 and above to a value of 119 to 127 (ISO 11898-1), which is
free. -/
def State.recGood (s : State) (c : Nat) : State :=
  if s.canFrozen c then s
  else if s.on F.CAN_ERRC_RP c then
    (((s.put F.CAN_ERRC_RP 0 c).put F.CAN_ERRC_REC (119 + s.fresh % 9) c).tookFresh).canConfine c
  else (s.put F.CAN_ERRC_REC (s.get F.CAN_ERRC_REC c - 1) c).canConfine c

/-- REC rises. -/
def State.recBad (s : State) (c n : Nat) : State :=
  let v := s.get F.CAN_ERRC_REC c + n
  if 128 ≤ v then ((s.put F.CAN_ERRC_REC 127 c).put F.CAN_ERRC_RP 1 c).canConfine c else (s.put F.CAN_ERRC_REC v c).canConfine c

/-- TXPEND counts the pending requests. -/
def State.canPend (s : State) (c : Nat) : State :=
  s.put F.CAN_STAT_TXPEND ((List.range 128).filter (fun k => s.get F.CAN_MBID_DIR c k == 2 && s.on F.CAN_MB_TXREQ c k)).length c

/-- A request ends with a result. -/
def State.canEnd (s : State) (c k res : Nat) : State :=
  (((s.put F.CAN_MB_TXREQ 0 c k).put F.CAN_MB_DONE 1 c k).put F.CAN_MB_RES res c k).canPend c

/-- Bus-off (R430). -/
def State.busOff (s : State) (c : Nat) : State :=
  ((((s.bump F.CAN_ECNT1_BUSOFF c).cum 28).put F.CAN_STAT_BUSY 0 c).put F.CAN_STAT_ESTATE (if s.on F.CAN_CTL_BOAUTO c then 3 else 2) c).canEvent c 6

/-! ### Transmission (R425 to R427) -/

/-- The content of a transmit buffer takes written words: words 2 to 5 and 22 are ignored, bytes beyond the length read zero. -/
def State.canContent (s : State) (c k : Nat) (ws : List Word) : State :=
  let w1 := Reg.written .CAN_MB c 1 (s.word .CAN_MB c k 1) (ws.getD 1 0)
  let n := dlcLen (bitsOf w1 31 31 == 1) (bitsOf w1 3 0)
  let data := dataWords ((((ws.drop 6).take 16).flatMap bytesOf).take n)
  ((s.setWord .CAN_MB c k 0 (Reg.written .CAN_MB c 0 (s.word .CAN_MB c k 0) (ws.getD 0 0))).setWord .CAN_MB c k 1 w1).setWordsFrom
    .CAN_MB c k 6 data

/-- Applies a written value of 24 words to a transmit buffer that is not on the bus. -/
def State.canApply (s : State) (c k : Nat) (ws : List Word) : State :=
  let w := ws.getD 23 0
  let pending := s.on F.CAN_MB_TXREQ c k
  let s1 := s.canContent c k ws
  if bitsOf w 30 30 = 1 then (if pending then s1.canEnd c k 1 else s1)
  else if bitsOf w 31 31 = 0 then (s1.put F.CAN_MB_TXREQ 0 c k).canPend c
  else if (s1.on F.CAN_MB_FDF c k ∧ s1.on F.CAN_MB_RTR c k) ∨
      ((s1.on F.CAN_MB_FDF c k ∨ s1.on F.CAN_MB_BRS c k) ∧ !s1.on F.CAN_CTL_FDEN c) then (s1.canEnd c k 1).accErr 7
  else ((s1.put F.CAN_MB_TXREQ 1 c k).put F.CAN_MB_DONE 0 c k).canPend c

/-- A write of word 23 of message buffer k, with the whole value: dropped and counted unless the buffer transmits; while its frame is on
the bus an abort allows no further attempt and any other value is held (R425 to R427). -/
def State.canMbWrite (s : State) (c k : Nat) (ws : List Word) : State :=
  if s.get F.CAN_MBID_DIR c k ≠ 2 then s.accErr 7
  else match (s.can_ c).tx with
    | some t =>
      if t.buf = some k then
        s.setCan c { s.can_ c with tx := some (if bitsOf (ws.getD 23 0) 30 30 = 1 then { t with abort := true } else { t with held := some ws }) }
      else s.canApply c k ws
    | none => s.canApply c k ws

/-- The order of arbitration (R426): the bits of the arbitration field as a number, lower wins. -/
def arbKey (ws : List Word) : Nat :=
  let id := frId ws
  let rtr := if frRtr ws then 1 else 0
  if frIde ws then id / 2 ^ 18 * 2 ^ 21 + 2 ^ 20 + 2 ^ 19 + id % 2 ^ 18 * 2 + rtr else id / 2 ^ 18 * 2 ^ 21 + rtr * 2 ^ 20

/-- The pending buffer that stands first, with its key. -/
def State.firstBuf (s : State) (c : Nat) : Option (Nat × Nat) :=
  (List.range 128).foldl (fun best k =>
    if s.get F.CAN_MBID_DIR c k == 2 && s.on F.CAN_MB_TXREQ c k then
      let key := arbKey (s.words .CAN_MB c k)
      match best with
      | some (b, _) => if key < b then some (key, k) else best
      | none => some (key, k)
    else best) none

/-- The gateway entry that stands first, with its key. -/
def firstEnt (q : List CanEnt) : Option (Nat × CanEnt) :=
  q.foldl (fun best e =>
    let key := arbKey e.words
    match best with
    | some (b, _) => if key < b then some (key, e) else best
    | none => some (key, e)) none

/-- Side-band frames whose earlier entries have left enter the gateway queue (R496). -/
def State.canHeld (s : State) (c : Nat) : State :=
  let ch := s.can_ c
  let left (ns : List Nat) : Bool := ns.all (fun n => !(ch.gq.any (fun e => e.num == n) || ch.held.any (fun h => h.1.num == n)))
  match ch.held with
  | (e, ns) :: rest =>
    if left ns then
      (if 32 ≤ ch.gq.length then (s.setCan c { ch with held := rest }).bump F.GWY_CCNT_DROPPED e.cpl
      else s.setCan c { ch with gq := ch.gq ++ [{ e with at_ := s.now }], held := rest })
    else s
  | [] => s

/-- Takes an entry off the gateway queue. -/
def State.canUnqueue (s : State) (c : Nat) (e : CanEnt) : State :=
  (s.setCan c { s.can_ c with gq := (s.can_ c).gq.filter (fun x => x.num != e.num) }).canHeld c

/-- Starts the first frame in arbitration order. -/
def State.canStart (s : State) (c : Nat) : State :=
  let tx : Option CanTx :=
    match s.firstBuf c, firstEnt (s.can_ c).gq with
    | some (a, k), some (b, e) => if a ≤ b then some ⟨some k, none, s.now, false, none⟩ else some ⟨none, some e, s.now, false, none⟩
    | some (_, k), none => some ⟨some k, none, s.now, false, none⟩
    | none, some (_, e) => some ⟨none, some e, s.now, false, none⟩
    | none, none => none
  match tx with
  | some t => (s.put F.CAN_STAT_BUSY 1 c).setCan c { s.can_ c with tx := some t }
  | none => s

/-- Applies the write that was held to the end of the buffer's attempt (R427). -/
def State.canRelease (s : State) (c : Nat) (t : CanTx) : State :=
  match t.buf, t.held with
  | some k, some ws => if s.get F.CAN_MBID_DIR c k = 2 then s.canApply c k ws else s
  | _, _ => s

/-- An attempt that failed: the request ends with `res` under DAR or after an abort, else it stays pending. A gateway entry stays
in its queue. -/
def State.canFailed (s : State) (c res : Nat) (t : CanTx) : State :=
  let s1 := s.setCan c { s.can_ c with tx := none }
  (match t.buf with
  | some k => if s1.on F.CAN_MB_TXREQ c k ∧ (t.abort ∨ s1.on F.CAN_CTL_DAR c) then s1.canEnd c k res else s1
  | none => s1).canRelease c t

/-! ### Commands -/

/-- A write of CAN_CTL (R417, R430). An EN that falls takes the channel's frame off the bus. -/
def State.canCtlWrite (s : State) (c : Nat) (v : Word) : State :=
  let was := s.on F.CAN_CTL_EN c
  let s1 := s.plainWrite .CAN_CTL c 0 0 v
  let s2 := if s1.on F.CAN_CTL_EN c ∧ was = false ∧ s1.canTimingOk c = false then (s1.put F.CAN_CTL_EN 0 c).raise F.CAN_STAT_BADTIM c
    else s1
  let s3 := if was ∧ !s2.on F.CAN_CTL_EN c then
      (match (s2.can_ c).tx with
      | some t => ((s2.setCan c { s2.can_ c with tx := none }).canRelease c t)
      | none => s2).put F.CAN_STAT_BUSY 0 c
    else s2
  if bitsOf v 25 25 = 1 ∧ s3.get F.CAN_STAT_ESTATE c = 2 then s3.put F.CAN_STAT_ESTATE 3 c else s3

/-- R417. -/
def execCanEnable (init : Init) (c : Nat) (s : State) : Host.Outcome State Fault Refusal :=
  s.ends (if c < 10 then s.owned init .CAN_CTL c 0 0 (fun t => t.canCtlWrite c (setBits (t.word .CAN_CTL c 0 0) 31 31 1)) else s)

/-- R419: a frame of another node becomes valid: identifier with a standard one in bits 28:18, kind, DLC, data, and the instant of its
start of frame; `unc`: the buffer that accepts it reads as uncorrectable (R630). -/
def execFrameAcceptance (c id dlc : Nat) (ide fdf brs esi rtr : Bool) (sof : Nat) (data : List Byte) (unc : Bool) (s : State) :
    Host.Outcome State Fault Refusal :=
  s.ends (if s.canOn c ∧ (fdf = false ∨ s.on F.CAN_CTL_FDEN c) then
    let at_ := ((s.can_ c).edge.getD sof) / 200 * 200
    let ws := frameWords id ide fdf brs esi rtr dlc data (t0Words at_)
    let s1 := (s.setCan c { s.can_ c with edge := none, wait := none }).put F.CAN_STAT_BUSY 0 c
    let s2 := ((if unc then s1.canUntaken c ws else s1.canAccept c ws).recGood c).validComm c
    s2.toGateway ⟨c, (if ide then 2 ^ 29 else 0) + id % 2 ^ 29, fdf, brs, rtr, frData ws, some at_, 0, 0, 0⟩
  else s)

/-- R425: word 23 of a transmit buffer is written with the whole value ws. -/
def execTransmitRequest (init : Init) (c k : Nat) (ws : List Word) (s : State) : Host.Outcome State Fault Refusal :=
  s.ends (if c < 10 ∧ k < 128 then s.owned init .CAN_MB c k 23 (fun t => t.canMbWrite c k (ws.take 23 ++ [setBits (ws.getD 23 0) 31 31 1])) else s)

/-- R426: TXABT is written with the buffer's content unchanged. -/
def execTransmitAbort (init : Init) (c k : Nat) (s : State) : Host.Outcome State Fault Refusal :=
  s.ends (if c < 10 ∧ k < 128 then
    s.owned init .CAN_MB c k 23 (fun t => t.canMbWrite c k ((t.words .CAN_MB c k).take 23 ++ [0x40000000#32]))
  else s)

/-- The transmit buffer that would be started reads as uncorrectable: its request ends with RES 1 (R630). -/
def State.canUnread (s : State) (c : Nat) : State :=
  let t := s.canStart c
  match (t.can_ c).tx with
  | some ⟨some k, _, _, _, _⟩ => (s.ramLost 7 13 (Reg.CAN_MB.addr c k 0)).canEnd c k 1
  | _ => t

/-- R426: an intermission on channel c. -/
def execArbitration (c : Nat) (unc : Bool) (s : State) : Host.Outcome State Fault Refusal :=
  s.ends (if s.canOn c ∧ s.trc c = 0 ∧ !s.on F.CAN_STAT_ROMACT c ∧ !s.on F.CAN_STAT_BUSY c ∧ !(s.can_ c).wait.any (fun t => decide (s.now < t)) then
    if unc then s.canUnread c else s.canStart c else s)

/-- R426: the frame on the bus succeeds; `delay` is its measured transmitter loop delay in data quanta (R418). -/
def execTransmitSuccess (c delay : Nat) (s : State) : Host.Outcome State Fault Refusal :=
  s.ends (match (s.can_ c).tx with
    | none => s
    | some t =>
      let at_ := t.sof / 200 * 200
      let ws := match t.buf, t.ent with
        | some k, _ => s.words .CAN_MB c k
        | none, some e => e.words
        | none, none => []
      let esi := frFdf ws && s.get F.CAN_STAT_ESTATE c == 1
      let s1 := (s.setCan c { s.can_ c with tx := none }).put F.CAN_STAT_BUSY 0 c
      let s2 := if s1.on F.CAN_TDC_EN c ∧ frBrs ws = true then s1.put F.CAN_TDC_TDCV delay c else s1
      let s3 := match t.buf, t.ent with
        | some k, _ =>
          let u := ((s2.setWordsFrom .CAN_MB c k 2 (t0Words at_)).put F.CAN_MB_ESI (if esi then 1 else 0) c k).wrap F.CAN_MB_SEQ c k
          let u1 := if u.on F.CAN_MB_TXREQ c k then u.canEnd c k 0 else u
          if u1.on F.CAN_MBMSK_NOTIFY c k then u1.canEvent c 4 else u1
        | none, some e =>
          let u := s2.canUnqueue c e
          (match e.att with
          | some a => u.attStart [a] at_
          | none => u)
        | none, none => s2
      let s4 := if s3.canFrozen c then s3 else (s3.put F.CAN_ERRC_TEC (s3.get F.CAN_ERRC_TEC c - 1) c).canConfine c
      let s5 := if s4.on F.CAN_CTL_LOOP c then
          s4.canAccept c (frameWords (frId ws) (frIde ws) (frFdf ws) (frBrs ws) esi (frRtr ws) (frDlc ws) (frData ws) (t0Words at_))
        else s4
      s5.canRelease c t)

/-- R426, R428: the frame on the bus loses arbitration to a frame of another node. -/
def execArbitrationLost (c : Nat) (s : State) : Host.Outcome State Fault Refusal :=
  s.ends (match (s.can_ c).tx with
    | some t =>
      let s1 := s.canFailed c 2 t
      s1.setCan c { s1.can_ c with edge := some t.sof }
    | none => s)

/-- The counter of an error class of LEC. -/
def errFld (cls : Nat) : Option Fld :=
  match cls with
  | 1 => some F.CAN_ECNT0_STUFF
  | 2 => some F.CAN_ECNT0_FORM
  | 3 => some F.CAN_ECNT1_ACK
  | 4 | 5 => some F.CAN_ECNT0_BIT
  | 6 => some F.CAN_ECNT0_CRC
  | _ => none

/-- The error confinement rules of ISO 11898-1 for one error: a transmitter adds 8 to TEC, a receiver 1 to REC and 8 where the rules give
it (kind 1); kind 2 is an error that they leave uncounted. -/
def State.canConfineError (s : State) (c kind : Nat) (tx : Bool) : State :=
  if s.canFrozen c ∨ kind = 2 then s
  else if tx then (s.put F.CAN_ERRC_TEC (min 511 (s.get F.CAN_ERRC_TEC c + 8)) c).canConfine c
  else s.recBad c (if kind = 1 then 8 else 1)

/-- R429: an error of class `cls`, coded as LEC, is detected in the nominal or the data phase. -/
def execBusError (c cls kind : Nat) (dataPhase : Bool) (s : State) : Host.Outcome State Fault Refusal :=
  s.ends (match errFld cls with
    | some f =>
      if s.canOn c then
        let tx := (s.can_ c).tx
        let s1 := (s.bump f c).put (if dataPhase then F.CAN_STAT_DLEC else F.CAN_STAT_LEC) cls c
        let s2 := (s1.setCan c { s1.can_ c with edge := none }).put F.CAN_STAT_BUSY 0 c
        let s3 := match tx with
          | some t => s2.canFailed c 3 t
          | none => s2
        let s4 := s3.canConfineError c kind tx.isSome
        if 255 < s4.get F.CAN_ERRC_TEC c then s4.busOff c else s4
      else s
    | none => s)

/-- R430. -/
def execBusOffRecoveryRequest (init : Init) (c : Nat) (s : State) : Host.Outcome State Fault Refusal :=
  s.ends (if c < 10 then s.owned init .CAN_CTL c 0 0 (fun t => t.canCtlWrite c (setBits (t.word .CAN_CTL c 0 0) 25 25 1)) else s)

/-- R430: 128 occurrences of 11 consecutive recessive bits have passed. -/
def execBusOffRecoveryEnd (c : Nat) (s : State) : Host.Outcome State Fault Refusal :=
  s.ends (if c < 10 ∧ s.on F.CAN_CTL_EN c ∧ s.get F.CAN_STAT_ESTATE c = 3 then
    (((((s.put F.CAN_STAT_ESTATE 0 c).put F.CAN_ERRC_TEC 0 c).put F.CAN_ERRC_REC 0 c).put F.CAN_ERRC_RP 0 c).put F.CAN_STAT_ROMACT
      (s.get F.CAN_CTL_ROM c) c).canEvent c 7
  else s)

/-- R431: the bus of channel c is idle, and a change of ROM takes effect. -/
def execRomChange (c : Nat) (s : State) : Host.Outcome State Fault Refusal :=
  s.ends (if s.canOn c ∧ !s.on F.CAN_STAT_BUSY c then s.put F.CAN_STAT_ROMACT (s.get F.CAN_CTL_ROM c) c else s)

/-- The length of a nominal bit in T0 units (R416). -/
def State.canBit (s : State) (c : Nat) : Nat :=
  bitLen (s.get F.CAN_NBT_BRP c) (s.get F.CAN_NBT_TSEG1 c) (s.get F.CAN_NBT_TSEG2 c) * 200

/-- R432: a frame with FDF recessive meets FDEN 0; the channel starts nothing before 11 bits have passed. That they were recessive comes with
the intermission that follows (DESIGN CHOICE, log entry 75). -/
def execProtocolException (c : Nat) (s : State) : Host.Outcome State Fault Refusal :=
  s.ends (if s.canOn c ∧ !s.on F.CAN_CTL_FDEN c then
    ((s.bump F.CAN_ECNT1_PXE c).setCan c { s.can_ c with wait := some (s.now + 11 * s.canBit c), edge := none }).put F.CAN_STAT_BUSY 0 c
  else s)

/-- A write of CAN_MBIDk: a change of DIR removes a pending request with RES 1; a frame on the bus is let finish (R427). -/
def State.canMbidWrite (s : State) (c k : Nat) (v : Word) : State :=
  let s1 := s.plainWrite .CAN_MBID c k 0 v
  if s1.get F.CAN_MBID_DIR c k ≠ s.get F.CAN_MBID_DIR c k ∧ s.get F.CAN_MBID_DIR c k = 2 then
    (if s.on F.CAN_MB_TXREQ c k then s1.canEnd c k 1 else s1)
  else s1

/-- R427. -/
def execDirChange (init : Init) (c k dir : Nat) (s : State) : Host.Outcome State Fault Refusal :=
  s.ends (if c < 10 ∧ k < 128 then
    s.owned init .CAN_MBID c k 0 (fun t => t.canMbidWrite c k (setBits (t.word .CAN_MBID c k 0) 31 30 dir))
  else s)

/-! ### Writes of the block's registers, and its resets -/

/-- The effect of a write of a register of a CAN channel; buffers are written whole (`canMbWrite`), and a write of a word of a receive-only
buffer is dropped and counted (R422). -/
def State.canWrite (s : State) (r : Reg) (c j w : Nat) (v : Word) : State :=
  match r with
  | .CAN_CTL => s.canCtlWrite c v
  | .CAN_NBT | .CAN_DBT | .CAN_TDC => if s.on F.CAN_CTL_EN c then s.accErr 7 else s.plainWrite r c j w v
  | .CAN_MBID => s.canMbidWrite c j v
  | .CAN_PB | .CAN_FIFO | .CAN_MB => s.accErr 7
  | r => s.plainWrite r c j w v

/-- Removes the pending requests that are not on the bus with RES 1: at a restart of the owner and at the start of a change to
Standby or Sleep (R433, R448). -/
def State.canRemove (s : State) (c : Nat) : State :=
  let on : Option Nat := match (s.can_ c).tx with
    | some t => t.buf
    | none => none
  ((List.range 128).filter (fun k => s.get F.CAN_MBID_DIR c k == 2 && s.on F.CAN_MB_TXREQ c k && on != some k)).foldl
    (fun t k => t.canEnd c k 1) s

end Sys2Proof.Machine
end

