-- ==== Sys2Proof/Machine/Lin.lean ====
section
/-! DEFINITION. The LIN masters (R435 to R441): schedule tables, slots, frames and their results, and the meanings of their commands. -/

set_option Elab.async false

namespace Sys2Proof.Machine

def State.lin_ (s : State) (l : Nat) : LinCh := Sparse.at s.lin.chans l LinCh.idle
def State.setLin (s : State) (l : Nat) (v : LinCh) : State :=
  { s with lin := { s.lin with chans := Sparse.set s.lin.chans l v } }

/-- Places an event in the queue of the owner of channel l; the channel is the item it names (DEDUCED, log entry 13). -/
def State.linEvent (s : State) (l code : Nat) : State := s.eventTo (.item 0x0F l) 8 code l

/-- Whether identifier i is publish; 60 is always, 61 never (R436). -/
def State.linPublish (s : State) (l i : Nat) : Bool := i == 60 || (i != 61 && s.on F.LIN_FCFG_DIR l i)

/-- Bytes of identifier i: 8 for 60 and 61, and for values of LEN outside 1 to 8. -/
def State.linLen (s : State) (l i : Nat) : Nat :=
  let n := s.get F.LIN_FCFG_LEN l i
  if i = 60 ∨ i = 61 ∨ n < 1 ∨ 8 < n then 8 else n

/-- Whether the channel may send: on, powered, its transceiver in Normal (R447). -/
def State.linSends (s : State) (l : Nat) : Bool := s.domOn domBUS && s.on F.LIN_CTL_EN l && s.trc (10 + l) == 0

/-- Index of entry e of table t. -/
def linEnt (p : Nat × Nat) : Nat := 64 * p.1 + p.2

/-- The end of table t at entry e: an END entry or the end of entry 63. -/
def State.linEnds (s : State) (l : Nat) (p : Nat × Nat) : Bool := decide (64 ≤ p.2) || s.get F.LIN_ENT_TYPE l (linEnt p) == 0

/-! ### Headers (R438) -/

/-- Puts the header of an entry on the bus at an instant; a silent slot changes nothing. -/
def State.linHeader (s : State) (l : Nat) (p : Nat × Nat) (at_ : Nat) : State :=
  let e := linEnt p
  let fid := s.get F.LIN_ENT_FID l e
  let typ := s.get F.LIN_ENT_TYPE l e
  let start (t : State) (i : Nat) : State :=
    (t.setLin l { t.lin_ l with frame := some ⟨i, typ, t.get F.LIN_ENT_COLL l e, at_⟩, waiting := none }).put F.LIN_STAT_BUSY 1 l
  if typ = 3 then
    match ((List.range (s.get F.LIN_ENT_SPN l e + 1)).map (fun k => fid + k)).find? (fun i =>
        decide (i < 64) && s.on F.LIN_FCFG_EN l i && s.linPublish l i && s.on F.LIN_FR_UPD l i) with
    | some i => start (s.put F.LIN_FR_UPD 0 l i) i
    | none => s
  else if (typ = 1 ∨ typ = 2) ∧ s.on F.LIN_FCFG_EN l fid then start s fid
  else s

/-! ### Slots (R437, R439) -/

/-- The place the next slot takes: after a switch request entry 0 of SEL, after a collision entry 0 of its table; an END entry takes a
table to its entry 0 and a collision table back to the interrupted one. -/
def State.linPlace (s : State) (l : Nat) : State × (Nat × Nat) :=
  let c := s.lin_ l
  if s.on F.LIN_SCHCTL_SWREQ l then
    (((s.put F.LIN_SCHCTL_SWREQ 0 l).put F.LIN_SCHCTL_COLLRUN 0 l).setLin l { c with back := none, collTo := none },
      (s.get F.LIN_SCHCTL_SEL l, 0))
  else
    let (s1, p) := match c.collTo with
      | some t => ((s.put F.LIN_SCHCTL_COLLRUN 1 l).setLin l { c with back := some c.pos, collTo := none }, (t, 0))
      | none => (s, c.pos)
    if s1.linEnds l p then
      (match (s1.lin_ l).back with
      | some b =>
        ((s1.put F.LIN_SCHCTL_COLLRUN 0 l).setLin l { s1.lin_ l with back := none }, if s1.linEnds l b then (b.1, 0) else b)
      | none => (s1, (p.1, 0)))
    else (s1, p)

/-- A slot starts. -/
def State.linSlot (s : State) (l : Nat) : State :=
  let (s1, p) := s.linPlace l
  let slot := max 1 (s1.get F.LIN_ENT_SLOT l (linEnt p)) * 100 * usUnits
  let s2 := ((s1.put F.LIN_SCHCTL_ACT p.1 l).put F.LIN_SCHCTL_ENTRY p.2 l).setLin l { s1.lin_ l with
    next := (s1.lin_ l).next + slot, pos := (p.1, p.2 + 1) }
  if !s2.linSends l then s2
  else if s2.on F.LIN_STAT_BUSY l then (s2.bump F.LIN_STAT_SLOTOVR l).setLin l { s2.lin_ l with waiting := some p }
  else s2.linHeader l p s2.now

/-! ### Results (R440) -/

/-- A response enters the buffer of a subscribe identifier (R26). -/
def State.linEnter (s : State) (l i : Nat) (ws : List Word) : State :=
  let w := s.word .LIN_FR l i 2
  ((s.setWord .LIN_FR l i 0 (ws.getD 0 0)).setWord .LIN_FR l i 1 (ws.getD 1 0)).setWord .LIN_FR l i 2
    (setBits (setBits (setBits w 31 31 1) 27 24 0) 15 0 (bitsOf w 15 0 + 1))

/-- Stores a response, or holds it in the pending slot while a lock is held; no register counts an overwrite of that slot (DESIGN CHOICE, log
entry 149). -/
def State.linStore (s : State) (l i : Nat) (data : List Byte) : State :=
  let bs := data.take (s.linLen l i)
  let ws := (dataWords bs).take 2
  if s.locked .LIN_FR l i then s.deliver .LIN_FR l i (ws ++ [0]) else s.linEnter l i ws

/-- The event of a result. -/
def State.linNotify (s : State) (l i : Nat) (good : Bool) : State :=
  if s.on F.LIN_FCFG_NOTIFY l i then s.linEvent l (if good then 1 else 2) else s

/-- Counts an error of R440. -/
def State.linCount (s : State) (l err : Nat) : State :=
  match err with
  | 1 => s.bump F.LIN_ECNT_NORESP l
  | 2 => s.bump F.LIN_STAT_INCOMP l
  | 3 => s.bump F.LIN_ECNT_CHKSUM l
  | 4 => s.bump F.LIN_ECNT_BITERR l
  | _ => s.bump F.LIN_ECNT_FRAMING l

/-- A frame with an error: DATA and NEW are unchanged. -/
def State.linBad (s : State) (l i err : Nat) : State :=
  ((s.linCount l err).put F.LIN_FR_ERR err l i).linNotify l i false

/-- A frame without error: a publish frame counts as completed; a response is stored, ends the false-wake window and is delivered to the
gateway. -/
def State.linGood (s : State) (l i : Nat) (data : List Byte) : State :=
  if s.linPublish l i then (((s.put F.LIN_FR_ERR 0 l i).wrap F.LIN_FR_SEQ l i).linNotify l i true).validComm (10 + l)
  else
    let s1 := ((s.linStore l i data).linNotify l i true).validComm (10 + l)
    s1.toGateway ⟨16 + l, i, false, false, false, data.take (s1.linLen l i), none, 0, 0, 0⟩

/-- A collision of an event-triggered frame (R438): outside a collision table its table runs from the next slot. -/
def State.linCollide (s : State) (l : Nat) (f : LinTx) : State :=
  let s1 := ((s.bump F.LIN_STAT_COLL l).put F.LIN_FR_ERR 6 l f.fid).linNotify l f.fid false
  if s1.on F.LIN_SCHCTL_COLLRUN l ∨ !s1.on F.LIN_SCHCTL_RUN l then s1 else s1.setLin l { s1.lin_ l with collTo := some f.coll }

/-- The identifier whose buffer takes the response to an event-triggered header. -/
def State.linEventId (s : State) (l fid : Nat) (data : List Byte) : Nat :=
  let i := ((data.headD 0).toNat) % 64
  if s.on F.LIN_FCFG_EN l i ∧ !s.linPublish l i ∧ s.linLen l i = s.linLen l fid then i else fid

/-- A bit time of channel l in T0 units (R435). -/
def State.linBit (s : State) (l : Nat) : Nat := secUnits / max 1 (s.get F.LIN_CTL_BAUD l)

/-- The bus is free: a header that waits is sent one bit time later (R439). -/
def State.linFree (s : State) (l : Nat) : State :=
  let s1 := (s.setLin l { s.lin_ l with frame := none }).put F.LIN_STAT_BUSY 0 l
  match (s1.lin_ l).waiting with
  | some p =>
    let s2 := s1.setLin l { s1.lin_ l with waiting := none }
    if s2.linSends l then s2.linHeader l p (s2.now + s2.linBit l) else s2
  | none => s1

/-- Ends the frame on the bus with result `err` and the bytes received. -/
def State.linEnd (s : State) (l err : Nat) (data : List Byte) (f : LinTx) : State :=
  (if f.typ = 2 ∧ err = 0 then s.linGood l (s.linEventId l f.fid data) data
  else if f.typ = 2 ∧ (err = 3 ∨ err = 5) then s.linCollide l f
  else if f.typ = 2 ∧ err = 1 then s
  else if err = 0 then s.linGood l f.fid data
  else s.linBad l f.fid err).linFree l

/-! ### Commands -/

/-- Stops the schedule: the frame on the bus runs on. -/
def State.linStop (s : State) (l : Nat) : State :=
  (((s.put F.LIN_SCHCTL_RUN 0 l).put F.LIN_SCHCTL_COLLRUN 0 l).setLin l { s.lin_ l with back := none, collTo := none, waiting := none })

/-- A write of LIN_SCHCTL: RUN from 0 to 1 starts table SEL at entry 0, its slots counted from now, or from 100 ms after a wake signal
(R437, R466). -/
def State.linSchWrite (s : State) (l : Nat) (v : Word) : State :=
  let was := s.on F.LIN_SCHCTL_RUN l
  let s1 := s.plainWrite .LIN_SCHCTL l 0 0 v
  let at_ := match Sparse.get s.nwk.linWake l with
    | some t => if s.now < t + 100 * msUnits then t + 100 * msUnits else s.now
    | none => s.now
  if s1.on F.LIN_SCHCTL_RUN l ∧ was = false then
    (((s1.put F.LIN_SCHCTL_ACT (s1.get F.LIN_SCHCTL_SEL l) l).put F.LIN_SCHCTL_ENTRY 0 l).put F.LIN_SCHCTL_COLLRUN 0 l).setLin l
      { s1.lin_ l with next := at_, pos := (s1.get F.LIN_SCHCTL_SEL l, 0), back := none, collTo := none, waiting := none }
  else if was ∧ !s1.on F.LIN_SCHCTL_RUN l then s1.linStop l
  else s1

/-- R437. -/
def execLinScheduleRun (init : Init) (l : Nat) (s : State) : Host.Outcome State Fault Refusal :=
  s.ends (if l < 12 then s.owned init .LIN_SCHCTL l 0 0 (fun t => t.linSchWrite l (setBits (setBits (t.word .LIN_SCHCTL l 0 0) 31 31 1) 30 30 0))
    else s)

/-- R437, R438, R439. -/
def execLinSlotStart (l : Nat) (s : State) : Host.Outcome State Fault Refusal :=
  s.ends (if l < 12 ∧ s.domOn domBUS ∧ s.on F.LIN_SCHCTL_RUN l ∧ (s.lin_ l).next ≤ s.now then s.linSlot l else s)

/-- R440: the frame on the bus ends with result `err` (0 good, 2 incomplete, 3 checksum, 4 bit error, 5 framing) and the bytes
received. A response that reads as uncorrectable is dropped and counted in NORESP (R630). -/
def execLinFrameEnd (l err : Nat) (data : List Byte) (unc : Bool) (s : State) : Host.Outcome State Fault Refusal :=
  s.ends (match (s.lin_ l).frame with
    | some f =>
      let i := if f.typ = 2 then s.linEventId l f.fid data else f.fid
      if unc ∧ err = 0 ∧ (f.typ = 2 ∨ !s.linPublish l f.fid) then
        ((s.ramLost 8 12 (Reg.LIN_FR.addr l i 0)).linBad l i 1).linFree l
      else if err = 0 ∨ (2 ≤ err ∧ err ≤ 5) then s.linEnd l err data f else s
    | none => s)

/-- The end of the wait for a response: 1.4 × 10 × (LEN + 1) bit times after a header of 13 + BRK + 1 + 20 bits. -/
def State.linDeadline (s : State) (l : Nat) (f : LinTx) : Nat :=
  f.at_ + (34 + s.get F.LIN_CTL_BRK l + 14 * (s.linLen l f.fid + 1)) * secUnits / max 1 (s.get F.LIN_CTL_BAUD l)

/-- R440. -/
def execLinNoResponse (l : Nat) (s : State) : Host.Outcome State Fault Refusal :=
  s.ends (match (s.lin_ l).frame with
    | some f => if s.linDeadline l f ≤ s.now ∧ (f.typ = 2 ∨ !s.linPublish l f.fid) then s.linEnd l 1 [] f else s
    | none => s)

/-- R439. -/
def execLinTableSwitch (init : Init) (l : Nat) (s : State) : Host.Outcome State Fault Refusal :=
  s.ends (if l < 12 then s.owned init .LIN_SCHCTL l 0 0 (fun t => t.linSchWrite l (setBits (t.word .LIN_SCHCTL l 0 0) 30 30 1)) else s)

/-! ### Writes of the block's registers -/

/-- The whole value of LIN_FRi is written (R28): DATA of a publish identifier, and UPD. -/
def State.linFrWrite (s : State) (l i : Nat) (ws : List Word) : State :=
  let s1 := if s.linPublish l i then (s.setWord .LIN_FR l i 0 (ws.getD 0 0)).setWord .LIN_FR l i 1 (ws.getD 1 0) else s
  s1.put F.LIN_FR_UPD (bitsOf (ws.getD 2 0) 30 30) l i

/-- The whole value of an entry is written: dropped while RUN is 1 and its table runs (R437). -/
def State.linEntWrite (s : State) (l e : Nat) (ws : List Word) : State :=
  if s.on F.LIN_SCHCTL_RUN l ∧ s.get F.LIN_SCHCTL_ACT l = e / 64 then s.accErr 8
  else (s.plainWrite .LIN_ENT l e 0 (ws.getD 0 0)).plainWrite .LIN_ENT l e 1 (ws.getD 1 0)

/-- The effect of a write of a one-word register of a LIN channel (R435, R436, R441). -/
def State.linWrite (s : State) (r : Reg) (l i w : Nat) (v : Word) : State :=
  match r with
  | .LIN_CTL => if bitsOf v 14 0 < 1000 ∨ 20000 < bitsOf v 14 0 then s.accErr 8 else s.plainWrite r l i w v
  | .LIN_SCHCTL => s.linSchWrite l v
  | .LIN_FCFG => if (i = 62 ∨ i = 63) ∧ bitsOf v 31 31 = 1 then s.accErr 8 else s.plainWrite r l i w v
  | r => s.plainWrite r l i w v

end Sys2Proof.Machine
end

