-- ==== Sys2Proof/Machine/Nwk.lean ====
section
/-! DEFINITION. Network sleep and wake (R445 to R469): transceiver states, votes, bus wakes, the wake line, false wakes and the guarded
phases, and the meanings of their commands; and the start of PARK entry (R530), which the votes may ask for. -/

set_option Elab.async false

namespace Sys2Proof.Machine

/-- A field of the network block as CI-AON's copy holds it (R451). -/
def State.ncopy (s : State) (f : Fld) (i : Nat := 0) (j : Nat := 0) : Nat :=
  bitsOf ((Sparse.get s.nwk.copy (f.reg.addr i j f.word)).getD (f.reg.rst i j f.word)) f.hi f.lo

/-- Copies a word of the block into CI-AON. -/
def State.ncopyWord (s : State) (r : Reg) (i j w : Nat) : State :=
  { s with nwk := { s.nwk with copy := Sparse.set s.nwk.copy (r.addr i j w) (s.word r i j w) } }

/-- Places an event in the queue of the owner of channel j. -/
def State.nwkEvent (s : State) (j code : Nat) (arg : Nat := 0) : State := s.eventTo (netSpec j) 9 code j arg

/-! ### The wake line (R457 to R459) -/

/-- Whether LOOPIGN keeps WAKE_IN from raising a wake now. -/
def State.loopIgnored (s : State) : Bool :=
  s.ncopy F.NWK_WIO_LOOPIGN != 0 && (s.nwk.outHigh || (match s.nwk.ignoreTo with
    | some t => decide (s.now < t)
    | none => false))

/-- A wake on WAKE_IN. -/
def State.lineWake (s : State) : State :=
  ({ s.raise F.NWK_WIO_WILATCH with nwk := { s.nwk with raised := true } }).raiseWake ⟨0, s.blockOwner 9, 9, 3, 0xFFFF, 0, 0, false⟩

/-! ### PARK entry's start (R530, R450) -/

/-- Step 1 of R530: the entry is accepted, and WOLVL stops acting (R458); a high WAKE_IN meets it at once (R457). -/
def State.parkEntry (s : State) (deep : Bool) : State :=
  let s1 := ((s.setPwr 2).put F.PMU_STATE_PHASE 1)
  let s2 := { s1 with pmu := { s1.pmu with acks := [], deepReq := deep, entryAt := s.now, commitAt := none, wakes := [], seen := 0 } }
  let s3 := s2.eventAll s2.runningParts 13 1 0xFFFF
  let s4 := (if s3.runningParts.isEmpty then s3.put F.PMU_STATE_PHASE 2 else s3).wakeOut
  if s4.nwk.wakeIn && (s4.ncopy F.NWK_WIO_WIEN != 0) && !s4.loopIgnored then s4.lineWake else s4

/-- Whether channel j votes for rail release (R450). -/
def State.votes (s : State) (j : Nat) : Bool :=
  s.trc j == 3 && bit (s.get F.NWK_SLPSET_SET) j && !bit (s.get F.NWK_STAT_WOKE) j

/-- SLPALL as the votes give it; where it becomes 1 AUTOPARK asks for PARK (R450). -/
def State.slpUpdate (s : State) : State :=
  let all := !s.sleepSet.isEmpty && s.sleepSet.all (fun j => s.votes j)
  let was := s.on F.NWK_STAT_SLPALL
  let s1 := s.put F.NWK_STAT_SLPALL (if all then 1 else 0)
  if all && !was && s1.on F.NWK_CTL_AUTOPARK && s1.pwr == 0 then s1.parkEntry false else s1

/-! ### Transceiver states (R446 to R449) -/

/-- What MODE asks of channel j, in the state it is in (R448). -/
def State.modeSet (s : State) (j m : Nat) : State :=
  let st := s.trc j
  if 2 ≤ st then s.put F.NWK_TRC_STATE m j
  else if 2 ≤ m then
    let s1 := if j < 10 then s.canRemove j else s.linStop (j - 10)
    (s1.put F.NWK_TRC_GOING 1 j).setNchan j { s1.nchan j with want := some m }
  else if s.on F.NWK_TRC_GOING j then
    ((s.put F.NWK_TRC_GOING 0 j).put F.NWK_TRC_STATE m j).setNchan j { s.nchan j with want := none }
  else s.setNchan j { s.nchan j with want := if m = st then none else some m }

/-- A write of NWK_TRCj. One that meets a bus wake in the same cycle of CI-BUS is dropped and counted (R449). -/
def State.trcWrite (s : State) (j : Nat) (v : Word) : State :=
  let same := match (s.nchan j).wokeAt with
    | some t => t / 200 == s.now / 200
    | none => false
  if same then s.accErr 9
  else
    let s0 := s.setNchan j { s.nchan j with wrote := some (s.now, s.word .NWK_TRC j 0 0, (s.nchan j).want) }
    let s1 := s0.plainWrite .NWK_TRC j 0 0 v
    (((s1.modeSet j (bitsOf v 31 30))).ncopyWord .NWK_TRC j 0 0).slpUpdate

/-- A write of MODE with the rest of NWK_TRCj as it stands. -/
def State.modeWrite (s : State) (init : Init) (j m : Nat) : State :=
  if j < 22 then s.owned init .NWK_TRC j 0 0 (fun t => t.trcWrite j (setBits (t.word .NWK_TRC j 0 0) 31 30 m)) else s

/-- R448. -/
def execModeNormal (init : Init) (j : Nat) (s : State) : Host.Outcome State Fault Refusal := s.ends (s.modeWrite init j 0)
/-- R448. -/
def execModeListenOnly (init : Init) (j : Nat) (s : State) : Host.Outcome State Fault Refusal := s.ends (s.modeWrite init j 1)
/-- R448. -/
def execModeStandby (init : Init) (j : Nat) (s : State) : Host.Outcome State Fault Refusal := s.ends (s.modeWrite init j 2)
/-- R448. -/
def execModeSleep (init : Init) (j : Nat) (s : State) : Host.Outcome State Fault Refusal := s.ends (s.modeWrite init j 3)

/-- R448: the bus of channel j is idle. The wait after a protocol exception ends with it (R432). -/
def execBusIdle (j : Nat) (s : State) : Host.Outcome State Fault Refusal :=
  let busy := if j < 10 then s.on F.CAN_STAT_BUSY j else s.on F.LIN_STAT_BUSY (j - 10)
  s.ends (if 22 ≤ j ∨ busy then s
    else
      let s1 := if j < 10 then s.setCan j { s.can_ j with wait := none } else s
      match (s1.nchan j).want with
      | some m =>
        let s2 := ((s1.put F.NWK_TRC_STATE m j).put F.NWK_TRC_GOING 0 j).setNchan j { s1.nchan j with want := none }
        (if 2 ≤ m then s2.nwkEvent j 1 else s2).slpUpdate
      | none => s1)

/-! ### Bus wakes (R452 to R456, R463) -/

/-- Whether channel j is guarded (R462). -/
def State.guarded (s : State) (j : Nat) : Bool :=
  s.on F.NWK_STAT_STARTUP || s.ncopy F.NWK_CTL_TEST != 0 || s.on F.NWK_FW_RECACT j

/-- Whether the wake receiver of channel j watches: in Standby or Sleep with WKEN 1, and not backed off (R446, R461). -/
def State.watches (s : State) (j : Nat) : Bool :=
  decide (2 ≤ s.trc j) && s.ncopy F.NWK_TRC_WKEN j != 0 && !s.on F.NWK_FW_BOACT j

/-- The words of NWK_WKFRj for a wake: detection instant, SRC, and IDE, ID, DLC and data of a frame in `ws` (words 3 to 6). -/
def wkfrWords (src at_ : Nat) (coarse : Bool) (ws : List Word) : List Word :=
  t0Words at_ ++ [ws.getD 0 0, BitVec.ofNat 32 (2 ^ 31 + (if coarse then 2 ^ 30 else 0) + src * 2 ^ 27) ||| ws.getD 1 0, ws.getD 2 0, ws.getD 3 0]

/-- The T0 value that the AON coarse count gives, within ±30 µs of an unbroken T0: a free value (R146, DESIGN CHOICE, log entry 155). -/
def State.coarseAt (s : State) (t : Nat) : Nat := (Int.ofNat t + Int.ofNat (s.fresh % (60 * usUnits + 1)) - Int.ofNat (30 * usUnits)).toNat

/-- A bus wake of channel j (R456); a record that still waits to enter NWK_WKFRj is kept as one that stands there,
so that its slot is never overwritten (DESIGN CHOICE, log entry 149). The false-wake window of an unguarded channel starts at the detection instant, or at RUN where the
device is parked (R460). -/
def State.busWake (s : State) (j src at_ : Nat) (coarse : Bool) (ws : List Word) : State :=
  let s1 := (s.raiseBit F.NWK_STAT_WOKE j).bump F.NWK_CNT_WAKES j
  let s2 := if bitsOf ((s1.latest .NWK_WKFR j 0).getD 4 0) 31 31 = 1 then s1
    else if coarse then (s1.deliver .NWK_WKFR j 0 (wkfrWords src (s1.coarseAt at_) coarse ws)).tookFresh
    else s1.deliver .NWK_WKFR j 0 (wkfrWords src at_ coarse ws)
  let run := s2.pwr == 0 || s2.pwr == 1
  let s3 := if run ∧ s2.ncopy F.NWK_TRC_AUTONORM j ≠ 0 then s2.put F.NWK_TRC_STATE 0 j else s2
  let late := !run && !s3.inEntry
  let win := max 1 (s3.ncopy F.NWK_FW_FWWIN j) * 100 * msUnits
  let n := s3.nchan j
  let s4 := s3.setNchan j { n with
    cond := none, wokeAt := some s3.now
    window := if s3.guarded j then n.window else if late then none else some (at_ + win)
    atRun := if s3.guarded j then n.atRun else late }
  (s4.slpUpdate).raiseWake ⟨1, s4.ownerOf (netSpec j), 9, 2, j, src, 0, false⟩

/-- The first wake condition of channel j, where it still waits within its PFILT (R463). -/
def State.condWaits (s : State) (j : Nat) : Option (Nat × Nat × Bool × List Word) :=
  match (s.nchan j).cond with
  | some (t, first) => if s.now ≤ t then some first else none
  | none => none

/-- A wake condition of channel j (R463): one that waits within PFILT is confirmed by it, also where the channel is no longer guarded (DESIGN CHOICE,
log entry 80), and gives the bus wake its instant; else it waits itself on a guarded channel. One that waited in vain is counted. -/
def State.wakeCond (s : State) (j src : Nat) (ws : List Word) : State :=
  let coarse := !s.domOn domTIM
  match s.condWaits j with
  | some (src0, at0, co0, ws0) => s.busWake j src0 at0 co0 ws0
  | none =>
    let s1 := if (s.nchan j).cond.isSome then s.bump F.NWK_CNT_UNCONF j else s
    if s1.guarded j then
      s1.setNchan j { s1.nchan j with cond := some (s1.now + max 1 (s1.ncopy F.NWK_CTL_PFILT) * msUnits, src, s1.now, coarse, ws) }
    else s1.busWake j src s1.now coarse ws

/-- A wake at channel j by `act`. Where MODE was written earlier in the same cycle of CI-BUS to a channel in Standby or Sleep, and the wake is a
bus wake of the channel as that write found it, the write is dropped and counted (R449). -/
def State.meetsWrite (s : State) (j : Nat) (act : State → State) : State :=
  match (s.nchan j).wrote with
  | some (t, w, want) =>
    let old := ((s.setWord .NWK_TRC j 0 0 w).ncopyWord .NWK_TRC j 0 0).setNchan j { s.nchan j with want := want, wrote := none }
    let hit := act old
    if t / 200 = s.now / 200 ∧ 2 ≤ old.trc j ∧ (hit.nchan j).wokeAt = some s.now ∧ (s.nchan j).wokeAt ≠ some s.now then hit.accErr 9 else act s
  | none => act s

/-- R452. -/
def execWakeUpPattern (j : Nat) (s : State) : Host.Outcome State Fault Refusal :=
  s.ends (s.meetsWrite j (fun t => if j < 10 ∧ t.watches j ∧ t.ncopy F.NWK_TRC_SWEN j = 0 then t.wakeCond j 0 [] else t))

/-- R453; j is the channel number, 10 to 21. -/
def execLinDominantWake (j : Nat) (s : State) : Host.Outcome State Fault Refusal :=
  s.ends (s.meetsWrite j (fun t => if 10 ≤ j ∧ j < 22 ∧ t.watches j then t.wakeCond j 6 [] else t))

/-- Whether a data frame matches masking set k (R454). -/
def State.setMatches (s : State) (j k id dlc : Nat) (ide : Bool) (d0 d1 : Word) : Bool :=
  let m := s.ncopy F.NWK_SET_MASK j k
  let m' := if ide then m else m / 2 ^ 18 * 2 ^ 18
  let e0 := BitVec.ofNat 32 (s.ncopy F.NWK_SET_DMASK j k)
  let e1 := BitVec.ofNat 32 (s.ncopy F.NWK_SET_DMASK_1 j k)
  s.ncopy F.NWK_SET_EN j k != 0 && (s.ncopy F.NWK_SET_IDE j k != 0) == ide && decide ((id ^^^ s.ncopy F.NWK_SET_ID j k) &&& m' = 0) &&
    ((decide (e0 = 0) && decide (e1 = 0)) ||
      (s.ncopy F.NWK_SET_DLC j k == dlc && (decide (d0 &&& e0 ≠ 0) || decide (d1 &&& e1 ≠ 0))))

/-- A frame with an error at the selective-wake decoder (R455). -/
def State.wakeFrameError (s : State) (j : Nat) : State :=
  let n := s.get F.NWK_SWCFG_FEC j + 1
  if s.ncopy F.NWK_SWCFG_ERRLIM j < n then (s.put F.NWK_SWCFG_FEC 0 j).wakeCond j 5 [] else s.put F.NWK_SWCFG_FEC n j

/-- A frame without error at the selective-wake decoder: it lowers FEC, confirms a condition that waits, or wakes on the first masking set
it matches. -/
def State.wakeFrameGood (s : State) (j id dlc : Nat) (ide rtr : Bool) (data : List Byte) : State :=
  let ws := dataWords (if rtr then [] else data.take (dlcLen false dlc))
  let d0 := ws.getD 0 0
  let d1 := ws.getD 1 0
  let rec_ : List Word := [BitVec.ofNat 32 ((if ide then 2 ^ 31 else 0) + id % 2 ^ 29), BitVec.ofNat 32 (dlc % 16), d0, d1]
  let s1 := s.put F.NWK_SWCFG_FEC (s.get F.NWK_SWCFG_FEC j - 1) j
  match s1.condWaits j with
  | some (src0, at0, co0, ws0) => s1.busWake j src0 at0 co0 ws0
  | none =>
    match (if rtr then none else (List.range 4).find? (fun k => s1.setMatches j k id dlc ide d0 d1)) with
    | some k => s1.wakeCond j (k + 1) rec_
    | none => s1

/-- R454, R455: a frame at the selective-wake decoder of channel j, with its error. -/
def execSelectiveWakeFrame (j id dlc : Nat) (ide fdf rtr err : Bool) (data : List Byte) (s : State) :
    Host.Outcome State Fault Refusal :=
  s.ends (s.meetsWrite j (fun t => if j < 10 ∧ t.watches j ∧ t.ncopy F.NWK_TRC_SWEN j ≠ 0 then
    (if fdf then (if t.ncopy F.NWK_SWCFG_FDPASS j ≠ 0 then t else t.wakeFrameError j)
    else if err then t.wakeFrameError j
    else t.wakeFrameGood j (id % 2 ^ 29) (dlc % 16) ide rtr data)
  else t))

/-- R463. -/
def execConfirmationTimeout (j : Nat) (s : State) : Host.Outcome State Fault Refusal :=
  s.ends (match (s.nchan j).cond with
    | some (t, _) =>
      if t ≤ s.now then (s.bump F.NWK_CNT_UNCONF j).setNchan j { s.nchan j with cond := none } else s
    | none => s)

/-! ### Commands of the wake line -/

/-- R457: WAKE_IN stands at a level that has held through its filter. A high level wakes the device once. -/
def execLineWake (high : Bool) (s : State) : Host.Outcome State Fault Refusal :=
  let s1 := { s.put F.NWK_WIO_WILVL (if high then 1 else 0) with nwk := { s.nwk with wakeIn := high } }
  let through := match s1.nwk.highFrom with
    | some t => decide (t + max 1 (s.ncopy F.NWK_WIO_WIFILT) * 100 * usUnits ≤ s.now)
    | none => true
  s.ends (if high = false then { s1 with nwk := { s1.nwk with highFrom := none, raised := false } }
    else if s1.ncopy F.NWK_WIO_WIEN ≠ 0 ∧ s1.loopIgnored = false ∧ through = true ∧ s1.nwk.raised = false then s1.lineWake
    else s1)

/-- R458. -/
def execWakeOutPulseEnd (s : State) : Host.Outcome State Fault Refusal :=
  s.ends (match s.nwk.pulseTo with
    | some t => if t ≤ s.now then ({ s with nwk := { s.nwk with pulseTo := none } }).wakeOut else s
    | none => s)

/-- R459: a high level that outlasts the 10 ms is filtered from their end. -/
def execLoopIgnoreEnd (s : State) : Host.Outcome State Fault Refusal :=
  s.ends (match s.nwk.ignoreTo with
    | some t =>
      if t ≤ s.now then
        { s with nwk := { s.nwk with ignoreTo := none, raised := false, highFrom := if s.nwk.wakeIn then some t else none } }
      else s
    | none => s)

/-! ### False wakes and back-off (R460 to R462) -/

/-- FWCNT reaches FWLIM: the channel's bus wake is disabled for BACKOFF minutes. -/
def State.backOff (s : State) (j : Nat) : State :=
  (((s.put F.NWK_FW_BOACT 1 j).bump F.NWK_CNT_BACKOFFS j).nwkEvent j 5).setNchan j { s.nchan j with
    backTo := some (s.now + clampNat 1 240 (s.ncopy F.NWK_FW_BACKOFF j) * 60 * secUnits) }

/-- R460: the window passes without valid communication. -/
def execFalseWakeWindowEnd (j : Nat) (s : State) : Host.Outcome State Fault Refusal :=
  s.ends (match (s.nchan j).window with
    | some t =>
      if t ≤ s.now then
        let s1 := s.setNchan j { s.nchan j with window := none }
        if s1.guarded j then s1
        else
          let s2 := ((s1.bump F.NWK_CNT_FALSE j).bump F.NWK_FW_FWCNT j).nwkEvent j 4
          if max 1 (s2.ncopy F.NWK_FW_FWLIM j) ≤ s2.get F.NWK_FW_FWCNT j then s2.backOff j else s2
      else s
    | none => s)

/-- R461. -/
def execBackOffEnd (j : Nat) (s : State) : Host.Outcome State Fault Refusal :=
  s.ends (match (s.nchan j).backTo with
    | some t =>
      if t ≤ s.now then
        (((s.put F.NWK_FW_FWCNT 0 j).put F.NWK_FW_BOACT 0 j).put F.NWK_FW_RECACT 1 j).setNchan j { s.nchan j with
          backTo := none, recTo := some (s.now + max 1 (s.ncopy F.NWK_CTL_RECWIN) * secUnits) }
      else s
    | none => s)

/-- R462. -/
def execRecoveryPhaseEnd (j : Nat) (s : State) : Host.Outcome State Fault Refusal :=
  s.ends (match (s.nchan j).recTo with
    | some t =>
      if t ≤ s.now then (s.put F.NWK_FW_RECACT 0 j).setNchan j { s.nchan j with recTo := none } else s
    | none => s)

/-- R462. -/
def execStartUpPhaseEnd (s : State) : Host.Outcome State Fault Refusal :=
  s.ends (match s.nwk.startTo with
    | some t => if t ≤ s.now then { s.put F.NWK_STAT_STARTUP 0 with nwk := { s.nwk with startTo := none } } else s
    | none => s)

/-- Starts the start-up phase at configuration applied after a P or D reset (R462). -/
def State.startUp (s : State) : State :=
  if s.get F.NWK_CTL_GUARD = 0 then s
  else { s.put F.NWK_STAT_STARTUP 1 with nwk := { s.nwk with startTo := some (s.now + s.get F.NWK_CTL_GUARD * secUnits) } }

/-! ### Wake frames (R466) -/

/-- The own wake frame of channel j, or its count as skipped. -/
def State.wakeFrame (s : State) (j : Nat) : State :=
  let k := s.get F.NWK_TRC_WFMB j
  if j < 10 then
    if s.on F.CAN_CTL_EN j ∧ s.trc j = 0 ∧ s.get F.CAN_MBID_DIR j k = 2 then
      ((s.put F.CAN_MB_TXREQ 1 j k).put F.CAN_MB_DONE 0 j k).canPend j
    else s.bump F.NWK_STAT_WFSKIP
  else if s.on F.LIN_CTL_EN (j - 10) ∧ s.trc j = 0 then
    { s with nwk := { s.nwk with linWake := Sparse.set s.nwk.linWake (j - 10) (s.now + clampNat 5 100 k * 50 * usUnits) } }
  else s.bump F.NWK_STAT_WFSKIP

/-- R466. -/
def execOwnWakeFrame (j : Nat) (s : State) : Host.Outcome State Fault Refusal :=
  s.ends (if s.nwk.framesDue.contains j ∧ s.pwr = 0 then
    ({ s with nwk := { s.nwk with framesDue := s.nwk.framesDue.filter (fun k => k != j) } }).wakeFrame j
  else s)

/-! ### The block at PARK entry and at RUN, and writes of its registers -/

/-- Transceivers are placed at the commit point (R451). -/
def State.nwkPark (s : State) : State :=
  ((List.range 22).foldl (fun t j =>
    ((t.put F.NWK_TRC_STATE (if bit (t.get F.NWK_SLPSET_SET) j then 3 else 2) j).put F.NWK_TRC_GOING 0 j).setNchan j
      { t.nchan j with want := none }) s).wakeOut

/-- At RUN after a wake the false-wake windows of the parked time start (R460). -/
def State.nwkRun (s : State) : State :=
  (List.range 22).foldl (fun t j =>
    let n := t.nchan j
    if n.atRun then t.setNchan j { n with
      atRun := false, window := some (t.now + max 1 (t.ncopy F.NWK_FW_FWWIN j) * 100 * msUnits) } else t) s

/-- The effect of a write of a one-word register of the block; each is copied into CI-AON. -/
def State.nwkWrite (s : State) (r : Reg) (i j w : Nat) (v : Word) : State :=
  match r with
  | .NWK_TRC => s.trcWrite i v
  | .NWK_STAT => (s.plainWrite r i j w v).slpUpdate
  | .NWK_SLPSET => ((s.plainWrite r i j w v).ncopyWord r i j w).slpUpdate
  | .NWK_WIO => ((s.plainWrite r i j w v).ncopyWord r i j w).wakeOut
  | r => (s.plainWrite r i j w v).ncopyWord r i j w

/-- The whole value of masking set k of channel j is written. -/
def State.nwkSetWrite (s : State) (j k : Nat) (ws : List Word) : State :=
  (List.range 5).foldl (fun t w => (t.plainWrite .NWK_SET j k w (ws.getD w 0)).ncopyWord .NWK_SET j k w) s

end Sys2Proof.Machine
end

