-- ==== Sys2Proof/Machine/Gateway.lean ====
section
/-! DEFINITION. The gateway couplings and the check-value units (R471 to R500): coupling refusal, routing, delivery, tunnels, partition
rings, remote register access, prefetch, side-band signals, and the meanings of their commands. -/

set_option Elab.async false

namespace Sys2Proof.Machine

/-! ### Couplings (R472 to R475) -/

/-- Port codes of R472. -/
def isCanPort (p : Nat) : Bool := decide (p < 10)
def isLinPort (p : Nat) : Bool := decide (16 ≤ p) && decide (p < 28)
def isRingPort (p : Nat) : Bool := decide (48 ≤ p) && decide (p < 52)
def isBusPort (p : Nat) : Bool := isCanPort p || p == 0x20
def isPort (p : Nat) : Bool := isCanPort p || isLinPort p || p == 0x20 || isRingPort p || p == 0x40

/-- The owner of coupling i. -/
def State.cplOwner (s : State) (i : Nat) : Option Nat := s.ownerOf (.item 0x0C i)

/-- The couplings that are enabled, in index order: only a listed word can hold EN. -/
def State.enabledCpls (s : State) : List Nat :=
  (s.regs.filter (fun c => decide (0x40A40000 ≤ c.1) && decide (c.1 < 0x40A50000) && c.1 % 16 == 0 && bitsOf c.2 31 31 == 1)).map
    (fun c => (c.1 - 0x40A40000) / 16)

/-- Whether port d may be the destination of a coupling of owner o: a channel or ring that the owner has, or a tunnel. -/
def State.cplDest (s : State) (o : Option Nat) (d : Nat) : Bool :=
  if isCanPort d then o.isSome && s.ownerOf (.item 0x0E d) == o
  else if isLinPort d then o.isSome && s.ownerOf (.item 0x0F (d - 16)) == o
  else if isRingPort d then o == some (d - 48)
  else d == 0x20

/-- Whether the KIND of a coupling fits its ports. -/
def cplKindOk (kind sp dp : Nat) (ring : Option Nat) : Bool :=
  match kind with
  | 0 => !(decide (48 ≤ sp) && decide (sp ≤ 64))
  | 1 => ring == some sp && isBusPort dp
  | 2 => isBusPort sp && ring == some dp
  | _ => (sp == 0x40 && isBusPort dp) || (isBusPort sp && ring == some dp)

/-- Whether coupling i is refused (R474, R499). -/
def State.cplBad (s : State) (i : Nat) : Bool :=
  let o := s.cplOwner i
  let kind := s.get F.GWY_CPL_KIND i
  let sp := s.get F.GWY_CPL_SPORT i
  let dp := s.get F.GWY_CPL_DPORT i
  let g := s.get F.GWY_CPL_GRP i
  let u := s.get F.GWY_CPL_CHKU i
  !isPort sp || !isPort dp || dp == 0x40 || sp == dp || decide (63 < s.get F.GWY_CPL_STUN i) || decide (63 < s.get F.GWY_CPL_DTUN i) ||
    !s.cplDest o dp || !cplKindOk kind sp dp (o.map (fun n => 48 + n)) ||
    ((kind == 1 || kind == 2) && (g == 63 || o.isNone || s.cplOwner (s.get F.GWY_GRP_CPLREQ g) != o ||
      s.cplOwner (s.get F.GWY_GRP_CPLRSP g) != o)) ||
    (s.on F.GWY_CPL_CHKEN i && (s.ownerOf (.item 0x0D u) != o || decide (6 ≤ s.get F.CHK_CFG_CODE u) ||
      s.enabledCpls.any (fun k => k != i && s.on F.GWY_CPL_CHKEN k && s.get F.GWY_CPL_CHKU k == u)))

/-- Checks a coupling whose EN is 1: a refused one keeps EN 0 and is counted. -/
def State.cplCheck (s : State) (i : Nat) : State :=
  if s.on F.GWY_CPL_EN i && s.cplBad i then (s.put F.GWY_CPL_EN 0 i).bump F.GWY_STAT_BADCPL else s

/-- The whole value of coupling i is written. -/
def State.cplWrite (s : State) (i : Nat) (ws : List Word) : State :=
  if s.on F.GWY_CPL_EN i && bitsOf (ws.getD 0 0) 31 31 == 1 then s.accErr 10
  else
    let s1 := (List.range 4).foldl (fun t w => t.plainWrite .GWY_CPL i 0 w (ws.getD w 0)) s
    s1.cplCheck i

/-- R474: EN := 1 with the rest of the coupling as it stands. -/
def execCouplingEnable (init : Init) (i : Nat) (s : State) : Host.Outcome State Fault Refusal :=
  s.ends (if i < 4096 then
    s.owned init .GWY_CPL i 0 3 (fun t => t.cplWrite i (setBits (t.word .GWY_CPL i 0 0) 31 31 1 :: (t.words .GWY_CPL i 0).drop 1))
  else s)

/-- R475: EN := 0. -/
def execCouplingDisable (init : Init) (i : Nat) (s : State) : Host.Outcome State Fault Refusal :=
  s.ends (if i < 4096 then
    s.owned init .GWY_CPL i 0 3 (fun t => t.cplWrite i (setBits (t.word .GWY_CPL i 0 0) 31 31 0 :: (t.words .GWY_CPL i 0).drop 1))
  else s)

/-- Whether coupling i matches a message (R476, R496). A local signal of a partition matches couplings of that partition only. -/
def State.cplMatches (s : State) (m : Msg) (i : Nat) : Bool :=
  s.get F.GWY_CPL_SPORT i == m.port && s.get F.GWY_CPL_SID i == m.id &&
    (m.port != 0x20 || (s.get F.GWY_CPL_STUN i == m.tun && s.get F.GWY_CPL_SBUS i == m.bus)) &&
    (m.port != 0x40 || m.bus == 0 || s.cplOwner i == some m.tun)

/-! ### Partition rings (R482 to R485) -/

/-- Whether the gateway ring of partition p runs. -/
def State.gringRuns (s : State) (p : Nat) : Bool :=
  let n := s.get F.GWY_RSIZE_SIZE p
  let a := s.get F.GWY_RBASE_BASE p * 128
  let (lo, hi) := s.partRange p
  [16, 32, 64, 128, 256, 512, 1024].contains n && decide (lo ≤ a) && decide (a + 128 * n ≤ hi)

/-- The 32 words of a ring entry (R483). -/
def RingEnt.words (e : RingEnt) : List Word :=
  [BitVec.ofNat 32 (e.typ * 2 ^ 28 + e.cpl % 4096 * 2 ^ 16 + e.tag % 256 * 2 ^ 8 + e.data.length % 256), BitVec.ofNat 32 e.addr,
    BitVec.ofNat 32 (e.code % 256 * 2 ^ 24 + e.att % 256 * 2 ^ 16 + (if e.pf then 2 ^ 15 else 0) + (if e.skip then 2 ^ 14 else 0) + e.sport % 256)] ++
    t0Words e.at_ ++ [0, 0] ++ dataWords e.data ++ List.replicate 8 0

/-- Writes a ring entry, or drops it (R484), with its event. An entry whose place in a lost bank cannot be stored is dropped too
(R134, R630). -/
def State.ringWrite (s : State) (e : RingEnt) : State :=
  let p := e.part
  let h := s.get F.GWY_RHEAD_HEAD p
  let t := s.get F.GWY_RTAIL_TAIL p
  let n := max 1 (s.get F.GWY_RSIZE_SIZE p)
  let a := s.get F.GWY_RBASE_BASE p * 128 + 128 * h
  let s1 := if s.gringRuns p && (h + 1) % n != t then
      if s.lostIn a 128 then (s.badSeen 4 a).bump F.GWY_RDROP_DROP p
      else
        let u := ((s.madeWhole a 128).wrWords a e.words).put F.GWY_RHEAD_HEAD ((h + 1) % n) p
        if e.typ = 1 ∧ h = t then u.event p 10 2 0xFFFF else u
    else s.bump F.GWY_RDROP_DROP p
  if e.typ = 1 then s1 else s1.event p 10 1 e.cpl e.typ e.tag

/-- Whether a message delivered before an entry's decision that a coupling of its group took is still on its way (R485). -/
def State.ringHeld (s : State) (e : RingEnt) : Bool :=
  e.grp < 63 && (e.typ == 3 || e.typ == 4) &&
    (s.gwy.inbox.any (fun (m : Msg) => decide (m.num < e.before) &&
      s.enabledCpls.any (fun i => s.get F.GWY_CPL_GRP i == e.grp && s.cplMatches m i)) ||
    s.gwy.jobs.any (fun q => q.2.any (fun (j : ChkJob) => decide (j.num < e.before) && s.get F.GWY_CPL_GRP j.cpl == e.grp)))

/-- Writes the ring entries that wait no longer, in the order of their decisions. -/
def State.ringFlush (s : State) : State :=
  let es := s.gwy.waiting
  (es.filter (fun e => !s.ringHeld e)).foldl (fun t e => t.ringWrite e)
    { s with gwy := { s.gwy with waiting := es.filter (fun e => s.ringHeld e) } }

/-- Decides a ring entry. -/
def State.ringPut (s : State) (e : RingEnt) : State :=
  if s.ringHeld e then { s with gwy := { s.gwy with waiting := s.gwy.waiting ++ [e] } } else s.ringWrite e

/-! ### Tunnels (R480, R481) -/

/-- Bytes padded with zeros to whole quadlets. -/
def padQuad (bs : List Byte) : List Byte := bs ++ List.replicate ((4 - bs.length % 4) % 4) 0

/-- A number as n bytes, most significant first. -/
def beBytes8 (n v : Nat) : List Byte := (beBytes n v).map (fun x => BitVec.ofNat 8 x)

/-- An ACF message (IEEE 1722, PRESUMED, log entry 15): type, the third byte's flags, the fourth byte, timestamp, then the rest. -/
def acfBytes (typ flags b3 : Nat) (stamp : Nat) (rest payload : List Byte) : List Byte :=
  let body := rest ++ padQuad payload
  let quads := (12 + body.length) / 4
  let pad := (4 - payload.length % 4) % 4
  (beBytes8 2 (typ * 512 + quads)) ++ [BitVec.ofNat 8 (pad * 64 + flags), BitVec.ofNat 8 b3] ++ beBytes8 8 stamp ++ body

/-- The ACF message of an outgoing frame with bus_id `bus`; `t` is its message timestamp in ns, where valid. -/
def OutMsg.acf (o : OutMsg) (bus : Nat) (t : Option Nat) : List Byte :=
  let mtv := if t.isSome then 32 else 0
  let b (x : Bool) (n : Nat) : Nat := if x then n else 0
  if o.lin then acfBytes 3 (mtv + bus % 32) (o.id % 64) (t.getD 0) [] o.data
  else
    let ide := decide (2 ^ 29 ≤ o.id)
    acfBytes 1 (mtv + b o.rtr 16 + b ide 8 + b o.brs 4 + b o.fdf 2) (bus % 32) (t.getD 0)
      (beBytes8 4 (if ide then o.id % 2 ^ 29 else o.id % 2 ^ 29 / 2 ^ 18)) o.data

/-- Sends what a tunnel has gathered for partition p (k = 4·tunnel + p) as one AVTPDU. -/
def State.tunnelSend (s : State) (k : Nat) : State :=
  match Sparse.get s.gwy.gathers k with
  | none => s
  | some g =>
    let t := k / 4
    let acf := g.acf.flatten
    let seq := Sparse.at s.gwy.seqTx t 0
    let stream := s.get F.GWY_TUN_STREAM_1 t * 2 ^ 32 + s.get F.GWY_TUN_STREAM t
    let body := beBytes8 2 0x22F0 ++ beBytes8 2 (0x8280 + acf.length / 256 % 8) ++ beBytes8 1 (acf.length % 256) ++ beBytes8 1 seq ++
      beBytes8 8 stream ++ acf
    let f : Frame := ⟨s.get F.GWY_TUN_MAC_1 t * 2 ^ 32 + s.get F.GWY_TUN_MAC t, Config.tunnelAddress % 2 ^ 48, s.get F.GWY_TUN_VID t,
      s.get F.GWY_TUN_PCP t, body, 11 + k % 4, s.now, 0, none, k % 4, none, g.atts⟩
    (({ s with gwy := { s.gwy with
      gathers := Sparse.erase s.gwy.gathers k, seqTx := Sparse.set s.gwy.seqTx t ((seq + 1) % 256) } }).ingress f (body.length + 18) none none).1

/-- Gathers an ACF message: at most 1,400 bytes go into one AVTPDU. -/
def State.tunnelAdd (s : State) (k : Nat) (acf : List Byte) (att : Option TagRef) : State :=
  let full := match Sparse.get s.gwy.gathers k with
    | some g => decide (1400 < g.acf.flatten.length + acf.length)
    | none => false
  let s1 := if full then s.tunnelSend k else s
  let g := Sparse.at s1.gwy.gathers k ⟨[], s1.now, []⟩
  { s1 with gwy := { s1.gwy with gathers := Sparse.set s1.gwy.gathers k { g with acf := g.acf ++ [acf], atts := g.atts ++ att.toList } } }

/-- R480: the gathering time of tunnel t's messages of partition p ends. -/
def execTunnelGatherEnd (t p : Nat) (s : State) : Host.Outcome State Fault Refusal :=
  s.ends (match Sparse.get s.gwy.gathers (4 * t + p) with
    | some g => if g.at_ + s.get F.GWY_TUN_AGG t * usUnits ≤ s.now ∧ p < 4 then s.tunnelSend (4 * t + p) else s
    | none => s)

/-- A number from bytes, most significant first. -/
def beNum (bs : List Byte) : Nat := bs.foldl (fun n b => 256 * n + b.toNat) 0

/-- The messages of an ACF payload, each from its first byte on; one of length zero ends them. -/
def acfSplit : Nat → List Byte → List (List Byte)
  | 0, _ => []
  | n + 1, bs =>
    let len := beNum (bs.take 2) % 512 * 4
    if bs.length < 4 ∨ len = 0 then [] else bs.take len :: acfSplit n (bs.drop len)

/-- The message that an ACF message of tunnel t carries; none for a type the gateway does not take. -/
def acfMsg (t : Nat) (bs : List Byte) : Option Msg :=
  let typ := beNum (bs.take 2) / 512
  let f := (bs.getD 2 0).toNat
  let b3 := (bs.getD 3 0).toNat
  let can (hd : Nat) : Msg :=
    let id := beNum ((bs.drop (hd - 4)).take 4) % 2 ^ 29
    let data := (bs.drop hd).take (bs.length - hd - f / 64)
    ⟨0x20, if bit f 3 then 2 ^ 29 + id else id % 2 ^ 11 * 2 ^ 18, bit f 1, bit f 2, bit f 4, data, none, t, b3 % 32, 0⟩
  match typ with
  | 1 => some (can 16)
  | 2 => some (can 8)
  | 3 => some ⟨0x20, b3 % 64, false, false, false, (bs.drop 12).take (bs.length - 12 - f / 64), none, t, f % 32, 0⟩
  | _ => none

/-- The tunnel that takes a stream. -/
def State.tunnelOf (s : State) (stream : Nat) : Option Nat :=
  (List.range 64).find? (fun k => s.on F.GWY_TUN_RXEN k && s.get F.GWY_TUN_STREAM_1 k * 2 ^ 32 + s.get F.GWY_TUN_STREAM k == stream)

/-- R481: the oldest AVTPDU that the switch handed over is taken apart and its messages are delivered. -/
def execAvtpduReceive (s : State) : Host.Outcome State Fault Refusal :=
  s.ends (match s.eth.avtp with
    | [] => s
    | f :: rest =>
      let s1 := { s with eth := { s.eth with avtp := rest } }
      let b := f.body.drop 2
      let tscf := (b.getD 0 0).toNat == 0x04
      let seq := (b.getD (if tscf then 2 else 3) 0).toNat
      match s1.tunnelOf (beNum ((b.drop 4).take 8)) with
      | none => s1
      | some t =>
        let len := if tscf then beNum ((b.drop 20).take 2) else beNum ((b.drop 1).take 2) % 2048
        let acf := (b.drop (if tscf then 24 else 12)).take len
        let gap := match Sparse.get s1.gwy.seqRx t with
          | some n => seq != (n + 1) % 256
          | none => false
        let s2 := if gap then s1.bump F.GWY_TUN_SEQGAP t else s1
        let s3 := { s2 with gwy := { s2.gwy with seqRx := Sparse.set s2.gwy.seqRx t seq } }
        (acfSplit 400 acf).foldl (fun u m => match acfMsg t m with
          | some x => u.toGateway x
          | none => u.bump F.GWY_TUN_BADTYPE t) s3)

/-! ### Delivery (R477, R478) -/

/-- A message is dropped under R478. -/
def State.cplDrop (s : State) (i : Nat) : State := s.bump F.GWY_CCNT_DROPPED i

/-- Counts a routed message; attempts of remote accesses count as they are sent. -/
def State.cplRouted (s : State) (o : OutMsg) : State := if o.att.isSome then s else s.bump F.GWY_CCNT_ROUTED o.cpl

/-- Delivery to CAN channel c: a side-band message waits behind every earlier entry of the queue (R496). -/
def State.toCan (s : State) (c : Nat) (o : OutMsg) (side : Bool) : State :=
  let n := o.data.length
  let ch := s.can_ c
  if (if o.fdf then 64 else 8) < n ∨ !s.on F.CAN_CTL_EN c ∨ s.trc c ≠ 0 ∨ (o.fdf ∧ !s.on F.CAN_CTL_FDEN c) then s.cplDrop o.cpl
  else
    let dlc := if o.fdf then dlcFor n else n
    let e : CanEnt := ⟨frameWords (o.id % 2 ^ 29) (decide (2 ^ 29 ≤ o.id)) o.fdf o.brs false o.rtr dlc o.data [0, 0, 0], o.cpl, s.now, s.can.num, o.att⟩
    let s1 := { s with can := { s.can with num := s.can.num + 1 } }
    let before := ch.gq.map (fun x => x.num) ++ ch.held.map (fun x => x.1.num)
    if side && !before.isEmpty then (s1.setCan c { ch with held := ch.held ++ [(e, before)] }).cplRouted o
    else if 32 ≤ ch.gq.length then s1.cplDrop o.cpl
    else (s1.setCan c { ch with gq := ch.gq ++ [e] }).cplRouted o

/-- Delivery to LIN channel l: the data becomes LIN_FR of DID, padded with 0xFF. -/
def State.toLin (s : State) (l : Nat) (o : OutMsg) : State :=
  let i := o.id % 64
  let n := s.linLen l i
  if 8 < o.data.length ∨ n < o.data.length ∨ !s.on F.LIN_FCFG_EN l i ∨ !s.linPublish l i ∨ !s.on F.LIN_CTL_EN l ∨ s.trc (10 + l) ≠ 0 then
    s.cplDrop o.cpl
  else
    let ws := (dataWords (o.data ++ List.replicate (n - o.data.length) 0xFF#8)).take 2
    (s.linFrWrite l i (ws ++ [0x40000000#32])).cplRouted o

/-- Delivery of an outgoing frame to the destination of its coupling; for a ring its identifier is the source's. -/
def State.gwyDeliver (s : State) (o : OutMsg) (skip : Bool) : State :=
  let d := s.get F.GWY_CPL_DPORT o.cpl
  if isCanPort d then s.toCan d o (s.get F.GWY_CPL_KIND o.cpl == 3)
  else if isLinPort d then s.toLin (d - 16) o
  else if d = 0x20 then
    (match s.cplOwner o.cpl with
    | some p =>
      let t := o.stamp.bind (fun u => if s.scaleValid 1 then some (s.scaleAt 1 u / 65536).toNat else none)
      (s.tunnelAdd (4 * s.get F.GWY_CPL_DTUN o.cpl + p) (o.acf (s.get F.GWY_CPL_DBUS o.cpl) t) o.att).cplRouted o
    | none => s.cplDrop o.cpl)
  else if isRingPort d then
    (if 64 < o.data.length then s.cplDrop o.cpl
    else (s.ringPut ⟨d - 48, 1, o.cpl, 0, o.id, 0, 0, false, skip, s.get F.GWY_CPL_SPORT o.cpl, o.data, s.now, s.get F.GWY_CPL_GRP o.cpl,
      s.gwy.count⟩).cplRouted o)
  else s

/-! ### Check-value units (R498, R499) -/

/-- Bytes of a CRC code. -/
def crcLen (code : Nat) : Nat :=
  match code with
  | 0 | 1 => 1
  | 2 => 2
  | 3 | 4 => 4
  | _ => 8

/-- Counter width of unit u: 0, 4 or 8. -/
def State.chkWidth (s : State) (u : Nat) : Nat :=
  match s.get F.CHK_CFG_AW u with
  | 1 => 4
  | 2 => 8
  | _ => 0

/-- A number as n bytes, least significant first. -/
def leBytes : Nat → Nat → List Nat
  | 0, _ => []
  | n + 1, v => v % 256 :: leBytes n (v / 256)

/-- The CRC bytes of unit u over its DATAID and the bytes given. -/
def State.chkCrc (s : State) (u : Nat) (bs : List Byte) : List Byte :=
  let code := s.get F.CHK_CFG_CODE u
  (leBytes (crcLen code) (crcCode code (leBytes 2 (s.get F.CHK_DID_DATAID u) ++ bs.map (fun b => b.toNat)))).map (fun x => BitVec.ofNat 8 x)

/-- MODE 1: the header goes before the data, and the counter counts. -/
def State.chkAppend (s : State) (u : Nat) (data : List Byte) : State × List Byte :=
  let w := s.chkWidth u
  if w = 0 then (s, s.chkCrc u data ++ data)
  else
    let n := s.get F.CHK_STAT_NEXT u % 2 ^ w
    let rest := BitVec.ofNat 8 n :: data
    (s.put F.CHK_STAT_NEXT ((n + 1) % 2 ^ w) u, s.chkCrc u rest ++ rest)

/-- What a check decides: whether the message passes, with SKIP. -/
def State.chkJudge (s : State) (u : Nat) (data : List Byte) : State × Bool × Bool :=
  let n := crcLen (s.get F.CHK_CFG_CODE u)
  let w := s.chkWidth u
  let rest := data.drop n
  if data.length < n + (if w = 0 then 0 else 1) ∨ data.take n ≠ s.chkCrc u rest then (s.bump F.CHK_CNT_CRCERR u, false, false)
  else if w = 0 then (s, true, false)
  else
    let c := (rest.getD 0 0).toNat % 2 ^ w
    let d := (c + 2 ^ w - s.get F.CHK_STAT_LAST u % 2 ^ w) % 2 ^ w
    let took := s.put F.CHK_STAT_LAST c u
    if !s.on F.CHK_STAT_SYNC u then (took.put F.CHK_STAT_SYNC 1 u, true, false)
    else if d = 1 then (took, true, false)
    else if d = 0 then (s.bump F.CHK_CNT_REPEAT u, false, false)
    else if d ≤ clampNat 1 (2 ^ w - 2) (s.get F.CHK_CFG_MAXDELTA u) then (took.bump F.CHK_CNT_SKIP u, true, true)
    else ((s.bump F.CHK_CNT_JUMP u).put F.CHK_STAT_SYNC 0 u, false, false)

/-- Whether a coupling's unit works in one of the given modes. -/
def State.chkMode (s : State) (i : Nat) (ms : List Nat) : Bool :=
  s.on F.GWY_CPL_CHKEN i && ms.contains (s.get F.CHK_CFG_MODE (s.get F.GWY_CPL_CHKU i))

/-- Puts a job into the unit of its coupling. -/
def State.chkJob (s : State) (j : ChkJob) : State :=
  let u := s.get F.GWY_CPL_CHKU j.cpl
  { s with gwy := { s.gwy with jobs := Sparse.set s.gwy.jobs u (Sparse.at s.gwy.jobs u [] ++ [j]) } }

/-- An outgoing frame goes to its destination, through its unit where that appends. -/
def State.gwyOut (s : State) (o : OutMsg) (num : Nat) (skip : Bool) : State :=
  if s.chkMode o.cpl [1] then s.chkJob ⟨o.cpl, num, none, some o⟩ else s.gwyDeliver o skip

/-! ### Routing (R476) -/

/-- The payload of a remote access frame (R486). -/
def remoteBytes (op tag flags status addr : Nat) (data : List Byte) : List Byte :=
  [BitVec.ofNat 8 op, BitVec.ofNat 8 tag, BitVec.ofNat 8 flags, BitVec.ofNat 8 status] ++ (leBytes 4 addr).map (fun x => BitVec.ofNat 8 x) ++ data

/-- The format of a coupling's outgoing frame: (FD, bit rate switch). -/
def State.cplFormat (s : State) (i : Nat) (fdf brs : Bool) : Bool × Bool :=
  match s.get F.GWY_CPL_DFMT i with
  | 0 => (fdf, brs)
  | 1 => (false, false)
  | 2 => (true, false)
  | _ => (true, true)

/-- A message passes to the destination of coupling i: data as an outgoing frame, a response to the remote access, a side-band
message out of or into a ring (R496, R497). -/
def State.gwyPass (s : State) (i : Nat) (m : Msg) (skip : Bool) : State :=
  let d := s.get F.GWY_CPL_DPORT i
  match s.get F.GWY_CPL_KIND i with
  | 0 =>
    let (fdf, brs) := s.cplFormat i m.fdf m.brs
    s.gwyOut ⟨i, if isRingPort d then m.id else s.get F.GWY_CPL_DID i, fdf, brs, m.rtr && !fdf, m.data, m.stamp,
      isLinPort m.port || isLinPort d, none⟩ m.num skip
  | 2 => { s with gwy := { s.gwy with replies := s.gwy.replies ++ [(i, m.data, false)] } }
  | 3 =>
    if m.port = 0x40 then
      let (fdf, brs) := s.cplFormat i false false
      s.gwyOut ⟨i, s.get F.GWY_CPL_DID i, fdf, brs, false, remoteBytes 5 0 0 ((m.data.getD 0 0).toNat) (m.id % 65536) [], none, false, none⟩ m.num skip
    else
      ((s.ringPut ⟨d - 48, 4, i, 0, m.id, 0, 0, false, skip, m.port, m.data.take 64, s.now, s.get F.GWY_CPL_GRP i, m.num⟩).bump F.GWY_CCNT_ROUTED i)
  | _ => s

/-- Coupling i takes a message it matches: through its unit where that checks. -/
def State.gwyTake (s : State) (m : Msg) (i : Nat) : State :=
  if s.chkMode i [2, 3] then s.chkJob ⟨i, m.num, some m, none⟩ else s.gwyPass i m false

/-- R476: the oldest message delivered to the gateway is routed by its matching couplings in index order, by eight at most. A coupling whose
entry reads as uncorrectable does not route it and counts it as dropped (R630). -/
def execGatewayMessage (unc : List Nat) (s : State) : Host.Outcome State Fault Refusal :=
  s.ends (match s.gwy.inbox with
    | [] => s
    | m :: rest =>
      let s1 := { s with gwy := { s.gwy with inbox := rest } }
      let is_ := s1.enabledCpls.filter (fun i => s1.cplMatches m i)
      ((is_.take 8).foldl (fun t i => if i ∈ unc then (t.ramLost 10 10 (Reg.GWY_CPL.addr i 0 0)).cplDrop i else t.gwyTake m i) (s1.bumpBy F.GWY_STAT_FANOUT (is_.length - 8))).ringFlush)

/-- Takes a check-value job to its end. -/
def State.chkDone (s : State) (u : Nat) (j : ChkJob) : State :=
  match j.msg, j.out with
  | some m, _ =>
    let (s1, pass, skip) := s.chkJudge u m.data
    let n := crcLen (s.get F.CHK_CFG_CODE u) + (if s.chkWidth u = 0 then 0 else 1)
    let data := if s.get F.CHK_CFG_MODE u = 2 ∨ s.get F.GWY_CPL_KIND j.cpl = 2 then m.data.drop n else m.data
    if pass then s1.gwyPass j.cpl { m with data := data } skip
    else if s1.get F.GWY_CPL_KIND j.cpl = 2 then { s1 with gwy := { s1.gwy with replies := s1.gwy.replies ++ [(j.cpl, m.data.drop n, true)] } }
    else s1
  | none, some o =>
    let (s1, data) := s.chkAppend u o.data
    s1.gwyDeliver { o with data := data } false
  | none, none => s

/-- R498: unit u finishes its oldest message. -/
def execCheckValueDone (u : Nat) (s : State) : Host.Outcome State Fault Refusal :=
  s.ends (match Sparse.at s.gwy.jobs u [] with
    | [] => s
    | j :: rest => (({ s with gwy := { s.gwy with jobs := Sparse.set s.gwy.jobs u rest } }).chkDone u j).ringFlush)

/-- R478: entries of channel c's gateway queue that are older than QAGE leave it. -/
def execGatewayQueueAge (c : Nat) (s : State) : Host.Outcome State Fault Refusal :=
  let age := max 1 (s.get F.GWY_CTL_QAGE) * msUnits
  let on : Option Nat := match (s.can_ c).tx with
    | some t => t.ent.map (fun e => e.num)
    | none => none
  let old := (s.can_ c).gq.filter (fun e => decide (e.at_ + age < s.now) && on != some e.num)
  s.ends (old.foldl (fun t e => (t.canUnqueue c e).cplDrop e.cpl) s)

/-! ### Remote register access (R486 to R491) -/

/-- The remote access of a tag that is outstanding in a group. -/
def State.access (s : State) (g tag : Nat) : Option Access :=
  s.gwy.accs.find? (fun (a : Access) => a.grp == g && a.tag == tag && a.quar.isNone)

/-- Shows how many tags of a group are outstanding. -/
def State.showOut (s : State) (g : Nat) : State :=
  s.put F.GWY_GRP_OUT (s.gwy.accs.filter (fun (a : Access) => a.grp == g && a.quar.isNone)).length g

/-- Replaces or removes the outstanding access of a tag. -/
def State.setAccess (s : State) (g tag : Nat) (v : Option Access) : State :=
  let rest := s.gwy.accs.filter (fun (a : Access) => !(a.grp == g && a.tag == tag && a.quar.isNone))
  ({ s with gwy := { s.gwy with accs := rest ++ v.toList } }).showOut g

/-- The request coupling of a group. -/
def State.reqCpl (s : State) (g : Nat) : Nat := s.get F.GWY_GRP_CPLREQ g

/-- Whether a group has a valid request and a valid response coupling. -/
def State.grpValid (s : State) (g : Nat) : Bool :=
  let a := s.get F.GWY_GRP_CPLREQ g
  let b := s.get F.GWY_GRP_CPLRSP g
  decide (g < 63) && s.on F.GWY_CPL_EN a && s.get F.GWY_CPL_KIND a == 1 && s.get F.GWY_CPL_GRP a == g &&
    s.on F.GWY_CPL_EN b && s.get F.GWY_CPL_KIND b == 2 && s.get F.GWY_CPL_GRP b == g

/-- A ring entry of a remote access. -/
def State.accessEntry (s : State) (p typ g tag addr code att : Nat) (pf : Bool) (data : List Byte) : State :=
  let c := s.reqCpl g
  s.ringPut ⟨p, typ, c, tag, addr, code, att, pf, false, s.get F.GWY_CPL_DPORT c, data, s.now, g, s.gwy.count⟩

/-- Sends an attempt (R489, R490): DFMT 0 of a request coupling gives the smaller format that carries the frame. -/
def State.attempt (s : State) (a : Access) : State :=
  let c := s.reqCpl a.grp
  let bs := if a.write then remoteBytes 2 a.tag ((if 1 < a.att then 128 else 0) + a.count) 0 a.addr a.data
    else remoteBytes 1 a.tag a.want 0 a.addr []
  let (fdf, brs) := s.cplFormat c (decide (8 < bs.length)) false
  s.gwyOut ⟨c, s.get F.GWY_CPL_DID c, fdf, brs, false, bs, none, false, some ⟨a.grp, a.tag⟩⟩ s.gwy.count false

/-- The partition that a group belongs to. -/
def State.grpOwner (s : State) (g : Nat) : Option Nat := s.cplOwner (s.reqCpl g)

/-- Discards a prefetch line: one with words never returned is logged and counted (R494). -/
def State.lineLog (s : State) (l : PfLine) : State :=
  let n := (l.words.filter (fun w => w.isSome)).length
  if n = 0 then s
  else
    let e := s.get F.GWY_STAT_PFNEXT
    let w := l.grp * 2 ^ 26 + l.tag % 256 * 2 ^ 8 + n % 16
    ((((s.setWords .GWY_PFLOG e 0 [BitVec.ofNat 32 l.addr, BitVec.ofNat 32 w]).wrap F.GWY_STAT_PFNEXT).bump F.GWY_STAT_PFDISC)).logEntry
      7 10 0xFFFF l.addr w

/-- Discards the lines that a condition names. -/
def State.dropLines (s : State) (p : PfLine → Bool) : State :=
  (s.gwy.lines.filter p).foldl (fun t l => t.lineLog l) { s with gwy := { s.gwy with lines := s.gwy.lines.filter (fun l => !p l) } }

/-- Adds a line to its group's buffer of four: a fifth drives the oldest out. -/
def State.addLine (s : State) (l : PfLine) : State :=
  let mine := s.gwy.lines.filter (fun x => x.grp == l.grp)
  let s1 := match mine with
    | o :: _ => if 4 ≤ mine.length then s.dropLines (fun x => decide (x = o)) else s
    | [] => s
  { s1 with gwy := { s1.gwy with lines := s1.gwy.lines ++ [l] } }

/-- Words n onwards of a line for a read of `count` words at `addr`, if all of them are there and unreturned. -/
def PfLine.serve (l : PfLine) (addr count : Nat) : Option (List Word) :=
  if l.addr ≤ addr ∧ addr + 4 * count ≤ l.addr + 4 * l.words.length then
    ((l.words.drop ((addr - l.addr) / 4)).take count).mapM (fun w => w)
  else none

/-- A line with the words of a read returned. -/
def PfLine.returned (l : PfLine) (addr count : Nat) : PfLine :=
  let n := (addr - l.addr) / 4
  { l with words := l.words.take n ++ List.replicate count none ++ l.words.drop (n + count) }

/-- Whether a read's whole range lies in one prefetch window of its group. -/
def State.inWindow (s : State) (g addr count : Nat) : Bool :=
  [(F.GWY_GRP_BASE0, F.GWY_GRP_SIZE0), (F.GWY_GRP_BASE1, F.GWY_GRP_SIZE1), (F.GWY_GRP_BASE2, F.GWY_GRP_SIZE2),
    (F.GWY_GRP_BASE3, F.GWY_GRP_SIZE3)].any (fun w =>
      s.get w.2 g != 0 && decide (s.get w.1 g ≤ addr) && decide (addr + 4 * count ≤ s.get w.1 g + s.get w.2 g))

/-- A read request (R489, R493). -/
def State.remoteRead (s : State) (p g tag addr count : Nat) : State :=
  match s.gwy.lines.find? (fun (l : PfLine) => l.grp == g && (l.serve addr count).isSome) with
  | some l =>
    let ws := (l.serve addr count).getD []
    let l' := l.returned addr count
    let lines := (s.gwy.lines.map (fun (x : PfLine) => if x = l then l' else x)).filter (fun (x : PfLine) => x.words.any (fun w => w.isSome))
    ({ s with gwy := { s.gwy with lines := lines } }).accessEntry p 2 g tag addr 0 0 true (ws.flatMap bytesOf)
  | none =>
    let n := min 13 (s.get F.GWY_GRP_PFLEN g)
    let want := if n ≠ 0 ∧ s.on F.GWY_CPL_PF (s.reqCpl g) ∧ s.inWindow g addr count = true then max count n else count
    let a : Access := ⟨g, tag, false, addr, count, want, [], 1, none, none⟩
    (s.setAccess g tag (some a)).attempt a

/-- A posted write (R490, R494). -/
def State.remoteWrite (s : State) (g tag addr count : Nat) (data : List Byte) : State :=
  let s1 := s.dropLines (fun l => l.grp == g && decide (addr < l.addr + 4 * l.words.length) && decide (l.addr < addr + 4 * count))
  let a : Access := ⟨g, tag, true, addr, count, count, data, 1, none, none⟩
  (s1.setAccess g tag (some a)).attempt a

/-- The CODE with which a request is refused, if it is (R487). -/
def State.rqRefused (s : State) (op g tag addr count : Nat) : Option Nat :=
  if s.gwy.accs.any (fun (a : Access) => a.grp == g && a.tag == tag) then some 8
  else if 1024 ≤ (s.gwy.accs.filter (fun (a : Access) => a.quar.isNone)).length then some 9
  else if !s.grpValid g then some 10
  else if count = 0 ∨ 13 < count ∨ addr % 4 ≠ 0 ∨ (op ≠ 1 ∧ op ≠ 2) then some 11
  else none

/-- The whole value of GWY_RQp is written (R487). -/
def State.rqWrite (s : State) (init : Init) (p : Nat) (ws : List Word) : State :=
  let w := ws.getD 15 0
  let op := bitsOf w 31 28
  let g := bitsOf w 27 22
  let count := bitsOf w 21 18
  let tag := bitsOf w 15 8
  let addr := (ws.getD 0 0).toNat
  if 63 ≤ g ∨ s.grpOwner g ≠ some p then s.ownDrop init .GWY_RQ p (Reg.addr .GWY_RQ p 0 15)
  else match s.rqRefused op g tag addr count with
    | some code => s.accessEntry p 5 g tag addr code 0 false []
    | none =>
      if op = 1 then s.remoteRead p g tag addr count
      else s.remoteWrite g tag addr count (((ws.drop 1).take count).flatMap bytesOf)

/-- The value of GWY_RQp that asks for an access. -/
def rqWords (op g tag addr count : Nat) (data : List Word) : List Word :=
  BitVec.ofNat 32 addr :: (data ++ List.replicate 14 0).take 14 ++
    [BitVec.ofNat 32 (op * 2 ^ 28 + g % 64 * 2 ^ 22 + count % 16 * 2 ^ 18 + tag % 256 * 2 ^ 8)]

/-- R487, R489. -/
def execRemoteReadRequest (init : Init) (p g tag addr count : Nat) (s : State) : Host.Outcome State Fault Refusal :=
  s.ends (if p < 4 then s.owned init .GWY_RQ p 0 15 (fun t => t.rqWrite init p (rqWords 1 g tag addr count [])) else s)

/-- R487, R490. -/
def execPostedWriteRequest (init : Init) (p g tag addr count : Nat) (data : List Word) (s : State) :
    Host.Outcome State Fault Refusal :=
  s.ends (if p < 4 then s.owned init .GWY_RQ p 0 15 (fun t => t.rqWrite init p (rqWords 2 g tag addr count data)) else s)

/-- TMO of a group in T0 units. -/
def State.tmo (s : State) (g : Nat) : Nat := clampNat 1 1000 (s.get F.GWY_GRP_TMO g) * msUnits

/-- An access ends by the timeout of its final attempt: its tag is quarantined (R488). -/
def State.quarantine (s : State) (a : Access) : State :=
  s.setAccess a.grp a.tag (some { a with quar := some (s.now + 2 * s.tmo a.grp) })

/-- An attempt of a posted write fails (R490). -/
def State.writeFail (s : State) (a : Access) (code : Nat) : State :=
  let c := s.reqCpl a.grp
  let s1 := s.bump F.GWY_CCNT_PWFAIL c
  if a.att ≤ s1.get F.GWY_CPL_RETRY c then
    let a' : Access := { a with att := a.att + 1, from_ := none }
    (s1.setAccess a.grp a.tag (some a')).attempt a'
  else
    let s2 := (if code = 4 then s1.quarantine a else s1.setAccess a.grp a.tag none).bump F.GWY_CCNT_PWDROP c
    match s2.grpOwner a.grp with
    | some p => s2.accessEntry p 3 a.grp a.tag a.addr code a.att false a.data
    | none => s2

/-- A reply to a read: its result, and a prefetch line where more words were fetched. -/
def State.readReply (s : State) (a : Access) (code : Nat) (data : List Byte) : State :=
  let ws := (dataWords data).take a.want
  let s1 := s.setAccess a.grp a.tag none
  let s2 := if code = 0 ∧ a.count < a.want then
      s1.addLine ⟨a.grp, a.tag, a.addr, List.replicate a.count none ++ (ws.drop a.count).map some, s1.now⟩ else s1
  match s2.grpOwner a.grp with
  | some p => s2.accessEntry p 2 a.grp a.tag a.addr code a.att false (if code = 0 then (ws.take a.count).flatMap bytesOf else [])
  | none => s2

/-- R488: the oldest reply of a response coupling ends its access, fails an attempt, or is counted as stray. -/
def execRemoteReply (s : State) : Host.Outcome State Fault Refusal :=
  s.ends (match s.gwy.replies with
    | [] => s
    | (i, data, failed) :: rest =>
      let s1 := { s with gwy := { s.gwy with replies := rest } }
      let op := (data.getD 0 0).toNat
      let status := (data.getD 3 0).toNat
      let stray := s1.bump F.GWY_CCNT_STRAY i
      match s1.access (s1.get F.GWY_CPL_GRP i) ((data.getD 1 0).toNat) with
      | none => stray
      | some a =>
        let t := s1.bump F.GWY_CCNT_ROUTED i
        if failed then (if a.write then s1.writeFail a 5 else s1.readReply a 5 [])
        else if op ≠ (if a.write then 4 else 3) ∨ 3 < status then stray
        else if !a.write then t.readReply a status (data.drop 8)
        else if status = 0 then t.setAccess a.grp a.tag none
        else t.writeFail a status)

/-- R488: an attempt times out. A reply that has arrived applies before the timeout. -/
def execAttemptTimeout (g tag : Nat) (s : State) : Host.Outcome State Fault Refusal :=
  let arrived := s.gwy.replies.any (fun r => s.get F.GWY_CPL_GRP r.1 == g && (r.2.1.getD 1 0).toNat == tag)
  s.ends (match s.access g tag with
    | some a =>
      (match a.from_ with
      | some u =>
        if u + s.tmo g ≤ s.now ∧ arrived = false then
          (if a.write then s.writeFail a 4
          else
            let s1 := s.quarantine a
            match s1.grpOwner g with
            | some p => s1.accessEntry p 2 g tag a.addr 4 a.att false []
            | none => s1)
        else s
      | none => s)
    | none => s)

/-- R488. -/
def execQuarantineEnd (g tag : Nat) (s : State) : Host.Outcome State Fault Refusal :=
  s.ends { s with gwy := { s.gwy with accs := s.gwy.accs.filter (fun (a : Access) => !(a.grp == g && a.tag == tag && (match a.quar with
    | some t => decide (t ≤ s.now)
    | none => false))) } }

/-- R494: the lines of a group that are older than PFAGE are discarded. -/
def execPrefetchLineAge (g : Nat) (s : State) : Host.Outcome State Fault Refusal :=
  s.ends (s.dropLines (fun l => l.grp == g && decide (l.at_ + max 1 (s.get F.GWY_GRP_PFAGE g) * msUnits ≤ s.now)))

/-! ### Signals (R496) and register writes -/

/-- A write of GWY_SIG: a partition signal belongs to the owner of its KIND 3 couplings (DEDUCED, log entry 16). -/
def State.sigWrite (s : State) (init : Init) (v : Word) : State :=
  let sig := bitsOf v 4 0
  let lvl := bitsOf v 31 31 == 1
  let a := Reg.addr .GWY_SIG 0 0 0
  let owns (t : State) (p : Nat) : Bool := t.enabledCpls.any (fun i => t.get F.GWY_CPL_KIND i == 3 && t.get F.GWY_CPL_SPORT i == 0x40 &&
    t.get F.GWY_CPL_SID i == 0x100 + sig && t.cplOwner i == some p)
  let other (t : State) : State := if t.mayWrite init .GWY_SIG 0 then t else t.ownDrop init .GWY_SIG 0 a
  s.reaching init 10 a (fun t => match init with
    | .part p =>
      if owns t p then
        (if Sparse.at t.gwy.sigs (32 * p + sig) false = lvl then t
        else ({ t with gwy := { t.gwy with sigs := Sparse.set t.gwy.sigs (32 * p + sig) lvl } }).toGateway
          ⟨0x40, 0x100 + sig, false, false, false, [if lvl then 1 else 0], none, p, 1, 0⟩)
      else other t
    | _ => other t)

/-- R496. -/
def execPartitionSignalWrite (init : Init) (sig : Nat) (level : Bool) (s : State) : Host.Outcome State Fault Refusal :=
  s.ends (s.sigWrite init (BitVec.ofNat 32 ((if level then 2 ^ 31 else 0) + sig % 32)))

/-- The effect of a write of a one-word register of the gateway: a ring base or size that stops the ring is counted (R482). -/
def State.gwyWrite (s : State) (r : Reg) (i j w : Nat) (v : Word) : State :=
  let s1 := s.plainWrite r i j w v
  match r with
  | .GWY_RBASE =>
    let a := s1.get F.GWY_RBASE_BASE i * 128
    let (lo, hi) := s1.partRange i
    if lo ≤ a ∧ a < hi then s1 else s1.accErr 10
  | .GWY_RSIZE => if [16, 32, 64, 128, 256, 512, 1024].contains (s1.get F.GWY_RSIZE_SIZE i) then s1 else s1.accErr 10
  | _ => s1

/-- The whole value of a register of the gateway wider than 32 bits is written. -/
def State.gwyWide (s : State) (init : Init) (r : Reg) (i : Nat) (ws : List Word) : State :=
  match r with
  | .GWY_CPL => s.cplWrite i ws
  | .GWY_RQ => s.rqWrite init i ws
  | r => (List.range r.geom.words).foldl (fun t w => t.setWord r i 0 w (t.written r i 0 w (ws.getD w 0))) s

/-- A restart of partition p: its groups' reads in flight are abandoned and their lines discarded (R500, R494). -/
def State.gwyRestart (s : State) (p : Nat) : State :=
  let mine (g : Nat) : Bool := decide (g < 63) && s.grpOwner g == some p
  let gs := (List.range 63).filter mine
  let s1 := { s with gwy := { s.gwy with accs := s.gwy.accs.filter (fun (a : Access) => a.write || a.quar.isSome || !gs.contains a.grp) } }
  gs.foldl (fun t g => t.showOut g) (s1.dropLines (fun l => gs.contains l.grp))

end Sys2Proof.Machine
end

