-- ==== Sys2Proof/Machine/Access.lean ====
section
/-! DEFINITION. Access and immobiliser (R503 to R525): requests, exchanges and their judgement, button telegrams, polling while
parked, enrolment, lock-out, and the meanings of their commands. -/

set_option Elab.async false

namespace Sys2Proof.Machine

/-! ### Tokens, owners and results -/

/-- Whether slot k is enrolled, and its identity. -/
def State.enrolled (s : State) (k : Nat) : Bool := s.on F.ACC_TOK_ENR k

/-- The slot of an enrolled identity. -/
def State.tokenOf (s : State) (id : Nat) : Option Nat :=
  (List.range 8).find? (fun k => s.enrolled k && s.get F.ACC_TOK_ID k == id)

/-- The key under which slot k's reply is judged: of an enrolled token from the key store, of a new one as the cryptographic engine derives it
(R506, R519). -/
def State.slotKey (s : State) (k id : Nat) (new : Bool) : Option Nat :=
  if new then some (tokenKey s.acc.vehicle.key id) else Sparse.get s.acc.keys k

/-- The highest enrolled slot number plus 1 (R508). -/
def State.slotCount (s : State) : Nat := (List.range 8).foldl (fun m k => if s.enrolled k then k + 1 else m) 0

/-- Places an event in the queue of the owner of function f. -/
def State.accEvent (s : State) (f code item : Nat) (arg : Nat := 0) : State := s.eventTo (.item 0x11 f) 12 code item arg

/-- The owners of the four functions. -/
def State.accOwners (s : State) : List Nat :=
  (List.range 4).filter (fun n => (List.range 4).any (fun f => s.ownerOf (.item 0x11 f) == some n))

/-- Ends a request of function f with a result. -/
def State.accResult (s : State) (f res : Nat) (grant : Bool) (tries slots zones : Nat) : State :=
  (((((s.put F.ACC_FNSTAT_BUSY 0 f).put F.ACC_FNSTAT_GRANT (if grant then 1 else 0) f).put F.ACC_FNSTAT_RES res f).put
    F.ACC_FNSTAT_TRIES tries f).put F.ACC_FNSTAT_SLOTS slots f).put F.ACC_FNSTAT_ZFOUND zones f

/-- Ends an enrolment request: "enrolment done", carrying RES. -/
def State.enrolResult (s : State) (res tries : Nat) : State := (s.accResult 3 res false tries 0 0).accEvent 3 3 0xFFFF res

/-! ### Lock-out (R522, R523) -/

/-- Whether a lock-out is active. -/
def State.lockedOut (s : State) : Bool := s.on F.ACC_LOCKOUT_ACTIVE

/-- A failure: five within 30 s start a lock-out. -/
def State.accFailure (s : State) : State :=
  let fs := (s.now :: s.acc.fails).take 5
  let s1 := { s with acc := { s.acc with fails := fs } }
  if s1.lockedOut then s1
  else if fs.length = 5 ∧ fs.all (fun t => decide (s.now ≤ t + 30 * secUnits)) = true then
    let min_ := clampNat 1 60 (s1.get F.ACC_LOCKOUT_LOTIME)
    let s2 := (s1.put F.ACC_LOCKOUT_ACTIVE 1).put F.ACC_LOCKOUT_REMAIN (60 * min_)
    (({ s2 with acc := { s2.acc with lockTo := some (s.now + 60 * min_ * secUnits), flag := true } }).cum 31).eventAll s2.accOwners 12 4 0xFFFF
  else s1

/-- REMAIN and FAILS as they read now. -/
def State.accLive (s : State) : State :=
  let left := match s.acc.lockTo with
    | some t => (t - s.now + secUnits - 1) / secUnits
    | none => 0
  (s.put F.ACC_LOCKOUT_REMAIN left).put F.ACC_LOCKOUT_FAILS (s.acc.fails.filter (fun t => decide (s.now ≤ t + 30 * secUnits))).length

/-- R522. -/
def execLockOutEnd (s : State) : Host.Outcome State Fault Refusal :=
  s.ends (match s.acc.lockTo with
    | some t =>
      if t ≤ s.now then
        let s1 := (s.put F.ACC_LOCKOUT_ACTIVE 0).put F.ACC_LOCKOUT_REMAIN 0
        ({ s1 with acc := { s1.acc with lockTo := none, flag := false, fails := [] } }).eventAll s1.accOwners 12 5 0xFFFF
      else s
    | none => s)

/-! ### Requests (R503, R508, R514, R516, R520) -/

/-- The length of an exchange's challenge. -/
def challengeUnits (fn : Nat) : Nat := if fn = 3 then 22 * msUnits else 17 * msUnits

/-- T_F of an exchange, its preamble starting at the request. -/
def State.fieldEnd (s : State) (e : Exch) : Nat :=
  e.at_ + challengeUnits e.fn + countBits 8 (s.get F.ACC_AER_VECMASK) * (msUnits / 2)

/-- Starts an exchange. Its challenge C is random: a free value (R505). -/
def State.exchStart (s : State) (f op zreq newId : Nat) (slot : Option Nat) : State :=
  let m := match slot with
    | some k => max s.slotCount (k + 1)
    | none => s.slotCount
  let s1 := (s.put F.ACC_FNSTAT_BUSY 1 f).tookFresh
  { s1 with acc := { s1.acc with exch := some ⟨f, op, zreq, newId, slot, m, s.now, 1, 0, false, 0, none, s.fresh % 2 ^ 64⟩ } }

/-- An authentication request. -/
def State.authenticate (s : State) (f zreq : Nat) : State :=
  if s.lockedOut then (s.accResult f 6 false 0 0 0).accEvent f 1 f else s.exchStart f 1 zreq 0 none

/-- An enrolment request (R519, R520). -/
def State.enrol (s : State) (op id : Nat) : State :=
  let free := (List.range 8).find? (fun k => !s.enrolled k)
  let grant := match s.acc.grantTo with
    | some t => decide (s.now ≤ t)
    | none => false
  if s.lockedOut then s.enrolResult 6 0
  else if (s.tokenOf id).isSome then s.enrolResult 11 0
  else match free with
    | none => s.enrolResult 9 0
    | some k => if op = 2 ∧ grant = false then s.enrolResult 8 0 else s.exchStart 3 op 0 id (some k)

/-- A revocation: the slot is cleared in the key store at once, and an empty record is to be written. -/
def State.revoke (s : State) (k : Nat) : State :=
  let s1 := ((s.put F.ACC_TOK_ID 0xFFFFFFFF k).put F.ACC_TOK_ENR 0 k).put F.ACC_FNSTAT_BUSY 1 3
  { s1 with acc := { s1.acc with writing := some (k, none), keys := Sparse.erase s1.acc.keys k } }

/-- The polling clock starts from zero (R516); slots that raised a wake may raise one again (R517). -/
def State.clockStart (s : State) : State :=
  let s1 := ((s.put F.ACC_POLL_CLOCK 1).put F.ACC_POLL_STEP 0).put F.ACC_POLL_STOPPED (if s.on F.ACC_POLLSTEP_PER 0 then 0 else 1)
  ({ s1 with acc := { s1.acc with clock := some s.now, quiet := [], nextPoll := s.now } }).accResult 0 1 false 0 0 0

/-- The polling clock stops. -/
def State.clockStop (s : State) : State :=
  ({ s.put F.ACC_POLL_CLOCK 0 with acc := { s.acc with clock := none } }).accResult 0 1 false 0 0 0

/-- A request that meets a running exchange, or a slot record that is being written, ends as busy refused (R514); the request that runs goes on
as BUSY, TRIES, SLOTS and ZFOUND show it. -/
def State.busyRefused (s : State) (f : Nat) : State :=
  let own := s.acc.exch.any (fun e => e.fn == f) || (f == 3 && s.acc.writing.isSome)
  (if own then (s.put F.ACC_FNSTAT_GRANT 0 f).put F.ACC_FNSTAT_RES 7 f else s.accResult f 7 false 0 0 0).accEvent f 1 f

/-- The value of ACC_FNfREQ is applied: an OP the function does not take is dropped and counted; one while an exchange runs or a slot
record is written ends as busy refused. -/
def State.fnWrite (s : State) (f : Nat) (ws : List Word) : State :=
  let w := ws.getD 1 0
  let op := bitsOf w 31 28
  let ok_ := (f == 0 && decide (1 ≤ op) && decide (op ≤ 3)) || (f == 1 && op == 1) || (f == 3 && decide (1 ≤ op) && decide (op ≤ 3))
  if ok_ = false then s.accErr 12
  else if s.acc.exch.isSome ∨ (f = 3 ∧ s.acc.writing.isSome) then s.busyRefused f
  else if f = 3 then (if op = 3 then s.revoke (bitsOf w 18 16) else s.enrol op (ws.getD 0 0).toNat)
  else match op with
    | 1 => s.authenticate f (bitsOf w 15 0)
    | 2 => s.clockStart
    | _ => s.clockStop

/-- A request by an initiator, with ARG and the fields of word 1. -/
def State.fnRequest (s : State) (init : Init) (f arg op slot zreq : Nat) : State :=
  if f < 4 then
    s.owned init .ACC_FNREQ f 0 1 (fun t =>
      t.fnWrite f [BitVec.ofNat 32 arg, BitVec.ofNat 32 (op % 16 * 2 ^ 28 + slot % 8 * 2 ^ 16 + zreq % 2 ^ 16)])
  else s

/-- R508: f is 0 (entry) or 1 (start). -/
def execAccessAuthenticate (init : Init) (f zreq : Nat) (s : State) : Host.Outcome State Fault Refusal :=
  s.ends (if f < 2 then s.fnRequest init f 0 1 0 zreq else s)
/-- R516. -/
def execPollingClockLock (init : Init) (s : State) : Host.Outcome State Fault Refusal := s.ends (s.fnRequest init 0 0 2 0 0)
/-- R516. -/
def execPollingClockUnlock (init : Init) (s : State) : Host.Outcome State Fault Refusal := s.ends (s.fnRequest init 0 0 3 0 0)
/-- R519. -/
def execEnrolPresentToken (init : Init) (id : Nat) (s : State) : Host.Outcome State Fault Refusal := s.ends (s.fnRequest init 3 id 1 0 0)
/-- R519. -/
def execEnrolSecretCode (init : Init) (id : Nat) (s : State) : Host.Outcome State Fault Refusal := s.ends (s.fnRequest init 3 id 2 0 0)
/-- R520. -/
def execRevoke (init : Init) (slot : Nat) (s : State) : Host.Outcome State Fault Refusal := s.ends (s.fnRequest init 3 0 3 slot 0)

/-! ### Slots (R509 to R511) -/

/-- Byte a of a field vector. -/
def vecAt (vec : List Nat) (a : Nat) : Nat := vec.getD a 0 % 256

/-- The zones of a field vector (R510), as a mask. -/
def State.zonesOf (s : State) (vec : List Nat) : Nat :=
  (List.range 16).foldl (fun m z =>
    let inside := (List.range 8).all (fun a =>
      let lo := bitsOf (s.word .ACC_ZONE z 0 (a / 4)) (8 * (a % 4) + 7) (8 * (a % 4))
      let hi := bitsOf (s.word .ACC_ZONE z 0 (2 + a / 4)) (8 * (a % 4) + 7) (8 * (a % 4))
      decide (lo ≤ vecAt vec a) && decide (vecAt vec a ≤ hi))
    if bit (s.get F.ACC_ZONECFG_EN) z && inside then m + 2 ^ z else m) 0

/-- The plausibility checks (R511); `lat` is the deviation of the sync word in units of 0.1 µs. -/
def State.plausible (s : State) (vec : List Nat) (lat : Int) : Bool :=
  let vs := ((bitList 8 (s.get F.ACC_AER_VECMASK)).map (vecAt vec)).filter (fun v => decide (0 < v))
  let hi := vs.foldl max 0
  let lo := vs.foldl min 255
  let win : Int := Int.ofNat (10 * max 2 (s.get F.ACC_CTL_LATWIN))
  decide (-win ≤ lat) && decide (lat ≤ win) && decide (clampNat 1 8 (s.get F.ACC_CTL_MINAER) ≤ vs.length) &&
    decide (s.get F.ACC_CTL_SPREADMIN ≤ hi - lo)

/-- Shows the judgement of slot k. -/
def State.showSlot (s : State) (k res zones : Nat) (vec : List Nat) (lat : Int) : State :=
  let w (n : Nat) : Nat := vecAt vec n + vecAt vec (n + 1) * 256 + vecAt vec (n + 2) * 65536 + vecAt vec (n + 3) * 16777216
  ((((s.put F.ACC_TOK_RESULT res k).put F.ACC_TOK_ZONES zones k).put F.ACC_TOK_VEC (w 0) k).put F.ACC_TOK_VEC_1 (w 4) k).put
    F.ACC_TOK_LAT (codeOf 16 lat) k

/-- Judges slot k of exchange e by the first row of R509 that fits. -/
def State.judgeSlot (s : State) (e : Exch) (k : Nat) (sync crcOk : Bool) (id resp : Nat) (vec : List Nat) (lat : Int) :
    State × Exch :=
  let e' := { e with judged := e.judged + 1 }
  let mine := if e.slot = some k then e.newId == id else s.enrolled k && s.get F.ACC_TOK_ID k == id
  if !sync then (s.showSlot k 5 0 [] 0, e')
  else if !crcOk then ((s.showSlot k 4 0 [] 0).bump F.ACC_CNT_GARBLE, { e' with garbled := true })
  else if !mine then (((s.showSlot k 3 0 vec lat).put F.ACC_TOK_FID id k).bump F.ACC_CNT_FOREIGN, e')
  else if (s.slotKey k id (e.slot = some k)).map (fun key => tokenResp key e.chal vec) ≠ some (resp % 2 ^ 64) then ((s.showSlot k 2 0 vec lat).bump F.ACC_CNT_FAILED, { e' with failed := e.failed + 1 })
  else if !s.plausible vec lat then ((s.showSlot k 6 (s.zonesOf vec) vec lat).bump F.ACC_CNT_RELAY, e')
  else (s.showSlot k 1 (s.zonesOf vec) vec lat, e')

/-- R509: the next slot of the exchange ends: whether a sync word was found, whether its CRC is correct, its identity, RESP, VEC by aerial, and
the deviation of the sync word in units of 0.1 µs. A slot whose key reads as uncorrectable counts as no reply; the key is loaded from flash
anew (R630). -/
def execReplySlotEnd (sync crcOk : Bool) (id resp : Nat) (vec : List Nat) (lat : Int) (unc : Bool) (s : State) :
    Host.Outcome State Fault Refusal :=
  s.ends (match s.acc.exch with
    | some e =>
      let k := e.judged
      if e.again.isNone ∧ k < e.m ∧ s.fieldEnd e + msUnits + 6 * msUnits * k ≤ s.now then
        let (s1, e1) := if unc then ((s.ramLost 12 15 (Reg.ACC_TOK.addr k 0 0)).showSlot k 5 0 [] 0, { e with judged := k + 1 })
          else s.judgeSlot e k sync crcOk (id % 2 ^ 32) resp vec lat
        { s1 with acc := { s1.acc with exch := some e1 } }
      else s
    | none => s)

/-! ### Results (R512, R513, R519, R520) -/

/-- The slots of an exchange that are tokens with a result of a list. -/
def State.slotsWith (s : State) (e : Exch) (rs : List Nat) : List Nat :=
  (List.range e.m).filter (fun k => rs.contains (s.get F.ACC_TOK_RESULT k))

/-- Whether slot k lies in a zone of a mask. -/
def State.inZones (s : State) (k mask : Nat) : Bool := decide (s.get F.ACC_TOK_ZONES k &&& mask ≠ 0)

/-- The case of R512 that decides an authentication: its RES. -/
def State.authRes (s : State) (e : Exch) : Nat :=
  let good := s.slotsWith e (if s.on F.ACC_CTL_RELAYACT then [1] else [1, 6])
  if s.lockedOut then 6
  else if good.any (fun k => s.inZones k e.zreq) then 1
  else if (s.slotsWith e [6]).any (fun k => s.inZones k e.zreq) then 5
  else if e.failed ≠ 0 then 4
  else if !(s.slotsWith e [1]).isEmpty then 2
  else 3

/-- The exchange is to be repeated 20 ms after its end. -/
def State.exchAgain (s : State) (e : Exch) : State :=
  { s with acc := { s.acc with exch := some { e with again := some (s.now + 20 * msUnits) } } }

/-- Whether R513 allows a repetition: a slot was garbled and repetitions are left. -/
def State.mayRepeat (s : State) (e : Exch) : Bool := e.garbled && decide (e.tries ≤ min 2 (s.get F.ACC_CTL_RETRY))

/-- The end of an authentication exchange. -/
def State.authEnd (s : State) (e : Exch) : State :=
  let res := s.authRes e
  if (res = 4 ∨ res = 2 ∨ res = 3) ∧ s.mayRepeat e = true then s.exchAgain e
  else
    let valid := s.slotsWith e [1]
    let slots := valid.foldl (fun m k => m + 2 ^ k) 0
    let zones := valid.foldl (fun m k => m ||| s.get F.ACC_TOK_ZONES k) 0
    let s1 := s.accResult e.fn res (res == 1) e.tries slots zones
    ({ s1 with acc := { s1.acc with exch := none } }).accEvent e.fn 1 e.fn

/-- The end of an enrolment exchange: it is written where both conditions of R519 hold. -/
def State.enrolEnd (s : State) (e : Exch) (k : Nat) : State :=
  let inside := s.get F.ACC_ZONECFG_INSIDE
  let proven := s.get F.ACC_TOK_RESULT k == 1 && s.inZones k inside
  let present := e.op == 2 || ((s.slotsWith e [1]).any (fun n => n != k && s.inZones n inside))
  let done (t : State) : State := { t with acc := { t.acc with exch := none } }
  if s.lockedOut then (done s).enrolResult 6 e.tries
  else if proven && present then
    let s1 := (done s).put F.ACC_FNSTAT_TRIES e.tries 3
    { s1 with acc := { s1.acc with writing := some (k, some e.newId), grantTo := if e.op = 2 then none else s1.acc.grantTo } }
  else if s.mayRepeat e then s.exchAgain e
  else if present then (done s).enrolResult 10 e.tries
  else (done s).enrolResult 8 e.tries

/-- R512: the exchange ends; its failures are counted first. -/
def execExchangeResult (s : State) : Host.Outcome State Fault Refusal :=
  s.ends (match s.acc.exch with
    | some e =>
      if e.again.isNone ∧ e.judged = e.m ∧ s.fieldEnd e + msUnits + 6 * msUnits * e.m + 200 * usUnits ≤ s.now then
        let s1 := (List.range e.failed).foldl (fun t _ => t.accFailure) s
        match e.slot with
        | some k => s1.enrolEnd e k
        | none => s1.authEnd e
      else s
    | none => s)

/-- R513: the repeated exchange has a challenge of its own. -/
def execExchangeRepeat (s : State) : Host.Outcome State Fault Refusal :=
  s.ends (match s.acc.exch with
    | some e =>
      (match e.again with
      | some t =>
        if t ≤ s.now then
          { s.tookFresh with acc := { s.acc with exch := some { e with
            at_ := s.now, tries := e.tries + 1, judged := 0, garbled := false, failed := 0, again := none, chal := s.fresh % 2 ^ 64 } } }
        else s
      | none => s)
    | none => s)

/-! ### Slot records (R521) -/

/-- Where the slot record with a sequence number lies: the pages of a pair take turns (DESIGN CHOICE, log entry 166). -/
def slotPage (k seq : Nat) : Nat := 0x27A00000 + 0x2000 * k + 0x1000 * (seq % 2)

/-- Writes slot k's next record into the enrolment and keys region, beside the one that applies: the identity and the button counter, or an
empty record. -/
def State.recordWrite (s : State) (k : Nat) (rec_ : Option (Nat × Nat)) : State :=
  let n := Sparse.at s.acc.seqs k 0 + 1
  let v := rec_.getD (0xFFFFFFFF, 0)
  let body : List Byte := (leB 4 n ++ leB 4 v.1 ++ leB 4 v.2 ++ leB 4 (if rec_.isSome then 1 else 0) ++ List.replicate 252 0#8).take 252
  let s1 := (s.eraseSector (slotPage k n)).wrBytes (slotPage k n) (body ++ leB 4 (crcCode 3 (body.map (fun b => b.toNat))))
  { s1 with acc := { s1.acc with
    seqs := Sparse.set s1.acc.seqs k n
    flash := match rec_ with
      | some r => Sparse.set s1.acc.flash k r
      | none => Sparse.erase s1.acc.flash k } }

/-- The key of slot k's token enters the key store (R506). -/
def State.keyLoad (s : State) (k id : Nat) : State :=
  { s with acc := { s.acc with keys := Sparse.set s.acc.keys k (tokenKey s.acc.vehicle.key id) } }

/-- R520: the Siari engine has written the slot record, or has failed. -/
def execSlotRecordWritten (good : Bool) (s : State) : Host.Outcome State Fault Refusal :=
  s.ends (match s.acc.writing with
    | some (k, id) =>
      let s1 := { s with acc := { s.acc with writing := none } }
      let tries := s.get F.ACC_FNSTAT_TRIES 3
      if good = false then s1.enrolResult 12 tries
      else match id with
        | some n =>
          let s2 := ((s1.put F.ACC_TOK_ID n k).put F.ACC_TOK_ENR 1 k).put F.ACC_TOK_BCNT 0 k
          ((s2.recordWrite k (some (n, 0))).keyLoad k n).enrolResult 1 tries
        | none => (s1.recordWrite k none).enrolResult 1 tries
    | none => s)

/-- R519: a secret-code grant lapses. -/
def execSecretGrantExpiry (s : State) : Host.Outcome State Fault Refusal :=
  s.ends (match s.acc.grantTo with
    | some t => if t ≤ s.now then { s with acc := { s.acc with grantTo := none } } else s
    | none => s)

/-! ### Button telegrams (R515) -/

/-- An access wake: recorded in ACC_WAKE and handled as a wake of source 3 (R517, R540). -/
def State.accWake (s : State) (src slot cmd : Nat) : State :=
  let s1 := (((s.raise F.ACC_WAKE_VALID).put F.ACC_WAKE_SRC src).put F.ACC_WAKE_SLOT slot).put F.ACC_WAKE_CMD cmd
  s1.raiseWake ⟨3, s1.ownerOf (.item 0x11 (if src = 1 then 0 else 2)), 12, 6, slot, src, 0, false⟩

/-- A telegram of slot k is accepted: BCNT follows it, in flash too; the remote owner receives it, or the parked device wakes. -/
def State.telegram (s : State) (k cmd cnt : Nat) : State :=
  let s1 := (((s.put F.ACC_TOK_BCNT cnt k).put F.ACC_FNSTAT_SLOTS cmd 2).put F.ACC_FNSTAT_ZFOUND k 2)
  let s2 := ({ s1 with acc := { s1.acc with held := Sparse.erase s1.acc.held k } }).recordWrite k (some (s1.get F.ACC_TOK_ID k, cnt))
  if s2.parked then s2.accWake 2 k cmd else s2.accEvent 2 2 k cmd

/-- Holds a telegram whose CNT is far ahead for 10 s (rule 5 of R515); a later copy of it is ignored (R507), and one that it displaces is dropped
and counted by rule 6 (DEDUCED, log entry 177). -/
def State.telegramHeld (s : State) (k cnt : Nat) : State :=
  let hold (t : State) : State := { t with acc := { t.acc with held := Sparse.set t.acc.held k (cnt, t.now + 10 * secUnits) } }
  match Sparse.get s.acc.held k with
  | some (c, t) => if c = cnt ∧ s.now ≤ t then s else hold (s.bump F.ACC_CNT_FOREIGN)
  | none => hold s

/-- Judges a telegram whose CRC is correct. -/
def State.judgeTelegram (s : State) (id cmd cnt mac : Nat) : State :=
  if s.lockedOut then s
  else match s.tokenOf id with
    | none => s.bump F.ACC_CNT_FOREIGN
    | some k =>
      let d := (cnt + 2 ^ 32 - s.get F.ACC_TOK_BCNT k) % 2 ^ 32
      let next := match Sparse.get s.acc.held k with
        | some (c, t) => decide (cnt = (c + 1) % 2 ^ 32) && decide (s.now ≤ t)
        | none => false
      if (Sparse.get s.acc.keys k).map (fun key => tokenMac key id cnt cmd) ≠ some (mac % 2 ^ 64) then (s.bump F.ACC_CNT_FAILED).accFailure
      else if 1 ≤ d ∧ d ≤ 1024 then s.telegram k cmd cnt
      else if d = 0 then s
      else if next then s.telegram k cmd cnt
      else s.telegramHeld k cnt

/-- R515: a telegram with a correct CRC reaches the receiver, which listens in RUN and REST outside exchanges (R505). -/
def execButtonTelegram (id cmd cnt mac : Nat) (s : State) : Host.Outcome State Fault Refusal :=
  s.ends (if s.domOn domACC ∧ s.on F.ACC_CTL_EN ∧ (s.pwr = 0 ∨ s.pwr = 1) ∧ s.acc.exch.all (fun e => e.again.isSome) then
    s.judgeTelegram (id % 2 ^ 32) (cmd % 256) (cnt % 2 ^ 32) mac
  else s)

/-- R515: no telegram with CNT + 1 came within the 10 s; the held one is dropped and counted by rule 6 (DEDUCED, log entry 177). -/
def execButtonHoldExpiry (k : Nat) (s : State) : Host.Outcome State Fault Refusal :=
  s.ends (match Sparse.get s.acc.held k with
    | some (_, t) =>
      if t ≤ s.now then ({ s with acc := { s.acc with held := Sparse.erase s.acc.held k } }).bump F.ACC_CNT_FOREIGN else s
    | none => s)

/-! ### Polling while parked (R516, R517) -/

/-- The poll period in force; none where the clock stands, the table has ended, or PER of the present step stops it. -/
def State.pollPeriod (s : State) : Option Nat :=
  let k := s.get F.ACC_POLL_STEP
  let per := s.get F.ACC_POLLSTEP_PER k
  let ended : Bool := match s.acc.clock with
    | some t => k == 7 && decide (t + s.get F.ACC_POLLSTEP_END 7 * 60 * secUnits ≤ s.now)
    | none => true
  if ended ∨ per = 0 then none
  else if s.pwr = 4 then some (max (per * 10) (s.get F.ACC_POLL_DPPER * 100) * msUnits) else some (per * 10 * msUnits)

/-- The poll slot k of a burst: a reply wakes unless its slot is quiet or a lock-out is active; three bursts without a reply end a slot's
quiet. -/
def State.pollSlot (s : State) (k : Nat) (reply : Bool) : State :=
  let q (v : Sparse Nat) (t : State) : State := { t with acc := { t.acc with quiet := v } }
  match Sparse.get s.acc.quiet k with
  | some n =>
    if reply then q (Sparse.set s.acc.quiet k 0) s
    else if 3 ≤ n + 1 then q (Sparse.erase s.acc.quiet k) s
    else q (Sparse.set s.acc.quiet k (n + 1)) s
  | none => if reply && !s.lockedOut then (q (Sparse.set s.acc.quiet k 0) s).accWake 1 k 0 else s

/-- R517: a poll burst; `replies` names the slots in which a reply with a correct CRC and the enrolled identity came. The burst powers PD-ACC
through its poll of 3.0 ms and its slots (R41). Without its image the AON core makes none (R138). -/
def execAccessPollBurst (replies : List Nat) (s : State) : Host.Outcome State Fault Refusal :=
  s.ends (match s.pollPeriod with
    | some per =>
      if s.parked ∧ s.acc.nextPoll ≤ s.now ∧ s.boot.missing.contains 2 = false then
        (List.range s.slotCount).foldl (fun t k => t.pollSlot k (replies.contains k && t.enrolled k))
          { s with acc := { s.acc with
            nextPoll := s.now + per, burstTill := s.now + 3500 * usUnits + s.slotCount * 2500 * usUnits } }
      else s
    | none => s)

/-- R517: a sniff; where it finds a preamble the telegram behind it is judged, if its CRC is correct. -/
def execSniff (heard : Bool) (id cmd cnt mac : Nat) (s : State) : Host.Outcome State Fault Refusal :=
  s.ends (if s.parked ∧ s.on F.ACC_POLL_SNIFF ∧ s.acc.nextSniff ≤ s.now ∧ s.boot.missing.contains 2 = false then
    let s1 := { s with acc := { s.acc with nextSniff := s.now + s.get F.ACC_POLL_SNIFF * 10 * msUnits } }
    if heard then s1.judgeTelegram (id % 2 ^ 32) (cmd % 256) (cnt % 2 ^ 32) mac else s1
  else s)

/-- R516: the polling clock reaches the END of its step. -/
def execPollStepChange (s : State) : Host.Outcome State Fault Refusal :=
  let k := s.get F.ACC_POLL_STEP
  s.ends (match s.acc.clock with
    | some t =>
      if t + s.get F.ACC_POLLSTEP_END k * 60 * secUnits ≤ s.now then
        (if k = 7 then s.put F.ACC_POLL_STOPPED 1
        else ((s.put F.ACC_POLL_STEP (k + 1)).put F.ACC_POLL_STOPPED (if s.on F.ACC_POLLSTEP_PER (k + 1) then 0 else 1)))
      else s
    | none => s)

/-! ### Resets -/

/-- The token registers and the key store as flash gives them (R506, R521). -/
def State.tokensLoad (s : State) : State :=
  (List.range 8).foldl (fun t k => match Sparse.get t.acc.flash k with
    | some (id, n) => (((t.put F.ACC_TOK_ID id k).put F.ACC_TOK_ENR 1 k).put F.ACC_TOK_BCNT n k).keyLoad k id
    | none => ((t.put F.ACC_TOK_ID 0xFFFFFFFF k).put F.ACC_TOK_ENR 0 k).put F.ACC_TOK_BCNT 0 k) s

/-- A slot record that is being written at a reset: flash holds the old record or the new one (R521), which a free value decides (DESIGN CHOICE,
log entry 177). -/
def State.writingLost (s : State) : State :=
  match s.acc.writing with
  | some (k, id) =>
    let s1 := if s.fresh % 2 = 0 then s.recordWrite k (id.map (fun n => (n, 0))) else s
    { s1.tookFresh with acc := { s1.acc with writing := none } }
  | none => s

/-- What a reset leaves of the block (R514, R522, R552): an exchange is lost; a P reset clears failure instants and the polling clock and
starts a flagged lock-out in full. -/
def State.accReset (s0 : State) (p : Bool) : State :=
  let s := s0.writingLost
  let s1 := { s with acc := { s.acc with exch := none, held := [], keys := [], burstTill := 0 } }
  let s2 := if p then
      let min_ := clampNat 1 60 (s1.get F.ACC_LOCKOUT_LOTIME)
      let u := { s1 with acc := { s1.acc with
        fails := [], clock := none, quiet := [], grantTo := none
        lockTo := if s1.acc.flag then some (s.now + 60 * min_ * secUnits) else none } }
      if s1.acc.flag then (u.put F.ACC_LOCKOUT_ACTIVE 1).put F.ACC_LOCKOUT_REMAIN (60 * min_)
      else (u.put F.ACC_LOCKOUT_ACTIVE 0).put F.ACC_LOCKOUT_REMAIN 0
    else s1
  s2.tokensLoad

end Sys2Proof.Machine
end

