-- ==== Sys2Proof/Machine/Field.lean ====
section
/-! DEFINITION. The field inputs (R393 to R414): levels, filter, cleaning, analogue and fast inputs, events, parked polling, and the
meanings of their commands. -/

set_option Elab.async false

namespace Sys2Proof.Machine

def State.fin_ (s : State) (i : Nat) : FinIn := Sparse.at s.fin.ins i FinIn.quiet
def State.setFin (s : State) (i : Nat) (v : FinIn) : State :=
  { s with fin := { s.fin with ins := Sparse.set s.fin.ins i v } }

/-- Whether an input is in analogue mode (R394). -/
def State.analogue (s : State) (i : Nat) : Bool := decide (64 ≤ i) && decide (i < 88) && s.on F.FIN_CFG_MODE i

/-- Places an event of input i in the queue of its event partition, or counts it (R406). -/
def State.finEvent (s : State) (i code arg : Nat) : State :=
  let q := s.get F.FIN_CFG_EVQ i
  if !s.on F.FIN_CFG_NOTIFY i then s
  else if q < 4 ∧ s.running q then s.event q 6 code i arg
  else s.bump F.FIN_STAT_EVDROP

/-- Whether the inputs are sampled in PD-PWR: while the device is parked they float, but for the bursts of CI-AON (R409). -/
def State.finRuns (s : State) : Bool := s.domOn domPWR && !s.parked

/-- Whether the cut zone holds RAW of an input, as it does for one wired to ground (R407). -/
def State.rawHeld (s : State) (i : Nat) : Bool := !s.on F.FIN_CFG_POL i && s.get F.PMU_SUPPLY_ZONE == 0

/-- RAW takes a value (R395). -/
def State.setRaw (s : State) (i : Nat) (b : Bool) : State :=
  if s.on F.FIN_STATE_RAW i = b then s
  else ((s.put F.FIN_STATE_RAW (if b then 1 else 0) i).setFin i { s.fin_ i with rawSince := s.now }).termsSeen

/-- RAW as a pin level gives it: to ground active while low, to battery while high, and inverted by INV (R395). -/
def State.rawByPin (s : State) (i : Nat) (high : Bool) : State :=
  if s.rawHeld i then s else s.setRaw i ((high == s.on F.FIN_CFG_POL i) != s.on F.FIN_CFG_INV i)

/-- R395: a pin crosses its threshold; fast inputs have a command of their own. -/
def execInputThresholdCrossing (i : Nat) (high : Bool) (s : State) : Host.Outcome State Fault Refusal :=
  s.ends (if 88 ≤ i ∨ !s.finRuns then s
    else
      let s1 := s.setFin i { s.fin_ i with pin := some high }
      if s1.analogue i then s1 else s1.rawByPin i high)

/-! ### Contact cleaning (R401) -/

/-- Inputs whose cleaning pulse runs. -/
def State.cleaning (s : State) : List Nat := (List.range 96).filter (fun i => s.on F.FIN_STATE_CLNACT i)

/-- Starts a cleaning pulse. -/
def State.cleanStart (s : State) (i : Nat) : State :=
  ((s.put F.FIN_STATE_CLNACT 1 i).put F.FIN_STATE_CLNW 0 i).setFin i { s.fin_ i with
    cleanEnd := some (s.now + max 1 (s.get F.FIN_CFG_CLNLEN i) * msUnits), waitFrom := none }

/-- Starts the waiting pulse of the lowest-numbered input while fewer than 8 run. -/
def State.cleanNext (s : State) : State :=
  if s.cleaning.length < 8 then
    match (List.range 96).find? (fun i => s.on F.FIN_STATE_CLNW i) with
    | some i => s.cleanStart i
    | none => s
  else s

/-- A change to active asks for a pulse. -/
def State.cleanAsk (s : State) (i : Nat) : State :=
  if s.cleaning.length < 8 then s.cleanStart i
  else (s.put F.FIN_STATE_CLNW 1 i).setFin i { s.fin_ i with waitFrom := some s.now }

/-- A change to inactive ends the pulse or removes it from the wait. -/
def State.cleanStop (s : State) (i : Nat) : State :=
  (((s.put F.FIN_STATE_CLNACT 0 i).put F.FIN_STATE_CLNW 0 i).setFin i { s.fin_ i with cleanEnd := none, waitFrom := none }).cleanNext

/-! ### Filter (R399, R400) -/

/-- STATE takes a value; the change goes to the gateway as a local signal (R496). -/
def State.setState (s : State) (i : Nat) (b : Bool) : State :=
  let s0 := ((s.put F.FIN_STATE_STATE (if b then 1 else 0) i).bump F.FIN_STATE_TOGGLES i).termsSeen
  let s1 := s0.toGateway ⟨0x40, i, false, false, false, [if b then 1 else 0], none, 0, 0, 0⟩
  let s2 := if b then (if s1.on F.FIN_CFG_CLEAN i then s1.cleanAsk i else s1) else s1.cleanStop i
  s2.finEvent i 1 (if b then 1 else 0)

/-- The instant at which STATE is to take RAW: FILT after RAW's change, at a grid slot of CI-PWR. -/
def State.filtDue (s : State) (i : Nat) : Nat :=
  slotAt 1600 ((s.fin_ i).rawSince + s.get F.FIN_FILT_FILT i * usUnits)

/-- R399. -/
def execFilterElapsed (i : Nat) (s : State) : Host.Outcome State Fault Refusal :=
  let raw := s.on F.FIN_STATE_RAW i
  s.ends (if i < 96 ∧ s.finRuns ∧ raw ≠ s.on F.FIN_STATE_STATE i ∧ s.filtDue i ≤ s.now then s.setState i raw else s)

/-- A write of FILT; where it has already elapsed STATE changes at the next grid slot (R400), which FILTER_ELAPSED makes. -/
def execFiltWrite (init : Init) (i v : Nat) (s : State) : Host.Outcome State Fault Refusal :=
  s.ends (if i < 96 then s.owned init .FIN_FILT i 0 0 (fun t => t.put F.FIN_FILT_FILT v i) else s)

/-- R401. -/
def execCleaningPulseEnd (i : Nat) (s : State) : Host.Outcome State Fault Refusal :=
  s.ends (match (s.fin_ i).cleanEnd with
    | some t =>
      if t ≤ s.now then ((s.put F.FIN_STATE_CLNACT 0 i).setFin i { s.fin_ i with cleanEnd := none }).cleanNext else s
    | none => s)

/-- R401. -/
def execCleaningWaitDrop (i : Nat) (s : State) : Host.Outcome State Fault Refusal :=
  s.ends (match (s.fin_ i).waitFrom with
    | some t =>
      if t + 20 * msUnits ≤ s.now then
        ((s.put F.FIN_STATE_CLNW 0 i).setFin i { s.fin_ i with waitFrom := none }).bump F.FIN_STAT_CLNDROP
      else s
    | none => s)

/-! ### Analogue inputs (R402, R403) -/

/-- RAW as VALUE, HI and LO give it. -/
def State.rawByValue (s : State) (i : Nat) : State :=
  let v := s.get F.FIN_AVAL_VALUE i
  let inv := s.on F.FIN_CFG_INV i
  if s.rawHeld i then s
  else if s.get F.FIN_ATHR_HI i < s.get F.FIN_ATHR_LO i then s.setRaw i false
  else if s.get F.FIN_ATHR_HI i ≤ v then s.setRaw i (!inv)
  else if v < s.get F.FIN_ATHR_LO i then s.setRaw i inv
  else s

/-- R402: the converter samples input i at a number of microvolts. -/
def execAnalogueConversion (i uv : Nat) (s : State) : Host.Outcome State Fault Refusal :=
  s.ends (if s.analogue i ∧ s.finRuns ∧ (s.fin_ i).convAt ≤ s.now then
    let v := min 0xFFF (uv / (if s.on F.FIN_ACFG_RANGE i then 10000 else 1250))
    (((s.put F.FIN_AVAL_VALUE v i).wrap F.FIN_AVAL_SEQ i).setFin i { s.fin_ i with
      convAt := s.now + max 1 (s.get F.FIN_ACFG_SPER i) * 100 * usUnits }).rawByValue i
  else s)

/-- A write of FIN_ATHR: a LO above HI names a threshold fault once per write (R403, R406). -/
def State.athrWrite (s : State) (i : Nat) (v : Word) : State :=
  let s1 := (s.put F.FIN_ATHR_HI (bitsOf v 27 16) i).put F.FIN_ATHR_LO (bitsOf v 11 0) i
  if bitsOf v 27 16 < bitsOf v 11 0 then (if s1.analogue i then s1.rawByValue i else s1).finEvent i 3 0 else s1

/-- R406. -/
def execAthrWrite (init : Init) (i hi lo : Nat) (s : State) : Host.Outcome State Fault Refusal :=
  s.ends (if 64 ≤ i ∧ i < 88 then
    s.owned init .FIN_ATHR i 0 0 (fun t => t.athrWrite i (BitVec.ofNat 32 (hi % 4096 * 65536 + lo % 4096)))
  else s)

/-! ### Fast inputs (R404, R405) -/

/-- Stamps an edge of RAW of a fast input at 250 ps resolution. -/
def State.fastStamp (s : State) (i : Nat) (rise : Bool) : State :=
  let n := i - 88
  let seq := (bitsOf ((s.latest .FIN_FSTAMP n 0).getD 3 0) 31 16 + 1) % 65536
  let ovr := if s.locked .FIN_FSTAMP n 0 then s.slotFull .FIN_FSTAMP n 0 else (s.fin_ i).unread
  let s1 := if ovr then s.bump F.FIN_FSTAMP_OVR n else s
  let w3 := seq * 65536 + s1.get F.FIN_FSTAMP_OVR n * 256 + (if rise then 2 else 0)
  let s2 := s1.deliver .FIN_FSTAMP n 0 (t0Words (s.now / 4 * 4) ++ [BitVec.ofNat 32 w3])
  (if s.locked .FIN_FSTAMP n 0 then s2 else s2.setFin i { s1.fin_ i with unread := true }).finEvent i 2 seq

/-- R404: the comparator of a fast input switches. -/
def execFastInputEdge (i : Nat) (high : Bool) (s : State) : Host.Outcome State Fault Refusal :=
  let near := match (s.fin_ i).edgeAt with
    | some t => decide (s.now < t + 1600)
    | none => false
  s.ends (if i < 88 ∨ 95 < i ∨ !s.finRuns then s
    else
      let s1 := (s.setFin i { s.fin_ i with pin := some high }).rawByPin i high
      let b := s1.on F.FIN_STATE_RAW i
      if b = s.on F.FIN_STATE_RAW i then s1
      else
        let s2 := if near then s1 else s1.setFin i { s1.fin_ i with edgeAt := some s.now }
        if s2.on F.FIN_CFG_STAMP i ∧ near = false then s2.fastStamp i b else s2)

/-! ### Parked polling (R409 to R411) -/

/-- The copy CI-AON takes at the commit point (R411). -/
def State.finPark (s : State) : State :=
  let gs := (List.range 8).filter (fun g => s.on F.FIN_PGRP_EN g)
  let is_ := (List.range 96).filter (fun i => gs.contains (s.get F.FIN_CFG_PGRP i))
  let cfgs := is_.map (fun i => (i, (s.word .FIN_CFG i 0 0).toNat, s.on F.FIN_STATE_STATE i))
  { s with fin := { s.fin with
    groups := gs.map (fun g => (g, (s.word .FIN_PGRP g 0 0).toNat))
    cfgs := cfgs
    samples := cfgs.map (fun c => (c.1, c.2.2))
    confirm := []
    next := gs.map (fun g => (g, s.now)) } }

/-- The burst period of a group word in the present state; none where it is stopped. -/
def State.burstPeriod (s : State) (w : Nat) : Option Nat :=
  let v := BitVec.ofNat 32 w
  if s.pwr = 4 then (if bitsOf v 23 12 = 0 then none else some (bitsOf v 23 12 * 10 * msUnits))
  else some (max 1 (bitsOf v 11 0) * 10 * msUnits)

/-- RAW of a grouped input in a burst: `found` names the inputs whose contact the burst finds active. -/
def burstRaw (found : List Nat) (c : Nat × Nat × Bool) : Bool := found.contains c.1 != bit c.2.1 21

/-- The grouped inputs of group g in the copy. -/
def State.groupInputs (s : State) (g : Nat) : List (Nat × Nat × Bool) :=
  s.fin.cfgs.filter (fun c => c.2.1 / 4096 % 16 == g)

/-- Samples the inputs of a group. -/
def State.burst (s : State) (g : Nat) (found : List Nat) : State :=
  { s with fin := { s.fin with
    samples := (s.groupInputs g).foldl (fun m c => Sparse.set m c.1 (burstRaw found c)) s.fin.samples } }

/-- R409: a burst of group g, with the inputs whose contact it finds active. -/
def execPollingBurst (g : Nat) (found : List Nat) (s : State) : Host.Outcome State Fault Refusal :=
  s.ends (match Sparse.get s.fin.groups g with
    | some w =>
      (match s.burstPeriod w with
      | some per =>
        if s.parked ∧ Sparse.at s.fin.next g 0 ≤ s.now then
          let s1 := s.burst g found
          let diff := ((s.groupInputs g).filter (fun c => burstRaw found c != c.2.2)).map (fun c => c.1)
          { s1 with fin := { s1.fin with
            next := Sparse.set s1.fin.next g (s.now + per)
            confirm := if diff.isEmpty then s1.fin.confirm else s1.fin.confirm ++ [(g, diff, s.now + msUnits)] } }
        else s
      | none => s)
    | none => s)

/-- R410: the confirming burst of the group whose burst came first. An input still different raises an input wake. -/
def execConfirmingBurst (found : List Nat) (s : State) : Host.Outcome State Fault Refusal :=
  s.ends (match s.fin.confirm with
    | (g, diff, t) :: rest =>
      if t ≤ s.now ∧ s.parked then
        let s1 := s.burst g found
        let s2 := { s1 with fin := { s1.fin with confirm := rest } }
        if (s.groupInputs g).any (fun c => diff.contains c.1 && (burstRaw found c != c.2.2)) then
          ((s2.bump F.FIN_STAT_POLLWAKE).put F.FIN_STAT_LASTGRP g).raiseWake ⟨2, none, 0, 0, 0, 0, 0, false⟩
        else s2
      else s
    | [] => s)

/-- At a wake every grouped input starts with STATE at its last burst sample (R408). -/
def State.finWake (s : State) : State :=
  s.fin.samples.foldl (fun t c => (t.put F.FIN_STATE_STATE (if c.2 then 1 else 0) c.1).put F.FIN_STATE_RAW (if c.2 then 1 else 0) c.1)
    { s with fin := { s.fin with ins := [] } }

/-! ### Writes of the block's registers -/

/-- The effect of a write of a register of the field inputs. -/
def State.finWrite (s : State) (r : Reg) (i j w : Nat) (v : Word) : State :=
  match r with
  | .FIN_ATHR => s.athrWrite i v
  | .FIN_CFG =>
    let s1 := s.plainWrite .FIN_CFG i j w v
    if s1.analogue i then s1.rawByValue i
    else match (s1.fin_ i).pin with
      | some high => s1.rawByPin i high
      | none => s1
  | r => s.plainWrite r i j w v

end Sys2Proof.Machine
end

