-- ==== Sys2Proof/Machine/Reset.lean ====
section
/-! DEFINITION. Where a register lies (the address map read backwards), and what each reset kind leaves of every class of state: the
register tables' Kinds (R12, R13) and the survival table of R552. -/

set_option Elab.async false

namespace Sys2Proof.Machine

/-! ### The address map read backwards -/

/-- Instance and word of a register at an address, if the register lies there. -/
def Reg.at_ (r : Reg) (a : Nat) : Option (Nat × Nat × Nat) :=
  let g := r.geom
  if a < g.base then none
  else
    let o := a - g.base
    let i := if g.n1 = 1 then 0 else o / g.s1
    let o1 := o - i * g.s1
    let j := if g.n2 = 1 then 0 else o1 / g.s2
    let o2 := o1 - j * g.s2
    if o2 < 4 * g.words && o2 % 4 == 0 && r.valid i j then some (i, j, o2 / 4) else none

/-- The first register of a list that lies at an address. -/
def findIn (a : Nat) : List Reg → Option (Reg × Nat × Nat × Nat)
  | [] => none
  | r :: rs => match r.at_ a with
    | some (i, j, w) => some (r, i, j, w)
    | none => findIn a rs

/-- The register at a word address, with its indices and its word: the peripheral blocks, and the cores' control registers beyond them. -/
def regAt (a : Nat) : Option (Reg × Nat × Nat × Nat) :=
  if 0x100000000 ≤ a ∧ a < 0x200000000 then findIn a (Reg.ofBlock 17)
  else if 0x40000000 ≤ a ∧ a < 0x41100000 then findIn a (Reg.ofBlock ((a - 0x40000000) / 0x100000))
  else none

/-! ### Registers at a reset -/

/-- A register word after a reset of kind k (1 P, 2 D, 4 T, 8 W): fields whose Kinds hold it take their Reset value. -/
def Reg.resetWord (k : Nat) (r : Reg) (i j w : Nat) (v : Word) : Word :=
  let m := r.fields.foldl (fun acc f => if f.word = w && f.kinds / k % 2 == 1 then acc ||| maskBits f.hi f.lo else acc) 0#32
  (v &&& ~~~ m) ||| (r.rst i j w &&& m)

/-- A register instance that a reset of kind k takes in. -/
def State.resetRegs (s : State) (k : Nat) (takes : Reg → Nat → Nat → Bool) : State :=
  { s with regs := s.regs.filterMap (fun c =>
    match regAt c.1 with
    | some (r, i, j, w) =>
      if takes r i j then
        let v := r.resetWord k i j w c.2
        if v = r.rst i j w then none else some (c.1, v)
      else some c
    | none => some c)
           cyc := { s.cyc with words := s.cyc.words.filter (fun c =>
    match regAt c.1 with
    | some (r, i, j, _) => !takes r i j
    | none => true) } }

/-! ### Memories at a reset -/

/-- Whether an address lies in shared SRAM, in a C6 core's local memory or in the stencil program memory, whose content P, D and W resets
lose; the content of such a byte that nothing has written since reads as after power-on (DESIGN CHOICE, log entry 5). -/
def volatile (a : Nat) : Bool :=
  (decide (0x10000000 ≤ a) && decide (a < 0x10800000)) || (decide (0x200000000 ≤ a) && decide (a < 0x205000000)) ||
    (decide (0x40000000 ≤ a) && decide (a < 0x41100000))

/-- Whether an address lies in a memory of AON, which a P reset alone loses: the retention RAM and the AON core's memory. -/
def aonMemory (a : Nat) : Bool :=
  (decide (0x0C000000 ≤ a) && decide (a < 0x0C040000)) || (decide (0x205000000 ≤ a) && decide (a < 0x206000000))

/-! ### What each reset kind leaves -/

/-- Switches a domain on or off in SYS_DOMSTAT.PD's order. -/
def State.setDom (s : State) (d : Nat) (b : Bool) : State := { s with dom := setBit s.dom d b }

/-- Switches a domain off in RUN: its decoder is no longer calibrated (R151). -/
def State.domDown (s : State) (d : Nat) : State :=
  ((List.range 10).filter (fun k => decDom k == d)).foldl (fun t k => t.calDec k false) (s.setDom d false)

/-- Pending log entries that are lost: AON keeps their number (R639). -/
def State.logLose (s : State) : State :=
  let n := s.log.pend.length
  if n = 0 then s
  else { (s.cumBy 26 n) with log := { s.log with pend := [], flushing := 0, lostNote := some (n + s.log.lostNote.getD 0) } }

/-- A target's remembered state after a D reset, or a wake with PD-PWR on: holds and outputs stay, claims, windows and notes of past actions
do not. -/
def Chan.carried (c : Chan) : Chan := { c with claims := [], window := none, winSet := false, last := none }

/-- The schedule plane after a reset that PD-PWR lives through. -/
def State.planeCarried (s : State) : State :=
  { s with sch := { SchState.reset with chans := (s.sch.chans.filter (fun c => decide (c.1 < 104))).map (fun c => (c.1, c.2.carried)) } }

/-- A wake record that waits to enter NWK_WKFRj enters it before the lock that held it back is lost (R26, R552). -/
def State.wakeRecordsEnter (s : State) : State :=
  (s.bus.slots.filter (fun x => x.reg == .NWK_WKFR)).foldl (fun t x => t.setWords x.reg x.i x.j x.words) s

/-- What every P, D and W reset loses: snapshots, queues of the partitions, link lanes, the state of the lighting, time, switch, gateway, CAN,
LIN and update blocks, the C6 cores, the debug port's lock, in-service work and the volatile memories. -/
def State.loseLogic (s : State) : State :=
  { s with
    mem := s.mem.filter (fun c => !volatile c.1)
    bus := BusState.reset
    ev := { s.ev with queues := s.ev.queues.filter (fun q => decide (4 ≤ q.1)), placed := false }
    links := LinksState.reset
    lgt := LgtState.reset
    tim := TimState.reset
    eth := EthState.reset
    gwy := GwyState.reset
    can := CanState.reset
    lin := LinState.reset
    cpu := { cores := s.cpu.cores.filter (fun c => decide (5 ≤ c.1)), bad := s.cpu.bad.filter (fun a => !volatile a) }
    jtag := JtagState.reset
    integ := { IntegState.reset with weak := s.integ.weak, repair := s.integ.repair }
    upd := { UpdState.reset with
      jnext := s.upd.jnext, jpos := s.upd.jpos, opened := s.upd.opened, staged := s.upd.staged, kept := s.upd.kept } }

/-- Whether a register word is one of a C1 core, which the C6 cores' Kinds do not reach (R626). -/
def ofC1 (r : Reg) (i : Nat) : Bool := r.block == 17 && decide (5 ≤ i)

/-- The holds of LED channels after a reset: a latch, which AON mirrors, and the supply and thermal states as they stand; a bypass is kept over
every reset but P (R357, R365, R379, R381). -/
def State.ledHolds (s old : State) (p : Bool) : State :=
  let hold (t : State) (m reason : Nat) (b : Bool) : State := if b then t.setChan (m + 128) { t.chan (m + 128) with prot := setBit (t.chan (m + 128)).prot reason true } else t
  let lights := lightBits.foldl (fun t m =>
    let latch := if m < 16 then t.on F.LGT_SPROT_LATCH m else t.on F.LGT_APROT_LATCH (m - 128)
    (hold (hold (hold t m pOff latch) m pThermal (t.on F.LGT_STAT_TSHUT)) m pSupply (t.on F.LGT_STAT_VLOW)).putHeld (m + 128)) s
  ((List.range 96).map (· + 32)).foldl (fun t m => (hold t m pBypass (!p && bit (old.chan (m + 128)).prot pBypass)).putHeld (m + 128)) lights

/-- A device reset (kind D) with its LASTRST code: PD-PWR is not reset, outputs hold and PMU_WAKECAUSE is kept (R307, R552). The rails stay
requested; a bring-up follows, or waits for the release of RESET_N. -/
def State.deviceReset (s : State) (cause : Nat) : State :=
  let s1 := (s.wakeRecordsEnter.logLose.resetRegs 2 (fun r i _ => !ofC1 r i && decide (r ≠ .PMU_WAKECAUSE))).loseLogic
  let s2 := ((s1.planeCarried).ledHolds s false).accReset false
  let s3 := { s2 with
    dom := setBit 0 domPWR (s.domOn domPWR)
    psw := { s2.psw with windows := [], notices := [], wdPairs := [] }
    pmu := { s2.pmu with
      acks := [], deepReq := false, commitAt := none, waking := none
      rail := none, attempts := 0, againAt := none, keyPairs := [], lineOnly := false }
    boot := { BootState.reset with kind := 1, cs := s2.boot.cs, entries := s2.boot.entries.filter (fun e => e.1 == 4) } }
  ((s3.setPwr 5).put F.PMU_STATE_LASTRST cause).cum 10

/-- A P reset (R86, R552): everything but flash, fuses, the metering island and the live fields takes its power-on state; T0 stands until the end
of the P reset. -/
def State.powerReset (s : State) (cause : Nat) : State :=
  let s1 := s.resetRegs 1 (fun r i _ => !(r.block == 17 && i == 6))
  let lost := !s.log.pend.isEmpty || s.log.lostNote.isSome
  let s2 := { State.reset with
    now := s.now, free := s.free, pending := s.pending, regs := s1.regs
    mem := s.mem.filter (fun c => !volatile c.1 && !aonMemory c.1)
    cpu := { cores := s.cpu.cores.filter (fun c => c.1 == 6), bad := s.cpu.bad.filter (fun a => !volatile a && !aonMemory a) }
    log := { LogState.reset with lostNote := if lost then some 0xFFFFFFFF else none }
    upd := { UpdState.reset with
      jnext := s.upd.jnext, jpos := s.upd.jpos, opened := s.upd.opened, staged := s.upd.staged, kept := s.upd.kept }
    acc := s.acc
    sup := { s.sup with inP := true }
    fuse := s.fuse
    mtr := s.mtr }
  ((((s2.ledHolds s true).setPwr 5).put F.PMU_STATE_LASTRST cause).accReset true)

/-- The sites that keep protection state: power channels, valve outputs and the banks' high-sides. -/
def sites : List Nat := powerChannels ++ (List.range 28).map (fun n => n + 80)

/-- Puts back the protection of a site whose supply was off: a latch holds, a pause begins again (R293). -/
def State.protAgain (s : State) (old : State) (p : Nat) : State :=
  let st := old.pstate p
  let hold (t : State) : State :=
    if p < 104 then (t.setHold p pOff true).putHeld p else (bankOuts (p - 104)).foldl (fun u x => (u.setHold x pBank true).putHeld x) t
  if st = 5 then hold (s.pput (fState p) p 5)
  else if st = 3 ∨ st = 4 then
    (hold (s.pput (fState p) p 3)).setProt p { ProtSt.cool with pauseEnd := some (s.now + s.pause p (s.get (fAtt p) (siteIdx p))) }
  else if (old.prot p).cleanFrom.isSome then s.setProt p { ProtSt.cool with cleanFrom := some s.now }
  else s

/-- Whether a wake with PD-PWR on leaves a register instance as it stands (R293, R544): protection state of every channel, the output, phase and
pair of a park-held one, whose underlying state alone goes (`undForget`). -/
def State.wakeKeeps (s : State) (r : Reg) (i : Nat) : Bool :=
  match r with
  | .PSW_PROT | .VLV_PROT | .VLV_BPROT => true
  | .PSW_CMD => s.parkHeld i
  | .VLV_CMD => s.parkHeld (80 + i)
  | .PSW_BPAIR => s.parkHeld (64 + 2 * i) || s.parkHeld (65 + 2 * i)
  | _ => false

/-- The underlying states of the park-held channels that keep their outputs over a wake read 0 until configuration applied (R544, Kinds W). -/
def State.undForget (s : State) : State :=
  powerChannels.foldl (fun t x => if t.parkHeld x then t.setUnd x 0 else t) s

/-- A W reset (R552): as the bring-up of a wake finds the device. The watchdog starts with its full WDTIME (R309). -/
def State.wakeReset (s : State) : State :=
  let pwr := s.domOn domPWR
  let s1 := (s.wakeRecordsEnter.logLose.resetRegs 8 (fun r i _ => !ofC1 r i && !(pwr && s.wakeKeeps r i))).loseLogic
  let s2 := ((if pwr then s1.planeCarried.undForget else { s1 with sch := SchState.reset }).ledHolds s false).accReset false
  let s3 := { s2 with
    dom := setBit 0 domPWR pwr
    psw := if pwr then { s2.psw with windows := [], notices := [], wdPairs := [], wdUse := 100, diags := [] } else { PswState.reset with cut := [] }
    vlv := if pwr then s2.vlv else VlvState.reset
    boot := { BootState.reset with kind := 2, cs := s2.boot.cs, entries := s2.boot.entries.filter (fun e => e.1 == 4) } }
  let s4 := if pwr then s3 else sites.foldl (fun t p => t.protAgain s p) s3
  s4.finWake.wdStart

end Sys2Proof.Machine
end

