-- ==== Sys2Proof/Machine/Flash.lean ====
section
/-! DEFINITION. The flash as the boot loader and the Siari engine use it: generation pointers and directories (R110 to R115), part headers
(R117), the activation journal (R673); and the end of a Siari session (R660), which resets and PARK entry share. -/

set_option Elab.async false

namespace Sys2Proof.Machine

/-! ### Reading and programming -/

/-- Erases n sectors from an address on. -/
def State.eraseRange (s : State) (a bytes : Nat) : State :=
  { s with mem := s.mem.filter (fun c => !(decide (a / 4096 * 4096 ≤ c.1) && decide (c.1 < (a + bytes + 4095) / 4096 * 4096))) }

/-- The chip-select that an offset of the flash window lies on conforms (R109); `cs` holds the two verdicts. -/
def csOk (cs a : Nat) : Bool := bit cs (if a < 0x24000000 then 0 else 1)

/-! ### Generations (R110 to R115); 0 is A, 1 is B -/

def genBase (g : Nat) : Nat := if g = 0 then 0x20100000 else 0x23100000
def ptrBase (g : Nat) : Nat := if g = 0 then 0x20001000 else 0x20002000

/-- SEQ of generation g's pointer page. -/
def State.ptrSeq (s : State) (g : Nat) : Nat := (s.rd32 (ptrBase g + 8)).toNat

/-- Whether generation g's pointer is valid (R113). The CRC is taken in the form of code 3 of R499 (PRESUMED, log entry 17). -/
def State.ptrValid (s : State) (g : Nat) : Bool :=
  let a := ptrBase g
  decide (s.nums a 4 = [0x4B, 0x58, 0x47, 0x50]) && decide ((s.rd8 (a + 4)).toNat = (if g = 0 then 0x0A else 0x0B)) &&
    decide (s.ptrSeq g ≠ 0xFFFFFFFF) && bit s.boot.cs 0 && (g == 0 || bit s.boot.cs 1) &&
    decide ((s.rd32 (a + 0xFC)).toNat = crcCode 3 (s.nums a 0xFC))

/-- The generation selected (R114). -/
def State.genSelect (s : State) : Option Nat :=
  match s.ptrValid 0, s.ptrValid 1 with
  | true, true => some (if s.ptrSeq 0 < s.ptrSeq 1 then 1 else 0)
  | true, false => some 0
  | false, true => some 1
  | false, false => none

/-- Whether generation g has a good directory (R115). -/
def State.dirGood (s : State) (g : Nat) : Bool :=
  let a := genBase g
  decide (s.nums a 4 = [0x4B, 0x58, 0x47, 0x44]) && decide ((s.rd32 (a + 0xFFC)).toNat = crcCode 3 (s.nums a 0xFFC))

/-- OFFSET and SIZE of a part in generation g's directory. -/
def State.dirEntry (s : State) (g part : Nat) : Option (Nat × Nat) :=
  if s.dirGood g && part ≠ 0 then
    ((List.range 16).find? (fun k => (s.rd8 (genBase g + 0x10 + 16 * k)).toNat == part)).map (fun k =>
      ((s.rd32 (genBase g + 0x14 + 16 * k)).toNat, (s.rd32 (genBase g + 0x18 + 16 * k)).toNat))
  else none

/-- Whether check 1 of R119 passes for a part whose header lies at an address. A LENGTH that is no multiple of 8 (R117) fails it too (DESIGN
CHOICE, log entry 146). -/
def State.headerOk (s : State) (a part size : Nat) : Bool :=
  decide (s.nums a 4 = [0x4B, 0x58, 0x50, 0x54]) && decide ((s.rd8 (a + 4)).toNat = part) && decide ((s.rd8 (a + 5)).toNat = 1) &&
    decide ((s.rd32 (a + 0x0C)).toNat + 256 ≤ size) && decide ((s.rd32 (a + 0x0C)).toNat % 8 = 0)

/-- The body of the part whose header lies at an address, once checks 2 to 5 of R119 have passed: the signer's key, the wrapped key, the body's
tag and the signature (R117, R118); else the reason code of the check that fails. A KEYSLOT above 3 has no key (DESIGN CHOICE, log entry
146). -/
def State.partOpen (s : State) (a : Nat) : Except Nat (List Byte) :=
  let slot := (s.rd8 (a + 6)).toNat
  let head := s.rdBytes a 0x18
  let pub := s.rdBytes (a + 0x7C) 64
  if 4 ≤ slot ∨ bit s.fuse.revoked slot ∨ Sha.value pub ≠ s.fuse.hashes.getD slot 0 then .error 2
  else match gcmOpen (toBE 32 s.fuse.storage) (s.rdBytes (a + 0x30) 12) [] (s.rdBytes (a + 0x3C) 32) (ofBE (s.rdBytes (a + 0x5C) 16)) with
    | none => .error 3
    | some key =>
      match gcmOpen key (s.rdBytes (a + 0x18) 12) head (s.rdBytes (a + 0x100) (s.rd32 (a + 0x0C)).toNat) (ofBE (s.rdBytes (a + 0x6C) 16)) with
      | none => .error 4
      | some body => if signedBy pub (s.rdBytes (a + 0xC0) 64) (head ++ body) then .ok body else .error 5

/-- The frequency in MHz at which the flash is read (R111). -/
def State.readMHz (s : State) : Nat :=
  let cap := ofLE (s.rdBytes 0x20000004 2)
  if s.nums 0x20000000 4 = [0x4B, 0x58, 0x42, 0x48] ∧ 50 ≤ cap ∧ cap ≤ 200 then cap else 200

/-! ### The journal (R673) -/

/-- Writes a record of a type into the journal: 256 bytes in a circle of 4,096, the sector ahead erased before it is reached. -/
def State.journal (s : State) (typ : Nat) (data : List Byte) : State :=
  let a := 0x26100000 + 256 * s.upd.jpos
  let s1 := if s.upd.jpos % 16 = 0 then s.eraseSector a else s
  let body : List Byte := [0x4B#8, 0x58#8, 0x4A#8, 0x52#8, BitVec.ofNat 8 typ, 0#8, 0#8, 0#8] ++ leB 4 s.upd.jnext ++
    (data ++ List.replicate 240 0#8).take 240
  let s2 := s1.wrBytes a (body ++ leB 4 (crcCode 3 (body.map (fun b => b.toNat))))
  { s2 with upd := { s2.upd with jnext := (s2.upd.jnext + 1) % 2 ^ 32, jpos := (s2.upd.jpos + 1) % 4096 } }

/-! ### Sessions (R657 to R660) -/

/-- The update owner's events (R652, R680). -/
def updEvent (s : State) (code : Nat) (arg0 : Nat := 0) (arg1 : Nat := 0) : State := s.eventTo (.item 0x12 16) 16 code 0xFFFF arg0 arg1

/-- The session with a SESSION value. -/
def State.session (s : State) (v : Nat) : Option Session := s.upd.sessions.find? (fun x => x.value == v)

/-- Replaces a session. -/
def State.putSession (s : State) (x : Session) : State :=
  { s with upd := { s.upd with sessions := s.upd.sessions.map (fun y => if y.value = x.value then x else y) } }

/-- UPD_STAT's SESS, PATH and SLOT as the sessions and the staging lock stand. -/
def State.updShow (s : State) : State :=
  match s.upd.holder with
  | some (v, _) => match s.session v with
    | some x => ((s.put F.UPD_STAT_SESS 2).put F.UPD_STAT_PATH x.path).put F.UPD_STAT_SLOT (x.slot.getD 0)
    | none => s.put F.UPD_STAT_SESS 2
  | none =>
    ((s.put F.UPD_STAT_SESS (if s.upd.sessions.isEmpty then 0 else 1)).put F.UPD_STAT_PATH 0).put F.UPD_STAT_SLOT 0

/-- Sets the debug port's state; a change writes a log entry of type 40 (R678). -/
def State.portMode (s : State) (mode slot : Nat) : State :=
  if s.jtag.mode = mode then s
  else
    let s1 := { s with
      jtag := { s.jtag with mode := mode, ir := 0, dr := 0 }
      cpu := if s.jtag.mode = 1 then { s.cpu with cores := s.cpu.cores.map (fun (c : Nat × Core) => (c.1, { c.2 with halted := false })) } else s.cpu }
    s1.logEntry 40 16 0xFFFF mode slot

/-- A session ends: it releases the lock, unless an activation holds it, and locks the debug port (R84, R660). -/
def State.sessionEnd (s : State) (v : Nat) : State :=
  match s.session v with
  | none => s
  | some x =>
    let mine := match s.upd.holder with
      | some (h, _) => h == v
      | none => false
    let s1 := { s with upd := { s.upd with
      sessions := s.upd.sessions.filter (fun y => y.value != v)
      arb := s.upd.arb.map (fun a => (a.1, a.2.filter (fun (k : Nat × Nat) => k.1 != v)))
      holder := if mine && s.upd.act.isNone then none else s.upd.holder
      ws := match s.upd.ws with
        | some (w, q, t) => if w = v then none else some (w, q, t)
        | none => none } }
    let s2 := if mine then s1.portMode 0 (x.slot.getD 0) else s1
    (if mine && s2.upd.act.isNone then updEvent s2 3 else s2).updShow

/-- Every session ends. -/
def State.sessionsEnd (s : State) : State := s.upd.sessions.foldl (fun t x => t.sessionEnd x.value) s

/-- The activation ends with an outcome, the failed part, cause and reason (R670, R671, R674): registers, event, and the lock it held. -/
def State.actEnd (s : State) (outcome part cause reason : Nat) : State :=
  let s1 := { s with upd := { s.upd with act := none, opened := none } }
  let s2 := (((s1.put F.UPD_LAST_OUTCOME outcome).put F.UPD_LAST_PART part).put F.UPD_LAST_CAUSE cause).put F.UPD_LAST_REASON reason
  let s3 := (((s2.put F.UPD_STAT_ACT 0).put F.UPD_STAT_MODE 0).put F.UPD_STAT_PART 0).put F.UPD_STAT_REMAIN 0
  let s4 := (List.range 4).foldl (fun t n => t.put F.UPD_HEALTH_TRIAL 0 n) (s3.bump (if outcome = 1 then F.UPD_CNT_COMMITS else F.UPD_CNT_REVERTS))
  let s5 := updEvent s4 2 outcome part
  match s5.upd.holder with
  | some (v, _) => (if (s5.session v).isNone then updEvent { s5 with upd := { s5.upd with holder := none } } 3 else s5).updShow
  | none => s5.updShow

/-- The record of a revert (R671). -/
def State.revertNote (s : State) (part cause reason : Nat) : State :=
  s.journal 5 [BitVec.ofNat 8 part, BitVec.ofNat 8 cause, BitVec.ofNat 8 reason]

end Sys2Proof.Machine
end

