-- ==== Sys2Proof/Machine/Rails.lean ====
section
/-! DEFINITION. The rail link (R535 to R539), domain turn-on (R131) and the first two steps of every bring-up (R130). -/

set_option Elab.async false

namespace Sys2Proof.Machine

/-! ### Domains -/

/-- T0 resumes from the coarse count (R146): within ±30 µs of what an unbroken T0 would hold, by a free value (DESIGN CHOICE, log entry 155).
The metering island's own time goes on unbroken. -/
def State.coarseResume (s : State) : State :=
  let t := s.coarseAt s.now
  { s with now := t, mtr := { s.mtr with off := s.mtr.off + Int.ofNat s.now - Int.ofNat t } }.tookFresh

/-- Switches a domain on in RUN or in a bring-up. With PD-FAB the waiting log entries reach the ring; with PD-TIM the coarse count hands T0 back,
which after a D reset or a wake is a coarse holdover (R146). -/
def State.domSwitchOn (s : State) (d : Nat) : State :=
  let s0 : State := if d = domTIM ∧ s.boot.kind ≠ 0 then s.coarseResume else s
  let s1 : State := { s0.setDom d true with boot := { s0.boot with domAt := s0.now } }
  let s2 := if d = domFAB then s1.logDrain
    else if d = domTIM ∧ s1.boot.kind ≠ 0 then
      (List.range 4).foldl (fun t n => t.eventAtStart n 0 1 0xFFFF) ((s1.raise F.TIM_STAT_COARSE).cum 30)
    else s1
  if s2.domOn domTIM then s2.putAligned else s2

/-- A completed refresh of the output-plane watchdog by the boot loader (R132). -/
def State.bootRefresh (s : State) : State := if s.domOn domPWR then s.wdRefresh else s

/-- A step of R130 ends and another begins. -/
def State.bootStep (s : State) (n : Nat) : State := { s with boot := { s.boot with step := n } }.bootRefresh

/-- Step 2: domains that are already on are passed over; PD-FAB goes on at once, the others 200 µs apart (R131). With the rails up the parked
time has ended: its counts from the commit point stop. -/
def State.bootDomains (s : State) : State :=
  let ds := [domFAB, domTIM, domPWR, domCA].filter (fun d => !s.domOn d)
  let s1 := ({ s with boot := { s.boot with doms := ds.drop 1, pgWait := none }
                      pmu := { s.pmu with rail := none, commitAt := none, lineOnly := false } }).bootStep 2
  let s2 := match ds with
    | d :: _ => s1.domSwitchOn d
    | [] => s1
  let s3 := { s2 with boot := { s2.boot with sramDone := s2.boot.kind == 2 }
                      integ := { s2.integ with mapped := if s2.boot.kind = 2 then s2.integ.repair else s2.integ.mapped } }
  if ds.length ≤ 1 then s3.bootStep 4 else s3

/-! ### Requests -/

/-- The request frame on RLDA (R536): SYNC, RAIL, LEVEL, RAMP and SEQ in bits 23:8, and CRC code 1 of R499 over them. -/
def RailReq.frame (q : RailReq) (seq : Bool) : Nat :=
  let hi := 0xA0 + q.rail % 4 * 4 + q.level % 64 / 16
  let lo := q.level % 16 * 16 + q.ramp % 8 * 2 + (if seq then 1 else 0)
  (hi * 256 + lo) * 256 + crcCode 1 [hi, lo]

/-- The request frame that is sent, or that a retry repeats. -/
def State.railFrame (s : State) : Option Nat := s.pmu.rail.map (fun q => q.frame s.pmu.railSeq)

/-- Sends a request frame; it ends 24 µs later. SEQ toggles at each new request (R536). -/
def State.railSend (s : State) (rail level ramp : Nat) : State :=
  let s1 := { s with pmu := { s.pmu with
    rail := some ⟨rail, level, ramp, 0, s.now + 24 * usUnits, 0, none⟩
    railSeq := !s.pmu.railSeq } }
  s1.put F.PMU_RAIL_ON (if level = 0 then 0 else setBit (s.get F.PMU_RAIL_ON) rail true)

/-- Requests the next rail of step 1, or goes on to step 2. -/
def State.railNext (s : State) : State :=
  match s.boot.rails with
  | r :: rs => ({ s with boot := { s.boot with rails := rs, pgWait := none } }).railSend r 32 3
  | [] => s.bootDomains

/-- Step 1 of R130: VCORE, then VIO and VANA. -/
def State.bootRails (s : State) : State :=
  ({ s with boot := { s.boot with step := 1, rails := [0, 1, 2], pgWait := none } }).railNext

/-- A bring-up begins, after a reset has placed its kind. -/
def State.bootBegin (s : State) : State :=
  ({ ((s.setPwr 5).put F.PMU_STATE_PHASE 0) with boot := { s.boot with refAt := s.now } }).bootRails

/-- The power owner's "rail fault" event (R539, R683); without an ownership table it waits for one. -/
def State.railEvent (s : State) : State :=
  match s.ownerOf powerOwner with
  | some n => s.eventAtStart n 13 5 0xFFFF
  | none => { s with pmu := { s.pmu with faultHeld := s.pmu.faultHeld + 1 } }

/-- PD-PWR goes off at parking: the baseplate is no longer measured (R69). -/
def State.pwrOff (s : State) : State := (s.setDom domPWR false).put F.PMU_THERM_TBP 0x100

/-- Whether parking finds an output to switch off: a switch that conducts, a pair that brakes, a valve output whose low side is on; the even
member stands for a pair. -/
def State.parkLive (s : State) (x : Nat) : Bool :=
  if s.oddMember x then false
  else if isValve x then s.valveLive (x - 80)
  else s.out x != 0 || (s.inPair x && (s.chan x).brake)

/-- Parking switches an output off, with edges of source 6; a pair coasts (R531, R545). -/
def State.parkSwitchOff (s : State) (x : Nat) : State :=
  let a := ownAct 6 (slotAfter (gridOf x) s.now)
  if s.inPair x then s.drivePair x 0 false a else s.drive x 0 a

/-- The transition to DEEP PARK (R545): park-held channels go off, then PD-PWR. -/
def State.deepEnter (s : State) : State :=
  let s1 := powerChannels.foldl (fun t x => if t.parkLive x then t.parkSwitchOff x else t) s
  s1.pwrOff.setPwr 4

/-- PARK is reached (R528, R530): every domain is off but AON, and PD-PWR where a channel is park-held; partitions no longer run. -/
def State.parkReached (s : State) : State :=
  let held := (List.range 4).any (fun i => decide (s.word .PMU_PARKHELD i 0 0 ≠ 0))
  let s1 := (List.range 4).foldl (fun t n => t.put (hostFld n) 7 ) s
  let s2 := { s1 with
    dom := if s1.domOn domPWR then 2 ^ domPWR else 0
    cpu := { s1.cpu with cores := s1.cpu.cores.filter (fun c => decide (5 ≤ c.1)) }
    integ := { s1.integ with rcOn := none, mapped := [] }
    pmu := { s1.pmu with rail := none } }
  let s3 := (((if held then s2 else s2.pwrOff).setPwr 3).put F.PMU_STATE_PHASE 0).bump F.PMU_PARKSTAT_PARKS
  if s3.pmu.deepReq then s3.deepEnter else s3

/-- A rail fault and its outcome by the request that failed (R538, R539). -/
def State.railFault (s : State) (q : RailReq) (status : Nat) : State :=
  let s1 := ((((s.raise F.PMU_STATE_RAILFAULT).bump F.PMU_RAIL_FAULTS).put F.PMU_RAIL_LASTRAIL q.rail).put F.PMU_RAIL_LASTSTAT status).cum 21
  let s2 := (s1.logEntry 14 13 0xFFFF q.rail status).railEvent
  let s3 := { s2 with pmu := { s2.pmu with rail := none }, boot := { s2.boot with pgWait := none } }
  if q.level = 0 then (if s3.pwr = 2 then s3.parkReached else s3)
  else match s3.pmu.waking with
    | some from_ =>
      let again := if s3.pmu.attempts < 3 then some (s3.now + secUnits) else none
      let s4 := { s3 with
        pmu := { s3.pmu with waking := none, againAt := again }
        boot := { s3.boot with step := 0 }
        psw := { s3.psw with wdAt := none } }
      ((s4.setPwr from_).setDom domFAB false).railSend 3 0 0
    | none => { s3 with pmu := { s3.pmu with againAt := some (s3.now + 100 * msUnits) }, boot := { s3.boot with step := 1, rails := [] } }

/-- An attempt fails: the frame is repeated 100 µs later, up to 3 times (R538). -/
def State.railFail (s : State) (status : Nat) : State :=
  match s.pmu.rail with
  | some q =>
    if q.tries < 3 then
      { s with pmu := { s.pmu with rail := some { q with status := status, retryAt := some (s.now + 100 * usUnits) } }
               boot := { s.boot with pgWait := none } }
    else s.railFault q status
  | none => s

/-- A rail-on request is accepted: the PGOOD input that reports the rail decides when bring-up goes on (R100, R130). -/
def State.railOn (s : State) (q : RailReq) : State :=
  let good := if q.rail = 0 then s.on F.PMU_SUPPLY_PGC else s.on F.PMU_SUPPLY_PGI
  if q.rail = 1 ∨ good then s.railNext
  else { s with boot := { s.boot with pgWait := some (if q.rail = 0 then 0 else 1, s.now) } }

/-- Judges an acknowledgement byte (R537). -/
def State.railAck (s : State) (q : RailReq) (b : Nat) : State :=
  let w := BitVec.ofNat 32 (b % 256)
  let st := bitsOf w 4 3
  if countBits 8 (b % 256) % 2 = 0 ∨ bitsOf w 7 6 ≠ q.rail ∨ bit b 5 ≠ s.pmu.railSeq then s.railFail 3
  else if st ≠ 0 then s.railFail st
  else if q.level = 0 then (if s.pwr = 2 then s.parkReached else { s with pmu := { s.pmu with rail := none } })
  else s.railOn q

/-- R537. -/
def execRailAcknowledgement (b : Nat) (s : State) : Host.Outcome State Fault Refusal :=
  s.ends (match s.pmu.rail with
    | some q =>
      if q.retryAt.isNone ∧ s.boot.pgWait.isNone ∧ q.sentAt ≤ s.now ∧ s.now ≤ q.sentAt + 2 * msUnits + 10 * usUnits then s.railAck q b else s
    | none => s)

/-- R538. -/
def execRailAckTimeout (s : State) : Host.Outcome State Fault Refusal :=
  s.ends (match s.pmu.rail with
    | some q => if q.retryAt.isNone ∧ s.boot.pgWait.isNone ∧ q.sentAt + 2 * msUnits ≤ s.now then s.railFail 3 else s
    | none => s)

/-- R538. -/
def execRailFrameRetry (s : State) : Host.Outcome State Fault Refusal :=
  s.ends (match s.pmu.rail with
    | some q => match q.retryAt with
      | some t =>
        if t ≤ s.now then
          ({ s with pmu := { s.pmu with
            rail := some { q with tries := q.tries + 1, sentAt := s.now + 24 * usUnits, retryAt := none } } }).bump F.PMU_RAIL_RETRIES
        else s
      | none => s
    | none => s)

/-- R100: `i` is false for PGOOD_C, true for PGOOD_I. -/
def execPgoodRise (i : Bool) (s : State) : Host.Outcome State Fault Refusal :=
  let s1 := s.put (if i then F.PMU_SUPPLY_PGI else F.PMU_SUPPLY_PGC) 1
  s.ends (match s1.boot.pgWait with
    | some (k, _) => if (k = 1) = (i = true) then s1.railNext else s1
    | none => s1)

/-- R100. -/
def execPgoodTimeout (i : Bool) (s : State) : Host.Outcome State Fault Refusal :=
  s.ends (match s.boot.pgWait with
    | some (k, t) =>
      if (k = 1) = (i = true) ∧ t + 2 * msUnits ≤ s.now then ({ s with boot := { s.boot with pgWait := none } }).railFail 3 else s
    | none => s)

end Sys2Proof.Machine
end

