-- ==== Sys2Proof/Machine/Supply.lean ====
section
/-! DEFINITION. The supply zones (R86 to R89), the resets they and RESET_N cause (R101, R307), and the baseplate (R69). -/

set_option Elab.async false

namespace Sys2Proof.Machine

/-- The live zone and VBAT reading. -/
def State.zone (s : State) (z vbat : Nat) : State := (s.put F.PMU_SUPPLY_ZONE z).put F.PMU_SUPPLY_VBAT vbat

/-- Inputs whose RAW was held in the cut zone take the level of their pin again (R407). -/
def State.cutEnd (s : State) : State :=
  (List.range 88).foldl (fun t i => match (t.fin_ i).pin with
    | some h => if t.analogue i || t.on F.FIN_CFG_POL i then t else t.rawByPin i h
    | none => t) s

/-- STATE reads CUT where protection does not hold the site (R294). -/
def State.cutShow (s : State) (p : Nat) : State := if s.pstate p < 3 then s.pput (fState p) p 6 else s

/-- Re-application ends CUT. -/
def State.cutHide (s : State) (p : Nat) : State := if s.pstate p = 6 then s.pput (fState p) p 0 else s

/-- Switches every channel off under the cut rule (R86, R294, R337). -/
def State.cutOff (s : State) : State :=
  let s1 := (List.range 4).foldl (fun t b => (t.vq b).foldl (fun u r => u.valveUnqueue r.i) t) s
  let s2 := powerChannels.foldl (fun t x =>
    (t.holdOff x pCut).cutShow x) s1
  let s3 := ([104, 105, 106, 107] : List Nat).foldl (fun t p => t.cutShow p) s2
  { s3.raise F.PMU_SUPPLY_CUTSEEN with psw := { s3.psw with cut := powerChannels } }

/-- Re-applies the channels (R88, R295). -/
def State.cutBack (s : State) : State :=
  let s1 := (([104, 105, 106, 107] : List Nat) ++ powerChannels).foldl (fun t p => t.cutHide p) s
  powerChannels.foldl (fun t x => t.holdEnd x pCut) { s1 with psw := { s1.psw with cut := [] } }

/-- R86, R89: VBAT falls below the brown-out threshold. -/
def execBrownOut (vbat : Nat) (s : State) : Host.Outcome State Fault Refusal := s.ends ((s.powerReset 1).zone 0 vbat)

/-- R87. Until the cut time has run actions and requests still change outputs (DESIGN CHOICE, log entry 145). -/
def execCutThresholdFall (vbat : Nat) (s : State) : Host.Outcome State Fault Refusal :=
  let s1 := s.zone 0 vbat
  s.ends { s1 with sup := { s1.sup with cutFrom := some s1.now } }

/-- R87: the hold zone is entered from below. -/
def execCutThresholdRise (vbat : Nat) (s : State) : Host.Outcome State Fault Refusal :=
  let s1 := if s.sup.inP then s.zone 1 vbat else (s.zone 1 vbat).raise F.PMU_SUPPLY_HOLDSEEN
  s.ends (({ s1 with sup := { s1.sup with cutFrom := none } }).cutEnd)

/-- R86: after the cut time, 2.0 ms at least. -/
def execCutTimeExpiry (s : State) : Host.Outcome State Fault Refusal :=
  s.ends (match s.sup.cutFrom with
    | some t =>
      if t + 2 * msUnits ≤ s.now ∧ s.psw.cut = [] ∧ s.domOn domPWR then ({ s with sup := { s.sup with cutFrom := none } }).cutOff else s
    | none => s)

/-- R86. -/
def execHoldZoneEntry (vbat : Nat) (s : State) : Host.Outcome State Fault Refusal :=
  s.ends (if s.sup.inP then s.zone 1 vbat else (s.zone 1 vbat).raise F.PMU_SUPPLY_HOLDSEEN)

/-- R86. -/
def execFullZoneEntry (vbat : Nat) (s : State) : Host.Outcome State Fault Refusal := s.ends (s.zone 2 vbat)

/-- R86. -/
def execOvervoltageEntry (vbat : Nat) (s : State) : Host.Outcome State Fault Refusal :=
  s.ends (if s.sup.inP then s.zone 3 vbat else (s.zone 3 vbat).raise F.PMU_SUPPLY_OVSEEN)

/-- R86. -/
def execOvervoltageExit (vbat : Nat) (s : State) : Host.Outcome State Fault Refusal := s.ends (s.zone 2 vbat)

/-- The end of a P reset (R89): T0 from zero, the watchdog running (R309), and the bring-up, which waits for the release of RESET_N where it
is low (PRESUMED, log entry 143). -/
def State.powerEnd (s : State) : State :=
  let low := s.sup.resetFrom.isSome
  let s1 := ({ s with now := 0, mtr := { s.mtr with off := s.mtr.off + s.now }
                      sup := { s.sup with inP := false, resetFrom := if low then some 0 else none } }).wdStart
  if low then s1 else s1.bootBegin

/-- R88, R89: the end of a P reset, or re-application of the channels that the cut rule switched off. -/
def execRecoveryThresholdRise (vbat : Nat) (s : State) : Host.Outcome State Fault Refusal :=
  let s1 := s.put F.PMU_SUPPLY_VBAT vbat
  s.ends (if s1.sup.inP then s1.powerEnd
  else if s1.psw.cut = [] ∨ s1.domOn domPWR = false then s1
  else s1.cutBack)

/-- R101: a PGOOD input falls for more than 5 µs while its rails are requested on. -/
def execPgoodLoss (i : Bool) (s : State) : Host.Outcome State Fault Refusal :=
  let s1 := s.put (if i then F.PMU_SUPPLY_PGI else F.PMU_SUPPLY_PGC) 0
  let on := s1.get F.PMU_RAIL_ON
  let requested := if i then bit on 1 || bit on 2 else bit on 0
  s.ends (if s.on (if i then F.PMU_SUPPLY_PGI else F.PMU_SUPPLY_PGC) && requested then
    let s2 := (s1.deviceReset 5).raise F.PMU_SUPPLY_PGLOSS
    if s2.sup.resetFrom.isSome then s2 else s2.bootBegin
  else s1)

/-- R307. -/
def execResetNAssert (s : State) : Host.Outcome State Fault Refusal :=
  let mark (t : State) : State := { t with sup := { t.sup with resetFrom := some s.now, longDone := false } }
  s.ends (if s.sup.resetFrom.isSome then s else if s.sup.inP then mark s else mark (s.deviceReset 2))

/-- R307: after 10 ms every HS, BH and VB output takes its default state. -/
def execResetNLongHold (s : State) : Host.Outcome State Fault Refusal :=
  s.ends (match s.sup.resetFrom with
    | some t =>
      if t + 10 * msUnits ≤ s.now ∧ s.sup.longDone = false ∧ s.domOn domPWR then
        powerChannels.foldl (fun u x => (u.setChan x { u.chan x with undSet := false }).settle x 6)
          { s with sup := { s.sup with longDone := true } }
      else s
    | none => s)

/-- R141: the reference instant of the bring-up. -/
def execResetNRelease (s : State) : Host.Outcome State Fault Refusal :=
  let s1 := { s with sup := { s.sup with resetFrom := none, longDone := false } }
  s.ends (if s.sup.resetFrom.isNone then s else if s.sup.inP then s1 else s1.bootBegin)

/-- R69: `tbp` in degrees Celsius. -/
def execBaseplateTemperatureSample (tbp : Int) (s : State) : Host.Outcome State Fault Refusal :=
  let peak := s.get F.PMU_THERM_TPEAK
  let s1 := s.put F.PMU_THERM_TBP (codeOf 9 tbp)
  let s2 := if peak = 0x100 ∨ signedOf 9 peak < tbp then s1.put F.PMU_THERM_TPEAK (codeOf 9 tbp) else s1
  s.ends (if !s.domOn domPWR then s else if 95 < tbp then s2.raise F.PMU_THERM_HOT else s2)

/-- R643: the power stages hold their outputs; the plane executes nothing until a reset, and the watchdog runs on. -/
def execCiPwrClockLoss (s : State) : Host.Outcome State Fault Refusal :=
  s.ends (if s.domOn domPWR then { s with psw := { s.psw with clockLost := true } } else s)

end Sys2Proof.Machine
end

