-- ==== Sys2Proof/Machine/Pmu.lean ====
section
/-! DEFINITION. Power states (R527 to R545): requests, REST, PARK entry and its commit point, DEEP PARK, wakes from parking, the AON timer
and comparators, the software reset, and writes of the block's registers. -/

set_option Elab.async false

namespace Sys2Proof.Machine

/-- Starts the device watchdog with its full timeout (R644); 0 is off. -/
def State.dwStart (s : State) : State :=
  { s with integ := { s.integ with dwAt := if s.integ.dwUse = 0 then none else some (s.now + s.integ.dwUse * msUnits) } }

/-- RUN is entered from REST. -/
def State.restExit (s : State) : State := (s.setPwr 0).dwStart

/-- PHASE 2 begins: an activation whose commit record is not begun reverts, and the device parks (R530, R672). -/
def State.phaseTwo (s : State) : State :=
  let s1 := s.put F.PMU_STATE_PHASE 2
  if s1.upd.act.isSome then (s1.revertNote 0 8 0).actEnd 2 0 8 0 else s1

/-- The AON core's entry into DEEP PARK out of service-only state: no prepare phase (R529). -/
def State.serviceEntry (s : State) : State :=
  let s1 := ((s.setPwr 2).put F.PMU_STATE_PHASE 2)
  { s1 with pmu := { s1.pmu with acks := [], deepReq := true, entryAt := s.now, commitAt := none, wakes := [], seen := 0, lineOnly := true }
            cfg := { s1.cfg with dust := [] } }

/-- A write of REQ (R529). -/
def State.reqWrite (s : State) (code : Nat) : State :=
  let st := s.pwr
  if code = 0 then s
  else if code = 1 ∧ st = 0 then
    { s.setPwr 1 with ev := { s.ev with placed := false }, integ := { s.integ with dwAt := none } }
  else if (code = 2 ∨ code = 3) ∧ st = 0 then s.parkEntry (decide (code = 3))
  else if code = 4 ∧ s.inEntry then s.entryAbort
  else s.accErr 13

/-- A software device reset (R554). -/
def State.softReset (s : State) : State := (s.deviceReset 3).bootBegin

/-- A write of PMU_RESET.KEY: 0xD5, then 0x2A by the same initiator. -/
def State.keyWrite (s : State) (init : Init) (key : Nat) : State :=
  let others := s.pmu.keyPairs.filter (fun i => i ≠ init)
  if key = 0xD5 then { s with pmu := { s.pmu with keyPairs := others ++ [init] } }
  else if key = 0x2A ∧ init ∈ s.pmu.keyPairs then ({ s with pmu := { s.pmu with keyPairs := others } }).softReset
  else ({ s with pmu := { s.pmu with keyPairs := others } }).accErr 13

/-- A write of ACK by partition n (R530). -/
def State.parkAck (s : State) (n : Nat) : State :=
  if s.pwr = 2 ∧ s.get F.PMU_STATE_PHASE = 1 then
    let s1 := { s with pmu := { s.pmu with acks := s.pmu.acks.filter (fun k => k != n) ++ [n] } }
    if s1.runningParts.all (fun k => s1.pmu.acks.contains k) then s1.phaseTwo else s1
  else s

/-- The effect of a write of a register of the power management block. -/
def State.pmuWrite (s : State) (init : Init) (r : Reg) (i w : Nat) (v : Word) : State :=
  match r with
  | .PMU_CTL => (s.plainWrite r i 0 w v).reqWrite (bitsOf v 31 29)
  | .PMU_RESET => s.keyWrite init (bitsOf v 7 0)
  | .PMU_PARKACK => if bitsOf v 0 0 = 1 then s.parkAck i else s
  | .PMU_CMP => (s.plainWrite .PMU_CMP i 0 w v).termsSeen
  | r => s.plainWrite r i 0 w v

/-! ### Requests -/

/-- A write of PMU_CTL.REQ with the other fields as they stand. -/
def State.reqBy (s : State) (init : Init) (code : Nat) : State :=
  s.owned init .PMU_CTL 0 0 0 (fun t => t.pmuWrite init .PMU_CTL 0 0 (setBits (t.word .PMU_CTL 0 0 0) 31 29 code))

/-- R528. -/
def execReqRest (init : Init) (s : State) : Host.Outcome State Fault Refusal := s.ends (s.reqBy init 1)
/-- R530. -/
def execReqPark (init : Init) (s : State) : Host.Outcome State Fault Refusal := s.ends (s.reqBy init 2)
/-- R530. -/
def execReqDeepPark (init : Init) (s : State) : Host.Outcome State Fault Refusal := s.ends (s.reqBy init 3)
/-- R532. -/
def execReqRun (init : Init) (s : State) : Host.Outcome State Fault Refusal := s.ends (s.reqBy init 4)

/-- R528: an event has been placed in a partition's queue. -/
def execRestExit (s : State) : Host.Outcome State Fault Refusal := s.ends (if s.pwr = 1 ∧ s.ev.placed then s.restExit else s)

/-- R528: REMAIN has fallen to a quarter of the timeout. -/
def execRestWatchdogReturn (s : State) : Host.Outcome State Fault Refusal :=
  s.ends (match s.psw.wdAt with
    | some t => if s.pwr = 1 ∧ (t - s.now) * 4 ≤ s.psw.wdUse * msUnits then s.restExit else s
    | none => s)

/-! ### Entry -/

/-- R530. -/
def execParkAck (init : Init) (n : Nat) (s : State) : Host.Outcome State Fault Refusal :=
  s.ends (if n < 4 then s.owned init .PMU_PARKACK n 0 0 (fun t => t.pmuWrite init .PMU_PARKACK n 0 1#32) else s)

/-- R530: partitions that have not acknowledged are counted, and the entry goes on. -/
def execPreptimeExpiry (s : State) : Host.Outcome State Fault Refusal :=
  let till := s.pmu.entryAt + clampNat 1 1000 (s.get F.PMU_CTL_PREPTIME) * msUnits
  s.ends (if s.pwr = 2 ∧ s.get F.PMU_STATE_PHASE = 1 ∧ till ≤ s.now then
    (s.bumpBy F.PMU_PARKSTAT_PREPTO (s.runningParts.filter (fun n => !s.pmu.acks.contains n)).length).phaseTwo
  else s)

/-- An output that is not park-held goes off at the commit point, stamped with source 6 and counted (R531). -/
def State.forceOff (s : State) (x : Nat) : State :=
  if s.parkLive x && !s.parkHeld x then (s.parkSwitchOff x).bump F.PMU_PARKSTAT_FORCED else s

/-- The valves at the commit point: waiting requests are removed without count (R531), and a park-held output in hold stays there (R543). -/
def State.valvesPark (s : State) : State :=
  let s1 := (List.range 4).foldl (fun t b => (t.vq b).foldl (fun u r => u.valveUnqueue r.i) t) s
  (List.range 24).foldl (fun t i =>
    if t.get F.VLV_CMD_PHASE i = 4 ∧ t.parkHeld (80 + i) then t.setVout i { t.vout i with until_ := none } else t) s1

/-- Tables and rules stop, with everything on its way to a target; the towline ends (R252, R314, R531). -/
def State.planeStop (s : State) : State :=
  let s1 := (List.range 8).foldl (fun t n => t.tableStop n) s
  let s2 := { s1.put F.PSW_WDSTAT_TOWACT 0 with
    sch := { s1.sch with
      chans := s1.sch.chans.map (fun (c : Nat × Chan) => (c.1, { c.2 with claims := [], window := none }))
      defer := [], pulses := [], imm := [], commits := [] }
    psw := { s1.psw with wdAt := none, windows := [], towRefreshed := false } }
  powerChannels.foldl (fun t x => t.putHeld x) s2

/-- The commit point (R531). -/
def State.commitPoint (s : State) : State :=
  let s1 := ({ s with pmu := { s.pmu with commitAt := some s.now, timerFired := false, handed := true }, integ := { s.integ with dwAt := none } }).put F.PMU_STATE_PHASE 4
  let s2 := (s1.sessionsEnd.portMode 0 0).planeStop
  let s3 := powerChannels.foldl (fun t x => t.forceOff x) s2.valvesPark
  (s3.finPark.nwkPark).railSend 3 0 0

/-- R531. -/
def execCommitPoint (s : State) : Host.Outcome State Fault Refusal :=
  s.ends (if s.pwr = 2 ∧ s.get F.PMU_STATE_PHASE = 3 ∧ s.pmu.commitAt.isNone then s.commitPoint else s)

/-! ### Parked -/

/-- R528. -/
def execDptimeExpiry (s : State) : Host.Outcome State Fault Refusal :=
  s.ends (match s.pmu.commitAt with
    | some t =>
      let m := s.get F.PMU_DEEP_DPTIME
      if s.pwr = 3 ∧ m ≠ 0 ∧ t + m * 60 * secUnits ≤ s.now then s.deepEnter else s
    | none => s)

/-- R528: VBAT has lain below DPVBAT for 60 s. -/
def execDpvbatExpiry (s : State) : Host.Outcome State Fault Refusal :=
  s.ends (if s.pwr = 3 ∧ s.on F.PMU_DEEP_DPVBAT then s.deepEnter else s)

/-- The bring-up of a W reset begins, with WAKECAUSE set anew from the latched wakes (R533, R534). -/
def State.wakeBegin (s : State) : State :=
  let from_ := s.pwr
  let s1 := s.wakeReset
  let bits := s1.pmu.wakes.foldl (fun m w => setBit (if w.during then setBit m 20 true else m) w.src true) (if from_ = 4 then 2 ^ 21 else 0)
  let s2 := (s1.setWord .PMU_WAKECAUSE 0 0 0 (BitVec.ofNat 32 bits)).put F.PMU_STATE_LASTRST (if from_ = 4 then 7 else 6)
  ({ s2 with pmu := { s2.pmu with waking := some from_, againAt := none, seen := s2.pmu.wakes.length } }).bootBegin

/-- R533, R534, R539: a wake has been latched since the last bring-up of a wake began. -/
def execParkedWake (s : State) : Host.Outcome State Fault Refusal :=
  s.ends (if (s.pwr = 3 ∨ s.pwr = 4) ∧ s.pmu.seen < s.pmu.wakes.length then ({ s with pmu := { s.pmu with attempts := 0 } }).wakeBegin else s)

/-- R539. -/
def execRailFaultRetry (s : State) : Host.Outcome State Fault Refusal :=
  s.ends (match s.pmu.againAt with
    | some t =>
      if t ≤ s.now then
        (if s.pwr = 5 then ({ s with pmu := { s.pmu with againAt := none } }).bootRails
        else ({ s with pmu := { s.pmu with attempts := s.pmu.attempts + 1 } }).wakeBegin)
      else s
    | none => s)

/-- R541. -/
def execAonTimerWake (s : State) : Host.Outcome State Fault Refusal :=
  s.ends (match s.pmu.commitAt with
    | some t =>
      if s.on F.PMU_ATMR_EN ∧ s.pmu.timerFired = false ∧ t + max 1 (s.get F.PMU_ATMR_TIME) * secUnits ≤ s.now ∧ 2 ≤ s.pwr ∧ s.pwr ≤ 5 then
        ({ s with pmu := { s.pmu with timerFired := true } }).raiseWake ⟨4, none, 0, 0, 0, 0, 0, false⟩
      else s
    | none => s)

/-- R541: the source of comparator n has stayed beyond its threshold for FILT. -/
def execComparatorTrip (n : Nat) (s : State) : Host.Outcome State Fault Refusal :=
  let src := s.get F.PMU_CMP_SRC n
  s.ends (if n < 8 ∧ s.on F.PMU_CMP_EN n ∧ (src < 96 ∨ src = 127) then
    let s1 := (s.raise F.PMU_CMP_TRIP n).termsSeen
    if s1.pwr ≤ 1 then s1.eventTo powerOwner 13 6 0xFFFF
    else if s1.on F.PMU_CMP_WAKE n then s1.raiseWake ⟨8 + n, s1.ownerOf powerOwner, 13, 6, 0xFFFF, 0, 0, false⟩
    else s1
  else s)

/-! ### The software reset -/

/-- R554. -/
def execResetKeyD5 (init : Init) (s : State) : Host.Outcome State Fault Refusal :=
  s.ends (s.owned init .PMU_RESET 0 0 0 (fun t => t.pmuWrite init .PMU_RESET 0 0 0xD5#32))
/-- R554. -/
def execResetKey2a (init : Init) (s : State) : Host.Outcome State Fault Refusal :=
  s.ends (s.owned init .PMU_RESET 0 0 0 (fun t => t.pmuWrite init .PMU_RESET 0 0 0x2A#32))

end Sys2Proof.Machine
end

