-- ==== Sys2Proof/Machine/Parts.lean ====
section
/-! DEFINITION. Partitions on their cores: restarts and moves (R645 to R648), the device watchdog (R644), in-service tests (R649), the scrubber
(R631 to R634) and the flush of the event log to flash (R638, R639). -/

set_option Elab.async false

namespace Sys2Proof.Machine

/-! ### Cores -/

/-- SYS_CORESTAT.STATE of core c: 0 available, 1 hosting, 2 self-test, 3 failed. -/
def State.coreState (s : State) (c : Nat) : Nat := s.get F.SYS_CORESTAT_STATE / 4 ^ c % 4

def State.setCoreState (s : State) (c v : Nat) : State :=
  let all := s.get F.SYS_CORESTAT_STATE
  s.put F.SYS_CORESTAT_STATE (all - all / 4 ^ c % 4 * 4 ^ c + v * 4 ^ c)

/-- The core that partition n runs on, or ran on last; its own at first (R42). -/
def State.seat (s : State) (n : Nat) : Nat := Sparse.at s.integ.seat n n

def State.core (s : State) (c : Nat) : Core := Sparse.at s.cpu.cores c Core.off
def State.setCore (s : State) (c : Nat) (k : Core) : State := { s with cpu := { s.cpu with cores := Sparse.set s.cpu.cores c k } }

/-- The restart of partition n in progress. -/
def State.restarting (s : State) (n : Nat) : Option Restart := Sparse.get s.integ.restarts n

/-- Whether the relief core can take a partition (R43, R648). -/
def State.reliefFree (s : State) : Bool := s.coreState 4 == 0

/-- Control registers of core c take the Reset value of a reset kind (R626). -/
def State.coreRegs (s : State) (c kind : Nat) : State := s.resetRegs kind (fun r i _ => r.block == 17 && i == c)

/-- Address at which core c's local memory is kept. -/
def localBase (c : Nat) : Nat := 0x200000000 + 0x1000000 * c

/-- PD-RC goes off when the relief core hosts no partition (R123): the core and its local memory are lost. -/
def State.reliefOff (s : State) : State :=
  { s.domDown domRC with
    cpu := { s.cpu with cores := Sparse.erase s.cpu.cores 4 }
    mem := s.mem.filter (fun c => !(decide (localBase 4 ≤ c.1) && decide (c.1 < localBase 5))) }

/-! ### In-service tests (R649) -/

/-- A test of partition n ends with a result; a fail is logged (R640). -/
def State.svcEnd (s : State) (n res : Nat) : State :=
  match Sparse.get s.integ.tests n with
  | none => s
  | some t =>
    let s1 := ({ s with integ := { s.integ with tests := Sparse.erase s.integ.tests n } }).put F.SYS_TEST_BUSY 0 n
    let s2 := s1.put F.SYS_TEST_RES res n
    let s3 := if t.op = 2 ∧ !(s2.lgt.testing.contains t.idx) then s2.holdEnd (128 + t.idx) pTest else s2
    if res = 2 then s3.logEntry 18 15 t.idx (s3.word .SYS_TEST n 0 0).toNat n else s3

/-- A link goes down: the port is uncalibrated (R152), and a Siari session of its path ends (R660). -/
def State.linkFall (s : State) (p : Nat) : State :=
  let s1 := s.linkLost p
  let path := if p = 10 then 0 else 1
  if p = 9 ∨ p = 10 then ((s1.upd.sessions.filter (fun x => x.path == path)).foldl (fun t x => t.sessionEnd x.value) s1) else s1

/-- R152. -/
def execLinkDown (p : Nat) (s : State) : Host.Outcome State Fault Refusal := s.ends (if p < 11 then s.linkFall p else s)

/-- Whether a test's condition holds. -/
def State.svcOk (s : State) (n op cls idx : Nat) : Bool :=
  let mine := s.ownerOf (.item cls idx) == some n
  if op = 1 then
    let x := svcTarget cls idx
    (decide (cls = 1) || decide (cls = 2) || decide (cls = 3)) && mine && s.out x == 0 && (s.chan x).prot == 0
  else if op = 2 then decide (cls = 4) && mine && s.out (128 + idx) == 0
  else if op = 3 then decide (cls = 0x0E) && mine && s.on F.CAN_CTL_EN idx
  else if op = 4 then decide (cls = 0x0F) && mine && s.on F.LIN_CTL_EN idx && !s.on F.LIN_SCHCTL_RUN idx
  else if op = 5 then s.ownerOf (.item 0x12 1) == some n && decide (idx < 10) && s.on F.ESW_PCTL_EN idx
  else false

/-- A write of SYS_TESTn. -/
def State.svcWrite (s : State) (n : Nat) (v : Word) : State :=
  let op := bitsOf v 31 28
  let cls := bitsOf v 23 16
  let idx := bitsOf v 15 0
  let s1 := (s.put F.SYS_TEST_CLASS cls n).put F.SYS_TEST_INDEX idx n
  if (Sparse.get s.integ.tests n).isSome ∨ !s.svcOk n op cls idx then s1.put F.SYS_TEST_RES 3 n
  else
    let s2 := { s1 with integ := { s1.integ with tests := Sparse.set s1.integ.tests n ⟨op, cls, idx, s.now⟩ } }
    let s3 := (s2.put F.SYS_TEST_BUSY 1 n).put F.SYS_TEST_RES 0 n
    if op = 2 then
      (({ s3 with lgt := { s3.lgt with testFail := s3.lgt.testFail.filter (fun m => m != idx) } }).setHold (128 + idx) pTest true).putHeld (128 + idx)
    else if op = 5 then s3.linkFall idx
    else s3

/-! ### Restarts (R645, R646) -/

/-- Ends a restart that cannot go on: the partition stays down and its outputs follow R306 (R647). -/
def State.restartDrop (s : State) (n : Nat) : State :=
  match s.restarting n with
  | none => s
  | some r =>
    let s1 := { s with
      integ := { s.integ with restarts := Sparse.erase s.integ.restarts n }
      boot := { s.boot with jobs := s.boot.jobs.filter (fun j => j.part != some n) } }
    let s2 := if s1.coreState r.core = 1 then s1.setCoreState r.core 0 else s1
    if r.core = 4 then s2.reliefOff else s2

/-- Asks for the core of a restart: a core under test is waited for, and PD-RC takes 200 µs to switch on. -/
def State.restartCore (s : State) (n : Nat) : State :=
  match s.restarting n with
  | none => s
  | some r =>
    if s.coreState r.core = 3 then s.restartDrop n
    else if s.coreState r.core = 2 then s
    else if r.core = 4 ∧ !s.domOn domRC then { s.setCoreState 4 1 with integ := { s.integ with rcOn := some s.now } }
    else
      { s.setCoreState r.core 1 with integ := { s.integ with restarts := Sparse.set s.integ.restarts n { r with stage := 1 } } }

/-- Data held in a register's pending slot enters it, once no lock is left (R26). -/
def State.slotEnter (s : State) (r : Reg) (i j : Nat) : State :=
  if s.locked r i j then s
  else match s.bus.slots.find? (fun x => x.reg = r && x.i = i && x.j = j) with
    | none => s
    | some x =>
      let s1 := { s with bus := { s.bus with slots := s.bus.slots.filter (fun y => !(y.reg = r && y.i = i && y.j = j)) } }
      match r with
      | .CAN_PB | .CAN_MB => s1.canEnter r i j x.words
      | .LIN_FR => s1.linEnter i j x.words
      | .FIN_FSTAMP =>
        let w3 := setBits (x.words.getD 3 0) 15 8 (s1.get F.FIN_FSTAMP_OVR i)
        (s1.setWords r i j (x.words.take 3 ++ [w3])).setFin (88 + i) { s1.fin_ (88 + i) with unread := true }
      | .TIM_TCICAP => (s1.setWords r i j x.words).setTci i { s1.tci i with unread := true }
      | r => s1.setWords r i j x.words

/-- Releases an initiator's snapshot of a register. -/
def State.snapRelease (s : State) (init : Init) (r : Reg) (i j : Nat) : State :=
  let rest := s.bus.snaps.filter (fun x => !(x.init = init && x.reg = r && x.i = i && x.j = j))
  ({ s with bus := { s.bus with snaps := rest } }).slotEnter r i j

/-- Releases the snapshots and drops the staged words of partition n (R23, R28); what waits in the slots of its registers enters them (R26). -/
def State.dropLocks (s : State) (n : Nat) : State :=
  let mine := s.bus.snaps.filter (fun x => decide (x.init = Init.part n))
  let s1 := { s with bus := { s.bus with
    snaps := s.bus.snaps.filter (fun x => decide (x.init ≠ Init.part n))
    staged := s.bus.staged.filter (fun x => decide (x.init ≠ Init.part n))
    rdata := Sparse.erase s.bus.rdata n } }
  mine.foldl (fun t x => t.slotEnter x.reg x.i x.j) s1

/-- What a restart of partition n takes at its instant from everything the partition owns: the T column of R552. -/
def State.restartTake (s : State) (n : Nat) (fixed : Option Nat) : State :=
  let owns (cls idx : Nat) : Bool := s.ownerOf (.item cls idx) == some n
  let s1 := (s.svcEnd n 4).windowBegin n fixed
  let s2 := ((List.range 8).filter (fun t => owns 0x09 t)).foldl (fun t k => (t.tableStop k).swapCancel k) s1
  let s3 := ((List.range 32).filter (fun g => owns 0x0B (160 + g))).foldl (fun t k => t.stnStop k) s2
  let s4 := ([3, 4, 5] : List Nat).foldl (fun t b =>
    (((List.range 32).filter (fun g => owns 0x0B (32 * b + g))).foldl (fun u g => u.discard b g none) t).discard b 32 (some n)) s3
  let s5 := ((List.range 10).filter (fun c => owns 0x0E c)).foldl (fun t c => t.canRemove c) s4
  let s6 := ((s5.gwyRestart n).emptyQueue n).dropLocks n
  s6.resetRegs 4 (fun r i _ => r.block != 17 && s6.ownerOf (s6.ownSpec r i) == some n)

/-- A restart of partition n begins, with its cause and the core it restarts on (R646 steps 1 and 2). -/
def State.restartBegin (s : State) (n cause core : Nat) (fixed : Option Nat := none) (scaf : Bool := false) : State :=
  let home := s.seat n
  let s0 := s.restartDrop n
  let s1 := s0.setCore home { s0.core home with run := .stopped, halted := false }
  let s2 := if s1.coreState home = 1 then s1.setCoreState home 0 else s1
  let s3 := ((s2.put (hostFld n) 7).restartTake n fixed).coreRegs home 4
  let s4 := if s3.ownerOf powerOwner = some n then s3.wdStart else s3
  let s5 := ((s4.put F.SYS_PCTL_CAUSE cause n).bump F.SYS_PCTL_RESTARTS n).cum 7
  let s6 := s5.logEntry 8 15 home n cause
  ({ s6 with integ := { s6.integ with restarts := Sparse.set s6.integ.restarts n ⟨cause, core, 0, home, scaf⟩ } }).restartCore n

/-- Partition n starts at its ENTRY on a core (R130 step 10, R646 step 5): events held for it come first (R683). -/
def State.startPart (s : State) (n core entry cause : Nat) : State :=
  let s1 := (s.coreRegs core 4).put F.CPU_CAUSE_DBL (if cause = 3 then 1 else 0) core
  let s2 := s1.setCore core { s1.core core with pc := BitVec.ofNat 32 entry, run := .running, halted := false, startAt := s.now }
  let s3 := ((s2.put (hostFld n) core).setCoreState core 1).releaseHeld n
  { s3 with integ := { s3.integ with seat := Sparse.set s3.integ.seat n core } }

/-- The restarted partition starts: a move is logged, and the watchdog starts again for the power switch owner (R310). -/
def State.restartStart (s : State) (n entry : Nat) : State :=
  match s.restarting n with
  | none => s
  | some r =>
    let s1 := ({ s with integ := { s.integ with restarts := Sparse.erase s.integ.restarts n } }).startPart n r.core entry r.cause
    let s2 := if s1.ownerOf powerOwner = some n then s1.wdStart else s1
    if r.core = r.home then s2
    else
      let s3 := (s2.cum 9).logEntry 9 15 r.core n r.core
      if r.home = 4 ∧ s3.coreState 4 ≠ 2 then s3.reliefOff else s3

/-- Whether a partition can restart at all: it is present, and runs or is down in RUN or REST. -/
def State.canRestart (s : State) (n : Nat) : Bool :=
  decide (n < 4) && (Sparse.at s.cfg.place n Placement.absent).present && (s.running n || decide (s.pwr ≤ 1))

/-! ### The device watchdog (R644) -/

/-- Starts the watchdog with its full timeout where it may run. -/
def State.dwArm (s : State) : State := if s.pwr = 1 ∨ s.pwr = 3 ∨ s.pwr = 4 then s else s.dwStart

/-- A write of SYS_DWDOG: KEY 0 sets TIME; any other KEY belongs to a refresh pair. -/
def State.dwWrite (s : State) (init : Init) (v : Word) : State :=
  let key := bitsOf v 7 0
  let others := s.integ.dwPairs.filter (fun i => i ≠ init)
  let use (t : State) : State :=
    let m := t.get F.SYS_DWDOG_TIME
    ({ t with integ := { t.integ with dwUse := if m = 0 then 0 else clampNat 10 4000 m } }).dwArm
  if key = 0 then
    let s1 := s.put F.SYS_DWDOG_TIME (bitsOf v 23 12)
    if s1.integ.dwUse = 0 ∧ bitsOf v 23 12 ≠ 0 then use s1 else s1
  else if key = 0x3C then { s with integ := { s.integ with dwPairs := others ++ [init] } }
  else if key = 0xC3 ∧ init ∈ s.integ.dwPairs then use { s with integ := { s.integ with dwPairs := others } }
  else ({ s with integ := { s.integ with dwPairs := others } }).accErr 15

/-- A write of SYS_DWDOG under the ownership rule. -/
def State.dwBy (s : State) (init : Init) (v : Nat) : State :=
  s.owned init .SYS_DWDOG 0 0 0 (fun t => t.dwWrite init (BitVec.ofNat 32 v))

/-- R644. -/
def execDwdogKey3c (init : Init) (s : State) : Host.Outcome State Fault Refusal := s.ends (s.dwBy init 0x3C)
/-- R644. -/
def execDwdogKeyC3 (init : Init) (s : State) : Host.Outcome State Fault Refusal := s.ends (s.dwBy init 0xC3)
/-- R644: any other non-zero KEY. -/
def execDwdogWrongKey (init : Init) (key : Nat) (s : State) : Host.Outcome State Fault Refusal :=
  s.ends (if key % 256 = 0 then s else s.dwBy init (key % 256))
/-- R644. -/
def execDwdogTimeWrite (init : Init) (ms : Nat) (s : State) : Host.Outcome State Fault Refusal := s.ends (s.dwBy init (ms % 4096 * 4096))

/-- R644: the log entry is made after the reset, since the pending entries are lost with it. -/
def execDeviceWatchdogExpiry (s : State) : Host.Outcome State Fault Refusal :=
  s.ends (match s.integ.dwAt with
    | some t => if t ≤ s.now then (((s.deviceReset 4).cum 11).logEntry 15 15 0xFFFF 0).bootBegin else s
    | none => s)

/-! ### Meanings: in-service tests -/

/-- A request of OP by partition n's own write, or by another initiator's. -/
def State.svcBy (s : State) (init : Init) (n op cls idx : Nat) : State :=
  if n < 4 then
    s.owned init .SYS_TEST n 0 0 (fun t => t.svcWrite n (BitVec.ofNat 32 (op * 2 ^ 28 + cls % 256 * 65536 + idx % 65536)))
  else s

/-- R649. -/
def execTestOutput (init : Init) (n cls idx : Nat) (s : State) : Host.Outcome State Fault Refusal := s.ends (s.svcBy init n 1 cls idx)
/-- R649. -/
def execTestString (init : Init) (n idx : Nat) (s : State) : Host.Outcome State Fault Refusal := s.ends (s.svcBy init n 2 4 idx)
/-- R649. -/
def execTestCan (init : Init) (n idx : Nat) (s : State) : Host.Outcome State Fault Refusal := s.ends (s.svcBy init n 3 0x0E idx)
/-- R649. -/
def execTestLin (init : Init) (n idx : Nat) (s : State) : Host.Outcome State Fault Refusal := s.ends (s.svcBy init n 4 0x0F idx)
/-- R649. -/
def execTestPort (init : Init) (n idx : Nat) (s : State) : Host.Outcome State Fault Refusal := s.ends (s.svcBy init n 5 0x12 idx)
/-- R649: `res` 1 pass, 2 fail, anything else aborted. -/
def execInServiceTestEnd (n res : Nat) (s : State) : Host.Outcome State Fault Refusal :=
  s.ends (s.svcEnd n (if res = 1 ∨ res = 2 then res else 4))

/-! ### The scrubber (R631 to R634) -/

/-- The row of R630's table for a word that the scrubber finds uncorrectable: code memory of a core and the AON core's memory 1, data
memory and shared SRAM 2 (DESIGN CHOICE, log entry 115). -/
def scrubRow (a : Nat) : Nat :=
  if 0x200000000 ≤ a ∧ (a % 0x1000000 < 0x20000 ∨ (a - 0x200000000) / 0x1000000 = 5) then 1 else 2

/-- The scrubber reads a word with `bits` bit errors, in the shared SRAM row `row` where it lies in shared SRAM. -/
def State.scrub (s : State) (a row bits : Nat) : State :=
  let s1 := s.eccCount a bits
  if bits = 0 then s1
  else if 3 ≤ bits then (s1.markBad a).logEntry 1 (ramBlock a) 0xFFFF a (s.ramCode (scrubRow a) a)
  else if 0x10000000 ≤ a ∧ a < 0x10800000 then
    let k := Sparse.at s1.integ.rows row 0 + 1
    let s2 := { s1 with integ := { s1.integ with rows := Sparse.set s1.integ.rows row k } }
    if k = 16 then
      (({ s2 with integ := { s2.integ with weak := s2.integ.weak.filter (fun r => r != row) ++ [row] } }).bump F.ERR_SCRUB_WEAK).logEntry 16 15 0xFFFF row k
    else s2
  else s1

/-- R631: `last` marks the last word of a pass. A write-back that an initiator's write overtakes is abandoned (R632), which leaves no trace. -/
def execScrubVisit (a row bits : Nat) (last : Bool) (s : State) : Host.Outcome State Fault Refusal :=
  s.ends (if s.on F.ERR_SCRUB_EN ∧ s.pwr ≤ 1 then
    let s1 := s.scrub a row bits
    if last then ({ s1 with integ := { s1.integ with rows := [] } }).cum 24 else s1
  else s)

/-- R633: a parked pass over the retention RAM, with the words it corrected and those it could not. -/
def execParkedScrub (one two : Nat) (unc : List Nat) (s : State) : Host.Outcome State Fault Refusal :=
  let h := s.get F.ERR_SCRUB_DSSCRUB
  let due := max s.integ.scrubbed (s.pmu.commitAt.getD 0) + h * 3600 * secUnits
  s.ends (if (s.pwr = 3 ∨ s.pwr = 4) ∧ h ≠ 0 ∧ due ≤ s.now then
    let s1 := (s.cumBy 0 one).cumBy 1 two
    let s2 := unc.foldl (fun t a => ((t.cum 2).markBad (0x0C000000 + a % 0x40000)).logEntry 1 13 0xFFFF (0x0C000000 + a % 0x40000) 14) s1
    ({ s2 with integ := { s2.integ with scrubbed := s.now } }).cum 24
  else s)

/-! ### The event log in flash (R638, R639) -/

/-- Address of an entry of the flash region. -/
def logFlash (k : Nat) : Nat := 0x26200000 + 32 * (k % 786432)

/-- Writes an entry at the head, whose sector is erased when it is reached, and moves the head on. -/
def State.logStore (s : State) (e : LogEntry) : State :=
  let k := s.get F.ERR_LOGHEAD_ENTRY
  let s1 := if k % 128 = 0 then s.eraseSector (logFlash k) else s
  let s2 := s1.wrWords (logFlash k) e.words
  if k + 1 = 786432 then (s2.put F.ERR_LOGHEAD_ENTRY 0).put F.ERR_LOGHEAD_WRAP 1 else s2.put F.ERR_LOGHEAD_ENTRY (k + 1)

/-- The flush under way has been written; another starts if 256 entries are pending again. -/
def State.logFlushed (s : State) : State :=
  let n := s.log.flushing
  let s1 := (s.log.pend.take n).foldl (fun t e => t.logStore e) s
  let rest := s.log.pend.drop n
  { s1 with log := { s1.log with pend := rest, flushing := if 256 ≤ rest.length then rest.length else 0 } }

/-- Flushes all that is pending, as step 2 of R530 does. -/
def State.logFlushAll (s : State) : State :=
  if s.log.headFound then ({ s with log := { s.log with flushing := s.log.pend.length } }).logFlushed else s

/-- R638. -/
def execLogFlushTimer (s : State) : Host.Outcome State Fault Refusal :=
  s.ends (match s.log.pend with
    | e :: _ =>
      if s.log.headFound ∧ s.log.flushing = 0 ∧ e.stamp + secUnits ≤ s.now then
        { s with log := { s.log with flushing := s.log.pend.length } }
      else s
    | [] => s)

/-- R638. -/
def execLogFlushEnd (s : State) : Host.Outcome State Fault Refusal :=
  s.ends (if s.log.headFound ∧ s.log.flushing ≠ 0 then s.logFlushed else s)

/-- Whether entry k of the region is valid: its CRC is correct. -/
def State.logValid (s : State) (k : Nat) : Bool :=
  decide ((s.rd32 (logFlash k + 28)).toNat = crcCode 3 (s.nums (logFlash k) 28))

/-- The valid entry with the highest SEQ among those of which any byte is programmed, with its SEQ (R639). -/
def State.logHead (s : State) : Option (Nat × Nat) :=
  let ks := (s.mem.filter (fun c => decide (0x26200000 ≤ c.1) && decide (c.1 < 0x27A00000) && c.1 % 32 == 0)).map (fun c => (c.1 - 0x26200000) / 32)
  ks.foldl (fun best k =>
    if s.logValid k then
      let q := (s.rd32 (logFlash k)).toNat
      match best with
      | some (_, b) => if b < q then some (k, q) else best
      | none => some (k, q)
    else best) none

/-- Gives the waiting entries their SEQ in the order in which they were made, and their CRC. -/
def State.logNumber (s : State) (first : Nat) : State :=
  let n := s.log.pend.length
  let pend := (List.range n).zip s.log.pend |>.map (fun (c : Nat × LogEntry) => { c.2 with seq := some ((first + c.1) % 2 ^ 32) })
  let s1 := ((List.range n).zip pend).foldl (fun t (c : Nat × LogEntry) => t.wrWords (logSlot (s.log.made - n + c.1)) c.2.words) s
  let s2 := { s1 with log := { s1.log with pend := pend, headFound := true, nextSeq := first + n, flushing := if 256 ≤ n then n else 0 } }
  s2.put F.ERR_LOGSEQ_SEQ ((first + n) % 2 ^ 32)

/-- R639: after RUN following a P reset. -/
def execLogHeadFound (s : State) : Host.Outcome State Fault Refusal :=
  s.ends (if s.log.headFound = false ∧ s.pwr ≤ 1 then
    match s.logHead with
    | some (k, q) =>
      let wrap := decide (k + 1 = 786432) || s.logValid (k + 1)
      ((s.put F.ERR_LOGHEAD_ENTRY ((k + 1) % 786432)).put F.ERR_LOGHEAD_WRAP (if wrap then 1 else 0)).logNumber (q + 1)
    | none => ((s.put F.ERR_LOGHEAD_ENTRY 0).put F.ERR_LOGHEAD_WRAP 0).logNumber 0
  else s)

end Sys2Proof.Machine
end

