-- ==== Sys2Proof/Machine/Meter.lean ====
section
/-! DEFINITION. The Duthen metering island and its mailbox (R557 to R586): distance counts, the legal clock, seal states, records, and the
messages of R584. Layouts of messages and records that the spec gives only as a list of contents are the model's (DESIGN CHOICE, log entry 19). -/

set_option Elab.async false

namespace Sys2Proof.Machine

/-! ### The island's time and clock -/

/-- The island's time: it runs with T0 but survives every reset of the main device (R558). -/
def State.inow (s : State) : Nat := (s.mtr.off + Int.ofNat s.now).toNat

/-- Legal time at an island instant not before the clock's base, in units of 62.5 ps; a slew gains or loses 10 ms in each second of legal
time (R571). -/
def LegalClock.legal (c : LegalClock) (t : Nat) : Nat :=
  let r := t - c.at_
  let n := c.slew.natAbs
  if c.slew = 0 then c.base + r
  else
    let k := if 0 < c.slew then 99 else 101
    if k * n * msUnits ≤ r then c.base + 100 * n * msUnits + (r - k * n * msUnits)
    else c.base + r * 100 / k

/-- What is still to be applied of a slew at an instant, in ms with its sign. -/
def LegalClock.rest (c : LegalClock) (t : Nat) : Int :=
  let n := c.slew.natAbs
  let done := min n ((c.legal t - c.base) / (100 * msUnits))
  if 0 < c.slew then Int.ofNat (n - done) else - Int.ofNat (n - done)

/-- Legal time in ms. -/
def State.legalMs (s : State) : Nat := s.mtr.clock.legal s.inow / msUnits

/-- The allowance A (R570): 2,000 ms less what corrections of the preceding 24 h of legal time applied. -/
def allowance (corr : List (Nat × Int)) (legalMs : Nat) : Nat :=
  2000 - (corr.filter (fun c => decide (legalMs < c.1 + 86400000))).foldl (fun a c => a + c.2.natAbs) 0

/-- A UTC value: seconds in bits 63:16, ms in 15:0 (R584). -/
def utcOf (ms : Nat) : Nat := ms / 1000 * 65536 + ms % 1000
def msOfUtc (v : Nat) : Nat := v / 65536 * 1000 + v % 65536

/-! ### Records (R578) -/

/-- The 32 bytes of a record. -/
def MtrRec.bytes (r : MtrRec) : List Byte :=
  leB 4 r.index ++ [BitVec.ofNat 8 r.typ, BitVec.ofNat 8 (r.sealSt + if r.valid then 128 else 0)] ++ leB 2 r.tamper ++
    leB 8 (if r.valid then utcOf r.time else r.time) ++ leB 8 r.cnt0 ++ leB 8 r.data

/-- A record of a type with the present time, count, seal state and tamper counter. -/
def State.mtrRecOf (s : State) (index typ data : Nat) : MtrRec :=
  let m := s.mtr
  ⟨index, typ, if m.clock.valid then s.legalMs else (s.inow - m.upAt) / secUnits, m.clock.valid, m.cnt0, m.sealSt, m.tamper, data⟩

/-- Writes a record; the ring keeps the newest 1,920. -/
def State.mtrRecord (s : State) (typ data : Nat) : State :=
  let rs := s.mtr.recs ++ [s.mtrRecOf s.mtr.nextRec typ data]
  { s with mtr := { s.mtr with recs := rs.drop (rs.length - 1920), nextRec := (s.mtr.nextRec + 1) % 2 ^ 32 } }

/-! ### The mailbox (R582, R583) -/

/-- Whether messages pass: the island answers and the mailbox is powered. -/
def State.mtrLink (s : State) : Bool := s.on F.MTR_STAT_LINK && s.domOn domFAB

/-- The byte of MTR_TXBUF at a position of its ring. -/
def State.txByte (s : State) (k : Nat) : Byte :=
  BitVec.ofNat 8 ((s.word .MTR_TXBUF (k % 4096 / 4) 0 0).toNat / 2 ^ (8 * (k % 4)))

def State.txBytes (s : State) (k n : Nat) : List Byte := (List.range n).map (fun i => s.txByte (k + i))

/-- A message's bytes: header, payload, padding to a multiple of 8. -/
def mtrMsg (typ res seq : Nat) (payload : List Byte) : List Byte :=
  let n := payload.length
  [BitVec.ofNat 8 typ, BitVec.ofNat 8 res] ++ leB 2 n ++ leB 4 seq ++ payload ++ List.replicate ((8 - n % 8) % 8) 0#8

/-- Whether a message fits into MTR_RXBUF. -/
def State.rxFits (s : State) (m : List Byte) : Bool :=
  let used := (s.get F.MTR_RXHEAD_HEAD + 4096 - s.get F.MTR_RXTAIL_TAIL) % 4096
  decide (used + m.length ≤ 4088)

/-- Writes a message into MTR_RXBUF and moves MTR_RXHEAD on (R586). -/
def State.rxPut (s : State) (m : List Byte) : State :=
  let h := s.get F.MTR_RXHEAD_HEAD
  let s1 := (List.range (m.length / 4)).foldl (fun t k => t.setWord .MTR_RXBUF ((h + 4 * k) % 4096 / 4) 0 0
    (wordOf (m.getD (4 * k) 0) (m.getD (4 * k + 1) 0) (m.getD (4 * k + 2) 0) (m.getD (4 * k + 3) 0))) s
  let s2 := s1.put F.MTR_RXHEAD_HEAD ((h + m.length) % 4096)
  if s.on F.MTR_CTL_NOTIFY ∧ h = s.get F.MTR_RXTAIL_TAIL then s2.eventTo (.item 0x12 14) 14 1 0xFFFF else s2

/-- Moves waiting messages into MTR_RXBUF in order, as far as they fit; `n` bounds their number. -/
def State.rxDrain (s : State) : Nat → State
  | 0 => s
  | n + 1 => match s.mtr.waiting with
    | m :: ms => if s.mtrLink && s.rxFits m then (({ s with mtr := { s.mtr with waiting := ms } }).rxPut m).rxDrain n else s
    | [] => s

def State.rxFlush (s : State) : State := s.rxDrain s.mtr.waiting.length

/-- Sends a message that waits for space. -/
def State.mtrSend (s : State) (m : List Byte) : State :=
  ({ s with mtr := { s.mtr with waiting := s.mtr.waiting ++ [m] } }).rxFlush

/-- The SEQ of an unsolicited message: the island's own count, with bit 31 set. -/
def State.mtrSeq (s : State) : Nat := 2 ^ 31 + s.mtr.count % 2 ^ 31
def State.mtrCounted (s : State) : State := { s with mtr := { s.mtr with count := (s.mtr.count + 1) % 2 ^ 31 } }

/-- An ALERT with the type and index of the latest record; up to 16 are held. -/
def State.mtrAlert (s : State) (typ : Nat) : State :=
  let held := (s.mtr.waiting.filter (fun m => m.head? == some 0x88#8)).length
  let m := mtrMsg 0x88 0 s.mtrSeq (leB 4 typ ++ leB 4 (s.mtr.nextRec - 1))
  if held < 16 then s.mtrCounted.mtrSend m else s.mtrCounted

/-- A record of a type, with its ALERT. -/
def State.mtrReport (s : State) (typ data : Nat) : State := (s.mtrRecord typ data).mtrAlert typ

/-- A message that is dropped and counted in DROPS if it finds too little space, behind whatever waits. -/
def State.mtrOffer (s : State) (m : List Byte) : State :=
  if s.mtr.waiting.isEmpty && s.rxFits m then s.mtrCounted.rxPut m
  else { s.mtrCounted with mtr := { s.mtrCounted.mtr with drops := s.mtr.drops + 1 } }

/-- The payload of STATUS: seal state, tamper counter, FAILAUTH, clock VALID, KFACTOR, firmware version, DROPS, allowance. -/
def State.mtrStatus (s : State) : List Byte :=
  let m := s.mtr
  ([m.sealSt, m.tamper, m.failAuth, if m.clock.valid then 1 else 0, m.kfactor, Config.islandFirmware m.store, m.drops,
    allowance m.corr s.legalMs] : List Nat).flatMap (leB 4)

/-- The payload of RESULT: the amount applied, in ms, and A (or the self-test outcome). -/
def resultBytes (applied : Int) (a : Nat) : List Byte := leB 4 (applied % 2 ^ 32).toNat ++ leB 4 a

/-- Sends LEGALTIME if the clock is valid; one that enters the mailbox sets T3 (R148, R574). -/
def State.legalSend (s : State) : State :=
  if s.mtr.clock.valid && s.mtrLink then
    let fits := s.mtr.waiting.isEmpty && s.rxFits (mtrMsg 0x82 0 0 (List.replicate 16 0#8))
    let s1 := s.mtrOffer (mtrMsg 0x82 0 s.mtrSeq (leB 8 (utcOf s.legalMs) ++ leB 8 1))
    if fits && s.domOn domTIM then s1.legalTime (s.legalMs * 1000000 * 65536) else s1
  else s

/-- What the island sends when LINK rises or the main side comes back (R583). -/
def State.mtrHello (s : State) : State :=
  if s.mtrLink then (s.mtrCounted.mtrSend (mtrMsg 0x81 0 s.mtrSeq s.mtrStatus)).legalSend else s

/-- LINK falls: the TX indices return to 0 and unserved requests are lost (R583). -/
def State.mtrLinkFall (s : State) : State :=
  if s.on F.MTR_STAT_LINK then
    let s1 := (((s.put F.MTR_STAT_LINK 0).bump F.MTR_STAT_LINKLOSS).put F.MTR_TXHEAD_HEAD 0).put F.MTR_TXTAIL_TAIL 0
    ({ s1 with mtr := { s1.mtr with marks := [] } }).eventTo (.item 0x12 14) 14 2 0xFFFF
  else s

/-! ### Requests -/

/-- The request at MTR_TXTAIL: its type, SEQ, payload, and its length in the ring. Of a LEN beyond the largest one byte more is taken, which no type has. -/
def State.mtrHead (s : State) : Option (Nat × Nat × List Byte × Nat) :=
  let t := s.get F.MTR_TXTAIL_TAIL
  let held := (s.get F.MTR_TXHEAD_HEAD + 4096 - t) % 4096
  let len := (s.txByte (t + 2)).toNat + 256 * (s.txByte (t + 3)).toNat
  let size := 8 + (len + 7) / 8 * 8
  if s.mtrLink ∧ s.mtr.on ∧ 8 ≤ held ∧ (size ≤ held ∨ 1032 < len) then
    some ((s.txByte t).toNat, ofLE (s.txBytes (t + 4) 4), s.txBytes (t + 8) (min len 1033), min size held)
  else none

/-- The payload length of each request type (R584). -/
def mtrLen : Nat → Option Nat
  | 1 => some 0
  | 2 => some 16
  | 3 => some 2
  | 4 => some 20
  | 5 => some 0
  | 6 => some 136
  | 7 => some 0
  | 8 => some 5
  | 9 => some 8
  | 10 => some 0
  | 11 => some 1032
  | 12 => some 72
  | 13 => some 0
  | _ => none

/-- Takes the request at MTR_TXTAIL off the ring, with the marks of its head writes. -/
def State.mtrTake (s : State) (size : Nat) : State :=
  let t := s.get F.MTR_TXTAIL_TAIL
  let keep := s.mtr.marks.dropWhile (fun (m : Nat × Nat) => decide ((m.1 + 4096 - t) % 4096 ≤ size))
  { s.put F.MTR_TXTAIL_TAIL ((t + size) % 4096) with mtr := { s.mtr with marks := keep } }

/-- Answers requests at MTR_TXTAIL that no row of R584 covers; `n` bounds their number. -/
def State.mtrSkim (s : State) : Nat → State
  | 0 => s
  | n + 1 => match s.mtrHead with
    | some (typ, seq, p, size) =>
      if mtrLen typ = some p.length then s
      else ((s.mtrTake size).mtrSend (mtrMsg 0x86 1 seq (resultBytes 0 (allowance s.mtr.corr s.legalMs)))).mtrSkim n
    | none => s

/-- Serves the request at MTR_TXTAIL if it is of a type: `act` takes its payload and the legal time at the head write that completed it, and
gives the reply as (TYPE, RES, payload) with the state after it. -/
def State.mtrServe (s : State) (typ : Nat) (act : State → List Byte → Nat → State × (Nat × Nat × List Byte)) : State :=
  match s.mtrHead with
  | some (ty, seq, p, size) =>
    if ty = typ ∧ mtrLen ty = some p.length then
      let t := s.get F.MTR_TXTAIL_TAIL
      let at_ := match s.mtr.marks.find? (fun (m : Nat × Nat) => decide (size ≤ (m.1 + 4096 - t) % 4096)) with
        | some m => m.2
        | none => s.legalMs
      let r := act (s.mtrTake size) p at_
      (r.1.mtrSend (mtrMsg r.2.1 r.2.2.1 seq r.2.2.2)).mtrSkim 512
    else s
  | none => s

/-- A RESULT with nothing applied. -/
def State.result (s : State) (res : Nat) : State × (Nat × Nat × List Byte) :=
  (s, (0x86, res, resultBytes 0 (allowance s.mtr.corr s.legalMs)))

/-- An OPEN-only request: refused outside OPEN, else it restarts the idle time (R575, R584). -/
def State.openOnly (s : State) (act : State → State × (Nat × Nat × List Byte)) : State × (Nat × Nat × List Byte) :=
  if s.mtr.sealSt = 1 then act { s with mtr := { s.mtr with openAt := s.inow } } else s.result 2

/-- n free bytes, such as the spec's random ones. -/
def State.freeBytes (s : State) (n : Nat) : List Byte := (List.range n).map (fun k => BitVec.ofNat 8 (Config.freeValue (s.free + k)))
def State.tookBytes (s : State) (n : Nat) : State := { s with free := s.free + n }

/-! ### Writes of the mailbox's registers -/

/-- The effect of a write of a register of the metering mailbox (R582). Marks of an empty ring are of a time before a reset of its indices. -/
def State.mtrWrite (s : State) (r : Reg) (i w : Nat) (v : Word) : State :=
  let x := bitsOf v 11 0
  match r with
  | .MTR_TXHEAD =>
    let h := s.get F.MTR_TXHEAD_HEAD
    let free := (s.get F.MTR_TXTAIL_TAIL + 4096 - h - 8) % 4096
    if x % 8 = 0 ∧ (x + 4096 - h) % 4096 ≤ free then
      let s1 := s.put F.MTR_TXHEAD_HEAD x
      let marks := if h = s.get F.MTR_TXTAIL_TAIL then [] else s.mtr.marks
      ({ s1 with mtr := { s1.mtr with marks := if x = h then marks else marks ++ [(x, s1.legalMs)] } }).mtrSkim 512
    else s.bump F.MTR_STAT_BADIDX
  | .MTR_RXTAIL =>
    let t := s.get F.MTR_RXTAIL_TAIL
    if x % 8 = 0 ∧ (x + 4096 - t) % 4096 ≤ (s.get F.MTR_RXHEAD_HEAD + 4096 - t) % 4096 then (s.put F.MTR_RXTAIL_TAIL x).rxFlush
    else s.bump F.MTR_STAT_BADIDX
  | r => s.plainWrite r i 0 w v

/-- R582. -/
def execMtrTxheadWrite (init : Init) (v : Nat) (s : State) : Host.Outcome State Fault Refusal :=
  s.ends (s.owned init .MTR_TXHEAD 0 0 0 (fun t => t.mtrWrite .MTR_TXHEAD 0 0 (BitVec.ofNat 32 v)))
/-- R582. -/
def execMtrRxtailWrite (init : Init) (v : Nat) (s : State) : Host.Outcome State Fault Refusal :=
  s.ends (s.owned init .MTR_RXTAIL 0 0 0 (fun t => t.mtrWrite .MTR_RXTAIL 0 0 (BitVec.ofNat 32 v)))

/-! ### Pulses, supply and clocks -/

/-- R565: `i` 0 is DP0, 1 is DP1. -/
def execDistancePulse (i : Nat) (s : State) : Host.Outcome State Fault Refusal :=
  s.ends (if s.mtr.on then
    (if i = 0 then { s with mtr := { s.mtr with cnt0 := (s.mtr.cnt0 + 1) % 2 ^ 64 } }
     else if i = 1 then { s with mtr := { s.mtr with cnt1 := (s.mtr.cnt1 + 1) % 2 ^ 64 } } else s)
  else s)

/-- R566. -/
def execPulseWindowCompare (s : State) : Host.Outcome State Fault Refusal :=
  let m := s.mtr
  s.ends (if m.on ∧ m.winAt + secUnits ≤ s.inow then
    let c0 := m.cnt0 - m.win0
    let c1 := m.cnt1 - m.win1
    let bad := decide (2 + c0 / 64 < max c0 c1 - min c0 c1) || decide (25000 < c0) || decide (25000 < c1)
    let s1 := { s with mtr := { m with winAt := m.winAt + secUnits, win0 := m.cnt0, win1 := m.cnt1, faulty := bad } }
    if bad then s1.mtrReport 2 (c0 % 2 ^ 32 + c1 % 2 ^ 32 * 2 ^ 32) else s1
  else s)

/-- R568. -/
def execCounterSealWrite (s : State) : Host.Outcome State Fault Refusal :=
  let m := s.mtr
  s.ends (if m.on ∧ m.sealAt + 100 * msUnits ≤ s.inow ∧ (m.cnt0 ≠ m.sealed0 ∨ m.cnt1 ≠ m.sealed1) then
    { s with mtr := { m with sealed0 := m.cnt0, sealed1 := m.cnt1, sealAt := s.inow } }
  else s)

/-- R564: VMTR below 4.0 V; without its supply the island is off the link (R559). -/
def execVmtrFlush (s : State) : Host.Outcome State Fault Refusal :=
  let m := s.mtr
  s.ends (if m.on then
    ({ s with mtr := { m with
      on := false, sealed0 := m.cnt0, sealed1 := m.cnt1, sealedTime := if m.clock.valid then s.legalMs else m.sealedTime
      chal := none, pinFrom := none, dist := 0, waiting := [], trialTo := none } }).mtrLinkFall
  else s)

/-- R564, R572. -/
def execVmtrReturn (s : State) : Host.Outcome State Fault Refusal :=
  let m := s.mtr
  s.ends (if m.on then s
  else
    ({ s with mtr := { m with
      on := true, upAt := s.inow, cnt0 := m.sealed0, cnt1 := m.sealed1, sealAt := s.inow, winAt := s.inow, win0 := m.sealed0
      win1 := m.sealed1, faulty := false, clock := { m.clock with valid := false, slew := 0 }
      pinFrom := if m.pin ∧ m.sealSt ≠ 1 then some s.inow else none } }).mtrRecord 1 (utcOf m.sealedTime))

/-- The island core restarts: LINK drops until it answers, and what only the core held is gone (R563). -/
def State.mtrRestart (s : State) : State :=
  ({ s with mtr := { s.mtr with chal := none, dist := 0, waiting := [] } }).mtrLinkFall

/-- R563. -/
def execIslandCoreRestart (s : State) : Host.Outcome State Fault Refusal := s.ends (if s.mtr.on then s.mtrRestart else s)

/-- R562: the two crystals have disagreed by more than 200 ppm over 10 s. -/
def execCrystalComparison (s : State) : Host.Outcome State Fault Refusal := s.ends (if s.mtr.on then s.mtrReport 3 0 else s)

/-- R574. -/
def execLegaltime (s : State) : Host.Outcome State Fault Refusal :=
  s.ends (if s.mtr.on ∧ s.mtr.clock.valid ∧ s.mtr.legalAt ≤ s.legalMs then
    ({ s with mtr := { s.mtr with legalAt := s.mtr.legalAt + 1000 * ((s.legalMs - s.mtr.legalAt) / 1000 + 1) } }).legalSend
  else s)

/-- R584: an unsolicited copy of the counts. -/
def execDistcopy (s : State) : Host.Outcome State Fault Refusal :=
  let m := s.mtr
  s.ends (if m.on ∧ m.dist ≠ 0 ∧ m.distAt ≤ s.inow then
    let s1 := { s with mtr := { m with distAt := m.distAt + m.dist * msUnits } }
    if s1.mtrLink then
      s1.mtrOffer (mtrMsg 0x83 0 s1.mtrSeq
        (leB 8 m.cnt0 ++ leB 8 m.cnt1 ++ leB 8 (m.cnt0 * 1000 / m.kfactor) ++ leB 4 (if m.faulty then 1 else 0) ++ leB 4 m.tamper))
    else s1
  else s)

/-- The clock goes on from the present instant with a slew. -/
def State.rebase (s : State) (slew : Int) : State :=
  { s with mtr := { s.mtr with clock := { s.mtr.clock with base := s.mtr.clock.legal s.inow, at_ := s.inow, slew := slew } } }

/-- R571. -/
def execSlewEnd (s : State) : Host.Outcome State Fault Refusal :=
  s.ends (if s.mtr.clock.slew ≠ 0 ∧ s.mtr.clock.rest s.inow = 0 then s.rebase 0 else s)

/-! ### Seal states (R575 to R577) -/

/-- The tamper counter rises and the next tamper fuse is blown; BROKEN, with its record and ALERT. -/
def State.mtrBreak (s : State) : State :=
  ({ s with mtr := { s.mtr with
    sealSt := 2, tamper := s.mtr.tamper + 1, fuses := min 32 (s.mtr.fuses + 1), pinFrom := none } }).mtrReport 8 0

/-- Back to SEALED, with its record and ALERT. -/
def State.mtrSeal (s : State) : State := ({ s with mtr := { s.mtr with sealSt := 0 } }).mtrReport 7 0

/-- R575. -/
def execSealPinAssert (s : State) : Host.Outcome State Fault Refusal :=
  let m := s.mtr
  s.ends (if m.pin then s
  else { s with mtr := { m with pin := true, pinFrom := if m.on ∧ m.sealSt ≠ 1 then some s.inow else none } })

/-- R575. -/
def execSealPinRelease (s : State) : Host.Outcome State Fault Refusal := s.ends { s with mtr := { s.mtr with pin := false, pinFrom := none } }

/-- R575. -/
def execPinTimerExpiry (s : State) : Host.Outcome State Fault Refusal :=
  s.ends (match s.mtr.pinFrom with
    | some t => if s.mtr.on ∧ s.mtr.sealSt ≠ 1 ∧ t + 120 * secUnits ≤ s.inow then s.mtrBreak else s
    | none => s)

/-- R575. -/
def execOpenIdleExpiry (s : State) : Host.Outcome State Fault Refusal :=
  s.ends (if s.mtr.on ∧ s.mtr.sealSt = 1 ∧ s.mtr.openAt + 1800 * secUnits ≤ s.inow then (if s.mtr.pin then s.mtrBreak else s.mtrSeal) else s)

/-- R575. -/
def execChallengeExpiry (s : State) : Host.Outcome State Fault Refusal :=
  s.ends (match s.mtr.chal with
    | some (_, t) => if t + 60 * secUnits ≤ s.inow then { s with mtr := { s.mtr with chal := none } } else s
    | none => s)

/-- R575. -/
def execOpenLockoutEnd (s : State) : Host.Outcome State Fault Refusal :=
  s.ends (match s.mtr.lockTo with
    | some t => if t ≤ s.inow then { s with mtr := { s.mtr with lockTo := none } } else s
    | none => s)

/-- R577: KFACTOR takes its factory value, which the spec does not give. -/
def execParameterBlockFailure (s : State) : Host.Outcome State Fault Refusal :=
  s.ends (if s.mtr.on then
    let most := s.mtr.recs.foldl (fun a r => max a r.tamper) s.mtr.fuses
    ({ s.tookFresh with mtr := { s.mtr with
      kfactor := clampNat 1000 1000000 s.fresh, corr := [], failAuth := 0, bad := [], tamper := most } }).mtrBreak
  else s)

/-- R580: the new firmware has not passed its self-test. -/
def execFirmwareSelftestTimeout (s : State) : Host.Outcome State Fault Refusal :=
  s.ends (match s.mtr.trialTo with
    | some t =>
      if s.mtr.on ∧ t ≤ s.inow then
        (({ s with mtr := { s.mtr with trialTo := none, store := 1 - s.mtr.store } }).mtrRecord 10 0).mtrRestart
      else s
    | none => s)

/-! ### Meanings: requests of R584 -/

/-- R584. -/
def execStatusReq (s : State) : Host.Outcome State Fault Refusal := s.ends (s.mtrServe 1 (fun t _ _ => (t, (0x81, 0, t.mtrStatus))))

/-- An accepted correction: a running slew is cancelled and its rest taken off the correction before (R571). -/
def State.correct (s : State) (corr : List (Nat × Int)) (d a : Int) (res : Nat) : State × (Nat × Nat × List Byte) :=
  let list := corr ++ [(s.legalMs, a)]
  let s1 := (({ s with mtr := { s.mtr with corr := list } }).rebase a).mtrRecord 4
    ((d % 2 ^ 32).toNat + (a % 2 ^ 32).toNat * 2 ^ 32)
  (s1, (0x86, res, resultBytes a (allowance list s1.legalMs)))

/-- The corrections with the rest of a running slew taken off the latest. -/
def State.corrLessRest (s : State) : List (Nat × Int) :=
  match s.mtr.corr.getLast? with
  | some (t, a) => s.mtr.corr.dropLast ++ [(t, a - s.mtr.clock.rest s.inow)]
  | none => []

/-- R570: judged with the legal time at the head write. -/
def State.timeCorr (s : State) (p : List Byte) (at_ : Nat) : State × (Nat × Nat × List Byte) :=
  let scale := (p.getD 0 0).toNat
  let d := Int.ofNat (msOfUtc (ofLE (p.drop 8))) - Int.ofNat at_
  let corr := s.corrLessRest
  let a := Int.ofNat (allowance corr s.legalMs)
  if scale ≠ 1 ∧ scale ≠ 2 then s.result 1
  else if s.mtr.clock.valid = false then s.result 9
  else if d.natAbs ≤ 10 then s.result 5
  else if Int.ofNat d.natAbs ≤ a then s.correct corr d d 0
  else if a = 0 then s.result 3
  else s.correct corr d (if 0 < d then a else -a) 4

/-- R570. -/
def execTimeCorr (s : State) : Host.Outcome State Fault Refusal := s.ends (s.mtrServe 2 (fun t p at_ => t.timeCorr p at_))

/-- R584: a period beyond 1,000 is refused. -/
def execDistCfg (s : State) : Host.Outcome State Fault Refusal :=
  s.ends (s.mtrServe 3 (fun t p _ =>
    let n := ofLE p
    if 1000 < n then t.result 1
    else ({ t with mtr := { t.mtr with dist := n * 10, distAt := t.inow + n * 10 * msUnits } }).result 0))

/-- R579: the reply's signature is one under the island's key; its nonce is a free value. -/
def execRecordReq (s : State) : Host.Outcome State Fault Refusal :=
  s.ends (s.mtrServe 4 (fun t p _ =>
    let idx := ofLE (p.take 4)
    let r := if idx = 0xFFFFFFFF then some (t.mtrRecOf idx 0 0) else t.mtr.recs.find? (fun r => r.index == idx)
    match r with
    | some r => (t.tookFresh, (0x84, 0, r.bytes ++ p.drop 4 ++
        ecdsaSign (asScalar Config.islandKey) (asScalar t.fresh) (Sha.value (r.bytes ++ p.drop 4 ++ leB 16 t.mtr.serial))))
    | none => (t, (0x84, 10, []))))

/-- R576: the challenge is a free value. -/
def execOpenReq (s : State) : Host.Outcome State Fault Refusal :=
  s.ends (s.mtrServe 5 (fun t _ _ =>
    if t.mtr.sealSt = 1 then (t, (0x85, 2, []))
    else if t.mtr.lockTo.isSome then (t, (0x85, 7, []))
    else
      let c := t.freeBytes 32
      ({ t.tookBytes 32 with mtr := { t.mtr with chal := some (c, t.inow) } }, (0x85, 0, c))))

/-- The live challenge: 60 s from its issue (R575). -/
def State.liveChal (s : State) : Option (List Byte) :=
  match s.mtr.chal with
  | some (c, t) => if s.inow < t + 60 * secUnits then some c else none
  | none => none

/-- Whether an OPEN_AUTH is valid: a challenge is live, the key's hash stands in its slot of the island's fuses, and its signature over the
challenge, the serial and the bytes of "OPEN" verifies (R576). -/
def State.workshopOk (s : State) (p : List Byte) : Bool :=
  match s.liveChal with
  | some c =>
    let slot := (p.getD 0 0).toNat
    let key := (p.drop 8).take 64
    decide (slot < 4) && s.mtr.hashes.getD slot 0 == Sha.value key &&
      signedBy key ((p.drop 72).take 64) (c ++ leB 16 s.mtr.serial ++ [0x4F#8, 0x50#8, 0x45#8, 0x4E#8])
  | none => false

/-- R575, R576. -/
def State.openAuth (s : State) (p : List Byte) : State × (Nat × Nat × List Byte) :=
  if s.mtr.sealSt = 1 then s.result 2
  else if s.mtr.pin = false then s.result 8
  else if s.workshopOk p then
    (({ s with mtr := { s.mtr with sealSt := 1, openAt := s.inow, pinFrom := none, bad := [] } }).mtrReport 6 0).result 0
  else
    let bad := s.mtr.bad.filter (fun t => decide (s.inow < t + 3600 * secUnits)) ++ [s.inow]
    let lock := decide (3 ≤ bad.length)
    ({ s with mtr := { s.mtr with
      failAuth := s.mtr.failAuth + 1
      bad := if lock then [] else bad
      lockTo := if lock then some (s.inow + 3600 * secUnits) else s.mtr.lockTo } }).result 6

/-- R576. -/
def execOpenAuth (s : State) : Host.Outcome State Fault Refusal := s.ends (s.mtrServe 6 (fun t p _ => t.openAuth p))

/-- R575. -/
def execSealReq (s : State) : Host.Outcome State Fault Refusal :=
  s.ends (s.mtrServe 7 (fun t _ _ => t.openOnly (fun u => if u.mtr.pin then u.result 8 else u.mtrSeal.result 0)))

/-- R567: a k-factor outside its range is refused. -/
def execSetKfactor (s : State) : Host.Outcome State Fault Refusal :=
  s.ends (s.mtrServe 8 (fun t p _ => t.openOnly (fun u =>
    let k := ofLE (p.take 4)
    if k < 1000 ∨ 1000000 < k then u.result 1
    else
      let u1 := { u with mtr := { u.mtr with kfactor := k } }
      let u2 := if (p.getD 4 0).toNat % 2 = 1 then
        { u1 with mtr := { u1.mtr with cnt0 := 0, cnt1 := 0, win0 := 0, win1 := 0 } } else u1
      (u2.mtrRecord 9 k).result 0)))

/-- R573. -/
def execSetTime (s : State) : Host.Outcome State Fault Refusal :=
  s.ends (s.mtrServe 9 (fun t p _ => t.openOnly (fun u =>
    let ms := msOfUtc (ofLE p)
    let u1 := { u with mtr := { u.mtr with clock := ⟨ms * msUnits, u.inow, 0, true⟩, corr := [], legalAt := ms + 1000 } }
    (u1.mtrRecord 5 0).result 0)))

/-- R581: `outcome` as the test finds it. -/
def execIslandSelftest (outcome : Nat) (s : State) : Host.Outcome State Fault Refusal :=
  s.ends (s.mtrServe 10 (fun t _ _ => t.openOnly (fun u => (u, (0x86, 0, resultBytes 0 outcome)))))

/-- R580: a block beyond the store is refused. -/
def execFwBlock (s : State) : Host.Outcome State Fault Refusal :=
  s.ends (s.mtrServe 11 (fun t p _ => t.openOnly (fun u =>
    let k := ofLE (p.take 4)
    if 128 ≤ k then u.result 1
    else ({ u with mtr := { u.mtr with blocks := Sparse.set u.mtr.blocks k (p.drop 8) } }).result 0)))

/-- The first bytes of the inactive store: a block that no FW_BLOCK wrote reads as erased. -/
def State.imageBytes (s : State) (n : Nat) : List Byte :=
  ((List.range ((n + 1023) / 1024)).flatMap (fun k => Sparse.at s.mtr.blocks k (List.replicate 1024 0xFF#8))).take n

/-- Whether a FW_COMMIT carries the length of an image that fits the store and its signature under the island firmware key (R580). -/
def State.imageOk (s : State) (p : List Byte) : Bool :=
  let n := ofLE (p.take 4)
  decide (n ≤ 131072) && signedBy s.mtr.fwKey ((p.drop 8).take 64) (s.imageBytes n)

/-- R580. -/
def execFwCommit (s : State) : Host.Outcome State Fault Refusal :=
  s.ends (
    let s1 := s.mtrServe 12 (fun t p _ => t.openOnly (fun u =>
      if u.imageOk p then
        ({ u with mtr := { u.mtr with
          store := 1 - u.mtr.store, blocks := [], trialTo := some (u.inow + 10 * secUnits) } }).result 0
      else u.result 11))
    if s1.mtr.store = s.mtr.store then s1 else s1.mtrRestart)

/-- R579. -/
def execPubkeyReq (s : State) : Host.Outcome State Fault Refusal :=
  s.ends (s.mtrServe 13 (fun t _ _ => (t, (0x87, 0, leB 16 t.mtr.serial ++ publicKey (asScalar Config.islandKey)))))

/-! ### The link -/

/-- R583. -/
def execIslandLinkFall (s : State) : Host.Outcome State Fault Refusal := s.ends s.mtrLinkFall

/-- R583, R586: new firmware that answers has passed its self-test (R580). -/
def execIslandLinkRise (s : State) : Host.Outcome State Fault Refusal :=
  s.ends (if s.mtr.on ∧ !s.on F.MTR_STAT_LINK then
    let s1 := (s.put F.MTR_STAT_LINK 1).eventTo (.item 0x12 14) 14 3 0xFFFF
    let s2 := if s1.mtr.trialTo.isSome then ({ s1 with mtr := { s1.mtr with trialTo := none } }).mtrRecord 10 1 else s1
    s2.mtrHello
  else s)

end Sys2Proof.Machine
end

