-- ==== Sys2Proof/Machine/Siari.lean ====
section
/-! DEFINITION. The Siari engine (R652 to R680): sessions and the staging lock, staging, manifests, activation with trial, commit and revert,
the journal check, workshop messages and the debug unlock. -/

set_option Elab.async false

namespace Sys2Proof.Machine

/-! ### Replies (R654 to R656) -/

/-- A Siari reply. -/
def siariMsg (typ sess seq status : Nat) (payload : List Byte) : List Byte :=
  [BitVec.ofNat 8 typ, 1#8] ++ leB 2 payload.length ++ leB 4 sess ++ leB 4 seq ++ [BitVec.ofNat 8 status, 0#8, 0#8, 0#8] ++ payload

/-- The port of a path: SVC is port 10. -/
def pathPort (path : Nat) : Nat := if path = 0 then 10 else 9

/-- Sends a message of the engine in a service frame from the port of its path, with an egress stamp (R196, R219, R653, R654): behind the frame in
transmission there and past the queues (DESIGN CHOICE, log entry 173). On P9 it carries the tag of the request, which the last service
frame of P9 gave. -/
def State.siariSend (s : State) (path dst : Nat) (m : List Byte) : State :=
  let p := pathPort path
  let tag := if path = 0 then none else s.eth.svcTag
  let f : Frame := ⟨dst, s.serviceAddr, tag.getD 0 % 4096, tag.getD 0 / 8192, [0x88#8, 0xB5#8] ++ m, p, s.now, 0, none, 0, none, []⟩
  let e := s.eport p
  let at_ := max s.now e.busyTo
  let s1 := { s with upd := { s.upd with out := s.upd.out ++ [(path, dst, m)] } }
  (s1.setEport p { e with busyTo := at_ + wireTime p (8 + f.wireLen tag.isSome + 12), sent := some ⟨some f, none, at_, false⟩ }).bump
    F.ESW_PCNT_COUNT p 1

/-- Sends the reply to a session's request SEQ and keeps it for a repetition; STATUS 3 is counted (R679). -/
def State.reply (s : State) (x : Session) (typ seq status : Nat) (payload : List Byte := []) : State :=
  let m := siariMsg typ x.value seq status payload
  let s1 := s.siariSend x.path x.src m
  let s2 := if status = 3 then s1.bump F.UPD_CNT_BUSY else s1
  match s2.session x.value with
  | some y => s2.putSession { y with seq := some seq, reply := m }
  | none => s2

/-- Whether a request on a path reaches the engine: it and the switch are powered, the link is up, and no commit point has passed. -/
def State.siariOn (s : State) (path : Nat) : Bool :=
  decide (path < 2) && s.domOn domFAB && s.domOn domNET && s.on F.ESW_PSTAT_LINK (pathPort path) && s.pmu.commitAt.isNone &&
    (decide (s.pwr ≤ 2) || s.get F.SYS_BOOTSTAT_STATE == 2)

/-- Carries out a request of a session: a repeated SEQ has its reply sent again, any other but the next receives STATUS 4, and a request
made before AUTH, of TYPE 0x03 or above, STATUS 2 (R656). -/
def State.siariReq (s0 : State) (path src sess seq typ : Nat) (act : State → Session → State) : State :=
  let s := { s0 with upd := { s0.upd with out := [] } }
  match s.session sess with
  | none => s
  | some x0 =>
    if x0.path ≠ path ∨ x0.src ≠ src ∨ !s.siariOn path then s
    else
      let x := { x0 with last := s.now }
      let s1 := s.putSession x
      if x.seq = some seq then
        (if x.reply = [] then s1 else s1.siariSend path src x.reply)
      else if x.seq.map (fun q => (q + 1) % 2 ^ 32) ≠ some seq then
        s1.siariSend path src (siariMsg typ sess seq 4 [])
      else if x.slot.isNone ∧ 3 ≤ typ then s1.reply x typ seq 2
      else act s1 x

/-- Whether a session holds the staging lock. -/
def State.holds (s : State) (x : Session) : Bool :=
  match s.upd.holder with
  | some (v, _) => v == x.value
  | none => false

/-- A request that only the holder may send. -/
def State.ifHolder (s : State) (x : Session) (typ seq : Nat) (act : State → State) : State :=
  if s.holds x then act s else s.reply x typ seq 3

/-- The holder record (R659). -/
def State.holderRecord (s : State) : List Byte :=
  match s.upd.holder with
  | some (v, t) =>
    let h := s.session v
    let path := if s.upd.act.isSome then 2 else match h with
      | some y => y.path
      | none => 0
    let slot := match h with
      | some y => y.slot.getD 0
      | none => 0
    let src := match h with
      | some y => y.src
      | none => 0
    [BitVec.ofNat 8 path, BitVec.ofNat 8 slot] ++ (leB 6 src).reverse ++ leB 4 ((s.now - t) / msUnits)
  | none => List.replicate 12 0#8

/-- Grants the lock to a session. -/
def State.grant (s : State) (v : Nat) : State :=
  (updEvent (({ s with upd := { s.upd with holder := some (v, s.now) } }).bump F.UPD_CNT_SESSIONS) 3).updShow

/-! ### Sessions -/

/-- A SESSION value that no session has: the first free one from a free value on. -/
def pickValue (used : List Nat) : Nat → Nat → Nat
  | 0, v => v
  | n + 1, v => if v = 0 ∨ v ∈ used then pickValue used n ((v + 1) % 2 ^ 32) else v

/-- R657: SESSION and CHALLENGE are free values. -/
def execSiariOpen (path src seq : Nat) (s0 : State) : Host.Outcome State Fault Refusal :=
  let s := { s0 with upd := { s0.upd with out := [] } }
  s0.ends (if s.siariOn path then
    let used := s.upd.sessions.map (fun y => y.value)
    let v := pickValue used (used.length + 2) (s.fresh % 2 ^ 32)
    let s1 := s.tookFresh
    let c := s1.freeBytes 32
    let x : Session := ⟨path, src % 2 ^ 48, v, c, none, s.now, s.now, none, [], 0, [], false⟩
    let s2 := s1.tookBytes 32
    let s3 := { s2 with
      upd := { s2.upd with sessions := s2.upd.sessions ++ [x] }
      boot := { s2.boot with serviceAt := none } }
    (s3.reply x 1 (seq % 2 ^ 32) 0 (leB 4 v ++ c)).updShow
  else s)

/-- Where the tool list lies in the enrolment and keys region (DESIGN CHOICE, log entry 166). -/
def toolListAt : Nat := 0x27A20000

/-- The hashes of the tool list, up to eight: none where its record is not one that a signing key signed (R657). -/
def State.toolList (s : State) : List Nat :=
  if s.headerOk toolListAt 1 0x10000 then match s.partOpen toolListAt with
    | .ok body => (List.range (min 8 (body.length / 32))).map (fun k => ofBE ((body.drop (32 * k)).take 32))
    | .error _ => []
  else []

/-- The place of a tool's public key: its index in the tool list, or 8 + k for signing key k whose revocation bit is clear (R657, R659). -/
def State.toolSlot (s : State) (key : List Byte) : Option Nat :=
  let h := Sha.value key
  match (List.range 4).find? (fun k => !bit s.fuse.revoked k && s.fuse.hashes.getD k 0 == h) with
  | some k => some (8 + k)
  | none => let ts := s.toolList; (List.range ts.length).find? (fun k => ts.getD k 0 == h)

/-- What AUTH signs: CHALLENGE, the device serial and the bytes of "SIAR" (R657). -/
def State.authBytes (s : State) (x : Session) : List Byte := x.chal ++ leB 16 s.fuse.serial ++ [0x53#8, 0x49#8, 0x41#8, 0x52#8]

/-- R657 to R659. -/
def execSiariAuth (path src sess seq : Nat) (key sig : List Byte) (s : State) : Host.Outcome State Fault Refusal :=
  s.ends (s.siariReq path src sess seq 2 (fun t x =>
    if signedBy key sig (t.authBytes x) = false then t.reply x 2 seq 2
    else match t.toolSlot key with
      | none => t.reply x 2 seq 12
      | some k =>
        let y := { x with slot := some k }
        let t1 := t.putSession y
        if t1.holds y then t1.reply y 2 seq 0
        else if t1.upd.holder.isSome then t1.reply y 2 seq 3 t1.holderRecord
        else
          let wait := match t1.upd.arb with
            | some (e, vs) => (e, vs ++ [(y.value, seq)])
            | none => (t1.now + msUnits, [(y.value, seq)])
          ({ t1 with upd := { t1.upd with arb := some wait } }).putSession { y with seq := some seq, reply := [] }))

/-- R659. -/
def execArbitrationWindowEnd (s : State) : Host.Outcome State Fault Refusal :=
  s.ends (match s.upd.arb with
    | some (e, vs) =>
      if e ≤ s.now then
        let s1 := { s with upd := { s.upd with arb := none, out := [] } }
        let live := vs.filterMap (fun (v : Nat × Nat) => (s1.session v.1).map (fun x => (x, v.2)))
        match (match live.find? (fun (c : Session × Nat) => c.1.path == 0) with
          | some c => some c
          | none => live.head?) with
        | some (w, q) =>
          let s2 := (s1.grant w.value).reply w 2 q 0
          (live.filter (fun (c : Session × Nat) => c.1.value != w.value)).foldl (fun t (c : Session × Nat) => t.reply c.1 2 c.2 3 t.holderRecord) s2
        | none => s1
      else s
    | none => s)

/-- R660. -/
def execSiariClose (path src sess seq : Nat) (s : State) : Host.Outcome State Fault Refusal :=
  s.ends (s.siariReq path src sess seq 3 (fun t x => (t.reply x 3 seq 0).sessionEnd x.value))

/-- R657. -/
def execAuthTimeout (sess : Nat) (s : State) : Host.Outcome State Fault Refusal :=
  s.ends (match s.session sess with
    | some x => if x.slot.isNone ∧ x.at_ + 10 * secUnits ≤ s.now then s.sessionEnd sess else s
    | none => s)

/-- R660. -/
def execSessionIdleTimeout (sess : Nat) (s : State) : Host.Outcome State Fault Refusal :=
  s.ends (match s.session sess with
    | some x => if x.last + 60 * secUnits ≤ s.now then s.sessionEnd sess else s
    | none => s)

/-- The running generation: the one in use (R670). -/
def State.genInUse (s : State) : Nat := s.get F.UPD_STAT_GEN

/-- The inactive generation: the one that SYS_BOOTSTAT.GEN does not name (R661). -/
def State.genInactive (s : State) : Nat := 1 - s.get F.SYS_BOOTSTAT_GEN

/-- R656: UPD_STAT, UPD_LAST, UPD_CNT, SEQ of the running pointer and SYS_BOOTSTAT. -/
def execSiariStatus (path src sess seq : Nat) (s : State) : Host.Outcome State Fault Refusal :=
  s.ends (s.siariReq path src sess seq 4 (fun t x =>
    t.reply x 4 seq 0 (([(t.word .UPD_STAT 0 0 0).toNat, (t.word .UPD_LAST 0 0 0).toNat, (t.word .UPD_CNT 0 0 0).toNat,
      t.ptrSeq t.genInUse, (t.word .SYS_BOOTSTAT 0 0 0).toNat] : List Nat).flatMap (leB 4))))

/-- The bytes of the log entry with a SEQ, where the ring or the flash region holds it. -/
def State.logFind (s : State) (q : Nat) : List Byte :=
  match s.log.pend.find? (fun e => e.seq == some q) with
  | some e => e.words.flatMap (fun w => leB 4 w.toNat)
  | none =>
    let back := s.log.nextSeq - s.log.pend.length - q
    let k := (s.get F.ERR_LOGHEAD_ENTRY + 786432 - back) % 786432
    if s.log.headFound ∧ 0 < back ∧ back ≤ 786432 ∧ s.logValid k ∧ (s.rd32 (logFlash k)).toNat = q then s.rdBytes (logFlash k) 32 else []

/-- R656. -/
def execLogread (path src sess seq first count : Nat) (s : State) : Host.Outcome State Fault Refusal :=
  s.ends (s.siariReq path src sess seq 0x41 (fun t x =>
    if count = 0 ∨ 32 < count then t.reply x 0x41 seq 5
    else t.reply x 0x41 seq 0 ((List.range count).flatMap (fun k => t.logFind (first + k)))))

/-! ### Staging (R661 to R663) -/

/-- The largest body of a part (R116). -/
def State.partMax (s : State) (part : Nat) : Option Nat :=
  if part = 0x01 ∨ part = 0x23 then some 0x100000
  else if part = 0x02 ∨ part = 0x21 then some 0x10000
  else if part = 0x20 then some 0x200000
  else if part = 0x22 then some 0x80000
  else if 0x10 ≤ part ∧ part < 0x14 then some (0x40000 + (Sparse.at s.cfg.place (part - 0x10) Placement.absent).size)
  else none

/-- What an erase of the inactive generation takes of the parts that stand staged in it, and a staging anew of the part. -/
def State.stagedLose (s : State) (part off size : Nat) : State :=
  let stays (p : Staged19) : Bool := p.part != part && !(decide (p.off < off + size) && decide (off < p.off + p.size))
  { s with upd := { s.upd with staged := s.upd.staged.filter stays, kept := s.upd.kept.filter stays } }

/-- R662. -/
def execStageBegin (path src sess seq part off size : Nat) (ok_ : Bool) (s : State) : Host.Outcome State Fault Refusal :=
  s.ends (s.siariReq path src sess seq 0x10 (fun t x => t.ifHolder x 0x10 seq (fun t =>
    if t.upd.act.isSome then t.reply x 0x10 seq 9
    else
      let rest := x.parts.filter (fun p => p.part != part)
      let clash := rest.any (fun p => decide (p.off < off + size) && decide (off < p.off + p.size))
      match t.partMax part with
      | none => t.reply x 0x10 seq 5
      | some most =>
        if off < 0x1000 ∨ off % 4096 ≠ 0 ∨ 0x3000000 < off + size ∨ clash ∨ most + 256 < size then t.reply x 0x10 seq 5
        else
          let g := t.genInactive
          let t1 := if x.begun then t else t.eraseSector (ptrBase g)
          let t2 := (t1.eraseRange (genBase g + off) size).stagedLose part off size
          if ok_ then (t2.putSession { x with begun := true, parts := rest ++ [⟨part, off, size, 0, false⟩] }).reply x 0x10 seq 0
          else (t2.putSession { x with begun := true, parts := rest }).reply x 0x10 seq 10)))

/-- R662: `ok_` is false where the program fails. -/
def execStageData (path src sess seq off : Nat) (data : List Byte) (ok_ : Bool) (s : State) : Host.Outcome State Fault Refusal :=
  s.ends (s.siariReq path src sess seq 0x11 (fun t x => t.ifHolder x 0x11 seq (fun t =>
    if t.upd.act.isSome then t.reply x 0x11 seq 9
    else if data.length = 0 ∨ 1024 < data.length then t.reply x 0x11 seq 1
    else match x.parts.getLast? with
      | some p =>
        if p.done ∨ off ≠ p.fill ∨ p.size < off + data.length then t.reply x 0x11 seq 5
        else if ok_ = false then (t.putSession { x with parts := x.parts.dropLast }).reply x 0x11 seq 10
        else
          let t1 := t.wrBytes (genBase t.genInactive + p.off + off) data
          (t1.putSession { x with parts := x.parts.dropLast ++ [{ p with fill := off + data.length }] }).reply x 0x11 seq 0
      | none => t.reply x 0x11 seq 5)))

/-- SHA-256 of what was written of a staged part. -/
def State.stageDigest (s : State) (p : Staged19) : List Byte := Sha.digest (s.rdBytes (genBase s.genInactive + p.off) p.fill)

/-- R662. -/
def execStageEnd (path src sess seq : Nat) (s : State) : Host.Outcome State Fault Refusal :=
  s.ends (s.siariReq path src sess seq 0x12 (fun t x => t.ifHolder x 0x12 seq (fun t =>
    if t.upd.act.isSome then t.reply x 0x12 seq 9
    else match x.parts.getLast? with
      | some p =>
        if p.done then t.reply x 0x12 seq 4
        else
          let d := t.stageDigest p
          let t0 := { t with upd := { t.upd with staged := t.upd.staged ++ [{ p with done := true }] } }
          let t1 := t0.putSession { x with parts := x.parts.dropLast ++ [{ p with done := true }] }
          (t1.journal 1 ([BitVec.ofNat 8 p.part, 0#8, 0#8, 0#8] ++ leB 4 p.off ++ leB 4 p.size ++ d)).reply x 0x12 seq 0 d
      | none => t.reply x 0x12 seq 4)))

/-! ### Manifests (R664, R665) -/

/-- A number in a manifest's bytes. -/
def manNum (m : List Byte) (off n : Nat) : Nat := ofLE ((m.drop off).take n)

/-- Entry k of a manifest. -/
def manEntry (m : List Byte) (k : Nat) : ManEntry :=
  let o := 0x40 + 48 * k
  ⟨manNum m o 1, manNum m (o + 1) 1, manNum m (o + 2) 2, manNum m (o + 4) 4, manNum m (o + 8) 4, manNum m (o + 12) 4, (m.drop (o + 16)).take 32⟩

def manEntries (m : List Byte) : List ManEntry := (List.range (manNum m 6 1)).map (fun k => manEntry m k)

/-- Whether the device is in service-only state. -/
def State.serviceOnly (s : State) : Bool := s.get F.SYS_BOOTSTAT_STATE == 2

/-- Whether a signing key that is not revoked has signed a manifest: KEYSLOT, PUBKEY and SIG (R664, R665). -/
def State.manSigned (s : State) (m : List Byte) : Bool :=
  let n := 0x40 + 48 * manNum m 6 1
  let slot := manNum m 5 1
  let pub := (m.drop n).take 64
  decide (slot < 4) && !bit s.fuse.revoked slot && Sha.value pub == s.fuse.hashes.getD slot 0 && signedBy pub ((m.drop (n + 64)).take 64) (m.take n)

/-- The STATUS that decides an ACTIVATE, 0 where every check passes (R665). Staged parts are those of the session, and those that an abandoned
activation left staged (R674). -/
def State.manCheck (s : State) (x : Session) (m : List Byte) : Nat :=
  let count := manNum m 6 1
  let es := manEntries m
  let formOk := decide (m.take 4 = [0x4B#8, 0x58#8, 0x4D#8, 0x46#8]) && manNum m 4 1 == 1 && decide (2 ≤ count) && decide (count ≤ 16) &&
    m.length == 0x40 + 48 * count + 128
  let base := manNum m 0x0C 4
  let once := es.all (fun e => (es.filter (fun f => f.part == e.part)).length == 1)
  let listed := es.any (fun e => e.part == 1) && es.any (fun e => e.part == 0x10)
  let names := if s.serviceOnly then base == 0 else manNum m 8 4 == s.cfg.product && base == s.ptrSeq s.genInUse
  let match_ (e : ManEntry) : Bool :=
    if e.src = 0 then
      (x.parts ++ s.upd.kept).any (fun p => p.part == e.part && p.off == e.off && p.size == e.size && p.done && decide (s.stageDigest p = e.digest))
    else e.src == 1 && !s.serviceOnly && (s.dirEntry s.genInUse e.part).isSome
  if s.upd.act.isSome then 9
  else if !s.on F.UPD_GATE_ALLOW ∧ !s.serviceOnly then 8
  else if !formOk ∨ s.manSigned m = false then 6
  else if !names ∨ 0xFFFFFFFE ≤ base ∨ !once ∨ !listed then 7
  else if es.all match_ then 0
  else 7

/-- R665: an accepted manifest begins the preparation of the scaffold (R666). -/
def execActivate (path src sess seq : Nat) (m : List Byte) (s : State) : Host.Outcome State Fault Refusal :=
  s.ends (s.siariReq path src sess seq 0x20 (fun t x => t.ifHolder x 0x20 seq (fun t =>
    let st := t.manCheck x m
    if st ≠ 0 then t.reply x 0x20 seq st
    else
      let es := manEntries m
      let part := es.all (fun e => e.src == 1 || (decide (0x10 ≤ e.part) && decide (e.part < 0x14) && t.running (e.part - 0x10)))
      let total := manNum m 0x10 2
      let a : Activation :=
        ⟨es, manNum m 0x0C 4, Sha.digest (m.take (0x40 + 48 * es.length)), !part, if total = 0 then 120 else total, none, 0, [], [], [], [],
          t.genInactive, x.value⟩
      let t1 := { t with upd := { t.upd with act := some a } }
      (((t1.put F.UPD_STAT_ACT 1).put F.UPD_STAT_MODE (if part then 0 else 1)).updShow).reply x 0x20 seq 0)))

/-! ### Activation (R666 to R672) -/

/-- Replaces the activation. -/
def State.setAct (s : State) (a : Activation) : State := { s with upd := { s.upd with act := some a } }

/-- TRIAL of a part, in units of T0. -/
def Activation.trialOf (a : Activation) (part : Nat) : Nat :=
  match a.entries.find? (fun e => e.part == part) with
  | some e => (if e.trial = 0 then 30 else e.trial) * secUnits
  | none => 30 * secUnits

/-- The present core of a partition takes its image from the scaffold, with cause 7 (R667). -/
def State.tryNext (s : State) (a : Activation) : State :=
  match a.todo with
  | p :: ps =>
    let s1 := ((s.setAct { a with todo := ps, tried := a.tried ++ [p] }).put F.UPD_STAT_ACT 2).put F.UPD_STAT_PART (0x10 + p)
    s1.restartBegin p 7 (s.seat p) none true
  | [] => s.setAct a

/-- The trial of a part begins: of a partition when it starts under trial (R680), of the AON core image when its core starts. -/
def State.trialBegin (s : State) (part : Nat) : State :=
  match s.upd.act with
  | some a =>
    if a.endAt.isSome ∧ a.entries.any (fun e => e.part == part) then
      let a1 := { a with trials := Sparse.set a.trials part (s.now + a.trialOf part) }
      let s1 := (((s.setAct a1).journal 3 [BitVec.ofNat 8 part]).put F.UPD_STAT_ACT 3).put F.UPD_STAT_PART part
      if 0x10 ≤ part ∧ part < 0x14 then (s1.put F.UPD_HEALTH_TRIAL 1 (part - 0x10)).event (part - 0x10) 16 1 0xFFFF else s1
    else s
  | none => s

/-- A revert (R671): REVERTED, then every partition already restarted restarts from the running generation, in falling order; or a software
device reset. -/
def State.revert (s : State) (part cause reason : Nat) : State :=
  match s.upd.act with
  | none => s
  | some a =>
    let s1 := (s.revertNote part cause reason).actEnd 2 part cause reason
    if a.full then s1.softReset
    else a.tried.reverse.foldl (fun t p => t.restartBegin p 7 (t.seat p)) s1

/-- The commit record (R670), as one page; `ok_` is false where the program or the read-back fails. -/
def State.commitScaffold (s : State) (a : Activation) (part : Nat) (ok_ : Bool) : State :=
  let p := ptrBase a.gen
  let body : List Byte := [0x4B#8, 0x58#8, 0x47#8, 0x50#8, if a.gen = 0 then 0x0A#8 else 0x0B#8, 0#8, 0#8, 0#8] ++ leB 4 (a.base + 1) ++
    (a.digest ++ leB 4 a.jseq ++ (t0Words s.now).flatMap (fun w => leB 4 w.toNat) ++ List.replicate 240 0#8).take 240
  let s1 := s.put F.UPD_STAT_ACT 4
  if ok_ then
    let s2 := s1.wrBytes p (body ++ leB 4 (crcCode 3 (body.map (fun b => b.toNat))))
    ((({ s2 with upd := { s2.upd with staged := [], kept := [] } }).journal 6 (leB 4 a.jseq)).put F.UPD_STAT_GEN a.gen).actEnd 1 part 0 0
  else (s1.eraseSector p).revert part 7 0

/-- A listed part is healthy (R669): the next partition is tried, or the commit record is written once all are. -/
def State.healthyPart (s : State) (part : Nat) (ok_ : Bool) : State :=
  match s.upd.act with
  | some a =>
    if a.endAt.isSome ∧ a.entries.any (fun e => e.part == part) ∧ part ∉ a.healthy then
      let a1 := { a with healthy := a.healthy ++ [part], trials := Sparse.erase a.trials part }
      let s1 := (s.setAct a1).journal 4 [BitVec.ofNat 8 part]
      let s2 := if 0x10 ≤ part ∧ part < 0x14 then s1.put F.UPD_HEALTH_TRIAL 0 (part - 0x10) else s1
      if a1.entries.all (fun e => a1.healthy.contains e.part) then s2.commitScaffold a1 part ok_
      else if a1.full then s2
      else s2.tryNext a1
    else s
  | none => s

/-- A directory of the scaffold as the manifest builds it (R115, R666). -/
def dirBytes (es : List (Nat × Nat × Nat)) : List Byte :=
  let rows := es.flatMap (fun (e : Nat × Nat × Nat) => [BitVec.ofNat 8 e.1, 0#8, 0#8, 0#8] ++ leB 4 e.2.1 ++ leB 4 e.2.2 ++ [0#8, 0#8, 0#8, 0#8])
  ([0x4B#8, 0x58#8, 0x47#8, 0x44#8] ++ List.replicate 12 0#8 ++ rows ++ List.replicate 4092 0#8).take 4092

/-- A full activation begins its trial (R668): every running partition restarts at once, and the scaffold configuration is read. -/
def State.fullBegin (s : State) : State :=
  let s1 := s.runningParts.foldl (fun t n => t.restartBegin n 7 (t.seat n) (some 2000) true) (s.put F.UPD_STAT_ACT 2)
  { s1 with boot := { s1.boot with kind := 3, step := 6, refAt := s1.now, jobs := [], parts := [] } }

/-- R666: copies and directory are written (`ok_` false: the flash failed), then the BEGIN record starts the trial. -/
def execScaffoldReady (ok_ : Bool) (s : State) : Host.Outcome State Fault Refusal :=
  s.ends (match s.upd.act with
    | some a =>
      if a.endAt.isSome then s
      else if ok_ = false then (s.revertNote 0 7 0).actEnd 2 0 7 0
      else
        let run := s.genInUse
        let place (e : ManEntry) : Nat × Nat × Nat :=
          (e.part, e.off, if e.src = 0 then e.size else match s.dirEntry run e.part with
            | some (_, n) => n
            | none => e.size)
        let s1 := (a.entries.filter (fun e => e.src == 1)).foldl (fun t e => match s.dirEntry run e.part with
          | some (o, n) => (t.eraseRange (genBase a.gen + e.off) n).wrBytes (genBase a.gen + e.off) (s.rdBytes (genBase run + o) n)
          | none => t) s
        let d := dirBytes (a.entries.map place)
        let s2 := (s1.eraseSector (genBase a.gen)).wrBytes (genBase a.gen) (d ++ leB 4 (crcCode 3 (d.map (fun b => b.toNat))))
        let jseq := s2.upd.jnext
        let s3 := s2.journal 2 ([BitVec.ofNat 8 (if a.gen = 0 then 0x0A else 0x0B), 0#8, 0#8, 0#8] ++ leB 4 a.base ++ a.digest)
        let copies := (a.entries.filter (fun e => e.src == 1)).map (fun e => e.part)
        let tries := (List.range 4).filter (fun n => a.entries.any (fun e => e.src == 0 && e.part == 0x10 + n))
        let a1 := { a with
          endAt := some (s3.now + a.total * secUnits), jseq := jseq
          healthy := if a.full then [] else copies
          todo := if a.full then [] else tries }
        let s4 := { s3.setAct a1 with upd := { (s3.setAct a1).upd with opened := some (a.gen, a.base) } }
        if a.full then s4.fullBegin else s4.tryNext a1
    | none => s)

/-- A partition restarts other than for the activation: under trial, its part fails (R669). -/
def State.restartOf (s : State) (n cause core : Nat) : State :=
  let trial := s.on F.UPD_HEALTH_TRIAL n
  let s1 := s.restartBegin n cause core
  if trial then s1.revert (0x10 + n) 4 0 else s1

/-- A write of UPD_HEALTHn (R669). -/
def State.healthWrite (s : State) (n key : Nat) (ok_ : Bool) : State :=
  let trial := s.on F.UPD_HEALTH_TRIAL n
  if key = 0xA5 then (if trial then s.healthyPart (0x10 + n) ok_ else s)
  else if key = 0x5A then (if trial then s.revert (0x10 + n) 2 0 else s)
  else s.accErr 16

/-- R669, R670: `ok_` is false where the commit record that follows fails. -/
def execHealthyReport (init : Init) (n : Nat) (ok_ : Bool) (s : State) : Host.Outcome State Fault Refusal :=
  s.ends (if n < 4 then s.owned init .UPD_HEALTH n 0 0 (fun t => t.healthWrite n 0xA5 ok_) else s)

/-- R669. -/
def execFailedReport (init : Init) (n : Nat) (s : State) : Host.Outcome State Fault Refusal :=
  s.ends (if n < 4 then s.owned init .UPD_HEALTH n 0 0 (fun t => t.healthWrite n 0x5A true) else s)

/-- R669: the AON core image is healthy when its TRIAL has passed; any other part fails. -/
def execTrialExpiry (part : Nat) (ok_ : Bool) (s : State) : Host.Outcome State Fault Refusal :=
  s.ends (match s.upd.act with
    | some a => match Sparse.get a.trials part with
      | some t => if t ≤ s.now then (if part = 2 then s.healthyPart 2 ok_ else s.revert part 3 0) else s
      | none => s
    | none => s)

/-- R669. -/
def execTotalExpiry (s : State) : Host.Outcome State Fault Refusal :=
  s.ends (match s.upd.act with
    | some a => match a.endAt with
      | some t => if t ≤ s.now then s.revert (s.get F.UPD_STAT_PART) 5 0 else s
      | none => s
    | none => s)

/-- R672. -/
def execSiariAbort (path src sess seq : Nat) (s : State) : Host.Outcome State Fault Refusal :=
  s.ends (s.siariReq path src sess seq 0x21 (fun t x => t.ifHolder x 0x21 seq (fun t =>
    if t.upd.act.isSome then (t.reply x 0x21 seq 0).revert (t.get F.UPD_STAT_PART) 6 0 else t.reply x 0x21 seq 4)))

/-- R674: staged parts and their STAGE records are kept over the bring-up, and a later session need not stage them again. -/
def execJournalCheck (s : State) : Host.Outcome State Fault Refusal :=
  s.ends (if s.upd.due ∧ s.pwr ≤ 1 then
    let s1 := { s with upd := { s.upd with due := false, opened := none, kept := s.upd.staged } }
    match s.upd.opened with
    | some (g, b) =>
      if s1.ptrValid g ∧ s1.ptrSeq g = b + 1 then
        updEvent ((((s1.journal 6 []).put F.UPD_LAST_OUTCOME 1).put F.UPD_LAST_CAUSE 0).bump F.UPD_CNT_COMMITS) 2 1 (s1.get F.UPD_LAST_PART)
      else
        updEvent ((((s1.journal 7 []).put F.UPD_LAST_OUTCOME 3).put F.UPD_LAST_CAUSE 0).bump F.UPD_CNT_REVERTS) 2 3 (s1.get F.UPD_LAST_PART)
    | none => s1
  else s)

/-! ### Secret code, workshop traffic, debug unlock (R676 to R678) -/

/-- R676: PROOF is SHA-256 of the stored code hash and the session's CHALLENGE. -/
def execSiariSecret (path src sess seq : Nat) (proof : List Byte) (s : State) : Host.Outcome State Fault Refusal :=
  s.ends (s.siariReq path src sess seq 0x30 (fun t x => t.ifHolder x 0x30 seq (fun t =>
    let barred := match Sparse.get t.upd.barred path with
      | some e => decide (t.now < e)
      | none => false
    if barred then t.reply x 0x30 seq 12
    else if Sha.digest (toBE 32 t.acc.vehicle.code ++ x.chal) = proof then ({ t with acc := { t.acc with grantTo := some (t.now + 300 * secUnits) } }).reply x 0x30 seq 0
    else if x.wrong < 2 then (t.putSession { x with wrong := x.wrong + 1 }).reply x 0x30 seq 11
    else
      let t1 := (t.reply x 0x30 seq 11).sessionEnd x.value
      { t1 with upd := { t1.upd with barred := Sparse.set t1.upd.barred path (t1.now + 600 * secUnits) } })))

/-- Writes a message's bytes into the words of UPD_WSIN. -/
def State.wsPlace (s : State) (m : List Byte) : State :=
  s.setWords .UPD_WSIN 0 0 ((List.range 260).map (fun k =>
    wordOf (m.getD (4 * k) 0) (m.getD (4 * k + 1) 0) (m.getD (4 * k + 2) 0) (m.getD (4 * k + 3) 0)))

/-- R677. -/
def execWsmsg (path src sess seq : Nat) (m : List Byte) (s : State) : Host.Outcome State Fault Refusal :=
  s.ends (s.siariReq path src sess seq 0x40 (fun t x => t.ifHolder x 0x40 seq (fun t =>
    let typ := (m.getD 0 0).toNat
    if m.length < 8 ∨ 1040 < m.length ∨ typ = 0 ∨ 0x0D < typ then t.reply x 0x40 seq 1
    else if t.upd.ws.isSome then t.reply x 0x40 seq 3
    else
      let t1 := ((t.wsPlace m).put F.UPD_WSCTL_INLEN m.length).put F.UPD_WSCTL_PEND 1
      let t2 := { t1 with upd := { t1.upd with ws := some (x.value, seq, t1.now + 5 * secUnits) } }
      (t2.putSession { x with seq := some seq, reply := [] }).eventTo (.item 0x12 14) 16 4 0xFFFF)))

/-- The answer to a waiting workshop message; one whose session has ended stops waiting unanswered. -/
def State.wsAnswer (s : State) (status : Nat) (payload : List Byte) : State :=
  match s.upd.ws with
  | some (v, q, _) =>
    let s1 := ({ s with upd := { s.upd with ws := none, out := [] } }).put F.UPD_WSCTL_PEND 0
    match s1.session v with
    | some x => s1.reply x 0x40 q status payload
    | none => s1
  | none => s.put F.UPD_WSCTL_PEND 0

/-- A write of GO: UPD_WSOUT holds the island's reply, whose header gives its length. -/
def State.wsGo (s : State) : State :=
  let bytes := (s.words .UPD_WSOUT 0 0).flatMap (fun w => leB 4 w.toNat)
  s.wsAnswer 0 (bytes.take (8 + ofLE ((bytes.drop 2).take 2)))

/-- R677. -/
def execWorkshopReply (init : Init) (s : State) : Host.Outcome State Fault Refusal :=
  s.ends (s.owned init .UPD_WSCTL 0 0 0 (fun t => t.wsGo))

/-- R677. -/
def execWorkshopTimeout (s : State) : Host.Outcome State Fault Refusal :=
  s.ends (match s.upd.ws with
    | some (_, _, t) => if t ≤ s.now then s.wsAnswer 13 [] else s
    | none => s)

/-- R678: a MODE of the debug port. -/
def State.debugMode (s : State) (path src sess seq mode : Nat) : State :=
  s.siariReq path src sess seq 0x50 (fun t x => t.ifHolder x 0x50 seq (fun t =>
    let slot := x.slot.getD 0
    if mode ≠ 0 ∧ slot < 8 then t.reply x 0x50 seq 12 else (t.portMode mode slot).reply x 0x50 seq 0))

/-- R678. -/
def execDebugLock (path src sess seq : Nat) (s : State) : Host.Outcome State Fault Refusal := s.ends (s.debugMode path src sess seq 0)
/-- R678. -/
def execDebugCore (path src sess seq : Nat) (s : State) : Host.Outcome State Fault Refusal := s.ends (s.debugMode path src sess seq 1)
/-- R678. -/
def execDebugBoundaryScan (path src sess seq : Nat) (s : State) : Host.Outcome State Fault Refusal := s.ends (s.debugMode path src sess seq 2)

/-- The effect of a write of a register of the update block. -/
def State.updWrite (s : State) (r : Reg) (i w : Nat) (v : Word) : State :=
  match r with
  | .UPD_HEALTH => s.healthWrite i (bitsOf v 7 0) true
  | .UPD_WSCTL => if bitsOf v 30 30 = 1 then s.wsGo else s
  | r => s.plainWrite r i 0 w v

end Sys2Proof.Machine
end

