-- ==== Sys2Proof/Machine/Service.lean ====
section
/-! DEFINITION. The commands of partition restarts and moves (R645 to R648), and writes of the registers of the system and error block. -/

set_option Elab.async false

namespace Sys2Proof.Machine

/-! ### Writes -/

/-- A write of SYS_PCTLn: the first of RESTART, MOVE and BACK is taken (R645); what R648 forbids is dropped and counted. -/
def State.pctlWrite (s : State) (n : Nat) (v : Word) : State :=
  if bitsOf v 31 29 = 0 then s
  else if (s.restarting n).isSome ∨ !s.canRestart n then s.accErr 15
  else if bitsOf v 31 31 = 1 then s.restartOf n 1 (s.seat n)
  else if bitsOf v 30 30 = 1 then (if s.reliefFree then s.restartOf n 5 4 else s.accErr 15)
  else if 2 ≤ s.coreState n then s.accErr 15
  else s.restartOf n 6 n

/-- A write of SYS_RELIEF: RSTREQ restarts the partitions it names. -/
def State.reliefWrite (s : State) (v : Word) : State :=
  let s1 := s.put F.SYS_RELIEF_AUTO (bitsOf v 31 31)
  (bitList 4 (bitsOf v 7 4)).foldl (fun t n =>
    if (t.restarting n).isSome then t.accErr 15
    else if t.canRestart n then t.restartOf n 2 (t.seat n)
    else t) s1

/-- The effect of a write of a register of the system and error block. -/
def State.sysWrite (s : State) (init : Init) (r : Reg) (i w : Nat) (v : Word) : State :=
  match r with
  | .SYS_PCTL => s.pctlWrite i v
  | .SYS_RELIEF => s.reliefWrite v
  | .SYS_DWDOG => s.dwWrite init v
  | .SYS_TEST => s.svcWrite i v
  | r => s.plainWrite r i 0 w v

/-! ### Meanings -/

/-- A write of SYS_PCTLn by partition n's right. -/
def State.pctlBy (s : State) (init : Init) (n : Nat) (v : Word) : State :=
  if n < 4 then s.owned init .SYS_PCTL n 0 0 (fun t => t.pctlWrite n v) else s

/-- R645. -/
def execPartRestart (init : Init) (n : Nat) (s : State) : Host.Outcome State Fault Refusal := s.ends (s.pctlBy init n 0x80000000#32)
/-- R645. -/
def execPartMove (init : Init) (n : Nat) (s : State) : Host.Outcome State Fault Refusal := s.ends (s.pctlBy init n 0x40000000#32)
/-- R645. -/
def execPartBack (init : Init) (n : Nat) (s : State) : Host.Outcome State Fault Refusal := s.ends (s.pctlBy init n 0x20000000#32)

/-- R645: AUTO stands as it is. -/
def execRstreq (init : Init) (mask : Nat) (s : State) : Host.Outcome State Fault Refusal :=
  s.ends (s.owned init .SYS_RELIEF 0 0 0 (fun t =>
    t.reliefWrite (BitVec.ofNat 32 (t.get F.SYS_RELIEF_AUTO * 2 ^ 31 + mask % 16 * 16))))

/-- The core on which a partition restarts after a check error (R645 cause 4, R648). -/
def State.checkCore (s : State) (n : Nat) : Nat :=
  if s.seat n = 4 then n else if s.on F.SYS_RELIEF_AUTO ∧ s.reliefFree then 4 else s.seat n

/-- R641, R645, R648: the cores on which a check error arises in one cycle; each stops, runs its self-test, and its partition restarts, the lower
partition first. A core that hosts none is counted only. -/
def execCoreCheckError (cores : List Nat) (s : State) : Host.Outcome State Fault Refusal :=
  let cs := (List.range 5).filter (fun c => cores.contains c)
  let hit := (List.range 4).filter (fun n => s.running n && cs.contains (s.host n))
  let s1 := s.bumpBy F.SYS_CORESTAT_CHKERR cs.length
  let s2 := hit.foldl (fun t n => t.setCoreState (s.host n) 2) s1
  s.ends (hit.foldl (fun t n => t.restartOf n 4 (t.checkCore n)) s2)

/-- R646: PD-RC is on, 200 µs after it was asked for, while its prerequisite PD-FAB is (R38). -/
def execReliefCoreReady (s : State) : Host.Outcome State Fault Refusal :=
  s.ends (match s.integ.rcOn with
    | some t =>
      if t + 200 * usUnits ≤ s.now ∧ s.domOn domFAB then
        let s1 := { (s.setDom domRC true).putAligned with integ := { s.integ with rcOn := none } }
        (List.range 4).foldl (fun u n => match u.restarting n with
          | some r => if r.core = 4 ∧ r.stage = 0 then u.restartCore n else u
          | none => u) s1
      else s
    | none => s)

/-- R647. -/
def execCoreSelfTestEnd (c : Nat) (pass : Bool) (s : State) : Host.Outcome State Fault Refusal :=
  s.ends (if c < 5 ∧ s.coreState c = 2 then
    let s1 := if pass then s.setCoreState c 0 else (s.setCoreState c 3).logEntry 17 15 c c
    let s2 := (List.range 4).foldl (fun t n => match t.restarting n with
      | some r => if r.core = c ∧ r.stage = 0 then t.restartCore n else t
      | none => t) s1
    if c = 4 ∧ s2.coreState 4 ≠ 1 ∧ s2.domOn domRC then s2.reliefOff else s2
  else s)

end Sys2Proof.Machine
end

