-- ==== Sys2Proof/Machine/Bus.lean ====
section
/-! DEFINITION. Reads and writes of the register blocks (R14 to R28, R37, R47 to R51, R59, R60, R492, R682), and the handshake links (R31
to R36). -/

set_option Elab.async false

namespace Sys2Proof.Machine

/-! ### Addresses -/

/-- Whether a register is wider than 32 bits (R19): its list gives it more than one word. -/
def Reg.wide (r : Reg) : Bool := decide (1 < r.geom.words)

/-- Whether an address lies in the region of the peripheral blocks. -/
def inBlocks (a : Nat) : Bool := decide (0x40000000 ≤ a) && decide (a < 0x41100000)
def blockOf (a : Nat) : Nat := (a - 0x40000000) / 0x100000

/-- Whether an address lies in a region that is decoded for every initiator (R59). -/
def decoded (a : Nat) : Bool :=
  decide (a < 0x10000) || (decide (0x10000000 ≤ a) && decide (a < 0x10800000)) ||
    (decide (0x20000000 ≤ a) && decide (a < 0x28000000)) || inBlocks a

/-- The group page an address of a channel block lies in, with its offset there; 32 is the all-channel page (R254). -/
def pageOf (a : Nat) : Option (Nat × Nat × Nat) :=
  let k := blockOf a
  let o := a % 0x100000
  if inBlocks a && (k == 3 || k == 4 || k == 5) then
    if 0x80000 ≤ o ∧ o < 0xA0000 then some (k, (o - 0x80000) / 0x1000, o % 0x1000)
    else if 0xF0000 ≤ o ∧ o < 0xF1000 then some (k, 32, o % 0x1000)
    else none
  else none

/-- The channel register at an offset of a group page: the one at that offset of the block. -/
def pageReg (k o : Nat) : Option Reg :=
  if o < 0xF00 then match regAt (0x40000000 + 0x100000 * k + o) with
    | some (r, _, _, _) => some r
    | none => none
  else none

/-- Stencil program memory: the stencil library alone fills it. -/
def inStencils (a : Nat) : Bool := decide (0x405A0000 ≤ a) && decide (a < 0x405B0000)

/-! ### Shared SRAM (R134, R606, R630) -/

/-- A store narrower than 64 bits into an uncorrectable word is dropped (R630); `a` is the address as its initiator gave it. -/
def State.badStore (s : State) (init : Init) (a : Nat) : State :=
  match init with
  | .part n => (s.badSeen 3 a).event n 15 5 0xFFFF a 7
  | _ => s.badSeen 3 a

/-- Whether an address of shared SRAM lies in partition n's range. -/
def State.inRange (s : State) (n a : Nat) : Bool :=
  let p := Sparse.at s.cfg.place n Placement.absent
  p.present && decide (p.base ≤ a) && decide (a < p.base + p.size)

/-- A write into shared SRAM outside the partition's own range is dropped and counted (R606). -/
def State.rangeDrop (s : State) (n a : Nat) : State :=
  ((s.bump F.SYS_OWNDROP_DROPS n).put F.SYS_OWNLAST_ADDR (a / 4) n).put F.SYS_OWNLAST_CAUSE
    (if (List.range 4).any (fun k => s.inRange k a) then 0 else 1) n

/-- A store of bytes within one 64-bit word of shared SRAM; the boot loader, the Siari engine and the switch's agents are exempt from R606. -/
def State.sramStore (s : State) (init : Init) (a : Nat) (bs : List Byte) : State :=
  let go : State := if s.wordBad a then s.badStore init a else s.wrBytes a bs
  match init with
  | .part n => if s.inRange n a then go else s.rangeDrop n a
  | _ => go

/-! ### Live values -/

/-- The word of a register as it reads now (R25): fields that run or that other state gives are filled in. -/
def State.liveWord (s : State) (init : Init) (r : Reg) (i j w : Nat) : Word :=
  let plain := s.word r i j w
  match r with
  | .TIM_T0 => (t0Words s.now).getD w 0
  | .TIM_T1 => if s.scaleValid 1 then (timeWords (coarseFrac (s.scaleAt 1 s.now).toNat)).getD w 0 else 0
  | .TIM_T2 => if s.scaleValid 2 then (timeWords (coarseFrac (s.scaleAt 2 s.now).toNat)).getD w 0 else 0
  | .TIM_T3 => match s.t3Value with
    | some t => (timeWords (coarseFrac t)).getD w 0
    | none => 0
  | .TIM_STAT => if s.t3Value.isSome then plain else setBits plain 5 5 0
  | .PSW_WDSTAT => (s.put F.PSW_WDSTAT_REMAIN s.wdRemain).word r i j w
  | .ACC_LOCKOUT => s.accLive.word r i j w
  | .ACC_POLL => if s.acc.clock.isSome then setBits plain 27 27 (if s.pollPeriod.isNone then 1 else 0) else plain
  | .SYS_PARTHOST => setBits plain 18 16 (initCode init)
  | .LGT_SDIAG => if s.out (128 + i) = 0 then plain else setBits plain 11 0 (s.driveCurrent i)
  | .SYS_DOMSTAT => setBits (setBits (setBits plain 9 0 (s.dom % 1024)) 10 10 1) 11 11 (s.get F.MTR_STAT_LINK)
  | .UPD_STAT =>
    let left := match s.upd.act with
      | some a => match a.endAt with
        | some t => min 255 ((t - s.now + secUnits - 1) / secUnits)
        | none => 0
      | none => 0
    setBits plain 7 0 left
  | _ => plain

/-- What a read returns of a word: WO and reserved bits read zero (R14, R17). -/
def State.readWord (s : State) (init : Init) (r : Reg) (i j w : Nat) : Word :=
  s.rcSeen r i j w (s.liveWord init r i j w) &&& r.readable w

/-! ### Reads -/

/-- Whether an initiator's read acts as the owner's: it clears RC fields and starts actions (R16, R27, R49). -/
def State.ownRead (s : State) (init : Init) (r : Reg) (i : Nat) : Bool := s.ownsSpec init (s.ownSpec r i)

/-- Clears the RC fields of a word, but for what hardware changed in this access cycle (R16); NEW of a CAN buffer that transmits is no RC
field there (R422, R425). -/
def State.rcClear (s0 : State) (r : Reg) (i j w : Nat) : State :=
  let old := s0.word r i j w
  let v := s0.rcLeft r i j w
  let c := s0.changed r i j w
  let s := if c.2 = 0 then s0 else s0.setChanged r i j w (r.rcCleared w c.1, c.2)
  let v' := if r = .CAN_MB ∧ w = 23 ∧ s.get F.CAN_MBID_DIR i j = 2 then setBits v 31 31 (bitsOf old 31 31) else v
  if v' = old then s else s.setWord r i j w v'

/-- The taking of a snapshot by an owner or by another initiator: the owner's clears RC fields (R27), and any marks a stamp as read (R182,
R405). -/
def State.snapTaken (s : State) (mine : Bool) (r : Reg) (i j : Nat) : State :=
  let s1 := if mine then (List.range r.geom.words).foldl (fun t w => t.rcClear r i j w) s else s
  match r with
  | .FIN_FSTAMP => s1.setFin (88 + i) { s1.fin_ (88 + i) with unread := false }
  | .TIM_TCICAP => s1.setTci i { s1.tci i with unread := false }
  | _ => s1

/-- The snapshot that an initiator holds of a register. -/
def State.snapOf (s : State) (init : Init) (r : Reg) (i j : Nat) : Option Snap :=
  s.bus.snaps.find? (fun x => x.init = init && x.reg = r && x.i = i && x.j = j)

/-- A read of word w of a register wider than 32 bits (R19 to R24, R27). -/
def State.wideRead (s : State) (init : Init) (r : Reg) (i j w : Nat) : State × Word :=
  let mine := s.ownRead init r i
  let gone (t : State) : State := if r = .CAN_FIFO ∧ mine ∧ w = 23 then t.canFifoRemove i else t
  if w = 0 then
    let ws := (List.range r.geom.words).map (fun k => s.readWord init r i j k)
    let rest := s.bus.snaps.filter (fun x => !(x.init = init && x.reg = r && x.i = i && x.j = j))
    let s1 : State := { s with bus := { s.bus with snaps := rest ++ [⟨init, r, i, j, ws, s.now⟩] } }
    (s1.snapTaken mine r i j, ws.getD 0 0)
  else match s.snapOf init r i j with
    | some x => (if w + 1 = r.geom.words then gone (s.snapRelease init r i j) else s, x.words.getD w 0)
    | none => (gone (s.snapErr r.block), s.readWord init r i j w)

/-- A read of a register. -/
def State.regRead (s : State) (init : Init) (r : Reg) (i j w : Nat) : State × Word :=
  if r.wide then s.wideRead init r i j w
  else (if s.ownRead init r i then s.rcClear r i j w else s, s.readWord init r i j w)

/-- A read into an island whose domain is off (R37). -/
def State.offRead (s : State) (init : Init) (a : Nat) : State :=
  let s1 := ((s.bump F.ERR_BLK2_DOMOFF 15).cum 20).logEntry 3 15 0xFFFF a (initCode init)
  match init with
  | .part n => s1.event n 15 2 0xFFFF a
  | _ => s1

/-- A read of a word by an initiator over the fabric, with the word it returns. -/
def State.busRead (s : State) (init : Init) (a0 : Nat) : State × Word :=
  let a := a0 / 4 * 4
  if !s.domOn domFAB ∧ (init ≠ .aon ∨ !(inRetention a || (inBlocks a && (blockOf a == 13 || blockOf a == 12)))) then (s, 0)
  else if init = .aon ∧ inRetention a then (s, s.rd32 a)
  else if inBlocks a then
    let k := blockOf a
    if !s.blockOn k ∧ !s.aonAccess init k then (s.offRead init a, 0)
    else if inStencils a then (s, s.rd32 a)
    else match pageOf a with
      | some (b, _, o) =>
        if 0xF00 ≤ o then match regAt a with
          | some (r, i, j, w) => s.regRead init r i j w
          | none => (s.accErr k, 0)
        else if (pageReg b o).isSome then (s, 0)
        else (s.accErr k, 0)
      | none => match regAt a with
        | some (r, i, j, w) => s.regRead init r i j w
        | none => (s.accErr k, 0)
  else if 0x20000000 ≤ a ∧ a < 0x28000000 ∧ !csOk s.boot.cs a then (s.accErr 15, 0)
  else if decoded a then (s, if s.wordBad a then 0 else s.rd32 a)
  else (s.accErr 15, 0)

/-! ### Writes -/

/-- The effect of the whole value of a register wider than 32 bits (R28). -/
def State.wideApply (s : State) (init : Init) (r : Reg) (i j : Nat) (ws : List Word) : State :=
  let each : State := (List.range r.geom.words).foldl (fun t w => t.setWord r i j w (t.written r i j w (ws.getD w 0))) s
  match r with
  | .SCH_ENTRY => if s.entryOk i j then each.madeGood (r.addr i j 0) 32 else s.accErr 2
  | .SCH_TSWAP => if s.on F.SCH_TCTL_SWAPREQ i then s.accErr 2 else each
  | .LGT_EXPW => each.exposures
  | .CAN_MB => s.canMbWrite i j ws
  | .LIN_FR => s.linFrWrite i j ws
  | .LIN_ENT => s.linEntWrite i j ws
  | .NWK_SET => s.nwkSetWrite i j ws
  | .ACC_FNREQ => s.fnWrite i ws
  | r =>
    if r.block = 0 then s.timWide r i ws
    else if r.block = 1 then s.eswWide r i j ws
    else if r.block = 10 then s.gwyWide init r i ws
    else each

/-- A write of word w of a register wider than 32 bits: staged for the writer below the last word, which applies the whole value; one with
an NSEC out of range is dropped (R28, R145). -/
def State.wideWrite (s : State) (init : Init) (r : Reg) (i j w : Nat) (v : Word) : State :=
  let own (x : Staged) : Bool := x.init = init && x.reg = r && x.i = i && x.j = j
  if !r.writable then s.accErr r.block
  else if w + 1 < r.geom.words then
    let rest := s.bus.staged.filter (fun x => !(own x && x.word == w))
    { s with bus := { s.bus with staged := rest ++ [⟨init, r, i, j, w, v⟩] } }
  else
    let word (k : Nat) : Word := match s.bus.staged.find? (fun x => own x && x.word == k) with
      | some x => x.val
      | none => s.word r i j k
    let ws := (List.range w).map word ++ [v]
    let s1 := { s with bus := { s.bus with staged := s.bus.staged.filter (fun x => !own x) } }
    let bad := match timePart r with
      | some k => !nsecOk (ws.getD (k + 1) 0)
      | none => false
    if bad then s1.accErr r.block else s1.wideApply init r i j ws

/-- The effect of a write of a one-word register by its block. -/
def State.wordWrite (s : State) (init : Init) (r : Reg) (i j w : Nat) (v : Word) : State :=
  match r.block with
  | 0 => s.timWrite r i j w v
  | 1 => s.eswWrite r i j w v
  | 2 => s.schWrite init r i j w v
  | 3 => s.pswWrite init r i w v
  | 4 => s.vlvWrite init r i w v
  | 5 => s.lgtWrite init r i j w v
  | 6 => s.finWrite r i j w v
  | 7 => s.canWrite r i j w v
  | 8 => s.linWrite r i j w v
  | 9 => s.nwkWrite r i j w v
  | 10 => s.gwyWrite r i j w v
  | 13 => s.pmuWrite init r i w v
  | 14 => s.mtrWrite r i w v
  | 15 => s.sysWrite init r i w v
  | 16 => s.updWrite r i w v
  | _ => s.plainWrite r i j w v

/-- A write of a register, under the ownership rule (R47, R48). The words of a reflex rule are written one by one: R268 gives a write of word 0,
and of words 1, 3, 4 and 5, an effect of its own. -/
def State.regWrite (s : State) (init : Init) (r : Reg) (i j w : Nat) (v : Word) : State :=
  match r with
  | .GWY_SIG => s.sigWrite init v
  | .SCH_RFXREL => s.rfxRel init (bitsOf v 7 0)
  | .PSW_GCTL | .VLV_GCTL | .LGT_SYNC => s.gctlBy init r.block i v
  | .PSW_AGCTL | .VLV_AGCTL | .LGT_ASYNC => s.gctlBy init r.block 32 v
  | .PSW_MEMBER | .VLV_MEMBER | .LGT_MEMBER => s.owned init r i j w (fun t => t.memberWrite r.block i j v)
  | .SCH_RULE => s.owned init .SCH_RULE i j w (fun t => t.wordWrite init .SCH_RULE i j w v)
  | r => s.owned init r i j w (fun t => if r.wide then t.wideWrite init r i j w v else t.wordWrite init r i j w v)

/-- A write of a word by an initiator over the fabric. Flash and boot ROM take none. -/
def State.busWrite (s : State) (init : Init) (a0 : Nat) (v : Word) : State :=
  let a := a0 / 4 * 4
  if !s.domOn domFAB ∧ (init ≠ .aon ∨ !(inRetention a || (inBlocks a && (blockOf a == 13 || blockOf a == 12)))) then s
  else if init = .aon ∧ inRetention a then s.wr32 a v
  else if inBlocks a then
    let k := blockOf a
    if !s.blockOn k ∧ !s.aonAccess init k then s.offWrite init a
    else if inStencils a then s.accErr k
    else match pageOf a with
      | some (b, g, o) =>
        if 0xF00 ≤ o then match regAt a with
          | some (r, i, j, w) => s.regWrite init r i j w v
          | none => s.accErr k
        else match pageReg b o with
          | some r => s.pageWrite init b g r v a
          | none => s.accErr k
      | none => match regAt a with
        | some (r, i, j, w) => s.regWrite init r i j w v
        | none => s.accErr k
  else if 0x10000000 ≤ a ∧ a < 0x10800000 then s.sramStore init a (bytesOf v)
  else s.accErr 15

/-! ### Meanings -/

/-- Keeps the word that an initiator has read, by its identity code. -/
def State.returned (p : State × Word) (init : Init) : State :=
  let k := match init with
    | .part n => n
    | .aon => 4
    | .boot => 5
    | .siari => 6
    | .switch => 7
  { p.1 with bus := { p.1.bus with rdata := Sparse.set p.1.bus.rdata k p.2 } }

/-- A read by an initiator. -/
def State.readBy (s : State) (init : Init) (a : Nat) : State := State.returned (s.busRead init a) init

/-- R19. -/
def execSnapshot (init : Init) (a : Nat) (s : State) : Host.Outcome State Fault Refusal := s.ends (s.readBy init a)
/-- R21. -/
def execSnapshotRelease (init : Init) (a : Nat) (s : State) : Host.Outcome State Fault Refusal := s.ends (s.readBy init a)
/-- R24. -/
def execTornRead (init : Init) (a : Nat) (s : State) : Host.Outcome State Fault Refusal := s.ends (s.readBy init a)

/-- R23: the register whose snapshot has been held is named by the address of any of its words. -/
def execAbandonedSnapshot (init : Init) (a : Nat) (s : State) : Host.Outcome State Fault Refusal :=
  s.ends (match regAt (a / 4 * 4) with
    | some (r, i, j, _) => match s.snapOf init r i j with
      | some x => if x.at_ + 250 * usUnits ≤ s.now then (s.snapErr r.block).snapRelease init r i j else s
      | none => s
    | none => s)

/-- R28. -/
def execWideWordStage (init : Init) (a v : Nat) (s : State) : Host.Outcome State Fault Refusal := s.ends (s.busWrite init a (BitVec.ofNat 32 v))
/-- R14. -/
def execRegisterWrite (init : Init) (a v : Nat) (s : State) : Host.Outcome State Fault Refusal := s.ends (s.busWrite init a (BitVec.ofNat 32 v))

/-- An access by an initiator: a write of a value, or a read. -/
def State.busAccess (s : State) (init : Init) (a : Nat) (w : Option Nat) : State :=
  match w with
  | some v => s.busWrite init a (BitVec.ofNat 32 v)
  | none => s.readBy init a

/-- R18: a write of `v`, or a read where there is none. -/
def execUndefinedAddressAccess (init : Init) (a : Nat) (v : Option Nat) (s : State) : Host.Outcome State Fault Refusal := s.ends (s.busAccess init a v)
/-- R59. -/
def execUndecodedAddressAccess (init : Init) (a : Nat) (v : Option Nat) (s : State) : Host.Outcome State Fault Refusal := s.ends (s.busAccess init a v)
/-- R37. -/
def execDomainOffRead (init : Init) (a : Nat) (s : State) : Host.Outcome State Fault Refusal := s.ends (s.readBy init a)
/-- R492. -/
def execDomainOffPostedWrite (init : Init) (addr v : Nat) (s : State) : Host.Outcome State Fault Refusal :=
  s.ends (s.busWrite init addr (BitVec.ofNat 32 v))
/-- R14, R16. -/
def execRcFieldRead (init : Init) (a : Nat) (s : State) : Host.Outcome State Fault Refusal := s.ends (s.readBy init a)
/-- R256. -/
def execGroupAliasWrite (init : Init) (a v : Nat) (s : State) : Host.Outcome State Fault Refusal := s.ends (s.busWrite init a (BitVec.ofNat 32 v))
/-- R260: MEMBERw of group g of block 3, 4 or 5. -/
def execMemberWrite (init : Init) (block g w v : Nat) (s : State) : Host.Outcome State Fault Refusal :=
  s.ends (if (block = 3 ∨ block = 4 ∨ block = 5) ∧ g < 32 ∧ w < 8 then
    s.busWrite init (0x40000000 + 0x100000 * block + 0x80000 + 0x1000 * g + 0xF00 + 4 * w) (BitVec.ofNat 32 v)
  else s)
/-- R424. An entry that its owner's read finds uncorrectable is dropped and counted (R630). -/
def execFifoEntryRemove (init : Init) (c : Nat) (unc : Bool) (s : State) : Host.Outcome State Fault Refusal :=
  s.ends (if 10 ≤ c then s
    else if unc ∧ s.domOn domFAB ∧ s.domOn domBUS ∧ s.ownsSpec init (.item 0x0E c) ∧ (s.can_ c).fifo ≠ [] then
      (((s.snapRelease init .CAN_FIFO c 0).ramLost 7 12 (Reg.addr .CAN_FIFO c 0 0)).canFifoRemove c).bump F.CAN_ECNT1_RXDROP c
    else s.readBy init (Reg.addr .CAN_FIFO c 0 23))

/-! ### Handshake links (R31 to R36) -/

def State.link (s : State) (l : Nat) : LinkState := Sparse.at s.links.links l LinkState.good
def State.setLink (s : State) (l : Nat) (v : LinkState) : State := { s with links := { s.links with links := Sparse.set s.links.links l v } }

/-- The lane of 0 to 80 that carries nothing: the spare, lane 80, until a failed lane's traffic has moved to it (R31, R34). -/
def LinkState.unused (k : LinkState) : Nat := k.moved.getD 80

/-- A lane fails: its traffic moves to the spare, or, the spare being used, the code corrects it from now on (R34, R35). A spare that is found
failed while it is unused takes no traffic later (DESIGN CHOICE, log entry 140). -/
def State.laneFail (s : State) (l lane : Nat) : State :=
  let k := s.link l
  if 80 < lane ∨ lane ∈ k.failed ∨ k.moved = some lane then s
  else if lane = k.unused then s.setLink l { k with failed := k.failed ++ [lane] }
  else
    let s1 := if k.moved.isNone ∧ 80 ∉ k.failed then
        ((s.setLink l { k with moved := some lane, pausedTo := some (s.now + 20 * usUnits), hits := Sparse.erase k.hits lane }).bump F.ERR_BLK3_LANEMOVE 15).cum 5
      else ((s.setLink l { k with failed := k.failed ++ [lane], hits := Sparse.erase k.hits lane }).bump F.ERR_BLK3_LANE2 15).cum 6
    (s1.logEntry 2 15 0xFFFF l lane).eventAll s1.runningParts 15 1 0xFFFF

/-- A corrected error on a lane; 32 within 10 ms fail it (R33). -/
def State.laneHit (s : State) (l lane : Nat) : State :=
  let k := s.link l
  let hs := (Sparse.at k.hits lane []).filter (fun t => decide (s.now < t + 10 * msUnits)) ++ [s.now]
  let s1 := s.setLink l { k with hits := Sparse.set k.hits lane hs }
  if 32 ≤ hs.length then s1.laneFail l lane else s1

/-- The lanes of link l, of those in use, on which a word has an error: `lanes`, and the failed ones that the code corrects in every word. -/
def State.badLanes (s : State) (l : Nat) (lanes : List Nat) : List Nat :=
  let k := s.link l
  (List.range 81).filter (fun x => x != k.unused && (lanes.contains x || k.failed.contains x))

/-- R33: the lanes that the idle-pattern check of link l finds stuck. -/
def execIdlePatternCheck (l : Nat) (stuck : List Nat) (s : State) : Host.Outcome State Fault Refusal :=
  s.ends (if s.domOn domFAB then ((List.range 81).filter (fun x => stuck.contains x)).foldl (fun t x => t.laneFail l x) s else s)

/-- R34. -/
def execLaneMoveComplete (l : Nat) (s : State) : Host.Outcome State Fault Refusal :=
  s.ends (s.setLink l { s.link l with pausedTo := none })

end Sys2Proof.Machine
end

