-- ==== Sys2Proof/Machine/Boot.lean ====
section
/-! DEFINITION. Bring-up from the configuration image (R105 to R141): domains, flash probe, part checks, the configuration block, register
block records, the parts of step 10; images of restarts and activations (R646, R667, R668); and the dust sheet (R546 to R550). -/

set_option Elab.async false

namespace Sys2Proof.Machine

/-! ### Blocks of the configuration block (R121) -/

/-- The blocks of a configuration block body as (TYPE, COUNT, block body); none where a header is cut short or a CRC is wrong. A block of
another FORMAT counts as one of unknown TYPE. -/
def cfgBlocks : Nat → List Byte → Option (List (Nat × Nat × List Byte))
  | 0, _ => some []
  | _ + 1, [] => some []
  | n + 1, b :: bs =>
    let all := b :: bs
    let len := ofLE ((all.drop 4).take 4)
    let body := (all.drop 16).take len
    let typ := if (all.getD 1 0).toNat = 1 then b.toNat else 0
    if all.length < 16 + len ∨ len % 8 ≠ 0 ∨ ofLE ((all.drop 12).take 4) ≠ crcCode 3 (body.map (fun x => x.toNat)) then none
    else (cfgBlocks n (all.drop (16 + len))).map (fun rest => (typ, ofLE ((all.drop 8).take 4), body) :: rest)

/-- The 32-bit words of bytes, low byte first. -/
def wordsOf : List Byte → List Word
  | a :: b :: c :: d :: rest => wordOf a b c d :: wordsOf rest
  | _ => []

/-- Number at an offset of bytes. -/
def numAt (bs : List Byte) (off n : Nat) : Nat := ofLE ((bs.drop off).take n)

/-- Index range of an item class (R125). -/
def classLast (cls : Nat) : Option Nat :=
  match cls with
  | 0x01 => some 59
  | 0x02 => some 7
  | 0x03 => some 23
  | 0x04 => some 15
  | 0x05 => some 95
  | 0x06 => some 35
  | 0x07 => some 15
  | 0x08 => some 7
  | 0x09 => some 7
  | 0x0A => some 255
  | 0x0B => some 191
  | 0x0C => some 4095
  | 0x0D => some 31
  | 0x0E => some 9
  | 0x0F => some 11
  | 0x10 => some 255
  | 0x11 => some 3
  | 0x12 => some 16
  | _ => none

/-- First index of an item class. -/
def classFirst (cls : Nat) : Nat := if cls = 0x0B then 96 else 0

/-- An ownership entry (R125). -/
def ownEntryOf (bs : List Byte) (k : Nat) : OwnEntry :=
  let w := BitVec.ofNat 32 (numAt bs (8 * k) 4)
  ⟨bitsOf w 7 0, bitsOf w 10 8, bitsOf w 31 16, numAt bs (8 * k + 4) 2⟩

/-- Whether the ownership entries satisfy R125 with the partitions that are present. -/
def ownersOk (es : List OwnEntry) (present : Nat → Bool) : Bool :=
  es.all (fun e => decide (e.first ≤ e.last) && decide (classFirst e.cls ≤ e.first) && decide (e.owner < 4) && present e.owner &&
    (match classLast e.cls with
      | some l => decide (e.last ≤ l)
      | none => false)) &&
  decide (es.Pairwise (fun a b => ¬(a.cls = b.cls ∧ a.first ≤ b.last ∧ b.first ≤ a.last)))

/-- A partition placement entry (R124). -/
def placeOf (bs : List Byte) (n : Nat) : Placement :=
  ⟨numAt bs (16 * n) 1 == 1, numAt bs (16 * n + 4) 4, numAt bs (16 * n + 8) 4, numAt bs (16 * n + 12) 2⟩

/-- The words that a record takes, from its first on (R126). -/
def recLen : List Word → Nat
  | [] => 0
  | w :: rest =>
    match bitsOf w 1 0 with
    | 0 => 2
    | 1 => 2 + (rest.headD 0).toNat
    | 2 => 3
    | _ => 4

/-- The records at the head of a word list, at most n, each as its words. -/
def recSplit : Nat → List Word → List (List Word)
  | 0, _ => []
  | _ + 1, [] => []
  | n + 1, w :: ws => (w :: ws).take (recLen (w :: ws)) :: recSplit n ((w :: ws).drop (recLen (w :: ws)))

/-- What a good configuration block body gives: the image, DOMUSE, version, and the number of blocks skipped. -/
structure ConfigImage where
  cfg : CfgState
  domuse : Nat
  version : Nat
  skipped : Nat
deriving DecidableEq, Repr

/-- The content checks of the configuration block (R122); none where one fails. With the domains that R123 marks, no domain lacks a
prerequisite. A register block of more than 16,384 records (R129), or a block body shorter than its COUNT needs, fails them too (DESIGN
CHOICE, log entries 101 and 147). -/
def configOf (body : List Byte) : Option ConfigImage :=
  match cfgBlocks (body.length + 1) body with
  | none => none
  | some bs =>
    let find (t : Nat) : Option (Nat × List Byte) := (bs.find? (fun b => b.1 == t)).map (fun b => b.2)
    match bs.head?, find 2, find 3, find 5 with
    | some (1, _, idn), some (_, pl), some (no, own), some (nr, recs) =>
      let present (n : Nat) : Bool := (placeOf pl n).present
      let owners := (List.range no).map (fun k => ownEntryOf own k)
      let dust := match find 6 with
        | some (nd, d) => ((wordsOf d).take nd).map (fun w => (w.toNat / 4 * 4, bitsOf w 1 0))
        | none => []
      let tow := match find 4 with
        | some (nt, d) => (wordsOf d).take nt
        | none => []
      if idn.length < 12 ∨ own.length < 8 * no ∨ 16384 < nr ∨ present 0 = false ∨ ownersOk owners present = false then none
      else some
        { cfg :=
            { owners := owners
              place := (List.range 4).map (fun n => (n, placeOf pl n))
              dust := dust
              towline := tow
              records := (recSplit nr (wordsOf recs)).flatten
              product := numAt idn 0 4 }
          domuse := numAt idn 8 4
          version := numAt idn 4 4
          skipped := (bs.filter (fun b => b.1 == 0 || decide (6 < b.1))).length }
    | _, _, _, _ => none

/-! ### The towline map (R315, R316) -/

/-- An entry of the towline map that is not ignored, by the valid entries before it. -/
def State.towEntry (s : State) (before : List TowEntry) (w : Word) : Option TowEntry :=
  let cls := bitsOf w 23 16
  let idx := bitsOf w 15 0
  let x := svcTarget cls idx
  let pin := bitsOf w 31 29
  let inClass := (cls == 1 && decide (idx < 60)) || (cls == 2 && decide (idx < 8)) || (cls == 3 && decide (idx < 24))
  let low := bitsOf w 27 27 == 1
  if !inClass ∨ before.any (fun e => e.x == x) ∨ 8 ≤ (before.filter (fun e => e.pin == pin)).length ∨ (low && cls != 2) ∨
      (cls == 2 && s.oddMember x) then none
  else some ⟨pin, bitsOf w 28 28 == 1, low, x⟩

/-- Writes the towline map into the device; a towline that holds acts on the new map. -/
def State.towSet (s : State) (ws : List Word) : State :=
  let good := (ws.take 64).foldl (fun acc w => match s.towEntry acc w with
    | some e => acc ++ [e]
    | none => acc) ([] : List TowEntry)
  let s1 := { (s.put F.PSW_TOWSTAT_ENTRIES good.length).put F.PSW_TOWSTAT_BAD (min 255 (ws.length - good.length)) with
    psw := { s.psw with tow := good } }
  if s1.on F.PSW_WDSTAT_TOWACT then towTargets.foldl (fun t x => t.settle x 2) s1 else s1

/-! ### Parts (R116, R119) -/

/-- Bit pair of a part in SYS_BOOTPART. -/
def partSlot (part : Nat) : Nat :=
  match part with
  | 0x01 => 0
  | 0x02 => 1
  | 0x10 => 2
  | 0x11 => 3
  | 0x12 => 4
  | 0x13 => 5
  | 0x20 => 6
  | 0x21 => 7
  | 0x22 => 8
  | _ => 9

/-- Sets a part's code in SYS_BOOTPART, which shows the running generation (R670). -/
def State.partCode (s : State) (part code : Nat) : State :=
  if s.boot.kind = 3 then s
  else
    let v := s.get F.SYS_BOOTPART_PARTS
    let p := 4 ^ partSlot part
    s.put F.SYS_BOOTPART_PARTS (v - v / p % 4 * p + code * p)

/-- Whether a range of shared SRAM touches a bank that is lost (R134). -/
def State.inLost (s : State) (a n : Nat) : Bool :=
  (List.range 16).any (fun b => bit (s.get F.SYS_SRAMREP_LOST) b &&
    decide (a < 0x10000000 + 0x80000 * (b + 1)) && decide (0x10000000 + 0x80000 * b < a + n))

/-- Address in the model's memory that a part's LOAD names, for a core; none outside the part's permitted load range (check 6). The tables of
the switch, of the schedule plane and of the gateway count as the address windows of their blocks (DESIGN CHOICE, log entry 105). -/
def State.loadAt (s : State) (part core load len : Nat) : Option Nat :=
  let shared := decide (0x10000000 ≤ load) && decide (load + len ≤ 0x10800000) && !s.inLost load len
  let localTo (n : Nat) : Bool := decide (0x08000000 ≤ load) && decide (load + len ≤ 0x08000000 + n)
  if part = 1 then (if shared ∧ len ≤ 0x100000 then some load else none)
  else if part = 2 then (if localTo 0x10000 then some (localBase 5 + (load - 0x08000000)) else none)
  else if part = 0x21 then (if 0x405A0000 ≤ load ∧ load + len ≤ 0x405B0000 then some load else none)
  else if 0x10 ≤ part ∧ part < 0x14 then
    let p := Sparse.at s.cfg.place (part - 0x10) Placement.absent
    if p.size ≠ 0 ∧ s.inLost p.base p.size then none
    else if localTo 0x40000 then some (localBase core + (load - 0x08000000))
    else if shared ∧ p.base ≤ load ∧ load + len ≤ p.base + p.size then some load
    else none
  else
    let window := if part = 0x20 then 0x40100000 else if part = 0x22 then 0x40200000 else 0x40A00000
    match s.partMax part with
    | some m => if len ≤ m ∧ window ≤ load ∧ load < window + 0x100000 then some load else none
    | none => none

/-- Header of a part in a generation: its address, LENGTH, LOAD and ENTRY. -/
def State.partHead (s : State) (g part : Nat) : Option (Nat × Nat × Nat × Nat) :=
  (s.dirEntry g part).map (fun e =>
    let a := genBase g + e.1
    (a, (s.rd32 (a + 0x0C)).toNat, (s.rd32 (a + 0x10)).toNat, (s.rd32 (a + 0x14)).toNat))

/-- The reason code of R119, 0 where the part is accepted, with the plaintext of its body. `verdict` 8 says that the read did not complete, 7
that a table part fails content checks which the spec leaves to a layout it does not give (log entry 105). -/
def State.partJudge (s : State) (g part core verdict : Nat) : Nat × List Byte :=
  match s.dirEntry g part, s.partHead g part with
  | some (_, size), some (a, len, load, _) =>
    if verdict = 8 then (8, [])
    else if !s.headerOk a part size then (1, [])
    else match s.partOpen a with
      | .error why => (why, [])
      | .ok body =>
        if (s.loadAt part core load len).isNone then (6, [])
        else if (verdict = 7 ∧ (part = 0x20 ∨ 0x22 ≤ part)) ∨ (part = 1 ∧ (configOf body).isNone) then (7, [])
        else (0, body)
  | _, _ => (1, [])

/-- Empties the tables that a switch, stencil, table or coupling part is loaded into; rules give up their claims, tables stop. -/
def State.tableWipe (s : State) (part : Nat) : State :=
  if part = 0x20 then
    let s1 := s.resetRegs 1 (fun r _ _ => decide (r = .ESW_VLAN) || decide (r = .ESW_GATE) || decide (r = .ESW_STREAM))
    { s1 with eth := { s1.eth with fdb := [] } }
  else if part = 0x21 then { s with mem := s.mem.filter (fun c => !(decide (0x405A0000 ≤ c.1) && decide (c.1 < 0x405B0000))) }
  else if part = 0x22 then
    let armed := (List.range 256).filter (fun r => s.on F.SCH_RULE_EN r)
    (armed.foldl (fun t r => t.claimRelease r) ((List.range 8).foldl (fun t n => t.tableStop n) s)).resetRegs 1
      (fun r _ _ => decide (r = .SCH_ENTRY) || decide (r = .SCH_RULE))
  else if part = 0x23 then
    let s1 := s.resetRegs 1 (fun r _ _ => decide (r = .GWY_CPL) || decide (r = .GWY_GRP) || decide (r = .GWY_TUN))
    (List.range 63).foldl (fun t g => t.showOut g) s1
  else s

/-- Clears the memory into which a rejected part was being loaded (R120). -/
def State.partClear (s : State) (g part core reason : Nat) : State :=
  match s.partHead g part with
  | some (_, len, load, _) =>
    if reason = 1 then s
    else if 0x20 ≤ part then s.tableWipe part
    else match s.loadAt part core load len with
      | some a =>
        let s1 := ({ s with mem := s.mem.filter (fun c => !(decide (a ≤ c.1) && decide (c.1 < a + len))) }).madeGood a len
        if part = 2 then { s1.setCore 5 Core.off with boot := { s1.boot with entries := Sparse.erase s1.boot.entries 4 } } else s1
      | none => s
  | none => s

/-- Records a rejection (R119, R140). -/
def State.partReject (s : State) (g part core reason : Nat) : State :=
  let s1 := if s.on F.SYS_BOOTREJ_VALID then s
    else (((s.put F.SYS_BOOTREJ_VALID 1).put F.SYS_BOOTREJ_GEN g).put F.SYS_BOOTREJ_PART part).put F.SYS_BOOTREJ_REASON reason
  ((s1.cum 23).logEntry 4 15 0xFFFF part reason).partClear g part core reason

/-- Writes an accepted part's body into its memory. -/
def State.partLoad (s : State) (g part core : Nat) (body : List Byte) : State :=
  match s.partHead g part with
  | some (_, len, load, _) => match s.loadAt part core load len with
    | some a => if 0x22 ≤ part ∨ part = 0x20 then s else (s.wrBytes a body).madeGood a body.length
    | none => s
  | none => s

/-- ENTRY of a part. -/
def State.partEntry (s : State) (g part : Nat) : Nat :=
  match s.partHead g part with
  | some (_, _, _, e) => e
  | none => 0

/-! ### Registers under the boot loader's identity -/

/-- Whether a record's or dust-sheet word's address can be written: within the blocks, in a domain that is on, decoded (R128). -/
def State.recOk (s : State) (a : Nat) : Bool :=
  inBlocks a && s.blockOn (blockOf a) &&
    (match pageOf a with
      | some (b, _, o) => if o < 0xF00 then (pageReg b o).isSome else (regAt a).isSome
      | none => (regAt a).isSome)

/-- The value of a register that a record masks or waits on. -/
def State.recRead (s : State) (a : Nat) : Word :=
  match pageOf a, regAt a with
  | some _, _ => 0
  | none, some (r, i, j, w) => s.readWord .boot r i j w
  | none, none => 0

/-- The partition that owns the item with the register at an address. -/
def State.addrOwner (s : State) (a : Nat) : Option Nat :=
  match pageOf a with
  | some (b, g, _) => if g < 32 then s.ownerOf (.item 0x0B (32 * b + g)) else none
  | none => match regAt a with
    | some (r, i, _, _) => s.ownerOf (s.ownSpec r i)
    | none => none

/-! ### The dust sheet (R546 to R550) -/

/-- Address of word k of bank b. -/
def dustAddr (b k : Nat) : Nat := 0x0C000000 + 0x10000 * b + 8 * k

/-- Takes the list of a configuration: entries that R546 ignores are counted. -/
def State.dustSet (s : State) (ds : List (Nat × Nat)) : State :=
  let good := (ds.take 4096).filter (fun d => inBlocks d.1 && blockOf d.1 != 13)
  ({ s with cfg := { s.cfg with dust := good } }.put F.PMU_DSCNT_ENTRIES good.length).bumpBy F.PMU_DSCNT_BADENT (ds.length - good.length)

/-- Writes a 64-bit word of a bank as its two halves. -/
def State.dustWord (s : State) (b k : Nat) (lo hi : Word) : State :=
  ((s.wr32 (dustAddr b k) lo).wr32 (dustAddr b k + 4) hi).madeGood (dustAddr b k) 8

/-- The CRC of a seal: code 4 over words 0 to n, then SEQ. -/
def State.dustCrc (s : State) (b n seq : Nat) : Nat := crcCode 4 (s.nums (dustAddr b 0) (8 * (n + 1)) ++ bytes4 seq)

/-- Writes a bank: header, records and seal. -/
def State.dustBank (s : State) (b seq : Nat) (recs : List (Nat × Word)) : State :=
  let s1 := s.dustWord b 0 (BitVec.ofNat 32 s.boot.version) (BitVec.ofNat 32 recs.length)
  let s2 := ((List.range recs.length).zip recs).foldl (fun t (c : Nat × Nat × Word) => t.dustWord b (c.1 + 1) (BitVec.ofNat 32 c.2.1) c.2.2) s1
  let s3 := s2.dustWord b 8191 (BitVec.ofNat 32 (s2.dustCrc b recs.length seq)) (BitVec.ofNat 32 seq)
  s3.put F.PMU_DSSTAT_ALL (setBit (s3.get F.PMU_DSSTAT_ALL) (8 * b + 7) true)

/-- One entry is read under the boot loader's identity, or skipped where its domain is off. -/
def State.dustRead (p : State × List (Nat × Nat × Word)) (d : Nat × Nat) : State × List (Nat × Nat × Word) :=
  if p.1.blockOn (blockOf d.1) then
    let r := p.1.busRead .boot d.1
    (r.1, p.2 ++ [(d.2, d.1, r.2)])
  else (p.1.bump F.PMU_DSCNT_BADENT, p.2)

/-- The save of step 3 of R530. -/
def State.dustSave (s : State) : State :=
  let s1 := s.wrap F.PMU_DSCTL_SEQ
  let s2 := ([0, 1, 2, 3] : List Nat).foldl (fun t b => t.put F.PMU_DSSTAT_ALL (setBit (t.get F.PMU_DSSTAT_ALL) (8 * b + 7) false)) s1
  let p := s2.cfg.dust.foldl State.dustRead (s2, [])
  let seq := p.1.get F.PMU_DSCTL_SEQ
  (([0, 1, 2, 3] : List Nat).filter (fun b => s.cfg.dust.any (fun d => d.2 == b))).foldl (fun t b =>
    t.dustBank b seq ((p.2.filter (fun c => c.1 == b)).map (fun c => c.2))) p.1

/-- Whether word k of bank b is uncorrectable. -/
def State.dustBad (s : State) (b k : Nat) : Bool := s.cpu.bad.contains (dustAddr b k)

/-- The cause for which a bank is not restored, 0 where it is (R549, R550). -/
def State.dustCause (s : State) (b : Nat) : Nat :=
  let n := (s.rd16 (dustAddr b 0 + 4)).toNat
  let seq := (s.rd32 (dustAddr b 8191 + 4)).toNat
  if s.dustBad b 8191 ∨ s.dustBad b 0 ∨ (n ≤ 8190 ∧ (List.range (n + 1)).any (fun k => s.dustBad b k)) then 1
  else if 8190 < n ∨ seq ≠ s.get F.PMU_DSCTL_SEQ ∨ (s.rd32 (dustAddr b 8191)).toNat ≠ s.dustCrc b n seq then 2
  else if (s.rd32 (dustAddr b 0)).toNat ≠ s.boot.version then 3
  else 0

/-- A bank is not restored. -/
def State.dustLost (s : State) (b cause : Nat) : State :=
  let v := s.get F.PMU_DSSTAT_ALL
  let s1 := s.put F.PMU_DSSTAT_ALL (setBit (setBit v (8 * b + 4) (bit cause 0)) (8 * b + 5) (bit cause 1))
  let s2 := (s1.put F.PMU_WAKECAUSE_LOST (setBit (s1.get F.PMU_WAKECAUSE_LOST) b true)).cum 22
  let s3 := s2.logEntry 13 13 0xFFFF b cause
  let ns := (List.range 4).filter (fun n => s3.cfg.dust.any (fun d => d.2 == b && s3.addrOwner d.1 == some n))
  ns.foldl (fun t n => t.eventAtStart n 13 4 0xFFFF b cause) s3

/-- Record k of bank b is written back. -/
def State.dustBack (s : State) (b k : Nat) : State :=
  let a := (s.rd32 (dustAddr b k)).toNat / 4 * 4
  if s.recOk a then s.busWrite .boot a (s.rd32 (dustAddr b k + 4)) else s.bump F.PMU_DSCNT_RFAIL

/-- Restores the used banks in order. -/
def State.dustRestore (s : State) : State :=
  let used := ([0, 1, 2, 3] : List Nat).filter (fun b => bit (s.get F.PMU_DSSTAT_ALL) (8 * b + 7))
  let s1 := ([0, 1, 2, 3] : List Nat).foldl (fun t b =>
    let v := t.get F.PMU_DSSTAT_ALL
    t.put F.PMU_DSSTAT_ALL (setBit (setBit (setBit v (8 * b + 6) false) (8 * b + 5) false) (8 * b + 4) false)) s
  used.foldl (fun t b =>
    let c := t.dustCause b
    if c ≠ 0 then t.dustLost b c
    else
      let n := (t.rd16 (dustAddr b 0 + 4)).toNat
      let t1 := (List.range n).foldl (fun u k => u.dustBack b (k + 1)) t
      t1.put F.PMU_DSSTAT_ALL (setBit (t1.get F.PMU_DSSTAT_ALL) (8 * b + 6) true)) s1

/-! ### Service-only state, RUN -/

/-- Enters service-only state (R137, R139). -/
def State.serviceOn (s : State) (cause : Nat) : State :=
  let s1 := ((s.put F.SYS_BOOTSTAT_STATE 2).put F.SYS_BOOTSTAT_CAUSE cause).logEntry 6 15 0xFFFF (if cause = 4 then 1 else 0) cause
  { s1 with boot := { s1.boot with step := 12, doms := [domNET], jobs := [], parts := [], serviceAt := some s1.now } }

/-- SYS_BOOTSTAT as RUN is entered. -/
def State.runShow (s : State) : State :=
  let t := (s.now - s.boot.refAt) / (10 * usUnits)
  let s1 := (s.put F.SYS_BOOTSTAT_STATE 1).put F.SYS_BOOTSTAT_BOOTTIME (min 0xFFFF t)
  if s.get F.SYS_BOOTSTAT_CAUSE == 0 && !bit s.boot.cs 1 then s1.put F.SYS_BOOTSTAT_CAUSE 5 else s1

/-- What starts with RUN. -/
def State.runStart (s : State) (wake : Bool) : State :=
  let s1 := ((s.put F.UPD_STAT_GEN (s.get F.SYS_BOOTSTAT_GEN)).setPwr 0).nwkRun
  let s2 := if wake then s1.wakeFrames else s1
  (s2.mtrHello.dwStart).wakeOut

/-- The bring-up has ended; the power owner's "wake" event. -/
def State.runDone (s : State) (wake : Bool) : State :=
  let s1 := { s with
    boot := { s.boot with step := 11, serviceAt := none }
    pmu := { s.pmu with waking := none, attempts := 0 }
    upd := { s.upd with due := true } }
  match wake, s.ownerOf powerOwner with
  | true, some n => s1.event n 13 3 0xFFFF (s.word .PMU_WAKECAUSE 0 0 0).toNat 0 true
  | _, _ => s1

/-- RUN is entered (step 11 of R130), after a wake with the power owner's "wake" event (R534). -/
def State.runEnter (s : State) : State :=
  (s.runShow.runStart (s.boot.kind == 2)).runDone (s.boot.kind == 2)

/-! ### Step 10 (R130, R138) -/

/-- The parts of step 10 in order. -/
def step10 : List Nat := [0x02, 0x20, 0x22, 0x21, 0x23, 0x10, 0x11, 0x12, 0x13]

/-- The domain without which a part is not loaded. -/
def partDomain (part : Nat) : Option Nat :=
  if part = 0x20 then some domNET else if part = 0x21 then some domLGT else if part = 0x12 ∨ part = 0x13 then some domCB else none

/-- Whether a part belongs to a partition that is not present. -/
def State.partAbsent (s : State) (part : Nat) : Bool :=
  decide (0x10 ≤ part) && decide (part < 0x14) && !(Sparse.at s.cfg.place (part - 0x10) Placement.absent).present

/-- A part that is not loaded (R138): switched ports stay disabled, tables are empty, rules disabled, and partition 0 is told at its start. -/
def State.notLoaded (s : State) (part : Nat) : State :=
  let s1 := if part < 0x20 then s else s.tableWipe part
  let s2 := if part = 0x20 then (List.range 10).foldl (fun t p => t.put F.ESW_PCTL_EN 0 p) s1 else s1
  { s2 with boot := { s2.boot with missing := s2.boot.missing ++ [part] } }.eventAtStart 0 15 4 0xFFFF part

/-- The end of step 10: RUN, unless partition 0 has not started; where it restarts at that instant, RUN follows its start. -/
def State.partsDone (s : State) : State :=
  if s.boot.kind = 3 ∧ s.pwr = 0 then { s with boot := { s.boot with step := 11 } }
  else if s.running 0 then s.runEnter
  else s

/-- Parts that need no check are passed over: their domain is unused, their partition is not present, or the generation lacks them. -/
def State.partsNext (s : State) : List Nat → State
  | [] => ({ s with boot := { s.boot with parts := [] } }).partsDone
  | p :: ps =>
    let unused := match partDomain p with
      | some d => !s.domOn d
      | none => false
    if s.partAbsent p then (s.partCode p 0).partsNext ps
    else if unused then (s.partCode p 3).partsNext ps
    else if (s.dirEntry s.boot.gen p).isNone then
      let s1 := (s.partCode p 0).notLoaded p
      let s2 := if p = 2 then { s1.setCore 5 Core.off with boot := { s1.boot with entries := Sparse.erase s1.boot.entries 4 } } else s1
      (if s2.boot.kind = 3 ∧ 0x10 ≤ p then s2.restartDrop (p - 0x10) else s2).partsNext ps
    else { s with boot := { s.boot with parts := p :: ps } }

/-! ### Configuration applied -/

/-- Every channel takes its default state (R237, R307); after a wake from PARK a park-held one keeps its output state (R544). -/
def State.takeDefaults (s : State) : State :=
  let keep (t : State) (x : Nat) : Bool := t.boot.kind == 2 && t.pmu.waking == some 3 && decide (x < 104) && t.parkHeld x
  let s1 := allTargets.foldl (fun t x =>
    let t1 := if keep t x then t.setUnd x (t.out x) else t
    t1.setChan x { t1.chan x with undSet := keep t x }) s
  allTargets.foldl (fun t x => t.settle x 6) s1

/-- The strings that the configuration has tested before they start (R385); the default states they take wait for the test's end (R386). -/
def State.startTests (s : State) : State :=
  if s.domOn domLGT then
    let s1 := s.ntBegin ((List.range 16).foldl (fun m n => if s.on F.LGT_SCFG_STARTTEST n then setBit m n true else m) 0)
    s1.lgt.testing.foldl (fun t n => t.setLed n { t.led n with waiting := some (ownAct 6 (slotAfter 160 t.now)) }) s1
  else s

/-- The towline map is judged again with the pairs as configured (R316), and the towline ends after a P or D reset (R314). -/
def State.towApplied (s : State) : State :=
  let s1 := s.towSet s.cfg.towline
  if s.boot.kind ≤ 1 then { s1.put F.PSW_WDSTAT_TOWACT 0 with psw := { s1.psw with towRefreshed := false } } else s1

/-- Events held for partitions that are not present are discarded (R683). -/
def State.heldDrop (s : State) : State :=
  { s with ev := { s.ev with
    held := s.ev.held.filter (fun (q : Nat × HeldQueue) => decide (4 ≤ q.1) || (Sparse.at s.cfg.place q.1 Placement.absent).present) } }

/-- The latched wakes and the rail faults of the bring-up reach their partitions' starts (R465, R534, R539). -/
def State.wakesHeld (s : State) : State :=
  let s1 := { s.pmu.wakes.foldl (fun t w => t.replayWake w) s with pmu := { s.pmu with wakes := [], seen := 0, faultHeld := 0 } }
  match s.ownerOf powerOwner with
  | some n => (List.range s.pmu.faultHeld).foldl (fun t _ => t.eventAtStart n 13 5 0xFFFF) s1
  | none => s1

/-- The start-up phase after a P or D reset (R462), the dust-sheet restore after a wake (R135). -/
def State.kindApplied (s : State) : State :=
  if s.boot.kind ≤ 1 then s.startUp else if s.boot.kind = 2 then s.dustRestore else s

/-- The instant configuration applied (end of step 9), and what follows it up to step 10. -/
def State.configApplied (s0 : State) : State :=
  let s := if s0.boot.kind = 3 then s0 else { s0 with pmu := { s0.pmu with handed := false } }
  let s1 := s.bootRefresh.towApplied.heldDrop
  let s2 := s1.startTests.takeDefaults
  (s2.kindApplied.wakesHeld.bootStep 10).partsNext step10

/-! ### Register block records (R126 to R129) -/

/-- The records of a job have all been applied. -/
def State.jobEnd (s : State) (j : RecJob) : State :=
  let s1 := { s with boot := { s.boot with jobs := s.boot.jobs.drop 1 } }
  match j.part with
  | none => s1.configApplied
  | some n =>
    match s1.restarting n with
    | some r =>
      let s2 := s1.restartStart n (Sparse.at s1.boot.entries n 0)
      let s3 := if s2.boot.step = 10 ∧ s2.boot.parts = [] ∧ s2.boot.kind ≠ 3 then s2.partsDone else s2
      if r.scaf then s3.trialBegin (0x10 + n) else s3
    | none => s1

/-- Adds a job; one without records ends at once. -/
def State.jobAdd (s : State) (part : Option Nat) (ws : List Word) : State :=
  let j : RecJob := ⟨part, ws, none⟩
  if ws = [] then ({ s with boot := { s.boot with jobs := j :: s.boot.jobs } }).jobEnd j
  else { s with boot := { s.boot with jobs := s.boot.jobs ++ [j] } }

/-- The record in front is done with: applied, or failed (R128). -/
def State.recDone (s : State) (good : Bool) : State :=
  match s.boot.jobs with
  | [] => s
  | j :: js =>
    let a := (j.words.headD 0).toNat / 4
    let s1 := if good then (if j.part.isNone then s.bump F.SYS_REGBLK_APPLIED else s)
      else (s.bump F.SYS_REGBLK_FAILED).put F.SYS_REGLAST_LAST a
    let j1 : RecJob := { j with words := j.words.drop (recLen j.words), wait := none }
    let s2 := { s1 with boot := { s1.boot with jobs := j1 :: js } }
    if j1.words = [] then s2.jobEnd j1 else s2

/-- The words of the record in front, where it is of a kind and no wait is in progress. Records start 200 µs after the last turn-on of step 8
(R131). -/
def State.recHead (s : State) (op : Nat) : Option (List Word) :=
  match s.boot.jobs with
  | j :: _ =>
    if j.wait.isNone ∧ bitsOf (j.words.headD 0) 1 0 = op ∧ (j.part.isSome ∨ s.boot.domAt + 200 * usUnits ≤ s.now) then
      some (j.words.take (recLen j.words))
    else none
  | [] => none

/-- Address that a record names. -/
def recAddr (ws : List Word) : Nat := (ws.headD 0).toNat / 4 * 4

/-- R126. -/
def execWriteRecord (s : State) : Host.Outcome State Fault Refusal :=
  s.ends (match s.recHead 0 with
    | some [w, v] => if s.recOk (recAddr [w]) then (s.busWrite .boot (recAddr [w]) v).recDone true else s.recDone false
    | some _ => s.recDone false
    | none => s)

/-- R126: a burst whose count lies outside 1 to 256 fails; so does one of which an address fails. -/
def execBurstRecord (s : State) : Host.Outcome State Fault Refusal :=
  s.ends (match s.recHead 1 with
    | some (w :: c :: vs) =>
      let a := recAddr [w]
      let n := c.toNat
      if 1 ≤ n ∧ n ≤ 256 ∧ vs.length = n ∧ (List.range n).all (fun k => s.recOk (a + 4 * k)) then
        (((List.range n).zip vs).foldl (fun t (c : Nat × Word) => t.busWrite .boot (a + 4 * c.1) c.2) s).recDone true
      else s.recDone false
    | some _ => s.recDone false
    | none => s)

/-- R126. -/
def execMaskedWriteRecord (s : State) : Host.Outcome State Fault Refusal :=
  s.ends (match s.recHead 2 with
    | some [w, m, v] =>
      let a := recAddr [w]
      if s.recOk a then (s.busWrite .boot a ((s.recRead a &&& ~~~ m) ||| (v &&& m))).recDone true else s.recDone false
    | some _ => s.recDone false
    | none => s)

/-- R126: a timeout outside 1 to 10,000 µs fails. -/
def execWaitRecord (s : State) : Host.Outcome State Fault Refusal :=
  s.ends (match s.recHead 3, s.boot.jobs with
    | some [w, m, v, t], j :: js =>
      let a := recAddr [w]
      if s.recOk a = false ∨ t.toNat = 0 ∨ 10000 < t.toNat then s.recDone false
      else if s.recRead a &&& m = v then s.recDone true
      else { s with boot := { s.boot with jobs := { j with wait := some (a, m, v, s.now + t.toNat * usUnits) } :: js } }
    | some _, _ => s.recDone false
    | none, _ => s)

/-- R126. -/
def execWaitRecordSatisfied (s : State) : Host.Outcome State Fault Refusal :=
  s.ends (match s.boot.jobs with
    | j :: _ => match j.wait with
      | some (a, m, v, _) => if s.recRead a &&& m = v then s.recDone true else s
      | none => s
    | [] => s)

/-- R128. -/
def execWaitRecordTimeout (s : State) : Host.Outcome State Fault Refusal :=
  s.ends (match s.boot.jobs with
    | j :: _ => match j.wait with
      | some (_, _, _, t) => if t ≤ s.now then s.recDone false else s
      | none => s
    | [] => s)

/-! ### Steps 7 and 8 -/

/-- Step 9 begins. -/
def State.recordsBegin (s : State) : State :=
  ((s.bootStep 9).put F.SYS_REGBLK_APPLIED 0).jobAdd none s.cfg.records

/-- Switches on the next domain that waits, 200 µs after the one before it (R131). -/
def State.domNext (s : State) : State :=
  match s.boot.doms with
  | d :: ds =>
    let s1 := ({ s with boot := { s.boot with doms := ds } }).domSwitchOn d
    let s2 := if s1.boot.step = 12 then (if d = domNET then s1.put F.ESW_PCTL_EN 1 10 else s1) else s1.bootRefresh
    if ds ≠ [] then s2
    else if s2.boot.step = 2 then s2.bootStep 4
    else if s2.boot.step = 8 then s2.recordsBegin
    else s2
  | [] => s

/-- Step 7: the image is written into the device. -/
def State.configSet (s : State) (g : Nat) (c : ConfigImage) : State :=
  let s1 := { s with cfg := { c.cfg with dust := [] }, boot := { s.boot with gen := g, domuse := c.domuse, version := c.version } }
  let s2 := if s.boot.kind = 3 then s1 else (s1.put F.SYS_BOOTSTAT_GEN g).put F.SYS_BOOTSEQ_SEQ (s.ptrSeq g)
  (((s2.partCode 1 1).bumpBy F.SYS_BOOTREJ_SKIPPED c.skipped).towSet c.cfg.towline).dustSet c.cfg.dust

/-- A domain that a new configuration no longer uses goes off (R39), with the state of its blocks. -/
def State.domSwitchOff (s : State) (d : Nat) : State :=
  let s1 := (s.domDown d).resetRegs 1 (fun r _ _ => domOfBlock r.block == some d && r.block != 17)
  if d = domNET then { s1 with eth := EthState.reset }
  else if d = domBUS then { s1 with can := CanState.reset, lin := LinState.reset }
  else if d = domLGT then { s1 with lgt := LgtState.reset }
  else s1

/-- Step 8: the domains that DOMUSE marks follow, the first at once if it may; a full activation switches off those it no longer marks. -/
def State.domsBegin (s0 : State) (use : Nat) : State :=
  let s := ([domACC, domLGT, domBUS, domNET, domCB].filter (fun d => !bit use d && s0.domOn d)).foldl (fun t d => t.domSwitchOff d) s0
  let ds := [domCB, domNET, domBUS, domLGT, domACC].filter (fun d => bit use d && !s.domOn d)
  let s1 := { s.bootStep 8 with boot := { (s.bootStep 8).boot with doms := ds } }
  if ds = [] then s1.recordsBegin
  else if s.boot.domAt + 200 * usUnits ≤ s.now then s1.domNext
  else s1

/-- Steps 7 and 8. -/
def State.configUse (s : State) (g : Nat) (c : ConfigImage) : State :=
  let s1 := s.configSet g c
  (if s.boot.kind = 3 then s1.healthyPart 1 true else s1).domsBegin c.domuse

/-- R131. -/
def execDomainTurnOn (s : State) : Host.Outcome State Fault Refusal :=
  s.ends (if s.boot.domAt + 200 * usUnits ≤ s.now then s.domNext else s)

/-! ### SRAM test, probe and selection -/

/-- The rows of a bank that the SRAM test replaces: the faulty ones, then, while spares are free, the weak ones (R133, R634); none where the
bank has more faulty rows than its 8 spares (R134). -/
def State.repairRows (s : State) (faulty : List Nat) (b : Nat) : Option (List Nat) :=
  let mine (rows : List Nat) : List Nat := (rows.filter (fun a => a / 0x80000 == 0x200 + b)).eraseDups
  let bad := mine faulty
  if 8 < bad.length then none else some ((bad ++ (mine s.integ.weak).filter (fun a => !bad.contains a)).take 8)

/-- The result of the SRAM test: the repair map goes to AON and into use. -/
def State.sramTested (s : State) (faulty : List Nat) : State :=
  let banks := (List.range 16).map (fun b => (b, s.repairRows faulty b))
  let lost := banks.foldl (fun m c => if c.2.isNone then setBit m c.1 true else m) 0
  let map_ := (banks.map (fun c => ((c.2.getD []).zipIdx))).flatten
  let s1 := ((s.put F.SYS_SRAMREP_LOST lost).put F.SYS_SRAMREP_ROWS (min 255 map_.length)).cumBy 25 map_.length
  let s2 := { s1 with boot := { s1.boot with sramDone := true }, integ := { s1.integ with weak := [], repair := map_, mapped := map_ } }
  ((bitList 16 lost).foldl (fun t b => (List.range 4).foldl (fun u n => u.eventAtStart n 15 3 0xFFFF b) t) s2).bootRefresh

/-- R133, R134: `faulty` are the addresses of the rows that the test found faulty. -/
def execSramTestEnd (faulty : List Nat) (s : State) : Host.Outcome State Fault Refusal :=
  s.ends (if s.boot.kind ≤ 1 ∧ s.boot.sramDone = false ∧ s.domOn domFAB ∧ 2 ≤ s.boot.step ∧ s.boot.step ≠ 11 then
    (if s.boot.step = 5 then (s.sramTested faulty).bootStep 6 else s.sramTested faulty)
  else s)

/-- Step 5: a generation is selected (R114, R137). -/
def State.selectGen (s : State) : State :=
  if !bit s.boot.cs 0 then s.serviceOn 1
  else match s.genSelect with
    | none => s.serviceOn 3
    | some g =>
      let s1 := { s with boot := { s.boot with gen := g } }
      if s1.boot.sramDone then s1.bootStep 6 else s1.bootRefresh

/-- Whether what the probe read of a chip-select makes it conform (R107): the SFDP signature, the xSPI profile 1.0 table and that of the
command sequences to 8D-8D-8D, 512 Mbit, and one ID in both modes. The signature and the table IDs are those of JESD216 (PRESUMED, log
entry 148). -/
def flashConforms (f : FlashId) : Bool :=
  f.signature == 0x50444653 && f.tables.contains 0xFF05 && f.tables.contains 0xFF0A && f.density == 2 ^ 29 && f.id1 == f.id8

/-- R107: what the probe read of the two chip-selects. After a wake the held results stand (R108). -/
def execFlashProbeEnd (f0 f1 : FlashId) (s : State) : Host.Outcome State Fault Refusal :=
  s.ends (if s.boot.step = 4 then
    let held := (if flashConforms f0 then 1 else 0) + (if flashConforms f1 then 2 else 0)
    let s1 := if s.boot.kind = 2 then s
      else ({ s with boot := { s.boot with cs := held } }.put F.SYS_BOOTSTAT_CS0OK (held % 2)).put F.SYS_BOOTSTAT_CS1OK (held / 2)
    ({ s1 with boot := { s1.boot with probed := true } }.bootStep 5).selectGen
  else s)

/-! ### Part checks -/

/-- The configuration block has been checked (R137 steps 4 and 5). -/
def State.configChecked (s : State) (verdict : Nat) : State :=
  let g := s.boot.gen
  match s.partJudge g 1 0 verdict with
  | (why, body) => match why, configOf body with
  | 0, some c => (s.partLoad g 1 0 body).configUse g c
  | _, _ =>
    let s1 := (s.partReject g 1 0 why).partCode 1 2
    if s1.boot.kind = 3 then s1.revert 1 1 why
    else if s1.boot.fellBack = false ∧ s1.ptrValid (1 - g) then
      let s2 := ((s1.put F.SYS_BOOTSTAT_FALLBACK 1).put F.SYS_BOOTSTAT_CAUSE 4).put F.SYS_BOOTPART_PARTS 0
      { s2.logEntry 5 15 0xFFFF 1 4 with boot := { (s2.logEntry 5 15 0xFFFF 1 4).boot with gen := 1 - g, fellBack := true } }
    else s1.serviceOn 4

/-- The schedule entries to which a table part gives an NSEC out of range. -/
def nsecBad (vs : List (Nat × Word)) : List (Nat × Nat) :=
  (vs.filter (fun c => !nsecOk c.2)).filterMap (fun c => match regAt c.1 with
    | some (.SCH_ENTRY, i, j, 3) => some (i, j)
    | _ => none)

/-- The couplings that a coupling part enables, in index order. -/
def cplEnabledBy (vs : List (Nat × Word)) : List Nat :=
  ((List.range 4096).filter (fun i => vs.any (fun c => c.1 == Reg.addr .GWY_CPL i 0 0 && bitsOf c.2 31 31 == 1)))

/-- Writes of a table part, as the pairs of address and value that its body holds for its block: entries of a schedule table go into
either bank; one with an NSEC out of range is dropped whole and counted (R145). The couplings of a coupling part are checked in index
order once all of it stands, and the refused ones are those of this load (R474). -/
def State.tableWrites (s : State) (block : Nat) (vs : List (Nat × Word)) : State :=
  let bad := if block = 2 then nsecBad vs else []
  let s0 := if block = 10 then s.put F.GWY_STAT_BADCPL 0 else s
  let s1 := vs.foldl (fun t c =>
    if inBlocks c.1 && blockOf c.1 == block && t.blockOn block then
      match regAt c.1 with
      | some (.SCH_ENTRY, i, j, w) =>
        if bad.contains (i, j) then (if w = 3 then t.accErr 2 else t) else (t.setWord .SCH_ENTRY i j w c.2).madeGood c.1 4
      | some (.GWY_CPL, i, j, w) => t.setWord .GWY_CPL i j w (t.written .GWY_CPL i j w (if w = 0 then setBits c.2 31 31 0 else c.2))
      | some _ => t.busWrite .boot c.1 c.2
      | none => t
    else t) s0
  if block = 10 ∧ s1.blockOn 10 = true then (cplEnabledBy vs).foldl (fun t i => (t.put F.GWY_CPL_EN 1 i).cplCheck i) s1 else s1

/-- What stood in a table part's memory goes before a full activation loads the part anew. -/
def State.tableClear (s : State) (part : Nat) : State :=
  if s.boot.kind ≠ 3 ∨ part = 0x20 then s else s.tableWipe part

/-- The AON core starts at the ENTRY of its image. -/
def State.aonStart (s : State) (entry : Nat) : State :=
  let s1 := s.coreRegs 5 4
  { s1.setCore 5 { s1.core 5 with pc := BitVec.ofNat 32 entry, run := .running, halted := false, startAt := s1.now } with
    boot := { s1.boot with entries := Sparse.set s1.boot.entries 4 entry } }

/-- An accepted part takes effect (R130 step 10, R668). -/
def State.partUse (s0 : State) (g part : Nat) (body : List Byte) (vs : List (Nat × Word)) : State :=
  let s : State := { s0 with boot := { s0.boot with missing := s0.boot.missing.filter (fun p => p != part) } }
  let entry := s.partEntry g part
  if part = 2 then (((s.partLoad g 2 5 body).aonStart entry)).trialBegin 2
  else if part < 0x14 then
    let n := part - 0x10
    let core := match s.restarting n with
      | some r => r.core
      | none => n
    let s1 := s.partLoad g part core body
    let s2 := { s1 with boot := { s1.boot with entries := Sparse.set s1.boot.entries n entry } }
    let s3 := if (s2.restarting n).isSome then s2.restartStart n entry else s2.startPart n n entry 0
    if s3.boot.kind = 3 then s3.trialBegin part else s3
  else
    let s1 := s.tableClear part
    let s2 := if part = 0x21 then s1.partLoad g part 0 body
      else s1.tableWrites (if part = 0x20 then 1 else if part = 0x22 then 2 else 10) vs
    let s3 : State := if part = 0x22 then ((List.range 8).filter (fun t => s2.on F.SCH_TCTL_RUN t)).foldl (fun u t => u.bankBegin t) s2 else s2
    if s3.boot.kind = 3 then s3.healthyPart part true else s3

/-- A part of step 10 has been checked. -/
def State.partChecked (s : State) (part verdict : Nat) (vs : List (Nat × Word)) : State :=
  let g := s.boot.gen
  let core := match s.restarting (part - 0x10) with
    | some r => if 0x10 ≤ part then r.core else part - 0x10
    | none => part - 0x10
  let r := s.partJudge g part core verdict
  let why := r.1
  let rest := s.boot.parts.drop 1
  if why = 0 then
    let s1 := (s.partCode part 1).partUse g part r.2 vs
    s1.bootRefresh.partsNext rest
  else
    let s1 := (s.partReject g part core why).partCode part 2
    if s1.boot.kind = 3 then s1.revert part 1 why else (s1.notLoaded part).bootRefresh.partsNext rest

/-- The records of a restarted partition's items (R135), by the address of each record. -/
def State.ownRecords (s : State) (n : Nat) : List Word :=
  ((recSplit s.cfg.records.length s.cfg.records).filter (fun r => s.addrOwner (recAddr r) == some n)).flatten

/-- The image of a restarting partition has been checked (R646, R667). -/
def State.restartChecked (s : State) (n verdict : Nat) (r : Restart) : State :=
  let own := if s.boot.step = 10 ∧ s.boot.kind ≠ 3 then s.boot.gen else s.genInUse
  let g := match s.upd.act with
    | some a => if r.scaf then a.gen else own
    | none => own
  let part := 0x10 + n
  let j := s.partJudge g part r.core verdict
  let why := j.1
  if why = 0 then
    let s1 := s.partLoad g part r.core j.2
    let s2 := { s1 with
      boot := { s1.boot with entries := Sparse.set s1.boot.entries n (s1.partEntry g part) }
      integ := { s1.integ with restarts := Sparse.set s1.integ.restarts n { r with stage := 2 } } }
    s2.jobAdd (some n) (s2.ownRecords n)
  else
    let s1 := if (s.dirEntry g part).isSome then s.partReject g part r.core why else s
    let s2 := s1.restartDrop n
    if r.scaf then s2.revert part 1 why else s2

/-- R119, R120: a part has been read; `verdict` as partJudge takes it; `addrs` and `vals` are the table entries of a switch, table or coupling
part (log entry 105). -/
def execPartCheckEnd (part verdict : Nat) (addrs : List Nat) (vals : List Word) (s : State) : Host.Outcome State Fault Refusal :=
  s.ends (if s.boot.step = 6 then (if part = 1 then s.configChecked verdict else s)
    else if s.boot.step = 10 ∧ s.boot.parts ≠ [] then
      (if s.boot.parts.head? = some part then s.partChecked part verdict (addrs.zip vals) else s)
    else if 0x10 ≤ part ∧ part < 0x14 ∧ (s.boot.step = 11 ∨ (s.boot.step = 10 ∧ s.boot.kind ≠ 3)) then
      (match s.restarting (part - 0x10) with
      | some r => if r.stage = 1 then s.restartChecked (part - 0x10) verdict r else s
      | none => s)
    else s)

/-- R139. -/
def execServiceOnlyTimeout (s : State) : Host.Outcome State Fault Refusal :=
  s.ends (match s.boot.serviceAt with
    | some t => if s.boot.step = 12 ∧ s.upd.sessions = [] ∧ t + 1800 * secUnits ≤ s.now ∧ s.pwr = 5 then s.serviceEntry else s
    | none => s)

/-- R530: the flush of the event log and flash operations have ended; the dust sheet is saved (R548). -/
def execParkFlushEnd (s : State) : Host.Outcome State Fault Refusal :=
  s.ends (if s.pwr = 2 ∧ s.get F.PMU_STATE_PHASE = 2 then (s.logFlushAll.put F.PMU_STATE_PHASE 3).dustSave else s)

end Sys2Proof.Machine
end

