-- ==== Sys2Proof/Machine/Float.lean ====
section
/-! DEFINITION. IEEE 754 binary32 as R597 uses it: exact arithmetic on numbers m · 2^e, rounded once to nearest, ties to even. -/

set_option Elab.async false

namespace Sys2Proof.Machine

/-- The NaN of every NaN result. -/
def fNaN : Word := 0x7FC00000#32

def fSign (w : Word) : Bool := bitsOf w 31 31 == 1
def fExp (w : Word) : Nat := bitsOf w 30 23
def fMan (w : Word) : Nat := bitsOf w 22 0
def fIsNaN (w : Word) : Bool := fExp w == 255 && fMan w != 0
def fIsInf (w : Word) : Bool := fExp w == 255 && fMan w == 0
def fIsZero (w : Word) : Bool := bitsOf w 30 0 == 0

/-- Magnitude m · 2^e of a finite value: m. -/
def fSig (w : Word) : Nat := if fExp w = 0 then fMan w else fMan w + 2 ^ 23
/-- Magnitude m · 2^e of a finite value: e + 149, which is never negative. -/
def fScale (w : Word) : Nat := if fExp w = 0 then 0 else fExp w - 1

/-- A word with a sign and the lower 31 bits. -/
def fWord (neg : Bool) (low : Nat) : Word := BitVec.ofNat 32 ((if neg then 2 ^ 31 else 0) + low % 2 ^ 31)

def fInf (neg : Bool) : Word := fWord neg 0x7F800000
def fZero (neg : Bool) : Word := fWord neg 0

/-- m divided by 2^k, rounded to nearest with ties to even; `more` says that the exact value lies above m by less than one. -/
def roundShift (m k : Nat) (more : Bool) : Nat :=
  if k = 0 then m
  else
    let q := m / 2 ^ k
    let r := m % 2 ^ k
    let half := 2 ^ (k - 1)
    if r < half then q
    else if half < r ∨ more then q + 1
    else q + q % 2

/-- The value m · 2^e, or a little above where `more` is set, rounded to binary32. With `more` the number m has 26 bits or more. -/
def fRound (neg : Bool) (m : Nat) (e : Int) (more : Bool) : Word :=
  if m = 0 then fZero neg
  else
    let q : Int := max (e + Int.ofNat (Nat.log2 m) - 23) (-149)
    let mant := if q ≤ e then m * 2 ^ (e - q).toNat else roundShift m (q - e).toNat more
    let low := (q + 149).toNat * 2 ^ 23 + mant
    if 0x7F800000 ≤ low then fInf neg else fWord neg low

/-- A finite value as an integer multiple of 2^−149. -/
def fInt (w : Word) : Int :=
  let m : Int := Int.ofNat (fSig w * 2 ^ fScale w)
  if fSign w then -m else m

/-- FADD. -/
def fAdd (a b : Word) : Word :=
  if fIsNaN a || fIsNaN b then fNaN
  else if fIsInf a then (if fIsInf b && fSign a != fSign b then fNaN else a)
  else if fIsInf b then b
  else
    let v := fInt a + fInt b
    if v = 0 then fZero (fSign a && fSign b) else fRound (decide (v < 0)) v.natAbs (-149) false

/-- A value with its sign changed. -/
def fNeg (w : Word) : Word := w ^^^ 0x80000000#32

/-- FSUB. -/
def fSub (a b : Word) : Word := if fIsNaN a || fIsNaN b then fNaN else fAdd a (fNeg b)

/-- FMUL. -/
def fMul (a b : Word) : Word :=
  let neg := fSign a != fSign b
  if fIsNaN a || fIsNaN b then fNaN
  else if fIsInf a || fIsInf b then (if fIsZero a || fIsZero b then fNaN else fInf neg)
  else fRound neg (fSig a * fSig b) (Int.ofNat (fScale a + fScale b) - 298) false

/-- FDIV. -/
def fDiv (a b : Word) : Word :=
  let neg := fSign a != fSign b
  if fIsNaN a || fIsNaN b then fNaN
  else if fIsInf a then (if fIsInf b then fNaN else fInf neg)
  else if fIsInf b then fZero neg
  else if fIsZero b then (if fIsZero a then fNaN else fInf neg)
  else
    let n := fSig a * 2 ^ 64
    fRound neg (n / fSig b) (Int.ofNat (fScale a) - Int.ofNat (fScale b) - 64) (n % fSig b != 0)

/-- The integer square root of m, bit by bit from bit k − 1 down. -/
def sqrtBits (m : Nat) : Nat → Nat → Nat
  | 0, r => r
  | k + 1, r => sqrtBits m k (if (r + 2 ^ k) * (r + 2 ^ k) ≤ m then r + 2 ^ k else r)

/-- FSQRT. -/
def fSqrt (a : Word) : Word :=
  if fIsNaN a then fNaN
  else if fIsZero a then a
  else if fSign a then fNaN
  else if fIsInf a then a
  else
    let odd := (fScale a + 149) % 2
    let m := fSig a * 2 ^ (64 + odd)
    let r := sqrtBits m 48 0
    fRound false r ((Int.ofNat (fScale a) - 213 - Int.ofNat odd) / 2) (decide (r * r ≠ m))

/-- An order of the values that are not NaN in which −0 lies below +0. -/
def fKey (w : Word) : Int :=
  let low : Int := Int.ofNat (bitsOf w 30 0)
  if fSign w then -low - 1 else low

/-- FMIN. -/
def fMin (a b : Word) : Word :=
  if fIsNaN a && fIsNaN b then fNaN else if fIsNaN a then b else if fIsNaN b then a else if fKey a ≤ fKey b then a else b

/-- FMAX. -/
def fMax (a b : Word) : Word :=
  if fIsNaN a && fIsNaN b then fNaN else if fIsNaN a then b else if fIsNaN b then a else if fKey a ≤ fKey b then b else a

/-- The truth value that compare instructions write. -/
def boolWord (b : Bool) : Word := if b then 1#32 else 0#32

/-- A value with its zeros made one. -/
def fFlat (w : Word) : Int :=
  let low : Int := Int.ofNat (bitsOf w 30 0)
  if fSign w then -low else low

/-- FCEQ. -/
def fCeq (a b : Word) : Word := boolWord (!fIsNaN a && !fIsNaN b && fFlat a == fFlat b)
/-- FCLT. -/
def fClt (a b : Word) : Word := boolWord (!fIsNaN a && !fIsNaN b && decide (fFlat a < fFlat b))
/-- FCLE. -/
def fCle (a b : Word) : Word := boolWord (!fIsNaN a && !fIsNaN b && decide (fFlat a ≤ fFlat b))

/-- The magnitude of a finite value, toward zero. -/
def fTrunc (w : Word) : Nat := fSig w * 2 ^ fScale w / 2 ^ 149

/-- FTOI. -/
def fToI (a : Word) : Word :=
  if fIsNaN a then 0x7FFFFFFF#32
  else
    let m := if fIsInf a then 2 ^ 31 else fTrunc a
    if fSign a then BitVec.ofInt 32 (-(Int.ofNat (min m (2 ^ 31)))) else BitVec.ofNat 32 (min m (2 ^ 31 - 1))

/-- FTOU. -/
def fToU (a : Word) : Word :=
  if fIsNaN a then 0xFFFFFFFF#32
  else if fSign a then 0#32
  else BitVec.ofNat 32 (min (if fIsInf a then 2 ^ 32 else fTrunc a) (2 ^ 32 - 1))

/-- ITOF. -/
def iToF (a : Word) : Word := fRound (decide (a.toInt < 0)) a.toInt.natAbs 0 false
/-- UTOF. -/
def uToF (a : Word) : Word := fRound false a.toNat 0 false

end Sys2Proof.Machine
end

