-- ==== Sys2Proof/Machine/Cepor.lean ====
section
/-! DEFINITION. The Cepor cores (R588 to R627): registers, encodings (R594), traps (R611 to R614), protection (R591, R608 to R610), memory
accesses (R600 to R607, R630), and the operations that the instruction words share. -/

set_option Elab.async false

namespace Sys2Proof.Machine

/-! ### General registers (R592) -/

/-- g0 reads as zero. -/
def State.g (s : State) (c r : Nat) : Word := if r % 32 = 0 then 0 else Sparse.at (s.core c).gpr (r % 32) 0

/-- A write to g0 is discarded. -/
def State.setG (s : State) (c r : Nat) (v : Word) : State :=
  if r % 32 = 0 then s
  else
    let k := s.core c
    s.setCore c { k with gpr := if v = 0 then Sparse.erase k.gpr (r % 32) else Sparse.set k.gpr (r % 32) v }

def State.pc (s : State) (c : Nat) : Word := (s.core c).pc
def State.setPc (s : State) (c : Nat) (v : Word) : State := s.setCore c { s.core c with pc := v }

/-- The word is done with: pc goes to the next. -/
def State.advance (s : State) (c : Nat) : State := s.setPc c (s.pc c + 4)

/-- Writes a result and goes on to the next word. -/
def State.yields (s : State) (c rd : Nat) (v : Word) : State := (s.setG c rd v).advance c

/-! ### Encodings (R594) -/

/-- The register form. -/
def encR (op rd rs1 rs2 func : Nat) : Word :=
  BitVec.ofNat 32 (op * 2 ^ 24 + rd % 32 * 2 ^ 19 + rs1 % 32 * 2 ^ 14 + rs2 % 32 * 2 ^ 9 + func % 512)

/-- The immediate form. -/
def encI (op rd rs1 imm : Nat) : Word := BitVec.ofNat 32 (op * 2 ^ 24 + rd % 32 * 2 ^ 19 + rs1 % 32 * 2 ^ 14 + imm % 2 ^ 14)

/-- LUI. -/
def encLui (rd imm : Nat) : Word := BitVec.ofNat 32 (0x1A * 2 ^ 24 + rd % 32 * 2 ^ 19 + imm % 2 ^ 19)

/-- BEZ and BNZ: OFF19 lies in bits 23:19 and 13:0. -/
def encB (op rs1 off : Nat) : Word :=
  BitVec.ofNat 32 (op * 2 ^ 24 + off % 2 ^ 19 / 2 ^ 14 * 2 ^ 19 + rs1 % 32 * 2 ^ 14 + off % 2 ^ 14)

/-- JAL and J. -/
def encJ (op off : Nat) : Word := BitVec.ofNat 32 (op * 2 ^ 24 + off % 2 ^ 24)

/-- A short slot. -/
def encSlot (sop ra rb : Nat) : Nat := sop * 2 ^ 10 + ra % 32 * 2 ^ 5 + rb % 32

/-- A short pair of slot A and slot B. -/
def encPair (a b : Nat) : Word := BitVec.ofNat 32 (2 ^ 31 + a % 2 ^ 15 * 2 ^ 16 + b % 2 ^ 15)

/-- An n-bit immediate with its top bit extended. -/
def sextW (n v : Nat) : Word := BitVec.ofInt 32 (signedOf n v)

/-! ### Identities and queues -/

/-- The partition that core c hosts. -/
def State.partOn (s : State) (c : Nat) : Option Nat := if c < 5 then s.runningParts.find? (fun n => s.host n == c) else none

/-- The event queue of core c: its partition's, or the AON core's (4). The island core has none. -/
def State.coreQueue (s : State) (c : Nat) : Option Nat := if c = 5 then some 4 else s.partOn c

/-- The identity that core c issues (R44); the island core reaches nothing on the fabric. -/
def State.coreInit (s : State) (c : Nat) : Init :=
  if c = 5 then .aon else match s.partOn c with
    | some n => .part n
    | none => .switch

/-- Whether core c can carry out words: a C6 core hosts a partition and its clock runs (R528), the AON core runs its image, the island core
has power; it does not wait, and the debug port does not halt it. -/
def State.coreLive (s : State) (c : Nat) : Bool :=
  let k := s.core c
  !k.halted && (if c < 5 then decide (k.run = .running) && (s.partOn c).isSome && s.pwr != 1
    else if c = 5 then decide (k.run = .running)
    else c == 6 && s.mtr.on && decide (k.run ≠ .waiting))

/-- Whether a core has the divide and floating-point functions (R588). -/
def hasDivFpu (c : Nat) : Bool := decide (c < 5)

/-! ### Traps (R611 to R614) -/

/-- Vector offset of a cause. -/
def vecOffset (code : Nat) : Nat := if code ≤ 2 then 0 else if code = 10 then 0x80 else 0x40

/-- The island core starts anew at an address that the spec does not give (R563). -/
def State.islandStart (s : State) : State :=
  let s1 := (s.coreRegs 6 4).mtrRestart
  s1.tookFresh.setCore 6 { s1.core 6 with pc := BitVec.ofNat 32 s1.fresh, run := .running, halted := false, startAt := s1.now }

/-- The AON core restarts at the ENTRY of its image (R614); in its trial, its part fails (R669). -/
def State.aonRestart (s : State) : State :=
  let s1 := match Sparse.get s.boot.entries 4 with
    | some e => s.aonStart e
    | none => s.setCore 5 Core.off
  match s.upd.act with
  | some a => if (Sparse.get a.trials 2).isSome then s1.revert 2 4 0 else s1
  | none => s1

/-- A double trap (R614). -/
def State.doubleTrap (s : State) (c : Nat) : State :=
  if c = 6 then s.islandStart
  else if c = 5 then (s.cum 8).aonRestart
  else match s.partOn c with
    | some n => (s.cum 8).restartOf n 3 c
    | none => s.setCore c { s.core c with run := .stopped }

/-- Takes a trap (R613), with its slot, the instruction word, CPU_EPC, and CPU_BADADDR where the cause sets it. -/
def State.takeTrap (s : State) (c code slot : Nat) (word epc : Word) (bad : Option Nat := none) : State :=
  if s.on F.CPU_STATUS_EXL c then s.doubleTrap c
  else
    let s1 := (s.put F.CPU_ESTAT_ALL (bitsOf (s.word .CPU_STATUS c 0 0) 2 0) c).put F.CPU_EPC_ADDR (epc.toNat / 4) c
    let s2 := match bad with
      | some a => s1.put F.CPU_BADADDR_ADDR a c
      | none => s1
    let s3 := ((s2.put F.CPU_TRAPINSN_WORD word.toNat c).put F.CPU_CAUSE_CODE code c).put F.CPU_CAUSE_SLOT slot c
    let s4 := ((s3.put F.CPU_STATUS_MODE 1 c).put F.CPU_STATUS_IE 0 c).put F.CPU_STATUS_EXL 1 c
    s4.setPc c (BitVec.ofNat 32 (s4.get F.CPU_TVEC_BASE c * 256 + vecOffset code))

/-- A trap of the word that the core carries out. -/
def State.trap (s : State) (c code slot : Nat) (word : Word) (bad : Option Nat := none) : State :=
  s.takeTrap c code slot word (s.pc c) bad

/-! ### Protection (R590, R591, R608, R609) -/

/-- Whether core c is in supervisor mode. -/
def State.super (s : State) (c : Nat) : Bool := s.on F.CPU_STATUS_MODE c

/-- The lowest-numbered region that covers an address. -/
def State.region (s : State) (c a : Nat) : Option Nat :=
  (List.range 16).find? (fun i => s.on F.CPU_RBASE_EN c i && decide (s.get F.CPU_RBASE_BASE c i ≤ a / 32) &&
    decide (a / 32 ≤ s.get F.CPU_RLIM_LIMIT c i))

/-- Whether the regions permit an access in the mode the core is in; `f` is its field R, W or X. -/
def State.permits (s : State) (c a : Nat) (f : Fld) : Bool :=
  s.super c || (match s.region c a with
    | some i => s.on f c i
    | none => false)

/-- Whether an address is the core's own local memory. -/
def inLocal (c a : Nat) : Bool :=
  decide (0x08000000 ≤ a) && decide (a < (if c < 5 then 0x08040000 else if c = 5 then 0x08010000 else 0x08020000))

/-- Whether the core reaches an address at all: the AON core under R590. -/
def State.reaches (s : State) (c a : Nat) : Bool :=
  c != 5 || inLocal c a || decide (a < 0x10000) || inRetention a || (inBlocks a && (blockOf a == 13 || (blockOf a == 12 && s.bursting)))

/-- Whether instructions may be fetched from an address (R591): code memory, shared SRAM, in supervisor mode the boot ROM. -/
def State.fetchable (s : State) (c a : Nat) : Bool :=
  if c = 6 then inLocal c a
  else (if c < 5 then decide (0x08000000 ≤ a) && decide (a < 0x08020000) else inLocal c a) ||
    (c != 5 && decide (0x10000000 ≤ a) && decide (a < 0x10800000)) || (s.super c && decide (a < 0x10000))

/-- Address in the model's memory of what a core sees at an address. -/
def physAt (c a : Nat) : Nat := if inLocal c a then localBase c + (a - 0x08000000) else a

/-- Carries out a word of core c, once its fetch has been permitted and has not met an uncorrectable word (R611, R630). The word of a
refused fetch is not known: CPU_TRAPINSN takes a free value. -/
def State.insn (s : State) (c : Nat) (act : State → State) : State :=
  if !s.coreLive c then s
  else
    let a := (s.pc c).toNat
    let lost (t : State) (code : Nat) : State := t.tookFresh.trap c code 0 (BitVec.ofNat 32 t.fresh) (some a)
    if !s.fetchable c a ∨ !s.permits c a F.CPU_RBASE_X then lost s 6
    else if s.wordBad (physAt c a) then lost (s.badSeen 1 (physAt c a)) 8
    else act s

/-! ### Memory (R600 to R607, R630) -/

/-- Whether an address is a stored word of RAM for core c, and so under R629. -/
def isRam (c a : Nat) : Bool := inLocal c a || (decide (0x10000000 ≤ a) && decide (a < 0x10800000)) || (c == 5 && inRetention a)

/-- Reads the aligned word at an address, which the code finds with `ecc` bit errors; none where it is uncorrectable. -/
def State.memRead (s : State) (c a ecc : Nat) : State × Option Word :=
  if isRam c a then
    let p := physAt c a
    if s.wordBad p then (s.badSeen 2 p, none)
    else if 3 ≤ ecc then ((s.markBad p).badSeen 2 p, none)
    else (s.eccCount p ecc, some (s.rd32 p))
  else if c = 6 then (s.tookFresh, some (BitVec.ofNat 32 s.fresh))
  else
    let r := s.busRead (s.coreInit c) a
    (r.1, some r.2)

/-- Stores bytes at an address, which stay within one word. A narrow store to a register leaves the other bytes of the word written unknown. -/
def State.memWrite (s : State) (c a ecc : Nat) (bs : List Byte) : State :=
  let init := s.coreInit c
  if inLocal c a ∨ (c = 5 ∧ inRetention a) then
    let p := physAt c a
    if s.wordBad p then s.badStore init a
    else if 3 ≤ ecc then (s.markBad p).badStore init a
    else (s.eccCount p ecc).wrBytes p bs
  else if c = 6 then s
  else if 0x10000000 ≤ a ∧ a < 0x10800000 then
    (if 3 ≤ ecc then s.markBad a else s.eccCount a ecc).sramStore init a bs
  else if bs.length = 4 then s.busWrite init a (wordOf (bs.getD 0 0) (bs.getD 1 0) (bs.getD 2 0) (bs.getD 3 0))
  else
    let k := a % 4
    let w := bytesOf (BitVec.ofNat 32 s.fresh)
    let m := w.take k ++ bs ++ w.drop (k + bs.length)
    s.tookFresh.busWrite init a (wordOf (m.getD 0 0) (m.getD 1 0) (m.getD 2 0) (m.getD 3 0))

/-- The cause for which a load of `size` bytes traps before it is made, 0 for none (R600, R609). -/
def State.loadCause (s : State) (c a size : Nat) : Nat :=
  if a % size ≠ 0 then 7 else if !s.permits c a F.CPU_RBASE_R ∨ !s.reaches c a then 4 else 0

/-- The cause for which a store traps. -/
def State.storeCause (s : State) (c a size : Nat) : Nat :=
  if a % size ≠ 0 then 7 else if !s.permits c a F.CPU_RBASE_W ∨ !s.reaches c a then 5 else 0

/-- What a load of a width gives of the aligned word: kinds 0 LDW, 1 LDH, 2 LDHU, 3 LDB, 4 LDBU. -/
def loadValue (kind a : Nat) (w : Word) : Word :=
  let half := bitsOf w (a % 4 / 2 * 16 + 15) (a % 4 / 2 * 16)
  let byte := bitsOf w (a % 4 * 8 + 7) (a % 4 * 8)
  match kind with
  | 0 => w
  | 1 => sextW 16 half
  | 2 => BitVec.ofNat 32 half
  | 3 => sextW 8 byte
  | _ => BitVec.ofNat 32 byte

def loadSize (kind : Nat) : Nat := match kind with
  | 0 => 4
  | 1 | 2 => 2
  | _ => 1

/-- The effective address RS1 + sext(IMM). -/
def State.ea (s : State) (c rs1 imm : Nat) : Nat := (s.g c rs1 + sextW 14 imm).toNat

/-- A load. -/
def State.doLoad (s : State) (c kind rd rs1 imm ecc : Nat) : State :=
  let w := encI (0x20 + kind) rd rs1 imm
  s.insn c (fun t =>
    let a := t.ea c rs1 imm
    let why := t.loadCause c a (loadSize kind)
    if why ≠ 0 then t.trap c why 0 w (some a)
    else match t.memRead c (a / 4 * 4) ecc with
      | (u, some v) => u.yields c rd (loadValue kind a v)
      | (u, none) => u.trap c 8 0 w (some a))

/-- A store; kinds 0 STW, 1 STH, 2 STB. -/
def State.doStore (s : State) (c kind rd rs1 imm ecc : Nat) : State :=
  let w := encI (0x28 + kind) rd rs1 imm
  let size := if kind = 0 then 4 else if kind = 1 then 2 else 1
  s.insn c (fun t =>
    let a := t.ea c rs1 imm
    let why := t.storeCause c a size
    if why ≠ 0 then t.trap c why 0 w (some a)
    else (t.memWrite c a ecc ((bytesOf (t.g c rd)).take size)).advance c)

/-- Whether an atomic operation may address a word (R605): shared SRAM, or local data memory. -/
def amoPlace (c a : Nat) : Bool :=
  (c != 6 && c != 5 && decide (0x10000000 ≤ a) && decide (a < 0x10800000)) ||
    (if c < 5 then decide (0x08020000 ≤ a) && decide (a < 0x08040000) else inLocal c a)

/-- An atomic operation; `op` 0x2C AMOSWAP, 0x2D AMOADD. FUNC is to be zero. -/
def State.doAmo (s : State) (c op rd rs1 rs2 func ecc : Nat) : State :=
  let w := encR op rd rs1 rs2 func
  s.insn c (fun t =>
    if func % 512 ≠ 0 then t.trap c 1 0 w
    else
      let a := (t.g c rs1).toNat
      let why := if a % 4 ≠ 0 then 7 else if !amoPlace c a then 5
        else if !t.permits c a F.CPU_RBASE_R then 4 else if !t.permits c a F.CPU_RBASE_W then 5 else 0
      if why ≠ 0 then t.trap c why 0 w (some a)
      else match t.memRead c a ecc with
        | (u, some v) =>
          let new := if op = 0x2C then t.g c rs2 else v + t.g c rs2
          (u.memWrite c a 0 (bytesOf new)).yields c rd v
        | (u, none) => u.trap c 8 0 w (some a))

/-! ### ALU and FPU functions -/

/-- A number as an unsigned and a signed word's value. -/
def mulHi (a b : Int) : Word := BitVec.ofInt 32 (a * b / 2 ^ 32)

/-- DIVU and REMU (R596). -/
def divU (a b : Word) : Word := if b = 0 then 0xFFFFFFFF#32 else BitVec.ofNat 32 (a.toNat / b.toNat)
def remU (a b : Word) : Word := if b = 0 then a else BitVec.ofNat 32 (a.toNat % b.toNat)
/-- DIVS and REMS (R596): toward zero, the remainder with the sign of RS1. -/
def divS (a b : Word) : Word := if b = 0 then 0xFFFFFFFF#32 else BitVec.ofInt 32 (a.toInt.tdiv b.toInt)
def remS (a b : Word) : Word := if b = 0 then a else BitVec.ofInt 32 (a.toInt.tmod b.toInt)

/-- Signed and unsigned order. -/
def lessS (a b : Word) : Bool := decide (a.toInt < b.toInt)
def lessU (a b : Word) : Bool := decide (a.toNat < b.toNat)

/-- Shifts by bits 4:0. -/
def shl (a : Word) (n : Nat) : Word := a <<< (n % 32)
def shr (a : Word) (n : Nat) : Word := a >>> (n % 32)
def sar (a : Word) (n : Nat) : Word := a.sshiftRight (n % 32)

/-- The ALU functions by FUNC; none for a reserved code. -/
def aluFunc (func : Nat) (a b : Word) : Option Word :=
  match func with
  | 0x00 => some (a + b)
  | 0x01 => some (a - b)
  | 0x02 => some (a &&& b)
  | 0x03 => some (a ||| b)
  | 0x04 => some (a ^^^ b)
  | 0x05 => some (shl a b.toNat)
  | 0x06 => some (shr a b.toNat)
  | 0x07 => some (sar a b.toNat)
  | 0x08 => some (a * b)
  | 0x09 => some (mulHi (Int.ofNat a.toNat) (Int.ofNat b.toNat))
  | 0x0A => some (mulHi a.toInt b.toInt)
  | 0x0B => some (divU a b)
  | 0x0C => some (divS a b)
  | 0x0D => some (remU a b)
  | 0x0E => some (remS a b)
  | 0x10 => some (boolWord (a == b))
  | 0x11 => some (boolWord (a != b))
  | 0x12 => some (boolWord (lessS a b))
  | 0x13 => some (boolWord (lessU a b))
  | 0x14 => some (boolWord (!lessS a b))
  | 0x15 => some (boolWord (!lessU a b))
  | 0x18 => some (if lessS b a then b else a)
  | 0x19 => some (if lessS a b then b else a)
  | 0x1A => some (if lessU b a then b else a)
  | 0x1B => some (if lessU a b then b else a)
  | _ => none

/-- The FPU functions by FUNC; none for a reserved code. -/
def fpuFunc (func : Nat) (a b : Word) : Option Word :=
  match func with
  | 0x00 => some (fAdd a b)
  | 0x01 => some (fSub a b)
  | 0x02 => some (fMul a b)
  | 0x03 => some (fDiv a b)
  | 0x04 => some (fSqrt a)
  | 0x05 => some (fMin a b)
  | 0x06 => some (fMax a b)
  | 0x08 => some (fCeq a b)
  | 0x09 => some (fClt a b)
  | 0x0A => some (fCle a b)
  | 0x0C => some (fToI a)
  | 0x0D => some (fToU a)
  | 0x0E => some (iToF a)
  | 0x0F => some (uToF a)
  | _ => none

/-- Whether RS2 is to be zero in an FPU function. -/
def fpuUnary (func : Nat) : Bool := func == 4 || (decide (0x0C ≤ func) && decide (func ≤ 0x0F))

/-- An ALU word. -/
def State.doAlu (s : State) (c func rd rs1 rs2 : Nat) : State :=
  s.insn c (fun t =>
    match (if decide (0x0B ≤ func) && decide (func ≤ 0x0E) && !hasDivFpu c then none else aluFunc func (t.g c rs1) (t.g c rs2)) with
    | some v => t.yields c rd v
    | none => t.trap c 1 0 (encR 0x00 rd rs1 rs2 func))

/-- An FPU word. -/
def State.doFpu (s : State) (c func rd rs1 rs2 : Nat) : State :=
  s.insn c (fun t =>
    match (if !hasDivFpu c || (fpuUnary func && rs2 % 32 != 0) then none else fpuFunc func (t.g c rs1) (t.g c rs2)) with
    | some v => t.yields c rd v
    | none => t.trap c 1 0 (encR 0x01 rd rs1 rs2 func))

/-- The functions of the immediate opcodes 0x10 to 0x19 on RS1 and IMM. -/
def immFunc (op : Nat) (a : Word) (imm : Nat) : Word :=
  let z := BitVec.ofNat 32 (imm % 2 ^ 14)
  let x := sextW 14 imm
  match op with
  | 0x10 => a + x
  | 0x11 => a &&& z
  | 0x12 => a ||| z
  | 0x13 => a ^^^ z
  | 0x14 => shl a imm
  | 0x15 => shr a imm
  | 0x16 => sar a imm
  | 0x17 => boolWord (a == x)
  | 0x18 => boolWord (lessS a x)
  | _ => boolWord (lessU a x)

/-- An immediate word of opcodes 0x10 to 0x19; of the shifts IMM[13:5] is to be zero. -/
def State.doImm (s : State) (c op rd rs1 imm : Nat) : State :=
  s.insn c (fun t =>
    if 0x14 ≤ op ∧ op ≤ 0x16 ∧ 32 ≤ imm % 2 ^ 14 then t.trap c 1 0 (encI op rd rs1 imm)
    else t.yields c rd (immFunc op (t.g c rs1) imm))

/-- LUI. -/
def State.doLui (s : State) (c rd imm : Nat) : State := s.insn c (fun t => t.yields c rd (BitVec.ofNat 32 (imm % 2 ^ 19 * 2 ^ 13)))

/-! ### Branches and jumps -/

/-- BEZ (0x30) and BNZ (0x31). -/
def State.doBranch (s : State) (c op rs1 off : Nat) : State :=
  s.insn c (fun t =>
    if (t.g c rs1 == 0) == (op == 0x30) then t.setPc c (t.pc c + sextW 21 (off % 2 ^ 19 * 4)) else t.advance c)

/-- JAL (0x32) and J (0x33). -/
def State.doJump (s : State) (c op off : Nat) : State :=
  s.insn c (fun t =>
    let p := t.pc c
    (if op = 0x32 then t.setG c 31 (p + 4) else t).setPc c (p + sextW 26 (off % 2 ^ 24 * 4)))

/-- JALR (0x34) and JR (0x35); RD is to be zero. -/
def State.doJumpReg (s : State) (c op rd rs1 imm : Nat) : State :=
  let w := encI op rd rs1 imm
  s.insn c (fun t =>
    let a := t.ea c rs1 imm
    if rd % 32 ≠ 0 then t.trap c 1 0 w
    else if a % 4 ≠ 0 then t.trap c 7 0 w (some a)
    else
      let p := t.pc c
      (if op = 0x34 then t.setG c 31 (p + 4) else t).setPc c (BitVec.ofNat 32 a))

/-! ### Control registers (R608, R626) -/

/-- Core cycles since the core last started. -/
def State.cycles (s : State) (c : Nat) : Nat :=
  let d := s.now - (s.core c).startAt
  if c < 5 then d * 3 / 80 else if c = 5 then d / 1000 else d * 3 / 1000

/-- The words of an event queue entry (R618). -/
def Event.words (e : Event) : List Word :=
  [BitVec.ofNat 32 (e.block % 32 * 2 ^ 27 + e.code % 256 * 2 ^ 19 + (if e.replay then 2 ^ 18 else 0) + (if e.ovf then 2 ^ 17 else 0) + e.item % 65536),
    BitVec.ofNat 32 e.arg0, BitVec.ofNat 32 e.arg1, BitVec.ofNat 32 e.stamp]

/-- Word w of the oldest entry of core c's queue; zero where there is none. -/
def State.evWord (s : State) (c w : Nat) : Word :=
  match s.coreQueue c with
  | some n => match (s.queue n).entries with
    | e :: _ => e.words.getD w 0
    | [] => 0
  | none => 0

/-- Removes the oldest entry of core c's queue (R620). -/
def State.evRemove (s : State) (c : Nat) : State :=
  match s.coreQueue c with
  | some n => s.setQueue n { s.queue n with entries := (s.queue n).entries.drop 1 }
  | none => s

/-- Reads word w of a control register wider than 32 bits, under the snapshot rule with the core as initiator. -/
def State.cpuWide (s : State) (c : Nat) (r : Reg) (w : Nat) (now : Nat → Word) : State × Word :=
  let init := s.coreInit c
  let last := w + 1 == r.geom.words
  let rest := s.bus.snaps.filter (fun x => !(x.init = init && x.reg = r && x.i = c))
  let took (t : State) (entry : Bool) : State := if r = .CPU_EVQ ∧ last ∧ entry then t.evRemove c else t
  if w = 0 then
    ({ s with bus := { s.bus with snaps := rest ++ [⟨init, r, c, 0, (List.range r.geom.words).map now, s.now⟩] } }, now 0)
  else match s.bus.snaps.find? (fun x => x.init = init && x.reg = r && x.i = c) with
    | some x =>
      let s1 := if last then { s with bus := { s.bus with snaps := rest } } else s
      (took s1 (decide (x.words.getD 0 0 ≠ 0)), x.words.getD w 0)
    | none => (took (s.snapErr 17) true, now w)

/-- Reads control register IMM[7:0] (R626); a reserved index reads zero. -/
def State.cpuRead (s : State) (c idx : Nat) : State × Word :=
  let plain (r : Reg) : State × Word := (s, s.word r c 0 0)
  match idx with
  | 0x00 => plain .CPU_STATUS
  | 0x01 => plain .CPU_ESTAT
  | 0x02 => plain .CPU_EPC
  | 0x03 => plain .CPU_CAUSE
  | 0x04 => plain .CPU_BADADDR
  | 0x05 => plain .CPU_TRAPINSN
  | 0x06 => plain .CPU_TVEC
  | 0x07 => plain .CPU_ISAVER
  | 0x08 => (s, setBits (s.word .CPU_CORE c 0 0) 6 4 (match s.coreQueue c with
      | some n => n
      | none => 7))
  | 0x09 => plain .CPU_SCRATCH
  | 0x0A => s.cpuWide c .CPU_CYCLE 0 (fun w => BitVec.ofNat 32 (s.cycles c / 2 ^ (32 * w)))
  | 0x0B => s.cpuWide c .CPU_CYCLE 1 (fun w => BitVec.ofNat 32 (s.cycles c / 2 ^ (32 * w)))
  | 0x10 => s.cpuWide c .CPU_EVQ 0 (s.evWord c)
  | 0x11 => s.cpuWide c .CPU_EVQ 1 (s.evWord c)
  | 0x12 => s.cpuWide c .CPU_EVQ 2 (s.evWord c)
  | 0x13 => s.cpuWide c .CPU_EVQ 3 (s.evWord c)
  | 0x14 => match s.coreQueue c with
    | some n =>
      let q := s.queue n
      (s.setQueue n { q with lost := 0 }, BitVec.ofNat 32 (min 0xFFFF q.lost * 65536 + q.entries.length % 2048))
    | none => (s, 0)
  | k =>
    if 0x20 ≤ k ∧ k < 0x40 then (s, s.word (if k % 2 = 0 then .CPU_RBASE else .CPU_RLIM) c ((k - 0x20) / 2) 0) else (s, 0)

/-- A doorbell (R623): one entry for each running partition named. -/
def State.ring (s : State) (c target : Nat) : State :=
  if c = 6 then s
  else match s.coreQueue c with
    | some n => s.eventAll ((bitList 4 target).filter (fun k => s.running k)) 31 1 n
    | none => s

/-- Writes a control register; one that is read-only or reserved ignores it. -/
def State.cpuWrite (s : State) (c idx : Nat) (v : Word) : State :=
  let plain (r : Reg) (j : Nat) : State := s.setWord r c j 0 (s.written r c j 0 v)
  match idx with
  | 0x00 => plain .CPU_STATUS 0
  | 0x01 => plain .CPU_ESTAT 0
  | 0x02 => plain .CPU_EPC 0
  | 0x06 => plain .CPU_TVEC 0
  | 0x09 => plain .CPU_SCRATCH 0
  | 0x0C => s.ring c (bitsOf v 3 0)
  | k => if 0x20 ≤ k ∧ k < 0x40 then plain (if k % 2 = 0 then .CPU_RBASE else .CPU_RLIM) ((k - 0x20) / 2) else s

/-- Whether partition mode may read a control register. -/
def mfcOpen (idx : Nat) : Bool := idx == 0x07 || idx == 0x08 || idx == 0x0A || idx == 0x0B

/-- MFC: RS1 and IMM[13:8] are to be zero. -/
def State.doMfc (s : State) (c rd rs1 imm : Nat) : State :=
  let w := encI 0x40 rd rs1 imm
  s.insn c (fun t =>
    if rs1 % 32 ≠ 0 ∨ 256 ≤ imm % 2 ^ 14 then t.trap c 1 0 w
    else if !t.super c ∧ !mfcOpen (imm % 256) then t.trap c 3 0 w
    else
      let r := t.cpuRead c (imm % 256)
      r.1.yields c rd r.2)

/-- MTC: RD and IMM[13:8] are to be zero. -/
def State.doMtc (s : State) (c rd rs1 imm : Nat) : State :=
  let w := encI 0x41 rd rs1 imm
  s.insn c (fun t =>
    if rd % 32 ≠ 0 ∨ 256 ≤ imm % 2 ^ 14 then t.trap c 1 0 w
    else if !t.super c ∧ imm % 256 ≠ 0x0C then t.trap c 3 0 w
    else (t.cpuWrite c (imm % 256) (t.g c rs1)).advance c)

/-! ### System words -/

/-- TRAP: RD and RS1 are to be zero. -/
def State.doTrap (s : State) (c rd rs1 imm : Nat) : State :=
  let w := encI 0x42 rd rs1 imm
  s.insn c (fun t => t.trap c (if rd % 32 ≠ 0 ∨ rs1 % 32 ≠ 0 then 1 else 9) 0 w)

/-- Whether a word whose fields RD, RS1 and IMM are to be zero has them so. -/
def noFields (rd rs1 imm : Nat) : Bool := rd % 32 == 0 && rs1 % 32 == 0 && imm % 2 ^ 14 == 0

/-- RTT: privileged. -/
def State.doRtt (s : State) (c rd rs1 imm : Nat) : State :=
  let w := encI 0x43 rd rs1 imm
  s.insn c (fun t =>
    if !noFields rd rs1 imm then t.trap c 1 0 w
    else if !t.super c then t.trap c 3 0 w
    else (t.setWord .CPU_STATUS c 0 0 (setBits (t.word .CPU_STATUS c 0 0) 2 0 (t.get F.CPU_ESTAT_ALL c))).setPc c (t.word .CPU_EPC c 0 0))

/-- WAIT: the core stops until its queue holds an entry. -/
def State.doWait (s : State) (c rd rs1 imm : Nat) : State :=
  s.insn c (fun t =>
    if !noFields rd rs1 imm then t.trap c 1 0 (encI 0x44 rd rs1 imm)
    else
      let t1 := t.advance c
      let empty := match t1.coreQueue c with
        | some n => (t1.queue n).entries.isEmpty
        | none => true
      if empty then t1.setCore c { t1.core c with run := .waiting } else t1)

/-- FENCE: accesses of this model end in their order, so none is outstanding. -/
def State.doFence (s : State) (c rd rs1 imm : Nat) : State :=
  s.insn c (fun t => if !noFields rd rs1 imm then t.trap c 1 0 (encI 0x45 rd rs1 imm) else t.advance c)

/-- BRK. -/
def State.doBrk (s : State) (c rd rs1 imm : Nat) : State :=
  s.insn c (fun t => t.trap c (if noFields rd rs1 imm then 11 else 1) 0 (encI 0x46 rd rs1 imm))

/-! ### Short pairs (R598, R599) -/

/-- Fields of a short slot. -/
def slotSop (x : Nat) : Nat := x / 2 ^ 10 % 32
def slotRa (x : Nat) : Nat := x / 2 ^ 5 % 32
def slotRb (x : Nat) : Nat := x % 32

/-- Whether a slot is reserved (R595). -/
def slotReserved (x : Nat) : Bool := decide (0x1B ≤ slotSop x) || (slotSop x == 0 && (slotRa x != 0 || slotRb x != 0))
/-- Whether a slot loads, stores, accesses memory. -/
def slotLoads (x : Nat) : Bool := slotSop x == 0x11 || slotSop x == 0x19
def slotStores (x : Nat) : Bool := slotSop x == 0x12 || slotSop x == 0x1A
def slotMem (x : Nat) : Bool := slotLoads x || slotStores x
/-- The register that a slot writes. -/
def slotDest (x : Nat) : Option Nat := if slotSop x = 0 ∨ slotStores x ∨ slotRa x = 0 then none else some (slotRa x)

/-- The result of a short operation that makes no access, on RA, RB and the RB field. -/
def shortFunc (sop : Nat) (a b : Word) (rb : Nat) : Word :=
  match sop with
  | 0x01 => b
  | 0x02 => a + b
  | 0x03 => a - b
  | 0x04 => a &&& b
  | 0x05 => a ||| b
  | 0x06 => a ^^^ b
  | 0x07 => shl a b.toNat
  | 0x08 => shr a b.toNat
  | 0x09 => sar a b.toNat
  | 0x0A => 0 - b
  | 0x0B => ~~~ b
  | 0x0C => a + sextW 5 rb
  | 0x0D => sextW 5 rb
  | 0x0E => boolWord (a == b)
  | 0x0F => boolWord (lessS a b)
  | 0x10 => boolWord (lessU a b)
  | 0x13 => a * b
  | 0x14 => sextW 8 (bitsOf b 7 0)
  | 0x15 => sextW 16 (bitsOf b 15 0)
  | 0x16 => BitVec.ofNat 32 (bitsOf b 7 0)
  | 0x17 => BitVec.ofNat 32 (bitsOf b 15 0)
  | _ => boolWord (b == 0)

/-- Address of a slot that accesses memory. -/
def State.slotAddr (s : State) (c x : Nat) : Nat :=
  if slotSop x = 0x11 ∨ slotSop x = 0x12 then (s.g c (slotRb x)).toNat else (s.g c 30 + BitVec.ofNat 32 (4 * slotRb x)).toNat

/-- Writes the result of a slot, from the sources as `old` holds them. -/
def State.slotWrite (s old : State) (c x : Nat) : State :=
  if slotMem x ∨ slotSop x = 0 then s
  else s.setG c (slotRa x) (shortFunc (slotSop x) (old.g c (slotRa x)) (old.g c (slotRb x)) (slotRb x))

/-- Carries out a legal pair: the slot x, number n, that may access memory, and the other slot. -/
def State.pairRun (s : State) (c n x y ecc : Nat) (w : Word) : State :=
  let a := s.slotAddr c x
  if slotLoads x then
    let why := s.loadCause c a 4
    if why ≠ 0 then s.trap c why n w (some a)
    else match s.memRead c a ecc with
      | (u, some v) => ((u.setG c (slotRa x) v).slotWrite s c y).advance c
      | (u, none) => u.trap c 8 n w (some a)
  else if slotStores x then
    let why := s.storeCause c a 4
    if why ≠ 0 then s.trap c why n w (some a)
    else ((s.memWrite c a ecc (bytesOf (s.g c (slotRa x)))).slotWrite s c y).advance c
  else ((s.slotWrite s c x).slotWrite s c y).advance c

/-- A short pair. -/
def State.doPair (s : State) (c a b ecc : Nat) : State :=
  let w := encPair a b
  s.insn c (fun t =>
    if slotReserved a ∨ slotReserved b then
      t.trap c 1 ((if slotReserved a then 1 else 0) + (if slotReserved b then 2 else 0)) w
    else if (slotMem a && slotMem b) || ((slotDest a).isSome && slotDest a == slotDest b) then t.trap c 2 3 w
    else if slotMem b then t.pairRun c 2 b a ecc w
    else t.pairRun c 1 a b ecc w)

/-- A short operation in slot A, or in slot B where `inB` says so, with the other slot's 15 bits. -/
def State.doShort (s : State) (c : Nat) (inB : Bool) (sop ra rb other ecc : Nat) : State :=
  if inB then s.doPair c (other % 2 ^ 15) (encSlot sop ra rb) ecc else s.doPair c (encSlot sop ra rb) (other % 2 ^ 15) ecc

/-! ### An instruction word -/

/-- Carries out a long word by its fields. -/
def State.runLong (s : State) (c : Nat) (w : Word) : State :=
  let op := bitsOf w 30 24
  let rd := bitsOf w 23 19
  let rs1 := bitsOf w 18 14
  let rs2 := bitsOf w 13 9
  let func := bitsOf w 8 0
  let imm := bitsOf w 13 0
  if op = 0x00 then s.doAlu c func rd rs1 rs2
  else if op = 0x01 then s.doFpu c func rd rs1 rs2
  else if 0x10 ≤ op ∧ op ≤ 0x19 then s.doImm c op rd rs1 imm
  else if op = 0x1A then s.doLui c rd (bitsOf w 18 0)
  else if 0x20 ≤ op ∧ op ≤ 0x24 then s.doLoad c (op - 0x20) rd rs1 imm 0
  else if 0x28 ≤ op ∧ op ≤ 0x2A then s.doStore c (op - 0x28) rd rs1 imm 0
  else if op = 0x2C ∨ op = 0x2D then s.doAmo c op rd rs1 rs2 func 0
  else if op = 0x30 ∨ op = 0x31 then s.doBranch c op rs1 (rd * 2 ^ 14 + imm)
  else if op = 0x32 ∨ op = 0x33 then s.doJump c op (bitsOf w 23 0)
  else if op = 0x34 ∨ op = 0x35 then s.doJumpReg c op rd rs1 imm
  else if op = 0x40 then s.doMfc c rd rs1 imm
  else if op = 0x41 then s.doMtc c rd rs1 imm
  else if op = 0x42 then s.doTrap c rd rs1 imm
  else if op = 0x43 then s.doRtt c rd rs1 imm
  else if op = 0x44 then s.doWait c rd rs1 imm
  else if op = 0x45 then s.doFence c rd rs1 imm
  else if op = 0x46 then s.doBrk c rd rs1 imm
  else s.insn c (fun t => t.trap c 1 0 w)

/-- Carries out an instruction word (R594, R595). -/
def State.runWord (s : State) (c : Nat) (w : Word) : State :=
  if bitsOf w 31 31 = 0 then s.runLong c w
  else if bitsOf w 15 15 = 1 then s.insn c (fun t => t.trap c 1 0 w)
  else s.doPair c (bitsOf w 30 16) (bitsOf w 14 0) 0

end Sys2Proof.Machine
end

