-- ==== Sys2Proof/Machine/Cpu.lean ====
section
/-! DEFINITION. The meanings of the Cepor instruction words, of core c, and of event traps, WAIT, doorbells and queue entries. An operand that a
field is too narrow for is taken modulo the field's width. -/

set_option Elab.async false

namespace Sys2Proof.Machine

/-! ### ALU words (R593 to R596) -/

/-- R595. -/
def execAluAdd (c rd rs1 rs2 : Nat) (s : State) : Host.Outcome State Fault Refusal := s.ends (s.doAlu c 0x00 rd rs1 rs2)
/-- R595. -/
def execAluSub (c rd rs1 rs2 : Nat) (s : State) : Host.Outcome State Fault Refusal := s.ends (s.doAlu c 0x01 rd rs1 rs2)
/-- R595. -/
def execAluAnd (c rd rs1 rs2 : Nat) (s : State) : Host.Outcome State Fault Refusal := s.ends (s.doAlu c 0x02 rd rs1 rs2)
/-- R595. -/
def execAluOr (c rd rs1 rs2 : Nat) (s : State) : Host.Outcome State Fault Refusal := s.ends (s.doAlu c 0x03 rd rs1 rs2)
/-- R595. -/
def execAluXor (c rd rs1 rs2 : Nat) (s : State) : Host.Outcome State Fault Refusal := s.ends (s.doAlu c 0x04 rd rs1 rs2)
/-- R593. -/
def execAluSll (c rd rs1 rs2 : Nat) (s : State) : Host.Outcome State Fault Refusal := s.ends (s.doAlu c 0x05 rd rs1 rs2)
/-- R593. -/
def execAluSrl (c rd rs1 rs2 : Nat) (s : State) : Host.Outcome State Fault Refusal := s.ends (s.doAlu c 0x06 rd rs1 rs2)
/-- R593. -/
def execAluSra (c rd rs1 rs2 : Nat) (s : State) : Host.Outcome State Fault Refusal := s.ends (s.doAlu c 0x07 rd rs1 rs2)
/-- R595. -/
def execAluMul (c rd rs1 rs2 : Nat) (s : State) : Host.Outcome State Fault Refusal := s.ends (s.doAlu c 0x08 rd rs1 rs2)
/-- R595. -/
def execMulhu (c rd rs1 rs2 : Nat) (s : State) : Host.Outcome State Fault Refusal := s.ends (s.doAlu c 0x09 rd rs1 rs2)
/-- R595. -/
def execMulhs (c rd rs1 rs2 : Nat) (s : State) : Host.Outcome State Fault Refusal := s.ends (s.doAlu c 0x0A rd rs1 rs2)
/-- R596. -/
def execDivu (c rd rs1 rs2 : Nat) (s : State) : Host.Outcome State Fault Refusal := s.ends (s.doAlu c 0x0B rd rs1 rs2)
/-- R596. -/
def execDivs (c rd rs1 rs2 : Nat) (s : State) : Host.Outcome State Fault Refusal := s.ends (s.doAlu c 0x0C rd rs1 rs2)
/-- R596. -/
def execRemu (c rd rs1 rs2 : Nat) (s : State) : Host.Outcome State Fault Refusal := s.ends (s.doAlu c 0x0D rd rs1 rs2)
/-- R596. -/
def execRems (c rd rs1 rs2 : Nat) (s : State) : Host.Outcome State Fault Refusal := s.ends (s.doAlu c 0x0E rd rs1 rs2)
/-- R593. -/
def execAluCeq (c rd rs1 rs2 : Nat) (s : State) : Host.Outcome State Fault Refusal := s.ends (s.doAlu c 0x10 rd rs1 rs2)
/-- R593. -/
def execCne (c rd rs1 rs2 : Nat) (s : State) : Host.Outcome State Fault Refusal := s.ends (s.doAlu c 0x11 rd rs1 rs2)
/-- R593. -/
def execAluClt (c rd rs1 rs2 : Nat) (s : State) : Host.Outcome State Fault Refusal := s.ends (s.doAlu c 0x12 rd rs1 rs2)
/-- R593. -/
def execAluCltu (c rd rs1 rs2 : Nat) (s : State) : Host.Outcome State Fault Refusal := s.ends (s.doAlu c 0x13 rd rs1 rs2)
/-- R593. -/
def execCge (c rd rs1 rs2 : Nat) (s : State) : Host.Outcome State Fault Refusal := s.ends (s.doAlu c 0x14 rd rs1 rs2)
/-- R593. -/
def execCgeu (c rd rs1 rs2 : Nat) (s : State) : Host.Outcome State Fault Refusal := s.ends (s.doAlu c 0x15 rd rs1 rs2)
/-- R595. -/
def execMinS (c rd rs1 rs2 : Nat) (s : State) : Host.Outcome State Fault Refusal := s.ends (s.doAlu c 0x18 rd rs1 rs2)
/-- R595. -/
def execMaxS (c rd rs1 rs2 : Nat) (s : State) : Host.Outcome State Fault Refusal := s.ends (s.doAlu c 0x19 rd rs1 rs2)
/-- R595. -/
def execMinu (c rd rs1 rs2 : Nat) (s : State) : Host.Outcome State Fault Refusal := s.ends (s.doAlu c 0x1A rd rs1 rs2)
/-- R595. -/
def execMaxu (c rd rs1 rs2 : Nat) (s : State) : Host.Outcome State Fault Refusal := s.ends (s.doAlu c 0x1B rd rs1 rs2)

/-! ### FPU words (R597) -/

/-- R597. -/
def execFadd (c rd rs1 rs2 : Nat) (s : State) : Host.Outcome State Fault Refusal := s.ends (s.doFpu c 0x00 rd rs1 rs2)
/-- R597. -/
def execFsub (c rd rs1 rs2 : Nat) (s : State) : Host.Outcome State Fault Refusal := s.ends (s.doFpu c 0x01 rd rs1 rs2)
/-- R597. -/
def execFmul (c rd rs1 rs2 : Nat) (s : State) : Host.Outcome State Fault Refusal := s.ends (s.doFpu c 0x02 rd rs1 rs2)
/-- R597. -/
def execFdiv (c rd rs1 rs2 : Nat) (s : State) : Host.Outcome State Fault Refusal := s.ends (s.doFpu c 0x03 rd rs1 rs2)
/-- R597. -/
def execFsqrt (c rd rs1 rs2 : Nat) (s : State) : Host.Outcome State Fault Refusal := s.ends (s.doFpu c 0x04 rd rs1 rs2)
/-- R597. -/
def execFmin (c rd rs1 rs2 : Nat) (s : State) : Host.Outcome State Fault Refusal := s.ends (s.doFpu c 0x05 rd rs1 rs2)
/-- R597. -/
def execFmax (c rd rs1 rs2 : Nat) (s : State) : Host.Outcome State Fault Refusal := s.ends (s.doFpu c 0x06 rd rs1 rs2)
/-- R597. -/
def execFceq (c rd rs1 rs2 : Nat) (s : State) : Host.Outcome State Fault Refusal := s.ends (s.doFpu c 0x08 rd rs1 rs2)
/-- R597. -/
def execFclt (c rd rs1 rs2 : Nat) (s : State) : Host.Outcome State Fault Refusal := s.ends (s.doFpu c 0x09 rd rs1 rs2)
/-- R597. -/
def execFcle (c rd rs1 rs2 : Nat) (s : State) : Host.Outcome State Fault Refusal := s.ends (s.doFpu c 0x0A rd rs1 rs2)
/-- R597. -/
def execFtoi (c rd rs1 rs2 : Nat) (s : State) : Host.Outcome State Fault Refusal := s.ends (s.doFpu c 0x0C rd rs1 rs2)
/-- R597. -/
def execFtou (c rd rs1 rs2 : Nat) (s : State) : Host.Outcome State Fault Refusal := s.ends (s.doFpu c 0x0D rd rs1 rs2)
/-- R597. -/
def execItof (c rd rs1 rs2 : Nat) (s : State) : Host.Outcome State Fault Refusal := s.ends (s.doFpu c 0x0E rd rs1 rs2)
/-- R597. -/
def execUtof (c rd rs1 rs2 : Nat) (s : State) : Host.Outcome State Fault Refusal := s.ends (s.doFpu c 0x0F rd rs1 rs2)

/-! ### Immediate words -/

/-- R595. -/
def execAddi (c rd rs1 imm : Nat) (s : State) : Host.Outcome State Fault Refusal := s.ends (s.doImm c 0x10 rd rs1 imm)
/-- R595. -/
def execAndi (c rd rs1 imm : Nat) (s : State) : Host.Outcome State Fault Refusal := s.ends (s.doImm c 0x11 rd rs1 imm)
/-- R595. -/
def execOri (c rd rs1 imm : Nat) (s : State) : Host.Outcome State Fault Refusal := s.ends (s.doImm c 0x12 rd rs1 imm)
/-- R595. -/
def execXori (c rd rs1 imm : Nat) (s : State) : Host.Outcome State Fault Refusal := s.ends (s.doImm c 0x13 rd rs1 imm)
/-- R595. -/
def execSlli (c rd rs1 imm : Nat) (s : State) : Host.Outcome State Fault Refusal := s.ends (s.doImm c 0x14 rd rs1 imm)
/-- R595. -/
def execSrli (c rd rs1 imm : Nat) (s : State) : Host.Outcome State Fault Refusal := s.ends (s.doImm c 0x15 rd rs1 imm)
/-- R595. -/
def execSrai (c rd rs1 imm : Nat) (s : State) : Host.Outcome State Fault Refusal := s.ends (s.doImm c 0x16 rd rs1 imm)
/-- R595. -/
def execCeqi (c rd rs1 imm : Nat) (s : State) : Host.Outcome State Fault Refusal := s.ends (s.doImm c 0x17 rd rs1 imm)
/-- R595. -/
def execClti (c rd rs1 imm : Nat) (s : State) : Host.Outcome State Fault Refusal := s.ends (s.doImm c 0x18 rd rs1 imm)
/-- R595. -/
def execCltui (c rd rs1 imm : Nat) (s : State) : Host.Outcome State Fault Refusal := s.ends (s.doImm c 0x19 rd rs1 imm)
/-- R594. -/
def execLui (c rd imm : Nat) (s : State) : Host.Outcome State Fault Refusal := s.ends (s.doLui c rd imm)

/-! ### Loads, stores and atomic operations (R600 to R607) -/

/-- R600. `ecc` is the number of bit errors in the stored word. -/
def execLdw (c rd rs1 imm ecc : Nat) (s : State) : Host.Outcome State Fault Refusal := s.ends (s.doLoad c 0 rd rs1 imm ecc)
/-- R600. -/
def execLdh (c rd rs1 imm ecc : Nat) (s : State) : Host.Outcome State Fault Refusal := s.ends (s.doLoad c 1 rd rs1 imm ecc)
/-- R600. -/
def execLdhu (c rd rs1 imm ecc : Nat) (s : State) : Host.Outcome State Fault Refusal := s.ends (s.doLoad c 2 rd rs1 imm ecc)
/-- R600. -/
def execLdb (c rd rs1 imm ecc : Nat) (s : State) : Host.Outcome State Fault Refusal := s.ends (s.doLoad c 3 rd rs1 imm ecc)
/-- R600. -/
def execLdbu (c rd rs1 imm ecc : Nat) (s : State) : Host.Outcome State Fault Refusal := s.ends (s.doLoad c 4 rd rs1 imm ecc)
/-- R600. -/
def execStw (c rd rs1 imm ecc : Nat) (s : State) : Host.Outcome State Fault Refusal := s.ends (s.doStore c 0 rd rs1 imm ecc)
/-- R600. -/
def execSth (c rd rs1 imm ecc : Nat) (s : State) : Host.Outcome State Fault Refusal := s.ends (s.doStore c 1 rd rs1 imm ecc)
/-- R600. -/
def execStb (c rd rs1 imm ecc : Nat) (s : State) : Host.Outcome State Fault Refusal := s.ends (s.doStore c 2 rd rs1 imm ecc)
/-- R605. -/
def execAmoswap (c rd rs1 rs2 func ecc : Nat) (s : State) : Host.Outcome State Fault Refusal := s.ends (s.doAmo c 0x2C rd rs1 rs2 func ecc)
/-- R605. -/
def execAmoadd (c rd rs1 rs2 func ecc : Nat) (s : State) : Host.Outcome State Fault Refusal := s.ends (s.doAmo c 0x2D rd rs1 rs2 func ecc)

/-! ### Branches and jumps -/

/-- R593. -/
def execBez (c rs1 off : Nat) (s : State) : Host.Outcome State Fault Refusal := s.ends (s.doBranch c 0x30 rs1 off)
/-- R593. -/
def execBnz (c rs1 off : Nat) (s : State) : Host.Outcome State Fault Refusal := s.ends (s.doBranch c 0x31 rs1 off)
/-- R592. -/
def execJal (c off : Nat) (s : State) : Host.Outcome State Fault Refusal := s.ends (s.doJump c 0x32 off)
/-- R594. -/
def execJump (c off : Nat) (s : State) : Host.Outcome State Fault Refusal := s.ends (s.doJump c 0x33 off)
/-- R611. -/
def execJalr (c rd rs1 imm : Nat) (s : State) : Host.Outcome State Fault Refusal := s.ends (s.doJumpReg c 0x34 rd rs1 imm)
/-- R611. -/
def execJr (c rd rs1 imm : Nat) (s : State) : Host.Outcome State Fault Refusal := s.ends (s.doJumpReg c 0x35 rd rs1 imm)

/-! ### Control registers and system words -/

/-- R608. -/
def execMfc (c rd rs1 imm : Nat) (s : State) : Host.Outcome State Fault Refusal := s.ends (s.doMfc c rd rs1 imm)
/-- R608. -/
def execMtc (c rd rs1 imm : Nat) (s : State) : Host.Outcome State Fault Refusal := s.ends (s.doMtc c rd rs1 imm)
/-- R613. -/
def execTrapInsn (c rd rs1 imm : Nat) (s : State) : Host.Outcome State Fault Refusal := s.ends (s.doTrap c rd rs1 imm)
/-- R613. -/
def execRtt (c rd rs1 imm : Nat) (s : State) : Host.Outcome State Fault Refusal := s.ends (s.doRtt c rd rs1 imm)
/-- R624. -/
def execWaitInsn (c rd rs1 imm : Nat) (s : State) : Host.Outcome State Fault Refusal := s.ends (s.doWait c rd rs1 imm)
/-- R604. -/
def execFence (c rd rs1 imm : Nat) (s : State) : Host.Outcome State Fault Refusal := s.ends (s.doFence c rd rs1 imm)
/-- R611. -/
def execBrk (c rd rs1 imm : Nat) (s : State) : Host.Outcome State Fault Refusal := s.ends (s.doBrk c rd rs1 imm)

/-! ### Short operations (R598, R599) -/

/-- R598. -/
def execShortNop (c : Nat) (inB : Bool) (ra rb other ecc : Nat) (s : State) : Host.Outcome State Fault Refusal := s.ends (s.doShort c inB 0x00 ra rb other ecc)
/-- R598. -/
def execShortMov (c : Nat) (inB : Bool) (ra rb other ecc : Nat) (s : State) : Host.Outcome State Fault Refusal := s.ends (s.doShort c inB 0x01 ra rb other ecc)
/-- R598. -/
def execShortAdd (c : Nat) (inB : Bool) (ra rb other ecc : Nat) (s : State) : Host.Outcome State Fault Refusal := s.ends (s.doShort c inB 0x02 ra rb other ecc)
/-- R598. -/
def execShortSub (c : Nat) (inB : Bool) (ra rb other ecc : Nat) (s : State) : Host.Outcome State Fault Refusal := s.ends (s.doShort c inB 0x03 ra rb other ecc)
/-- R598. -/
def execShortAnd (c : Nat) (inB : Bool) (ra rb other ecc : Nat) (s : State) : Host.Outcome State Fault Refusal := s.ends (s.doShort c inB 0x04 ra rb other ecc)
/-- R598. -/
def execShortOr (c : Nat) (inB : Bool) (ra rb other ecc : Nat) (s : State) : Host.Outcome State Fault Refusal := s.ends (s.doShort c inB 0x05 ra rb other ecc)
/-- R598. -/
def execShortXor (c : Nat) (inB : Bool) (ra rb other ecc : Nat) (s : State) : Host.Outcome State Fault Refusal := s.ends (s.doShort c inB 0x06 ra rb other ecc)
/-- R598. -/
def execShortSll (c : Nat) (inB : Bool) (ra rb other ecc : Nat) (s : State) : Host.Outcome State Fault Refusal := s.ends (s.doShort c inB 0x07 ra rb other ecc)
/-- R598. -/
def execShortSrl (c : Nat) (inB : Bool) (ra rb other ecc : Nat) (s : State) : Host.Outcome State Fault Refusal := s.ends (s.doShort c inB 0x08 ra rb other ecc)
/-- R598. -/
def execShortSra (c : Nat) (inB : Bool) (ra rb other ecc : Nat) (s : State) : Host.Outcome State Fault Refusal := s.ends (s.doShort c inB 0x09 ra rb other ecc)
/-- R598. -/
def execShortNeg (c : Nat) (inB : Bool) (ra rb other ecc : Nat) (s : State) : Host.Outcome State Fault Refusal := s.ends (s.doShort c inB 0x0A ra rb other ecc)
/-- R598. -/
def execShortNot (c : Nat) (inB : Bool) (ra rb other ecc : Nat) (s : State) : Host.Outcome State Fault Refusal := s.ends (s.doShort c inB 0x0B ra rb other ecc)
/-- R598. -/
def execShortAddq (c : Nat) (inB : Bool) (ra rb other ecc : Nat) (s : State) : Host.Outcome State Fault Refusal := s.ends (s.doShort c inB 0x0C ra rb other ecc)
/-- R598. -/
def execShortLiq (c : Nat) (inB : Bool) (ra rb other ecc : Nat) (s : State) : Host.Outcome State Fault Refusal := s.ends (s.doShort c inB 0x0D ra rb other ecc)
/-- R598. -/
def execShortCeq (c : Nat) (inB : Bool) (ra rb other ecc : Nat) (s : State) : Host.Outcome State Fault Refusal := s.ends (s.doShort c inB 0x0E ra rb other ecc)
/-- R598. -/
def execShortClt (c : Nat) (inB : Bool) (ra rb other ecc : Nat) (s : State) : Host.Outcome State Fault Refusal := s.ends (s.doShort c inB 0x0F ra rb other ecc)
/-- R598. -/
def execShortCltu (c : Nat) (inB : Bool) (ra rb other ecc : Nat) (s : State) : Host.Outcome State Fault Refusal := s.ends (s.doShort c inB 0x10 ra rb other ecc)
/-- R599. -/
def execShortLdw (c : Nat) (inB : Bool) (ra rb other ecc : Nat) (s : State) : Host.Outcome State Fault Refusal := s.ends (s.doShort c inB 0x11 ra rb other ecc)
/-- R599. -/
def execShortStw (c : Nat) (inB : Bool) (ra rb other ecc : Nat) (s : State) : Host.Outcome State Fault Refusal := s.ends (s.doShort c inB 0x12 ra rb other ecc)
/-- R598. -/
def execShortMul (c : Nat) (inB : Bool) (ra rb other ecc : Nat) (s : State) : Host.Outcome State Fault Refusal := s.ends (s.doShort c inB 0x13 ra rb other ecc)
/-- R598. -/
def execShortSexb (c : Nat) (inB : Bool) (ra rb other ecc : Nat) (s : State) : Host.Outcome State Fault Refusal := s.ends (s.doShort c inB 0x14 ra rb other ecc)
/-- R598. -/
def execShortSexh (c : Nat) (inB : Bool) (ra rb other ecc : Nat) (s : State) : Host.Outcome State Fault Refusal := s.ends (s.doShort c inB 0x15 ra rb other ecc)
/-- R598. -/
def execShortZexb (c : Nat) (inB : Bool) (ra rb other ecc : Nat) (s : State) : Host.Outcome State Fault Refusal := s.ends (s.doShort c inB 0x16 ra rb other ecc)
/-- R598. -/
def execShortZexh (c : Nat) (inB : Bool) (ra rb other ecc : Nat) (s : State) : Host.Outcome State Fault Refusal := s.ends (s.doShort c inB 0x17 ra rb other ecc)
/-- R598. -/
def execShortCeqz (c : Nat) (inB : Bool) (ra rb other ecc : Nat) (s : State) : Host.Outcome State Fault Refusal := s.ends (s.doShort c inB 0x18 ra rb other ecc)
/-- R599. -/
def execShortLdwsp (c : Nat) (inB : Bool) (ra rb other ecc : Nat) (s : State) : Host.Outcome State Fault Refusal := s.ends (s.doShort c inB 0x19 ra rb other ecc)
/-- R599. -/
def execShortStwsp (c : Nat) (inB : Bool) (ra rb other ecc : Nat) (s : State) : Host.Outcome State Fault Refusal := s.ends (s.doShort c inB 0x1A ra rb other ecc)

/-! ### Events (R620, R623, R624) -/

/-- R624: at a word boundary, where the queue holds an entry, IE is 1 and EXL 0. -/
def State.eventTrap (s : State) (c : Nat) : State :=
  let full := match s.coreQueue c with
    | some n => !(s.queue n).entries.isEmpty
    | none => false
  if s.coreLive c && full && s.on F.CPU_STATUS_IE c && !s.on F.CPU_STATUS_EXL c then s.takeTrap c 10 0 0 (s.pc c) else s

/-- R624. -/
def execEventTrap (c : Nat) (s : State) : Host.Outcome State Fault Refusal := s.ends (s.eventTrap c)

/-- R624: the core goes on after its WAIT, or traps with cause 10 if it may. -/
def execWaitResume (c : Nat) (s : State) : Host.Outcome State Fault Refusal :=
  s.ends (match s.coreQueue c with
    | some n =>
      if (s.core c).run = .waiting ∧ (s.core c).halted = false ∧ (s.queue n).entries ≠ [] ∧ (s.pwr ≠ 1 ∨ c = 5) then
        (s.setCore c { s.core c with run := .running }).eventTrap c
      else s
    | none => s)

/-- R623: core c writes TARGET. -/
def execDoorbell (c target : Nat) (s : State) : Host.Outcome State Fault Refusal := s.ends (if s.coreLive c then s.ring c target else s)

/-- The oldest entry of core c's queue reads as uncorrectable: it is dropped, counted in LOST, and the next entry carries OVF (R621, R630). -/
def State.evUnread (s : State) (c n : Nat) : State :=
  let q := s.queue n
  let rest := match q.entries.drop 1 with
    | e :: r => { e with ovf := true } :: r
    | [] => []
  ((s.ramLost 15 7 (Reg.CPU_EVQ.addr c 0 0)).setQueue n
    { entries := rest, lost := min 0xFFFF (q.lost + 1), ovfNext := q.ovfNext || rest.isEmpty }).cum 27

/-- R620: core c reads CPU_EVQ3. -/
def execEventEntryRemove (c : Nat) (unc : Bool) (s : State) : Host.Outcome State Fault Refusal :=
  s.ends (if s.coreLive c then
    match s.coreQueue c with
    | some n => if unc ∧ (s.queue n).entries ≠ [] then s.evUnread c n else (s.cpuRead c 0x13).1
    | none => (s.cpuRead c 0x13).1
  else s)

/-! ### Words of a handshake link -/

/-- Tells the consumer of a word that a link has dropped as uncorrectable (R32, R492, R607): a load traps with cause 8, a posted write is lost
and reported; the words of other transfers have no consumer that the spec names. -/
def State.linkDropped (s : State) (u : LinkUse) : State :=
  match u with
  | .other => s
  | .load c a => if s.coreLive c then s.tookFresh.trap c 8 0 (BitVec.ofNat 32 s.fresh) (some a) else s
  | .store init a => match init with
    | .part n => s.event n 15 5 0xFFFF a 7
    | _ => s

/-- R32: a word crosses link l with errors on some of its lanes, and with its address parity right or wrong; `u` is the transfer it belongs to. -/
def execLinkWord (l : Nat) (lanes : List Nat) (parityBad : Bool) (u : LinkUse) (s : State) : Host.Outcome State Fault Refusal :=
  let bad := s.badLanes l lanes
  s.ends (if s.domOn domFAB = false ∨ (s.link l).pausedTo.isSome then s
  else if parityBad ∨ 2 ≤ bad.length then ((s.bump F.ERR_BLK3_LINKUNC 15).cum 4).linkDropped u
  else match bad with
    | [x] => ((s.bump F.ERR_BLK3_LINKCORR 15).cum 3).laneHit l x
    | _ => s)

end Sys2Proof.Machine
end

