-- ==== Sys2Proof/Machine/Pins.lean ====
section
/-! DEFINITION. The pins of the module (R70 to R74): the order of the pin field, the state that each pin group takes in each power
state (R79, R80), and the cells of the boundary-scan register (R85, R102). -/

set_option Elab.async false

namespace Sys2Proof.Machine

/-- The pin groups of the table of R71, and the outputs that leave through power tabs (R73). -/
inductive PinGroup where
  | classM | classL | bankHigh | valveLow | tow | wakeIn | wakeOut | ground | supply | stringPins | matrixNodes | ambient | aerials
  | uhf | fieldInputs | tpo | tci | can | lin | ethernet | hostPort | resetN | rlck | rlda | pgood | flash | debug | crystal25 | crystal32
  | metering | classH | bridges
deriving DecidableEq, Repr

/-- The pin field in the order of R71 with the number of pins of each group, then the HS and BH outputs of the power tabs (DESIGN CHOICE, log
entry 141: the spec leaves the cell order to the part's design data). -/
def pinField : List (PinGroup × Nat) :=
  [(.classM, 48), (.classL, 24), (.bankHigh, 12), (.valveLow, 24), (.tow, 8), (.wakeIn, 1), (.wakeOut, 1), (.ground, 10), (.supply, 8),
   (.stringPins, 48), (.matrixNodes, 88), (.ambient, 36), (.aerials, 16), (.uhf, 2), (.ground, 10), (.fieldInputs, 96), (.tpo, 16),
   (.tci, 8), (.can, 20), (.lin, 12), (.ethernet, 20), (.hostPort, 4), (.ground, 11), (.supply, 22), (.resetN, 1), (.rlck, 1), (.rlda, 1),
   (.pgood, 2), (.flash, 13), (.debug, 5), (.crystal25, 2), (.crystal32, 2), (.ground, 10), (.metering, 10), (.classH, 12), (.bridges, 8)]

/-- The group of pin position k, with its place in the group. -/
def pinAt : List (PinGroup × Nat) → Nat → Option (PinGroup × Nat)
  | [], _ => none
  | (g, n) :: gs, k => if k < n then some (g, k) else pinAt gs (k - n)

/-! ### Pin states (R79, R80) -/

/-- How a pin stands: driven by its block, switched off, an input, biased by a resistor (CAN to GND, LIN to VBAT, UHF_IN to UHF_GND), wetted,
an open-drain line, a running oscillator, or floating. -/
inductive PinState where
  | driven | off | input | biased | wetted | openDrain | oscillating | floating | external
deriving DecidableEq, Repr

/-- Whether pins still take their DEEP PARK states: from a P reset until configuration applied (R80). -/
def State.pinsHeld (s : State) : Bool := decide (s.boot.kind = 0) && decide (s.boot.step < 10)

/-- A group that its domain drives, and that floats without it. -/
def State.pinBy (s : State) (d : Nat) (up down : PinState) : PinState := if s.domOn d && !s.pinsHeld then up else down

/-- Whether an AON comparator that is on watches field input i (R541). -/
def State.watched (s : State) (i : Nat) : Bool :=
  (List.range 8).any (fun n => s.on F.PMU_CMP_EN n && s.get F.PMU_CMP_SRC n == i)

/-- A power output: driven while the device is not parked or its channel is park-held, else off. -/
def State.powerPin (s : State) (x : Nat) : PinState :=
  if s.domOn domPWR && !s.pinsHeld && (!s.parked || s.parkHeld x) then .driven else .off

/-- The state of place k of a pin group. -/
def State.pinState (s : State) (g : PinGroup) (k : Nat) : PinState :=
  match g with
  | .classH => s.powerPin k
  | .classM => s.powerPin (12 + k / 2)
  | .classL => s.powerPin (36 + k)
  | .bridges => s.powerPin (64 + k)
  | .valveLow => s.powerPin (80 + k)
  | .bankHigh => if (bankOuts (k / 3)).any (fun x => s.powerPin x == .driven) then .driven else .off
  | .tow | .wakeIn | .resetN | .pgood => .input
  | .wakeOut | .rlck => .driven
  | .rlda => .openDrain
  | .stringPins | .matrixNodes | .ambient => s.pinBy domLGT .driven .floating
  | .aerials => s.pinBy domACC .driven .floating
  | .uhf => s.pinBy domACC .input .biased
  | .fieldInputs =>
    if s.domOn domPWR && !s.pinsHeld && !s.parked then .wetted
    else if s.watched k && !s.pinsHeld then .input else .floating
  | .tpo => s.pinBy domTIM .driven .floating
  | .tci => s.pinBy domTIM .input .floating
  | .can => s.pinBy domBUS .driven .biased
  | .lin => s.pinBy domBUS .driven .biased
  | .ethernet | .hostPort => s.pinBy domNET .driven .floating
  | .flash => if s.domOn domFAB || s.pinsHeld then .driven else .floating
  | .debug => if s.domOn domFAB then .input else .floating
  | .crystal25 => if s.domOn domTIM then .oscillating else .floating
  | .crystal32 => .oscillating
  | .metering | .ground | .supply => .external

/-! ### The boundary-scan register (R85) -/

/-- A cell that observes its pin only, or one that may drive it. -/
inductive Cell where
  | observe | drive
deriving DecidableEq, Repr

/-- The cell of a pin group: observe-only on pins fed from VBAT or VLED, drive on the pins whose limit is VIO + 0.3 V (R102), none on supplies,
crystals and the metering island's pins. -/
def PinGroup.cell : PinGroup → Option Cell
  | .classM | .classL | .classH | .bridges | .bankHigh | .valveLow | .tow | .wakeIn | .wakeOut | .stringPins | .matrixNodes | .ambient
  | .aerials | .uhf | .fieldInputs | .can | .lin => some .observe
  | .tpo | .tci | .ethernet | .hostPort | .resetN | .rlck | .rlda | .pgood | .flash | .debug => some .drive
  | .ground | .supply | .crystal25 | .crystal32 | .metering => none

/-- The cells of the boundary-scan register in pin order. -/
def boundaryCells : List Cell := pinField.flatMap (fun p => match p.1.cell with
  | some c => List.replicate p.2 c
  | none => [])

/-- What SAMPLE shifts out: the levels of the pins that have a cell, the first pin in bit 0. -/
def boundarySample (pins : List Nat) : Nat := (pins.take boundaryCells.length).foldr (fun b acc => b % 2 + 2 * acc) 0

/-- What PRELOAD leaves in the cells: an observe-only cell holds nothing to drive. -/
def boundaryLoad (bits : List Nat) : List Bool :=
  List.zipWith (fun c b => c == .drive && b % 2 == 1) boundaryCells (bits ++ List.replicate (boundaryCells.length - bits.length) 0)

/-- The level that EXTEST drives at cell k; none where the cell only observes or EXTEST is not selected. -/
def State.extestLevel (s : State) (k : Nat) : Option Bool :=
  if s.jtag.ir = 3 ∧ boundaryCells[k]? = some .drive then s.jtag.cells[k]? else none

end Sys2Proof.Machine
end

