-- ==== Sys2Proof/Machine/Jtag.lean ====
section
/-! DEFINITION. The test access port (R83 to R85): BYPASS, IDCODE, boundary scan, and core debug. -/

set_option Elab.async false

namespace Sys2Proof.Machine

/-- Selects an instruction with what its register returns: 0 BYPASS, 1 IDCODE, 2 SAMPLE/PRELOAD, 3 EXTEST. The port is powered from
PD-FAB. -/
def State.jtagSel (s : State) (ir dr : Nat) : State :=
  if s.domOn domFAB then { s with jtag := { s.jtag with ir := ir, dr := dr } } else s

/-- The IDCODE register. -/
def idCode : Nat := Config.idRevision % 16 * 2 ^ 28 + 0x8400 * 2 ^ 12 + Config.idManufacturer % 2048 * 2 + 1

/-- R83. -/
def execJtagBypass (s : State) : Host.Outcome State Fault Refusal := s.ends (s.jtagSel 0 0)

/-- R83. -/
def execJtagIdcode (s : State) : Host.Outcome State Fault Refusal := s.ends (s.jtagSel 1 idCode)

/-- R85: `pins` are the levels that the boundary-scan cells observe, `preload` what is shifted into them, both in pin order; any other state
selects the bypass register. -/
def execSamplePreload (pins preload : List Nat) (s : State) : Host.Outcome State Fault Refusal :=
  s.ends (if s.jtag.mode = 2 ∧ s.domOn domFAB then
    let t := s.jtagSel 2 (boundarySample pins)
    { t with jtag := { t.jtag with cells := boundaryLoad preload } }
  else s.jtagSel 0 0)

/-- R85: the preloaded cells drive their pins in service-only state. -/
def execExtest (s : State) : Host.Outcome State Fault Refusal :=
  s.ends (if s.jtag.mode = 2 ∧ s.serviceOnly then s.jtagSel 3 s.jtag.dr else s.jtagSel 0 0)

/-- Whether the port may act on core c in core debug: the one C6 core that it halts hosts a partition or is the relief core (R84). -/
def State.debugOn (s : State) (c : Nat) : Bool :=
  decide (c < 5) && s.jtag.mode == 1 && s.domOn domFAB && ((s.partOn c).isSome || (c == 4 && s.domOn domRC))

/-- Carries out an instruction of core debug; in every other mode its code selects the bypass register (R83, R84). -/
def State.debugs (s : State) (act : State → State) : State := if s.jtag.mode = 1 then act s else s.jtagSel 0 0

/-- Whether core c is halted for the port. -/
def State.debugHalted (s : State) (c : Nat) : Bool := s.debugOn c && (s.core c).halted

def State.setHalted (s : State) (c : Nat) (b : Bool) : State := s.setCore c { s.core c with halted := b }

/-- R84: one core at a time. -/
def execCoreHalt (c : Nat) (s : State) : Host.Outcome State Fault Refusal :=
  s.ends (s.debugs (fun t0 => if t0.debugOn c && !(List.range 5).any (fun k => (t0.core k).halted) then t0.setHalted c true else t0))

/-- R84: one instruction word, as it stands in memory; a core that has stopped in the meantime is no longer halted. -/
def execCoreStep (c : Nat) (s : State) : Host.Outcome State Fault Refusal :=
  s.ends (s.debugs (fun t0 => if t0.debugHalted c then
    let t := t0.setHalted c false
    let u := t.runWord c (t.rd32 (physAt c (t.pc c).toNat))
    if (u.core c).run = .stopped then u else u.setHalted c true
  else t0))

/-- R84. -/
def execCoreResume (c : Nat) (s : State) : Host.Outcome State Fault Refusal :=
  s.ends (s.debugs (fun t0 => if t0.debugHalted c then t0.setHalted c false else t0))

/-- R84: register k, a general one below 32, else control register k − 32. No queue is emptied. -/
def execDebugRegisterRead (c k : Nat) (s : State) : Host.Outcome State Fault Refusal :=
  s.ends (s.debugs (fun t0 => if t0.debugHalted c then
    { t0 with jtag := { t0.jtag with dr := (if k < 32 then t0.g c k else (t0.cpuRead c (k - 32)).2).toNat } }
  else t0))

/-- R84. -/
def execDebugRegisterWrite (c k v : Nat) (s : State) : Host.Outcome State Fault Refusal :=
  s.ends (s.debugs (fun t0 => if t0.debugHalted c then
    (if k < 32 then t0.setG c k (BitVec.ofNat 32 v) else t0.cpuWrite c (k - 32) (BitVec.ofNat 32 v))
  else t0))

/-- R84: an aligned load of 4, 2 or 1 bytes; an uncorrectable word is not delivered. -/
def execDebugLoad (c a size : Nat) (s : State) : Host.Outcome State Fault Refusal :=
  s.ends (s.debugs (fun t0 => if t0.debugHalted c && (size == 4 || size == 2 || size == 1) && decide (a % size = 0) then
    match t0.memRead c (a / 4 * 4) 0 with
    | (t, some w) => { t with jtag := { t.jtag with dr := (loadValue (if size = 4 then 0 else if size = 2 then 2 else 4) a w).toNat } }
    | (t, none) => t
  else t0))

/-- R84. -/
def execDebugStore (c a size v : Nat) (s : State) : Host.Outcome State Fault Refusal :=
  s.ends (s.debugs (fun t0 => if t0.debugHalted c && (size == 4 || size == 2 || size == 1) && decide (a % size = 0) then
    t0.memWrite c a 0 ((bytesOf (BitVec.ofNat 32 v)).take size)
  else t0))

end Sys2Proof.Machine
end

