-- ==== Sys2Proof/Machine/Dispatch.lean ====
section
/-! DEFINITION. One arm per command: its meaning, called by name. -/

namespace Sys2Proof.Machine

def exec (i : Instr) (s : State) : Host.Outcome State Fault Refusal :=
  match i with
  | .snapshot init a => Sys2Proof.Machine.execSnapshot init a s
  | .snapshotRelease init a => Sys2Proof.Machine.execSnapshotRelease init a s
  | .tornRead init a => Sys2Proof.Machine.execTornRead init a s
  | .abandonedSnapshot init a => Sys2Proof.Machine.execAbandonedSnapshot init a s
  | .wideWordStage init a v => Sys2Proof.Machine.execWideWordStage init a v s
  | .registerWrite init a v => Sys2Proof.Machine.execRegisterWrite init a v s
  | .undefinedAddressAccess init a v => Sys2Proof.Machine.execUndefinedAddressAccess init a v s
  | .undecodedAddressAccess init a v => Sys2Proof.Machine.execUndecodedAddressAccess init a v s
  | .domainOffRead init a => Sys2Proof.Machine.execDomainOffRead init a s
  | .linkWord l lanes parityBad u => Sys2Proof.Machine.execLinkWord l lanes parityBad u s
  | .idlePatternCheck l stuck => Sys2Proof.Machine.execIdlePatternCheck l stuck s
  | .laneMoveComplete l => Sys2Proof.Machine.execLaneMoveComplete l s
  | .groupAliasWrite init a v => Sys2Proof.Machine.execGroupAliasWrite init a v s
  | .memberWrite init block g w v => Sys2Proof.Machine.execMemberWrite init block g w v s
  | .brownOut vbat => Sys2Proof.Machine.execBrownOut vbat s
  | .cutThresholdFall vbat => Sys2Proof.Machine.execCutThresholdFall vbat s
  | .cutThresholdRise vbat => Sys2Proof.Machine.execCutThresholdRise vbat s
  | .cutTimeExpiry => Sys2Proof.Machine.execCutTimeExpiry s
  | .holdZoneEntry vbat => Sys2Proof.Machine.execHoldZoneEntry vbat s
  | .fullZoneEntry vbat => Sys2Proof.Machine.execFullZoneEntry vbat s
  | .overvoltageEntry vbat => Sys2Proof.Machine.execOvervoltageEntry vbat s
  | .overvoltageExit vbat => Sys2Proof.Machine.execOvervoltageExit vbat s
  | .recoveryThresholdRise vbat => Sys2Proof.Machine.execRecoveryThresholdRise vbat s
  | .pgoodLoss i1 => Sys2Proof.Machine.execPgoodLoss i1 s
  | .resetNAssert => Sys2Proof.Machine.execResetNAssert s
  | .resetNLongHold => Sys2Proof.Machine.execResetNLongHold s
  | .resetNRelease => Sys2Proof.Machine.execResetNRelease s
  | .jtagBypass => Sys2Proof.Machine.execJtagBypass s
  | .jtagIdcode => Sys2Proof.Machine.execJtagIdcode s
  | .samplePreload pins preload => Sys2Proof.Machine.execSamplePreload pins preload s
  | .extest => Sys2Proof.Machine.execExtest s
  | .coreHalt c => Sys2Proof.Machine.execCoreHalt c s
  | .coreStep c => Sys2Proof.Machine.execCoreStep c s
  | .coreResume c => Sys2Proof.Machine.execCoreResume c s
  | .debugRegisterRead c k => Sys2Proof.Machine.execDebugRegisterRead c k s
  | .debugRegisterWrite c k v => Sys2Proof.Machine.execDebugRegisterWrite c k v s
  | .debugLoad c a size => Sys2Proof.Machine.execDebugLoad c a size s
  | .debugStore c a size v => Sys2Proof.Machine.execDebugStore c a size v s
  | .pgoodRise i1 => Sys2Proof.Machine.execPgoodRise i1 s
  | .pgoodTimeout i1 => Sys2Proof.Machine.execPgoodTimeout i1 s
  | .domainTurnOn => Sys2Proof.Machine.execDomainTurnOn s
  | .sramTestEnd faulty => Sys2Proof.Machine.execSramTestEnd faulty s
  | .flashProbeEnd f0 f1 => Sys2Proof.Machine.execFlashProbeEnd f0 f1 s
  | .serviceOnlyTimeout => Sys2Proof.Machine.execServiceOnlyTimeout s
  | .partCheckEnd part verdict addrs vals => Sys2Proof.Machine.execPartCheckEnd part verdict addrs vals s
  | .writeRecord => Sys2Proof.Machine.execWriteRecord s
  | .burstRecord => Sys2Proof.Machine.execBurstRecord s
  | .maskedWriteRecord => Sys2Proof.Machine.execMaskedWriteRecord s
  | .waitRecord => Sys2Proof.Machine.execWaitRecord s
  | .waitRecordSatisfied => Sys2Proof.Machine.execWaitRecordSatisfied s
  | .waitRecordTimeout => Sys2Proof.Machine.execWaitRecordTimeout s
  | .legalTimeMessage t => Sys2Proof.Machine.execLegalTimeMessage t s
  | .t3Timeout => Sys2Proof.Machine.execT3Timeout s
  | .decoderCalibrationEnd d => Sys2Proof.Machine.execDecoderCalibrationEnd d s
  | .backgroundRecalibration d => Sys2Proof.Machine.execBackgroundRecalibration d s
  | .linkTrainingEnd p path audited rtt cable sqi => Sys2Proof.Machine.execLinkTrainingEnd p path audited rtt cable sqi s
  | .linkDown p => Sys2Proof.Machine.execLinkDown p s
  | .servoOffset n e => Sys2Proof.Machine.execServoOffset n e s
  | .scaleStep n => Sys2Proof.Machine.execScaleStep n s
  | .rateUpdate n => Sys2Proof.Machine.execRateUpdate n s
  | .holdoverEntry n => Sys2Proof.Machine.execHoldoverEntry n s
  | .modeServo init n => Sys2Proof.Machine.execModeServo init n s
  | .modeIncrement init n => Sys2Proof.Machine.execModeIncrement init n s
  | .modeOff init n => Sys2Proof.Machine.execModeOff init n s
  | .offsetWrite init n e => Sys2Proof.Machine.execOffsetWrite init n e s
  | .feedWrite init n e => Sys2Proof.Machine.execFeedWrite init n e s
  | .gnssPulse n rise => Sys2Proof.Machine.execGnssPulse n rise s
  | .incrementWrite init n v => Sys2Proof.Machine.execIncrementWrite init n v s
  | .shadowMismatch lossP lossS tickP tickS => Sys2Proof.Machine.execShadowMismatch lossP lossS tickP tickS s
  | .switchOverComplete => Sys2Proof.Machine.execSwitchOverComplete s
  | .shadowSelfTest pass => Sys2Proof.Machine.execShadowSelfTest pass s
  | .plannedSwap init => Sys2Proof.Machine.execPlannedSwap init s
  | .plannedSwapApply => Sys2Proof.Machine.execPlannedSwapApply s
  | .tpoArm init n => Sys2Proof.Machine.execTpoArm init n s
  | .tpoDisarm init n => Sys2Proof.Machine.execTpoDisarm init n s
  | .tpoLeadingEdge n => Sys2Proof.Machine.execTpoLeadingEdge n s
  | .tpoTrailingEdge n => Sys2Proof.Machine.execTpoTrailingEdge n s
  | .tciEdge i1 rise => Sys2Proof.Machine.execTciEdge i1 rise s
  | .frameReceive p frame => Sys2Proof.Machine.execFrameReceive p frame s
  | .entryAgeing k => Sys2Proof.Machine.execEntryAgeing k s
  | .egressStart p fault collided => Sys2Proof.Machine.execEgressStart p fault collided s
  | .fdbReadIndex init idx => Sys2Proof.Machine.execFdbReadIndex init idx s
  | .fdbWriteByKey init => Sys2Proof.Machine.execFdbWriteByKey init s
  | .fdbLookUpKey init => Sys2Proof.Machine.execFdbLookUpKey init s
  | .fdbDeleteByKey init => Sys2Proof.Machine.execFdbDeleteByKey init s
  | .fdbFlush init => Sys2Proof.Machine.execFdbFlush init s
  | .gateListChange init p => Sys2Proof.Machine.execGateListChange init p s
  | .gateListSwitch p => Sys2Proof.Machine.execGateListSwitch p s
  | .gateEntryEnd p => Sys2Proof.Machine.execGateEntryEnd p s
  | .syncReceive d p seq two origin corr => Sys2Proof.Machine.execSyncReceive d p seq two origin corr s
  | .followUpReceive d p seq origin corr => Sys2Proof.Machine.execFollowUpReceive d p seq origin corr s
  | .followUpTimeout d => Sys2Proof.Machine.execFollowUpTimeout d s
  | .syncTimeout d => Sys2Proof.Machine.execSyncTimeout d s
  | .grandmasterSyncInterval d => Sys2Proof.Machine.execGrandmasterSyncInterval d s
  | .announceSend d => Sys2Proof.Machine.execAnnounceSend d s
  | .announceReceive d p => Sys2Proof.Machine.execAnnounceReceive d p s
  | .signalingReceive d p => Sys2Proof.Machine.execSignalingReceive d p s
  | .pdelayExchange p => Sys2Proof.Machine.execPdelayExchange p s
  | .pdelayResponse p turnaround => Sys2Proof.Machine.execPdelayResponse p turnaround s
  | .ptpRoleWrite init d v => Sys2Proof.Machine.execPtpRoleWrite init d v s
  | .txTailAdvance init p v => Sys2Proof.Machine.execTxTailAdvance init p v s
  | .rxTailAdvance init p v => Sys2Proof.Machine.execRxTailAdvance init p v s
  | .ringBaseWrite init p rx a => Sys2Proof.Machine.execRingBaseWrite init p rx a s
  | .scheduleOccurrence t e unc => Sys2Proof.Machine.execScheduleOccurrence t e unc s
  | .pulseTrailingEdge x => Sys2Proof.Machine.execPulseTrailingEdge x s
  | .deferredTurnOnDue x => Sys2Proof.Machine.execDeferredTurnOnDue x s
  | .immediateRequestArrival x => Sys2Proof.Machine.execImmediateRequestArrival x s
  | .commitArrival block g => Sys2Proof.Machine.execCommitArrival block g s
  | .pswCmdOn init x => Sys2Proof.Machine.execPswCmdOn init x s
  | .pswCmdOff init x => Sys2Proof.Machine.execPswCmdOff init x s
  | .pswCmdLow init x => Sys2Proof.Machine.execPswCmdLow init x s
  | .vlvCmdOn init i1 => Sys2Proof.Machine.execVlvCmdOn init i1 s
  | .vlvCmdOff init i1 => Sys2Proof.Machine.execVlvCmdOff init i1 s
  | .lgtCmdOn init m => Sys2Proof.Machine.execLgtCmdOn init m s
  | .lgtCmdOff init m => Sys2Proof.Machine.execLgtCmdOff init m s
  | .lgtCmdLevel init m lvl => Sys2Proof.Machine.execLgtCmdLevel init m lvl s
  | .tableRun init t => Sys2Proof.Machine.execTableRun init t s
  | .tableStop init t => Sys2Proof.Machine.execTableStop init t s
  | .bankCopy init t => Sys2Proof.Machine.execBankCopy init t s
  | .swapRequest init t => Sys2Proof.Machine.execSwapRequest init t s
  | .bankSwap t => Sys2Proof.Machine.execBankSwap t s
  | .groupCommit init block g => Sys2Proof.Machine.execGroupCommit init block g s
  | .groupDiscard init block g => Sys2Proof.Machine.execGroupDiscard init block g s
  | .ruleArm init r w0 => Sys2Proof.Machine.execRuleArm init r w0 s
  | .ruleDisarm init r => Sys2Proof.Machine.execRuleDisarm init r s
  | .reflexFire r unc => Sys2Proof.Machine.execReflexFire r unc s
  | .reflexRelease r => Sys2Proof.Machine.execReflexRelease r s
  | .ruleReleaseWrite init r => Sys2Proof.Machine.execRuleReleaseWrite init r s
  | .currentLimitEntry p => Sys2Proof.Machine.execCurrentLimitEntry p s
  | .shortClassified p low hot => Sys2Proof.Machine.execShortClassified p low hot s
  | .overloadClassified p low hot => Sys2Proof.Machine.execOverloadClassified p low hot s
  | .thermalShutdown p low => Sys2Proof.Machine.execThermalShutdown p low s
  | .limitExit p => Sys2Proof.Machine.execLimitExit p s
  | .retryPauseEnd p => Sys2Proof.Machine.execRetryPauseEnd p s
  | .thermalRelease p warm => Sys2Proof.Machine.execThermalRelease p warm s
  | .protClear init p => Sys2Proof.Machine.execProtClear init p s
  | .cleanExpiry p => Sys2Proof.Machine.execCleanExpiry p s
  | .pairModeOn init k => Sys2Proof.Machine.execPairModeOn init k s
  | .pairModeOff init k => Sys2Proof.Machine.execPairModeOff init k s
  | .stopWrite init k brake => Sys2Proof.Machine.execStopWrite init k brake s
  | .onStateMeasurement x isense => Sys2Proof.Machine.execOnStateMeasurement x isense s
  | .offStateDiagnosis x low high => Sys2Proof.Machine.execOffStateDiagnosis x low high s
  | .diagnosisIntervalEnd x => Sys2Proof.Machine.execDiagnosisIntervalEnd x s
  | .diagnosticStretchEnd x isense => Sys2Proof.Machine.execDiagnosticStretchEnd x isense s
  | .holdWindowEnd n => Sys2Proof.Machine.execHoldWindowEnd n s
  | .plannedRestartNotice init n ext => Sys2Proof.Machine.execPlannedRestartNotice init n ext s
  | .noticeLapse n => Sys2Proof.Machine.execNoticeLapse n s
  | .watchdogKey5a init => Sys2Proof.Machine.execWatchdogKey5a init s
  | .watchdogKeyA5 init => Sys2Proof.Machine.execWatchdogKeyA5 init s
  | .watchdogWrongKey init key => Sys2Proof.Machine.execWatchdogWrongKey init key s
  | .wdtimeWrite init ms => Sys2Proof.Machine.execWdtimeWrite init ms s
  | .towlineRelease init ms key => Sys2Proof.Machine.execTowlineRelease init ms key s
  | .outputPlaneWatchdogExpiry => Sys2Proof.Machine.execOutputPlaneWatchdogExpiry s
  | .towPinChange pin level => Sys2Proof.Machine.execTowPinChange pin level s
  | .valveAdmission b => Sys2Proof.Machine.execValveAdmission b s
  | .peakReached i1 isense => Sys2Proof.Machine.execPeakReached i1 isense s
  | .tpkmaxExpiry i1 isense => Sys2Proof.Machine.execTpkmaxExpiry i1 isense s
  | .tpeakExpiry i1 => Sys2Proof.Machine.execTpeakExpiry i1 s
  | .tholdExpiry i1 => Sys2Proof.Machine.execTholdExpiry i1 s
  | .decayEnd i1 => Sys2Proof.Machine.execDecayEnd i1 s
  | .maxdlyExpiry i1 => Sys2Proof.Machine.execMaxdlyExpiry i1 s
  | .currentMismatch b ibank pins => Sys2Proof.Machine.execCurrentMismatch b ibank pins s
  | .valveOffStateDiagnosis i1 pinLow pinHigh comLow => Sys2Proof.Machine.execValveOffStateDiagnosis i1 pinLow pinHigh comLow s
  | .currentDip i1 t => Sys2Proof.Machine.execCurrentDip i1 t s
  | .closingKink i1 t => Sys2Proof.Machine.execClosingKink i1 t s
  | .kinkWindowEnd i1 => Sys2Proof.Machine.execKinkWindowEnd i1 s
  | .undercoatPeriodStart m => Sys2Proof.Machine.execUndercoatPeriodStart m s
  | .undercoatPulseEnd m => Sys2Proof.Machine.execUndercoatPulseEnd m s
  | .stringStartTimeEnd m => Sys2Proof.Machine.execStringStartTimeEnd m s
  | .vledStop vled => Sys2Proof.Machine.execVledStop vled s
  | .vledResume vled => Sys2Proof.Machine.execVledResume vled s
  | .segmentShort g vseg => Sys2Proof.Machine.execSegmentShort g vseg s
  | .segmentBypass g vseg => Sys2Proof.Machine.execSegmentBypass g vseg s
  | .gainUpdate t temp => Sys2Proof.Machine.execGainUpdate t temp s
  | .windowOpening k => Sys2Proof.Machine.execWindowOpening k s
  | .windowClosing k => Sys2Proof.Machine.execWindowClosing k s
  | .stencilGo init i1 => Sys2Proof.Machine.execStencilGo init i1 s
  | .stencilStop init i1 => Sys2Proof.Machine.execStencilStop init i1 s
  | .stencilStart i1 => Sys2Proof.Machine.execStencilStart i1 s
  | .stencilStep i1 unc => Sys2Proof.Machine.execStencilStep i1 unc s
  | .rampUpdate i1 => Sys2Proof.Machine.execRampUpdate i1 s
  | .stringShort n vout => Sys2Proof.Machine.execStringShort n vout s
  | .stringOpen n vout idrv => Sys2Proof.Machine.execStringOpen n vout idrv s
  | .ledDieShutdown tj => Sys2Proof.Machine.execLedDieShutdown tj s
  | .ledDieRelease tj warm => Sys2Proof.Machine.execLedDieRelease tj warm s
  | .amPinOvervoltage i1 => Sys2Proof.Machine.execAmPinOvervoltage i1 s
  | .ledProtClear init m => Sys2Proof.Machine.execLedProtClear init m s
  | .neighbourTestRequest init mask => Sys2Proof.Machine.execNeighbourTestRequest init mask s
  | .neighbourTestFull init => Sys2Proof.Machine.execNeighbourTestFull init s
  | .neighbourPairTest a b short => Sys2Proof.Machine.execNeighbourPairTest a b short s
  | .neighbourTestEnd => Sys2Proof.Machine.execNeighbourTestEnd s
  | .inputThresholdCrossing i1 high => Sys2Proof.Machine.execInputThresholdCrossing i1 high s
  | .filterElapsed i1 => Sys2Proof.Machine.execFilterElapsed i1 s
  | .filtWrite init i1 v => Sys2Proof.Machine.execFiltWrite init i1 v s
  | .cleaningPulseEnd i1 => Sys2Proof.Machine.execCleaningPulseEnd i1 s
  | .cleaningWaitDrop i1 => Sys2Proof.Machine.execCleaningWaitDrop i1 s
  | .analogueConversion i1 uv => Sys2Proof.Machine.execAnalogueConversion i1 uv s
  | .fastInputEdge i1 high => Sys2Proof.Machine.execFastInputEdge i1 high s
  | .athrWrite init i1 hi lo => Sys2Proof.Machine.execAthrWrite init i1 hi lo s
  | .pollingBurst g found => Sys2Proof.Machine.execPollingBurst g found s
  | .confirmingBurst found => Sys2Proof.Machine.execConfirmingBurst found s
  | .canEnable init c => Sys2Proof.Machine.execCanEnable init c s
  | .frameAcceptance c id dlc ide fdf brs esi rtr sof data unc => Sys2Proof.Machine.execFrameAcceptance c id dlc ide fdf brs esi rtr sof data unc s
  | .fifoEntryRemove init c unc => Sys2Proof.Machine.execFifoEntryRemove init c unc s
  | .transmitRequest init c k ws => Sys2Proof.Machine.execTransmitRequest init c k ws s
  | .transmitAbort init c k => Sys2Proof.Machine.execTransmitAbort init c k s
  | .arbitration c unc => Sys2Proof.Machine.execArbitration c unc s
  | .transmitSuccess c delay => Sys2Proof.Machine.execTransmitSuccess c delay s
  | .arbitrationLost c => Sys2Proof.Machine.execArbitrationLost c s
  | .busError c cls kind dataPhase => Sys2Proof.Machine.execBusError c cls kind dataPhase s
  | .busOffRecoveryRequest init c => Sys2Proof.Machine.execBusOffRecoveryRequest init c s
  | .busOffRecoveryEnd c => Sys2Proof.Machine.execBusOffRecoveryEnd c s
  | .romChange c => Sys2Proof.Machine.execRomChange c s
  | .protocolException c => Sys2Proof.Machine.execProtocolException c s
  | .dirChange init c k dir => Sys2Proof.Machine.execDirChange init c k dir s
  | .linScheduleRun init l => Sys2Proof.Machine.execLinScheduleRun init l s
  | .linSlotStart l => Sys2Proof.Machine.execLinSlotStart l s
  | .linFrameEnd l err data unc => Sys2Proof.Machine.execLinFrameEnd l err data unc s
  | .linNoResponse l => Sys2Proof.Machine.execLinNoResponse l s
  | .linTableSwitch init l => Sys2Proof.Machine.execLinTableSwitch init l s
  | .modeNormal init j => Sys2Proof.Machine.execModeNormal init j s
  | .modeListenOnly init j => Sys2Proof.Machine.execModeListenOnly init j s
  | .modeStandby init j => Sys2Proof.Machine.execModeStandby init j s
  | .modeSleep init j => Sys2Proof.Machine.execModeSleep init j s
  | .busIdle j => Sys2Proof.Machine.execBusIdle j s
  | .wakeUpPattern j => Sys2Proof.Machine.execWakeUpPattern j s
  | .linDominantWake j => Sys2Proof.Machine.execLinDominantWake j s
  | .selectiveWakeFrame j id dlc ide fdf rtr err data => Sys2Proof.Machine.execSelectiveWakeFrame j id dlc ide fdf rtr err data s
  | .lineWake high => Sys2Proof.Machine.execLineWake high s
  | .wakeOutPulseEnd => Sys2Proof.Machine.execWakeOutPulseEnd s
  | .loopIgnoreEnd => Sys2Proof.Machine.execLoopIgnoreEnd s
  | .falseWakeWindowEnd j => Sys2Proof.Machine.execFalseWakeWindowEnd j s
  | .backOffEnd j => Sys2Proof.Machine.execBackOffEnd j s
  | .recoveryPhaseEnd j => Sys2Proof.Machine.execRecoveryPhaseEnd j s
  | .startUpPhaseEnd => Sys2Proof.Machine.execStartUpPhaseEnd s
  | .confirmationTimeout j => Sys2Proof.Machine.execConfirmationTimeout j s
  | .ownWakeFrame j => Sys2Proof.Machine.execOwnWakeFrame j s
  | .gatewayMessage unc => Sys2Proof.Machine.execGatewayMessage unc s
  | .checkValueDone u => Sys2Proof.Machine.execCheckValueDone u s
  | .gatewayQueueAge c => Sys2Proof.Machine.execGatewayQueueAge c s
  | .tunnelGatherEnd t p => Sys2Proof.Machine.execTunnelGatherEnd t p s
  | .avtpduReceive => Sys2Proof.Machine.execAvtpduReceive s
  | .couplingEnable init i1 => Sys2Proof.Machine.execCouplingEnable init i1 s
  | .couplingDisable init i1 => Sys2Proof.Machine.execCouplingDisable init i1 s
  | .remoteReadRequest init p g tag addr count => Sys2Proof.Machine.execRemoteReadRequest init p g tag addr count s
  | .postedWriteRequest init p g tag addr count data => Sys2Proof.Machine.execPostedWriteRequest init p g tag addr count data s
  | .remoteReply => Sys2Proof.Machine.execRemoteReply s
  | .attemptTimeout g tag => Sys2Proof.Machine.execAttemptTimeout g tag s
  | .quarantineEnd g tag => Sys2Proof.Machine.execQuarantineEnd g tag s
  | .prefetchLineAge g => Sys2Proof.Machine.execPrefetchLineAge g s
  | .partitionSignalWrite init sig level => Sys2Proof.Machine.execPartitionSignalWrite init sig level s
  | .domainOffPostedWrite init addr v => Sys2Proof.Machine.execDomainOffPostedWrite init addr v s
  | .accessAuthenticate init f zreq => Sys2Proof.Machine.execAccessAuthenticate init f zreq s
  | .pollingClockLock init => Sys2Proof.Machine.execPollingClockLock init s
  | .pollingClockUnlock init => Sys2Proof.Machine.execPollingClockUnlock init s
  | .enrolPresentToken init id => Sys2Proof.Machine.execEnrolPresentToken init id s
  | .enrolSecretCode init id => Sys2Proof.Machine.execEnrolSecretCode init id s
  | .revoke init slot => Sys2Proof.Machine.execRevoke init slot s
  | .replySlotEnd sync crcOk id resp vec lat unc => Sys2Proof.Machine.execReplySlotEnd sync crcOk id resp vec lat unc s
  | .exchangeResult => Sys2Proof.Machine.execExchangeResult s
  | .exchangeRepeat => Sys2Proof.Machine.execExchangeRepeat s
  | .slotRecordWritten good => Sys2Proof.Machine.execSlotRecordWritten good s
  | .buttonTelegram id cmd cnt mac => Sys2Proof.Machine.execButtonTelegram id cmd cnt mac s
  | .buttonHoldExpiry k => Sys2Proof.Machine.execButtonHoldExpiry k s
  | .accessPollBurst replies => Sys2Proof.Machine.execAccessPollBurst replies s
  | .sniff heard id cmd cnt mac => Sys2Proof.Machine.execSniff heard id cmd cnt mac s
  | .pollStepChange => Sys2Proof.Machine.execPollStepChange s
  | .lockOutEnd => Sys2Proof.Machine.execLockOutEnd s
  | .secretGrantExpiry => Sys2Proof.Machine.execSecretGrantExpiry s
  | .reqRest init => Sys2Proof.Machine.execReqRest init s
  | .reqPark init => Sys2Proof.Machine.execReqPark init s
  | .reqDeepPark init => Sys2Proof.Machine.execReqDeepPark init s
  | .reqRun init => Sys2Proof.Machine.execReqRun init s
  | .restExit => Sys2Proof.Machine.execRestExit s
  | .restWatchdogReturn => Sys2Proof.Machine.execRestWatchdogReturn s
  | .parkAck init n => Sys2Proof.Machine.execParkAck init n s
  | .preptimeExpiry => Sys2Proof.Machine.execPreptimeExpiry s
  | .parkFlushEnd => Sys2Proof.Machine.execParkFlushEnd s
  | .commitPoint => Sys2Proof.Machine.execCommitPoint s
  | .railAcknowledgement b => Sys2Proof.Machine.execRailAcknowledgement b s
  | .railAckTimeout => Sys2Proof.Machine.execRailAckTimeout s
  | .railFrameRetry => Sys2Proof.Machine.execRailFrameRetry s
  | .railFaultRetry => Sys2Proof.Machine.execRailFaultRetry s
  | .dptimeExpiry => Sys2Proof.Machine.execDptimeExpiry s
  | .dpvbatExpiry => Sys2Proof.Machine.execDpvbatExpiry s
  | .parkedWake => Sys2Proof.Machine.execParkedWake s
  | .aonTimerWake => Sys2Proof.Machine.execAonTimerWake s
  | .comparatorTrip n => Sys2Proof.Machine.execComparatorTrip n s
  | .resetKeyD5 init => Sys2Proof.Machine.execResetKeyD5 init s
  | .resetKey2a init => Sys2Proof.Machine.execResetKey2a init s
  | .distancePulse i1 => Sys2Proof.Machine.execDistancePulse i1 s
  | .pulseWindowCompare => Sys2Proof.Machine.execPulseWindowCompare s
  | .counterSealWrite => Sys2Proof.Machine.execCounterSealWrite s
  | .vmtrFlush => Sys2Proof.Machine.execVmtrFlush s
  | .vmtrReturn => Sys2Proof.Machine.execVmtrReturn s
  | .islandCoreRestart => Sys2Proof.Machine.execIslandCoreRestart s
  | .crystalComparison => Sys2Proof.Machine.execCrystalComparison s
  | .legaltime => Sys2Proof.Machine.execLegaltime s
  | .distcopy => Sys2Proof.Machine.execDistcopy s
  | .slewEnd => Sys2Proof.Machine.execSlewEnd s
  | .sealPinAssert => Sys2Proof.Machine.execSealPinAssert s
  | .sealPinRelease => Sys2Proof.Machine.execSealPinRelease s
  | .pinTimerExpiry => Sys2Proof.Machine.execPinTimerExpiry s
  | .openIdleExpiry => Sys2Proof.Machine.execOpenIdleExpiry s
  | .challengeExpiry => Sys2Proof.Machine.execChallengeExpiry s
  | .openLockoutEnd => Sys2Proof.Machine.execOpenLockoutEnd s
  | .parameterBlockFailure => Sys2Proof.Machine.execParameterBlockFailure s
  | .firmwareSelftestTimeout => Sys2Proof.Machine.execFirmwareSelftestTimeout s
  | .statusReq => Sys2Proof.Machine.execStatusReq s
  | .timeCorr => Sys2Proof.Machine.execTimeCorr s
  | .distCfg => Sys2Proof.Machine.execDistCfg s
  | .recordReq => Sys2Proof.Machine.execRecordReq s
  | .openReq => Sys2Proof.Machine.execOpenReq s
  | .openAuth => Sys2Proof.Machine.execOpenAuth s
  | .sealReq => Sys2Proof.Machine.execSealReq s
  | .setKfactor => Sys2Proof.Machine.execSetKfactor s
  | .setTime => Sys2Proof.Machine.execSetTime s
  | .islandSelftest outcome => Sys2Proof.Machine.execIslandSelftest outcome s
  | .fwBlock => Sys2Proof.Machine.execFwBlock s
  | .fwCommit => Sys2Proof.Machine.execFwCommit s
  | .pubkeyReq => Sys2Proof.Machine.execPubkeyReq s
  | .mtrTxheadWrite init v => Sys2Proof.Machine.execMtrTxheadWrite init v s
  | .mtrRxtailWrite init v => Sys2Proof.Machine.execMtrRxtailWrite init v s
  | .islandLinkFall => Sys2Proof.Machine.execIslandLinkFall s
  | .islandLinkRise => Sys2Proof.Machine.execIslandLinkRise s
  | .aluAdd c rd rs1 rs2 => Sys2Proof.Machine.execAluAdd c rd rs1 rs2 s
  | .aluSub c rd rs1 rs2 => Sys2Proof.Machine.execAluSub c rd rs1 rs2 s
  | .aluAnd c rd rs1 rs2 => Sys2Proof.Machine.execAluAnd c rd rs1 rs2 s
  | .aluOr c rd rs1 rs2 => Sys2Proof.Machine.execAluOr c rd rs1 rs2 s
  | .aluXor c rd rs1 rs2 => Sys2Proof.Machine.execAluXor c rd rs1 rs2 s
  | .aluSll c rd rs1 rs2 => Sys2Proof.Machine.execAluSll c rd rs1 rs2 s
  | .aluSrl c rd rs1 rs2 => Sys2Proof.Machine.execAluSrl c rd rs1 rs2 s
  | .aluSra c rd rs1 rs2 => Sys2Proof.Machine.execAluSra c rd rs1 rs2 s
  | .aluMul c rd rs1 rs2 => Sys2Proof.Machine.execAluMul c rd rs1 rs2 s
  | .mulhu c rd rs1 rs2 => Sys2Proof.Machine.execMulhu c rd rs1 rs2 s
  | .mulhs c rd rs1 rs2 => Sys2Proof.Machine.execMulhs c rd rs1 rs2 s
  | .divu c rd rs1 rs2 => Sys2Proof.Machine.execDivu c rd rs1 rs2 s
  | .divs c rd rs1 rs2 => Sys2Proof.Machine.execDivs c rd rs1 rs2 s
  | .remu c rd rs1 rs2 => Sys2Proof.Machine.execRemu c rd rs1 rs2 s
  | .rems c rd rs1 rs2 => Sys2Proof.Machine.execRems c rd rs1 rs2 s
  | .aluCeq c rd rs1 rs2 => Sys2Proof.Machine.execAluCeq c rd rs1 rs2 s
  | .cne c rd rs1 rs2 => Sys2Proof.Machine.execCne c rd rs1 rs2 s
  | .aluClt c rd rs1 rs2 => Sys2Proof.Machine.execAluClt c rd rs1 rs2 s
  | .aluCltu c rd rs1 rs2 => Sys2Proof.Machine.execAluCltu c rd rs1 rs2 s
  | .cge c rd rs1 rs2 => Sys2Proof.Machine.execCge c rd rs1 rs2 s
  | .cgeu c rd rs1 rs2 => Sys2Proof.Machine.execCgeu c rd rs1 rs2 s
  | .minS c rd rs1 rs2 => Sys2Proof.Machine.execMinS c rd rs1 rs2 s
  | .maxS c rd rs1 rs2 => Sys2Proof.Machine.execMaxS c rd rs1 rs2 s
  | .minu c rd rs1 rs2 => Sys2Proof.Machine.execMinu c rd rs1 rs2 s
  | .maxu c rd rs1 rs2 => Sys2Proof.Machine.execMaxu c rd rs1 rs2 s
  | .fadd c rd rs1 rs2 => Sys2Proof.Machine.execFadd c rd rs1 rs2 s
  | .fsub c rd rs1 rs2 => Sys2Proof.Machine.execFsub c rd rs1 rs2 s
  | .fmul c rd rs1 rs2 => Sys2Proof.Machine.execFmul c rd rs1 rs2 s
  | .fdiv c rd rs1 rs2 => Sys2Proof.Machine.execFdiv c rd rs1 rs2 s
  | .fsqrt c rd rs1 rs2 => Sys2Proof.Machine.execFsqrt c rd rs1 rs2 s
  | .fmin c rd rs1 rs2 => Sys2Proof.Machine.execFmin c rd rs1 rs2 s
  | .fmax c rd rs1 rs2 => Sys2Proof.Machine.execFmax c rd rs1 rs2 s
  | .fceq c rd rs1 rs2 => Sys2Proof.Machine.execFceq c rd rs1 rs2 s
  | .fclt c rd rs1 rs2 => Sys2Proof.Machine.execFclt c rd rs1 rs2 s
  | .fcle c rd rs1 rs2 => Sys2Proof.Machine.execFcle c rd rs1 rs2 s
  | .ftoi c rd rs1 rs2 => Sys2Proof.Machine.execFtoi c rd rs1 rs2 s
  | .ftou c rd rs1 rs2 => Sys2Proof.Machine.execFtou c rd rs1 rs2 s
  | .itof c rd rs1 rs2 => Sys2Proof.Machine.execItof c rd rs1 rs2 s
  | .utof c rd rs1 rs2 => Sys2Proof.Machine.execUtof c rd rs1 rs2 s
  | .addi c rd rs1 imm => Sys2Proof.Machine.execAddi c rd rs1 imm s
  | .andi c rd rs1 imm => Sys2Proof.Machine.execAndi c rd rs1 imm s
  | .ori c rd rs1 imm => Sys2Proof.Machine.execOri c rd rs1 imm s
  | .xori c rd rs1 imm => Sys2Proof.Machine.execXori c rd rs1 imm s
  | .slli c rd rs1 imm => Sys2Proof.Machine.execSlli c rd rs1 imm s
  | .srli c rd rs1 imm => Sys2Proof.Machine.execSrli c rd rs1 imm s
  | .srai c rd rs1 imm => Sys2Proof.Machine.execSrai c rd rs1 imm s
  | .ceqi c rd rs1 imm => Sys2Proof.Machine.execCeqi c rd rs1 imm s
  | .clti c rd rs1 imm => Sys2Proof.Machine.execClti c rd rs1 imm s
  | .cltui c rd rs1 imm => Sys2Proof.Machine.execCltui c rd rs1 imm s
  | .lui c rd imm => Sys2Proof.Machine.execLui c rd imm s
  | .ldw c rd rs1 imm ecc => Sys2Proof.Machine.execLdw c rd rs1 imm ecc s
  | .ldh c rd rs1 imm ecc => Sys2Proof.Machine.execLdh c rd rs1 imm ecc s
  | .ldhu c rd rs1 imm ecc => Sys2Proof.Machine.execLdhu c rd rs1 imm ecc s
  | .ldb c rd rs1 imm ecc => Sys2Proof.Machine.execLdb c rd rs1 imm ecc s
  | .ldbu c rd rs1 imm ecc => Sys2Proof.Machine.execLdbu c rd rs1 imm ecc s
  | .stw c rd rs1 imm ecc => Sys2Proof.Machine.execStw c rd rs1 imm ecc s
  | .sth c rd rs1 imm ecc => Sys2Proof.Machine.execSth c rd rs1 imm ecc s
  | .stb c rd rs1 imm ecc => Sys2Proof.Machine.execStb c rd rs1 imm ecc s
  | .amoswap c rd rs1 rs2 func ecc => Sys2Proof.Machine.execAmoswap c rd rs1 rs2 func ecc s
  | .amoadd c rd rs1 rs2 func ecc => Sys2Proof.Machine.execAmoadd c rd rs1 rs2 func ecc s
  | .bez c rs1 off => Sys2Proof.Machine.execBez c rs1 off s
  | .bnz c rs1 off => Sys2Proof.Machine.execBnz c rs1 off s
  | .jal c off => Sys2Proof.Machine.execJal c off s
  | .jump c off => Sys2Proof.Machine.execJump c off s
  | .jalr c rd rs1 imm => Sys2Proof.Machine.execJalr c rd rs1 imm s
  | .jr c rd rs1 imm => Sys2Proof.Machine.execJr c rd rs1 imm s
  | .mfc c rd rs1 imm => Sys2Proof.Machine.execMfc c rd rs1 imm s
  | .mtc c rd rs1 imm => Sys2Proof.Machine.execMtc c rd rs1 imm s
  | .trapInsn c rd rs1 imm => Sys2Proof.Machine.execTrapInsn c rd rs1 imm s
  | .rtt c rd rs1 imm => Sys2Proof.Machine.execRtt c rd rs1 imm s
  | .waitInsn c rd rs1 imm => Sys2Proof.Machine.execWaitInsn c rd rs1 imm s
  | .fence c rd rs1 imm => Sys2Proof.Machine.execFence c rd rs1 imm s
  | .brk c rd rs1 imm => Sys2Proof.Machine.execBrk c rd rs1 imm s
  | .shortNop c inB ra rb other ecc => Sys2Proof.Machine.execShortNop c inB ra rb other ecc s
  | .shortMov c inB ra rb other ecc => Sys2Proof.Machine.execShortMov c inB ra rb other ecc s
  | .shortAdd c inB ra rb other ecc => Sys2Proof.Machine.execShortAdd c inB ra rb other ecc s
  | .shortSub c inB ra rb other ecc => Sys2Proof.Machine.execShortSub c inB ra rb other ecc s
  | .shortAnd c inB ra rb other ecc => Sys2Proof.Machine.execShortAnd c inB ra rb other ecc s
  | .shortOr c inB ra rb other ecc => Sys2Proof.Machine.execShortOr c inB ra rb other ecc s
  | .shortXor c inB ra rb other ecc => Sys2Proof.Machine.execShortXor c inB ra rb other ecc s
  | .shortSll c inB ra rb other ecc => Sys2Proof.Machine.execShortSll c inB ra rb other ecc s
  | .shortSrl c inB ra rb other ecc => Sys2Proof.Machine.execShortSrl c inB ra rb other ecc s
  | .shortSra c inB ra rb other ecc => Sys2Proof.Machine.execShortSra c inB ra rb other ecc s
  | .shortNeg c inB ra rb other ecc => Sys2Proof.Machine.execShortNeg c inB ra rb other ecc s
  | .shortNot c inB ra rb other ecc => Sys2Proof.Machine.execShortNot c inB ra rb other ecc s
  | .shortAddq c inB ra rb other ecc => Sys2Proof.Machine.execShortAddq c inB ra rb other ecc s
  | .shortLiq c inB ra rb other ecc => Sys2Proof.Machine.execShortLiq c inB ra rb other ecc s
  | .shortCeq c inB ra rb other ecc => Sys2Proof.Machine.execShortCeq c inB ra rb other ecc s
  | .shortClt c inB ra rb other ecc => Sys2Proof.Machine.execShortClt c inB ra rb other ecc s
  | .shortCltu c inB ra rb other ecc => Sys2Proof.Machine.execShortCltu c inB ra rb other ecc s
  | .shortLdw c inB ra rb other ecc => Sys2Proof.Machine.execShortLdw c inB ra rb other ecc s
  | .shortStw c inB ra rb other ecc => Sys2Proof.Machine.execShortStw c inB ra rb other ecc s
  | .shortMul c inB ra rb other ecc => Sys2Proof.Machine.execShortMul c inB ra rb other ecc s
  | .shortSexb c inB ra rb other ecc => Sys2Proof.Machine.execShortSexb c inB ra rb other ecc s
  | .shortSexh c inB ra rb other ecc => Sys2Proof.Machine.execShortSexh c inB ra rb other ecc s
  | .shortZexb c inB ra rb other ecc => Sys2Proof.Machine.execShortZexb c inB ra rb other ecc s
  | .shortZexh c inB ra rb other ecc => Sys2Proof.Machine.execShortZexh c inB ra rb other ecc s
  | .shortCeqz c inB ra rb other ecc => Sys2Proof.Machine.execShortCeqz c inB ra rb other ecc s
  | .shortLdwsp c inB ra rb other ecc => Sys2Proof.Machine.execShortLdwsp c inB ra rb other ecc s
  | .shortStwsp c inB ra rb other ecc => Sys2Proof.Machine.execShortStwsp c inB ra rb other ecc s
  | .eventTrap c => Sys2Proof.Machine.execEventTrap c s
  | .waitResume c => Sys2Proof.Machine.execWaitResume c s
  | .doorbell c target => Sys2Proof.Machine.execDoorbell c target s
  | .eventEntryRemove c unc => Sys2Proof.Machine.execEventEntryRemove c unc s
  | .scrubVisit a row bits last => Sys2Proof.Machine.execScrubVisit a row bits last s
  | .parkedScrub one two unc => Sys2Proof.Machine.execParkedScrub one two unc s
  | .logFlushTimer => Sys2Proof.Machine.execLogFlushTimer s
  | .logFlushEnd => Sys2Proof.Machine.execLogFlushEnd s
  | .logHeadFound => Sys2Proof.Machine.execLogHeadFound s
  | .dwdogKey3c init => Sys2Proof.Machine.execDwdogKey3c init s
  | .dwdogKeyC3 init => Sys2Proof.Machine.execDwdogKeyC3 init s
  | .dwdogWrongKey init key => Sys2Proof.Machine.execDwdogWrongKey init key s
  | .dwdogTimeWrite init ms => Sys2Proof.Machine.execDwdogTimeWrite init ms s
  | .deviceWatchdogExpiry => Sys2Proof.Machine.execDeviceWatchdogExpiry s
  | .partRestart init n => Sys2Proof.Machine.execPartRestart init n s
  | .partMove init n => Sys2Proof.Machine.execPartMove init n s
  | .partBack init n => Sys2Proof.Machine.execPartBack init n s
  | .rstreq init mask => Sys2Proof.Machine.execRstreq init mask s
  | .coreCheckError cores => Sys2Proof.Machine.execCoreCheckError cores s
  | .reliefCoreReady => Sys2Proof.Machine.execReliefCoreReady s
  | .coreSelfTestEnd c pass => Sys2Proof.Machine.execCoreSelfTestEnd c pass s
  | .testOutput init n cls idx => Sys2Proof.Machine.execTestOutput init n cls idx s
  | .testString init n idx => Sys2Proof.Machine.execTestString init n idx s
  | .testCan init n idx => Sys2Proof.Machine.execTestCan init n idx s
  | .testLin init n idx => Sys2Proof.Machine.execTestLin init n idx s
  | .testPort init n idx => Sys2Proof.Machine.execTestPort init n idx s
  | .inServiceTestEnd n res => Sys2Proof.Machine.execInServiceTestEnd n res s
  | .siariOpen path src seq => Sys2Proof.Machine.execSiariOpen path src seq s
  | .siariAuth path src sess seq key sig => Sys2Proof.Machine.execSiariAuth path src sess seq key sig s
  | .siariClose path src sess seq => Sys2Proof.Machine.execSiariClose path src sess seq s
  | .siariStatus path src sess seq => Sys2Proof.Machine.execSiariStatus path src sess seq s
  | .stageBegin path src sess seq part off size ok_ => Sys2Proof.Machine.execStageBegin path src sess seq part off size ok_ s
  | .stageData path src sess seq off data ok_ => Sys2Proof.Machine.execStageData path src sess seq off data ok_ s
  | .stageEnd path src sess seq => Sys2Proof.Machine.execStageEnd path src sess seq s
  | .activate path src sess seq m => Sys2Proof.Machine.execActivate path src sess seq m s
  | .siariAbort path src sess seq => Sys2Proof.Machine.execSiariAbort path src sess seq s
  | .siariSecret path src sess seq proof => Sys2Proof.Machine.execSiariSecret path src sess seq proof s
  | .wsmsg path src sess seq m => Sys2Proof.Machine.execWsmsg path src sess seq m s
  | .logread path src sess seq first count => Sys2Proof.Machine.execLogread path src sess seq first count s
  | .debugLock path src sess seq => Sys2Proof.Machine.execDebugLock path src sess seq s
  | .debugCore path src sess seq => Sys2Proof.Machine.execDebugCore path src sess seq s
  | .debugBoundaryScan path src sess seq => Sys2Proof.Machine.execDebugBoundaryScan path src sess seq s
  | .authTimeout sess => Sys2Proof.Machine.execAuthTimeout sess s
  | .arbitrationWindowEnd => Sys2Proof.Machine.execArbitrationWindowEnd s
  | .sessionIdleTimeout sess => Sys2Proof.Machine.execSessionIdleTimeout sess s
  | .scaffoldReady ok_ => Sys2Proof.Machine.execScaffoldReady ok_ s
  | .healthyReport init n ok_ => Sys2Proof.Machine.execHealthyReport init n ok_ s
  | .failedReport init n => Sys2Proof.Machine.execFailedReport init n s
  | .trialExpiry part ok_ => Sys2Proof.Machine.execTrialExpiry part ok_ s
  | .totalExpiry => Sys2Proof.Machine.execTotalExpiry s
  | .journalCheck => Sys2Proof.Machine.execJournalCheck s
  | .workshopReply init => Sys2Proof.Machine.execWorkshopReply init s
  | .workshopTimeout => Sys2Proof.Machine.execWorkshopTimeout s
  | .rcFieldRead init a => Sys2Proof.Machine.execRcFieldRead init a s
  | .exposureWindowLapse k => Sys2Proof.Machine.execExposureWindowLapse k s
  | .amLowHeadroom i1 => Sys2Proof.Machine.execAmLowHeadroom i1 s
  | .ciPwrClockLoss => Sys2Proof.Machine.execCiPwrClockLoss s
  | .baseplateTemperatureSample tbp => Sys2Proof.Machine.execBaseplateTemperatureSample tbp s

end Sys2Proof.Machine
end

