-- ==== Sys2Proof/Machine/Step.lean ====
section
/-! DEFINITION. One step of the block: the command at the front of the queue, or the passing of one unit of T0 when no command
waits (DESIGN CHOICE, log entry 20). -/

set_option Elab.async false

namespace Sys2Proof.Machine

/-- Takes the command at the front of the queue and carries it out with the rest waiting; with no command waiting, T0
advances by one unit of 62.5 ps. -/
def step (s : State) : Host.Outcome State Fault Refusal :=
  match s.pending with
  | [] => .next { s with now := s.now + 1 }
  | c :: cs => exec c { s with pending := cs }

/-- The state with the command that a word spells put at the front of its queue; the state as it is where the word
spells none. -/
def State.withFetchWord (s : State) (nbits w : Nat) : State :=
  match Sys2Proof.decodeTableWord nbits w with
  | some c => { s with pending := c :: s.pending }
  | none => s

end Sys2Proof.Machine
end

