-- ==== Sys2Proof/WellFormed.lean ====
section
/-! DEFINITION. Well-formed commands: every operand lies in the range that the hardware has for it. The ranges are those of
the items, registers and pins that the chapters number; an operand that a port, a message or a measurement carries has the
width of its field. A command outside them names something that the hardware does not have. -/

set_option Elab.async false

namespace Sys2Proof

/-- A number below a bound. -/
def below (x n : Nat) : Bool := decide (x < n)

/-- A list of numbers below a bound. -/
def allBelow (xs : List Nat) (n : Nat) : Bool := xs.all (fun x => below x n)

/-- A list of at most n entries. -/
def atMost {α : Type} (xs : List α) (n : Nat) : Bool := decide (xs.length ≤ n)

/-- The four partitions (R42), and the initiators that are no partition. -/
def Init.wf : Init → Bool
  | .part n => below n 4
  | .aon | .boot | .siari | .switch => true

/-- The addresses that the model gives the control registers of the cores, which R626 reaches by index (log entry 132). -/
def isCpuReg (a : Nat) : Bool := decide (0x100000000 ≤ a) && below a 0x100007000

/-- The transfer of a link's word: a load of one of the seven cores, a posted write, or another. -/
def LinkUse.wf : LinkUse → Bool
  | .load c a => below c 7 && below a 0x100000000
  | .store init a => init.wf && below a 0x100000000
  | .other => true

/-- Access sizes of a core: a byte, a halfword or a word (R600). -/
def isSize (n : Nat) : Bool := n == 1 || n == 2 || n == 4

/-- The two scales that a servo or firmware steers, T1 and T2 (R142). -/
def isScale (n : Nat) : Bool := n == 1 || n == 2

/-- The block codes whose registers have groups (R125, R255): power stages, valve outputs, lighting. -/
def isOutputBlock (k : Nat) : Bool := k == 3 || k == 4 || k == 5

/-- Target indices of the power channels of the load switches (R230). -/
def namesPower (x : Nat) : Bool := below x 60 || (decide (64 ≤ x) && below x 72)

/-- Places with protection of their own: power channels, valve outputs, and 104 + b for the high-side of bank b. -/
def namesSite (x : Nat) : Bool := namesPower x || (decide (80 ≤ x) && below x 108)

/-- Target indices (R230, R684). -/
def namesTarget (x : Nat) : Bool :=
  namesPower x || (decide (80 ≤ x) && below x 104) || (decide (128 ≤ x) && below x 144) ||
    (decide (160 ≤ x) && below x 292) || (decide (384 ≤ x) && below x 400)

/-- Membership bits of the lighting channels (R255): strings, matrix segments, ambient channels. -/
def namesLed (m : Nat) : Bool := below m 16 || (decide (32 ≤ m) && below m 164)

/-- The analogue field inputs (R394). -/
def isAnalogueInput (i : Nat) : Bool := decide (64 ≤ i) && below i 88

/-- The fast field inputs (R394). -/
def isFastInput (i : Nat) : Bool := decide (88 ≤ i) && below i 96

/-- Whether every operand of a command lies in its range. -/
def Instr.wf : Instr → Bool
  | .snapshot init a => init.wf && below a 0x100000000
  | .snapshotRelease init a => init.wf && below a 0x100000000
  | .tornRead init a => init.wf && below a 0x100000000
  | .abandonedSnapshot init a => init.wf && (below a 0x100000000 || isCpuReg a)
  | .wideWordStage init a v => init.wf && below a 0x100000000 && below v 0x100000000
  | .registerWrite init a v => init.wf && below a 0x100000000 && below v 0x100000000
  | .undefinedAddressAccess init a _ => init.wf && below a 0x100000000
  | .undecodedAddressAccess init a _ => init.wf && below a 0x100000000
  | .domainOffRead init a => init.wf && below a 0x100000000
  | .linkWord l lanes _ u => below l 12 && allBelow lanes 81 && u.wf
  | .idlePatternCheck l stuck => below l 12 && allBelow stuck 81
  | .laneMoveComplete l => below l 12
  | .groupAliasWrite init a v => init.wf && below a 0x100000000 && below v 0x100000000
  | .memberWrite init block g w v => init.wf && isOutputBlock block && below g 32 && below w 8 && below v 0x100000000
  | .brownOut vbat => below vbat 0x10000
  | .cutThresholdFall vbat => below vbat 0x10000
  | .cutThresholdRise vbat => below vbat 0x10000
  | .cutTimeExpiry => true
  | .holdZoneEntry vbat => below vbat 0x10000
  | .fullZoneEntry vbat => below vbat 0x10000
  | .overvoltageEntry vbat => below vbat 0x10000
  | .overvoltageExit vbat => below vbat 0x10000
  | .recoveryThresholdRise vbat => below vbat 0x10000
  | .pgoodLoss _ => true
  | .resetNAssert => true
  | .resetNLongHold => true
  | .resetNRelease => true
  | .jtagBypass => true
  | .jtagIdcode => true
  | .samplePreload _ _ => true
  | .extest => true
  | .coreHalt c => below c 7
  | .coreStep c => below c 7
  | .coreResume c => below c 7
  | .debugRegisterRead c k => below c 7 && below k 288
  | .debugRegisterWrite c k v => below c 7 && below k 288 && below v 0x100000000
  | .debugLoad c a size => below c 7 && below a 0x100000000 && isSize size
  | .debugStore c a size v => below c 7 && below a 0x100000000 && isSize size && below v 0x100000000
  | .pgoodRise _ => true
  | .pgoodTimeout _ => true
  | .domainTurnOn => true
  | .sramTestEnd faulty => faulty.all (fun a => decide (0x10000000 ≤ a) && below a 0x10800000)
  | .flashProbeEnd _ _ => true
  | .serviceOnlyTimeout => true
  | .partCheckEnd part _ _ _ => below part 256
  | .writeRecord => true
  | .burstRecord => true
  | .maskedWriteRecord => true
  | .waitRecord => true
  | .waitRecordSatisfied => true
  | .waitRecordTimeout => true
  | .legalTimeMessage _ => true
  | .t3Timeout => true
  | .decoderCalibrationEnd d => below d 10
  | .backgroundRecalibration d => below d 10
  | .linkTrainingEnd p _ _ _ _ _ => below p 11
  | .linkDown p => below p 11
  | .servoOffset n _ => isScale n
  | .scaleStep n => isScale n
  | .rateUpdate n => isScale n
  | .holdoverEntry n => isScale n
  | .modeServo init n => init.wf && isScale n
  | .modeIncrement init n => init.wf && isScale n
  | .modeOff init n => init.wf && isScale n
  | .offsetWrite init n _ => init.wf && isScale n
  | .feedWrite init n _ => init.wf && isScale n
  | .gnssPulse n _ => isScale n
  | .incrementWrite init n v => init.wf && isScale n && below v 0x100000000
  | .shadowMismatch _ _ _ _ => true
  | .switchOverComplete => true
  | .shadowSelfTest _ => true
  | .plannedSwap init => init.wf
  | .plannedSwapApply => true
  | .tpoArm init n => init.wf && below n 16
  | .tpoDisarm init n => init.wf && below n 16
  | .tpoLeadingEdge n => below n 16
  | .tpoTrailingEdge n => below n 16
  | .tciEdge i _ => below i 8
  | .frameReceive p _ => below p 11
  | .entryAgeing k => below k 8192
  | .egressStart p fault _ => below p 15 && below fault 5
  | .fdbReadIndex init idx => init.wf && below idx 8192
  | .fdbWriteByKey init => init.wf
  | .fdbLookUpKey init => init.wf
  | .fdbDeleteByKey init => init.wf
  | .fdbFlush init => init.wf
  | .gateListChange init p => init.wf && below p 11
  | .gateListSwitch p => below p 11
  | .gateEntryEnd p => below p 11
  | .syncReceive d p seq _ _ _ => below d 2 && below p 10 && below seq 0x100000000
  | .followUpReceive d p seq _ _ => below d 2 && below p 10 && below seq 0x100000000
  | .followUpTimeout d => below d 2
  | .syncTimeout d => below d 2
  | .grandmasterSyncInterval d => below d 2
  | .announceSend d => below d 2
  | .announceReceive d p => below d 2 && below p 10
  | .signalingReceive d p => below d 2 && below p 10
  | .pdelayExchange p => below p 10
  | .pdelayResponse p _ => below p 10
  | .ptpRoleWrite init d v => init.wf && below d 2 && below v 0x100000000
  | .txTailAdvance init p v => init.wf && below p 4 && below v 0x100000000
  | .rxTailAdvance init p v => init.wf && below p 4 && below v 0x100000000
  | .ringBaseWrite init p _ a => init.wf && below p 4 && below a 0x100000000
  | .scheduleOccurrence t e _ => below t 8 && below e 512
  | .pulseTrailingEdge x => namesTarget x
  | .deferredTurnOnDue x => namesTarget x
  | .immediateRequestArrival x => namesTarget x
  | .commitArrival block g => isOutputBlock block && below g 33
  | .pswCmdOn init x => init.wf && namesPower x
  | .pswCmdOff init x => init.wf && namesPower x
  | .pswCmdLow init x => init.wf && namesPower x
  | .vlvCmdOn init i => init.wf && below i 24
  | .vlvCmdOff init i => init.wf && below i 24
  | .lgtCmdOn init m => init.wf && namesLed m
  | .lgtCmdOff init m => init.wf && namesLed m
  | .lgtCmdLevel init m lvl => init.wf && namesLed m && below lvl 0x10000
  | .tableRun init t => init.wf && below t 8
  | .tableStop init t => init.wf && below t 8
  | .bankCopy init t => init.wf && below t 8
  | .swapRequest init t => init.wf && below t 8
  | .bankSwap t => below t 8
  | .groupCommit init block g => init.wf && isOutputBlock block && below g 33
  | .groupDiscard init block g => init.wf && isOutputBlock block && below g 33
  | .ruleArm init r w0 => init.wf && below r 256 && below w0 0x100000000
  | .ruleDisarm init r => init.wf && below r 256
  | .reflexFire r _ => below r 256
  | .reflexRelease r => below r 256
  | .ruleReleaseWrite init r => init.wf && below r 256
  | .currentLimitEntry p => namesSite p
  | .shortClassified p _ _ => namesSite p
  | .overloadClassified p _ _ => namesSite p
  | .thermalShutdown p _ => namesSite p
  | .limitExit p => namesSite p
  | .retryPauseEnd p => namesSite p
  | .thermalRelease p _ => namesSite p
  | .protClear init p => init.wf && namesSite p
  | .cleanExpiry p => namesSite p
  | .pairModeOn init k => init.wf && below k 4
  | .pairModeOff init k => init.wf && below k 4
  | .stopWrite init k _ => init.wf && below k 4
  | .onStateMeasurement x isense => namesPower x && below isense 0x10000
  | .offStateDiagnosis x _ _ => namesPower x
  | .diagnosisIntervalEnd x => namesPower x
  | .diagnosticStretchEnd x isense => namesPower x && below isense 0x10000
  | .holdWindowEnd n => below n 4
  | .plannedRestartNotice init n ext => init.wf && below n 4 && below ext 2048
  | .noticeLapse n => below n 4
  | .watchdogKey5a init => init.wf
  | .watchdogKeyA5 init => init.wf
  | .watchdogWrongKey init key => init.wf && below key 256
  | .wdtimeWrite init ms => init.wf && below ms 1024
  | .towlineRelease init ms key => init.wf && below ms 1024 && below key 256
  | .outputPlaneWatchdogExpiry => true
  | .towPinChange pin _ => below pin 8
  | .valveAdmission b => below b 4
  | .peakReached i isense => below i 24 && below isense 0x10000
  | .tpkmaxExpiry i isense => below i 24 && below isense 0x10000
  | .tpeakExpiry i => below i 24
  | .tholdExpiry i => below i 24
  | .decayEnd i => below i 24
  | .maxdlyExpiry i => below i 24
  | .currentMismatch b _ _ => below b 4
  | .valveOffStateDiagnosis i _ _ _ => below i 24
  | .currentDip i _ => below i 24
  | .closingKink i _ => below i 24
  | .kinkWindowEnd i => below i 24
  | .undercoatPeriodStart m => namesLed m
  | .undercoatPulseEnd m => namesLed m
  | .stringStartTimeEnd m => namesLed m
  | .vledStop vled => below vled 0x10000
  | .vledResume vled => below vled 0x10000
  | .segmentShort g vseg => below g 96 && below vseg 0x10000
  | .segmentBypass g vseg => below g 96 && below vseg 0x10000
  | .gainUpdate t temp => below t 12 && below temp 256
  | .windowOpening k => below k 4
  | .windowClosing k => below k 4
  | .stencilGo init i => init.wf && below i 16
  | .stencilStop init i => init.wf && below i 16
  | .stencilStart i => below i 16
  | .stencilStep i _ => below i 16
  | .rampUpdate i => below i 16
  | .stringShort n vout => below n 16 && below vout 0x10000
  | .stringOpen n vout _ => below n 16 && below vout 0x10000
  | .ledDieShutdown _ => true
  | .ledDieRelease _ _ => true
  | .amPinOvervoltage i => below i 36
  | .ledProtClear init m => init.wf && namesLed m
  | .neighbourTestRequest init mask => init.wf && below mask 0x10000
  | .neighbourTestFull init => init.wf
  | .neighbourPairTest a b _ => below a 16 && below b 16
  | .neighbourTestEnd => true
  | .inputThresholdCrossing i _ => below i 96
  | .filterElapsed i => below i 96
  | .filtWrite init i v => init.wf && below i 96 && below v 0x10000
  | .cleaningPulseEnd i => below i 96
  | .cleaningWaitDrop i => below i 96
  | .analogueConversion i _ => isAnalogueInput i
  | .fastInputEdge i _ => isFastInput i
  | .athrWrite init i hi lo => init.wf && isAnalogueInput i && below hi 4096 && below lo 4096
  | .pollingBurst g found => below g 8 && allBelow found 96
  | .confirmingBurst found => allBelow found 96
  | .canEnable init c => init.wf && below c 10
  | .frameAcceptance c id dlc _ _ _ _ _ _ data _ => below c 10 && below id 0x20000000 && below dlc 16 && atMost data 64
  | .fifoEntryRemove init c _ => init.wf && below c 10
  | .transmitRequest init c k ws => init.wf && below c 10 && below k 128 && (ws.length == 24)
  | .transmitAbort init c k => init.wf && below c 10 && below k 128
  | .arbitration c _ => below c 10
  | .transmitSuccess c _ => below c 10
  | .arbitrationLost c => below c 10
  | .busError c cls kind _ => below c 10 && below cls 8 && below kind 3
  | .busOffRecoveryRequest init c => init.wf && below c 10
  | .busOffRecoveryEnd c => below c 10
  | .romChange c => below c 10
  | .protocolException c => below c 10
  | .dirChange init c k dir => init.wf && below c 10 && below k 128 && below dir 4
  | .linScheduleRun init l => init.wf && below l 12
  | .linSlotStart l => below l 12
  | .linFrameEnd l err data _ => below l 12 && below err 6 && atMost data 8
  | .linNoResponse l => below l 12
  | .linTableSwitch init l => init.wf && below l 12
  | .modeNormal init j => init.wf && below j 22
  | .modeListenOnly init j => init.wf && below j 22
  | .modeStandby init j => init.wf && below j 22
  | .modeSleep init j => init.wf && below j 22
  | .busIdle j => below j 22
  | .wakeUpPattern j => below j 22
  | .linDominantWake j => below j 22
  | .selectiveWakeFrame j id dlc _ _ _ _ data => below j 22 && below id 0x20000000 && below dlc 16 && atMost data 64
  | .lineWake _ => true
  | .wakeOutPulseEnd => true
  | .loopIgnoreEnd => true
  | .falseWakeWindowEnd j => below j 22
  | .backOffEnd j => below j 22
  | .recoveryPhaseEnd j => below j 22
  | .startUpPhaseEnd => true
  | .confirmationTimeout j => below j 22
  | .ownWakeFrame j => below j 22
  | .gatewayMessage _ => true
  | .checkValueDone u => below u 32
  | .gatewayQueueAge c => below c 10
  | .tunnelGatherEnd t p => below t 64 && below p 4
  | .avtpduReceive => true
  | .couplingEnable init i => init.wf && below i 4096
  | .couplingDisable init i => init.wf && below i 4096
  | .remoteReadRequest init p g tag addr count => init.wf && below p 4 && below g 64 && below tag 256 && below addr 0x100000000 && below count 16
  | .postedWriteRequest init p g tag addr count data => init.wf && below p 4 && below g 64 && below tag 256 && below addr 0x100000000 && below count 16 && atMost data 13
  | .remoteReply => true
  | .attemptTimeout g tag => below g 64 && below tag 256
  | .quarantineEnd g tag => below g 64 && below tag 256
  | .prefetchLineAge g => below g 64
  | .partitionSignalWrite init sig _ => init.wf && below sig 32
  | .domainOffPostedWrite init addr v => init.wf && below addr 0x100000000 && below v 0x100000000
  | .accessAuthenticate init f zreq => init.wf && below f 2 && below zreq 0x10000
  | .pollingClockLock init => init.wf
  | .pollingClockUnlock init => init.wf
  | .enrolPresentToken init id => init.wf && below id 0x100000000
  | .enrolSecretCode init id => init.wf && below id 0x100000000
  | .revoke init slot => init.wf && below slot 8
  | .replySlotEnd _ _ id resp _ _ _ => below id 0x100000000 && below resp 0x10000000000000000
  | .exchangeResult => true
  | .exchangeRepeat => true
  | .slotRecordWritten _ => true
  | .buttonTelegram id cmd cnt mac => below id 0x100000000 && below cmd 256 && below cnt 0x100000000 && below mac 0x10000000000000000
  | .buttonHoldExpiry k => below k 8
  | .accessPollBurst replies => allBelow replies 8
  | .sniff _ id cmd cnt mac => below id 0x100000000 && below cmd 256 && below cnt 0x100000000 && below mac 0x10000000000000000
  | .pollStepChange => true
  | .lockOutEnd => true
  | .secretGrantExpiry => true
  | .reqRest init => init.wf
  | .reqPark init => init.wf
  | .reqDeepPark init => init.wf
  | .reqRun init => init.wf
  | .restExit => true
  | .restWatchdogReturn => true
  | .parkAck init n => init.wf && below n 4
  | .preptimeExpiry => true
  | .parkFlushEnd => true
  | .commitPoint => true
  | .railAcknowledgement b => below b 256
  | .railAckTimeout => true
  | .railFrameRetry => true
  | .railFaultRetry => true
  | .dptimeExpiry => true
  | .dpvbatExpiry => true
  | .parkedWake => true
  | .aonTimerWake => true
  | .comparatorTrip n => below n 8
  | .resetKeyD5 init => init.wf
  | .resetKey2a init => init.wf
  | .distancePulse i => below i 2
  | .pulseWindowCompare => true
  | .counterSealWrite => true
  | .vmtrFlush => true
  | .vmtrReturn => true
  | .islandCoreRestart => true
  | .crystalComparison => true
  | .legaltime => true
  | .distcopy => true
  | .slewEnd => true
  | .sealPinAssert => true
  | .sealPinRelease => true
  | .pinTimerExpiry => true
  | .openIdleExpiry => true
  | .challengeExpiry => true
  | .openLockoutEnd => true
  | .parameterBlockFailure => true
  | .firmwareSelftestTimeout => true
  | .statusReq => true
  | .timeCorr => true
  | .distCfg => true
  | .recordReq => true
  | .openReq => true
  | .openAuth => true
  | .sealReq => true
  | .setKfactor => true
  | .setTime => true
  | .islandSelftest _ => true
  | .fwBlock => true
  | .fwCommit => true
  | .pubkeyReq => true
  | .mtrTxheadWrite init v => init.wf && below v 0x100000000
  | .mtrRxtailWrite init v => init.wf && below v 0x100000000
  | .islandLinkFall => true
  | .islandLinkRise => true
  | .aluAdd c rd rs1 rs2 => below c 7 && below rd 32 && below rs1 32 && below rs2 32
  | .aluSub c rd rs1 rs2 => below c 7 && below rd 32 && below rs1 32 && below rs2 32
  | .aluAnd c rd rs1 rs2 => below c 7 && below rd 32 && below rs1 32 && below rs2 32
  | .aluOr c rd rs1 rs2 => below c 7 && below rd 32 && below rs1 32 && below rs2 32
  | .aluXor c rd rs1 rs2 => below c 7 && below rd 32 && below rs1 32 && below rs2 32
  | .aluSll c rd rs1 rs2 => below c 7 && below rd 32 && below rs1 32 && below rs2 32
  | .aluSrl c rd rs1 rs2 => below c 7 && below rd 32 && below rs1 32 && below rs2 32
  | .aluSra c rd rs1 rs2 => below c 7 && below rd 32 && below rs1 32 && below rs2 32
  | .aluMul c rd rs1 rs2 => below c 7 && below rd 32 && below rs1 32 && below rs2 32
  | .mulhu c rd rs1 rs2 => below c 7 && below rd 32 && below rs1 32 && below rs2 32
  | .mulhs c rd rs1 rs2 => below c 7 && below rd 32 && below rs1 32 && below rs2 32
  | .divu c rd rs1 rs2 => below c 7 && below rd 32 && below rs1 32 && below rs2 32
  | .divs c rd rs1 rs2 => below c 7 && below rd 32 && below rs1 32 && below rs2 32
  | .remu c rd rs1 rs2 => below c 7 && below rd 32 && below rs1 32 && below rs2 32
  | .rems c rd rs1 rs2 => below c 7 && below rd 32 && below rs1 32 && below rs2 32
  | .aluCeq c rd rs1 rs2 => below c 7 && below rd 32 && below rs1 32 && below rs2 32
  | .cne c rd rs1 rs2 => below c 7 && below rd 32 && below rs1 32 && below rs2 32
  | .aluClt c rd rs1 rs2 => below c 7 && below rd 32 && below rs1 32 && below rs2 32
  | .aluCltu c rd rs1 rs2 => below c 7 && below rd 32 && below rs1 32 && below rs2 32
  | .cge c rd rs1 rs2 => below c 7 && below rd 32 && below rs1 32 && below rs2 32
  | .cgeu c rd rs1 rs2 => below c 7 && below rd 32 && below rs1 32 && below rs2 32
  | .minS c rd rs1 rs2 => below c 7 && below rd 32 && below rs1 32 && below rs2 32
  | .maxS c rd rs1 rs2 => below c 7 && below rd 32 && below rs1 32 && below rs2 32
  | .minu c rd rs1 rs2 => below c 7 && below rd 32 && below rs1 32 && below rs2 32
  | .maxu c rd rs1 rs2 => below c 7 && below rd 32 && below rs1 32 && below rs2 32
  | .fadd c rd rs1 rs2 => below c 7 && below rd 32 && below rs1 32 && below rs2 32
  | .fsub c rd rs1 rs2 => below c 7 && below rd 32 && below rs1 32 && below rs2 32
  | .fmul c rd rs1 rs2 => below c 7 && below rd 32 && below rs1 32 && below rs2 32
  | .fdiv c rd rs1 rs2 => below c 7 && below rd 32 && below rs1 32 && below rs2 32
  | .fsqrt c rd rs1 rs2 => below c 7 && below rd 32 && below rs1 32 && below rs2 32
  | .fmin c rd rs1 rs2 => below c 7 && below rd 32 && below rs1 32 && below rs2 32
  | .fmax c rd rs1 rs2 => below c 7 && below rd 32 && below rs1 32 && below rs2 32
  | .fceq c rd rs1 rs2 => below c 7 && below rd 32 && below rs1 32 && below rs2 32
  | .fclt c rd rs1 rs2 => below c 7 && below rd 32 && below rs1 32 && below rs2 32
  | .fcle c rd rs1 rs2 => below c 7 && below rd 32 && below rs1 32 && below rs2 32
  | .ftoi c rd rs1 rs2 => below c 7 && below rd 32 && below rs1 32 && below rs2 32
  | .ftou c rd rs1 rs2 => below c 7 && below rd 32 && below rs1 32 && below rs2 32
  | .itof c rd rs1 rs2 => below c 7 && below rd 32 && below rs1 32 && below rs2 32
  | .utof c rd rs1 rs2 => below c 7 && below rd 32 && below rs1 32 && below rs2 32
  | .addi c rd rs1 imm => below c 7 && below rd 32 && below rs1 32 && below imm 0x4000
  | .andi c rd rs1 imm => below c 7 && below rd 32 && below rs1 32 && below imm 0x4000
  | .ori c rd rs1 imm => below c 7 && below rd 32 && below rs1 32 && below imm 0x4000
  | .xori c rd rs1 imm => below c 7 && below rd 32 && below rs1 32 && below imm 0x4000
  | .slli c rd rs1 imm => below c 7 && below rd 32 && below rs1 32 && below imm 0x4000
  | .srli c rd rs1 imm => below c 7 && below rd 32 && below rs1 32 && below imm 0x4000
  | .srai c rd rs1 imm => below c 7 && below rd 32 && below rs1 32 && below imm 0x4000
  | .ceqi c rd rs1 imm => below c 7 && below rd 32 && below rs1 32 && below imm 0x4000
  | .clti c rd rs1 imm => below c 7 && below rd 32 && below rs1 32 && below imm 0x4000
  | .cltui c rd rs1 imm => below c 7 && below rd 32 && below rs1 32 && below imm 0x4000
  | .lui c rd imm => below c 7 && below rd 32 && below imm 0x80000
  | .ldw c rd rs1 imm ecc => below c 7 && below rd 32 && below rs1 32 && below imm 0x4000 && below ecc 4
  | .ldh c rd rs1 imm ecc => below c 7 && below rd 32 && below rs1 32 && below imm 0x4000 && below ecc 4
  | .ldhu c rd rs1 imm ecc => below c 7 && below rd 32 && below rs1 32 && below imm 0x4000 && below ecc 4
  | .ldb c rd rs1 imm ecc => below c 7 && below rd 32 && below rs1 32 && below imm 0x4000 && below ecc 4
  | .ldbu c rd rs1 imm ecc => below c 7 && below rd 32 && below rs1 32 && below imm 0x4000 && below ecc 4
  | .stw c rd rs1 imm ecc => below c 7 && below rd 32 && below rs1 32 && below imm 0x4000 && below ecc 4
  | .sth c rd rs1 imm ecc => below c 7 && below rd 32 && below rs1 32 && below imm 0x4000 && below ecc 4
  | .stb c rd rs1 imm ecc => below c 7 && below rd 32 && below rs1 32 && below imm 0x4000 && below ecc 4
  | .amoswap c rd rs1 rs2 func ecc => below c 7 && below rd 32 && below rs1 32 && below rs2 32 && below func 512 && below ecc 4
  | .amoadd c rd rs1 rs2 func ecc => below c 7 && below rd 32 && below rs1 32 && below rs2 32 && below func 512 && below ecc 4
  | .bez c rs1 off => below c 7 && below rs1 32 && below off 0x80000
  | .bnz c rs1 off => below c 7 && below rs1 32 && below off 0x80000
  | .jal c off => below c 7 && below off 0x1000000
  | .jump c off => below c 7 && below off 0x1000000
  | .jalr c rd rs1 imm => below c 7 && below rd 32 && below rs1 32 && below imm 0x4000
  | .jr c rd rs1 imm => below c 7 && below rd 32 && below rs1 32 && below imm 0x4000
  | .mfc c rd rs1 imm => below c 7 && below rd 32 && below rs1 32 && below imm 0x4000
  | .mtc c rd rs1 imm => below c 7 && below rd 32 && below rs1 32 && below imm 0x4000
  | .trapInsn c rd rs1 imm => below c 7 && below rd 32 && below rs1 32 && below imm 0x4000
  | .rtt c rd rs1 imm => below c 7 && below rd 32 && below rs1 32 && below imm 0x4000
  | .waitInsn c rd rs1 imm => below c 7 && below rd 32 && below rs1 32 && below imm 0x4000
  | .fence c rd rs1 imm => below c 7 && below rd 32 && below rs1 32 && below imm 0x4000
  | .brk c rd rs1 imm => below c 7 && below rd 32 && below rs1 32 && below imm 0x4000
  | .shortNop c _ ra rb other ecc => below c 7 && below ra 32 && below rb 32 && below other 0x8000 && below ecc 4
  | .shortMov c _ ra rb other ecc => below c 7 && below ra 32 && below rb 32 && below other 0x8000 && below ecc 4
  | .shortAdd c _ ra rb other ecc => below c 7 && below ra 32 && below rb 32 && below other 0x8000 && below ecc 4
  | .shortSub c _ ra rb other ecc => below c 7 && below ra 32 && below rb 32 && below other 0x8000 && below ecc 4
  | .shortAnd c _ ra rb other ecc => below c 7 && below ra 32 && below rb 32 && below other 0x8000 && below ecc 4
  | .shortOr c _ ra rb other ecc => below c 7 && below ra 32 && below rb 32 && below other 0x8000 && below ecc 4
  | .shortXor c _ ra rb other ecc => below c 7 && below ra 32 && below rb 32 && below other 0x8000 && below ecc 4
  | .shortSll c _ ra rb other ecc => below c 7 && below ra 32 && below rb 32 && below other 0x8000 && below ecc 4
  | .shortSrl c _ ra rb other ecc => below c 7 && below ra 32 && below rb 32 && below other 0x8000 && below ecc 4
  | .shortSra c _ ra rb other ecc => below c 7 && below ra 32 && below rb 32 && below other 0x8000 && below ecc 4
  | .shortNeg c _ ra rb other ecc => below c 7 && below ra 32 && below rb 32 && below other 0x8000 && below ecc 4
  | .shortNot c _ ra rb other ecc => below c 7 && below ra 32 && below rb 32 && below other 0x8000 && below ecc 4
  | .shortAddq c _ ra rb other ecc => below c 7 && below ra 32 && below rb 32 && below other 0x8000 && below ecc 4
  | .shortLiq c _ ra rb other ecc => below c 7 && below ra 32 && below rb 32 && below other 0x8000 && below ecc 4
  | .shortCeq c _ ra rb other ecc => below c 7 && below ra 32 && below rb 32 && below other 0x8000 && below ecc 4
  | .shortClt c _ ra rb other ecc => below c 7 && below ra 32 && below rb 32 && below other 0x8000 && below ecc 4
  | .shortCltu c _ ra rb other ecc => below c 7 && below ra 32 && below rb 32 && below other 0x8000 && below ecc 4
  | .shortLdw c _ ra rb other ecc => below c 7 && below ra 32 && below rb 32 && below other 0x8000 && below ecc 4
  | .shortStw c _ ra rb other ecc => below c 7 && below ra 32 && below rb 32 && below other 0x8000 && below ecc 4
  | .shortMul c _ ra rb other ecc => below c 7 && below ra 32 && below rb 32 && below other 0x8000 && below ecc 4
  | .shortSexb c _ ra rb other ecc => below c 7 && below ra 32 && below rb 32 && below other 0x8000 && below ecc 4
  | .shortSexh c _ ra rb other ecc => below c 7 && below ra 32 && below rb 32 && below other 0x8000 && below ecc 4
  | .shortZexb c _ ra rb other ecc => below c 7 && below ra 32 && below rb 32 && below other 0x8000 && below ecc 4
  | .shortZexh c _ ra rb other ecc => below c 7 && below ra 32 && below rb 32 && below other 0x8000 && below ecc 4
  | .shortCeqz c _ ra rb other ecc => below c 7 && below ra 32 && below rb 32 && below other 0x8000 && below ecc 4
  | .shortLdwsp c _ ra rb other ecc => below c 7 && below ra 32 && below rb 32 && below other 0x8000 && below ecc 4
  | .shortStwsp c _ ra rb other ecc => below c 7 && below ra 32 && below rb 32 && below other 0x8000 && below ecc 4
  | .eventTrap c => below c 7
  | .waitResume c => below c 7
  | .doorbell c target => below c 7 && below target 16
  | .eventEntryRemove c _ => below c 7
  | .scrubVisit _ _ _ _ => true
  | .parkedScrub _ _ _ => true
  | .logFlushTimer => true
  | .logFlushEnd => true
  | .logHeadFound => true
  | .dwdogKey3c init => init.wf
  | .dwdogKeyC3 init => init.wf
  | .dwdogWrongKey init key => init.wf && below key 256
  | .dwdogTimeWrite init ms => init.wf && below ms 4096
  | .deviceWatchdogExpiry => true
  | .partRestart init n => init.wf && below n 4
  | .partMove init n => init.wf && below n 4
  | .partBack init n => init.wf && below n 4
  | .rstreq init mask => init.wf && below mask 16
  | .coreCheckError cores => allBelow cores 5
  | .reliefCoreReady => true
  | .coreSelfTestEnd c _ => below c 7
  | .testOutput init n cls idx => init.wf && below n 4 && below cls 256 && below idx 0x10000
  | .testString init n idx => init.wf && below n 4 && below idx 0x10000
  | .testCan init n idx => init.wf && below n 4 && below idx 0x10000
  | .testLin init n idx => init.wf && below n 4 && below idx 0x10000
  | .testPort init n idx => init.wf && below n 4 && below idx 0x10000
  | .inServiceTestEnd n _ => below n 4
  | .siariOpen path src seq => below path 2 && below src 0x1000000000000 && below seq 0x100000000
  | .siariAuth path src sess seq key sig => below path 2 && below src 0x1000000000000 && below sess 0x100000000 && below seq 0x100000000 &&
    key.length == 64 && sig.length == 64
  | .siariClose path src sess seq => below path 2 && below src 0x1000000000000 && below sess 0x100000000 && below seq 0x100000000
  | .siariStatus path src sess seq => below path 2 && below src 0x1000000000000 && below sess 0x100000000 && below seq 0x100000000
  | .stageBegin path src sess seq part off size _ => below path 2 && below src 0x1000000000000 && below sess 0x100000000 && below seq 0x100000000 && below part 256 && below off 0x100000000 && below size 0x100000000
  | .stageData path src sess seq off data _ => below path 2 && below src 0x1000000000000 && below sess 0x100000000 && below seq 0x100000000 && below off 0x100000000 && atMost data 1024
  | .stageEnd path src sess seq => below path 2 && below src 0x1000000000000 && below sess 0x100000000 && below seq 0x100000000
  | .activate path src sess seq _ => below path 2 && below src 0x1000000000000 && below sess 0x100000000 && below seq 0x100000000
  | .siariAbort path src sess seq => below path 2 && below src 0x1000000000000 && below sess 0x100000000 && below seq 0x100000000
  | .siariSecret path src sess seq proof => below path 2 && below src 0x1000000000000 && below sess 0x100000000 && below seq 0x100000000 &&
    proof.length == 32
  | .wsmsg path src sess seq m => below path 2 && below src 0x1000000000000 && below sess 0x100000000 && below seq 0x100000000 && atMost m 1040 && decide (8 ≤ m.length)
  | .logread path src sess seq first _ => below path 2 && below src 0x1000000000000 && below sess 0x100000000 && below seq 0x100000000 && below first 0x100000000
  | .debugLock path src sess seq => below path 2 && below src 0x1000000000000 && below sess 0x100000000 && below seq 0x100000000
  | .debugCore path src sess seq => below path 2 && below src 0x1000000000000 && below sess 0x100000000 && below seq 0x100000000
  | .debugBoundaryScan path src sess seq => below path 2 && below src 0x1000000000000 && below sess 0x100000000 && below seq 0x100000000
  | .authTimeout sess => below sess 0x100000000
  | .arbitrationWindowEnd => true
  | .sessionIdleTimeout sess => below sess 0x100000000
  | .scaffoldReady _ => true
  | .healthyReport init n _ => init.wf && below n 4
  | .failedReport init n => init.wf && below n 4
  | .trialExpiry part _ => below part 256
  | .totalExpiry => true
  | .journalCheck => true
  | .workshopReply init => init.wf
  | .workshopTimeout => true
  | .rcFieldRead init a => init.wf && below a 0x100000000
  | .exposureWindowLapse k => below k 4
  | .amLowHeadroom i => below i 36
  | .ciPwrClockLoss => true
  | .baseplateTemperatureSample _ => true

end Sys2Proof
end

