-- ==== Sys2Proof/Safety.lean ====
section
/-! DEFINITION. The terms in which claims about the block are made: a command that completes, the word a read delivered, what
two states agree on, and the forms that every step keeps. -/

set_option Elab.async false

namespace Sys2Proof.Machine

/-- The command completes: it answers a next state, and the property holds of that state. -/
def Answers (c : Instr) (s : State) (P : State → Prop) : Prop := ∃ t, exec c s = .next t ∧ P t

/-- Whether every command that waits is well formed. -/
def State.queueWf (s : State) : Bool := s.pending.all Instr.wf

/-- The canonical form of a state: memory and register file in theirs. -/
def State.canonical (s : State) : Prop := Memory.wf s.mem ∧ Regs.wf s.regs

/-- The number under which the word that an initiator read last is kept. -/
def readNo : Init → Nat
  | .part n => n
  | .aon => 4
  | .boot => 5
  | .siari => 6
  | .switch => 7

/-- The word that an initiator's latest read returned. -/
def State.readData (s : State) (init : Init) : Option Word := Sparse.get s.bus.rdata (readNo init)

/-- An address of a peripheral block's register that a running fabric carries to its block: the block is on, and the
address lies in no group page and not in stencil memory. -/
abbrev State.carries (s : State) (a : Nat) : Prop :=
  s.domOn domFAB = true ∧ inBlocks a = true ∧ s.blockOn (blockOf a) = true ∧ inStencils a = false ∧ pageOf a = none

/-- One more count in a counter that is held at its maximum. -/
abbrev State.oneMore (t s : State) (f : Fld) (i : Nat := 0) (j : Nat := 0) : Prop :=
  t.get f i j = min f.top (s.get f i j + 1)

/-- Every byte of memory outside a range reads alike in two states. -/
def State.memOutside (t s : State) (lo hi : Nat) : Prop := ∀ a, a < lo ∨ hi ≤ a → t.rd8 a = s.rd8 a

/-- Every byte of memory reads alike in two states. -/
def State.memSame (t s : State) : Prop := ∀ a, t.rd8 a = s.rd8 a

/-- Whether an event that names block, code and item lies in queue n, placed after every other. -/
abbrev State.placed (t : State) (n block code item : Nat) : Prop :=
  (t.queue n).entries.getLast?.any (fun e => e.block == block && e.code == code && e.item == item) = true

/-- Core c carries out words, and the fetch at its pc is permitted and meets no uncorrectable word (R591, R609, R630). -/
abbrev State.fetches (s : State) (c : Nat) : Prop :=
  s.coreLive c = true ∧ s.fetchable c (s.pc c).toNat = true ∧ s.permits c (s.pc c).toNat F.CPU_RBASE_X = true ∧
    s.wordBad (physAt c (s.pc c).toNat) = false

/-- The state after a word of core c that writes a register and goes on to the next word. -/
abbrev State.gives (s : State) (c rd : Nat) (v : Word) : State := (s.setG c rd v).setPc c (s.pc c + 4)

/-- Whether queue n has room for an entry (R617). -/
abbrev State.room (s : State) (n : Nat) : Prop := (s.queue n).entries.length < queueCap n

end Sys2Proof.Machine
end

