-- ==== Sys2Proof/Certificates/Slice0/Obligations.lean ====
section
/-! DEFINITION. The statements about the block that are to be proved: what each command leaves, what it leaves alone, and what every
step keeps. -/

set_option Elab.async false

open Sys2Proof Sys2Proof.Machine

/-- R19, R21, R24, R14, R23: what the reads of a register do. A read of the first word of a wide register takes a snapshot of
the words as they read now; one of the last word under a snapshot answers the snapshot's word and gives the snapshot up; one
of another word without a snapshot answers the live word and counts a torn read; a read by the owner of a register of one word
clears its RC fields, but for what hardware changed in the access cycle of the read (R16); a snapshot held for 250 µs is
released and counted. -/
def Obligations.RegisterReadsComplete : Prop :=
  (∀ (s : State) (init : Init) (a i j w : Nat) (r : Reg), s.carries a → a % 4 = 0 → regAt a = some (r, i, j, w) → r.wide =
    true → w = 0 → Answers (.snapshot init a) s (fun t => t.snapOf init r i j = some ⟨init, r, i, j, (List.range
    r.geom.words).map (s.readWord init r i j), s.now⟩ ∧ t.readData init = some (s.readWord init r i j 0))) ∧
  (∀ (s : State) (init : Init) (a i j w : Nat) (r : Reg) (x : Snap), s.carries a → a % 4 = 0 → regAt a = some (r, i, j, w) →
    r.wide = true → 0 < w → w + 1 = r.geom.words → s.snapOf init r i j = some x → Answers (.snapshotRelease init a) s (fun t
    => t.snapOf init r i j = none ∧ t.readData init = some (x.words.getD w 0))) ∧
  (∀ (s : State) (init : Init) (a i j w : Nat) (r : Reg), s.carries a → a % 4 = 0 → regAt a = some (r, i, j, w) → r.wide =
    true → 0 < w → s.snapOf init r i j = none → Answers (.tornRead init a) s (fun t => t.oneMore s F.ERR_BLK0_SNAP r.block ∧
    t.readData init = some (s.readWord init r i j w))) ∧
  (∀ (s : State) (init : Init) (a i j w : Nat) (r : Reg), s.carries a → a % 4 = 0 → regAt a = some (r, i, j, w) → r.wide =
    false → s.ownRead init r i = true → Answers (.rcFieldRead init a) s (fun t => t.word r i j w = s.rcLeft r i j w ∧
    t.readData init = some (s.readWord init r i j w))) ∧
  (∀ (s : State) (init : Init) (a i j w : Nat) (r : Reg) (x : Snap), inBlocks a = true → a % 4 = 0 → regAt a = some (r, i, j,
    w) → s.snapOf init r i j = some x → x.at_ + 250 * usUnits ≤ s.now → Answers (.abandonedSnapshot init a) s (fun t =>
    t.snapOf init r i j = none ∧ t.oneMore s F.ERR_BLK0_SNAP r.block))

/-- R28, R14, R47: what the writes of a register do. A word below the last of a wide register, other than a reflex rule, whose
words R268 has written one by one, is staged for its writer alone; a one-word register of the check-value units and of the
access block takes a write by its access codes, no W1C bit that hardware sets in the access cycle of the write being cleared
(R15); a partition that does not own it has its write dropped, counted and noted. -/
def Obligations.RegisterWritesComplete : Prop :=
  (∀ (s : State) (init : Init) (a i j w : Nat) (r : Reg) (v : Nat), s.carries a → a % 4 = 0 → regAt a = some (r, i, j, w) →
    s.mayWrite init r i = true → r.writable = true → r.wide = true → r ≠ .SCH_RULE → w + 1 < r.geom.words → Answers
    (.wideWordStage init a v) s (fun t => t.regs = s.regs ∧ (t.bus.staged.find? (fun x => x.init = init && x.reg = r && x.i =
    i && x.j = j && x.word == w)) = some ⟨init, r, i, j, w, BitVec.ofNat 32 v⟩)) ∧
  (∀ (s : State) (init : Init) (a i j w : Nat) (r : Reg) (v : Nat), s.carries a → a % 4 = 0 → regAt a = some (r, i, j, w) →
    s.mayWrite init r i = true → r.writable = true → r.wide = false → r.block = 11 ∨ r.block = 12 → Answers (.registerWrite
    init a v) s (fun t => t.word r i j w = s.written r i j w (BitVec.ofNat 32 v))) ∧
  (∀ (s : State) (n a i j w v : Nat) (r : Reg), s.carries a → a % 4 = 0 → n < 4 → regAt a = some (r, i, j, w) → r.block = 11 ∨
    r.block = 12 → s.mayWrite (.part n) r i = false → Answers (.registerWrite (.part n) a v) s (fun t => t.oneMore s
    F.SYS_OWNDROP_DROPS n ∧ t.get F.SYS_OWNLAST_ADDR n = a / 4 % 2 ^ (F.SYS_OWNLAST_ADDR.hi + 1 - F.SYS_OWNLAST_ADDR.lo) ∧
    t.word r i j w = s.word r i j w)) ∧
  (∀ (s : State) (init : Init) (r v : Nat), r < 256 → s.domOn domFAB = true → s.blockOn 2 = true → s.mayWrite init .SCH_RULE r
    = true → Answers (.registerWrite init (Reg.SCH_RULE.addr r 0 2) v) s (fun t => t.word .SCH_RULE r 0 2 = BitVec.ofNat 32 v
    ∧ t.bus.staged = s.bus.staged))

/-- R18, R59, R37, R492: accesses that find nothing. Each is counted, a read returns zero, and an access into an island whose
domain is off raises an event in the queue of the partition that made it. -/
def Obligations.AccessesWithoutATargetAreCounted : Prop :=
  (∀ (s : State) (init : Init) (a : Nat) (v : Option Nat), s.carries a → a % 4 = 0 → regAt a = none → Answers
    (.undefinedAddressAccess init a v) s (fun t => t.oneMore s F.ERR_BLK0_ACCESS (blockOf a) ∧ (v = none → t.readData init =
    some 0))) ∧
  (∀ (s : State) (init : Init) (a : Nat) (v : Option Nat), s.domOn domFAB = true → decoded a = false → inRetention a = false →
    a % 4 = 0 → Answers (.undecodedAddressAccess init a v) s (fun t => t.oneMore s F.ERR_BLK0_ACCESS 15 ∧ (v = none →
    t.readData init = some 0))) ∧
  (∀ (s : State) (n a : Nat), n < 4 → s.domOn domFAB = true → a % 4 = 0 → inBlocks a = true → s.blockOn (blockOf a) = false →
    s.room n → Answers (.domainOffRead (.part n) a) s (fun t => t.oneMore s F.ERR_BLK2_DOMOFF 15 ∧ t.readData (.part n) = some
    0 ∧ ((t.queue n).entries.getLast?.map (fun e => (e.block, e.code, e.arg0))) = some (15, 2, a))) ∧
  (∀ (s : State) (n a v : Nat), n < 4 → s.domOn domFAB = true → a % 4 = 0 → inBlocks a = true → s.blockOn (blockOf a) = false
    → s.room n → Answers (.domainOffPostedWrite (.part n) a v) s (fun t => t.oneMore s F.ERR_BLK2_DOMOFF 15 ∧ ((t.queue
    n).entries.getLast?.map (fun e => (e.block, e.code, e.arg0, e.arg1))) = some (15, 5, a, 6)))

/-- R256, R50, R260: a write in a group page stages its value for each member whose channel the writer owns; a write of MEMBER
by the group's owner changes the membership and discards what the group has staged. -/
def Obligations.GroupWritesComplete : Prop :=
  (∀ (s : State) (n a g o block m x v : Nat) (r : Reg), n < 4 → g < 32 → s.domOn domFAB = true → a % 4 = 0 → inStencils a =
    false → pageOf a = some (block, g, o) → o < 0xF00 → s.blockOn block = true → pageReg block o = some r → r.writable = true
    → s.ownsSpec (.part n) (.item 0x0B ((if block = 3 then 96 else if block = 4 then 128 else 160) + g)) = true → m ∈
    s.members block g → pageHas block m r = true → memberTarget block m = some x → s.ownerOf (targetSpec x) = some n → Answers
    (.groupAliasWrite (.part n) a v) s (fun t => ((t.sch.staged.find? (fun f => f.block == block && f.group == g && f.reg = r
    && f.i == m)).map (fun f => f.val)) = some (BitVec.ofNat 32 v) ∧ t.get (pendFld block g) g = 1)) ∧
  (∀ (s : State) (n block g w v : Nat), n < 4 → block = 3 ∨ block = 4 ∨ block = 5 → g < 32 → w < 8 → (groupReg block).valid g
    w = true → s.domOn domFAB = true → s.blockOn block = true → s.ownsSpec (.part n) (.item 0x0B ((if block = 3 then 96 else
    if block = 4 then 128 else 160) + g)) = true → Answers (.memberWrite (.part n) block g w v) s (fun t => t.word (groupReg
    block) g w 0 = BitVec.ofNat 32 v &&& Reg.rst
    (match block with | 3 => Reg.PSW_AMEMBER | 4 => .VLV_AMEMBER | _ => .LGT_AMEMBER) w 0 0 ∧ t.sch.staged.all (fun f =>
    !(f.block == block && f.group == g)) = true ∧ t.get (pendFld block g) g = 0))

/-- R32 to R34: what happens to a word that crosses a link, and to a lane that is found stuck. -/
def Obligations.LinkFaultsAreCountedAndMoved : Prop :=
  (∀ (s : State) (l : Nat) (lanes : List Nat) (parityBad : Bool) (n a : Nat), l < 12 → n < 4 → s.domOn domFAB = true → (s.link
    l).pausedTo = none → parityBad = true ∨ 2 ≤ (s.badLanes l lanes).length → s.room n → Answers (.linkWord l lanes parityBad
    .other) s (fun t => t.oneMore s F.ERR_BLK3_LINKUNC 15 ∧ t.links = s.links) ∧ Answers (.linkWord l lanes parityBad (.store
    (.part n) a)) s (fun t => t.oneMore s F.ERR_BLK3_LINKUNC 15 ∧ t.links = s.links ∧ t.placed n 15 5 0xFFFF)) ∧
  (∀ (s : State) (l x : Nat) (lanes : List Nat) (u : LinkUse), l < 12 → s.domOn domFAB = true → (s.link l).pausedTo = none →
    s.badLanes l lanes = [x] → Answers (.linkWord l lanes false u) s (fun t => t.oneMore s F.ERR_BLK3_LINKCORR 15)) ∧
  (∀ (s : State) (l : Nat) (lanes : List Nat) (u : LinkUse), l < 12 → s.domOn domFAB = true → s.badLanes l lanes = [] →
    Answers (.linkWord l lanes false u) s (fun t => t = s)) ∧
  (∀ (s : State) (l x : Nat), l < 12 → x < 80 → s.domOn domFAB = true → (s.link l).moved = none → 80 ∉ (s.link l).failed → x ∉
    (s.link l).failed → Answers (.idlePatternCheck l [x]) s (fun t => (t.link l).moved = some x ∧ (t.link l).pausedTo = some
    (s.now + 20 * usUnits) ∧ t.oneMore s F.ERR_BLK3_LANEMOVE 15)) ∧
  (∀ (s : State) (l : Nat), Answers (.laneMoveComplete l) s (fun t => (t.link l).pausedTo = none ∧ (t.link l).moved = (s.link
    l).moved ∧ (t.link l).failed = (s.link l).failed))

/-- R86 to R89: what each crossing of a supply threshold does. Outputs are those of the HS and BH channels. -/
def Obligations.SupplyZonesComplete : Prop :=
  (∀ (s : State) (vbat : Nat), Answers (.brownOut vbat) s (fun t => t.get F.PMU_SUPPLY_ZONE = 0 ∧ t.get F.PMU_STATE_LASTRST =
    1 ∧ t.pwr = 5 ∧ t.dom = 0 ∧ (List.range 72).all (fun x => !isPower x || t.out x == 0) = true)) ∧
  (∀ (s : State) (vbat : Nat), Answers (.cutThresholdFall vbat) s (fun t => t.get F.PMU_SUPPLY_ZONE = 0 ∧ t.sup.cutFrom = some
    s.now)) ∧
  (∀ (s : State) (vbat : Nat), s.sup.inP = false → Answers (.cutThresholdRise vbat) s (fun t => t.get F.PMU_SUPPLY_ZONE = 1 ∧
    t.sup.cutFrom = none ∧ t.get F.PMU_SUPPLY_HOLDSEEN = 1)) ∧
  (∀ (s : State) (f : Nat), s.sup.cutFrom = some f → f + 2 * msUnits ≤ s.now → s.psw.cut = [] → s.domOn domPWR = true →
    Answers (.cutTimeExpiry) s (fun t => t.get F.PMU_SUPPLY_CUTSEEN = 1 ∧ t.psw.cut = powerChannels ∧ t.sup.cutFrom = none ∧
    (List.range 72).all (fun x => !isPower x || t.out x == 0) = true)) ∧
  (∀ (s : State) (vbat : Nat), s.sup.inP = false → Answers (.holdZoneEntry vbat) s (fun t => t.get F.PMU_SUPPLY_ZONE = 1 ∧
    t.get F.PMU_SUPPLY_HOLDSEEN = 1)) ∧
  (∀ (s : State) (vbat : Nat), Answers (.fullZoneEntry vbat) s (fun t => t.get F.PMU_SUPPLY_ZONE = 2)) ∧
  (∀ (s : State) (vbat : Nat), s.sup.inP = false → Answers (.overvoltageEntry vbat) s (fun t => t.get F.PMU_SUPPLY_ZONE = 3 ∧
    t.get F.PMU_SUPPLY_OVSEEN = 1)) ∧
  (∀ (s : State) (vbat : Nat), Answers (.overvoltageExit vbat) s (fun t => t.get F.PMU_SUPPLY_ZONE = 2)) ∧
  (∀ (s : State) (vbat : Nat), s.sup.inP = true → Answers (.recoveryThresholdRise vbat) s (fun t => t.now = 0 ∧ t.sup.inP =
    false ∧ (s.sup.resetFrom = none → t.pwr = 5 ∧ t.boot.step = 1 ∧ (t.pmu.rail.map (fun q => (q.rail, q.level))) = some (0,
    32)) ∧ (s.sup.resetFrom ≠ none → t.sup.resetFrom = some 0 ∧ t.boot = s.boot))) ∧
  (∀ (s : State) (vbat : Nat), s.sup.inP = false → s.domOn domPWR = true → Answers (.recoveryThresholdRise vbat) s (fun t =>
    t.psw.cut = []))

/-- R101, R307, R141, R69, R643: the resets that pins cause, and what the baseplate sensors and the clock monitor do. That
outputs keep their state through the reset holds of every state whose register file is in canonical form. -/
def Obligations.DeviceResetsComplete : Prop :=
  (∀ (s : State) (i : Bool), (if i then bit (s.get F.PMU_RAIL_ON) 1 || bit (s.get F.PMU_RAIL_ON) 2 else bit (s.get
    F.PMU_RAIL_ON) 0) = true → s.get (if i then F.PMU_SUPPLY_PGI else F.PMU_SUPPLY_PGC) = 1 → Answers (.pgoodLoss i) s (fun t
    => t.get F.PMU_SUPPLY_PGLOSS = 1 ∧ t.get F.PMU_STATE_LASTRST = 5 ∧ t.pwr = 5 ∧ (s.sup.resetFrom = none → t.boot.step =
    1))) ∧
  (∀ (s : State), Regs.wf s.regs → s.sup.resetFrom = none → s.sup.inP = false → Answers (.resetNAssert) s (fun t =>
    t.sup.resetFrom = some s.now ∧ t.get F.PMU_STATE_LASTRST = 2 ∧ t.pwr = 5 ∧ (List.range 72).all (fun x => !isPower x ||
    t.out x == s.out x) = true)) ∧
  (∀ (s : State) (f : Nat), s.sup.resetFrom = some f → f + 10 * msUnits ≤ s.now → s.sup.longDone = false → s.domOn domPWR =
    true → Answers (.resetNLongHold) s (fun t => t.sup.longDone = true ∧ powerChannels.all (fun x => !(t.chan x).undSet) =
    true)) ∧
  (∀ (s : State) (f : Nat), s.sup.resetFrom = some f → s.sup.inP = false → Answers (.resetNRelease) s (fun t =>
    t.sup.resetFrom = none ∧ t.boot.refAt = s.now ∧ t.boot.step = 1 ∧ t.pwr = 5)) ∧
  (∀ (s : State) (tbp : Int), s.domOn domPWR = true → Answers (.baseplateTemperatureSample tbp) s (fun t => t.get
    F.PMU_THERM_TBP = codeOf 9 tbp ∧ (95 < tbp → t.get F.PMU_THERM_HOT = 1) ∧ (signedOf 9 (s.get F.PMU_THERM_TPEAK) < tbp →
    t.get F.PMU_THERM_TPEAK = codeOf 9 tbp))) ∧
  (∀ (s : State), s.domOn domPWR = true → Answers (.ciPwrClockLoss) s (fun t => t.psw.clockLost = true)) ∧
  (∀ (s : State) (f : Nat), s.sup.resetFrom = some f → s.sup.inP = true → Answers (.resetNRelease) s (fun t => t.sup.resetFrom
    = none ∧ t.boot = s.boot))

/-- R131, R133, R107, R139, R119: steps of the bring-up. The part is the stencil library, whose decrypted body the loader
writes as it stands; its header and directory entry lie in the flash of the selected generation, and the checks of R119 pass.
-/
def Obligations.BringUpStepsComplete : Prop :=
  (∀ (s : State) (d e : Nat) (ds : List Nat), s.boot.doms = d :: e :: ds → s.boot.domAt + 200 * usUnits ≤ s.now → Answers
    (.domainTurnOn) s (fun t => t.domOn d = true ∧ t.boot.doms = e :: ds ∧ t.boot.domAt = t.now ∧ (d ≠ domTIM → t.now =
    s.now))) ∧
  (∀ (s : State) (faulty : List Nat), s.boot.kind ≤ 1 → s.boot.sramDone = false → s.domOn domFAB = true → 2 ≤ s.boot.step →
    s.boot.step ≠ 11 → Answers (.sramTestEnd faulty) s (fun t => t.boot.sramDone = true ∧ ∀ b : Nat, b < 16 → (bit (t.get
    F.SYS_SRAMREP_LOST) b = true ↔ 8 < ((faulty.filter (fun a => a / 0x80000 == 0x200 + b)).eraseDups).length))) ∧
  (∀ (s : State) (f0 f1 : FlashId), s.boot.step = 4 → s.boot.kind ≠ 2 → Answers (.flashProbeEnd f0 f1) s (fun t => t.boot.cs =
    (if flashConforms f0 then 1 else 0) + (if flashConforms f1 then 2 else 0) ∧ t.boot.probed = true ∧ (flashConforms f0 =
    false → t.boot.step = 12 ∧ t.get F.SYS_BOOTSTAT_CAUSE = 1))) ∧
  (∀ (s : State) (f : Nat), s.boot.serviceAt = some f → s.boot.step = 12 → s.upd.sessions = [] → f + 1800 * secUnits ≤ s.now →
    s.pwr = 5 → Answers (.serviceOnlyTimeout) s (fun t => t.pwr = 2 ∧ t.get F.PMU_STATE_PHASE = 2 ∧ t.pmu.deepReq = true ∧
    t.cfg.dust = [])) ∧
  (∀ (s : State) (verdict h len load e : Nat) (body : List Byte) (addrs rest : List Nat) (vals : List Word), s.boot.step = 10
    → s.boot.kind ≠ 3 → s.boot.parts = 0x21 :: rest → s.partHead s.boot.gen 0x21 = some (h, len, load, e) → s.partJudge
    s.boot.gen 0x21 0x11 verdict = (0, body) → Answers (.partCheckEnd 0x21 verdict addrs vals) s (fun t => t.rdBytes load
    body.length = body))

/-- R126, R128: the records of the register block, each followed by another record. The registers written are those of the
check-value units, which have no behaviour of their own. -/
def Obligations.RegisterRecordsComplete : Prop :=
  (∀ (s : State) (js : List RecJob) (j : RecJob) (w v x : Word) (more : List Word) (r : Reg) (i k n : Nat), s.boot.jobs = j ::
    js → j.wait = none → j.words = w :: v :: x :: more → bitsOf w 1 0 = 0 → (j.part = none → s.boot.domAt + 200 * usUnits ≤
    s.now) → s.domOn domFAB = true → recAddr [w] = n → regAt n = some (r, i, k, 0) → r.block = 11 → r.writable = true → pageOf
    n = none → inBlocks n = true → Answers (.writeRecord) s (fun t => t.word r i k 0 = s.written r i k 0 v ∧ t.boot.jobs =
    { j with words := x :: more } :: js ∧ (j.part = none → t.oneMore s F.SYS_REGBLK_APPLIED))) ∧
  (∀ (s : State) (js : List RecJob) (j : RecJob) (w c v v2 x : Word) (more : List Word) (r r2 : Reg) (i k i2 k2 n : Nat),
    s.boot.jobs = j :: js → j.wait = none → j.words = w :: c :: v :: v2 :: x :: more → bitsOf w 1 0 = 1 → c = 2#32 → (j.part =
    none → s.boot.domAt + 200 * usUnits ≤ s.now) → s.domOn domFAB = true → recAddr [w] = n → regAt n = some (r, i, k, 0) →
    regAt (n + 4) = some (r2, i2, k2, 0) → r.block = 11 → r2.block = 11 → r.writable = true → r2.writable = true → inBlocks n
    = true → inBlocks (n + 4) = true → Answers (.burstRecord) s (fun t => t.word r i k 0 = s.written r i k 0 v ∧ t.word r2 i2
    k2 0 = s.written r2 i2 k2 0 v2 ∧ t.boot.jobs = { j with words := x :: more } :: js ∧ (j.part = none → t.oneMore s
    F.SYS_REGBLK_APPLIED))) ∧
  (∀ (s : State) (js : List RecJob) (j : RecJob) (w m v x : Word) (more : List Word) (r : Reg) (i k n : Nat), s.boot.jobs = j
    :: js → j.wait = none → j.words = w :: m :: v :: x :: more → bitsOf w 1 0 = 2 → (j.part = none → s.boot.domAt + 200 *
    usUnits ≤ s.now) → s.domOn domFAB = true → recAddr [w] = n → regAt n = some (r, i, k, 0) → r.block = 11 → r.writable =
    true → inBlocks n = true → Answers (.maskedWriteRecord) s (fun t => t.word r i k 0 = s.written r i k 0 ((s.readWord .boot
    r i k 0 &&& ~~~ m) ||| (v &&& m)) ∧ t.boot.jobs = { j with words := x :: more } :: js)) ∧
  (∀ (s : State) (js : List RecJob) (j : RecJob) (w m v u x : Word) (more : List Word) (n : Nat), s.boot.jobs = j :: js →
    j.wait = none → j.words = w :: m :: v :: u :: x :: more → bitsOf w 1 0 = 3 → (j.part = none → s.boot.domAt + 200 * usUnits
    ≤ s.now) → recAddr [w] = n → s.recOk n = true → 1 ≤ u.toNat → u.toNat ≤ 10000 → s.recRead n &&& m ≠ v → Answers
    (.waitRecord) s (fun t => t.boot.jobs = { j with wait := some (n, m, v, s.now + u.toNat * usUnits) } :: js)) ∧
  (∀ (s : State) (js : List RecJob) (j : RecJob) (w m v u x m2 v2 : Word) (more : List Word) (n dl : Nat), s.boot.jobs = j ::
    js → j.words = w :: m :: v :: u :: x :: more → bitsOf w 1 0 = 3 → j.wait = some (n, m2, v2, dl) → s.recRead n &&& m2 = v2
    → Answers (.waitRecordSatisfied) s (fun t => t.boot.jobs = { j with words := x :: more, wait := none } :: js ∧ (j.part =
    none → t.oneMore s F.SYS_REGBLK_APPLIED))) ∧
  (∀ (s : State) (js : List RecJob) (j : RecJob) (w m v u x m2 v2 : Word) (more : List Word) (n dl : Nat), s.boot.jobs = j ::
    js → j.words = w :: m :: v :: u :: x :: more → bitsOf w 1 0 = 3 → j.wait = some (n, m2, v2, dl) → dl ≤ s.now → Answers
    (.waitRecordTimeout) s (fun t => t.boot.jobs = { j with words := x :: more, wait := none } :: js ∧ t.oneMore s
    F.SYS_REGBLK_FAILED ∧ t.get F.SYS_REGLAST_LAST = w.toNat / 4))

/-- R100, R537 to R539, R528: what the acknowledgements of the companion regulator and the PGOOD inputs lead to. -/
def Obligations.RailLinkCompletes : Prop :=
  (∀ (s : State) (i : Bool) (k f r : Nat) (rs : List Nat), s.boot.pgWait = some (k, f) → (k = 1 ↔ i = true) → s.boot.rails = r
    :: rs → Answers (.pgoodRise i) s (fun t => t.get (if i then F.PMU_SUPPLY_PGI else F.PMU_SUPPLY_PGC) = 1 ∧ t.boot.rails =
    rs ∧ t.boot.pgWait = none ∧ (t.pmu.rail.map (fun q => (q.rail, q.level))) = some (r, 32))) ∧
  (∀ (s : State) (i : Bool) (k f : Nat) (q : RailReq), s.boot.pgWait = some (k, f) → (k = 1 ↔ i = true) → f + 2 * msUnits ≤
    s.now → s.pmu.rail = some q → q.tries < 3 → Answers (.pgoodTimeout i) s (fun t => t.pmu.rail = some
    { q with status := 3, retryAt := some (s.now + 100 * usUnits) } ∧ t.boot.pgWait = none)) ∧
  (∀ (s : State) (b r : Nat) (rs : List Nat) (q : RailReq), b < 256 → s.pmu.rail = some q → q.retryAt = none → s.boot.pgWait =
    none → q.sentAt ≤ s.now → s.now ≤ q.sentAt + 2 * msUnits → countBits 8 b % 2 = 1 → b / 64 = 1 → q.rail = 1 → bit b 5 =
    s.pmu.railSeq → b / 8 % 4 = 0 → q.level ≠ 0 → s.boot.rails = r :: rs → Answers (.railAcknowledgement b) s (fun t =>
    t.boot.rails = rs ∧ (t.pmu.rail.map (fun q => (q.rail, q.level))) = some (r, 32) ∧ t.pmu.railSeq = !s.pmu.railSeq)) ∧
  (∀ (s : State) (b : Nat) (q : RailReq), b < 256 → s.pmu.rail = some q → q.retryAt = none → s.boot.pgWait = none → q.sentAt ≤
    s.now → s.now ≤ q.sentAt + 2 * msUnits → countBits 8 b % 2 = 1 → b / 64 = q.rail → bit b 5 = s.pmu.railSeq → b / 8 % 4 = 0
    → q.level = 0 → s.pwr = 2 → s.pmu.deepReq = false → Answers (.railAcknowledgement b) s (fun t => t.pwr = 3 ∧ t.pmu.rail =
    none ∧ t.runningParts = [] ∧ t.oneMore s F.PMU_PARKSTAT_PARKS)) ∧
  (∀ (s : State) (q : RailReq), s.pmu.rail = some q → q.retryAt = none → s.boot.pgWait = none → q.sentAt + 2 * msUnits ≤ s.now
    → q.tries < 3 → Answers (.railAckTimeout) s (fun t => t.pmu.rail = some
    { q with status := 3, retryAt := some (s.now + 100 * usUnits) })) ∧
  (∀ (s : State) (q : RailReq) (f : Nat), s.pmu.rail = some q → q.retryAt = some f → f ≤ s.now → Answers (.railFrameRetry) s
    (fun t => t.pmu.rail = some { q with tries := q.tries + 1, sentAt := s.now + 24 * usUnits, retryAt := none } ∧ t.oneMore s
    F.PMU_RAIL_RETRIES)) ∧
  (∀ (s : State) (f : Nat), s.pmu.againAt = some f → f ≤ s.now → s.pwr = 5 → Answers (.railFaultRetry) s (fun t =>
    t.pmu.againAt = none ∧ t.boot.step = 1 ∧ (t.pmu.rail.map (fun q => (q.rail, q.level))) = some (0, 32)))

/-- R148, R151, R157 to R168: what each message, offset, tick and register write of the timebase leaves. A rate r is in units
of 2⁻⁵⁶, an offset in units of 2⁻¹⁶ ns. -/
def Obligations.ScalesAndServoComplete : Prop :=
  (∀ (s : State) (v : Nat), s.domOn domTIM = true → Answers (.legalTimeMessage v) s (fun t => t.tim.t3 = v ∧ t.tim.t3At =
    s.now ∧ t.tim.t3From = s.applyTick ∧ t.get F.TIM_STAT_V3 = 1 ∧ t.get F.TIM_STAT_V1 = s.get F.TIM_STAT_V1)) ∧
  (∀ (s : State), s.get F.TIM_STAT_V3 = 1 → s.tim.t3At + 3 * secUnits ≤ s.now → Answers (.t3Timeout) s (fun t => t.get
    F.TIM_STAT_V3 = 0 ∧ t.tim = s.tim)) ∧
  (∀ (s : State) (d : Nat), d < 10 → s.domOn (decDom d) = true → Answers (.decoderCalibrationEnd d) s (fun t => bit (t.get
    F.TIM_CALSTAT_DEC) d = true ∧ (List.range 10).all (fun k => k == d || bit (t.get F.TIM_CALSTAT_DEC) k == bit (s.get
    F.TIM_CALSTAT_DEC) k) = true)) ∧
  (∀ (s : State) (d : Nat), d < 10 → s.domOn (decDom d) = true → bit (s.get F.TIM_CALSTAT_DEC) d = true → Answers
    (.backgroundRecalibration d) s (fun t => t.word .TIM_CALSTAT 0 0 0 = s.word .TIM_CALSTAT 0 0 0)) ∧
  (∀ (s : State) (n : Nat) (e : Int), n = 1 ∨ n = 2 → srcOf n (s.get F.TIM_SCTL_SRC n) ≠ 0 → s.domOn domTIM = true → s.get
    F.TIM_SSTAT_STATE n = 2 → ((s.scale n).lastAcc).all (fun u => decide (u + 15625 * usUnits ≤ s.now)) = true → e.natAbs ≤
    s.stepThr n → Answers (.servoOffset n e) s (fun t => (t.scale n).lastAcc = some s.now ∧ (t.scale n).integ = clampInt
    (-s.rmax n) (s.rmax n) ((s.scale n).integ + Int.ofNat (s.get F.TIM_SGAIN_KI n) * e) ∧ (t.scale n).rateAt = (s.scale
    n).rateAt ++ [(s.applyTick, clampInt (-s.rmax n) (s.rmax n) (Int.ofNat (s.get F.TIM_SGAIN_KP n) * e + (t.scale n).integ))]
    ∧ t.get F.TIM_SSTAT_STATE n = 2)) ∧
  (∀ (s : State) (n : Nat) (e : Int), n = 1 ∨ n = 2 → srcOf n (s.get F.TIM_SCTL_SRC n) ≠ 0 → s.domOn domTIM = true → s.get
    F.TIM_SSTAT_STATE n = 1 → ((s.scale n).lastAcc).all (fun u => decide (u + 15625 * usUnits ≤ s.now)) = true → Answers
    (.servoOffset n e) s (fun t => (t.scale n).lastAcc = some s.now ∧ (t.scale n).stepAt = (s.scale n).stepAt ++
    [(s.applyTick, e)] ∧ t.get F.TIM_SSTAT_STATE n = 2)) ∧
  (∀ (s : State) (n u : Nat) (e : Int) (rest : List (Nat × Int)), n = 1 ∨ n = 2 → (s.scale n).stepAt = (u, e) :: rest → u ≤
    s.now → Answers (.scaleStep n) s (fun t => (t.scale n).base = s.scaleFine n u + e * 2 ^ 56 ∧ (t.scale n).at_ = u ∧
    (t.scale n).integ = 0 ∧ (t.scale n).stepAt = rest ∧ t.scaleValid n = true ∧ t.oneMore s F.TIM_SCNT_STEPS n)) ∧
  (∀ (s : State) (n u : Nat) (r : Int) (rest : List (Nat × Int)), n = 1 ∨ n = 2 → (s.scale n).rateAt = (u, r) :: rest → u ≤
    s.now → Answers (.rateUpdate n) s (fun t => (t.scale n).base = s.scaleFine n u ∧ (t.scale n).at_ = u ∧ (t.scale n).rate =
    r ∧ (t.scale n).rateAt = rest ∧ t.get F.TIM_SRATE_RATE n = codeOf 32 (r / 2 ^ 16))) ∧
  (∀ (s : State) (n : Nat), n = 1 ∨ n = 2 → s.get F.TIM_SSTAT_STATE n = 2 → max (s.scale n).waitFrom ((s.scale n).lastAcc.getD
    0) + 4 * s.expected n ≤ s.now → Answers (.holdoverEntry n) s (fun t => t.get F.TIM_SSTAT_STATE n = 3 ∧ t.oneMore s
    F.TIM_SSTAT_HOLDS n ∧ t.scale n = s.scale n)) ∧
  (∀ (s : State) (init : Init) (n : Nat), n = 1 ∨ n = 2 → s.domOn domFAB = true → s.blockOn 0 = true → s.mayWrite init
    .TIM_SCTL n = true → s.smode n = 0 → (s.get F.TIM_SCTL_SRC n ≠ 0 → srcOf n (s.get F.TIM_SCTL_SRC n) ≠ 0) → Answers
    (.modeServo init n) s (fun t => t.get F.TIM_SCTL_MODE n = 1 ∧ t.get F.TIM_SSTAT_STATE n = 1 ∧ t.get F.TIM_SRATE_RATE n = 0
    ∧ (t.scale n).rateAt = (s.scale n).rateAt ++ [(s.applyTick, 0)] ∧ t.get F.TIM_SCTL_SRC n = s.get F.TIM_SCTL_SRC n)) ∧
  (∀ (s : State) (init : Init) (n : Nat), n = 1 ∨ n = 2 → s.domOn domFAB = true → s.blockOn 0 = true → s.mayWrite init
    .TIM_SCTL n = true → s.smode n ≠ 2 → (s.get F.TIM_SCTL_SRC n ≠ 0 → srcOf n (s.get F.TIM_SCTL_SRC n) ≠ 0) → Answers
    (.modeIncrement init n) s (fun t => t.get F.TIM_SCTL_MODE n = 2 ∧ t.get F.TIM_SSTAT_STATE n = 4 ∧ (t.scale n).integ = 0 ∧
    (t.scale n).rateAt = (s.scale n).rateAt ++ [(s.applyTick, s.incrRate n)] ∧ t.get F.TIM_SCTL_SRC n = s.get F.TIM_SCTL_SRC
    n)) ∧
  (∀ (s : State) (init : Init) (n : Nat), n = 1 ∨ n = 2 → s.domOn domFAB = true → s.blockOn 0 = true → s.mayWrite init
    .TIM_SCTL n = true → s.smode n ≠ 0 → (s.get F.TIM_SCTL_SRC n ≠ 0 → srcOf n (s.get F.TIM_SCTL_SRC n) ≠ 0) → Answers
    (.modeOff init n) s (fun t => t.get F.TIM_SCTL_MODE n = 0 ∧ t.get F.TIM_SSTAT_STATE n = 0 ∧ t.get F.TIM_SRATE_RATE n = 0 ∧
    (t.scale n).rateAt = (s.scale n).rateAt ++ [(s.applyTick, 0)] ∧ t.get F.TIM_SCTL_SRC n = s.get F.TIM_SCTL_SRC n)) ∧
  (∀ (s : State) (init : Init) (n : Nat) (e : Int), n = 1 ∨ n = 2 → s.domOn domFAB = true → s.blockOn 0 = true → s.mayWrite
    init .TIM_SOFFS n = true → s.get F.TIM_SSTAT_STATE n ≠ 1 → s.get F.TIM_SSTAT_STATE n ≠ 2 → s.get F.TIM_SSTAT_STATE n ≠ 3 →
    0 ≤ s.scaleAt n s.applyTick + (s.scale n).stepAt.foldl (fun t p => t + p.2) 0 + e → Answers (.offsetWrite init n e) s (fun
    t => (t.scale n).stepAt = (s.scale n).stepAt ++ [(s.applyTick, e)] ∧ t.word .TIM_SCNT n 0 0 = s.word .TIM_SCNT n 0 0)) ∧
  (∀ (s : State) (init : Init) (n : Nat) (e : Int), n = 1 ∨ n = 2 → s.domOn domFAB = true → s.blockOn 0 = true → s.mayWrite
    init .TIM_SFEED n = true → s.get F.TIM_SCTL_SRC n = 4 → s.get F.TIM_SSTAT_STATE n = 1 → ((s.scale n).lastAcc).all (fun u
    => decide (u + 15625 * usUnits ≤ s.now)) = true → Answers (.feedWrite init n e) s (fun t => (t.scale n).lastAcc = some
    s.now ∧ (t.scale n).stepAt = (s.scale n).stepAt ++ [(s.applyTick, e)] ∧ t.get F.TIM_SSTAT_STATE n = 2)) ∧
  (∀ (s : State) (n : Nat) (rise : Bool) (d : Int), n = 1 ∨ n = 2 → s.get F.TIM_SCTL_SRC n = 3 → leadingEdge (s.get
    F.TIM_TCICTL_EDGE (s.get F.TIM_SCTL_TCI n)) rise = true → s.domOn domTIM = true → (s.scale n).pulse.all (fun u => decide
    (u + 999900 * usUnits ≤ s.now) && decide (s.now ≤ u + 1000100 * usUnits)) = true → ((s.scale n).lastAcc).all (fun u =>
    decide (u + 15625 * usUnits ≤ s.now)) = true → s.get F.TIM_SSTAT_STATE n = 1 → s.scaleAt n s.now - signedOf 32 (s.get
    F.TIM_SPPS_DELAY n) * 4096 = d → Answers (.gnssPulse n rise) s (fun t => (t.scale n).pulse = some s.now ∧ (t.scale
    n).stepAt = (s.scale n).stepAt ++ [(s.applyTick, (2 * d + Int.ofNat secFine) / (2 * Int.ofNat secFine) * Int.ofNat secFine
    - d)] ∧ t.get F.TIM_SSTAT_STATE n = 2)) ∧
  (∀ (s : State) (init : Init) (n v : Nat), n = 1 ∨ n = 2 → s.domOn domFAB = true → s.blockOn 0 = true → s.mayWrite init
    .TIM_INCR n = true → incrLow ≤ v → v ≤ incrHigh → Answers (.incrementWrite init n v) s (fun t => t.word .TIM_INCR n 0 0 =
    BitVec.ofNat 32 v ∧ t.word .TIM_SCNT n 0 0 = s.word .TIM_SCNT n 0 0 ∧ (s.get F.TIM_SSTAT_STATE n = 4 → (t.scale n).rateAt
    = (s.scale n).rateAt ++ [(s.applyTick, t.incrRate n)])))

/-- R169 to R178, R181, R182: the shadow timebase, the time pulse outputs and the capture inputs. -/
def Obligations.ShadowAndTimePinsComplete : Prop :=
  (∀ (s : State) (lossP lossS tickP tickS : Bool), s.get F.TIM_STAT_NOSHADOW = 0 → s.tim.switchAt = none → (if lossP = true ∨
    lossS = true then lossP = true ∧ lossS = false else tickP = true ∧ tickS = false) → Answers (.shadowMismatch lossP lossS
    tickP tickS) s (fun t => t.tim.switchAt = some s.now ∧ t.get F.TIM_SHCTL_CAUSE = (if lossP then 2 else 1) ∧ t.get
    F.TIM_STAT_ALIGNED = 0)) ∧
  (∀ (s : State) (lossP lossS tickP tickS : Bool), s.get F.TIM_STAT_NOSHADOW = 0 → s.tim.switchAt = none → (if lossP = true ∨
    lossS = true then lossS = true else tickP = false ∨ tickS = true) → Answers (.shadowMismatch lossP lossS tickP tickS) s
    (fun t => t.tim.switchAt = none ∧ t.get F.TIM_SHCTL_CAUSE = (if lossP then 2 else if lossS then 3 else 1) ∧ t.get
    F.TIM_STAT_NOSHADOW = 1)) ∧
  (∀ (s : State) (u : Nat), s.tim.switchAt = some u → Answers (.switchOverComplete) s (fun t => t.tim.switchAt = none ∧
    t.tim.testAt = some (s.now + secUnits) ∧ t.get F.TIM_STAT_SWITCHED = 1 ∧ t.get F.TIM_STAT_NOSHADOW = 1 ∧ t.get
    F.TIM_STAT_ONSHADOW = 1 - s.get F.TIM_STAT_ONSHADOW ∧ t.oneMore s F.TIM_SHCTL_SWITCHES)) ∧
  (∀ (s : State) (pass : Bool) (u : Nat), s.tim.testAt = some u → u ≤ s.now → Answers (.shadowSelfTest pass) s (fun t =>
    t.tim.testAt = none ∧ t.get F.TIM_STAT_NOSHADOW = (if pass then 0 else s.get F.TIM_STAT_NOSHADOW))) ∧
  (∀ (s : State) (init : Init), s.domOn domFAB = true → s.blockOn 0 = true → s.mayWrite init .TIM_SHCTL 0 = true → s.get
    F.TIM_STAT_NOSHADOW = 0 → s.tim.swapAt = none → Answers (.plannedSwap init) s (fun t => t.tim.swapAt = some s.applyTick ∧
    t.regs = s.regs)) ∧
  (∀ (s : State) (u : Nat), s.tim.swapAt = some u → u ≤ s.now → Answers (.plannedSwapApply) s (fun t => t.tim.swapAt = none ∧
    t.get F.TIM_STAT_ONSHADOW = 1 - s.get F.TIM_STAT_ONSHADOW ∧ t.get F.TIM_SHCTL_CAUSE = 4 ∧ t.oneMore s F.TIM_SHCTL_SWITCHES
    ∧ t.get F.TIM_STAT_NOSHADOW = s.get F.TIM_STAT_NOSHADOW)) ∧
  (∀ (s : State) (init : Init) (n : Nat), n < 16 → s.domOn domFAB = true → s.blockOn 0 = true → s.mayWrite init .TIM_TPOCTL n
    = true → s.get F.TIM_TPOCTL_EN n = 0 → s.get F.TIM_TPOCTL_SRC n = 0 → s.scaleValid (s.get F.TIM_TPOCTL_SCALE n) = true →
    320 ≤ s.get F.TIM_TPOWID_WIDTH n → s.get F.TIM_TPOWID_WIDTH n ≤ 268000000 * 16 → s.get F.TIM_TPOCTL_MODE n = 0 ∨ (3200 ≤
    s.tpoPer n ∧ s.tpoPer n ≤ 3600000000000 * 16 ∧ s.get F.TIM_TPOWID_WIDTH n + 320 ≤ s.tpoPer n) → s.tpoFirst n (s.now +
    usUnits) = 0 → Answers (.tpoArm init n) s (fun t => t.get F.TIM_TPOCTL_EN n = 1 ∧ t.tpo n = TpoSt.idle ∧ t.get
    F.TIM_TPOSTAT_DONE n = 0 ∧ t.get F.TIM_TPOSTAT_MADE n = 0 ∧ t.get F.TIM_TPOSTAT_PAST n = s.get F.TIM_TPOSTAT_PAST n)) ∧
  (∀ (s : State) (init : Init) (n : Nat), n < 16 → s.domOn domFAB = true → s.blockOn 0 = true → s.mayWrite init .TIM_TPOCTL n
    = true → s.get F.TIM_TPOCTL_EN n = 1 → Answers (.tpoDisarm init n) s (fun t => t.get F.TIM_TPOCTL_EN n = 0 ∧ (t.tpo
    n).trail = none ∧ t.get F.TIM_TPOCTL_SCALE n = s.get F.TIM_TPOCTL_SCALE n)) ∧
  (∀ (s : State) (n u : Nat), n < 16 → s.get F.TIM_TPOCTL_EN n = 1 → s.get F.TIM_TPOCTL_SRC n = 0 → s.get F.TIM_TPOSTAT_DONE n
    = 0 → (s.tpo n).late = false → s.t0Of (s.get F.TIM_TPOCTL_SCALE n) (s.tpoInstant n (s.tpo n).k) = some u → u ≤ s.now →
    s.tim.switchAt = none → (s.chan (384 + n)).window = none → Answers (.tpoLeadingEdge n) s (fun t => (t.tpo n).k = (s.tpo
    n).k + 1 ∧ (t.tpo n).cnt = (s.tpo n).cnt + 1 ∧ (t.tpo n).trail = some (u + s.get F.TIM_TPOWID_WIDTH n) ∧ (t.tpo n).late =
    false ∧ t.get F.TIM_TPOSTAT_ACTIVE n = 1 ∧ t.oneMore s F.TIM_TPOSTAT_MADE n)) ∧
  (∀ (s : State) (n u : Nat), n < 16 → (s.tpo n).trail = some u → u ≤ s.now → s.tim.switchAt = none → (s.chan (384 +
    n)).window = none → Answers (.tpoTrailingEdge n) s (fun t => (t.tpo n).trail = none ∧ t.get F.TIM_TPOSTAT_ACTIVE n = 0)) ∧
  (∀ (s : State) (i : Nat) (rise : Bool), i < 8 → s.domOn domTIM = true → (s.tci i).last.all (fun u => decide (u + 160 ≤
    s.now)) = true → s.get F.TIM_TCICTL_EDGE i = 3 ∨ s.get F.TIM_TCICTL_EDGE i = (if rise then 1 else 2) → Answers (.tciEdge i
    rise) s (fun t => t.oneMore s F.TIM_TCICNT_EDGES i ∧ (t.tci i).last = some s.now ∧ (t.tci i).unread = true ∧ (s.locked
    .TIM_TCICAP i 0 = false → s.scaleValid (s.get F.TIM_TCICTL_SCALE i) = true → t.word .TIM_TCICAP i 0 0 = BitVec.ofNat 32
    ((s.scaleAt (s.get F.TIM_TCICTL_SCALE i) s.now).toNat / secFine) ∧ t.get F.TIM_TCICAP_RISE i = (if rise then 1 else 0))))

/-- R83 to R85: what each instruction and each core-debug action of the port leaves. The port's data register holds what the
instruction returns. -/
def Obligations.DebugPortCompletes : Prop :=
  (∀ (s : State), s.domOn domFAB = true → Answers (.jtagBypass) s (fun t => t =
    { s with jtag := { s.jtag with ir := 0, dr := 0 } })) ∧
  (∀ (s : State), s.domOn domFAB = true → Answers (.jtagIdcode) s (fun t => t.jtag.ir = 1 ∧ t.jtag.dr % 2 = 1 ∧ t.jtag.dr / 2
    ^ 12 % 2 ^ 16 = 0x8400 ∧ { t with jtag := s.jtag } = s)) ∧
  (∀ (s : State) (pins preload : List Nat), s.jtag.mode = 2 → s.domOn domFAB = true → Answers (.samplePreload pins preload) s
    (fun t => t.jtag.ir = 2 ∧ t.jtag.cells = boundaryLoad preload ∧ t.jtag.dr = boundarySample pins ∧
    { t with jtag := s.jtag } = s)) ∧
  (∀ (s : State), s.jtag.mode = 2 → s.serviceOnly = true → s.domOn domFAB = true → Answers (.extest) s (fun t => t.jtag.ir = 3
    ∧ t.jtag.cells = s.jtag.cells ∧ { t with jtag := s.jtag } = s)) ∧
  (∀ (s : State), ¬(s.jtag.mode = 2 ∧ s.serviceOnly = true) → s.domOn domFAB = true → Answers (.extest) s (fun t => t =
    { s with jtag := { s.jtag with ir := 0, dr := 0 } })) ∧
  (∀ (s : State) (c : Nat), s.debugOn c = true → (List.range 5).all (fun k => !(s.core k).halted) = true → Answers (.coreHalt
    c) s (fun t => t = s.setCore c { s.core c with halted := true })) ∧
  (∀ (s : State) (c : Nat), s.debugHalted c = true → Answers (.coreStep c) s (fun t => (((s.setHalted c false).runWord c
    (s.rd32 (physAt c (s.pc c).toNat))).core c).run ≠ .stopped → t = ((s.setHalted c false).runWord c (s.rd32 (physAt c (s.pc
    c).toNat))).setHalted c true)) ∧
  (∀ (s : State) (c : Nat), s.debugHalted c = true → Answers (.coreResume c) s (fun t => t = s.setCore c
    { s.core c with halted := false })) ∧
  (∀ (s : State) (c k : Nat), s.debugHalted c = true → k < 32 → Answers (.debugRegisterRead c k) s (fun t => t =
    { s with jtag := { s.jtag with dr := (s.g c k).toNat } })) ∧
  (∀ (s : State) (c k : Nat), s.debugHalted c = true → 32 ≤ k → Answers (.debugRegisterRead c k) s (fun t => t =
    { s with jtag := { s.jtag with dr := (s.cpuRead c (k - 32)).2.toNat } })) ∧
  (∀ (s : State) (c k v : Nat), s.debugHalted c = true → k < 32 → Answers (.debugRegisterWrite c k v) s (fun t => t = s.setG c
    k (BitVec.ofNat 32 v))) ∧
  (∀ (s : State) (c k v : Nat), s.debugHalted c = true → 32 ≤ k → Answers (.debugRegisterWrite c k v) s (fun t => t =
    s.cpuWrite c (k - 32) (BitVec.ofNat 32 v))) ∧
  (∀ (s : State) (c a : Nat), s.debugHalted c = true → a % 4 = 0 → isRam c a = true → s.wordBad (physAt c a) = false → Answers
    (.debugLoad c a 4) s (fun t => t = { s with jtag := { s.jtag with dr := (s.rd32 (physAt c a)).toNat } })) ∧
  (∀ (s : State) (c a v : Nat), s.debugHalted c = true → a % 4 = 0 → inLocal c a = true → s.wordBad (physAt c a) = false →
    Answers (.debugStore c a 4 v) s (fun t => t = s.wr32 (physAt c a) (BitVec.ofNat 32 v)))

/-- R205, R207, R208, R212, R213, R228: the forwarding table, the gate lists and the rings of the fabric ports. A command on
the bucket of an address learnt in the same cycle drops what was learnt. Where a transmit ring runs, a new TAIL has the
descriptors from HEAD on processed; one of a frame too short or too long is returned with RES 2. -/
def Obligations.SwitchTablesAndRingsComplete : Prop :=
  (∀ (s : State) (init : Init) (k : Nat), s.domOn domFAB = true → s.blockOn 1 = true → s.mayWrite init .ESW_FDBCMD 0 = true →
    s.eth.learnt.all (fun x => x.at_ != s.now) = true → k < 8192 → Answers (.fdbReadIndex init k) s (fun t => t.get
    F.ESW_FDBCMD_INDEX = k ∧ t.get F.ESW_FDBDATA_VALID = (if (s.fdbAt k).isSome then 1 else 0) ∧ (s.fdbAt k).all (fun e =>
    !(decide (e.vid < 4096) && decide (e.mac < 2 ^ 48)) || t.fdbKey == (e.vid, e.mac)) = true ∧ t.eth.fdb = s.eth.fdb ∧
    t.eth.ports = s.eth.ports)) ∧
  (∀ (s : State) (init : Init) (vid mac k : Nat), s.domOn domFAB = true → s.blockOn 1 = true → s.mayWrite init .ESW_FDBCMD 0 =
    true → s.eth.learnt.all (fun x => x.at_ != s.now) = true → s.fdbKey = (vid, mac) → s.fdbFind vid mac = some k ∨ (s.fdbFind
    vid mac = none ∧ s.fdbFree vid mac = some k) → s.get F.ESW_FDBDATA_VALID = 1 → Answers (.fdbWriteByKey init) s (fun t =>
    t.fdbAt k = some ⟨mac, vid, s.on F.ESW_FDBDATA_STATIC, s.get F.ESW_FDBDATA_PORTS, s.now⟩ ∧ t.get F.ESW_FDBCMD_INDEX = k %
    8192 ∧ t.get F.ESW_FDBCMD_FULL = 0)) ∧
  (∀ (s : State) (init : Init) (vid mac k : Nat) (e : FdbEnt), s.domOn domFAB = true → s.blockOn 1 = true → s.mayWrite init
    .ESW_FDBCMD 0 = true → s.eth.learnt.all (fun x => x.at_ != s.now) = true → s.fdbKey = (vid, mac) → s.fdbFind vid mac =
    some k → s.fdbAt k = some e → Answers (.fdbLookUpKey init) s (fun t => t.get F.ESW_FDBCMD_HIT = 1 ∧ t.get
    F.ESW_FDBCMD_INDEX = k % 8192 ∧ t.get F.ESW_FDBDATA_PORTS = e.ports % 2 ^ 15 ∧ t.get F.ESW_FDBDATA_VALID = 1 ∧ t.eth.fdb =
    s.eth.fdb ∧ t.eth.ports = s.eth.ports)) ∧
  (∀ (s : State) (init : Init) (vid mac : Nat), s.domOn domFAB = true → s.blockOn 1 = true → s.mayWrite init .ESW_FDBCMD 0 =
    true → s.eth.learnt.all (fun x => x.at_ != s.now) = true → s.fdbKey = (vid, mac) → s.fdbFind vid mac = none → Answers
    (.fdbLookUpKey init) s (fun t => t.get F.ESW_FDBCMD_HIT = 0 ∧ t.eth.fdb = s.eth.fdb ∧ t.eth.ports = s.eth.ports ∧ t.fdbKey
    = s.fdbKey)) ∧
  (∀ (s : State) (init : Init) (vid mac k : Nat), s.domOn domFAB = true → s.blockOn 1 = true → s.mayWrite init .ESW_FDBCMD 0 =
    true → s.eth.learnt.all (fun x => x.at_ != s.now) = true → s.fdbKey = (vid, mac) → s.fdbFind vid mac = some k →
    Sparse.sorted s.eth.fdb = true → Answers (.fdbDeleteByKey init) s (fun t => t.fdbAt k = none ∧ t.get F.ESW_FDBCMD_HIT =
    1)) ∧
  (∀ (s : State) (init : Init), s.domOn domFAB = true → s.blockOn 1 = true → s.mayWrite init .ESW_AGE 0 = true → Answers
    (.fdbFlush init) s (fun t => t.eth.fdb = s.eth.fdb.filter (fun e => e.2.static) ∧ t.regs = s.regs)) ∧
  (∀ (s : State) (k : Nat) (e : FdbEnt), s.fdbAt k = some e → e.static = false → e.seen + max 1 (s.get F.ESW_AGE_AGETIME) *
    secUnits ≤ s.now → Sparse.sorted s.eth.fdb = true → Answers (.entryAgeing k) s (fun t => t.fdbAt k = none ∧ t.regs =
    s.regs)) ∧
  (∀ (s : State) (init : Init) (p : Nat), p < 11 → s.domOn domFAB = true → s.blockOn 1 = true → s.mayWrite init .ESW_PTASCTL p
    = true → s.get F.ESW_PTASCTL_CHANGE p = 0 → Answers (.gateListChange init p) s (fun t => t.get F.ESW_PTASCTL_CHANGE p = 1
    ∧ (t.eport p).changeAt = some s.applyTick ∧ (t.eport p).run = (s.eport p).run)) ∧
  (∀ (s : State) (p : Nat) (u : Int), p < 11 → s.get F.ESW_PTASCTL_CHANGE p = 1 → s.gateSwitchAt p = some u → u ≤ s.scaleAt 1
    s.now → Answers (.gateListSwitch p) s (fun t => t.get F.ESW_PTASCTL_OPBANK p = 1 - s.get F.ESW_PTASCTL_OPBANK p ∧ t.get
    F.ESW_PTASCTL_CHANGE p = 0 ∧ (t.eport p).changeAt = none ∧ (t.eport p).run.idx = some 0 ∧ (t.eport p).run.gates =
    (t.gateEnt p 0).1)) ∧
  (∀ (s : State) (p e : Nat), p < 11 → s.get F.ESW_PTASCTL_EN p = 1 → (s.eport p).run.len ≠ 0 → s.scaleValid 1 = true →
    (s.eport p).run.until_ ≤ s.scaleAt 1 s.now → (s.eport p).run.idx = some e → Answers (.gateEntryEnd p) s (fun t => (if
    (s.eport p).run.until_ < (s.eport p).run.cycEnd then (t.eport p).run.idx = some (e + 1) ∧ (t.eport p).run.cycEnd =
    (s.eport p).run.cycEnd else (t.eport p).run.idx = some 0 ∧ (t.eport p).run.cycEnd = (s.eport p).run.cycEnd + (s.eport
    p).run.cycle) ∧ t.regs = s.regs)) ∧
  (∀ (s : State) (init : Init) (p v : Nat), p < 4 → s.domOn domFAB = true → s.blockOn 1 = true → s.mayWrite init .ESW_FPRXTAIL
    p = true → Answers (.rxTailAdvance init p v) s (fun t => t.get F.ESW_FPRXTAIL_TAIL p = v % 1024 ∧
    { t with regs := s.regs } = s)) ∧
  (∀ (s : State) (init : Init) (p v : Nat), p < 4 → s.domOn domFAB = true → s.blockOn 1 = true → s.mayWrite init .ESW_FPTXTAIL
    p = true → s.get F.ESW_FPTXHEAD_HEAD p = v % 1024 ∨ s.ringRuns p false = false → Answers (.txTailAdvance init p v) s (fun
    t => t.get F.ESW_FPTXTAIL_TAIL p = v % 1024 ∧ t.get F.ESW_FPTXHEAD_HEAD p = s.get F.ESW_FPTXHEAD_HEAD p ∧
    { t with regs := s.regs } = s)) ∧
  (∀ (s : State) (init : Init) (p a : Nat) (rx : Bool), p < 4 → s.domOn domFAB = true → s.blockOn 1 = true → s.mayWrite init
    (if rx then .ESW_FPRXBASE else .ESW_FPTXBASE) p = true → (s.partRange p).1 ≤ a → a < (s.partRange p).2 → a < 2 ^ 32 →
    Answers (.ringBaseWrite init p rx a) s (fun t => t.get (if rx then F.ESW_FPRXBASE_BASE else F.ESW_FPTXBASE_BASE) p = a /
    32 ∧ t.eth.stopped.contains (2 * p + if rx then 1 else 0) = false)) ∧
  (∀ (s : State) (init : Init) (p a : Nat) (rx : Bool), p < 4 → s.domOn domFAB = true → s.blockOn 1 = true → s.mayWrite init
    (if rx then .ESW_FPRXBASE else .ESW_FPTXBASE) p = true → a < (s.partRange p).1 ∨ (s.partRange p).2 ≤ a → Answers
    (.ringBaseWrite init p rx a) s (fun t => t.get (if rx then F.ESW_FPRXBASE_BASE else F.ESW_FPTXBASE_BASE) p = s.get (if rx
    then F.ESW_FPRXBASE_BASE else F.ESW_FPTXBASE_BASE) p ∧ t.ringRuns p rx = false ∧ t.oneMore s F.ERR_BLK0_ACCESS 1)) ∧
  (∀ (s : State) (init : Init) (vid mac : Nat) (x : Learnt), s.domOn domFAB = true → s.blockOn 1 = true → s.mayWrite init
    .ESW_FDBCMD 0 = true → s.fdbKey = (vid, mac) → s.eth.learnt = [x] → x.at_ = s.now → x.counted = 0 → x.bucket = fdbBucket
    vid mac → Sparse.sorted s.eth.fdb = true → Answers (.fdbLookUpKey init) s (fun t => t.fdbAt x.idx = x.old ∧ t.eth.learnt =
    [])) ∧
  (∀ (s : State) (init : Init) (p v : Nat), p < 4 → s.domOn domFAB = true → s.blockOn 1 = true → s.mayWrite init .ESW_FPTXTAIL
    p = true → s.ringRuns p false = true → Answers (.txTailAdvance init p v) s (fun t => t =
    { (s.put F.ESW_FPTXTAIL_TAIL v p).txRun p (s.get F.ESW_FPTXSIZE_SIZE p) with pending := s.pending })) ∧
  (∀ (s : State) (init : Init) (p v d len : Nat), p < 4 → s.domOn domFAB = true → s.blockOn 1 = true → s.mayWrite init
    .ESW_FPTXTAIL p = true → s.ringRuns p false = true → v % 1024 = (s.get F.ESW_FPTXHEAD_HEAD p + 1) % s.get
    F.ESW_FPTXSIZE_SIZE p → d = 32 * s.get F.ESW_FPTXBASE_BASE p + 32 * s.get F.ESW_FPTXHEAD_HEAD p → s.badIn d 32 = none →
    bitsOf (s.rd32 (d + 4)) 31 31 = 1 → bitsOf (s.rd32 (d + 4)) 15 0 = len → len < 60 ∨ 1518 < len → Answers (.txTailAdvance
    init p v) s (fun t => t.rd32 (d + 4) = setBits (setBits (s.rd32 (d + 4)) 31 31 0) 19 16 2 ∧ t.memOutside s (d + 4) (d + 8)
    ∧ t.get F.ESW_FPTXHEAD_HEAD p = v % 1024 ∧ t.get F.ESW_FPTXTAIL_TAIL p = v % 1024 ∧ t.oneMore s F.ESW_PCNT_COUNT (11 + p)
    0 ∧ t.eth = s.eth))

/-- R152, R186, R203 to R210: frames through the switch. A frame is classified when it is in; that choice of the model is in
the assumption log. -/
def Obligations.FramesAndPortsComplete : Prop :=
  (∀ (s : State) (p q : Nat) (frame : List Byte) (f : Frame), p < 10 → s.domOn domNET = true → s.portUp p = true → 64 ≤
    frame.length → frame.length ≤ 1522 → frame.drop (frame.length - 4) = fcsOf (frame.take (frame.length - 4)) → parseFrame
    (frame.take (frame.length - 4)) (s.get F.ESW_PCTL_PVID p) (s.get F.ESW_PCTL_DPCP p) p s.now = f → f.etype ≠ 0x8808 → f.vid
    ≠ 4095 → f.dst ≠ ptpAddr → bit (s.get F.ESW_VLAN_MEMBER f.vid) p = true → ¬(p = 9 ∧ s.service f = true) → (List.range
    256).all (fun k => !s.streamHit k f) = true → ((s.bump F.ESW_PCNT_COUNT p 0).learn p f.vid f.src).destPorts f = [q] → q <
    10 → s.cutThrough f p q = false → f.cells ≤ s.cellsFree q → cellsOf (s.equeue q (s.mapQueue q f.pcp)) < s.get
    F.ESW_PQLIM_LIM q (s.mapQueue q f.pcp) → Answers (.frameReceive p frame) s (fun t => t.oneMore s F.ESW_PCNT_COUNT p 0 ∧
    t.equeue q (s.mapQueue q f.pcp) = s.equeue q (s.mapQueue q f.pcp) ++ [{ f with queue := s.mapQueue q f.pcp }] ∧ (t.eport
    p).busyTo = (s.eport p).busyTo)) ∧
  (∀ (s : State) (p : Nat) (frame : List Byte), 8 ≤ p → p < 11 → s.domOn domNET = true → s.portUp p = true → frame.length < 64
    ∨ 1522 < frame.length ∨ frame.drop (frame.length - 4) ≠ fcsOf (frame.take (frame.length - 4)) → Answers (.frameReceive p
    frame) s (fun t => t.oneMore s F.ESW_PCNT_COUNT p 2 ∧ { t.eport p with seen := (s.eport p).seen } = s.eport p ∧ (t.eport
    p).seen = some s.now ∧ t.eth.fdb = s.eth.fdb)) ∧
  (∀ (s : State) (p q : Nat) (f : Frame) (fs : List Frame), p < 10 → s.domOn domNET = true → s.portUp p = true → (s.eport
    p).busyTo ≤ s.now → (s.eport p).ptp = [] → q < 8 → s.equeue p q = f :: fs → (List.range 8).all (fun k => (decide (k = q)
    || (s.equeue p k).isEmpty) && (s.equeue p k).all (fun g => g.launch.isNone)) = true → s.get F.ESW_PTASCTL_EN p = 0 →
    s.shaped p q = false → f.desc = none → f.atts = [] → Answers (.egressStart p 0 false) s (fun t => t.equeue p q = fs ∧
    (t.eport p).busyTo = s.now + s.frameTime p f ∧ (t.eport p).sent = some ⟨some f, none, s.now, false⟩ ∧ t.oneMore s
    F.ESW_PCNT_COUNT p 1 ∧ t.mem = s.mem)) ∧
  (∀ (s : State) (p cable sqi : Nat) (audited : Bool) (rtt : Option Nat), p < 8 → ¬(audited = true ∧ rtt.isSome = true ∧
    (cable % 4 = 1 ∨ cable % 4 = 2)) → s.domOn domNET = true → s.get F.ESW_PCTL_EN p = 1 → sqi < 8 → Answers (.linkTrainingEnd
    p true audited rtt cable sqi) s (fun t => t.get F.ESW_PSTAT_LINK p = 1 ∧ t.get F.ESW_PSTAT_CABLE p = (if audited = true ∧
    rtt.isSome = true then cable % 4 else 3) ∧ t.get F.ESW_PSTAT_SQI p = sqi ∧ bit (t.get F.TIM_CALSTAT_PORT) p = true)) ∧
  (∀ (s : State) (p : Nat), p < 11 → s.upd.sessions = [] → Answers (.linkDown p) s (fun t => t.get F.ESW_PSTAT_LINK p = 0 ∧
    t.get F.ESW_PSTAT_ASCAP p = 0 ∧ bit (t.get F.TIM_CALSTAT_PORT) p = false ∧ (t.eport p).ptp = [] ∧ (t.eport p).queues =
    (s.eport p).queues)) ∧
  (∀ (s : State) (p cable sqi r : Nat) (path : Bool), p < 8 → s.domOn domNET = true → s.get F.ESW_PCTL_EN p = 1 → cable % 4 =
    1 ∨ cable % 4 = 2 → Answers (.linkTrainingEnd p path true (some r) cable sqi) s (fun t => t.get F.ESW_PSTAT_LINK p = s.get
    F.ESW_PSTAT_LINK p ∧ t.get F.ESW_PSTAT_CABLE p = cable % 4))

/-- R220 to R226: what each message, interval and timeout of the gPTP engine leaves. -/
def Obligations.GptpEngineCompletes : Prop :=
  (∀ (s : State) (d p seq : Nat) (two : Bool) (origin corr : Int), d < 2 → p < 10 → s.domOn domNET = true → s.ptpRole d p = 2
    → s.ptpUp d p = true → (s.ptpDom d).sync = none → Answers (.syncReceive d p seq two origin corr) s (fun t => (t.ptpDom
    d).sync = some ⟨p, seq, s.now, origin, corr, two⟩ ∧ (if two then (t.ptpDom d).last = (s.ptpDom d).last ∧ (t.ptpDom d).lost
    = (s.ptpDom d).lost else (t.ptpDom d).last = s.now ∧ (t.ptpDom d).lost = false))) ∧
  (∀ (s : State) (d p seq stamp : Nat) (origin0 origin corr0 corr : Int), d < 2 → s.domOn domNET = true → (s.ptpDom d).sync =
    some ⟨p, seq, stamp, origin0, corr0, true⟩ → Answers (.followUpReceive d p seq origin corr) s (fun t => (t.ptpDom d).sync
    = some ⟨p, seq, stamp, origin, corr0 + corr, false⟩ ∧ (t.ptpDom d).last = s.now ∧ (t.ptpDom d).lost = false)) ∧
  (∀ (s : State) (d p seq stamp : Nat) (origin corr : Int), (s.ptpDom d).sync = some ⟨p, seq, stamp, origin, corr, true⟩ →
    stamp + 10 * msUnits ≤ s.now → d < 2 → Answers (.followUpTimeout d) s (fun t => (t.ptpDom d).sync = none ∧ t.oneMore s
    F.ESW_PTPCNT_FUMISS d)) ∧
  (∀ (s : State) (d : Nat), d < 2 → (s.slavePort d).isSome = true → (s.ptpDom d).lost = false → (s.ptpDom d).last + 3 *
    s.syncInterval d ≤ s.now → s.domOn domNET = true → Answers (.syncTimeout d) s (fun t => (t.ptpDom d).lost = true ∧
    (t.ptpDom d).gmNext = s.now ∧ t.oneMore s F.ESW_PTPCNT_SYNCTO d)) ∧
  (∀ (s : State) (d q : Nat), d < 2 → s.domOn domNET = true → s.isGm d = true → (s.ptpDom d).gmNext ≤ s.now → s.masterPorts d
    = [q] → s.scaleValid (d + 1) = true → bit (s.get F.ESW_PTPSTEP_ONESTEP d) q = true → Answers (.grandmasterSyncInterval d)
    s (fun t => (t.ptpDom d).gmNext = s.now + s.syncInterval d ∧ (t.ptpDom d).seq = ((s.ptpDom d).seq + 1) % 65536 ∧ (t.eport
    q).ptp = (s.eport q).ptp ++ [⟨0, d, (s.ptpDom d).seq, s.freeAt d q, s.freeAt d q, 0, false, false⟩])) ∧
  (∀ (s : State) (d q : Nat), d < 2 → s.domOn domNET = true → (s.ptpDom d).annNext ≤ s.now → s.masterPorts d = [q] → q ≠ 8 →
    Answers (.announceSend d) s (fun t => (t.ptpDom d).annSeq = ((s.ptpDom d).annSeq + 1) % 65536 ∧ (t.eport q).ptp = (s.eport
    q).ptp ++ [⟨2, d, (s.ptpDom d).annSeq, Int.ofNat (fineOf s.now), 0, 0, false, false⟩] ∧ t.regs = s.regs)) ∧
  (∀ (s : State) (d p : Nat), d < 2 → p < 10 → s.portUp p = true → s.domOn domNET = true → Answers (.announceReceive d p) s
    (fun t => t.oneMore s F.ESW_PTPCNT_ANNRX d ∧ { t with cyc := s.cyc, regs := s.regs } = s)) ∧
  (∀ (s : State) (d p : Nat), d < 2 → p < 10 → s.portUp p = true → s.domOn domNET = true → Answers (.signalingReceive d p) s
    (fun t => t.oneMore s F.ESW_PTPCNT_SIGRX d ∧ { t with cyc := s.cyc, regs := s.regs } = s)) ∧
  (∀ (s : State) (p : Nat), p < 8 ∨ p = 9 → s.domOn domNET = true → s.portUp p = true → (s.eport p).pdLast.all (fun u =>
    decide (u + s.pdInterval ≤ s.now)) = true → Answers (.pdelayExchange p) s (fun t => (t.eport p).pdOpen = some s.now ∧
    (t.eport p).pdLast = some s.now ∧ ((s.eport p).pdOpen.isSome = true → (t.eport p).good = 0 ∧ t.get F.ESW_PSTAT_ASCAP p =
    0))) ∧
  (∀ (s : State) (p u : Nat) (turnaround : Int), 8 < p → p < 10 → s.domOn domNET = true → s.portUp p = true → (s.eport
    p).pdOpen = some u → (Int.ofNat (fineOf (s.now - u)) - turnaround) / 2 ≤ Int.ofNat (s.get F.ESW_PDCTL_THRESH) * 65536 →
    Answers (.pdelayResponse p turnaround) s (fun t => (t.eport p).pdOpen = none ∧ (t.eport p).mean = (Int.ofNat (fineOf
    (s.now - u)) - turnaround) / 2 ∧ (t.eport p).good = (s.eport p).good + 1 ∧ t.get F.ESW_PSTAT_ASCAP p = (if 3 ≤ (s.eport
    p).good + 1 then 3 else 0))) ∧
  (∀ (s : State) (init : Init) (d v : Nat), d < 2 → s.domOn domFAB = true → s.blockOn 1 = true → s.mayWrite init .ESW_PTPROLE
    d = true → slavesOf v ≤ 1 → Answers (.ptpRoleWrite init d v) s (fun t => t.get F.ESW_PTPROLE_ROLE d = v % 2 ^ 20 ∧
    (t.ptpDom d).sync = none ∧ (t.ptpDom d).lost = false ∧ (t.ptpDom d).seq = (s.ptpDom d).seq))

/-- R253, R284, R358: what a write of a channel's command field leaves; the request acts when it arrives. -/
def Obligations.RequestsLeaveTheirCore : Prop :=
  (∀ (s : State) (init : Init) (x : Nat), isPower x = true ∧ x < 72 → s.domOn domFAB = true → s.blockOn 3 = true → s.mayWrite
    init .PSW_CMD x = true → s.oddMember x = false → Answers (.pswCmdOn init x) s (fun t => t.sch.imm = s.sch.imm ++ [⟨x, some
    1, none, partOf init⟩] ∧ t.regs = s.regs)) ∧
  (∀ (s : State) (init : Init) (x : Nat), isPower x = true ∧ x < 72 → s.domOn domFAB = true → s.blockOn 3 = true → s.mayWrite
    init .PSW_CMD x = true → s.oddMember x = false → Answers (.pswCmdOff init x) s (fun t => t.sch.imm = s.sch.imm ++ [⟨x,
    some 0, none, partOf init⟩] ∧ t.regs = s.regs)) ∧
  (∀ (s : State) (init : Init) (x : Nat), 64 ≤ x ∧ x < 72 → s.domOn domFAB = true → s.blockOn 3 = true → s.mayWrite init
    .PSW_CMD x = true → s.oddMember x = false → Answers (.pswCmdLow init x) s (fun t => t.sch.imm = s.sch.imm ++ [⟨x, some 2,
    none, partOf init⟩] ∧ t.regs = s.regs)) ∧
  (∀ (s : State) (init : Init) (i : Nat), i < 24 → s.domOn domFAB = true → s.blockOn 4 = true → s.mayWrite init .VLV_CMD i =
    true → Answers (.vlvCmdOn init i) s (fun t => t.sch.imm = s.sch.imm ++ [⟨80 + i, some 1, none, partOf init⟩] ∧ t.regs =
    s.regs)) ∧
  (∀ (s : State) (init : Init) (i : Nat), i < 24 → s.domOn domFAB = true → s.blockOn 4 = true → s.mayWrite init .VLV_CMD i =
    true → Answers (.vlvCmdOff init i) s (fun t => t.sch.imm = s.sch.imm ++ [⟨80 + i, some 0, none, partOf init⟩] ∧ t.regs =
    s.regs)) ∧
  (∀ (s : State) (init : Init) (m : Nat), isLed (m + 128) = true → s.domOn domFAB = true → s.blockOn 5 = true → s.mayWrite
    init .LGT_CMD m = true → Answers (.lgtCmdOn init m) s (fun t => t.sch.imm = s.sch.imm ++ [⟨m + 128, some 1, none, partOf
    init⟩] ∧ t.regs = s.regs)) ∧
  (∀ (s : State) (init : Init) (m : Nat), isLed (m + 128) = true → s.domOn domFAB = true → s.blockOn 5 = true → s.mayWrite
    init .LGT_CMD m = true → Answers (.lgtCmdOff init m) s (fun t => t.sch.imm = s.sch.imm ++ [⟨m + 128, some 0, none, partOf
    init⟩] ∧ t.regs = s.regs)) ∧
  (∀ (s : State) (init : Init) (m lvl : Nat), isLed (m + 128) = true → isMx m = false → s.domOn domFAB = true → s.blockOn 5 =
    true → s.mayWrite init .LGT_CMD m = true → Answers (.lgtCmdLevel init m lvl) s (fun t => t.sch.imm = s.sch.imm ++ [⟨m +
    128, none, some (lvl % 65536), partOf init⟩] ∧ t.regs = s.regs))

/-- R235, R238 to R242, R253, R257, R260, R264, R630: what an action leaves on a channel free to follow it. -/
def Obligations.ActionsReachTheirTargets : Prop :=
  (∀ (s : State) (x v : Nat) (q : ImmReq), s.sch.imm.find? (fun q => q.x == x) = some q → s.clocked = true → x < 60 → q.st =
    some v → q.lvl = none → v ≤ 1 → (s.chan x).last.all (fun l => l.slot != slotAfter 1600 s.now) = true → s.heldFor x 5 =
    false → s.inrush x (s.immAct x (some v) none q.who none) = 0 → (s.diag x).planned = false → Answers
    (.immediateRequestArrival x) s (fun t => t.und x = v ∧ t.out x = v ∧ t.sch.imm = s.sch.imm.erase q)) ∧
  (∀ (s : State) (q e b x plan : Nat), s.planeRuns = true → q < 8 → e < 512 → s.actBank q = b → (s.entSt q b e).handed = [] →
    s.entNext q b e = some plan → s.get F.SCH_TCTL_RUN q = 1 → plan ≤ s.now → s.get F.SCH_ENTRY_ACTION q (entJ b e) = 1 →
    s.entTgt q b e = .one x → x < 60 → s.whoOwns (s.ownerOf (.item 0x09 q)) x = true → (s.chan x).last.all (fun l => l.slot !=
    plan) = true → s.heldFor x 4 = false → s.inrush x (s.entAct q b e plan none 1600 (some 1) none) = 0 → Answers
    (.scheduleOccurrence q e false) s (fun t => t.und x = 1 ∧ t.out x = 1 ∧ (t.entSt q b e).k = (s.entSt q b e).k + 1 ∧
    t.oneMore s F.SCH_TCNT0_EXEC q)) ∧
  (∀ (s : State) (x : Nat) (p : Pulse), s.sch.pulses.find? (fun p => p.x == x && decide (p.due ≤ s.now)) = some p → s.clocked
    = true → p.claim = none → (s.chan x).last.all (fun l => l.slot != p.due) = true → x < 60 → s.heldFor x p.act.src = false →
    (s.diag x).planned = false → Answers (.pulseTrailingEdge x) s (fun t => t.und x = 0 ∧ t.out x = 0 ∧ t.sch.pulses =
    s.sch.pulses.erase p)) ∧
  (∀ (s : State) (x : Nat) (d : Deferral), s.sch.defer.find? (fun d => d.x == x && decide (d.due ≤ s.now)) = some d →
    s.clocked = true → x < 60 → d.act.st = some 1 → s.heldFor x d.act.src = false →
    { s with sch := { s.sch with defer := s.sch.defer.erase d } }.fits (tabGroup x) (s.weight x (s.inrush x d.act)) d.act.key
    = true → Answers (.deferredTurnOnDue x) s (fun t => t.out x = 1 ∧ t.sch.defer = s.sch.defer.erase d)) ∧
  (∀ (s : State) (g : Nat) (q : CommitReq) (f : StagedFld), s.sch.commits.find? (fun q => q.block == 3 && q.group == g) = some
    q → s.clocked = true → g < 32 → s.sch.staged.filter (fun f => f.block == 3 && f.group == g) = [f] → f.reg = .PSW_CFG →
    isPower f.i = true → s.writeYields f (slotAfter (gridOf f.i) s.now) = false → Answers (.commitArrival 3 g) s (fun t =>
    t.sch.commits = s.sch.commits.erase q ∧ t.sch.staged = s.sch.staged.filter (fun f => !(f.block == 3 && f.group == g)) ∧
    t.get F.PSW_GCTL_PEND g = 0 ∧ t.word .PSW_CFG f.i 0 0 = s.written .PSW_CFG f.i 0 0 f.val)) ∧
  (∀ (s : State) (init : Init) (block g n : Nat), groupOk block g = true → s.domOn domFAB = true → s.blockOn block = true → (g
    < 32 → s.mayWrite init (gctlReg block g) g = true) → (32 ≤ g → init = .part n) → Answers (.groupCommit init block g) s
    (fun t => t.sch.commits = s.sch.commits ++ [⟨block, g, some (writerNo init)⟩] ∧ t.regs = s.regs)) ∧
  (∀ (s : State) (init : Init) (block g n : Nat), groupOk block g = true → s.domOn domFAB = true → s.blockOn block = true → (g
    < 32 → s.mayWrite init (gctlReg block g) g = true) → (32 ≤ g → init = .part n) → Answers (.groupDiscard init block g) s
    (fun t => t.sch.staged = s.sch.staged.filter (fun f => !(f.block == block && f.group == g && (decide (g < 32) || f.who ==
    writerNo init))) ∧ t.sch.commits = s.sch.commits ∧ (g < 32 → t.get (pendFld block g) g = 0))) ∧
  (∀ (s : State) (q e b plan : Nat), s.planeRuns = true → q < 8 → e < 512 → s.actBank q = b → (s.entSt q b e).handed = [] →
    s.entNext q b e = some plan → s.get F.SCH_TCTL_RUN q = 1 → plan ≤ s.now → Answers (.scheduleOccurrence q e true) s (fun t
    => (t.entSt q b e).bad = true ∧ (t.entSt q b e).k = (s.entSt q b e).k ∧ t.oneMore s F.SCH_TCNT1_BADENT q ∧ t.oneMore s
    F.ERR_BLK2_UNCORR 2 ∧ t.sch.chans = s.sch.chans))

/-- R243 to R251, R268 to R271, R306, R630: the commands of the tables and the rules. -/
def Obligations.TablesAndRulesComplete : Prop :=
  (∀ (s : State) (init : Init) (q : Nat), q < 8 → s.domOn domFAB = true → s.blockOn 2 = true → s.mayWrite init .SCH_TCTL q =
    true → s.get F.SCH_TCTL_RUN q = 0 → (s.ownerOf (.item 0x09 q)).all (fun n => (Sparse.get s.psw.windows n).isNone) = true →
    Answers (.tableRun init q) s (fun t => t.get F.SCH_TCTL_RUN q = 1 ∧ (t.table q).runHeld = false ∧ t.actBank q = s.actBank
    q)) ∧
  (∀ (s : State) (init : Init) (q n : Nat), q < 8 → s.domOn domFAB = true → s.blockOn 2 = true → s.mayWrite init .SCH_TCTL q =
    true → s.get F.SCH_TCTL_RUN q = 0 → s.ownerOf (.item 0x09 q) = some n → (Sparse.get s.psw.windows n).isSome = true →
    Answers (.tableRun init q) s (fun t => t.get F.SCH_TCTL_RUN q = 0 ∧ (t.table q).runHeld = true)) ∧
  (∀ (s : State) (init : Init) (q : Nat), q < 8 → s.domOn domFAB = true → s.blockOn 2 = true → s.mayWrite init .SCH_TCTL q =
    true → s.get F.SCH_TCTL_RUN q = 1 → Answers (.tableStop init q) s (fun t => t.get F.SCH_TCTL_RUN q = 0 ∧ t.sch.defer =
    s.sch.defer.filter (fun d => !(d.act.src == 4 && d.act.table == q)) ∧ t.actBank q = s.actBank q)) ∧
  (∀ (s : State) (init : Init) (q : Nat), q < 8 → s.domOn domFAB = true → s.blockOn 2 = true → s.mayWrite init .SCH_TCTL q =
    true → s.get F.SCH_TCTL_SWAPREQ q = 0 → Answers (.bankCopy init q) s (fun t => (List.range 512).all (fun e => t.words
    .SCH_ENTRY q (entJ (1 - s.actBank q) e) == s.words .SCH_ENTRY q (entJ (s.actBank q) e) && t.words .SCH_ENTRY q (entJ
    (s.actBank q) e) == s.words .SCH_ENTRY q (entJ (s.actBank q) e)) = true ∧ t.get F.SCH_TCTL_RUN q = s.get F.SCH_TCTL_RUN
    q)) ∧
  (∀ (s : State) (init : Init) (q : Nat), q < 8 → s.domOn domFAB = true → s.blockOn 2 = true → s.mayWrite init .SCH_TCTL q =
    true → s.get F.SCH_TCTL_SWAPREQ q = 0 → s.get F.SCH_TCTL_SWAT q = 0 → Answers (.swapRequest init q) s (fun t => t.get
    F.SCH_TCTL_SWAPREQ q = 1 ∧ (t.table q).swapAt = some s.applyTick ∧ t.actBank q = s.actBank q)) ∧
  (∀ (s : State) (q u : Nat), q < 8 → s.get F.SCH_TCTL_SWAPREQ q = 1 → (s.table q).swapAt = some u → u ≤ s.now → Answers
    (.bankSwap q) s (fun t => t.actBank q = 1 - s.actBank q ∧ t.get F.SCH_TCTL_SWAPREQ q = 0 ∧ (t.table q).swapAt = none)) ∧
  (∀ (s : State) (init : Init) (r w0 : Nat), r < 256 → s.domOn domFAB = true → s.blockOn 2 = true → s.mayWrite init .SCH_RULE
    r = true → s.get F.SCH_RULE_EN r = 0 → s.ruleRefused r (BitVec.ofNat 32 w0 ||| 0x80000000) = false → Answers (.ruleArm
    init r w0) s (fun t => t.word .SCH_RULE r 0 0 = BitVec.ofNat 32 w0 ||| 0x80000000 ∧ t.sch =
    { s.sch with truth := Sparse.erase s.sch.truth r } ∧ { t with regs := s.regs, sch := s.sch } = s)) ∧
  (∀ (s : State) (r x : Nat), r < 256 → s.planeRuns = true → s.get F.SCH_RULE_EN r = 1 → s.get F.SCH_RULE_MODE r = 1 →
    s.turnsTrue r = true → s.get F.SCH_RULE_ACTION r = 1 → tgtOf (s.word .SCH_RULE r 0 1) = .one x → x < 60 → s.whoOwns
    (s.ownerOf (.item 0x0A r)) x = true → (s.chan x).prot = 0 → s.towHolds x = false → (s.chan x).claims = [] → Answers
    (.reflexFire r false) s (fun t => t.oneMore s F.SCH_RULE_FIRES r ∧ bit (t.get F.SCH_RFXHELD_HELD (r / 32)) (r % 32) = true
    ∧ (t.chan x).claims = [⟨r, some 1, none, none⟩] ∧ t.out x = 1)) ∧
  (∀ (s : State) (r : Nat), r < 256 → s.planeRuns = true → s.get F.SCH_RULE_EN r = 1 → s.get F.SCH_RULE_MODE r = 1 →
    s.ruleCond r = false → Answers (.reflexRelease r) s (fun t => allTargets.all (fun x => (t.chan x).claims.all (fun c =>
    c.rule != r)) = true ∧ bit (t.get F.SCH_RFXHELD_HELD (r / 32)) (r % 32) = false)) ∧
  (∀ (s : State) (init : Init) (r : Nat), r < 256 → s.domOn domFAB = true → s.blockOn 2 = true → s.mayWrite init .SCH_RULE r =
    true → s.get F.SCH_RULE_EN r = 1 → Answers (.ruleDisarm init r) s (fun t => t.get F.SCH_RULE_EN r = 0 ∧ allTargets.all
    (fun x => (t.chan x).claims.all (fun c => c.rule != r)) = true ∧ bit (t.get F.SCH_RFXHELD_HELD (r / 32)) (r % 32) =
    false)) ∧
  (∀ (s : State) (init : Init) (r : Nat), r < 256 → s.domOn domFAB = true → s.blockOn 2 = true → s.mayWrite init .SCH_RULE r =
    true → Answers (.ruleReleaseWrite init r) s (fun t => t.get F.SCH_RULE_EN r = s.get F.SCH_RULE_EN r ∧ allTargets.all (fun
    x => (t.chan x).claims.all (fun c => c.rule != r)) = true ∧ bit (t.get F.SCH_RFXHELD_HELD (r / 32)) (r % 32) = false)) ∧
  (∀ (s : State) (n u : Nat), Sparse.get s.psw.windows n = some u → u ≤ s.now → Sparse.sorted s.psw.windows = true → Answers
    (.holdWindowEnd n) s (fun t => Sparse.get t.psw.windows n = none ∧ (s.ownTargets n).all (fun x => (t.chan
    x).window.isNone) = true)) ∧
  (∀ (s : State) (r : Nat), r < 256 → s.planeRuns = true → s.get F.SCH_RULE_EN r = 1 → Answers (.reflexFire r true) s (fun t
    => t.get F.SCH_RULE_EN r = 0 ∧ allTargets.all (fun x => (t.chan x).claims.all (fun c => c.rule != r)) = true ∧ bit (t.get
    F.SCH_RFXHELD_HELD (r / 32)) (r % 32) = false ∧ t.oneMore s F.ERR_BLK2_UNCORR 2))

/-- R287 to R292, R298: protection of an HS channel (target index below 60). `pstate` is PSW_PROT.STATE: 1 ON, 2 LIMIT, 3
PAUSE, 4 COOLWAIT, 5 LATCHED. -/
def Obligations.ProtectionOfChannelsCompletes : Prop :=
  (∀ (s : State) (p : Nat), p < 60 → s.pstate p = 1 → Answers (.currentLimitEntry p) s (fun t => t.pstate p = 2 ∧ (t.prot
    p).limitFrom = some s.now ∧ t.out p = s.out p)) ∧
  (∀ (s : State) (p : Nat), p < 60 → s.pstate p = 2 → Answers (.limitExit p) s (fun t => t.pstate p = 1 ∧ (t.prot p).limitFrom
    = none ∧ t.out p = s.out p)) ∧
  (∀ (s : State) (p : Nat) (low hot : Bool), p < 60 → s.pstate p = 2 → s.get F.PSW_PROT_ATT p + 1 < max 1 (s.get
    F.PSW_CFG_NMAX p) → Answers (.shortClassified p low hot) s (fun t => t.pstate p = 3 ∧ t.get F.PSW_PROT_ATT p = s.get
    F.PSW_PROT_ATT p + 1 ∧ t.get F.PSW_PROT_CAUSE p = 1 ∧ t.out p = 0 ∧ bit (t.chan p).prot pOff = true ∧ (t.prot p).pauseEnd
    = some (s.now + s.pause p (s.get F.PSW_PROT_ATT p + 1)) ∧ t.oneMore s F.PSW_CNT_SHORTS p ∧ t.get F.PSW_DIAG_RESULT p = if
    low then 3 else 5)) ∧
  (∀ (s : State) (p u : Nat) (low hot : Bool), p < 60 → s.pstate p = 2 → (s.prot p).limitFrom = some u → u + s.tovl p ≤ s.now
    → s.get F.PSW_PROT_ATT p + 1 < max 1 (s.get F.PSW_CFG_NMAX p) → Answers (.overloadClassified p low hot) s (fun t =>
    t.pstate p = 3 ∧ t.get F.PSW_PROT_ATT p = s.get F.PSW_PROT_ATT p + 1 ∧ t.get F.PSW_PROT_CAUSE p = 2 ∧ t.out p = 0 ∧ bit
    (t.chan p).prot pOff = true ∧ (t.prot p).pauseEnd = some (s.now + s.pause p (s.get F.PSW_PROT_ATT p + 1)) ∧ t.oneMore s
    F.PSW_CNT_OVLDS p ∧ t.get F.PSW_DIAG_RESULT p = 4)) ∧
  (∀ (s : State) (p : Nat) (low : Bool), p < 60 → s.pstate p = 1 ∨ s.pstate p = 2 → s.get F.PSW_PROT_ATT p + 1 < max 1 (s.get
    F.PSW_CFG_NMAX p) → Answers (.thermalShutdown p low) s (fun t => t.pstate p = 3 ∧ t.get F.PSW_PROT_ATT p = s.get
    F.PSW_PROT_ATT p + 1 ∧ t.get F.PSW_PROT_CAUSE p = 3 ∧ t.out p = 0 ∧ bit (t.chan p).prot pOff = true ∧ (t.prot p).pauseEnd
    = some (s.now + s.pause p (s.get F.PSW_PROT_ATT p + 1)) ∧ t.oneMore s F.PSW_CNT_THERMS p ∧ t.get F.PSW_DIAG_RESULT p = 6 ∧
    t.get F.PSW_PROT_TWARN p = 1 ∧ (t.prot p).hot = true)) ∧
  (∀ (s : State) (p : Nat) (low hot : Bool), p < 60 → s.pstate p = 2 → max 1 (s.get F.PSW_CFG_NMAX p) ≤ min 31 (s.get
    F.PSW_PROT_ATT p + 1) → Answers (.shortClassified p low hot) s (fun t => t.pstate p = 5 ∧ t.get F.PSW_PROT_LATCH p = 1 ∧
    t.out p = 0 ∧ bit (t.chan p).prot pOff = true ∧ t.oneMore s F.PSW_CNT_LATCHES p ∧ (t.prot p).pauseEnd = none)) ∧
  (∀ (s : State) (p u : Nat), p < 60 → s.pstate p = 3 → (s.prot p).pauseEnd = some u → u ≤ s.now → (s.prot p).hot = false →
    Answers (.retryPauseEnd p) s (fun t => bit (t.chan p).prot pOff = false ∧ (t.prot p).pauseEnd = none ∧ (t.prot
    p).cleanFrom = some s.now)) ∧
  (∀ (s : State) (p u : Nat), p < 60 → s.pstate p = 3 → (s.prot p).pauseEnd = some u → u ≤ s.now → (s.prot p).hot = true →
    Answers (.retryPauseEnd p) s (fun t => t.pstate p = 4 ∧ (t.prot p).pauseEnd = none ∧ t.out p = s.out p)) ∧
  (∀ (s : State) (p : Nat) (warm : Bool), p < 60 → s.pstate p = 4 → Answers (.thermalRelease p warm) s (fun t => bit (t.chan
    p).prot pOff = false ∧ (t.prot p).pauseEnd = none ∧ (t.prot p).cleanFrom = some s.now ∧ (t.prot p).hot = false ∧ t.get
    F.PSW_PROT_TWARN p = (if warm then 1 else 0))) ∧
  (∀ (s : State) (init : Init) (p : Nat), p < 60 → s.domOn domFAB = true → s.blockOn 3 = true → s.mayWrite init .PSW_PROT p =
    true → 3 ≤ s.pstate p → s.pstate p ≤ 5 → (s.prot p).hot = false → Answers (.protClear init p) s (fun t => bit (t.chan
    p).prot pOff = false ∧ (t.prot p).pauseEnd = none ∧ (t.prot p).cleanFrom = some s.now ∧ t.get F.PSW_PROT_ATT p = 0 ∧ t.get
    F.PSW_PROT_LATCH p = 0)) ∧
  (∀ (s : State) (p u : Nat), p < 60 → s.pstate p = 0 ∨ s.pstate p = 1 ∨ s.pstate p = 2 ∨ s.pstate p = 6 → (s.prot
    p).cleanFrom = some u → u + s.clean p ≤ s.now → Answers (.cleanExpiry p) s (fun t => t.get F.PSW_PROT_ATT p = 0 ∧ (t.prot
    p).cleanFrom = none ∧ t.pstate p = s.pstate p))

/-- R282 to R285, R297 to R301, R305, R309 to R314: the other commands of the power switch block. -/
def Obligations.PairsDiagnosisAndTowlineComplete : Prop :=
  (∀ (s : State) (init : Init) (k : Nat), k < 4 → s.domOn domFAB = true → s.blockOn 3 = true → s.mayWrite init .PSW_BPAIR k =
    true → s.get F.PSW_BPAIR_PAIR k = 0 → s.ownerOf (targetSpec (64 + 2 * k)) = s.ownerOf (targetSpec (65 + 2 * k)) →
    (s.ownerOf (targetSpec (64 + 2 * k))).isSome = true → s.out (64 + 2 * k) = 0 → s.out (65 + 2 * k) = 0 → Answers
    (.pairModeOn init k) s (fun t => t.get F.PSW_BPAIR_PAIR k = 1 ∧ t.get F.PSW_BPAIR_STOP k = s.get F.PSW_BPAIR_STOP k ∧
    t.get F.PSW_BPAIR_DT k = s.get F.PSW_BPAIR_DT k)) ∧
  (∀ (s : State) (init : Init) (k : Nat), k < 4 → s.domOn domFAB = true → s.blockOn 3 = true → s.mayWrite init .PSW_BPAIR k =
    true → s.get F.PSW_BPAIR_PAIR k = 1 → s.out (64 + 2 * k) = 0 → (s.chan (64 + 2 * k)).brake = false → (s.chan (64 + 2 *
    k)).claims = [] → s.towHolds (64 + 2 * k) = false → Answers (.pairModeOff init k) s (fun t => t.get F.PSW_BPAIR_PAIR k = 0
    ∧ t.und (64 + 2 * k) = 0 ∧ t.und (65 + 2 * k) = 0)) ∧
  (∀ (s : State) (init : Init) (k : Nat) (brake : Bool), k < 4 → s.domOn domFAB = true → s.blockOn 3 = true → s.mayWrite init
    .PSW_BPAIR k = true → s.get F.PSW_BPAIR_PAIR k = 1 → s.out (64 + 2 * k) = 0 → s.held (64 + 2 * k) = false → Answers
    (.stopWrite init k brake) s (fun t => (t.chan (64 + 2 * k)).brake = brake ∧ t.get F.PSW_BPAIR_STOP k = (if brake then 1
    else 0) ∧ t.out (64 + 2 * k) = 0)) ∧
  (∀ (s : State) (x isense : Nat), x < 72 → isPower x = true → s.oddMember x = false → s.out x ≠ 0 → s.fullZone = true →
    Answers (.onStateMeasurement x isense) s (fun t => t.get F.PSW_DIAG_ISENSE x = min 0xFFF isense ∧ (t.diag x).onRes = some
    (if isense * senseStep x < s.get F.PSW_CFG_OLTHR x * 10 ∧ (s.diag x).lowSeen = true then 2 else 1) ∧ (t.diag x).method = 1
    ∧ t.out x = s.out x)) ∧
  (∀ (s : State) (x : Nat) (low high : Bool), x < 72 → isPower x = true → s.oddMember x = false → s.get F.PSW_CFG_OFFDIAG x ≠
    0 → s.out x = 0 → (s.chan x).brake = false → s.offZone = true → Answers (.offStateDiagnosis x low high) s (fun t =>
    (t.diag x).offRes = some (if low then 1 else if high then 3 else 2) ∧ t.regs = s.regs)) ∧
  (∀ (s : State) (x r : Nat), x < 60 → (s.diag x).from_ + s.dint x ≤ s.now → s.fullZone = true → s.pstate x ≠ 3 ∧ s.pstate x ≠
    4 ∧ s.pstate x ≠ 5 → (s.diag x).onRes = some r → r < 8 → Answers (.diagnosisIntervalEnd x) s (fun t => t.get
    F.PSW_DIAG_RESULT x = r ∧ t.get F.PSW_DIAG_METHOD x = (s.diag x).method % 4 ∧ (t.diag x).from_ = s.now ∧ (t.diag x).onRes
    = none)) ∧
  (∀ (s : State) (x u isense : Nat) (a : Act), x < 60 → (s.diag x).stretching = some (u, a) → u ≤ s.now → s.out x ≠ 0 → s.held
    x = false → s.und x = 0 → s.fullZone = true → Answers (.diagnosticStretchEnd x isense) s (fun t => t.out x = 0 ∧ (t.diag
    x).stretching = none ∧ (t.diag x).method = 3 ∧ t.get F.PSW_DIAG_ISENSE x = min 0xFFF isense)) ∧
  (∀ (s : State) (init : Init) (n ext : Nat), n < 4 → s.domOn domFAB = true → s.blockOn 3 = true → s.mayWrite init .PSW_PLAN n
    = true → 0 < ext → ext < 2048 → Answers (.plannedRestartNotice init n ext) s (fun t => t.get F.PSW_PLAN_EXT n = ext ∧
    t.get F.PSW_PLAN_ARMED n = 1 ∧ Sparse.get t.psw.notices n = some s.now)) ∧
  (∀ (s : State) (n u : Nat), Sparse.get s.psw.notices n = some u → s.get F.PSW_PLAN_ARMED n = 1 → u + 5 * secUnits ≤ s.now →
    Answers (.noticeLapse n) s (fun t => t.get F.PSW_PLAN_ARMED n = 0 ∧ t.get F.PSW_PLAN_EXT n = s.get F.PSW_PLAN_EXT n)) ∧
  (∀ (s : State) (init : Init), s.domOn domFAB = true → s.blockOn 3 = true → s.mayWrite init .PSW_WDOG 0 = true → Answers
    (.watchdogKey5a init) s (fun t => init ∈ t.psw.wdPairs ∧ t.psw.wdAt = s.psw.wdAt)) ∧
  (∀ (s : State) (init : Init), s.domOn domFAB = true → s.blockOn 3 = true → s.mayWrite init .PSW_WDOG 0 = true → init ∈
    s.psw.wdPairs → Answers (.watchdogKeyA5 init) s (fun t => init ∉ t.psw.wdPairs ∧ t.psw.wdUse = clampNat 10 1000 (s.get
    F.PSW_WDOG_WDTIME) ∧ t.psw.wdAt = some (s.now + t.psw.wdUse * msUnits))) ∧
  (∀ (s : State) (init : Init) (key : Nat), s.domOn domFAB = true → s.blockOn 3 = true → s.mayWrite init .PSW_WDOG 0 = true →
    key % 256 ≠ 0 → key % 256 ≠ 0x5A → (key % 256 = 0xA5 → init ∉ s.psw.wdPairs) → Answers (.watchdogWrongKey init key) s (fun
    t => init ∉ t.psw.wdPairs ∧ t.oneMore s F.PSW_WDSTAT_KEYERR ∧ t.psw.wdAt = s.psw.wdAt)) ∧
  (∀ (s : State) (init : Init) (ms : Nat), s.domOn domFAB = true → s.blockOn 3 = true → s.mayWrite init .PSW_WDOG 0 = true →
    Answers (.wdtimeWrite init ms) s (fun t => t.get F.PSW_WDOG_WDTIME = ms % 1024 ∧ t.psw = s.psw)) ∧
  (∀ (s : State) (init : Init) (ms : Nat), s.domOn domFAB = true → s.blockOn 3 = true → s.mayWrite init .PSW_WDOG 0 = true →
    s.get F.PSW_WDSTAT_TOWACT = 1 → s.psw.towRefreshed = true → Answers (.towlineRelease init ms 0) s (fun t => t.get
    F.PSW_WDSTAT_TOWACT = 0 ∧ t.get F.PSW_WDOG_WDTIME = ms % 1024 ∧ t.psw.towRefreshed = false)) ∧
  (∀ (s : State) (u : Nat), s.psw.wdAt = some u → u ≤ s.now → Answers (.outputPlaneWatchdogExpiry) s (fun t => t.psw.wdAt =
    none ∧ t.oneMore s F.PSW_WDSTAT_EXPIRIES ∧ t.get F.PSW_WDSTAT_TOWACT = 1 ∧ (s.psw.tow = [] → s.get F.PSW_WDSTAT_TOWACT = 0
    → (List.range 60).all (fun x => t.out x == 0) = true))) ∧
  (∀ (s : State) (pin : Nat) (level : Bool), pin < 8 → s.get F.PSW_WDSTAT_TOWACT = 0 → Answers (.towPinChange pin level) s
    (fun t => bit (t.get F.PSW_TOWSTAT_PINS) pin = level ∧ { t with regs := s.regs } = s)) ∧
  (∀ (s : State) (pin x : Nat) (level : Bool) (e : TowEntry), pin < 8 → s.get F.PSW_WDSTAT_TOWACT = 1 → s.psw.tow = [e] →
    e.pin = pin → e.x = x → x < 60 → e.low = false → (s.chan x).prot = 0 → s.inrush x (ownAct 2 0) = 0 → Answers
    (.towPinChange pin level) s (fun t => t.out x = (if level = e.inv then 0 else 1)))

/-- R325 to R345: the commands of the valve block. Output i is output i mod 6 of bank i / 6; phases are VLV_CMD.PHASE: 1
waits, 2 peak rise, 3 peak regulation, 4 hold, 5 decay. -/
def Obligations.ValveCommandsComplete : Prop :=
  (∀ (s : State) (b : Nat) (r : ValveReq) (rs : List ValveReq), b < 4 → s.psw.clockLost = false → s.vq b = r :: rs → rs.all
    (fun q => q.i != r.i) = true → (s.vq b).filter s.tooLate = [] → r.i / 6 = b → s.get F.VLV_BSTAT_PEAK b = 0xF → s.get
    F.VLV_BPROT_STATE b < 3 → s.holdSum b = 0 → Answers (.valveAdmission b) s (fun t => t.get F.VLV_CMD_PHASE r.i = 2 ∧ t.out
    (80 + r.i) = 1 ∧ t.vq b = rs ∧ t.get F.VLV_BSTAT_PEAK b = r.i % 6 ∧ (t.vout r.i).onAt = s.edgeInstant (80 + r.i)
    (s.effective (80 + r.i) r.act.plan) (r.act.lead && !decide (r.slot < slotAt 1600 s.now)) (if r.act.src = 3 then some
    r.act.table else none) ∧ (t.vout r.i).prof = s.word .VLV_PROF r.i 0 0 ∧ t.oneMore s F.VLV_BCNT_PEAKS b)) ∧
  (∀ (s : State) (i isense : Nat), i < 24 → s.get F.VLV_CMD_PHASE i = 2 → s.fullZone = true → bitsOf (s.vout i).prof 27 20 ≠ 0
    → Answers (.peakReached i isense) s (fun t => t.get F.VLV_CMD_PHASE i = 3 ∧ (t.vout i).until_ = some (s.now + bitsOf
    (s.vout i).prof 27 20 * 100 * usUnits) ∧ t.get F.VLV_DIAG_TTP i = min 0x3FFF ((s.now - (s.vout i).onAt) / (10 * usUnits))
    ∧ t.get F.VLV_DIAG_ISENSE i = min 0xFFF isense ∧ t.get F.VLV_DIAG_RESULT i = (if s.now - (s.vout i).onAt < bitsOf (s.vout
    i).time 31 24 * 100 * usUnits then 5 else 1))) ∧
  (∀ (s : State) (i isense : Nat), i < 24 → s.get F.VLV_CMD_PHASE i = 2 → s.phaseDue i = true → s.fullZone = true → Answers
    (.tpkmaxExpiry i isense) s (fun t => t.get F.VLV_CMD_PHASE i = 4 ∧ t.get F.VLV_DIAG_ISENSE i = min 0xFFF isense ∧ t.get
    F.VLV_DIAG_RESULT i = (if isense * 25 < 1000 then 2 else 6) ∧ t.get F.VLV_BSTAT_PEAK (i / 6) = 0xF)) ∧
  (∀ (s : State) (i : Nat), i < 24 → s.get F.VLV_CMD_PHASE i = 3 → s.phaseDue i = true → Answers (.tpeakExpiry i) s (fun t =>
    t.get F.VLV_CMD_PHASE i = 4 ∧ (t.vout i).until_ = (if bit (s.vout i).prof.toNat 31 then some (s.now + max 1 (bitsOf
    (s.vout i).time 15 0) * msUnits) else none) ∧ t.get F.VLV_BSTAT_PEAK (i / 6) = 0xF)) ∧
  (∀ (s : State) (i : Nat), i < 24 → s.get F.VLV_CMD_PHASE i = 4 → s.phaseDue i = true → Answers (.tholdExpiry i) s (fun t =>
    t.get F.VLV_CMD_PHASE i = 5 ∧ t.und (80 + i) = 0)) ∧
  (∀ (s : State) (i : Nat), i < 24 → s.get F.VLV_CMD_PHASE i = 5 → (s.vq (i / 6)).all (fun r => r.i != i) = true → Answers
    (.decayEnd i) s (fun t => t.get F.VLV_CMD_PHASE i = 0 ∧ t.out (80 + i) = 0 ∧ (t.vout i).decayEnd = some s.now)) ∧
  (∀ (s : State) (i : Nat) (r : ValveReq), i < 24 → (s.vq (i / 6)).find? (fun r => r.i == i) = some r → s.tooLate r = true →
    Answers (.maxdlyExpiry i) s (fun t => (t.vq (i / 6)) = (s.vq (i / 6)).filter (fun q => q.i != i) ∧ t.und (80 + i) = 0 ∧
    t.oneMore s F.VLV_CNT_DROPPED i)) ∧
  (∀ (s : State) (b ibank pins i : Nat), b < 4 → (bankIdx b).any s.valveLive = true → (bankIdx b).filter (fun i => bit pins (i
    % 6) && !s.valveLive i) = [i] → s.get F.VLV_BCFG_SGOFF b = 0 → Answers (.currentMismatch b ibank pins) s (fun t => t.get
    F.VLV_BSTAT_IBANK b = min 0xFFF ibank ∧ t.get F.VLV_BSTAT_SGND b = 1 ∧ t.get F.VLV_DIAG_RESULT i = 4)) ∧
  (∀ (s : State) (i : Nat) (pinLow pinHigh comLow : Bool), i < 24 → s.get F.VLV_CFG_OFFDIAG i ≠ 0 → s.offZone = true →
    (bankIdx (i / 6)).all (fun n => s.out (80 + n) == 0 && !s.valveLive n) = true → Answers (.valveOffStateDiagnosis i pinLow
    pinHigh comLow) s (fun t => t.get F.VLV_DIAG_RESULT i = (if pinHigh then 3 else if comLow then 4 else if pinLow then 2
    else 1))) ∧
  (∀ (s : State) (i u : Nat), i < 24 → s.get F.VLV_CMD_PHASE i = 2 → s.movem i = 1 → (s.vout i).judging = true → s.fullZone =
    true → Answers (.currentDip i u) s (fun t => t.get F.VLV_DIAG_MOVE i = 1 ∧ (t.vout i).judging = false ∧ t.latest .VLV_MOVE
    i 0 = t0Words (min u s.now))) ∧
  (∀ (s : State) (i u : Nat), i < 24 → s.out (80 + i) = 0 → s.movem i = 2 → (s.vout i).judging = true → s.fullZone = true →
    Answers (.closingKink i u) s (fun t => t.get F.VLV_DIAG_MOVE i = 1 ∧ (t.vout i).judging = false ∧ t.latest .VLV_MOVE i 0 =
    t0Words (min u s.now))) ∧
  (∀ (s : State) (i u : Nat), i < 24 → (s.vout i).decayEnd = some u → s.movem i = 2 → (s.vout i).judging = true → s.out (80 +
    i) = 0 → u + s.get F.VLV_CFG_KWIN i * 100 * usUnits ≤ s.now → s.fullZone = true → Answers (.kinkWindowEnd i) s (fun t =>
    t.get F.VLV_DIAG_MOVE i = 2 ∧ (t.vout i).judging = false ∧ t.oneMore s F.VLV_CNT_NOMOVE i))

/-- R355 to R367, R379 to R381: the commands that act on LED channels. Channels are membership bits m: LS below 16, MX 32 to
127, AM from 128. -/
def Obligations.LightsAndTheirFaultsComplete : Prop :=
  (∀ (s : State) (m : Nat), lightBits.contains m = true → s.out (m + 128) ≠ 0 → (s.led m).pstart + s.ledPeriod m ≤ s.now →
    s.ledFrozen m = false → Answers (.undercoatPeriodStart m) s (fun t => (t.led m).pstart = (s.led m).pstart + s.ledPeriod m
    ∧ (t.led m).n = (if s.get F.LGT_DIM_LOCK m = 2 ∧ s.ledLocked m = true then (s.led m).nHold.getD (s.led m).nNext else
    (s.led m).nNext) ∧ t.out (m + 128) = s.out (m + 128))) ∧
  (∀ (s : State) (m : Nat), lightBits.contains m = true → s.out (m + 128) ≠ 0 → s.get F.LGT_STATE_RANGE m = 1 → (s.led m).lit
    = true → s.ledFrozen m = false → (s.led m).n < 1024 → (s.led m).pstart + (s.led m).n * (s.ledPeriod m / 1024) ≤ s.now →
    Answers (.undercoatPulseEnd m) s (fun t => t = s.setLed m { s.led m with lit := false })) ∧
  (∀ (s : State) (m : Nat) (a : Act), lightBits.contains m = true → (s.led m).starting = some a → Answers (.stringStartTimeEnd
    m) s (fun t => (t.led m).starting = none ∧ t.out (m + 128) = 1 ∧ (t.led m).pstart = slotAt 160 s.now)) ∧
  (∀ (s : State) (v : Nat), Answers (.vledStop v) s (fun t => t.get F.LGT_STAT_VLOW = 1 ∧ t.get F.LGT_STAT_VLED = min 1023 v ∧
    (List.range 16).all (fun m => t.out (m + 128) == 0 && bit (t.chan (m + 128)).prot pSupply && t.get F.LGT_SDIAG_RESULT m ==
    6) = true)) ∧
  (∀ (s : State) (v : Nat), Answers (.vledResume v) s (fun t => t.get F.LGT_STAT_VLOW = 0 ∧ t.get F.LGT_STAT_VLED = min 1023 v
    ∧ lightBits.all (fun m => !bit (t.chan (m + 128)).prot pSupply) = true)) ∧
  (∀ (s : State) (tj : Nat), tj < 256 → Answers (.ledDieShutdown tj) s (fun t => t.get F.LGT_STAT_TSHUT = 1 ∧ t.get
    F.LGT_STAT_TJ = tj ∧ lightBits.all (fun m => t.out (m + 128) == 0 && bit (t.chan (m + 128)).prot pThermal) = true)) ∧
  (∀ (s : State) (tj : Nat) (warm : Bool), tj < 256 → Answers (.ledDieRelease tj warm) s (fun t => t.get F.LGT_STAT_TSHUT = 0
    ∧ t.get F.LGT_STAT_TWARN = (if warm then 1 else 0) ∧ t.get F.LGT_STAT_TJ = tj ∧ lightBits.all (fun m => !bit (t.chan (m +
    128)).prot pThermal) = true)) ∧
  (∀ (s : State) (g v : Nat), g < 96 → s.out (160 + g) ≠ 0 → s.out (128 + g / 12) ≠ 0 → Answers (.segmentShort g v) s (fun t
    => t.get F.LGT_MXDIAG_VSEG g = min 255 v ∧ t.get F.LGT_MXDIAG_RESULT g = 3 ∧ t.get F.LGT_SDIAG_RESULT (g / 12) = 7 ∧ t.out
    (160 + g) = s.out (160 + g))) ∧
  (∀ (s : State) (g v : Nat), g < 96 → s.out (160 + g) ≠ 0 → s.get F.LGT_SCFG_OPENBYP (g / 12) ≠ 0 → Answers (.segmentBypass g
    v) s (fun t => t.get F.LGT_MXDIAG_VSEG g = min 255 v ∧ t.get F.LGT_MXDIAG_RESULT g = 2 ∧ t.out (160 + g) = 0 ∧ bit (t.chan
    (160 + g)).prot pBypass = true ∧ t.oneMore s F.LGT_SCNT_BYPASS (g / 12))) ∧
  (∀ (s : State) (q temp i : Nat), q < 12 → 3 * q ≤ i → i < 3 * q + 3 → temp % 256 ≠ 0x80 → s.curveOk (s.get F.LGT_DIM_CURVE
    (128 + i)) = true → signedOf 8 temp ≤ s.curveT (s.get F.LGT_DIM_CURVE (128 + i)) 0 → Answers (.gainUpdate q temp) s (fun t
    => t.get F.LGT_AMDIAG_GAIN i = s.curveG (s.get F.LGT_DIM_CURVE (128 + i)) 0 ∧ bitsOf (t.word .LGT_TRIT 0 0 (q / 4)) (8 *
    (q % 4) + 7) (8 * (q % 4)) = temp % 256)) ∧
  (∀ (s : State) (m v : Nat), m < 16 → s.out (m + 128) ≠ 0 → s.anyLit m = true → Answers (.stringShort m v) s (fun t => t.out
    (m + 128) = 0 ∧ bit (t.chan (m + 128)).prot pOff = true ∧ t.get F.LGT_SPROT_LATCH m = 1 ∧ t.get F.LGT_SPROT_CAUSE m = 1 ∧
    t.get F.LGT_SDIAG_RESULT m = 3 ∧ t.oneMore s F.LGT_SCNT_SHORTS m ∧ t.get F.LGT_SDIAG_VOUT m = min 1023 v)) ∧
  (∀ (s : State) (m v idrv : Nat), m < 16 → s.out (m + 128) ≠ 0 → Answers (.stringOpen m v idrv) s (fun t => t.out (m + 128) =
    0 ∧ bit (t.chan (m + 128)).prot pOff = true ∧ t.get F.LGT_SPROT_LATCH m = 1 ∧ t.get F.LGT_SPROT_CAUSE m = 2 ∧ t.get
    F.LGT_SDIAG_RESULT m = 2 ∧ t.oneMore s F.LGT_SCNT_OPENS m ∧ t.get F.LGT_SDIAG_IDRV m = min 0xFFF idrv)) ∧
  (∀ (s : State) (m i : Nat), i < 36 → m = 128 + i → s.out (256 + i) ≠ 0 → Answers (.amPinOvervoltage i) s (fun t => t.out (m
    + 128) = 0 ∧ bit (t.chan (m + 128)).prot pOff = true ∧ t.get F.LGT_APROT_LATCH i = 1 ∧ t.get F.LGT_APROT_CAUSE i = 4 ∧
    t.get F.LGT_AMDIAG_RESULT i = 3)) ∧
  (∀ (s : State) (i : Nat), i < 36 → s.out (256 + i) ≠ 0 → Answers (.amLowHeadroom i) s (fun t => t.get F.LGT_AMDIAG_RESULT i
    = 2 ∧ t.out (256 + i) = s.out (256 + i) ∧ (t.chan (256 + i)).prot = (s.chan (256 + i)).prot)) ∧
  (∀ (s : State) (init : Init) (m : Nat), m < 16 → s.domOn domFAB = true → s.blockOn 5 = true → s.mayWrite init .LGT_SPROT m =
    true → Answers (.ledProtClear init m) s (fun t => t.get F.LGT_SPROT_LATCH m = 0 ∧ bit (t.chan (m + 128)).prot pOff = false
    ∧ (segBits m).all (fun g => !bit (t.chan (g + 128)).prot pBypass) = true)) ∧
  (∀ (s : State) (init : Init) (m : Nat), 128 ≤ m → m < 164 → s.domOn domFAB = true → s.blockOn 5 = true → s.mayWrite init
    .LGT_APROT (m - 128) = true → Answers (.ledProtClear init m) s (fun t => t.get F.LGT_APROT_LATCH (m - 128) = 0 ∧ bit
    (t.chan (m + 128)).prot pOff = false))

/-- R368 to R378, R382 to R386, R630: windows, stencils and the neighbour-pin test. -/
def Obligations.WindowsStencilsAndNeighbourTestComplete : Prop :=
  (∀ (s : State) (k m e : Nat) (l : List Nat), k < 4 → Sparse.at s.lgt.windows k [] = e :: l → s.get F.LGT_EXPW_ACTIVE k = 1 →
    e + s.get F.LGT_EXPW_OFFS k * 160 ≤ s.now → lightBits.contains m = true → s.follows m k = true → (s.led m).open_ = none →
    Answers (.windowOpening k) s (fun t => (t.led m).open_ = some (e + s.get F.LGT_EXPW_OFFS k * 160 + s.get F.LGT_EXPW_LEN k
    * 160) ∧ (t.led m).opens.head? = some (e + s.get F.LGT_EXPW_OFFS k * 160) ∧ Sparse.at t.lgt.windows k [] = l)) ∧
  (∀ (s : State) (k m e : Nat), lightBits.contains m = true → s.follows m k = true → (s.led m).open_ = some e → e ≤ s.now →
    (s.led m).heldActs = [] → Answers (.windowClosing k) s (fun t => (t.led m).open_ = none)) ∧
  (∀ (s : State) (k : Nat), k < 4 → s.expActive k = false → Answers (.exposureWindowLapse k) s (fun t => t.get
    F.LGT_EXPW_ACTIVE k = 0 ∧ t.lgt = s.lgt)) ∧
  (∀ (s : State) (init : Init) (i : Nat), i < 16 → s.domOn domFAB = true → s.blockOn 5 = true → s.mayWrite init .LGT_STNCTL i
    = true → s.get F.LGT_STNSTAT_STATE i ≠ 1 → s.get F.LGT_STNSTAT_STATE i ≠ 2 → s.get F.LGT_STNCTL_AT i = 0 → 0x21 ∉
    s.boot.missing → Answers (.stencilGo init i) s (fun t => t.get F.LGT_STNSTAT_STATE i = 2 ∧ t.get F.LGT_STNSTAT_STEP i = 0
    ∧ t.get F.LGT_STNSTAT_ERR i = 0 ∧ (t.stn i).next = slotAfter 160 s.now ∧ (t.stn i).prog = s.get F.LGT_STNCTL_PROG i)) ∧
  (∀ (s : State) (init : Init) (i : Nat), i < 16 → s.domOn domFAB = true → s.blockOn 5 = true → s.mayWrite init .LGT_STNCTL i
    = true → s.get F.LGT_STNSTAT_STATE i = 1 ∨ s.get F.LGT_STNSTAT_STATE i = 2 → Answers (.stencilStop init i) s (fun t =>
    t.get F.LGT_STNSTAT_STATE i = 4 ∧ (t.stn i).ramp = none ∧ t.get F.LGT_STNSTAT_STEP i = s.get F.LGT_STNSTAT_STEP i)) ∧
  (∀ (s : State) (i u : Nat), i < 16 → s.get F.LGT_STNSTAT_STATE i = 1 → s.t0Of (s.stn i).scale (Int.ofNat (s.stn i).armedAt)
    = some u → u ≤ s.now → Answers (.stencilStart i) s (fun t => t.get F.LGT_STNSTAT_STATE i = 2 ∧ t.get F.LGT_STNSTAT_STEP i
    = 0 ∧ (t.stn i).next = (if u + 160 ≤ s.now then slotAt 160 s.now else u))) ∧
  (∀ (s : State) (i a : Nat), i < 16 → s.get F.LGT_STNSTAT_STATE i = 2 → (s.stn i).next ≤ s.now → (s.stn i).ramp = none →
    (s.stn i).zero < 63 → 0x405A0000 + 512 * (s.stn i).prog + 8 * (s.stn i).step = a → bitsOf (s.rd32 a) 31 28 = 3 → bitsOf
    (s.rd32 a) 27 24 = 0 → bitsOf (s.rd32 a) 7 6 = 0 → Answers (.stencilStep i false) s (fun t => t.get F.LGT_STNSTAT_STATE i
    = 2 ∧ t.get F.LGT_STNSTAT_STEP i = (s.stn i).step % 64 ∧ (t.stn i).step = ((s.stn i).step + 1) % 64 ∧ (t.stn i).next =
    (s.stn i).next + bitsOf (s.rd32 (a + 4)) 15 0 * 100 * usUnits)) ∧
  (∀ (s : State) (i a : Nat), i < 16 → s.get F.LGT_STNSTAT_STATE i = 2 → (s.stn i).next ≤ s.now → (s.stn i).ramp = none →
    0x405A0000 + 512 * (s.stn i).prog + 8 * (s.stn i).step = a → bitsOf (s.rd32 a) 31 28 = 0 → bitsOf (s.rd32 a) 27 24 = 0 →
    bitsOf (s.rd32 a) 7 6 = 0 → Answers (.stencilStep i false) s (fun t => t.get F.LGT_STNSTAT_STATE i = 3 ∧ t.get
    F.LGT_STNSTAT_ERR i = 0)) ∧
  (∀ (s : State) (i m l : Nat) (r : Ramp), s.get F.LGT_STNSTAT_STATE i = 2 → (s.stn i).ramp = some r → s.now < r.start + r.dur
    → r.levels = [(m, l)] → m < 16 → s.get F.LGT_STATE_LOCKED m = 0 → l = r.level → l < 65536 → (s.chan (m + 128)).last.all
    (fun q => q.slot != slotAt 160 s.now) = true → Answers (.rampUpdate i) s (fun t => t.get F.LGT_STATE_LEVEL m = l ∧ (t.stn
    i).ramp = some r)) ∧
  (∀ (s : State) (init : Init) (mask : Nat), s.domOn domFAB = true → s.blockOn 5 = true → s.mayWrite init .LGT_CTL 0 = true →
    s.get F.LGT_STAT_NTBUSY = 0 → (bitList 16 (mask % 65536)).filter (fun n => s.out (n + 128) == 0 && (s.led
    n).starting.isNone) ≠ [] → Answers (.neighbourTestRequest init mask) s (fun t => t.get F.LGT_STAT_NTBUSY = 1 ∧
    t.lgt.testing = (bitList 16 (mask % 65536)).filter (fun n => s.out (n + 128) == 0 && (s.led n).starting.isNone) ∧
    t.lgt.testing.all (fun n => bit (t.chan (n + 128)).prot pTest) = true)) ∧
  (∀ (s : State) (init : Init), s.domOn domFAB = true → s.blockOn 5 = true → s.mayWrite init .LGT_CTL 0 = true → s.get
    F.LGT_STAT_NTBUSY = 0 → (List.range 16).filter (fun n => s.out (n + 128) == 0 && (s.led n).starting.isNone) ≠ [] → Answers
    (.neighbourTestFull init) s (fun t => t.get F.LGT_STAT_NTBUSY = 1 ∧ t.lgt.testing = (List.range 16).filter (fun n => s.out
    (n + 128) == 0 && (s.led n).starting.isNone))) ∧
  (∀ (s : State) (a b m : Nat), s.get F.LGT_STAT_NTBUSY = 1 → s.lgt.testing.contains m = true → m < 16 → pinOf a = some (m,
    true) → pinOf b = some (m, true) → neighbours a b = true → s.out (m + 128) = 0 → m ∉ s.lgt.testFail → a < 1024 → b < 1024
    → Answers (.neighbourPairTest a b true) s (fun t => t.get F.LGT_NT_PINA m = a ∧ t.get F.LGT_NT_PINB m = b ∧ t.lgt.testFail
    = m :: s.lgt.testFail ∧ bit (t.chan (m + 128)).prot pOff = true ∧ t.get F.LGT_SPROT_CAUSE m = 3)) ∧
  (∀ (s : State) (m : Nat), s.get F.LGT_STAT_NTBUSY = 1 → s.lgt.testing = [m] → m < 16 → Answers (.neighbourTestEnd) s (fun t
    => t.get F.LGT_STAT_NTBUSY = 0 ∧ t.get F.LGT_NT_NTRES m = (if s.lgt.testFail.contains m then 2 else if s.lgt.testPassed
    then 3 else 1) ∧ t.lgt.testing = [] ∧ bit (t.chan (m + 128)).prot pTest = false)) ∧
  (∀ (s : State) (i : Nat), i < 16 → s.get F.LGT_STNSTAT_STATE i = 2 → (s.stn i).next ≤ s.now → Answers (.stencilStep i true)
    s (fun t => t.get F.LGT_STNSTAT_STATE i = 5 ∧ t.get F.LGT_STNSTAT_ERR i = 1 ∧ (t.stn i).ramp = none ∧ t.oneMore s
    F.ERR_BLK2_UNCORR 5))

/-- R395 to R410: what each command of the field inputs leaves. -/
def Obligations.FieldInputsComplete : Prop :=
  (∀ (s : State) (i : Nat) (high : Bool), i < 88 → s.finRuns = true → s.analogue i = false → s.on F.FIN_CFG_POL i = true ∨
    s.get F.PMU_SUPPLY_ZONE ≠ 0 → Answers (.inputThresholdCrossing i high) s (fun t => t.on F.FIN_STATE_RAW i = ((high == s.on
    F.FIN_CFG_POL i) != s.on F.FIN_CFG_INV i) ∧ (t.fin_ i).pin = some high ∧ t.get F.FIN_STATE_STATE i = s.get
    F.FIN_STATE_STATE i)) ∧
  (∀ (s : State) (i : Nat), i < 96 → s.finRuns = true → s.on F.FIN_STATE_RAW i ≠ s.on F.FIN_STATE_STATE i → s.filtDue i ≤
    s.now → Answers (.filterElapsed i) s (fun t => t.on F.FIN_STATE_STATE i = s.on F.FIN_STATE_RAW i ∧ t.oneMore s
    F.FIN_STATE_TOGGLES i ∧ t.on F.FIN_STATE_RAW i = s.on F.FIN_STATE_RAW i)) ∧
  (∀ (s : State) (init : Init) (i v : Nat), i < 96 → s.domOn domFAB = true → s.blockOn 6 = true → s.mayWrite init .FIN_FILT i
    = true → Answers (.filtWrite init i v) s (fun t => t.get F.FIN_FILT_FILT i = v % 65536 ∧ t.fin = s.fin)) ∧
  (∀ (s : State) (i e : Nat), i < 96 → (s.fin_ i).cleanEnd = some e → e ≤ s.now → s.get F.FIN_STATE_CLNW i = 0 → Answers
    (.cleaningPulseEnd i) s (fun t => t.get F.FIN_STATE_CLNACT i = 0 ∧ (t.fin_ i).cleanEnd = none ∧ t.get F.FIN_STATE_STATE i
    = s.get F.FIN_STATE_STATE i)) ∧
  (∀ (s : State) (i e : Nat), i < 96 → (s.fin_ i).waitFrom = some e → e + 20 * msUnits ≤ s.now → Answers (.cleaningWaitDrop i)
    s (fun t => t.get F.FIN_STATE_CLNW i = 0 ∧ (t.fin_ i).waitFrom = none ∧ t.oneMore s F.FIN_STAT_CLNDROP)) ∧
  (∀ (s : State) (i uv v : Nat), s.analogue i = true → s.finRuns = true → (s.fin_ i).convAt ≤ s.now → min 0xFFF (uv / (if s.on
    F.FIN_ACFG_RANGE i then 10000 else 1250)) = v → Answers (.analogueConversion i uv) s (fun t => t.get F.FIN_AVAL_VALUE i =
    v ∧ t.get F.FIN_AVAL_SEQ i = (s.get F.FIN_AVAL_SEQ i + 1) % 65536 ∧ (t.fin_ i).convAt = s.now + max 1 (s.get
    F.FIN_ACFG_SPER i) * 100 * usUnits ∧ (s.on F.FIN_CFG_POL i = true ∨ s.get F.PMU_SUPPLY_ZONE ≠ 0 → s.get F.FIN_ATHR_LO i ≤
    s.get F.FIN_ATHR_HI i → s.get F.FIN_ATHR_HI i ≤ v → t.on F.FIN_STATE_RAW i = !s.on F.FIN_CFG_INV i) ∧ t.get
    F.FIN_STATE_STATE i = s.get F.FIN_STATE_STATE i)) ∧
  (∀ (s : State) (init : Init) (i hi lo : Nat), 64 ≤ i → i < 88 → s.domOn domFAB = true → s.blockOn 6 = true → s.mayWrite init
    .FIN_ATHR i = true → Answers (.athrWrite init i hi lo) s (fun t => t.get F.FIN_ATHR_HI i = hi % 4096 ∧ t.get F.FIN_ATHR_LO
    i = lo % 4096)) ∧
  (∀ (s : State) (i : Nat) (high : Bool), 88 ≤ i → i < 96 → s.finRuns = true → s.on F.FIN_CFG_POL i = true ∨ s.get
    F.PMU_SUPPLY_ZONE ≠ 0 → s.get F.FIN_CFG_STAMP i = 0 → Answers (.fastInputEdge i high) s (fun t => t.on F.FIN_STATE_RAW i =
    ((high == s.on F.FIN_CFG_POL i) != s.on F.FIN_CFG_INV i) ∧ (t.fin_ i).pin = some high ∧ t.words .FIN_FSTAMP (i - 88) 0 =
    s.words .FIN_FSTAMP (i - 88) 0)) ∧
  (∀ (s : State) (g w per : Nat) (found : List Nat), Sparse.get s.fin.groups g = some w → s.burstPeriod w = some per →
    s.parked = true → Sparse.at s.fin.next g 0 ≤ s.now → Answers (.pollingBurst g found) s (fun t => Sparse.get t.fin.next g =
    some (s.now + per) ∧ t.fin.confirm = (if (s.groupInputs g).all (fun c => burstRaw found c == c.2.2) then s.fin.confirm
    else s.fin.confirm ++ [(g, ((s.groupInputs g).filter (fun c => burstRaw found c != c.2.2)).map (fun c => c.1), s.now +
    msUnits)]) ∧ t.regs = s.regs)) ∧
  (∀ (s : State) (g d : Nat) (diff found : List Nat) (rest : List (Nat × List Nat × Nat)), g < 8 → s.fin.confirm = (g, diff,
    d) :: rest → d ≤ s.now → s.parked = true → (s.groupInputs g).any (fun c => diff.contains c.1 && (burstRaw found c !=
    c.2.2)) = true → Answers (.confirmingBurst found) s (fun t => t.get F.FIN_STAT_LASTGRP = g ∧ t.oneMore s
    F.FIN_STAT_POLLWAKE ∧ t.fin.confirm = rest))

/-- R437 to R440, R630: what each command of the LIN masters leaves. -/
def Obligations.LinCommandsComplete : Prop :=
  (∀ (s : State) (init : Init) (l : Nat), l < 12 → s.domOn domFAB = true → s.blockOn 8 = true → s.mayWrite init .LIN_SCHCTL l
    = true → s.get F.LIN_SCHCTL_RUN l = 0 → Answers (.linScheduleRun init l) s (fun t => t.get F.LIN_SCHCTL_RUN l = 1 ∧ t.get
    F.LIN_SCHCTL_ACT l = s.get F.LIN_SCHCTL_SEL l ∧ t.get F.LIN_SCHCTL_ENTRY l = 0 ∧ t.get F.LIN_SCHCTL_COLLRUN l = 0 ∧
    (t.lin_ l).pos = (s.get F.LIN_SCHCTL_SEL l, 0) ∧ (Sparse.get s.nwk.linWake l = none → (t.lin_ l).next = s.now))) ∧
  (∀ (s : State) (l a e f : Nat), l < 12 → a < 4 → e < 64 → s.domOn domBUS = true → s.get F.LIN_SCHCTL_RUN l = 1 → (s.lin_
    l).pos = (a, e) → (s.lin_ l).next ≤ s.now → s.get F.LIN_SCHCTL_SWREQ l = 0 → (s.lin_ l).collTo = none → s.linSends l =
    true → s.get F.LIN_STAT_BUSY l = 0 → s.get F.LIN_ENT_TYPE l (64 * a + e) = 1 → s.get F.LIN_ENT_FID l (64 * a + e) = f →
    s.get F.LIN_FCFG_EN l f = 1 → Answers (.linSlotStart l) s (fun t => t.get F.LIN_SCHCTL_ACT l = a ∧ t.get
    F.LIN_SCHCTL_ENTRY l = e ∧ t.get F.LIN_STAT_BUSY l = 1 ∧ (t.lin_ l).frame = some ⟨f, 1, s.get F.LIN_ENT_COLL l (64 * a +
    e), s.now⟩ ∧ (t.lin_ l).next = (s.lin_ l).next + max 1 (s.get F.LIN_ENT_SLOT l (64 * a + e)) * 100 * usUnits ∧ (t.lin_
    l).pos = (a, e + 1))) ∧
  (∀ (s : State) (l a e : Nat), l < 12 → a < 4 → e < 64 → s.domOn domBUS = true → s.get F.LIN_SCHCTL_RUN l = 1 → (s.lin_
    l).pos = (a, e) → (s.lin_ l).next ≤ s.now → s.get F.LIN_SCHCTL_SWREQ l = 0 → (s.lin_ l).collTo = none → s.linSends l =
    true → s.get F.LIN_STAT_BUSY l = 1 → s.get F.LIN_ENT_TYPE l (64 * a + e) ≠ 0 → Answers (.linSlotStart l) s (fun t =>
    t.oneMore s F.LIN_STAT_SLOTOVR l ∧ (t.lin_ l).waiting = some (a, e) ∧ (t.lin_ l).frame = (s.lin_ l).frame)) ∧
  (∀ (s : State) (l : Nat) (data : List Byte) (f : LinTx), l < 12 → (s.lin_ l).frame = some f → f.typ ≠ 2 → f.fid < 64 →
    s.linPublish l f.fid = true → (s.lin_ l).waiting = none → Answers (.linFrameEnd l 0 data false) s (fun t => (t.lin_
    l).frame = none ∧ t.get F.LIN_STAT_BUSY l = 0 ∧ t.get F.LIN_FR_ERR l f.fid = 0 ∧ t.get F.LIN_FR_SEQ l f.fid = (s.get
    F.LIN_FR_SEQ l f.fid + 1) % 65536 ∧ t.get F.LIN_FR_DATA l f.fid = s.get F.LIN_FR_DATA l f.fid)) ∧
  (∀ (s : State) (l err : Nat) (data : List Byte) (f : LinTx), l < 12 → 2 ≤ err → err ≤ 5 → (s.lin_ l).frame = some f → f.typ
    ≠ 2 → f.fid < 64 → (s.lin_ l).waiting = none → Answers (.linFrameEnd l err data false) s (fun t => (t.lin_ l).frame = none
    ∧ t.get F.LIN_FR_ERR l f.fid = err ∧ t.get F.LIN_FR_NEW l f.fid = s.get F.LIN_FR_NEW l f.fid ∧ t.get F.LIN_FR_DATA l f.fid
    = s.get F.LIN_FR_DATA l f.fid ∧ (err = 3 → t.oneMore s F.LIN_ECNT_CHKSUM l) ∧ (err = 5 → t.oneMore s F.LIN_ECNT_FRAMING
    l))) ∧
  (∀ (s : State) (l : Nat) (f : LinTx), l < 12 → (s.lin_ l).frame = some f → f.typ ≠ 2 → f.fid < 64 → s.linPublish l f.fid =
    false → s.linDeadline l f ≤ s.now → (s.lin_ l).waiting = none → Answers (.linNoResponse l) s (fun t => t.oneMore s
    F.LIN_ECNT_NORESP l ∧ t.get F.LIN_FR_ERR l f.fid = 1 ∧ (t.lin_ l).frame = none ∧ t.get F.LIN_STAT_BUSY l = 0)) ∧
  (∀ (s : State) (init : Init) (l : Nat), l < 12 → s.domOn domFAB = true → s.blockOn 8 = true → s.mayWrite init .LIN_SCHCTL l
    = true → s.get F.LIN_SCHCTL_RUN l = 1 → Answers (.linTableSwitch init l) s (fun t => t.get F.LIN_SCHCTL_SWREQ l = 1 ∧
    t.get F.LIN_SCHCTL_ACT l = s.get F.LIN_SCHCTL_ACT l ∧ t.lin = s.lin)) ∧
  (∀ (s : State) (l : Nat) (data : List Byte) (f : LinTx), l < 12 → (s.lin_ l).frame = some f → f.typ ≠ 2 → f.fid < 64 →
    s.linPublish l f.fid = false → (s.lin_ l).waiting = none → Answers (.linFrameEnd l 0 data true) s (fun t => (t.lin_
    l).frame = none ∧ t.get F.LIN_STAT_BUSY l = 0 ∧ t.get F.LIN_FR_ERR l f.fid = 1 ∧ t.get F.LIN_FR_NEW l f.fid = s.get
    F.LIN_FR_NEW l f.fid ∧ t.get F.LIN_FR_DATA l f.fid = s.get F.LIN_FR_DATA l f.fid ∧ t.oneMore s F.ERR_BLK2_UNCORR 8))

/-- R417 to R432, R630: what each command of the CAN controllers leaves. -/
def Obligations.CanCommandsComplete : Prop :=
  (∀ (s : State) (init : Init) (c : Nat), c < 10 → s.domOn domFAB = true → s.blockOn 7 = true → s.mayWrite init .CAN_CTL c =
    true → s.canTimingOk c = true → Answers (.canEnable init c) s (fun t => t.get F.CAN_CTL_EN c = 1 ∧ t.get F.CAN_STAT_BADTIM
    c = s.get F.CAN_STAT_BADTIM c ∧ t.can = s.can)) ∧
  (∀ (s : State) (init : Init) (c : Nat), c < 10 → s.domOn domFAB = true → s.blockOn 7 = true → s.mayWrite init .CAN_CTL c =
    true → s.get F.CAN_CTL_EN c = 0 → s.canTimingOk c = false → Answers (.canEnable init c) s (fun t => t.get F.CAN_CTL_EN c =
    0 ∧ t.get F.CAN_STAT_BADTIM c = 1)) ∧
  (∀ (s : State) (c id dlc sof : Nat) (ide fdf brs esi rtr : Bool) (data : List Byte) (k : Nat), s.canOn c = true → fdf =
    false ∨ s.get F.CAN_CTL_FDEN c = 1 → (s.can_ c).edge = none → (List.range 4).all (fun p => bitsOf (s.word .CAN_PBID c p 0)
    31 31 != 1) = true → k < 128 → s.get F.CAN_MBID_DIR c k = 1 → (List.range k).all (fun j => s.get F.CAN_MBID_DIR c j != 1)
    = true → frMatches (frameWords id ide fdf brs esi rtr dlc data (t0Words (sof / 200 * 200))) (s.on F.CAN_MBID_IDE c k)
    (s.get F.CAN_MBID_ID c k) (s.get F.CAN_MBMSK_MASK c k) = true → s.locked .CAN_MB c k = false → Answers (.frameAcceptance c
    id dlc ide fdf brs esi rtr sof data false) s (fun t => (List.range 23).all (fun w => t.word .CAN_MB c k w == (frameWords
    id ide fdf brs esi rtr dlc data (t0Words (sof / 200 * 200))).getD w 0) = true ∧ t.get F.CAN_MB_NEW c k = 1 ∧ t.get
    F.CAN_MB_SEQ c k = (s.get F.CAN_MB_SEQ c k + 1) % 65536 ∧ t.get F.CAN_STAT_BUSY c = 0)) ∧
  (∀ (s : State) (c id dlc sof : Nat) (ide fdf brs esi rtr : Bool) (data : List Byte), s.canOn c = true → fdf = false ∨ s.get
    F.CAN_CTL_FDEN c = 1 → (s.can_ c).edge = none → (List.range 4).all (fun p => bitsOf (s.word .CAN_PBID c p 0) 31 31 != 1) =
    true → (List.range 128).all (fun k => s.get F.CAN_MBID_DIR c k != 1) = true → s.get F.CAN_FIFOCTL_EN c = 1 → s.get
    F.CAN_FIFOCTL_ALL c = 1 → (s.can_ c).fifo.length < 64 → Answers (.frameAcceptance c id dlc ide fdf brs esi rtr sof data
    false) s (fun t => (t.can_ c).fifo = (s.can_ c).fifo ++ [(frameWords id ide fdf brs esi rtr dlc data (t0Words (sof / 200 *
    200))).take 23 ++ [BitVec.ofNat 32 (2 ^ 31 + ((s.can_ c).fseq + 1) % 65536)]] ∧ t.get F.CAN_FIFOCTL_FILL c = (s.can_
    c).fifo.length + 1)) ∧
  (∀ (s : State) (c id dlc sof : Nat) (ide fdf brs esi rtr : Bool) (data : List Byte), s.canOn c = true → fdf = false ∨ s.get
    F.CAN_CTL_FDEN c = 1 → (s.can_ c).edge = none → (List.range 4).all (fun p => bitsOf (s.word .CAN_PBID c p 0) 31 31 != 1) =
    true → (List.range 128).all (fun k => s.get F.CAN_MBID_DIR c k != 1) = true → s.get F.CAN_FIFOCTL_EN c = 0 → Answers
    (.frameAcceptance c id dlc ide fdf brs esi rtr sof data false) s (fun t => t.oneMore s F.CAN_ECNT1_RXDROP c ∧ t.mem =
    s.mem)) ∧
  (∀ (s : State) (init : Init) (c : Nat), c < 10 → s.domOn domFAB = true → s.blockOn 7 = true → s.ownRead init .CAN_FIFO c =
    true → (s.can_ c).fifo.length ≤ 64 → s.bus.slots = [] → Answers (.fifoEntryRemove init c false) s (fun t => (t.can_
    c).fifo = (s.can_ c).fifo.drop 1 ∧ t.get F.CAN_FIFOCTL_FILL c = (s.can_ c).fifo.length - 1)) ∧
  (∀ (s : State) (init : Init) (c k : Nat) (ws : List Word), c < 10 → k < 128 → s.domOn domFAB = true → s.blockOn 7 = true →
    s.mayWrite init .CAN_MB c = true → s.get F.CAN_MBID_DIR c k = 2 → (s.can_ c).tx = none → ws.length = 24 → bitsOf (ws.getD
    1 0) 31 30 = 0 → bitsOf (ws.getD 23 0) 30 30 = 0 → Answers (.transmitRequest init c k ws) s (fun t => t.get F.CAN_MB_TXREQ
    c k = 1 ∧ t.get F.CAN_MB_DONE c k = 0 ∧ t.get F.CAN_MB_ID c k = bitsOf (ws.getD 0 0) 28 0 ∧ t.get F.CAN_MB_DLC c k =
    bitsOf (ws.getD 1 0) 3 0 ∧ t.get F.CAN_MB_SEQ c k = s.get F.CAN_MB_SEQ c k)) ∧
  (∀ (s : State) (init : Init) (c k : Nat), c < 10 → k < 128 → s.domOn domFAB = true → s.blockOn 7 = true → s.mayWrite init
    .CAN_MB c = true → s.get F.CAN_MBID_DIR c k = 2 → (s.can_ c).tx = none → s.get F.CAN_MB_TXREQ c k = 1 → Answers
    (.transmitAbort init c k) s (fun t => t.get F.CAN_MB_TXREQ c k = 0 ∧ t.get F.CAN_MB_DONE c k = 1 ∧ t.get F.CAN_MB_RES c k
    = 1)) ∧
  (∀ (s : State) (init : Init) (c k : Nat) (x : CanTx), c < 10 → k < 128 → s.domOn domFAB = true → s.blockOn 7 = true →
    s.mayWrite init .CAN_MB c = true → s.get F.CAN_MBID_DIR c k = 2 → (s.can_ c).tx = some x → x.buf = some k → Answers
    (.transmitAbort init c k) s (fun t => (t.can_ c).tx = some { x with abort := true } ∧ t.regs = s.regs)) ∧
  (∀ (s : State) (c k key : Nat), s.canOn c = true → s.trc c = 0 → s.get F.CAN_STAT_ROMACT c = 0 → s.get F.CAN_STAT_BUSY c = 0
    → (s.can_ c).wait.all (fun e => decide (e ≤ s.now)) = true → (s.can_ c).gq = [] → s.firstBuf c = some (key, k) → Answers
    (.arbitration c false) s (fun t => (t.can_ c).tx = some ⟨some k, none, s.now, false, none⟩ ∧ t.get F.CAN_STAT_BUSY c = 1 ∧
    t.get F.CAN_MB_TXREQ c k = s.get F.CAN_MB_TXREQ c k)) ∧
  (∀ (s : State) (c k delay sof : Nat), c < 10 → k < 128 → (s.can_ c).tx = some ⟨some k, none, sof, false, none⟩ → s.get
    F.CAN_MB_TXREQ c k = 1 → s.get F.CAN_CTL_LOOP c = 0 → Answers (.transmitSuccess c delay) s (fun t => (t.can_ c).tx = none
    ∧ t.get F.CAN_MB_TXREQ c k = 0 ∧ t.get F.CAN_MB_DONE c k = 1 ∧ t.get F.CAN_MB_RES c k = 0 ∧ t.get F.CAN_MB_SEQ c k =
    (s.get F.CAN_MB_SEQ c k + 1) % 65536 ∧ t.get F.CAN_STAT_BUSY c = 0 ∧ t.get F.CAN_ERRC_TEC c = (if s.canFrozen c then s.get
    F.CAN_ERRC_TEC c else s.get F.CAN_ERRC_TEC c - 1))) ∧
  (∀ (s : State) (c k sof : Nat), c < 10 → k < 128 → (s.can_ c).tx = some ⟨some k, none, sof, false, none⟩ → s.get
    F.CAN_MB_TXREQ c k = 1 → Answers (.arbitrationLost c) s (fun t => (t.can_ c).tx = none ∧ (t.can_ c).edge = some sof ∧ (if
    s.get F.CAN_CTL_DAR c = 0 then t.get F.CAN_MB_TXREQ c k = 1 else t.get F.CAN_MB_TXREQ c k = 0 ∧ t.get F.CAN_MB_RES c k =
    2))) ∧
  (∀ (s : State) (c cls : Nat) (dataPhase : Bool), 1 ≤ cls → cls ≤ 6 → s.canOn c = true → (s.can_ c).tx = none → s.canFrozen c
    = false → s.get F.CAN_ERRC_TEC c ≤ 255 → s.get F.CAN_ERRC_REC c < 127 → Answers (.busError c cls 0 dataPhase) s (fun t =>
    t.get (if dataPhase then F.CAN_STAT_DLEC else F.CAN_STAT_LEC) c = cls ∧ t.get F.CAN_ERRC_REC c = s.get F.CAN_ERRC_REC c +
    1 ∧ t.get F.CAN_ERRC_TEC c = s.get F.CAN_ERRC_TEC c ∧ (cls = 6 → t.oneMore s F.CAN_ECNT0_CRC c) ∧ (cls = 3 → t.oneMore s
    F.CAN_ECNT1_ACK c) ∧ t.get F.CAN_STAT_BUSY c = 0)) ∧
  (∀ (s : State) (c k sof cls kind : Nat) (dataPhase : Bool), 1 ≤ cls → cls ≤ 6 → kind ≠ 2 → s.canOn c = true → k < 128 →
    (s.can_ c).tx = some ⟨some k, none, sof, false, none⟩ → s.get F.CAN_CTL_DAR c = 0 → s.canFrozen c = false → s.get
    F.CAN_ERRC_TEC c ≤ 247 → Answers (.busError c cls kind dataPhase) s (fun t => t.get F.CAN_ERRC_TEC c = s.get
    F.CAN_ERRC_TEC c + 8 ∧ t.get F.CAN_MB_TXREQ c k = s.get F.CAN_MB_TXREQ c k ∧ (t.can_ c).tx = none ∧ t.get F.CAN_STAT_BUSY
    c = 0)) ∧
  (∀ (s : State) (c cls kind : Nat) (x : CanTx) (dataPhase : Bool), 1 ≤ cls → cls ≤ 6 → kind ≠ 2 → s.canOn c = true → (s.can_
    c).tx = some x → x.held = none → s.canFrozen c = false → 248 ≤ s.get F.CAN_ERRC_TEC c → s.get F.CAN_ERRC_TEC c ≤ 255 →
    Answers (.busError c cls kind dataPhase) s (fun t => t.get F.CAN_STAT_ESTATE c = (if s.get F.CAN_CTL_BOAUTO c = 1 then 3
    else 2) ∧ t.oneMore s F.CAN_ECNT1_BUSOFF c ∧ t.oneMore s F.ERR_CUM_COUNT 28)) ∧
  (∀ (s : State) (init : Init) (c : Nat), c < 10 → s.domOn domFAB = true → s.blockOn 7 = true → s.mayWrite init .CAN_CTL c =
    true → s.get F.CAN_CTL_EN c = 1 → s.get F.CAN_STAT_ESTATE c = 2 → Answers (.busOffRecoveryRequest init c) s (fun t =>
    t.get F.CAN_STAT_ESTATE c = 3 ∧ t.get F.CAN_CTL_EN c = 1 ∧ t.can = s.can)) ∧
  (∀ (s : State) (c : Nat), c < 10 → s.get F.CAN_CTL_EN c = 1 → s.get F.CAN_STAT_ESTATE c = 3 → Answers (.busOffRecoveryEnd c)
    s (fun t => t.get F.CAN_STAT_ESTATE c = 0 ∧ t.get F.CAN_ERRC_TEC c = 0 ∧ t.get F.CAN_ERRC_REC c = 0 ∧ t.get F.CAN_ERRC_RP
    c = 0)) ∧
  (∀ (s : State) (c : Nat), s.canOn c = true → s.get F.CAN_STAT_BUSY c = 0 → Answers (.romChange c) s (fun t => t.get
    F.CAN_STAT_ROMACT c = s.get F.CAN_CTL_ROM c ∧ t.can = s.can)) ∧
  (∀ (s : State) (c : Nat), s.canOn c = true → s.get F.CAN_CTL_FDEN c = 0 → Answers (.protocolException c) s (fun t =>
    t.oneMore s F.CAN_ECNT1_PXE c ∧ (t.can_ c).wait = some (s.now + 11 * s.canBit c) ∧ (t.can_ c).tx = (s.can_ c).tx ∧ t.get
    F.CAN_ERRC_REC c = s.get F.CAN_ERRC_REC c)) ∧
  (∀ (s : State) (init : Init) (c k dir : Nat), c < 10 → k < 128 → dir < 4 → dir ≠ 2 → s.domOn domFAB = true → s.blockOn 7 =
    true → s.mayWrite init .CAN_MBID c = true → s.get F.CAN_MBID_DIR c k = 2 → s.get F.CAN_MB_TXREQ c k = 1 → Answers
    (.dirChange init c k dir) s (fun t => t.get F.CAN_MBID_DIR c k = dir ∧ t.get F.CAN_MB_TXREQ c k = 0 ∧ t.get F.CAN_MB_DONE
    c k = 1 ∧ t.get F.CAN_MB_RES c k = 1)) ∧
  (∀ (s : State) (init : Init) (c : Nat), c < 10 → s.domOn domFAB = true → s.domOn domBUS = true → s.ownsSpec init (.item 0x0E
    c) = true → (s.can_ c).fifo ≠ [] → s.bus.slots = [] → Answers (.fifoEntryRemove init c true) s (fun t => (t.can_ c).fifo =
    (s.can_ c).fifo.drop 1 ∧ t.oneMore s F.CAN_ECNT1_RXDROP c ∧ t.oneMore s F.ERR_BLK2_UNCORR 7)) ∧
  (∀ (s : State) (c k key : Nat), s.canOn c = true → s.trc c = 0 → s.get F.CAN_STAT_ROMACT c = 0 → s.get F.CAN_STAT_BUSY c = 0
    → (s.can_ c).wait.all (fun e => decide (e ≤ s.now)) = true → (s.can_ c).gq = [] → s.firstBuf c = some (key, k) → Answers
    (.arbitration c true) s (fun t => (t.can_ c).tx = (s.can_ c).tx ∧ t.get F.CAN_STAT_BUSY c = 0 ∧ t.get F.CAN_MB_TXREQ c k =
    0 ∧ t.get F.CAN_MB_DONE c k = 1 ∧ t.get F.CAN_MB_RES c k = 1 ∧ t.oneMore s F.ERR_BLK2_UNCORR 7)) ∧
  (∀ (s : State) (c id dlc sof : Nat) (ide fdf brs esi rtr : Bool) (data : List Byte) (k : Nat), s.canOn c = true → fdf =
    false ∨ s.get F.CAN_CTL_FDEN c = 1 → (s.can_ c).edge = none → (List.range 4).all (fun p => bitsOf (s.word .CAN_PBID c p 0)
    31 31 != 1) = true → k < 128 → s.get F.CAN_MBID_DIR c k = 1 → (List.range k).all (fun j => s.get F.CAN_MBID_DIR c j != 1)
    = true → frMatches (frameWords id ide fdf brs esi rtr dlc data (t0Words (sof / 200 * 200))) (s.on F.CAN_MBID_IDE c k)
    (s.get F.CAN_MBID_ID c k) (s.get F.CAN_MBMSK_MASK c k) = true → Answers (.frameAcceptance c id dlc ide fdf brs esi rtr sof
    data true) s (fun t => t.words .CAN_MB c k = s.words .CAN_MB c k ∧ t.oneMore s F.CAN_ECNT1_RXDROP c ∧ t.oneMore s
    F.ERR_BLK2_UNCORR 7))

/-- R448 to R466: what each command of network sleep and wake leaves. -/
def Obligations.SleepAndWakeCommandsComplete : Prop :=
  (∀ (s : State) (init : Init) (j : Nat), j < 22 → s.domOn domFAB = true → s.blockOn 9 = true → s.mayWrite init .NWK_TRC j =
    true → (s.nchan j).wokeAt = none → s.get F.NWK_CTL_AUTOPARK = 0 → 2 ≤ s.trc j → Answers (.modeNormal init j) s (fun t =>
    t.get F.NWK_TRC_STATE j = 0 ∧ t.get F.NWK_TRC_MODE j = 0)) ∧
  (∀ (s : State) (init : Init) (j : Nat), j < 22 → s.domOn domFAB = true → s.blockOn 9 = true → s.mayWrite init .NWK_TRC j =
    true → (s.nchan j).wokeAt = none → s.get F.NWK_CTL_AUTOPARK = 0 → s.trc j = 0 → s.get F.NWK_TRC_GOING j = 0 → Answers
    (.modeListenOnly init j) s (fun t => t.get F.NWK_TRC_STATE j = 0 ∧ t.get F.NWK_TRC_MODE j = 1 ∧ (t.nchan j).want = some
    1)) ∧
  (∀ (s : State) (init : Init) (j : Nat), j < 22 → s.domOn domFAB = true → s.blockOn 9 = true → s.mayWrite init .NWK_TRC j =
    true → (s.nchan j).wokeAt = none → s.get F.NWK_CTL_AUTOPARK = 0 → s.trc j = 0 → Answers (.modeStandby init j) s (fun t =>
    t.get F.NWK_TRC_STATE j = 0 ∧ t.get F.NWK_TRC_GOING j = 1 ∧ (t.nchan j).want = some 2)) ∧
  (∀ (s : State) (init : Init) (j : Nat), j < 22 → s.domOn domFAB = true → s.blockOn 9 = true → s.mayWrite init .NWK_TRC j =
    true → (s.nchan j).wokeAt = none → s.get F.NWK_CTL_AUTOPARK = 0 → s.trc j = 0 → Answers (.modeSleep init j) s (fun t =>
    t.get F.NWK_TRC_STATE j = 0 ∧ t.get F.NWK_TRC_GOING j = 1 ∧ (t.nchan j).want = some 3)) ∧
  (∀ (s : State) (init : Init) (j : Nat), j < 22 → s.domOn domFAB = true → s.blockOn 9 = true → s.mayWrite init .NWK_TRC j =
    true → (s.nchan j).wokeAt = none → s.get F.NWK_CTL_AUTOPARK = 0 → s.trc j = 2 → Answers (.modeSleep init j) s (fun t =>
    t.get F.NWK_TRC_STATE j = 3)) ∧
  (∀ (s : State) (j m : Nat), j < 22 → m < 4 → (if j < 10 then s.on F.CAN_STAT_BUSY j else s.on F.LIN_STAT_BUSY (j - 10)) =
    false → (s.nchan j).want = some m → s.get F.NWK_CTL_AUTOPARK = 0 → Answers (.busIdle j) s (fun t => t.get F.NWK_TRC_STATE
    j = m ∧ t.get F.NWK_TRC_GOING j = 0 ∧ (t.nchan j).want = none)) ∧
  (∀ (s : State) (j : Nat), j < 10 → s.watches j = true → (s.nchan j).wrote.all (fun w => w.1 / 200 != s.now / 200) = true →
    s.ncopy F.NWK_TRC_SWEN j = 0 → s.guarded j = false → Answers (.wakeUpPattern j) s (fun t => bit (t.get F.NWK_STAT_WOKE) j
    = true ∧ t.oneMore s F.NWK_CNT_WAKES j ∧ (t.nchan j).wokeAt = some s.now)) ∧
  (∀ (s : State) (j : Nat), j < 10 → s.watches j = true → (s.nchan j).wrote.all (fun w => w.1 / 200 != s.now / 200) = true →
    s.ncopy F.NWK_TRC_SWEN j = 0 → s.guarded j = true → (s.nchan j).cond = none → Answers (.wakeUpPattern j) s (fun t =>
    (t.nchan j).cond.map (fun x => (x.1, x.2.1, x.2.2.1)) = some (s.now + max 1 (s.ncopy F.NWK_CTL_PFILT) * msUnits, 0, s.now)
    ∧ t.regs = s.regs)) ∧
  (∀ (s : State) (j : Nat), 10 ≤ j → j < 22 → s.watches j = true → (s.nchan j).wrote.all (fun w => w.1 / 200 != s.now / 200) =
    true → s.guarded j = false → Answers (.linDominantWake j) s (fun t => bit (t.get F.NWK_STAT_WOKE) j = true ∧ t.oneMore s
    F.NWK_CNT_WAKES j ∧ (t.nchan j).wokeAt = some s.now)) ∧
  (∀ (s : State) (j id dlc : Nat) (ide : Bool) (data : List Byte), j < 10 → id < 2 ^ 29 → dlc < 16 → s.watches j = true →
    (s.nchan j).wrote.all (fun w => w.1 / 200 != s.now / 200) = true → s.ncopy F.NWK_TRC_SWEN j ≠ 0 → s.guarded j = false →
    (List.range 4).any (fun k => s.setMatches j k id dlc ide ((dataWords (data.take (dlcLen false dlc))).getD 0 0) ((dataWords
    (data.take (dlcLen false dlc))).getD 1 0)) = true → Answers (.selectiveWakeFrame j id dlc ide false false false data) s
    (fun t => bit (t.get F.NWK_STAT_WOKE) j = true ∧ t.oneMore s F.NWK_CNT_WAKES j ∧ (t.nchan j).wokeAt = some s.now ∧ t.get
    F.NWK_SWCFG_FEC j = s.get F.NWK_SWCFG_FEC j - 1)) ∧
  (∀ (s : State) (j id dlc : Nat) (ide rtr : Bool) (data : List Byte), j < 10 → s.watches j = true → (s.nchan j).wrote.all
    (fun w => w.1 / 200 != s.now / 200) = true → s.ncopy F.NWK_TRC_SWEN j ≠ 0 → s.get F.NWK_SWCFG_FEC j < s.ncopy
    F.NWK_SWCFG_ERRLIM j → Answers (.selectiveWakeFrame j id dlc ide false rtr true data) s (fun t => t.get F.NWK_SWCFG_FEC j
    = s.get F.NWK_SWCFG_FEC j + 1 ∧ t.nwk = s.nwk)) ∧
  (∀ (s : State), s.ncopy F.NWK_WIO_WIEN ≠ 0 → s.loopIgnored = false → s.nwk.highFrom = none → s.nwk.raised = false → Answers
    (.lineWake true) s (fun t => t.get F.NWK_WIO_WILVL = 1 ∧ t.get F.NWK_WIO_WILATCH = 1 ∧ t.nwk.raised = true ∧ t.nwk.wakeIn
    = true)) ∧
  (∀ (s : State), Answers (.lineWake false) s (fun t => t.get F.NWK_WIO_WILVL = 0 ∧ t.nwk.raised = false ∧ t.nwk.wakeIn =
    false ∧ t.pmu = s.pmu)) ∧
  (∀ (s : State) (u : Nat), s.nwk.pulseTo = some u → u ≤ s.now → s.nwk.outHigh = true → s.get F.NWK_WIO_WOLVL = 0 → Answers
    (.wakeOutPulseEnd) s (fun t => t.nwk.pulseTo = none ∧ t.nwk.outHigh = false ∧ t.nwk.ignoreTo = some (s.now + 10 *
    msUnits))) ∧
  (∀ (s : State) (u : Nat), s.nwk.ignoreTo = some u → u ≤ s.now → Answers (.loopIgnoreEnd) s (fun t => t.nwk.ignoreTo = none ∧
    t.nwk.highFrom = (if s.nwk.wakeIn then some u else none) ∧ t.regs = s.regs)) ∧
  (∀ (s : State) (j u : Nat), j < 22 → (s.nchan j).window = some u → u ≤ s.now → s.guarded j = false → Answers
    (.falseWakeWindowEnd j) s (fun t => (t.nchan j).window = none ∧ t.oneMore s F.NWK_CNT_FALSE j ∧ t.oneMore s F.NWK_FW_FWCNT
    j ∧ (max 1 (s.ncopy F.NWK_FW_FWLIM j) ≤ t.get F.NWK_FW_FWCNT j → t.get F.NWK_FW_BOACT j = 1 ∧ t.oneMore s
    F.NWK_CNT_BACKOFFS j))) ∧
  (∀ (s : State) (j u : Nat), j < 22 → (s.nchan j).backTo = some u → u ≤ s.now → Answers (.backOffEnd j) s (fun t => t.get
    F.NWK_FW_FWCNT j = 0 ∧ t.get F.NWK_FW_BOACT j = 0 ∧ t.get F.NWK_FW_RECACT j = 1 ∧ (t.nchan j).backTo = none ∧ (t.nchan
    j).recTo = some (s.now + max 1 (s.ncopy F.NWK_CTL_RECWIN) * secUnits))) ∧
  (∀ (s : State) (j u : Nat), j < 22 → (s.nchan j).recTo = some u → u ≤ s.now → Answers (.recoveryPhaseEnd j) s (fun t =>
    t.get F.NWK_FW_RECACT j = 0 ∧ (t.nchan j).recTo = none ∧ t.get F.NWK_FW_FWCNT j = s.get F.NWK_FW_FWCNT j)) ∧
  (∀ (s : State) (u : Nat), s.nwk.startTo = some u → u ≤ s.now → Answers (.startUpPhaseEnd) s (fun t => t.get
    F.NWK_STAT_STARTUP = 0 ∧ t.nwk.startTo = none ∧ t.nwk.chans = s.nwk.chans)) ∧
  (∀ (s : State) (j u src a : Nat) (co : Bool) (ws : List Word), j < 22 → (s.nchan j).cond = some (u, src, a, co, ws) → u ≤
    s.now → Answers (.confirmationTimeout j) s (fun t => (t.nchan j).cond = none ∧ t.oneMore s F.NWK_CNT_UNCONF j)) ∧
  (∀ (s : State) (j k : Nat), j < 10 → s.nwk.framesDue.contains j = true → s.pwr = 0 → s.get F.NWK_TRC_WFMB j = k → s.get
    F.CAN_CTL_EN j = 1 → s.trc j = 0 → s.get F.CAN_MBID_DIR j k = 2 → Answers (.ownWakeFrame j) s (fun t => t.get
    F.CAN_MB_TXREQ j k = 1 ∧ t.get F.CAN_MB_DONE j k = 0 ∧ t.nwk.framesDue.contains j = false)) ∧
  (∀ (s : State) (j : Nat), j < 10 → s.nwk.framesDue.contains j = true → s.pwr = 0 → s.get F.CAN_CTL_EN j = 0 → Answers
    (.ownWakeFrame j) s (fun t => t.oneMore s F.NWK_STAT_WFSKIP ∧ t.nwk.framesDue.contains j = false))

/-- R474 to R498: what each command of the gateway leaves. -/
def Obligations.GatewayCommandsComplete : Prop :=
  (∀ (s : State) (m : Msg) (rest : List Msg), s.gwy.inbox = m :: rest → s.enabledCpls.all (fun i => !s.cplMatches m i) = true
    → s.gwy.waiting = [] → Answers (.gatewayMessage []) s (fun t => t.gwy.inbox = rest ∧ t.can = s.can ∧ t.get
    F.GWY_STAT_FANOUT = s.get F.GWY_STAT_FANOUT)) ∧
  (∀ (s : State) (m : Msg) (rest : List Msg) (i c : Nat), s.gwy.inbox = m :: rest → s.gwy.waiting = [] → i < 4096 → c < 10 →
    s.enabledCpls.filter (fun k => s.cplMatches m k) = [i] → s.get F.GWY_CPL_KIND i = 0 → s.get F.GWY_CPL_CHKEN i = 0 → s.get
    F.GWY_CPL_DPORT i = c → s.get F.GWY_CPL_DFMT i = 1 → m.data.length ≤ 8 → s.get F.CAN_CTL_EN c = 1 → s.trc c = 0 → (s.can_
    c).gq.length < 32 → Answers (.gatewayMessage []) s (fun t => t.gwy.inbox = rest ∧ (t.can_ c).gq = (s.can_ c).gq ++
    [⟨frameWords (s.get F.GWY_CPL_DID i % 2 ^ 29) (decide (2 ^ 29 ≤ s.get F.GWY_CPL_DID i)) false false false m.rtr
    m.data.length m.data [0, 0, 0], i, s.now, s.can.num, none⟩] ∧ t.oneMore s F.GWY_CCNT_ROUTED i)) ∧
  (∀ (s : State) (u i n : Nat) (m : Msg) (rest : List ChkJob), u < 32 → Sparse.at s.gwy.jobs u [] = ⟨i, n, some m, none⟩ ::
    rest → s.get F.GWY_CPL_KIND i ≠ 2 → s.gwy.waiting = [] → m.data.take (crcLen (s.get F.CHK_CFG_CODE u)) ≠ s.chkCrc u
    (m.data.drop (crcLen (s.get F.CHK_CFG_CODE u))) → Answers (.checkValueDone u) s (fun t => t.oneMore s F.CHK_CNT_CRCERR u ∧
    Sparse.at t.gwy.jobs u [] = rest ∧ t.can = s.can ∧ t.get F.CHK_STAT_LAST u = s.get F.CHK_STAT_LAST u)) ∧
  (∀ (s : State) (u w n : Nat) (o : OutMsg) (rest : List ChkJob), u < 32 → Sparse.at s.gwy.jobs u [] = ⟨o.cpl, n, none, some
    o⟩ :: rest → s.chkWidth u = w → w ≠ 0 → s.gwy.waiting = [] → Answers (.checkValueDone u) s (fun t => t.get F.CHK_STAT_NEXT
    u = (s.get F.CHK_STAT_NEXT u + 1) % 2 ^ w ∧ Sparse.at t.gwy.jobs u [] = rest)) ∧
  (∀ (s : State) (c : Nat) (e : CanEnt), c < 10 → e.cpl < 4096 → (s.can_ c).gq = [e] → (s.can_ c).held = [] → (s.can_ c).tx =
    none → e.at_ + max 1 (s.get F.GWY_CTL_QAGE) * msUnits < s.now → Answers (.gatewayQueueAge c) s (fun t => (t.can_ c).gq =
    [] ∧ t.oneMore s F.GWY_CCNT_DROPPED e.cpl)) ∧
  (∀ (s : State) (k p : Nat) (g : Gather), k < 64 → p < 4 → Sparse.get s.gwy.gathers (4 * k + p) = some g → g.at_ + s.get
    F.GWY_TUN_AGG k * usUnits ≤ s.now → Answers (.tunnelGatherEnd k p) s (fun t => Sparse.get t.gwy.gathers (4 * k + p) = none
    ∧ Sparse.get t.gwy.seqTx k = some ((Sparse.at s.gwy.seqTx k 0 + 1) % 256) ∧ t.gwy.inbox = s.gwy.inbox)) ∧
  (∀ (s : State) (f : Frame) (rest : List Frame), s.eth.avtp = f :: rest → s.tunnelOf (beNum ((f.body.drop 6).take 8)) = none
    → Answers (.avtpduReceive) s (fun t => t.eth.avtp = rest ∧ t.gwy = s.gwy ∧ t.regs = s.regs)) ∧
  (∀ (s : State) (f : Frame) (rest : List Frame) (k seq : Nat), s.eth.avtp = f :: rest → k < 64 → s.tunnelOf (beNum
    ((f.body.drop 6).take 8)) = some k → ((f.body.drop 2).getD 0 0).toNat ≠ 4 → ((f.body.drop 2).getD 3 0).toNat = seq →
    acfSplit 400 ((f.body.drop 14).take (beNum ((f.body.drop 3).take 2) % 2048)) = [] → Sparse.get s.gwy.seqRx k = some ((seq
    + 200) % 256) → Answers (.avtpduReceive) s (fun t => t.eth.avtp = rest ∧ Sparse.get t.gwy.seqRx k = some seq ∧ t.oneMore s
    F.GWY_TUN_SEQGAP k)) ∧
  (∀ (s : State) (init : Init) (i : Nat), i < 4096 → s.domOn domFAB = true → s.mayWrite init .GWY_CPL i = true → s.get
    F.GWY_CPL_EN i = 0 → s.cplBad i = false → Answers (.couplingEnable init i) s (fun t => t.get F.GWY_CPL_EN i = 1 ∧ t.get
    F.GWY_STAT_BADCPL = s.get F.GWY_STAT_BADCPL ∧ (t.words .GWY_CPL i 0).drop 1 = (s.words .GWY_CPL i 0).drop 1)) ∧
  (∀ (s : State) (init : Init) (i : Nat), i < 4096 → s.domOn domFAB = true → s.mayWrite init .GWY_CPL i = true → s.get
    F.GWY_CPL_EN i = 0 → s.cplBad i = true → Answers (.couplingEnable init i) s (fun t => t.get F.GWY_CPL_EN i = 0 ∧ t.oneMore
    s F.GWY_STAT_BADCPL)) ∧
  (∀ (s : State) (init : Init) (i : Nat), i < 4096 → s.domOn domFAB = true → s.mayWrite init .GWY_CPL i = true → Answers
    (.couplingDisable init i) s (fun t => t.get F.GWY_CPL_EN i = 0 ∧ t.get F.GWY_STAT_BADCPL = s.get F.GWY_STAT_BADCPL ∧ t.get
    F.GWY_CPL_DPORT i = s.get F.GWY_CPL_DPORT i ∧ t.can = s.can)) ∧
  (∀ (s : State) (init : Init) (p g tag addr count : Nat), p < 4 → g < 63 → tag < 256 → s.domOn domFAB = true → s.mayWrite
    init .GWY_RQ p = true → s.grpOwner g = some p → addr < 2 ^ 32 → count < 16 → s.rqRefused 1 g tag addr count = none →
    s.gwy.lines = [] → s.get F.GWY_GRP_PFLEN g = 0 → Answers (.remoteReadRequest init p g tag addr count) s (fun t => t.access
    g tag = some ⟨g, tag, false, addr, count, count, [], 1, none, none⟩ ∧ t.gwy.lines = [])) ∧
  (∀ (s : State) (init : Init) (p g tag addr count code : Nat), p < 4 → g < 63 → tag < 256 → s.domOn domFAB = true →
    s.mayWrite init .GWY_RQ p = true → s.grpOwner g = some p → addr < 2 ^ 32 → count < 16 → s.rqRefused 1 g tag addr count =
    some code → s.gringRuns p = false → Answers (.remoteReadRequest init p g tag addr count) s (fun t => t.oneMore s
    F.GWY_RDROP_DROP p ∧ t.gwy.accs = s.gwy.accs ∧ t.can = s.can)) ∧
  (∀ (s : State) (init : Init) (p g tag addr count : Nat) (data : List Word), p < 4 → g < 63 → tag < 256 → s.domOn domFAB =
    true → s.mayWrite init .GWY_RQ p = true → s.grpOwner g = some p → addr < 2 ^ 32 → count < 16 → s.rqRefused 2 g tag addr
    count = none → s.gwy.lines = [] → Answers (.postedWriteRequest init p g tag addr count data) s (fun t => t.access g tag =
    some ⟨g, tag, true, addr, count, count, (((data ++ List.replicate 14 0).take 14).take count).flatMap bytesOf, 1, none,
    none⟩)) ∧
  (∀ (s : State) (i : Nat) (data : List Byte) (f : Bool) (rest : List (Nat × List Byte × Bool)), i < 4096 → s.gwy.replies =
    (i, data, f) :: rest → s.access (s.get F.GWY_CPL_GRP i) ((data.getD 1 0).toNat) = none → Answers (.remoteReply) s (fun t
    => t.gwy.replies = rest ∧ t.oneMore s F.GWY_CCNT_STRAY i ∧ t.gwy.accs = s.gwy.accs)) ∧
  (∀ (s : State) (i : Nat) (data : List Byte) (a : Access) (rest : List (Nat × List Byte × Bool)), i < 4096 → s.gwy.replies =
    (i, data, false) :: rest → s.access (s.get F.GWY_CPL_GRP i) ((data.getD 1 0).toNat) = some a → a.write = false →
    (data.getD 0 0).toNat = 3 → (data.getD 3 0).toNat = 0 → a.want = a.count → Answers (.remoteReply) s (fun t =>
    t.gwy.replies = rest ∧ t.oneMore s F.GWY_CCNT_ROUTED i ∧ t.access a.grp a.tag = none ∧ t.gwy.lines = s.gwy.lines)) ∧
  (∀ (s : State) (g tag u : Nat) (a : Access), g < 63 → s.access g tag = some a → a.from_ = some u → u + s.tmo g ≤ s.now →
    a.write = false → s.gwy.replies = [] → Answers (.attemptTimeout g tag) s (fun t => t.access g tag = none ∧ t.gwy.accs.any
    (fun b => b.grp == g && b.tag == tag && b.quar == some (s.now + 2 * s.tmo g)) = true)) ∧
  (∀ (s : State) (g tag : Nat), Answers (.quarantineEnd g tag) s (fun t => t.gwy.accs.any (fun b => b.grp == g && b.tag == tag
    && b.quar.any (fun u => decide (u ≤ s.now))) = false ∧ (s.access g tag).isSome = (t.access g tag).isSome ∧ t.regs =
    s.regs)) ∧
  (∀ (s : State) (g : Nat) (l : PfLine) (v : Word), s.gwy.lines = [l] → l.grp = g → l.words.filter (fun w => w.isSome) = [some
    v] → l.at_ + max 1 (s.get F.GWY_GRP_PFAGE g) * msUnits ≤ s.now → Answers (.prefetchLineAge g) s (fun t => t.gwy.lines = []
    ∧ t.oneMore s F.GWY_STAT_PFDISC ∧ t.get F.GWY_STAT_PFNEXT = (s.get F.GWY_STAT_PFNEXT + 1) % 16)) ∧
  (∀ (s : State) (p sig : Nat) (level : Bool), sig < 32 → s.enabledCpls.any (fun i => s.get F.GWY_CPL_KIND i == 3 && s.get
    F.GWY_CPL_SPORT i == 0x40 && s.get F.GWY_CPL_SID i == 0x100 + sig && s.cplOwner i == some p) = true → Sparse.at s.gwy.sigs
    (32 * p + sig) false ≠ level → s.get F.GWY_CTL_EN = 1 → s.domOn domFAB = true → Answers (.partitionSignalWrite (.part p)
    sig level) s (fun t => Sparse.at t.gwy.sigs (32 * p + sig) false = level ∧ t.gwy.inbox = s.gwy.inbox ++ [⟨0x40, 0x100 +
    sig, false, false, false, [if level then 1 else 0], none, p, 1, s.gwy.count⟩] ∧ t.regs = s.regs))

/-- R508 to R522, R630: what each command of access leaves. -/
def Obligations.AccessCommandsComplete : Prop :=
  (∀ (s : State) (init : Init) (f zreq : Nat), f < 2 → s.domOn domFAB = true → s.domOn domACC = true → s.mayWrite init
    .ACC_FNREQ f = true → s.acc.exch = none → s.lockedOut = false → Answers (.accessAuthenticate init f zreq) s (fun t =>
    t.get F.ACC_FNSTAT_BUSY f = 1 ∧ t.acc.exch = some ⟨f, 1, zreq % 65536, 0, none, s.slotCount, s.now, 1, 0, false, 0, none,
    s.fresh % 2 ^ 64⟩)) ∧
  (∀ (s : State) (init : Init) (f zreq : Nat), f < 2 → s.domOn domFAB = true → s.domOn domACC = true → s.mayWrite init
    .ACC_FNREQ f = true → s.acc.exch = none → s.lockedOut = true → Answers (.accessAuthenticate init f zreq) s (fun t => t.get
    F.ACC_FNSTAT_BUSY f = 0 ∧ t.get F.ACC_FNSTAT_RES f = 6 ∧ t.get F.ACC_FNSTAT_GRANT f = 0 ∧ t.acc = s.acc)) ∧
  (∀ (s : State) (init : Init), s.domOn domFAB = true → s.domOn domACC = true → s.mayWrite init .ACC_FNREQ 0 = true →
    s.acc.exch = none → Answers (.pollingClockLock init) s (fun t => t.get F.ACC_POLL_CLOCK = 1 ∧ t.get F.ACC_POLL_STEP = 0 ∧
    t.acc.clock = some s.now ∧ t.acc.quiet = [])) ∧
  (∀ (s : State) (init : Init), s.domOn domFAB = true → s.domOn domACC = true → s.mayWrite init .ACC_FNREQ 0 = true →
    s.acc.exch = none → Answers (.pollingClockUnlock init) s (fun t => t.get F.ACC_POLL_CLOCK = 0 ∧ t.acc.clock = none ∧
    t.acc.quiet = s.acc.quiet)) ∧
  (∀ (s : State) (init : Init) (id k : Nat), s.domOn domFAB = true → s.domOn domACC = true → s.mayWrite init .ACC_FNREQ 3 =
    true → s.acc.exch = none → id < 2 ^ 32 → s.acc.writing = none → s.lockedOut = false → s.tokenOf id = none → (List.range
    8).find? (fun n => !s.enrolled n) = some k → Answers (.enrolPresentToken init id) s (fun t => t.get F.ACC_FNSTAT_BUSY 3 =
    1 ∧ t.acc.exch = some ⟨3, 1, 0, id, some k, max s.slotCount (k + 1), s.now, 1, 0, false, 0, none, s.fresh % 2 ^ 64⟩ ∧
    t.get F.ACC_TOK_ENR k = 0)) ∧
  (∀ (s : State) (init : Init) (id k d : Nat), s.domOn domFAB = true → s.domOn domACC = true → s.mayWrite init .ACC_FNREQ 3 =
    true → s.acc.exch = none → id < 2 ^ 32 → s.acc.writing = none → s.lockedOut = false → s.tokenOf id = none → (List.range
    8).find? (fun n => !s.enrolled n) = some k → s.acc.grantTo = some d → s.now ≤ d → Answers (.enrolSecretCode init id) s
    (fun t => t.get F.ACC_FNSTAT_BUSY 3 = 1 ∧ t.acc.exch = some ⟨3, 2, 0, id, some k, max s.slotCount (k + 1), s.now, 1, 0,
    false, 0, none, s.fresh % 2 ^ 64⟩ ∧ t.acc.grantTo = some d)) ∧
  (∀ (s : State) (init : Init) (slot : Nat), s.domOn domFAB = true → s.domOn domACC = true → s.mayWrite init .ACC_FNREQ 3 =
    true → s.acc.exch = none → slot < 8 → s.acc.writing = none → Answers (.revoke init slot) s (fun t => t.get F.ACC_TOK_ENR
    slot = 0 ∧ t.get F.ACC_TOK_ID slot = 0xFFFFFFFF ∧ t.acc.writing = some (slot, none) ∧ t.get F.ACC_FNSTAT_BUSY 3 = 1)) ∧
  (∀ (s : State) (id resp : Nat) (e : Exch) (sync crcOk unc : Bool) (vec : List Nat) (lat : Int), sync = false ∨ unc = true →
    s.acc.exch = some e → e.again = none → e.judged < e.m → e.m ≤ 8 → s.fieldEnd e + msUnits + 6 * msUnits * e.judged ≤ s.now
    → Answers (.replySlotEnd sync crcOk id resp vec lat unc) s (fun t => (unc = true → t.oneMore s F.ERR_BLK2_UNCORR 12) ∧
    t.get F.ACC_TOK_RESULT e.judged = 5 ∧ t.get F.ACC_TOK_ZONES e.judged = 0 ∧ t.acc.exch = some
    { e with judged := e.judged + 1 })) ∧
  (∀ (s : State) (id resp : Nat) (e : Exch) (vec : List Nat) (lat : Int), s.acc.exch = some e → e.again = none → e.slot = none
    → e.judged < e.m → e.m ≤ 8 → s.fieldEnd e + msUnits + 6 * msUnits * e.judged ≤ s.now → id < 2 ^ 32 → s.enrolled e.judged =
    true → s.get F.ACC_TOK_ID e.judged = id → (s.slotKey e.judged id false).map (fun key => tokenResp key e.chal vec) = some
    resp → resp < 2 ^ 64 → s.plausible vec lat = true → s.zonesOf vec < 65536 → Answers (.replySlotEnd true true id resp vec
    lat false) s (fun t => t.get F.ACC_TOK_RESULT e.judged = 1 ∧ t.get F.ACC_TOK_ZONES e.judged = s.zonesOf vec ∧ t.acc.exch =
    some { e with judged := e.judged + 1 })) ∧
  (∀ (s : State) (id resp : Nat) (e : Exch) (vec : List Nat) (lat : Int), s.acc.exch = some e → e.again = none → e.slot = none
    → e.judged < e.m → e.m ≤ 8 → s.fieldEnd e + msUnits + 6 * msUnits * e.judged ≤ s.now → id < 2 ^ 32 → s.enrolled e.judged =
    true → s.get F.ACC_TOK_ID e.judged = id → (s.slotKey e.judged id false).map (fun key => tokenResp key e.chal vec) ≠ some
    resp → resp < 2 ^ 64 → Answers (.replySlotEnd true true id resp vec lat false) s (fun t => t.get F.ACC_TOK_RESULT e.judged
    = 2 ∧ t.get F.ACC_TOK_ZONES e.judged = 0 ∧ t.oneMore s F.ACC_CNT_FAILED ∧ t.acc.exch = some
    { e with judged := e.judged + 1, failed := e.failed + 1 })) ∧
  (∀ (s : State) (e : Exch), s.acc.exch = some e → e.fn < 4 → e.again = none → e.judged = e.m → s.fieldEnd e + msUnits + 6 *
    msUnits * e.m + 200 * usUnits ≤ s.now → e.slot = none → e.failed = 0 → e.garbled = false → Answers (.exchangeResult) s
    (fun t => t.acc.exch = none ∧ t.get F.ACC_FNSTAT_BUSY e.fn = 0 ∧ t.get F.ACC_FNSTAT_RES e.fn = s.authRes e ∧ t.get
    F.ACC_FNSTAT_GRANT e.fn = (if s.authRes e = 1 then 1 else 0) ∧ t.acc.fails = s.acc.fails)) ∧
  (∀ (s : State) (e : Exch) (u : Nat), s.acc.exch = some e → e.again = some u → u ≤ s.now → Answers (.exchangeRepeat) s (fun t
    => t.acc.exch = some
    { e with at_ := s.now, tries := e.tries + 1, judged := 0, garbled := false, failed := 0, again := none, chal := s.fresh % 2 ^ 64 }
    ∧ t.regs = s.regs)) ∧
  (∀ (s : State) (k n : Nat), k < 8 → n < 2 ^ 32 → s.acc.writing = some (k, some n) → Answers (.slotRecordWritten true) s (fun
    t => t.get F.ACC_TOK_ID k = n ∧ t.get F.ACC_TOK_ENR k = 1 ∧ t.acc.writing = none ∧ t.get F.ACC_FNSTAT_RES 3 = 1 ∧ t.get
    F.ACC_FNSTAT_BUSY 3 = 0 ∧ Sparse.get t.acc.flash k = some (n, 0) ∧ Sparse.get t.acc.keys k = some (tokenKey
    s.acc.vehicle.key n))) ∧
  (∀ (s : State) (k : Nat) (id : Option Nat), k < 8 → s.acc.writing = some (k, id) → Answers (.slotRecordWritten false) s (fun
    t => t.get F.ACC_TOK_ENR k = s.get F.ACC_TOK_ENR k ∧ t.acc.writing = none ∧ t.get F.ACC_FNSTAT_RES 3 = 12 ∧ t.get
    F.ACC_FNSTAT_BUSY 3 = 0)) ∧
  (∀ (s : State) (id cmd cnt mac k : Nat), id < 2 ^ 32 → cmd < 256 → cnt < 2 ^ 32 → k < 8 → s.domOn domACC = true → s.get
    F.ACC_CTL_EN = 1 → s.pwr = 0 → s.acc.exch = none → s.lockedOut = false → s.tokenOf id = some k → (Sparse.get s.acc.keys
    k).map (fun key => tokenMac key id cnt cmd) = some mac → mac < 2 ^ 64 → 1 ≤ (cnt + 2 ^ 32 - s.get F.ACC_TOK_BCNT k) % 2 ^
    32 → (cnt + 2 ^ 32 - s.get F.ACC_TOK_BCNT k) % 2 ^ 32 ≤ 1024 → Answers (.buttonTelegram id cmd cnt mac) s (fun t => t.get
    F.ACC_TOK_BCNT k = cnt ∧ t.get F.ACC_FNSTAT_SLOTS 2 = cmd ∧ t.get F.ACC_FNSTAT_ZFOUND 2 = k ∧ Sparse.get t.acc.flash k =
    some (id, cnt))) ∧
  (∀ (s : State) (id cmd cnt mac k : Nat), id < 2 ^ 32 → cmd < 256 → cnt < 2 ^ 32 → mac < 2 ^ 64 → s.domOn domACC = true →
    s.get F.ACC_CTL_EN = 1 → s.pwr = 0 → s.acc.exch = none → s.lockedOut = false → s.tokenOf id = some k → (Sparse.get
    s.acc.keys k).map (fun key => tokenMac key id cnt cmd) ≠ some mac → Answers (.buttonTelegram id cmd cnt mac) s (fun t =>
    t.oneMore s F.ACC_CNT_FAILED ∧ t.get F.ACC_TOK_BCNT k = s.get F.ACC_TOK_BCNT k ∧ t.acc.fails = (s.now :: s.acc.fails).take
    5)) ∧
  (∀ (s : State) (k c u : Nat), Sparse.get s.acc.held k = some (c, u) → u ≤ s.now → Answers (.buttonHoldExpiry k) s (fun t =>
    Sparse.get t.acc.held k = none ∧ t.oneMore s F.ACC_CNT_FOREIGN ∧ t.acc.fails = s.acc.fails)) ∧
  (∀ (s : State) (per : Nat) (replies : List Nat), s.pollPeriod = some per → s.parked = true → s.acc.nextPoll ≤ s.now →
    s.boot.missing.contains 2 = false → s.slotCount = 1 → s.enrolled 0 = true → Sparse.get s.acc.quiet 0 = none → s.lockedOut
    = false → replies.contains 0 = true → Answers (.accessPollBurst replies) s (fun t => t.acc.nextPoll = s.now + per ∧ t.get
    F.ACC_WAKE_VALID = 1 ∧ t.get F.ACC_WAKE_SRC = 1 ∧ t.get F.ACC_WAKE_SLOT = 0 ∧ Sparse.get t.acc.quiet 0 = some 0)) ∧
  (∀ (s : State) (id cmd cnt mac : Nat), s.parked = true → s.get F.ACC_POLL_SNIFF ≠ 0 → s.acc.nextSniff ≤ s.now →
    s.boot.missing.contains 2 = false → Answers (.sniff false id cmd cnt mac) s (fun t => t.acc.nextSniff = s.now + s.get
    F.ACC_POLL_SNIFF * 10 * msUnits ∧ t.regs = s.regs)) ∧
  (∀ (s : State) (id cmd cnt mac k : Nat), id < 2 ^ 32 → cmd < 256 → cnt < 2 ^ 32 → k < 8 → s.parked = true → s.get
    F.ACC_POLL_SNIFF ≠ 0 → s.acc.nextSniff ≤ s.now → s.boot.missing.contains 2 = false → s.lockedOut = false → s.tokenOf id =
    some k → (Sparse.get s.acc.keys k).map (fun key => tokenMac key id cnt cmd) = some mac → mac < 2 ^ 64 → 1 ≤ (cnt + 2 ^ 32
    - s.get F.ACC_TOK_BCNT k) % 2 ^ 32 → (cnt + 2 ^ 32 - s.get F.ACC_TOK_BCNT k) % 2 ^ 32 ≤ 1024 → Answers (.sniff true id cmd
    cnt mac) s (fun t => t.get F.ACC_TOK_BCNT k = cnt ∧ t.get F.ACC_WAKE_VALID = 1 ∧ t.get F.ACC_WAKE_SRC = 2 ∧ t.get
    F.ACC_WAKE_SLOT = k ∧ t.get F.ACC_WAKE_CMD = cmd)) ∧
  (∀ (s : State) (k u : Nat), s.get F.ACC_POLL_STEP = k → k ≠ 7 → s.acc.clock = some u → u + s.get F.ACC_POLLSTEP_END k * 60 *
    secUnits ≤ s.now → Answers (.pollStepChange) s (fun t => t.get F.ACC_POLL_STEP = k + 1 ∧ t.get F.ACC_POLL_STOPPED = (if
    s.get F.ACC_POLLSTEP_PER (k + 1) = 0 then 1 else 0) ∧ t.acc = s.acc)) ∧
  (∀ (s : State) (u : Nat), s.acc.lockTo = some u → u ≤ s.now → Answers (.lockOutEnd) s (fun t => t.get F.ACC_LOCKOUT_ACTIVE =
    0 ∧ t.get F.ACC_LOCKOUT_REMAIN = 0 ∧ t.acc.lockTo = none ∧ t.acc.flag = false ∧ t.acc.fails = [])) ∧
  (∀ (s : State) (u : Nat), s.acc.grantTo = some u → u ≤ s.now → Answers (.secretGrantExpiry) s (fun t => t.acc.grantTo = none
    ∧ t.regs = s.regs ∧ t.acc.exch = s.acc.exch))

/-- R528 to R554: what each command of the power-state controller leaves. -/
def Obligations.PowerStateCommandsComplete : Prop :=
  (∀ (s : State) (init : Init), s.reachable init 13 = true → s.mayWrite init .PMU_CTL 0 = true → s.pwr = 0 → Answers (.reqRest
    init) s (fun t => t.pwr = 1 ∧ t.dom = s.dom ∧ t.integ.dwAt = none)) ∧
  (∀ (s : State) (init : Init), s.reachable init 13 = true → s.mayWrite init .PMU_CTL 0 = true → s.pwr = 0 → s.nwk.wakeIn =
    false → Answers (.reqPark init) s (fun t => t.pwr = 2 ∧ t.get F.PMU_STATE_PHASE = (if s.runningParts.isEmpty then 2 else
    1) ∧ t.pmu.deepReq = false ∧ t.pmu.entryAt = s.now ∧ t.pmu.acks = [] ∧ t.dom = s.dom)) ∧
  (∀ (s : State) (init : Init), s.reachable init 13 = true → s.mayWrite init .PMU_CTL 0 = true → s.pwr = 0 → s.nwk.wakeIn =
    false → Answers (.reqDeepPark init) s (fun t => t.pwr = 2 ∧ t.get F.PMU_STATE_PHASE = (if s.runningParts.isEmpty then 2
    else 1) ∧ t.pmu.deepReq = true ∧ t.pmu.entryAt = s.now)) ∧
  (∀ (s : State) (init : Init), s.reachable init 13 = true → s.mayWrite init .PMU_CTL 0 = true → s.pwr = 2 → s.pmu.commitAt =
    none → Answers (.reqRun init) s (fun t => t.pwr = 0 ∧ t.get F.PMU_STATE_PHASE = 0 ∧ t.oneMore s F.PMU_PARKSTAT_ABORTS ∧
    t.pmu.acks = [])) ∧
  (∀ (s : State), s.pwr = 1 → s.ev.placed = true → Answers (.restExit) s (fun t => t.pwr = 0 ∧ t.dom = s.dom)) ∧
  (∀ (s : State) (u : Nat), s.pwr = 1 → s.psw.wdAt = some u → (u - s.now) * 4 ≤ s.psw.wdUse * msUnits → Answers
    (.restWatchdogReturn) s (fun t => t.pwr = 0 ∧ t.psw = s.psw)) ∧
  (∀ (s : State) (init : Init) (n : Nat), n < 4 → s.reachable init 13 = true → s.mayWrite init .PMU_PARKACK n = true → s.pwr =
    2 → s.get F.PMU_STATE_PHASE = 1 → s.upd.act = none → Answers (.parkAck init n) s (fun t => t.pmu.acks.contains n = true ∧
    t.pwr = 2 ∧ t.get F.PMU_STATE_PHASE = (if s.runningParts.all (fun k => k == n || s.pmu.acks.contains k) then 2 else 1))) ∧
  (∀ (s : State), s.pwr = 2 → s.get F.PMU_STATE_PHASE = 1 → s.pmu.entryAt + clampNat 1 1000 (s.get F.PMU_CTL_PREPTIME) *
    msUnits ≤ s.now → s.upd.act = none → Answers (.preptimeExpiry) s (fun t => t.get F.PMU_STATE_PHASE = 2 ∧ t.pwr = 2 ∧ t.get
    F.PMU_PARKSTAT_PREPTO = min 255 (s.get F.PMU_PARKSTAT_PREPTO + (s.runningParts.filter (fun n => !s.pmu.acks.contains
    n)).length))) ∧
  (∀ (s : State), s.pwr = 2 → s.get F.PMU_STATE_PHASE = 2 → Answers (.parkFlushEnd) s (fun t => t.pwr = 2 ∧ t.get
    F.PMU_STATE_PHASE = 3 ∧ t.pmu.commitAt = s.pmu.commitAt)) ∧
  (∀ (s : State), s.pwr = 2 → s.get F.PMU_STATE_PHASE = 3 → s.pmu.commitAt = none → Answers (.commitPoint) s (fun t => t.pwr =
    2 ∧ t.get F.PMU_STATE_PHASE = 4 ∧ t.pmu.commitAt = some s.now ∧ t.get F.PSW_WDSTAT_TOWACT = 0 ∧ t.psw.wdAt = none)) ∧
  (∀ (s : State) (u : Nat), s.pwr = 3 → s.pmu.commitAt = some u → s.get F.PMU_DEEP_DPTIME ≠ 0 → u + s.get F.PMU_DEEP_DPTIME *
    60 * secUnits ≤ s.now → Answers (.dptimeExpiry) s (fun t => t.pwr = 4 ∧ t.domOn domPWR = false)) ∧
  (∀ (s : State), s.pwr = 3 → s.get F.PMU_DEEP_DPVBAT ≠ 0 → Answers (.dpvbatExpiry) s (fun t => t.pwr = 4 ∧ t.domOn domPWR =
    false)) ∧
  (∀ (s : State), s.pwr = 3 ∨ s.pwr = 4 → s.pmu.seen < s.pmu.wakes.length → Answers (.parkedWake) s (fun t => t.pwr = 5 ∧
    t.get F.PMU_STATE_LASTRST = (if s.pwr = 4 then 7 else 6) ∧ t.pmu.waking = some s.pwr ∧ t.boot.kind = 2 ∧ t.pmu.attempts =
    0)) ∧
  (∀ (s : State) (u : Nat), s.pwr = 3 ∨ s.pwr = 4 → s.pmu.commitAt = some u → s.get F.PMU_ATMR_EN = 1 → s.pmu.timerFired =
    false → s.pmu.lineOnly = false → u + max 1 (s.get F.PMU_ATMR_TIME) * secUnits ≤ s.now → Answers (.aonTimerWake) s (fun t
    => t.pmu.timerFired = true ∧ t.pmu.wakes = s.pmu.wakes ++ [⟨4, none, 0, 0, 0, 0, 0, false⟩] ∧ t.pwr = s.pwr)) ∧
  (∀ (s : State) (n : Nat), n < 8 → s.get F.PMU_CMP_EN n = 1 → s.get F.PMU_CMP_SRC n < 96 ∨ s.get F.PMU_CMP_SRC n = 127 →
    s.pwr = 3 ∨ s.pwr = 4 → Answers (.comparatorTrip n) s (fun t => t.get F.PMU_CMP_TRIP n = 1 ∧ t.pwr = s.pwr ∧ (s.get
    F.PMU_CMP_WAKE n = 1 → s.pmu.lineOnly = false → t.pmu.wakes.map (fun w => w.src) = s.pmu.wakes.map (fun w => w.src) ++ [8
    + n]))) ∧
  (∀ (s : State) (n : Nat), n < 8 → s.get F.PMU_CMP_EN n = 1 → s.get F.PMU_CMP_SRC n < 96 ∨ s.get F.PMU_CMP_SRC n = 127 →
    s.pwr ≤ 1 → Answers (.comparatorTrip n) s (fun t => t.get F.PMU_CMP_TRIP n = 1 ∧ t.pmu = s.pmu)) ∧
  (∀ (s : State) (init : Init), s.reachable init 13 = true → s.mayWrite init .PMU_RESET 0 = true → Answers (.resetKeyD5 init)
    s (fun t => t.pmu.keyPairs.contains init = true ∧ t.regs = s.regs ∧ t.pwr = s.pwr)) ∧
  (∀ (s : State) (init : Init), s.reachable init 13 = true → s.mayWrite init .PMU_RESET 0 = true → s.pmu.keyPairs.contains
    init = true → Answers (.resetKey2a init) s (fun t => t.pwr = 5 ∧ t.get F.PMU_STATE_LASTRST = 3 ∧ t.boot.kind = 1 ∧
    t.pmu.keyPairs = [])) ∧
  (∀ (s : State) (init : Init), s.reachable init 13 = true → s.mayWrite init .PMU_RESET 0 = true → s.pmu.keyPairs.contains
    init = false → Answers (.resetKey2a init) s (fun t => t.oneMore s F.ERR_BLK0_ACCESS 13 ∧ t.pwr = s.pwr ∧
    t.pmu.keyPairs.contains init = false ∧ t.boot = s.boot))

/-- R562 to R583: what happens to the island by pulses, supply, time, pin, link and the two indices of its mailbox. -/
def Obligations.MeteringIslandCompletes : Prop :=
  (∀ (s : State), s.mtr.on = true → Answers (.distancePulse 0) s (fun t => t.mtr.cnt0 = (s.mtr.cnt0 + 1) % 2 ^ 64 ∧ t.mtr.cnt1
    = s.mtr.cnt1 ∧ t.regs = s.regs)) ∧
  (∀ (s : State), s.mtr.on = true → Answers (.distancePulse 1) s (fun t => t.mtr.cnt1 = (s.mtr.cnt1 + 1) % 2 ^ 64 ∧ t.mtr.cnt0
    = s.mtr.cnt0 ∧ t.regs = s.regs)) ∧
  (∀ (s : State) (a b : Nat), s.mtr.on = true → s.mtr.winAt + secUnits ≤ s.inow → s.mtr.cnt0 - s.mtr.win0 = a → s.mtr.cnt1 -
    s.mtr.win1 = b → max a b - min a b ≤ 2 + a / 64 → a ≤ 25000 → b ≤ 25000 → Answers (.pulseWindowCompare) s (fun t =>
    t.mtr.faulty = false ∧ t.mtr.winAt = s.mtr.winAt + secUnits ∧ t.mtr.win0 = s.mtr.cnt0 ∧ t.mtr.win1 = s.mtr.cnt1 ∧
    t.mtr.recs = s.mtr.recs)) ∧
  (∀ (s : State) (a b : Nat), s.mtr.on = true → s.mtr.winAt + secUnits ≤ s.inow → s.mtr.cnt0 - s.mtr.win0 = a → s.mtr.cnt1 -
    s.mtr.win1 = b → 2 + a / 64 < max a b - min a b ∨ 25000 < a ∨ 25000 < b → Answers (.pulseWindowCompare) s (fun t =>
    t.mtr.faulty = true ∧ t.mtr.winAt = s.mtr.winAt + secUnits ∧ t.mtr.win0 = s.mtr.cnt0 ∧ t.mtr.win1 = s.mtr.cnt1 ∧
    t.mtr.recs.getLast?.map (fun r => r.typ) = some 2 ∧ t.mtr.nextRec = (s.mtr.nextRec + 1) % 2 ^ 32)) ∧
  (∀ (s : State), s.mtr.on = true → s.mtr.sealAt + 100 * msUnits ≤ s.inow → s.mtr.cnt0 ≠ s.mtr.sealed0 ∨ s.mtr.cnt1 ≠
    s.mtr.sealed1 → Answers (.counterSealWrite) s (fun t => t.mtr.sealed0 = s.mtr.cnt0 ∧ t.mtr.sealed1 = s.mtr.cnt1 ∧
    t.mtr.sealAt = s.inow ∧ t.mtr.cnt0 = s.mtr.cnt0)) ∧
  (∀ (s : State), s.mtr.on = true → Answers (.vmtrFlush) s (fun t => t.mtr.on = false ∧ t.mtr.sealed0 = s.mtr.cnt0 ∧
    t.mtr.sealed1 = s.mtr.cnt1 ∧ t.get F.MTR_STAT_LINK = 0 ∧ t.mtr.sealSt = s.mtr.sealSt ∧ t.mtr.recs = s.mtr.recs)) ∧
  (∀ (s : State), s.mtr.on = false → Answers (.vmtrReturn) s (fun t => t.mtr.on = true ∧ t.mtr.cnt0 = s.mtr.sealed0 ∧
    t.mtr.cnt1 = s.mtr.sealed1 ∧ t.mtr.clock.valid = false ∧ t.mtr.upAt = s.inow ∧ t.mtr.recs.getLast?.map (fun r => r.typ) =
    some 1 ∧ t.mtr.nextRec = (s.mtr.nextRec + 1) % 2 ^ 32)) ∧
  (∀ (s : State), s.mtr.on = true → s.get F.MTR_STAT_LINK = 1 → Answers (.islandCoreRestart) s (fun t => t.get F.MTR_STAT_LINK
    = 0 ∧ t.oneMore s F.MTR_STAT_LINKLOSS ∧ t.get F.MTR_TXHEAD_HEAD = 0 ∧ t.get F.MTR_TXTAIL_TAIL = 0 ∧ t.mtr.chal = none ∧
    t.mtr.cnt0 = s.mtr.cnt0)) ∧
  (∀ (s : State), s.mtr.on = true → Answers (.crystalComparison) s (fun t => t.mtr.recs.getLast?.map (fun r => r.typ) = some 3
    ∧ t.mtr.nextRec = (s.mtr.nextRec + 1) % 2 ^ 32 ∧ t.mtr.clock = s.mtr.clock)) ∧
  (∀ (s : State), s.mtr.on = true → s.mtr.clock.valid = true → s.mtr.legalAt ≤ s.legalMs → Answers (.legaltime) s (fun t =>
    t.mtr.legalAt = s.mtr.legalAt + 1000 * ((s.legalMs - s.mtr.legalAt) / 1000 + 1) ∧ t.mtr.clock = s.mtr.clock ∧ t.mtr.cnt0 =
    s.mtr.cnt0)) ∧
  (∀ (s : State), s.mtr.on = true → s.mtr.dist ≠ 0 → s.mtr.distAt ≤ s.inow → Answers (.distcopy) s (fun t => t.mtr.distAt =
    s.mtr.distAt + s.mtr.dist * msUnits ∧ t.mtr.dist = s.mtr.dist ∧ t.mtr.cnt0 = s.mtr.cnt0)) ∧
  (∀ (s : State), s.mtr.clock.slew ≠ 0 → s.mtr.clock.rest s.inow = 0 → Answers (.slewEnd) s (fun t => t.mtr.clock.slew = 0 ∧
    t.mtr.clock.base = s.mtr.clock.legal s.inow ∧ t.mtr.clock.at_ = s.inow ∧ t.mtr.clock.valid = s.mtr.clock.valid)) ∧
  (∀ (s : State), s.mtr.on = true → s.mtr.pin = false → s.mtr.sealSt ≠ 1 → Answers (.sealPinAssert) s (fun t => t.mtr.pin =
    true ∧ t.mtr.pinFrom = some s.inow ∧ t.mtr.sealSt = s.mtr.sealSt)) ∧
  (∀ (s : State), Answers (.sealPinRelease) s (fun t => t.mtr.pin = false ∧ t.mtr.pinFrom = none ∧ t.mtr.sealSt = s.mtr.sealSt
    ∧ t.regs = s.regs)) ∧
  (∀ (s : State) (u : Nat), s.mtr.on = true → s.mtr.pinFrom = some u → s.mtr.sealSt ≠ 1 → u + 120 * secUnits ≤ s.inow →
    Answers (.pinTimerExpiry) s (fun t => t.mtr.sealSt = 2 ∧ t.mtr.tamper = s.mtr.tamper + 1 ∧ t.mtr.fuses = min 32
    (s.mtr.fuses + 1) ∧ t.mtr.recs.getLast?.map (fun r => r.typ) = some 8 ∧ t.mtr.nextRec = (s.mtr.nextRec + 1) % 2 ^ 32)) ∧
  (∀ (s : State), s.mtr.on = true → s.mtr.sealSt = 1 → s.mtr.openAt + 1800 * secUnits ≤ s.inow → Answers (.openIdleExpiry) s
    (fun t => t.mtr.sealSt = (if s.mtr.pin then 2 else 0) ∧ t.mtr.tamper = s.mtr.tamper + (if s.mtr.pin then 1 else 0))) ∧
  (∀ (s : State) (c : List Byte) (u : Nat), s.mtr.chal = some (c, u) → u + 60 * secUnits ≤ s.inow → Answers (.challengeExpiry)
    s (fun t => t.mtr.chal = none ∧ t.mtr.sealSt = s.mtr.sealSt ∧ t.regs = s.regs)) ∧
  (∀ (s : State) (u : Nat), s.mtr.lockTo = some u → u ≤ s.inow → Answers (.openLockoutEnd) s (fun t => t.mtr.lockTo = none ∧
    t.mtr.sealSt = s.mtr.sealSt ∧ t.regs = s.regs)) ∧
  (∀ (s : State), s.mtr.on = true → Answers (.parameterBlockFailure) s (fun t => t.mtr.sealSt = 2 ∧ t.mtr.failAuth = 0 ∧
    t.mtr.corr = [] ∧ t.mtr.tamper = s.mtr.recs.foldl (fun a r => max a r.tamper) s.mtr.fuses + 1 ∧ t.mtr.recs.getLast?.map
    (fun r => r.typ) = some 8 ∧ t.mtr.nextRec = (s.mtr.nextRec + 1) % 2 ^ 32)) ∧
  (∀ (s : State) (u : Nat), s.mtr.on = true → s.mtr.trialTo = some u → u ≤ s.inow → s.get F.MTR_STAT_LINK = 1 → Answers
    (.firmwareSelftestTimeout) s (fun t => t.mtr.store = 1 - s.mtr.store ∧ t.mtr.trialTo = none ∧ t.get F.MTR_STAT_LINK = 0 ∧
    t.mtr.recs.getLast?.map (fun r => r.typ) = some 10 ∧ t.mtr.nextRec = (s.mtr.nextRec + 1) % 2 ^ 32)) ∧
  (∀ (s : State) (init : Init) (v : Nat), s.domOn domFAB = true → s.mayWrite init .MTR_TXHEAD 0 = true → v % 8 = 0 → v < 4096
    → (v + 4096 - s.get F.MTR_TXHEAD_HEAD) % 4096 ≤ (s.get F.MTR_TXTAIL_TAIL + 4096 - s.get F.MTR_TXHEAD_HEAD - 8) % 4096 →
    Answers (.mtrTxheadWrite init v) s (fun t => t.get F.MTR_TXHEAD_HEAD = v ∧ t.get F.MTR_STAT_BADIDX = s.get
    F.MTR_STAT_BADIDX)) ∧
  (∀ (s : State) (init : Init) (v : Nat), s.domOn domFAB = true → s.mayWrite init .MTR_TXHEAD 0 = true → v < 4096 → v % 8 ≠ 0
    ∨ (s.get F.MTR_TXTAIL_TAIL + 4096 - s.get F.MTR_TXHEAD_HEAD - 8) % 4096 < (v + 4096 - s.get F.MTR_TXHEAD_HEAD) % 4096 →
    Answers (.mtrTxheadWrite init v) s (fun t => t.get F.MTR_TXHEAD_HEAD = s.get F.MTR_TXHEAD_HEAD ∧ t.oneMore s
    F.MTR_STAT_BADIDX ∧ t.mtr = s.mtr)) ∧
  (∀ (s : State) (init : Init) (v : Nat), s.domOn domFAB = true → s.mayWrite init .MTR_RXTAIL 0 = true → v % 8 = 0 → v < 4096
    → (v + 4096 - s.get F.MTR_RXTAIL_TAIL) % 4096 ≤ (s.get F.MTR_RXHEAD_HEAD + 4096 - s.get F.MTR_RXTAIL_TAIL) % 4096 →
    s.mtr.waiting = [] → Answers (.mtrRxtailWrite init v) s (fun t => t.get F.MTR_RXTAIL_TAIL = v ∧ t.get F.MTR_RXHEAD_HEAD =
    s.get F.MTR_RXHEAD_HEAD ∧ t.get F.MTR_STAT_BADIDX = s.get F.MTR_STAT_BADIDX)) ∧
  (∀ (s : State), s.get F.MTR_STAT_LINK = 1 → Answers (.islandLinkFall) s (fun t => t.get F.MTR_STAT_LINK = 0 ∧ t.oneMore s
    F.MTR_STAT_LINKLOSS ∧ t.get F.MTR_TXHEAD_HEAD = 0 ∧ t.get F.MTR_TXTAIL_TAIL = 0 ∧ t.mtr.marks = [] ∧ t.mtr.chal =
    s.mtr.chal)) ∧
  (∀ (s : State), s.mtr.on = true → s.get F.MTR_STAT_LINK = 0 → Answers (.islandLinkRise) s (fun t => t.get F.MTR_STAT_LINK =
    1 ∧ t.mtr.trialTo = none ∧ t.mtr.cnt0 = s.mtr.cnt0 ∧ t.mtr.sealSt = s.mtr.sealSt))

/-- R584: the requests, their replies and their effects. Layouts are a choice of the model (DESIGN CHOICE, log entry 19). -/
def Obligations.MeteringRequestsComplete : Prop :=
  (∀ (s : State) (seq size h : Nat) (p : List Byte), s.mtrHead = some (1, seq, p, size) → p.length = 0 → s.get
    F.MTR_TXHEAD_HEAD = (s.get F.MTR_TXTAIL_TAIL + size) % 4096 → s.mtr.waiting = [] → s.get F.MTR_RXHEAD_HEAD = h → h % 8 = 0
    → (h + 4096 - s.get F.MTR_RXTAIL_TAIL) % 4096 ≤ 2048 → Answers (.statusReq) s (fun t => t.get F.MTR_TXTAIL_TAIL = s.get
    F.MTR_TXHEAD_HEAD ∧ t.get F.MTR_RXHEAD_HEAD = (h + 40) % 4096 ∧ t.word .MTR_RXBUF (h % 4096 / 4) 0 0 = 2097281#32 ∧ t.word
    .MTR_RXBUF ((h + 4) % 4096 / 4) 0 0 = BitVec.ofNat 32 seq ∧ t.mtr.sealSt = s.mtr.sealSt ∧ t.mtr.cnt0 = s.mtr.cnt0)) ∧
  (∀ (s : State) (seq size h : Nat) (p : List Byte), s.mtrHead = some (2, seq, p, size) → p.length = 16 → s.get
    F.MTR_TXHEAD_HEAD = (s.get F.MTR_TXTAIL_TAIL + size) % 4096 → s.mtr.waiting = [] → s.get F.MTR_RXHEAD_HEAD = h → h % 8 = 0
    → (h + 4096 - s.get F.MTR_RXTAIL_TAIL) % 4096 ≤ 2048 → (p.getD 0 0).toNat = 1 ∨ (p.getD 0 0).toNat = 2 → s.mtr.clock.valid
    = false → Answers (.timeCorr) s (fun t => t.get F.MTR_TXTAIL_TAIL = s.get F.MTR_TXHEAD_HEAD ∧ t.get F.MTR_RXHEAD_HEAD = (h
    + 16) % 4096 ∧ t.word .MTR_RXBUF (h % 4096 / 4) 0 0 = 526726#32 ∧ t.word .MTR_RXBUF ((h + 4) % 4096 / 4) 0 0 =
    BitVec.ofNat 32 seq ∧ t.mtr.clock = s.mtr.clock ∧ t.mtr.corr = s.mtr.corr)) ∧
  (∀ (s : State) (seq size h : Nat) (p : List Byte) (d : Int), s.mtrHead = some (2, seq, p, size) → p.length = 16 → s.get
    F.MTR_TXHEAD_HEAD = (s.get F.MTR_TXTAIL_TAIL + size) % 4096 → s.mtr.waiting = [] → s.get F.MTR_RXHEAD_HEAD = h → h % 8 = 0
    → (h + 4096 - s.get F.MTR_RXTAIL_TAIL) % 4096 ≤ 2048 → (p.getD 0 0).toNat = 1 ∨ (p.getD 0 0).toNat = 2 → s.mtr.clock.valid
    = true → s.mtr.clock.slew = 0 → s.mtr.corr = [] → s.mtr.marks = [] → Int.ofNat (msOfUtc (ofLE (p.drop 8))) - Int.ofNat
    s.legalMs = d → 10 < d.natAbs → d.natAbs ≤ 2000 → Answers (.timeCorr) s (fun t => t.get F.MTR_TXTAIL_TAIL = s.get
    F.MTR_TXHEAD_HEAD ∧ t.get F.MTR_RXHEAD_HEAD = (h + 16) % 4096 ∧ t.word .MTR_RXBUF (h % 4096 / 4) 0 0 = 524422#32 ∧ t.word
    .MTR_RXBUF ((h + 4) % 4096 / 4) 0 0 = BitVec.ofNat 32 seq ∧ t.mtr.corr = [(s.legalMs, d)] ∧ t.mtr.clock.slew = d ∧
    t.mtr.clock.valid = true ∧ t.mtr.recs.getLast?.map (fun r => r.typ) = some 4 ∧ t.mtr.nextRec = (s.mtr.nextRec + 1) % 2 ^
    32)) ∧
  (∀ (s : State) (seq size h : Nat) (p : List Byte), s.mtrHead = some (3, seq, p, size) → p.length = 2 → s.get
    F.MTR_TXHEAD_HEAD = (s.get F.MTR_TXTAIL_TAIL + size) % 4096 → s.mtr.waiting = [] → s.get F.MTR_RXHEAD_HEAD = h → h % 8 = 0
    → (h + 4096 - s.get F.MTR_RXTAIL_TAIL) % 4096 ≤ 2048 → ofLE p ≤ 1000 → Answers (.distCfg) s (fun t => t.get
    F.MTR_TXTAIL_TAIL = s.get F.MTR_TXHEAD_HEAD ∧ t.get F.MTR_RXHEAD_HEAD = (h + 16) % 4096 ∧ t.word .MTR_RXBUF (h % 4096 / 4)
    0 0 = 524422#32 ∧ t.word .MTR_RXBUF ((h + 4) % 4096 / 4) 0 0 = BitVec.ofNat 32 seq ∧ t.mtr.dist = ofLE p * 10 ∧
    t.mtr.distAt = s.inow + ofLE p * 10 * msUnits)) ∧
  (∀ (s : State) (seq size h : Nat) (p : List Byte), s.mtrHead = some (4, seq, p, size) → p.length = 20 → s.get
    F.MTR_TXHEAD_HEAD = (s.get F.MTR_TXTAIL_TAIL + size) % 4096 → s.mtr.waiting = [] → s.get F.MTR_RXHEAD_HEAD = h → h % 8 = 0
    → (h + 4096 - s.get F.MTR_RXTAIL_TAIL) % 4096 ≤ 2048 → ofLE (p.take 4) = 0xFFFFFFFF → Answers (.recordReq) s (fun t =>
    t.get F.MTR_TXTAIL_TAIL = s.get F.MTR_TXHEAD_HEAD ∧ t.get F.MTR_RXHEAD_HEAD = (h + 120) % 4096 ∧ t.word .MTR_RXBUF (h %
    4096 / 4) 0 0 = 7340164#32 ∧ t.word .MTR_RXBUF ((h + 4) % 4096 / 4) 0 0 = BitVec.ofNat 32 seq ∧ t.mtr.recs = s.mtr.recs)) ∧
  (∀ (s : State) (seq size h : Nat) (p : List Byte), s.mtrHead = some (4, seq, p, size) → p.length = 20 → s.get
    F.MTR_TXHEAD_HEAD = (s.get F.MTR_TXTAIL_TAIL + size) % 4096 → s.mtr.waiting = [] → s.get F.MTR_RXHEAD_HEAD = h → h % 8 = 0
    → (h + 4096 - s.get F.MTR_RXTAIL_TAIL) % 4096 ≤ 2048 → ofLE (p.take 4) ≠ 0xFFFFFFFF → s.mtr.recs.all (fun r => r.index !=
    ofLE (p.take 4)) = true → Answers (.recordReq) s (fun t => t.get F.MTR_TXTAIL_TAIL = s.get F.MTR_TXHEAD_HEAD ∧ t.get
    F.MTR_RXHEAD_HEAD = (h + 8) % 4096 ∧ t.word .MTR_RXBUF (h % 4096 / 4) 0 0 = 2692#32 ∧ t.word .MTR_RXBUF ((h + 4) % 4096 /
    4) 0 0 = BitVec.ofNat 32 seq ∧ t.mtr.recs = s.mtr.recs)) ∧
  (∀ (s : State) (seq size h : Nat) (p : List Byte), s.mtrHead = some (5, seq, p, size) → p.length = 0 → s.get
    F.MTR_TXHEAD_HEAD = (s.get F.MTR_TXTAIL_TAIL + size) % 4096 → s.mtr.waiting = [] → s.get F.MTR_RXHEAD_HEAD = h → h % 8 = 0
    → (h + 4096 - s.get F.MTR_RXTAIL_TAIL) % 4096 ≤ 2048 → s.mtr.sealSt ≠ 1 → s.mtr.lockTo = none → Answers (.openReq) s (fun
    t => t.get F.MTR_TXTAIL_TAIL = s.get F.MTR_TXHEAD_HEAD ∧ t.get F.MTR_RXHEAD_HEAD = (h + 40) % 4096 ∧ t.word .MTR_RXBUF (h
    % 4096 / 4) 0 0 = 2097285#32 ∧ t.word .MTR_RXBUF ((h + 4) % 4096 / 4) 0 0 = BitVec.ofNat 32 seq ∧ t.mtr.chal.map (fun c =>
    c.2) = some s.inow ∧ t.mtr.sealSt = s.mtr.sealSt)) ∧
  (∀ (s : State) (seq size h : Nat) (p : List Byte), s.mtrHead = some (5, seq, p, size) → p.length = 0 → s.get
    F.MTR_TXHEAD_HEAD = (s.get F.MTR_TXTAIL_TAIL + size) % 4096 → s.mtr.waiting = [] → s.get F.MTR_RXHEAD_HEAD = h → h % 8 = 0
    → (h + 4096 - s.get F.MTR_RXTAIL_TAIL) % 4096 ≤ 2048 → s.mtr.sealSt ≠ 1 → s.mtr.lockTo.isSome = true → Answers (.openReq)
    s (fun t => t.get F.MTR_TXTAIL_TAIL = s.get F.MTR_TXHEAD_HEAD ∧ t.get F.MTR_RXHEAD_HEAD = (h + 8) % 4096 ∧ t.word
    .MTR_RXBUF (h % 4096 / 4) 0 0 = 1925#32 ∧ t.word .MTR_RXBUF ((h + 4) % 4096 / 4) 0 0 = BitVec.ofNat 32 seq ∧ t.mtr.chal =
    s.mtr.chal)) ∧
  (∀ (s : State) (seq size h : Nat) (p : List Byte), s.mtrHead = some (6, seq, p, size) → p.length = 136 → s.get
    F.MTR_TXHEAD_HEAD = (s.get F.MTR_TXTAIL_TAIL + size) % 4096 → s.mtr.waiting = [] → s.get F.MTR_RXHEAD_HEAD = h → h % 8 = 0
    → (h + 4096 - s.get F.MTR_RXTAIL_TAIL) % 4096 ≤ 2048 → s.mtr.sealSt ≠ 1 → s.mtr.pin = true → s.workshopOk p = true →
    Answers (.openAuth) s (fun t => t.get F.MTR_TXTAIL_TAIL = s.get F.MTR_TXHEAD_HEAD ∧ t.get F.MTR_RXHEAD_HEAD = (h + 32) %
    4096 ∧ t.word .MTR_RXBUF ((h + 16) % 4096 / 4) 0 0 = 524422#32 ∧ t.word .MTR_RXBUF (((h + 16) + 4) % 4096 / 4) 0 0 =
    BitVec.ofNat 32 seq ∧ t.mtr.sealSt = 1 ∧ t.mtr.openAt = s.inow ∧ t.mtr.pinFrom = none ∧ t.mtr.bad = [] ∧
    t.mtr.recs.getLast?.map (fun r => r.typ) = some 6 ∧ t.mtr.nextRec = (s.mtr.nextRec + 1) % 2 ^ 32)) ∧
  (∀ (s : State) (seq size h : Nat) (p : List Byte), s.mtrHead = some (6, seq, p, size) → p.length = 136 → s.get
    F.MTR_TXHEAD_HEAD = (s.get F.MTR_TXTAIL_TAIL + size) % 4096 → s.mtr.waiting = [] → s.get F.MTR_RXHEAD_HEAD = h → h % 8 = 0
    → (h + 4096 - s.get F.MTR_RXTAIL_TAIL) % 4096 ≤ 2048 → s.mtr.sealSt ≠ 1 → s.mtr.pin = true → s.workshopOk p = false →
    s.mtr.bad = [] → Answers (.openAuth) s (fun t => t.get F.MTR_TXTAIL_TAIL = s.get F.MTR_TXHEAD_HEAD ∧ t.get
    F.MTR_RXHEAD_HEAD = (h + 16) % 4096 ∧ t.word .MTR_RXBUF (h % 4096 / 4) 0 0 = 525958#32 ∧ t.word .MTR_RXBUF ((h + 4) % 4096
    / 4) 0 0 = BitVec.ofNat 32 seq ∧ t.mtr.sealSt = s.mtr.sealSt ∧ t.mtr.failAuth = s.mtr.failAuth + 1 ∧ t.mtr.bad =
    [s.inow])) ∧
  (∀ (s : State) (seq size h : Nat) (p : List Byte), s.mtrHead = some (6, seq, p, size) → p.length = 136 → s.get
    F.MTR_TXHEAD_HEAD = (s.get F.MTR_TXTAIL_TAIL + size) % 4096 → s.mtr.waiting = [] → s.get F.MTR_RXHEAD_HEAD = h → h % 8 = 0
    → (h + 4096 - s.get F.MTR_RXTAIL_TAIL) % 4096 ≤ 2048 → s.mtr.sealSt ≠ 1 → s.mtr.pin = false → Answers (.openAuth) s (fun t
    => t.get F.MTR_TXTAIL_TAIL = s.get F.MTR_TXHEAD_HEAD ∧ t.get F.MTR_RXHEAD_HEAD = (h + 16) % 4096 ∧ t.word .MTR_RXBUF (h %
    4096 / 4) 0 0 = 526470#32 ∧ t.word .MTR_RXBUF ((h + 4) % 4096 / 4) 0 0 = BitVec.ofNat 32 seq ∧ t.mtr.sealSt = s.mtr.sealSt
    ∧ t.mtr.failAuth = s.mtr.failAuth)) ∧
  (∀ (s : State) (seq size h : Nat) (p : List Byte), s.mtrHead = some (7, seq, p, size) → p.length = 0 → s.get
    F.MTR_TXHEAD_HEAD = (s.get F.MTR_TXTAIL_TAIL + size) % 4096 → s.mtr.waiting = [] → s.get F.MTR_RXHEAD_HEAD = h → h % 8 = 0
    → (h + 4096 - s.get F.MTR_RXTAIL_TAIL) % 4096 ≤ 2048 → s.mtr.sealSt = 1 → s.mtr.pin = false → Answers (.sealReq) s (fun t
    => t.get F.MTR_TXTAIL_TAIL = s.get F.MTR_TXHEAD_HEAD ∧ t.get F.MTR_RXHEAD_HEAD = (h + 32) % 4096 ∧ t.word .MTR_RXBUF ((h +
    16) % 4096 / 4) 0 0 = 524422#32 ∧ t.word .MTR_RXBUF (((h + 16) + 4) % 4096 / 4) 0 0 = BitVec.ofNat 32 seq ∧ t.mtr.sealSt =
    0 ∧ t.mtr.recs.getLast?.map (fun r => r.typ) = some 7 ∧ t.mtr.nextRec = (s.mtr.nextRec + 1) % 2 ^ 32)) ∧
  (∀ (s : State) (seq size h : Nat) (p : List Byte), s.mtrHead = some (7, seq, p, size) → p.length = 0 → s.get
    F.MTR_TXHEAD_HEAD = (s.get F.MTR_TXTAIL_TAIL + size) % 4096 → s.mtr.waiting = [] → s.get F.MTR_RXHEAD_HEAD = h → h % 8 = 0
    → (h + 4096 - s.get F.MTR_RXTAIL_TAIL) % 4096 ≤ 2048 → s.mtr.sealSt ≠ 1 → Answers (.sealReq) s (fun t => t.get
    F.MTR_TXTAIL_TAIL = s.get F.MTR_TXHEAD_HEAD ∧ t.get F.MTR_RXHEAD_HEAD = (h + 16) % 4096 ∧ t.word .MTR_RXBUF (h % 4096 / 4)
    0 0 = 524934#32 ∧ t.word .MTR_RXBUF ((h + 4) % 4096 / 4) 0 0 = BitVec.ofNat 32 seq ∧ t.mtr.sealSt = s.mtr.sealSt)) ∧
  (∀ (s : State) (seq size h : Nat) (p : List Byte), s.mtrHead = some (8, seq, p, size) → p.length = 5 → s.get
    F.MTR_TXHEAD_HEAD = (s.get F.MTR_TXTAIL_TAIL + size) % 4096 → s.mtr.waiting = [] → s.get F.MTR_RXHEAD_HEAD = h → h % 8 = 0
    → (h + 4096 - s.get F.MTR_RXTAIL_TAIL) % 4096 ≤ 2048 → s.mtr.sealSt = 1 → 1000 ≤ ofLE (p.take 4) → ofLE (p.take 4) ≤
    1000000 → (p.getD 4 0).toNat % 2 = 0 → Answers (.setKfactor) s (fun t => t.get F.MTR_TXTAIL_TAIL = s.get F.MTR_TXHEAD_HEAD
    ∧ t.get F.MTR_RXHEAD_HEAD = (h + 16) % 4096 ∧ t.word .MTR_RXBUF (h % 4096 / 4) 0 0 = 524422#32 ∧ t.word .MTR_RXBUF ((h +
    4) % 4096 / 4) 0 0 = BitVec.ofNat 32 seq ∧ t.mtr.kfactor = ofLE (p.take 4) ∧ t.mtr.cnt0 = s.mtr.cnt0 ∧
    t.mtr.recs.getLast?.map (fun r => r.typ) = some 9 ∧ t.mtr.nextRec = (s.mtr.nextRec + 1) % 2 ^ 32)) ∧
  (∀ (s : State) (seq size h : Nat) (p : List Byte), s.mtrHead = some (8, seq, p, size) → p.length = 5 → s.get
    F.MTR_TXHEAD_HEAD = (s.get F.MTR_TXTAIL_TAIL + size) % 4096 → s.mtr.waiting = [] → s.get F.MTR_RXHEAD_HEAD = h → h % 8 = 0
    → (h + 4096 - s.get F.MTR_RXTAIL_TAIL) % 4096 ≤ 2048 → s.mtr.sealSt ≠ 1 → Answers (.setKfactor) s (fun t => t.get
    F.MTR_TXTAIL_TAIL = s.get F.MTR_TXHEAD_HEAD ∧ t.get F.MTR_RXHEAD_HEAD = (h + 16) % 4096 ∧ t.word .MTR_RXBUF (h % 4096 / 4)
    0 0 = 524934#32 ∧ t.word .MTR_RXBUF ((h + 4) % 4096 / 4) 0 0 = BitVec.ofNat 32 seq ∧ t.mtr.kfactor = s.mtr.kfactor)) ∧
  (∀ (s : State) (seq size h : Nat) (p : List Byte), s.mtrHead = some (9, seq, p, size) → p.length = 8 → s.get
    F.MTR_TXHEAD_HEAD = (s.get F.MTR_TXTAIL_TAIL + size) % 4096 → s.mtr.waiting = [] → s.get F.MTR_RXHEAD_HEAD = h → h % 8 = 0
    → (h + 4096 - s.get F.MTR_RXTAIL_TAIL) % 4096 ≤ 2048 → s.mtr.sealSt = 1 → Answers (.setTime) s (fun t => t.get
    F.MTR_TXTAIL_TAIL = s.get F.MTR_TXHEAD_HEAD ∧ t.get F.MTR_RXHEAD_HEAD = (h + 16) % 4096 ∧ t.word .MTR_RXBUF (h % 4096 / 4)
    0 0 = 524422#32 ∧ t.word .MTR_RXBUF ((h + 4) % 4096 / 4) 0 0 = BitVec.ofNat 32 seq ∧ t.mtr.clock = ⟨msOfUtc (ofLE p) *
    msUnits, s.inow, 0, true⟩ ∧ t.mtr.corr = [] ∧ t.mtr.recs.getLast?.map (fun r => r.typ) = some 5 ∧ t.mtr.nextRec =
    (s.mtr.nextRec + 1) % 2 ^ 32)) ∧
  (∀ (s : State) (seq size h : Nat) (p : List Byte) (outcome : Nat), s.mtrHead = some (10, seq, p, size) → p.length = 0 →
    s.get F.MTR_TXHEAD_HEAD = (s.get F.MTR_TXTAIL_TAIL + size) % 4096 → s.mtr.waiting = [] → s.get F.MTR_RXHEAD_HEAD = h → h %
    8 = 0 → (h + 4096 - s.get F.MTR_RXTAIL_TAIL) % 4096 ≤ 2048 → s.mtr.sealSt = 1 → Answers (.islandSelftest outcome) s (fun t
    => t.get F.MTR_TXTAIL_TAIL = s.get F.MTR_TXHEAD_HEAD ∧ t.get F.MTR_RXHEAD_HEAD = (h + 16) % 4096 ∧ t.word .MTR_RXBUF (h %
    4096 / 4) 0 0 = 524422#32 ∧ t.word .MTR_RXBUF ((h + 4) % 4096 / 4) 0 0 = BitVec.ofNat 32 seq ∧ t.word .MTR_RXBUF ((h + 12)
    % 4096 / 4) 0 0 = BitVec.ofNat 32 outcome ∧ t.mtr.openAt = s.inow)) ∧
  (∀ (s : State) (seq size h : Nat) (p : List Byte), s.mtrHead = some (11, seq, p, size) → p.length = 1032 → s.get
    F.MTR_TXHEAD_HEAD = (s.get F.MTR_TXTAIL_TAIL + size) % 4096 → s.mtr.waiting = [] → s.get F.MTR_RXHEAD_HEAD = h → h % 8 = 0
    → (h + 4096 - s.get F.MTR_RXTAIL_TAIL) % 4096 ≤ 2048 → s.mtr.sealSt = 1 → ofLE (p.take 4) < 128 → Answers (.fwBlock) s
    (fun t => t.get F.MTR_TXTAIL_TAIL = s.get F.MTR_TXHEAD_HEAD ∧ t.get F.MTR_RXHEAD_HEAD = (h + 16) % 4096 ∧ t.word
    .MTR_RXBUF (h % 4096 / 4) 0 0 = 524422#32 ∧ t.word .MTR_RXBUF ((h + 4) % 4096 / 4) 0 0 = BitVec.ofNat 32 seq ∧ Sparse.get
    t.mtr.blocks (ofLE (p.take 4)) = some (p.drop 8) ∧ t.mtr.store = s.mtr.store)) ∧
  (∀ (s : State) (seq size h : Nat) (p : List Byte), s.mtrHead = some (12, seq, p, size) → p.length = 72 → s.get
    F.MTR_TXHEAD_HEAD = (s.get F.MTR_TXTAIL_TAIL + size) % 4096 → s.mtr.waiting = [] → s.get F.MTR_RXHEAD_HEAD = h → h % 8 = 0
    → (h + 4096 - s.get F.MTR_RXTAIL_TAIL) % 4096 ≤ 2048 → s.mtr.sealSt = 1 → s.imageOk p = false → Answers (.fwCommit) s (fun
    t => t.get F.MTR_TXTAIL_TAIL = s.get F.MTR_TXHEAD_HEAD ∧ t.get F.MTR_RXHEAD_HEAD = (h + 16) % 4096 ∧ t.word .MTR_RXBUF (h
    % 4096 / 4) 0 0 = 527238#32 ∧ t.word .MTR_RXBUF ((h + 4) % 4096 / 4) 0 0 = BitVec.ofNat 32 seq ∧ t.mtr.store = s.mtr.store
    ∧ t.mtr.trialTo = s.mtr.trialTo)) ∧
  (∀ (s : State) (seq size : Nat) (p : List Byte), s.mtrHead = some (12, seq, p, size) → p.length = 72 → s.mtr.sealSt = 1 →
    s.imageOk p = true → s.mtr.store < 2 → Answers (.fwCommit) s (fun t => t.mtr.store = 1 - s.mtr.store ∧ t.mtr.blocks = [] ∧
    t.mtr.trialTo = some (s.inow + 10 * secUnits) ∧ t.get F.MTR_STAT_LINK = 0)) ∧
  (∀ (s : State) (seq size h : Nat) (p : List Byte), s.mtrHead = some (13, seq, p, size) → p.length = 0 → s.get
    F.MTR_TXHEAD_HEAD = (s.get F.MTR_TXTAIL_TAIL + size) % 4096 → s.mtr.waiting = [] → s.get F.MTR_RXHEAD_HEAD = h → h % 8 = 0
    → (h + 4096 - s.get F.MTR_RXTAIL_TAIL) % 4096 ≤ 2048 → Answers (.pubkeyReq) s (fun t => t.get F.MTR_TXTAIL_TAIL = s.get
    F.MTR_TXHEAD_HEAD ∧ t.get F.MTR_RXHEAD_HEAD = (h + 88) % 4096 ∧ t.word .MTR_RXBUF (h % 4096 / 4) 0 0 = 5243015#32 ∧ t.word
    .MTR_RXBUF ((h + 4) % 4096 / 4) 0 0 = BitVec.ofNat 32 seq ∧ t.mtr.sealSt = s.mtr.sealSt))

/-- R641 to R648: commands that restart and move partitions. -/
def Obligations.PartitionCommandsComplete : Prop :=
  (∀ (s : State) (init : Init) (n : Nat), s.domOn domFAB = true → s.mayWrite init .SYS_PCTL n = true → n < 4 → s.canRestart n
    = true → s.restarting n = none → s.get F.UPD_HEALTH_TRIAL n = 0 → s.seat n < 4 → s.coreState (s.seat n) < 3 → Answers
    (.partRestart init n) s (fun t => t.host n = 7 ∧ t.get F.SYS_PCTL_CAUSE n = 1 ∧ t.oneMore s F.SYS_PCTL_RESTARTS n ∧
    (t.restarting n).map (fun r => (r.cause, r.core, r.home)) = some (1, s.seat n, s.seat n) ∧ (t.core (s.seat n)).run =
    .stopped)) ∧
  (∀ (s : State) (init : Init) (n : Nat), s.domOn domFAB = true → s.mayWrite init .SYS_PCTL n = true → s.reliefFree = true → n
    < 4 → s.canRestart n = true → s.restarting n = none → s.get F.UPD_HEALTH_TRIAL n = 0 → s.seat n < 4 → s.coreState (s.seat
    n) < 3 → Answers (.partMove init n) s (fun t => t.host n = 7 ∧ t.get F.SYS_PCTL_CAUSE n = 5 ∧ t.oneMore s
    F.SYS_PCTL_RESTARTS n ∧ (t.restarting n).map (fun r => (r.cause, r.core, r.home)) = some (5, 4, s.seat n) ∧ (t.core
    (s.seat n)).run = .stopped)) ∧
  (∀ (s : State) (init : Init) (n : Nat), s.domOn domFAB = true → s.mayWrite init .SYS_PCTL n = true → s.coreState n < 2 → n <
    4 → s.canRestart n = true → s.restarting n = none → s.get F.UPD_HEALTH_TRIAL n = 0 → s.seat n < 5 → Answers (.partBack
    init n) s (fun t => t.host n = 7 ∧ t.get F.SYS_PCTL_CAUSE n = 6 ∧ t.oneMore s F.SYS_PCTL_RESTARTS n ∧ (t.restarting n).map
    (fun r => (r.cause, r.core, r.home)) = some (6, n, s.seat n) ∧ (t.core (s.seat n)).run = .stopped)) ∧
  (∀ (s : State) (init : Init) (n : Nat), s.domOn domFAB = true → s.mayWrite init .SYS_RELIEF 0 = true → n < 4 → s.canRestart
    n = true → s.restarting n = none → s.get F.UPD_HEALTH_TRIAL n = 0 → s.seat n < 4 → s.coreState (s.seat n) < 3 → Answers
    (.rstreq init (2 ^ n)) s (fun t => t.host n = 7 ∧ t.get F.SYS_PCTL_CAUSE n = 2 ∧ t.oneMore s F.SYS_PCTL_RESTARTS n ∧
    (t.restarting n).map (fun r => (r.cause, r.core, r.home)) = some (2, s.seat n, s.seat n) ∧ (t.core (s.seat n)).run =
    .stopped ∧ t.get F.SYS_RELIEF_AUTO = s.get F.SYS_RELIEF_AUTO)) ∧
  (∀ (s : State) (c n : Nat), c < 4 → (List.range 4).filter (fun m => s.running m && s.host m == c) = [n] → s.seat n = c →
    s.get F.SYS_RELIEF_AUTO = 0 → s.get F.UPD_HEALTH_TRIAL n = 0 → s.restarting n = none → Answers (.coreCheckError [c]) s
    (fun t => t.coreState c = 2 ∧ t.oneMore s F.SYS_CORESTAT_CHKERR ∧ t.host n = 7 ∧ t.get F.SYS_PCTL_CAUSE n = 4 ∧ t.oneMore
    s F.SYS_PCTL_RESTARTS n ∧ (t.restarting n).map (fun r => (r.cause, r.core, r.home)) = some (4, c, s.seat n) ∧ (t.core
    (s.seat n)).run = .stopped)) ∧
  (∀ (s : State) (u : Nat), s.integ.rcOn = some u → u + 200 * usUnits ≤ s.now → s.domOn domFAB = true → s.coreState 4 ≠ 3 →
    Answers (.reliefCoreReady) s (fun t => t.domOn domRC = true ∧ t.integ.rcOn = none)) ∧
  (∀ (s : State) (c : Nat) (pass : Bool), c < 5 → s.coreState c = 2 → (List.range 4).all (fun n => (s.restarting n).all (fun r
    => r.core != c)) = true → Answers (.coreSelfTestEnd c pass) s (fun t => t.coreState c = (if pass then 0 else 3) ∧
    t.integ.restarts = s.integ.restarts))

/-- R629 to R649: commands of integrity. -/
def Obligations.IntegrityCommandsComplete : Prop :=
  (∀ (s : State) (init : Init), s.domOn domFAB = true → s.mayWrite init .SYS_DWDOG 0 = true → Answers (.dwdogKey3c init) s
    (fun t => t.integ.dwPairs.contains init = true ∧ t.integ.dwAt = s.integ.dwAt ∧ t.regs = s.regs)) ∧
  (∀ (s : State) (init : Init) (m : Nat), s.domOn domFAB = true → s.mayWrite init .SYS_DWDOG 0 = true →
    s.integ.dwPairs.contains init = true → s.pwr = 0 → s.get F.SYS_DWDOG_TIME = m → 10 ≤ m → m ≤ 4000 → Answers (.dwdogKeyC3
    init) s (fun t => t.integ.dwUse = m ∧ t.integ.dwAt = some (s.now + m * msUnits) ∧ t.integ.dwPairs.contains init = false)) ∧
  (∀ (s : State) (init : Init) (key : Nat), s.domOn domFAB = true → s.mayWrite init .SYS_DWDOG 0 = true → key % 256 ≠ 0 → key
    % 256 ≠ 0x3C → key % 256 ≠ 0xC3 → Answers (.dwdogWrongKey init key) s (fun t => t.oneMore s F.ERR_BLK0_ACCESS 15 ∧
    t.integ.dwPairs.contains init = false ∧ t.integ.dwAt = s.integ.dwAt)) ∧
  (∀ (s : State) (init : Init) (ms : Nat), s.domOn domFAB = true → s.mayWrite init .SYS_DWDOG 0 = true → s.integ.dwUse ≠ 0 →
    Answers (.dwdogTimeWrite init ms) s (fun t => t.get F.SYS_DWDOG_TIME = ms % 4096 ∧ t.integ = s.integ)) ∧
  (∀ (s : State) (u : Nat), s.integ.dwAt = some u → u ≤ s.now → Answers (.deviceWatchdogExpiry) s (fun t => t.pwr = 5 ∧ t.get
    F.PMU_STATE_LASTRST = 4 ∧ t.boot.kind = 1 ∧ t.integ.dwAt = none)) ∧
  (∀ (s : State) (init : Init) (n cls idx : Nat), n < 4 → s.domOn domFAB = true → s.mayWrite init .SYS_TEST n = true →
    Sparse.get s.integ.tests n = none → idx < 65536 → s.svcOk n 1 cls idx = true → cls < 256 → Answers (.testOutput init n cls
    idx) s (fun t => t.get F.SYS_TEST_BUSY n = 1 ∧ t.get F.SYS_TEST_RES n = 0 ∧ Sparse.get t.integ.tests n = some ⟨1, cls,
    idx, s.now⟩)) ∧
  (∀ (s : State) (init : Init) (n idx : Nat), n < 4 → s.domOn domFAB = true → s.mayWrite init .SYS_TEST n = true → Sparse.get
    s.integ.tests n = none → idx < 65536 → s.svcOk n 2 4 idx = true → Answers (.testString init n idx) s (fun t => t.get
    F.SYS_TEST_BUSY n = 1 ∧ t.get F.SYS_TEST_RES n = 0 ∧ Sparse.get t.integ.tests n = some ⟨2, 4, idx, s.now⟩ ∧ bit (t.chan
    (128 + idx)).prot pTest = true)) ∧
  (∀ (s : State) (init : Init) (n idx : Nat), n < 4 → s.domOn domFAB = true → s.mayWrite init .SYS_TEST n = true → Sparse.get
    s.integ.tests n = none → idx < 65536 → s.svcOk n 3 14 idx = true → idx < 10 → Answers (.testCan init n idx) s (fun t =>
    t.get F.SYS_TEST_BUSY n = 1 ∧ t.get F.SYS_TEST_RES n = 0 ∧ Sparse.get t.integ.tests n = some ⟨3, 14, idx, s.now⟩)) ∧
  (∀ (s : State) (init : Init) (n idx : Nat), n < 4 → s.domOn domFAB = true → s.mayWrite init .SYS_TEST n = true → Sparse.get
    s.integ.tests n = none → idx < 65536 → s.svcOk n 4 15 idx = true → idx < 12 → Answers (.testLin init n idx) s (fun t =>
    t.get F.SYS_TEST_BUSY n = 1 ∧ t.get F.SYS_TEST_RES n = 0 ∧ Sparse.get t.integ.tests n = some ⟨4, 15, idx, s.now⟩)) ∧
  (∀ (s : State) (init : Init) (n idx : Nat), n < 4 → s.domOn domFAB = true → s.mayWrite init .SYS_TEST n = true → Sparse.get
    s.integ.tests n = none → idx < 65536 → s.svcOk n 5 18 idx = true → s.upd.sessions = [] → Answers (.testPort init n idx) s
    (fun t => t.get F.SYS_TEST_BUSY n = 1 ∧ t.get F.SYS_TEST_RES n = 0 ∧ Sparse.get t.integ.tests n = some ⟨5, 18, idx, s.now⟩
    ∧ t.get F.ESW_PSTAT_LINK idx = 0)) ∧
  (∀ (s : State) (init : Init) (n cls idx : Nat), n < 4 → s.domOn domFAB = true → s.mayWrite init .SYS_TEST n = true →
    Sparse.get s.integ.tests n = none → idx < 65536 → cls < 256 → s.svcOk n 1 cls idx = false → Answers (.testOutput init n
    cls idx) s (fun t => t.get F.SYS_TEST_RES n = 3 ∧ t.integ = s.integ ∧ t.get F.SYS_TEST_BUSY n = s.get F.SYS_TEST_BUSY n)) ∧
  (∀ (s : State) (n res : Nat) (x : SvcTest), n < 4 → Sparse.get s.integ.tests n = some x → Answers (.inServiceTestEnd n res)
    s (fun t => t.get F.SYS_TEST_BUSY n = 0 ∧ t.get F.SYS_TEST_RES n = (if res = 1 ∨ res = 2 then res else 4) ∧ Sparse.get
    t.integ.tests n = none)) ∧
  (∀ (s : State) (a row : Nat), s.get F.ERR_SCRUB_EN = 1 → s.pwr ≤ 1 → Answers (.scrubVisit a row 1 false) s (fun t =>
    t.oneMore s F.ERR_BLK1_CORR1 (ramBlock a) ∧ t.oneMore s F.ERR_CUM_COUNT 0 ∧ t.cpu = s.cpu)) ∧
  (∀ (s : State) (a row : Nat), s.get F.ERR_SCRUB_EN = 1 → s.pwr ≤ 1 → Answers (.scrubVisit a row 3 true) s (fun t =>
    t.oneMore s F.ERR_BLK2_UNCORR (ramBlock a) ∧ t.oneMore s F.ERR_CUM_COUNT 2 ∧ t.oneMore s F.ERR_CUM_COUNT 24 ∧
    t.cpu.bad.contains (a / 8 * 8) = true ∧ t.integ.rows = [])) ∧
  (∀ (s : State) (one two h u : Nat), s.pwr = 3 ∨ s.pwr = 4 → s.get F.ERR_SCRUB_DSSCRUB = h → h ≠ 0 → s.pmu.commitAt = some u
    → max s.integ.scrubbed u + h * 3600 * secUnits ≤ s.now → s.get F.ERR_CUM_COUNT 0 + one < 2 ^ 32 → s.get F.ERR_CUM_COUNT 1
    + two < 2 ^ 32 → Answers (.parkedScrub one two []) s (fun t => t.get F.ERR_CUM_COUNT 0 = s.get F.ERR_CUM_COUNT 0 + one ∧
    t.get F.ERR_CUM_COUNT 1 = s.get F.ERR_CUM_COUNT 1 + two ∧ t.oneMore s F.ERR_CUM_COUNT 24 ∧ t.integ.scrubbed = s.now ∧
    t.pwr = s.pwr)) ∧
  (∀ (s : State) (e : LogEntry) (rest : List LogEntry), s.log.pend = e :: rest → s.log.headFound = true → s.log.flushing = 0 →
    e.stamp + secUnits ≤ s.now → Answers (.logFlushTimer) s (fun t => t.log.flushing = s.log.pend.length ∧ t.log.pend =
    s.log.pend ∧ t.regs = s.regs)) ∧
  (∀ (s : State) (e : LogEntry) (k : Nat), s.log.pend = [e] → s.log.headFound = true → s.log.flushing = 1 → s.get
    F.ERR_LOGHEAD_ENTRY = k → k + 1 < 786432 → Answers (.logFlushEnd) s (fun t => t.log.pend = [] ∧ t.log.flushing = 0 ∧ t.get
    F.ERR_LOGHEAD_ENTRY = k + 1 ∧ t.get F.ERR_LOGHEAD_WRAP = s.get F.ERR_LOGHEAD_WRAP)) ∧
  (∀ (s : State), s.log.headFound = false → s.pwr ≤ 1 → s.logHead = none → s.log.pend = [] → Answers (.logHeadFound) s (fun t
    => t.log.headFound = true ∧ t.get F.ERR_LOGHEAD_ENTRY = 0 ∧ t.get F.ERR_LOGHEAD_WRAP = 0 ∧ t.get F.ERR_LOGSEQ_SEQ = 0 ∧
    t.log.nextSeq = 0)) ∧
  (∀ (s : State) (k q : Nat), s.log.headFound = false → s.pwr ≤ 1 → s.logHead = some (k, q) → s.log.pend = [] → k + 1 < 786432
    → q + 1 < 2 ^ 32 → Answers (.logHeadFound) s (fun t => t.log.headFound = true ∧ t.get F.ERR_LOGHEAD_ENTRY = k + 1 ∧ t.get
    F.ERR_LOGHEAD_WRAP = (if s.logValid (k + 1) then 1 else 0) ∧ t.get F.ERR_LOGSEQ_SEQ = q + 1))

/-- R654 to R663, R676 to R678: sessions of the Siari engine. Path 0 is SVC, 1 is P9. -/
def Obligations.SiariSessionsComplete : Prop :=
  (∀ (s : State) (path src seq : Nat), s.siariOn path = true → Answers (.siariOpen path src seq) s (fun t =>
    t.upd.sessions.length = s.upd.sessions.length + 1 ∧ t.upd.out.length = 1 ∧ t.upd.holder = s.upd.holder ∧ t.boot.serviceAt
    = none ∧ t.upd.sessions.getLast?.map (fun y => (y.path, y.src, y.slot, y.at_)) = some (path, src % 2 ^ 48, none, s.now))) ∧
  (∀ (s : State) (x : Session) (seq : Nat) (key sig : List Byte), s.session x.value = some x → s.siariOn x.path = true →
    x.seq.map (fun q => (q + 1) % 2 ^ 32) = some seq → x.seq ≠ some seq → signedBy key sig (s.authBytes x) = false → Answers
    (.siariAuth x.path x.src x.value seq key sig) s (fun t => t.upd.out = [(x.path, x.src, siariMsg 2 x.value seq 2 [])] ∧
    (t.session x.value).map (fun y => y.slot) = some x.slot)) ∧
  (∀ (s : State) (x : Session) (seq k : Nat) (key sig : List Byte), s.session x.value = some x → s.siariOn x.path = true →
    x.seq.map (fun q => (q + 1) % 2 ^ 32) = some seq → x.seq ≠ some seq → signedBy key sig (s.authBytes x) = true → s.toolSlot
    key = some k → s.upd.holder = none → s.upd.arb = none → Answers (.siariAuth x.path x.src x.value seq key sig) s (fun t =>
    t.upd.out = [] ∧ t.upd.arb = some (s.now + msUnits, [(x.value, seq)]) ∧ (t.session x.value).map (fun y => y.slot) = some
    (some k))) ∧
  (∀ (s : State) (x : Session) (seq : Nat) (key sig : List Byte), s.session x.value = some x → s.siariOn x.path = true →
    x.seq.map (fun q => (q + 1) % 2 ^ 32) = some seq → x.seq ≠ some seq → signedBy key sig (s.authBytes x) = true → s.toolSlot
    key = none → Answers (.siariAuth x.path x.src x.value seq key sig) s (fun t => t.upd.out = [(x.path, x.src, siariMsg 2
    x.value seq 12 [])] ∧ (t.session x.value).map (fun y => y.slot) = some x.slot)) ∧
  (∀ (s : State) (e q : Nat) (x : Session), s.upd.arb = some (e, [(x.value, q)]) → e ≤ s.now → s.session x.value = some x →
    Answers (.arbitrationWindowEnd) s (fun t => t.upd.arb = none ∧ t.upd.holder = some (x.value, s.now) ∧ t.upd.out =
    [(x.path, x.src, siariMsg 2 x.value q 0 [])] ∧ t.oneMore s F.UPD_CNT_SESSIONS ∧ t.get F.UPD_STAT_SESS = 2)) ∧
  (∀ (s : State) (x : Session) (seq : Nat), s.session x.value = some x → s.siariOn x.path = true → x.seq.map (fun q => (q + 1)
    % 2 ^ 32) = some seq → x.seq ≠ some seq → x.slot ≠ none → Answers (.siariClose x.path x.src x.value seq) s (fun t =>
    t.upd.out = [(x.path, x.src, siariMsg 3 x.value seq 0 [])] ∧ t.session x.value = none)) ∧
  (∀ (s : State) (x : Session), s.session x.value = some x → x.slot = none → x.at_ + 10 * secUnits ≤ s.now → Answers
    (.authTimeout x.value) s (fun t => t.session x.value = none ∧ t.upd.act = s.upd.act)) ∧
  (∀ (s : State) (x : Session), s.session x.value = some x → x.last + 60 * secUnits ≤ s.now → Answers (.sessionIdleTimeout
    x.value) s (fun t => t.session x.value = none ∧ t.upd.act = s.upd.act)) ∧
  (∀ (s : State) (x : Session) (seq : Nat), s.session x.value = some x → s.siariOn x.path = true → x.seq.map (fun q => (q + 1)
    % 2 ^ 32) = some seq → x.seq ≠ some seq → x.slot ≠ none → Answers (.siariStatus x.path x.src x.value seq) s (fun t =>
    t.upd.out = [(x.path, x.src, siariMsg 4 x.value seq 0 (([(s.word .UPD_STAT 0 0 0).toNat, (s.word .UPD_LAST 0 0 0).toNat,
    (s.word .UPD_CNT 0 0 0).toNat, s.ptrSeq s.genInUse, (s.word .SYS_BOOTSTAT 0 0 0).toNat] : List Nat).flatMap (leB 4)))])) ∧
  (∀ (s : State) (x : Session) (seq : Nat) (first count : Nat), s.session x.value = some x → s.siariOn x.path = true →
    x.seq.map (fun q => (q + 1) % 2 ^ 32) = some seq → x.seq ≠ some seq → x.slot ≠ none → 1 ≤ count → count ≤ 32 → Answers
    (.logread x.path x.src x.value seq first count) s (fun t => t.upd.out = [(x.path, x.src, siariMsg 0x41 x.value seq 0
    ((List.range count).flatMap (fun k => s.logFind (first + k))))] ∧ t.mem = s.mem)) ∧
  (∀ (s : State) (x : Session) (seq : Nat) (first count : Nat), s.session x.value = some x → s.siariOn x.path = true →
    x.seq.map (fun q => (q + 1) % 2 ^ 32) = some seq → x.seq ≠ some seq → x.slot ≠ none → count = 0 ∨ 32 < count → Answers
    (.logread x.path x.src x.value seq first count) s (fun t => t.upd.out = [(x.path, x.src, siariMsg 0x41 x.value seq 5
    [])])) ∧
  (∀ (s : State) (x : Session) (seq : Nat) (part off size most : Nat), s.session x.value = some x → s.siariOn x.path = true →
    x.seq.map (fun q => (q + 1) % 2 ^ 32) = some seq → x.seq ≠ some seq → x.slot ≠ none → s.holds x = true → s.upd.act = none
    → s.partMax part = some most → 0x1000 ≤ off → off % 4096 = 0 → off + size ≤ 0x3000000 → size ≤ most + 256 →
    (x.parts.filter (fun p => p.part != part)).all (fun p => decide (off + size ≤ p.off) || decide (p.off + p.size ≤ off)) =
    true → Answers (.stageBegin x.path x.src x.value seq part off size true) s (fun t => t.upd.out = [(x.path, x.src, siariMsg
    0x10 x.value seq 0 [])] ∧ (t.session x.value).map (fun y => y.parts) = some (x.parts.filter (fun p => p.part != part) ++
    [⟨part, off, size, 0, false⟩]))) ∧
  (∀ (s : State) (x : Session) (seq : Nat) (off : Nat) (data : List Byte) (p : Staged19), s.session x.value = some x →
    s.siariOn x.path = true → x.seq.map (fun q => (q + 1) % 2 ^ 32) = some seq → x.seq ≠ some seq → x.slot ≠ none → s.holds x
    = true → s.upd.act = none → 0 < data.length → data.length ≤ 1024 → x.parts = [p] → p.done = false → off = p.fill → off +
    data.length ≤ p.size → Answers (.stageData x.path x.src x.value seq off data true) s (fun t => t.upd.out = [(x.path,
    x.src, siariMsg 0x11 x.value seq 0 [])] ∧ (t.session x.value).map (fun y => y.parts) = some
    [{ p with fill := off + data.length }] ∧ t.rdBytes (genBase s.genInactive + p.off + off) data.length = data)) ∧
  (∀ (s : State) (x : Session) (seq : Nat) (p : Staged19), s.session x.value = some x → s.siariOn x.path = true → x.seq.map
    (fun q => (q + 1) % 2 ^ 32) = some seq → x.seq ≠ some seq → x.slot ≠ none → s.holds x = true → s.upd.act = none → x.parts
    = [p] → p.done = false → Answers (.stageEnd x.path x.src x.value seq) s (fun t => t.upd.out = [(x.path, x.src, siariMsg
    0x12 x.value seq 0 (s.stageDigest p))] ∧ (t.session x.value).map (fun y => y.parts) = some [{ p with done := true }] ∧
    t.upd.jnext = (s.upd.jnext + 1) % 2 ^ 32)) ∧
  (∀ (s : State) (x : Session) (seq : Nat) (proof : List Byte), s.session x.value = some x → s.siariOn x.path = true →
    x.seq.map (fun q => (q + 1) % 2 ^ 32) = some seq → x.seq ≠ some seq → x.slot ≠ none → s.holds x = true → Sparse.get
    s.upd.barred x.path = none → Sha.digest (toBE 32 s.acc.vehicle.code ++ x.chal) = proof → Answers (.siariSecret x.path
    x.src x.value seq proof) s (fun t => t.upd.out = [(x.path, x.src, siariMsg 0x30 x.value seq 0 [])] ∧ t.acc.grantTo = some
    (s.now + 300 * secUnits))) ∧
  (∀ (s : State) (x : Session) (seq : Nat) (proof : List Byte), s.session x.value = some x → s.siariOn x.path = true →
    x.seq.map (fun q => (q + 1) % 2 ^ 32) = some seq → x.seq ≠ some seq → x.slot ≠ none → s.holds x = true → Sparse.get
    s.upd.barred x.path = none → Sha.digest (toBE 32 s.acc.vehicle.code ++ x.chal) ≠ proof → x.wrong < 2 → Answers
    (.siariSecret x.path x.src x.value seq proof) s (fun t => t.upd.out = [(x.path, x.src, siariMsg 0x30 x.value seq 11 [])] ∧
    t.acc = s.acc ∧ (t.session x.value).map (fun y => y.wrong) = some (x.wrong + 1))) ∧
  (∀ (s : State) (x : Session) (seq : Nat) (m : List Byte), s.session x.value = some x → s.siariOn x.path = true → x.seq.map
    (fun q => (q + 1) % 2 ^ 32) = some seq → x.seq ≠ some seq → x.slot ≠ none → s.holds x = true → 8 ≤ m.length → m.length ≤
    1040 → (m.getD 0 0).toNat ≠ 0 → (m.getD 0 0).toNat ≤ 13 → s.upd.ws = none → Answers (.wsmsg x.path x.src x.value seq m) s
    (fun t => t.get F.UPD_WSCTL_PEND = 1 ∧ t.get F.UPD_WSCTL_INLEN = m.length ∧ t.upd.ws = some (x.value, seq, s.now + 5 *
    secUnits) ∧ t.upd.out = [])) ∧
  (∀ (s : State) (init : Init) (v q u : Nat), s.domOn domFAB = true → s.mayWrite init .UPD_WSCTL 0 = true → s.upd.ws = some
    (v, q, u) → Answers (.workshopReply init) s (fun t => t.get F.UPD_WSCTL_PEND = 0 ∧ t.upd.ws = none ∧ t.upd.out.length =
    (if (s.session v).isSome then 1 else 0))) ∧
  (∀ (s : State) (x : Session) (q u : Nat), s.upd.ws = some (x.value, q, u) → u ≤ s.now → s.session x.value = some x → Answers
    (.workshopTimeout) s (fun t => t.get F.UPD_WSCTL_PEND = 0 ∧ t.upd.ws = none ∧ t.upd.out = [(x.path, x.src, siariMsg 0x40
    x.value q 13 [])])) ∧
  (∀ (s : State) (x : Session) (seq : Nat), s.session x.value = some x → s.siariOn x.path = true → x.seq.map (fun q => (q + 1)
    % 2 ^ 32) = some seq → x.seq ≠ some seq → x.slot ≠ none → s.holds x = true → Answers (.debugLock x.path x.src x.value seq)
    s (fun t => t.upd.out = [(x.path, x.src, siariMsg 0x50 x.value seq 0 [])] ∧ t.jtag.mode = 0)) ∧
  (∀ (s : State) (x : Session) (seq : Nat), s.session x.value = some x → s.siariOn x.path = true → x.seq.map (fun q => (q + 1)
    % 2 ^ 32) = some seq → x.seq ≠ some seq → x.slot ≠ none → s.holds x = true → 8 ≤ x.slot.getD 0 → Answers (.debugCore
    x.path x.src x.value seq) s (fun t => t.upd.out = [(x.path, x.src, siariMsg 0x50 x.value seq 0 [])] ∧ t.jtag.mode = 1)) ∧
  (∀ (s : State) (x : Session) (seq : Nat), s.session x.value = some x → s.siariOn x.path = true → x.seq.map (fun q => (q + 1)
    % 2 ^ 32) = some seq → x.seq ≠ some seq → x.slot ≠ none → s.holds x = true → x.slot.getD 0 < 8 → Answers (.debugCore
    x.path x.src x.value seq) s (fun t => t.upd.out = [(x.path, x.src, siariMsg 0x50 x.value seq 12 [])] ∧ t.jtag = s.jtag)) ∧
  (∀ (s : State) (x : Session) (seq : Nat), s.session x.value = some x → s.siariOn x.path = true → x.seq.map (fun q => (q + 1)
    % 2 ^ 32) = some seq → x.seq ≠ some seq → x.slot ≠ none → s.holds x = true → 8 ≤ x.slot.getD 0 → Answers
    (.debugBoundaryScan x.path x.src x.value seq) s (fun t => t.upd.out = [(x.path, x.src, siariMsg 0x50 x.value seq 0 [])] ∧
    t.jtag.mode = 2))

/-- R664 to R674: an activation from its manifest to its end. -/
def Obligations.SiariActivationCompletes : Prop :=
  (∀ (s : State) (x : Session) (seq : Nat) (m : List Byte) (st : Nat), s.session x.value = some x → s.siariOn x.path = true →
    x.seq.map (fun q => (q + 1) % 2 ^ 32) = some seq → x.seq ≠ some seq → x.slot ≠ none → s.holds x = true → s.manCheck x m =
    st → st ≠ 0 → Answers (.activate x.path x.src x.value seq m) s (fun t => t.upd.out = [(x.path, x.src, siariMsg 0x20
    x.value seq st [])] ∧ t.upd.act = s.upd.act)) ∧
  (∀ (s : State) (x : Session) (seq : Nat) (m : List Byte), s.session x.value = some x → s.siariOn x.path = true → x.seq.map
    (fun q => (q + 1) % 2 ^ 32) = some seq → x.seq ≠ some seq → x.slot ≠ none → s.holds x = true → s.manCheck x m = 0 →
    Answers (.activate x.path x.src x.value seq m) s (fun t => t.upd.out = [(x.path, x.src, siariMsg 0x20 x.value seq 0 [])] ∧
    t.upd.act.map (fun a => (a.base, a.endAt, a.gen, a.session)) = some (manNum m 12 4, none, s.genInactive, x.value) ∧ t.get
    F.UPD_STAT_ACT = 1)) ∧
  (∀ (s : State) (a : Activation), s.upd.act = some a → a.endAt = none → Answers (.scaffoldReady false) s (fun t => t.upd.act
    = none ∧ t.get F.UPD_STAT_ACT = 0 ∧ t.get F.UPD_LAST_OUTCOME = 2 ∧ t.get F.UPD_LAST_CAUSE = 7)) ∧
  (∀ (s : State) (a : Activation) (n : Nat), s.upd.act = some a → a.endAt = none → a.full = false → n < 4 → a.entries.all (fun
    e => e.src == 0) = true → (List.range 4).filter (fun k => a.entries.any (fun e => e.src == 0 && e.part == 0x10 + k)) = [n]
    → s.seat n < 4 → s.coreState (s.seat n) < 3 → Answers (.scaffoldReady true) s (fun t => t.upd.act.map (fun b => (b.endAt,
    b.tried, b.todo)) = some (some (s.now + a.total * secUnits), [n], []) ∧ t.get F.UPD_STAT_ACT = 2 ∧ t.get F.UPD_STAT_PART =
    0x10 + n ∧ t.host n = 7 ∧ t.get F.SYS_PCTL_CAUSE n = 7 ∧ t.upd.opened = some (a.gen, a.base))) ∧
  (∀ (s : State) (init : Init) (n : Nat) (a : Activation), n < 4 → s.domOn domFAB = true → s.mayWrite init .UPD_HEALTH n =
    true → s.get F.UPD_HEALTH_TRIAL n = 1 → s.upd.act = some a → a.endAt.isSome = true → a.full = true → a.entries.any (fun e
    => e.part == 0x10 + n) = true → (0x10 + n) ∉ a.healthy → a.entries.any (fun e => e.part != 0x10 + n && !a.healthy.contains
    e.part) = true → Answers (.healthyReport init n true) s (fun t => t.get F.UPD_HEALTH_TRIAL n = 0 ∧ t.upd.act.map (fun b =>
    b.healthy) = some (a.healthy ++ [0x10 + n]) ∧ t.get F.UPD_LAST_OUTCOME = s.get F.UPD_LAST_OUTCOME)) ∧
  (∀ (s : State) (init : Init) (n : Nat) (a : Activation), n < 4 → s.domOn domFAB = true → s.mayWrite init .UPD_HEALTH n =
    true → s.get F.UPD_HEALTH_TRIAL n = 1 → s.upd.act = some a → a.gen < 2 → a.endAt.isSome = true → a.entries.any (fun e =>
    e.part == 0x10 + n) = true → (0x10 + n) ∉ a.healthy → a.entries.all (fun e => e.part == 0x10 + n || a.healthy.contains
    e.part) = true → Answers (.healthyReport init n true) s (fun t => t.upd.act = none ∧ t.get F.UPD_STAT_ACT = 0 ∧ t.get
    F.UPD_LAST_OUTCOME = 1 ∧ t.get F.UPD_LAST_CAUSE = 0 ∧ t.get F.UPD_STAT_GEN = a.gen ∧ t.get F.UPD_LAST_PART = 0x10 + n ∧
    t.oneMore s F.UPD_CNT_COMMITS)) ∧
  (∀ (s : State) (init : Init) (n : Nat) (a : Activation), n < 4 → s.domOn domFAB = true → s.mayWrite init .UPD_HEALTH n =
    true → s.get F.UPD_HEALTH_TRIAL n = 1 → s.upd.act = some a → a.full = false → Answers (.failedReport init n) s (fun t =>
    t.upd.act = none ∧ t.get F.UPD_STAT_ACT = 0 ∧ t.get F.UPD_LAST_OUTCOME = 2 ∧ t.get F.UPD_LAST_CAUSE = 2 ∧ t.get
    F.UPD_LAST_PART = 0x10 + n ∧ t.oneMore s F.UPD_CNT_REVERTS ∧ t.get F.UPD_STAT_GEN = s.get F.UPD_STAT_GEN)) ∧
  (∀ (s : State) (part u : Nat) (ok_ : Bool) (a : Activation), s.upd.act = some a → a.full = false → part ≠ 2 → part < 256 →
    Sparse.get a.trials part = some u → u ≤ s.now → Answers (.trialExpiry part ok_) s (fun t => t.upd.act = none ∧ t.get
    F.UPD_STAT_ACT = 0 ∧ t.get F.UPD_LAST_OUTCOME = 2 ∧ t.get F.UPD_LAST_CAUSE = 3 ∧ t.get F.UPD_LAST_PART = part)) ∧
  (∀ (s : State) (u : Nat) (a : Activation), s.upd.act = some a → a.full = false → a.endAt = some u → u ≤ s.now → Answers
    (.totalExpiry) s (fun t => t.upd.act = none ∧ t.get F.UPD_STAT_ACT = 0 ∧ t.get F.UPD_LAST_OUTCOME = 2 ∧ t.get
    F.UPD_LAST_CAUSE = 5)) ∧
  (∀ (s : State) (x : Session) (seq : Nat) (a : Activation), s.session x.value = some x → s.siariOn x.path = true → x.seq.map
    (fun q => (q + 1) % 2 ^ 32) = some seq → x.seq ≠ some seq → x.slot ≠ none → s.holds x = true → s.upd.act = some a → a.full
    = false → Answers (.siariAbort x.path x.src x.value seq) s (fun t => t.upd.out = [(x.path, x.src, siariMsg 0x21 x.value
    seq 0 [])] ∧ t.upd.act = none ∧ t.get F.UPD_STAT_ACT = 0 ∧ t.get F.UPD_LAST_OUTCOME = 2 ∧ t.get F.UPD_LAST_CAUSE = 6)) ∧
  (∀ (s : State) (x : Session) (seq : Nat), s.session x.value = some x → s.siariOn x.path = true → x.seq.map (fun q => (q + 1)
    % 2 ^ 32) = some seq → x.seq ≠ some seq → x.slot ≠ none → s.holds x = true → s.upd.act = none → Answers (.siariAbort
    x.path x.src x.value seq) s (fun t => t.upd.out = [(x.path, x.src, siariMsg 0x21 x.value seq 4 [])] ∧ t.mem = s.mem)) ∧
  (∀ (s : State), s.upd.due = true → s.pwr ≤ 1 → s.upd.opened = none → Answers (.journalCheck) s (fun t => t.upd.due = false ∧
    t.mem = s.mem ∧ t.regs = s.regs)) ∧
  (∀ (s : State) (g b : Nat), s.upd.due = true → s.pwr ≤ 1 → s.upd.opened = some (g, b) → Answers (.journalCheck) s (fun t =>
    t.upd.due = false ∧ t.upd.opened = none ∧ t.get F.UPD_LAST_OUTCOME = (if s.ptrValid g ∧ s.ptrSeq g = b + 1 then 1 else 3)
    ∧ t.oneMore s (if s.ptrValid g ∧ s.ptrSeq g = b + 1 then F.UPD_CNT_COMMITS else F.UPD_CNT_REVERTS)))

/-- R588, R592 to R596: the whole next state of each ALU word. DIVU, DIVS, REMU and REMS are carried out on a C6 core (cores 0
to 4); a divisor of zero gives all ones as quotient and RS1 as remainder. -/
def Obligations.AluWordsComplete : Prop :=
  ∀ (s : State) (c rd rs1 rs2 : Nat), s.fetches c →
    let a := s.g c rs1
    let b := s.g c rs2
    let w (i : Nat → Nat → Nat → Nat → Instr) (v : Word) : Prop := Answers (i c rd rs1 rs2) s (fun t => t = s.gives c rd v)
    w .aluAdd (a + b) ∧
    w .aluSub (a - b) ∧
    w .aluAnd (a &&& b) ∧
    w .aluOr (a ||| b) ∧
    w .aluXor (a ^^^ b) ∧
    w .aluSll (a <<< (b.toNat % 32)) ∧
    w .aluSrl (a >>> (b.toNat % 32)) ∧
    w .aluSra (a.sshiftRight (b.toNat % 32)) ∧
    w .aluMul (a * b) ∧
    w .mulhu (BitVec.ofNat 32 (a.toNat * b.toNat / 2 ^ 32)) ∧
    w .mulhs (BitVec.ofInt 32 (a.toInt * b.toInt / 2 ^ 32)) ∧
    w .aluCeq (if a = b then 1 else 0) ∧
    w .cne (if a = b then 0 else 1) ∧
    w .aluClt (if a.slt b then 1 else 0) ∧
    w .aluCltu (if a < b then 1 else 0) ∧
    w .cge (if a.slt b then 0 else 1) ∧
    w .cgeu (if a < b then 0 else 1) ∧
    w .minS (if a.slt b then a else b) ∧
    w .maxS (if a.slt b then b else a) ∧
    w .minu (if a < b then a else b) ∧
    w .maxu (if a < b then b else a) ∧
    (c < 5 → w .divu (if b = 0 then 0xFFFFFFFF#32 else a / b) ∧
      w .remu (a % b) ∧
      w .divs (if b = 0 then 0xFFFFFFFF#32 else a.sdiv b) ∧
      w .rems (a.srem b))

/-- R592 to R595: the whole next state of each word of opcodes 0x10 to 0x1A. -/
def Obligations.ImmediateWordsComplete : Prop :=
  ∀ (s : State) (c rd rs1 imm : Nat), s.fetches c →
    let a := s.g c rs1
    let x : Word := (BitVec.ofNat 14 imm).signExtend 32
    let z : Word := (BitVec.ofNat 14 imm).setWidth 32
    let w (i : Nat → Nat → Nat → Nat → Instr) (v : Word) : Prop := Answers (i c rd rs1 imm) s (fun t => t = s.gives c rd v)
    w .addi (a + x) ∧
    w .andi (a &&& z) ∧
    w .ori (a ||| z) ∧
    w .xori (a ^^^ z) ∧
    w .ceqi (if a = x then 1 else 0) ∧
    w .clti (if a.slt x then 1 else 0) ∧
    w .cltui (if a < x then 1 else 0) ∧
    (imm < 32 → w .slli (a <<< imm) ∧
      w .srli (a >>> imm) ∧
      w .srai (a.sshiftRight imm)) ∧
    Answers (.lui c rd imm) s (fun t => t = s.gives c rd ((BitVec.ofNat 19 imm ++ 0#13).setWidth 32))

/-- R588, R597: the whole next state of each FPU word on a C6 core, and what the functions give for NaN and for negative
values. The finite results are those of the functions of Float.lean. -/
def Obligations.FpuWordsComplete : Prop :=
  ∀ (s : State) (c rd rs1 rs2 : Nat), s.fetches c → c < 5 →
    let a := s.g c rs1
    let b := s.g c rs2
    let w (i : Nat → Nat → Nat → Nat → Instr) (v : Word) : Prop := Answers (i c rd rs1 rs2) s (fun t => t = s.gives c rd v)
    w .fadd (fAdd a b) ∧
    w .fsub (fSub a b) ∧
    w .fmul (fMul a b) ∧
    w .fdiv (fDiv a b) ∧
    w .fmin (fMin a b) ∧
    w .fmax (fMax a b) ∧
    w .fceq (fCeq a b) ∧
    w .fclt (fClt a b) ∧
    w .fcle (fCle a b) ∧
    (rs2 % 32 = 0 → w .fsqrt (fSqrt a) ∧
      w .ftoi (fToI a) ∧
      w .ftou (fToU a) ∧
      w .itof (iToF a) ∧
      w .utof (uToF a)) ∧
    (fIsNaN a = true → fAdd a b = fNaN ∧ fSub a b = fNaN ∧ fMul a b = fNaN ∧ fDiv a b = fNaN ∧ fSqrt a = fNaN ∧ fCeq a b = 0 ∧
      fClt a b = 0 ∧ fCle a b = 0 ∧ (fIsNaN b = false → fMin a b = b ∧ fMax a b = b) ∧ fToI a = 0x7FFFFFFF#32 ∧ fToU a = 0xFFFFFFFF#32) ∧
    (fIsNaN b = true → fAdd a b = fNaN ∧ fSub a b = fNaN ∧ fMul a b = fNaN ∧ fDiv a b = fNaN ∧ fCeq a b = 0 ∧ fClt a b = 0 ∧
      fCle a b = 0 ∧ (fIsNaN a = false → fMin a b = a ∧ fMax a b = a)) ∧
    (fIsNaN a = false → fSign a = true → fToU a = 0)

/-- R594, R600, R602, R630: the whole next state of each load that does not trap. A narrow load from a register takes its
bytes from the word there; that choice of the model is in the assumption log. -/
def Obligations.LoadsComplete : Prop :=
  (∀ (s : State) (c rd rs1 imm ecc a : Nat), s.fetches c → (s.g c rs1 + ((BitVec.ofNat 14 imm).signExtend 32)).toNat = a → a %
    4 = 0 → s.permits c a F.CPU_RBASE_R = true → s.reaches c a = true → isRam c (a / 4 * 4) = true → s.wordBad (physAt c (a /
    4 * 4)) = false → ecc < 3 → Answers (.ldw c rd rs1 imm ecc) s (fun t => t = (s.eccCount (physAt c (a / 4 * 4)) ecc).gives
    c rd (s.rd32 (physAt c a)))) ∧
  (∀ (s : State) (c rd rs1 imm ecc a : Nat), s.fetches c → (s.g c rs1 + ((BitVec.ofNat 14 imm).signExtend 32)).toNat = a → a %
    4 = 0 → s.permits c a F.CPU_RBASE_R = true → s.reaches c a = true → isRam c (a / 4 * 4) = false → c ≠ 6 → Answers (.ldw c
    rd rs1 imm ecc) s (fun t => t = (s.busRead (s.coreInit c) (a / 4 * 4)).1.gives c rd ((s.busRead (s.coreInit c) (a / 4 *
    4)).2))) ∧
  (∀ (s : State) (c rd rs1 imm ecc a : Nat), s.fetches c → (s.g c rs1 + ((BitVec.ofNat 14 imm).signExtend 32)).toNat = a → a %
    2 = 0 → s.permits c a F.CPU_RBASE_R = true → s.reaches c a = true → isRam c (a / 4 * 4) = true → s.wordBad (physAt c (a /
    4 * 4)) = false → ecc < 3 → Answers (.ldh c rd rs1 imm ecc) s (fun t => t = (s.eccCount (physAt c (a / 4 * 4)) ecc).gives
    c rd ((s.rd16 (physAt c a)).signExtend 32))) ∧
  (∀ (s : State) (c rd rs1 imm ecc a : Nat), s.fetches c → (s.g c rs1 + ((BitVec.ofNat 14 imm).signExtend 32)).toNat = a → a %
    2 = 0 → s.permits c a F.CPU_RBASE_R = true → s.reaches c a = true → isRam c (a / 4 * 4) = false → c ≠ 6 → Answers (.ldh c
    rd rs1 imm ecc) s (fun t => t = (s.busRead (s.coreInit c) (a / 4 * 4)).1.gives c rd ((((s.busRead (s.coreInit c) (a / 4 *
    4)).2 >>> (8 * (a % 4))).setWidth 16).signExtend 32))) ∧
  (∀ (s : State) (c rd rs1 imm ecc a : Nat), s.fetches c → (s.g c rs1 + ((BitVec.ofNat 14 imm).signExtend 32)).toNat = a → a %
    2 = 0 → s.permits c a F.CPU_RBASE_R = true → s.reaches c a = true → isRam c (a / 4 * 4) = true → s.wordBad (physAt c (a /
    4 * 4)) = false → ecc < 3 → Answers (.ldhu c rd rs1 imm ecc) s (fun t => t = (s.eccCount (physAt c (a / 4 * 4)) ecc).gives
    c rd ((s.rd16 (physAt c a)).setWidth 32))) ∧
  (∀ (s : State) (c rd rs1 imm ecc a : Nat), s.fetches c → (s.g c rs1 + ((BitVec.ofNat 14 imm).signExtend 32)).toNat = a → a %
    2 = 0 → s.permits c a F.CPU_RBASE_R = true → s.reaches c a = true → isRam c (a / 4 * 4) = false → c ≠ 6 → Answers (.ldhu c
    rd rs1 imm ecc) s (fun t => t = (s.busRead (s.coreInit c) (a / 4 * 4)).1.gives c rd ((((s.busRead (s.coreInit c) (a / 4 *
    4)).2 >>> (8 * (a % 4))).setWidth 16).setWidth 32))) ∧
  (∀ (s : State) (c rd rs1 imm ecc a : Nat), s.fetches c → (s.g c rs1 + ((BitVec.ofNat 14 imm).signExtend 32)).toNat = a → a %
    1 = 0 → s.permits c a F.CPU_RBASE_R = true → s.reaches c a = true → isRam c (a / 4 * 4) = true → s.wordBad (physAt c (a /
    4 * 4)) = false → ecc < 3 → Answers (.ldb c rd rs1 imm ecc) s (fun t => t = (s.eccCount (physAt c (a / 4 * 4)) ecc).gives
    c rd ((s.rd8 (physAt c a)).signExtend 32))) ∧
  (∀ (s : State) (c rd rs1 imm ecc a : Nat), s.fetches c → (s.g c rs1 + ((BitVec.ofNat 14 imm).signExtend 32)).toNat = a → a %
    1 = 0 → s.permits c a F.CPU_RBASE_R = true → s.reaches c a = true → isRam c (a / 4 * 4) = false → c ≠ 6 → Answers (.ldb c
    rd rs1 imm ecc) s (fun t => t = (s.busRead (s.coreInit c) (a / 4 * 4)).1.gives c rd ((((s.busRead (s.coreInit c) (a / 4 *
    4)).2 >>> (8 * (a % 4))).setWidth 8).signExtend 32))) ∧
  (∀ (s : State) (c rd rs1 imm ecc a : Nat), s.fetches c → (s.g c rs1 + ((BitVec.ofNat 14 imm).signExtend 32)).toNat = a → a %
    1 = 0 → s.permits c a F.CPU_RBASE_R = true → s.reaches c a = true → isRam c (a / 4 * 4) = true → s.wordBad (physAt c (a /
    4 * 4)) = false → ecc < 3 → Answers (.ldbu c rd rs1 imm ecc) s (fun t => t = (s.eccCount (physAt c (a / 4 * 4)) ecc).gives
    c rd ((s.rd8 (physAt c a)).setWidth 32))) ∧
  (∀ (s : State) (c rd rs1 imm ecc a : Nat), s.fetches c → (s.g c rs1 + ((BitVec.ofNat 14 imm).signExtend 32)).toNat = a → a %
    1 = 0 → s.permits c a F.CPU_RBASE_R = true → s.reaches c a = true → isRam c (a / 4 * 4) = false → c ≠ 6 → Answers (.ldbu c
    rd rs1 imm ecc) s (fun t => t = (s.busRead (s.coreInit c) (a / 4 * 4)).1.gives c rd ((((s.busRead (s.coreInit c) (a / 4 *
    4)).2 >>> (8 * (a % 4))).setWidth 8).setWidth 32)))

/-- R594, R600, R605, R606, R630: the whole next state of each store and atomic operation that does not trap. -/
def Obligations.StoresAndAtomicsComplete : Prop :=
  (∀ (s : State) (c rd rs1 imm ecc a : Nat), s.fetches c → (s.g c rs1 + ((BitVec.ofNat 14 imm).signExtend 32)).toNat = a → a %
    4 = 0 → s.permits c a F.CPU_RBASE_W = true → s.reaches c a = true → inLocal c a = true → s.wordBad (physAt c a) = false →
    ecc < 3 → Answers (.stw c rd rs1 imm ecc) s (fun t => t = ((s.eccCount (physAt c a) ecc).wrBytes (physAt c a) ((bytesOf
    (s.g c rd)).take 4)).setPc c (s.pc c + 4))) ∧
  (∀ (s : State) (c rd rs1 imm ecc a : Nat), s.fetches c → (s.g c rs1 + ((BitVec.ofNat 14 imm).signExtend 32)).toNat = a → a %
    4 = 0 → s.permits c a F.CPU_RBASE_W = true → c < 5 → 0x10000000 ≤ a → a < 0x10800000 → ecc < 3 → Answers (.stw c rd rs1
    imm ecc) s (fun t => t = ((s.eccCount a ecc).sramStore (s.coreInit c) a ((bytesOf (s.g c rd)).take 4)).setPc c (s.pc c +
    4))) ∧
  (∀ (s : State) (c rd rs1 imm ecc a : Nat), s.fetches c → (s.g c rs1 + ((BitVec.ofNat 14 imm).signExtend 32)).toNat = a → a %
    4 = 0 → s.permits c a F.CPU_RBASE_W = true → s.reaches c a = true → c ≠ 6 → 0x40000000 ≤ a → Answers (.stw c rd rs1 imm
    ecc) s (fun t => t = (s.busWrite (s.coreInit c) a (s.g c rd)).setPc c (s.pc c + 4))) ∧
  (∀ (s : State) (c rd rs1 imm ecc a : Nat), s.fetches c → (s.g c rs1 + ((BitVec.ofNat 14 imm).signExtend 32)).toNat = a → a %
    2 = 0 → s.permits c a F.CPU_RBASE_W = true → s.reaches c a = true → inLocal c a = true → s.wordBad (physAt c a) = false →
    ecc < 3 → Answers (.sth c rd rs1 imm ecc) s (fun t => t = ((s.eccCount (physAt c a) ecc).wrBytes (physAt c a) ((bytesOf
    (s.g c rd)).take 2)).setPc c (s.pc c + 4))) ∧
  (∀ (s : State) (c rd rs1 imm ecc a : Nat), s.fetches c → (s.g c rs1 + ((BitVec.ofNat 14 imm).signExtend 32)).toNat = a → a %
    2 = 0 → s.permits c a F.CPU_RBASE_W = true → c < 5 → 0x10000000 ≤ a → a < 0x10800000 → ecc < 3 → Answers (.sth c rd rs1
    imm ecc) s (fun t => t = ((s.eccCount a ecc).sramStore (s.coreInit c) a ((bytesOf (s.g c rd)).take 2)).setPc c (s.pc c +
    4))) ∧
  (∀ (s : State) (c rd rs1 imm ecc a : Nat), s.fetches c → (s.g c rs1 + ((BitVec.ofNat 14 imm).signExtend 32)).toNat = a → a %
    1 = 0 → s.permits c a F.CPU_RBASE_W = true → s.reaches c a = true → inLocal c a = true → s.wordBad (physAt c a) = false →
    ecc < 3 → Answers (.stb c rd rs1 imm ecc) s (fun t => t = ((s.eccCount (physAt c a) ecc).wrBytes (physAt c a) ((bytesOf
    (s.g c rd)).take 1)).setPc c (s.pc c + 4))) ∧
  (∀ (s : State) (c rd rs1 imm ecc a : Nat), s.fetches c → (s.g c rs1 + ((BitVec.ofNat 14 imm).signExtend 32)).toNat = a → a %
    1 = 0 → s.permits c a F.CPU_RBASE_W = true → c < 5 → 0x10000000 ≤ a → a < 0x10800000 → ecc < 3 → Answers (.stb c rd rs1
    imm ecc) s (fun t => t = ((s.eccCount a ecc).sramStore (s.coreInit c) a ((bytesOf (s.g c rd)).take 1)).setPc c (s.pc c +
    4))) ∧
  (∀ (s : State) (c rd rs1 rs2 func ecc a : Nat), s.fetches c → func % 512 = 0 → (s.g c rs1).toNat = a → a % 4 = 0 → amoPlace
    c a = true → s.permits c a F.CPU_RBASE_R = true → s.permits c a F.CPU_RBASE_W = true → s.wordBad (physAt c a) = false →
    inLocal c a = true → ecc < 3 → Answers (.amoswap c rd rs1 rs2 func ecc) s (fun t => t = ((s.eccCount (physAt c a)
    ecc).wrBytes (physAt c a) (bytesOf (s.g c rs2))).gives c rd (s.rd32 (physAt c a)))) ∧
  (∀ (s : State) (c rd rs1 rs2 func ecc a : Nat), s.fetches c → func % 512 = 0 → (s.g c rs1).toNat = a → a % 4 = 0 → c < 5 →
    0x10000000 ≤ a → a < 0x10800000 → s.permits c a F.CPU_RBASE_R = true → s.permits c a F.CPU_RBASE_W = true → s.wordBad a =
    false → ecc < 3 → Answers (.amoswap c rd rs1 rs2 func ecc) s (fun t => t = ((s.eccCount a ecc).sramStore (s.coreInit c) a
    (bytesOf (s.g c rs2))).gives c rd (s.rd32 a))) ∧
  (∀ (s : State) (c rd rs1 rs2 func ecc a : Nat), s.fetches c → func % 512 = 0 → (s.g c rs1).toNat = a → a % 4 = 0 → amoPlace
    c a = true → s.permits c a F.CPU_RBASE_R = true → s.permits c a F.CPU_RBASE_W = true → s.wordBad (physAt c a) = false →
    inLocal c a = true → ecc < 3 → Answers (.amoadd c rd rs1 rs2 func ecc) s (fun t => t = ((s.eccCount (physAt c a)
    ecc).wrBytes (physAt c a) (bytesOf (s.rd32 (physAt c a) + s.g c rs2))).gives c rd (s.rd32 (physAt c a)))) ∧
  (∀ (s : State) (c rd rs1 rs2 func ecc a : Nat), s.fetches c → func % 512 = 0 → (s.g c rs1).toNat = a → a % 4 = 0 → c < 5 →
    0x10000000 ≤ a → a < 0x10800000 → s.permits c a F.CPU_RBASE_R = true → s.permits c a F.CPU_RBASE_W = true → s.wordBad a =
    false → ecc < 3 → Answers (.amoadd c rd rs1 rs2 func ecc) s (fun t => t = ((s.eccCount a ecc).sramStore (s.coreInit c) a
    (bytesOf (s.rd32 (a) + s.g c rs2))).gives c rd (s.rd32 a)))

/-- R600, R605, R607, R609, R611: where an access traps. What taking a trap leaves is stated in TakingATrap. -/
def Obligations.AccessesThatTrap : Prop :=
  (∀ (s : State) (c rd rs1 imm ecc a : Nat), s.fetches c → (s.g c rs1 + ((BitVec.ofNat 14 imm).signExtend 32)).toNat = a → a %
    4 ≠ 0 → Answers (.ldw c rd rs1 imm ecc) s (fun t => t = s.takeTrap c 7 0 (encI 32 rd rs1 imm) (s.pc c) (some a))) ∧
  (∀ (s : State) (c rd rs1 imm ecc a : Nat), s.fetches c → (s.g c rs1 + ((BitVec.ofNat 14 imm).signExtend 32)).toNat = a → a %
    2 ≠ 0 → Answers (.ldh c rd rs1 imm ecc) s (fun t => t = s.takeTrap c 7 0 (encI 33 rd rs1 imm) (s.pc c) (some a))) ∧
  (∀ (s : State) (c rd rs1 imm ecc a : Nat), s.fetches c → (s.g c rs1 + ((BitVec.ofNat 14 imm).signExtend 32)).toNat = a → a %
    2 ≠ 0 → Answers (.ldhu c rd rs1 imm ecc) s (fun t => t = s.takeTrap c 7 0 (encI 34 rd rs1 imm) (s.pc c) (some a))) ∧
  (∀ (s : State) (c rd rs1 imm ecc a : Nat), s.fetches c → (s.g c rs1 + ((BitVec.ofNat 14 imm).signExtend 32)).toNat = a →
    ¬(s.permits c a F.CPU_RBASE_R = true ∧ s.reaches c a = true) → Answers (.ldb c rd rs1 imm ecc) s (fun t => t = s.takeTrap
    c 4 0 (encI 35 rd rs1 imm) (s.pc c) (some a))) ∧
  (∀ (s : State) (c rd rs1 imm ecc a : Nat), s.fetches c → (s.g c rs1 + ((BitVec.ofNat 14 imm).signExtend 32)).toNat = a →
    ¬(s.permits c a F.CPU_RBASE_R = true ∧ s.reaches c a = true) → Answers (.ldbu c rd rs1 imm ecc) s (fun t => t = s.takeTrap
    c 4 0 (encI 36 rd rs1 imm) (s.pc c) (some a))) ∧
  (∀ (s : State) (c rd rs1 imm ecc a : Nat), s.fetches c → (s.g c rs1 + ((BitVec.ofNat 14 imm).signExtend 32)).toNat = a → a %
    4 ≠ 0 → Answers (.stw c rd rs1 imm ecc) s (fun t => t = s.takeTrap c 7 0 (encI 40 rd rs1 imm) (s.pc c) (some a))) ∧
  (∀ (s : State) (c rd rs1 imm ecc a : Nat), s.fetches c → (s.g c rs1 + ((BitVec.ofNat 14 imm).signExtend 32)).toNat = a → a %
    2 ≠ 0 → Answers (.sth c rd rs1 imm ecc) s (fun t => t = s.takeTrap c 7 0 (encI 41 rd rs1 imm) (s.pc c) (some a))) ∧
  (∀ (s : State) (c rd rs1 imm ecc a : Nat), s.fetches c → (s.g c rs1 + ((BitVec.ofNat 14 imm).signExtend 32)).toNat = a →
    ¬(s.permits c a F.CPU_RBASE_W = true ∧ s.reaches c a = true) → Answers (.stb c rd rs1 imm ecc) s (fun t => t = s.takeTrap
    c 5 0 (encI 42 rd rs1 imm) (s.pc c) (some a))) ∧
  (∀ (s : State) (c rd rs1 imm ecc a : Nat), s.fetches c → (s.g c rs1 + ((BitVec.ofNat 14 imm).signExtend 32)).toNat = a → a %
    4 = 0 → s.permits c a F.CPU_RBASE_R = true → s.reaches c a = true → isRam c a = true → s.wordBad (physAt c a) = true →
    Answers (.ldw c rd rs1 imm ecc) s (fun t => t = (s.badSeen 2 (physAt c a)).takeTrap c 8 0 (encI 0x20 rd rs1 imm)
    ((s.badSeen 2 (physAt c a)).pc c) (some a))) ∧
  (∀ (s : State) (c rd rs1 rs2 func ecc a : Nat), s.fetches c → func % 512 = 0 → (s.g c rs1).toNat = a → a % 4 = 0 → amoPlace
    c a = false → Answers (.amoswap c rd rs1 rs2 func ecc) s (fun t => t = s.takeTrap c 5 0 (encR 44 rd rs1 rs2 func) (s.pc c)
    (some a))) ∧
  (∀ (s : State) (c rd rs1 rs2 func ecc a : Nat), s.fetches c → func % 512 = 0 → (s.g c rs1).toNat = a → a % 4 = 0 → amoPlace
    c a = false → Answers (.amoadd c rd rs1 rs2 func ecc) s (fun t => t = s.takeTrap c 5 0 (encR 45 rd rs1 rs2 func) (s.pc c)
    (some a)))

/-- R592 to R594, R611: the whole next state of each branch and jump. -/
def Obligations.BranchesAndJumpsComplete : Prop :=
  (∀ (s : State) (c rs1 off : Nat), s.fetches c → Answers (.bez c rs1 off) s (fun t => t = s.setPc c (if s.g c rs1 = 0 then
    s.pc c + ((BitVec.ofNat 19 off).signExtend 32 <<< 2) else s.pc c + 4))) ∧
  (∀ (s : State) (c rs1 off : Nat), s.fetches c → Answers (.bnz c rs1 off) s (fun t => t = s.setPc c (if s.g c rs1 = 0 then
    s.pc c + 4 else s.pc c + ((BitVec.ofNat 19 off).signExtend 32 <<< 2)))) ∧
  (∀ (s : State) (c off : Nat), s.fetches c → Answers (.jal c off) s (fun t => t = (s.setG c 31 (s.pc c + 4)).setPc c (s.pc c
    + ((BitVec.ofNat 24 off).signExtend 32 <<< 2)))) ∧
  (∀ (s : State) (c off : Nat), s.fetches c → Answers (.jump c off) s (fun t => t = s.setPc c (s.pc c + ((BitVec.ofNat 24
    off).signExtend 32 <<< 2)))) ∧
  (∀ (s : State) (c rd rs1 imm : Nat) (p : Word), s.fetches c → rd % 32 = 0 → s.g c rs1 + ((BitVec.ofNat 14 imm).signExtend
    32) = p → p.toNat % 4 = 0 → Answers (.jalr c rd rs1 imm) s (fun t => t = (s.setG c 31 (s.pc c + 4)).setPc c p)) ∧
  (∀ (s : State) (c rd rs1 imm : Nat) (p : Word), s.fetches c → rd % 32 = 0 → s.g c rs1 + ((BitVec.ofNat 14 imm).signExtend
    32) = p → p.toNat % 4 = 0 → Answers (.jr c rd rs1 imm) s (fun t => t = s.setPc c p)) ∧
  (∀ (s : State) (c rd rs1 imm : Nat) (p : Word), s.fetches c → rd % 32 = 0 → s.g c rs1 + ((BitVec.ofNat 14 imm).signExtend
    32) = p → p.toNat % 4 ≠ 0 → Answers (.jalr c rd rs1 imm) s (fun t => t = s.takeTrap c 7 0 (encI 0x34 rd rs1 imm) (s.pc c)
    (some p.toNat))) ∧
  (∀ (s : State) (c rd rs1 imm : Nat) (p : Word), s.fetches c → rd % 32 = 0 → s.g c rs1 + ((BitVec.ofNat 14 imm).signExtend
    32) = p → p.toNat % 4 ≠ 0 → Answers (.jr c rd rs1 imm) s (fun t => t = s.takeTrap c 7 0 (encI 0x35 rd rs1 imm) (s.pc c)
    (some p.toNat)))

/-- R604, R608, R611, R613, R620, R623, R624, R630: the system words and what moves events to the cores. -/
def Obligations.SystemWordsAndEventsComplete : Prop :=
  (∀ (s : State) (c rd rs1 imm : Nat), s.fetches c → rs1 % 32 = 0 → imm < 256 → s.super c = true ∨ imm = 0x07 ∨ imm = 0x08 ∨
    imm = 0x0A ∨ imm = 0x0B → Answers (.mfc c rd rs1 imm) s (fun t => t = (s.cpuRead c imm).1.gives c rd (s.cpuRead c imm).2)) ∧
  (∀ (s : State) (c rd rs1 imm : Nat), s.fetches c → rd % 32 = 0 → imm < 256 → s.super c = true ∨ imm = 0x0C → Answers (.mtc c
    rd rs1 imm) s (fun t => t = (s.cpuWrite c imm (s.g c rs1)).setPc c (s.pc c + 4))) ∧
  (∀ (s : State) (c rd rs1 imm : Nat), s.fetches c → rs1 % 32 = 0 → imm < 256 → s.super c = false → imm ≠ 0x07 ∧ imm ≠ 0x08 ∧
    imm ≠ 0x0A ∧ imm ≠ 0x0B → Answers (.mfc c rd rs1 imm) s (fun t => t = s.takeTrap c 3 0 (encI 0x40 rd rs1 imm) (s.pc c))) ∧
  (∀ (s : State) (c rd rs1 imm : Nat), s.fetches c → rd % 32 = 0 → imm < 256 → s.super c = false → imm ≠ 0x0C → Answers (.mtc
    c rd rs1 imm) s (fun t => t = s.takeTrap c 3 0 (encI 0x41 rd rs1 imm) (s.pc c))) ∧
  (∀ (s : State) (c rd rs1 imm : Nat), s.fetches c → rd % 32 = 0 → rs1 % 32 = 0 → Answers (.trapInsn c rd rs1 imm) s (fun t =>
    t = s.takeTrap c 9 0 (encI 0x42 rd rs1 imm) (s.pc c))) ∧
  (∀ (s : State) (c rd rs1 imm : Nat), s.fetches c → noFields rd rs1 imm = true → Answers (.brk c rd rs1 imm) s (fun t => t =
    s.takeTrap c 11 0 (encI 0x46 rd rs1 imm) (s.pc c))) ∧
  (∀ (s : State) (c rd rs1 imm : Nat), s.fetches c → noFields rd rs1 imm = true → s.super c = true → Answers (.rtt c rd rs1
    imm) s (fun t => t = (s.setWord .CPU_STATUS c 0 0 (setBits (s.word .CPU_STATUS c 0 0) 2 0 (s.get F.CPU_ESTAT_ALL
    c))).setPc c (s.word .CPU_EPC c 0 0))) ∧
  (∀ (s : State) (c rd rs1 imm : Nat), s.fetches c → noFields rd rs1 imm = true → s.super c = false → Answers (.rtt c rd rs1
    imm) s (fun t => t = s.takeTrap c 3 0 (encI 0x43 rd rs1 imm) (s.pc c))) ∧
  (∀ (s : State) (c rd rs1 imm : Nat), s.fetches c → noFields rd rs1 imm = true → Answers (.fence c rd rs1 imm) s (fun t => t
    = s.setPc c (s.pc c + 4))) ∧
  (∀ (s : State) (c n rd rs1 imm : Nat), s.fetches c → noFields rd rs1 imm = true → s.coreQueue c = some n → Answers
    (.waitInsn c rd rs1 imm) s (fun t => t = if (s.queue n).entries = [] then s.setCore c
    { s.core c with pc := s.pc c + 4, run := .waiting } else s.setPc c (s.pc c + 4))) ∧
  (∀ (s : State) (c n : Nat), s.coreLive c = true → s.coreQueue c = some n → (s.queue n).entries ≠ [] → s.get F.CPU_STATUS_IE
    c = 1 → s.get F.CPU_STATUS_EXL c = 0 → Answers (.eventTrap c) s (fun t => t = s.takeTrap c 10 0 0 (s.pc c))) ∧
  (∀ (s : State) (c n : Nat), s.coreQueue c = some n → (s.core c).run = .waiting → (s.core c).halted = false → (s.queue
    n).entries ≠ [] → s.pwr ≠ 1 ∨ c = 5 → s.get F.CPU_STATUS_IE c = 0 → Answers (.waitResume c) s (fun t => t = s.setCore c
    { s.core c with run := .running })) ∧
  (∀ (s : State) (c n target k : Nat), s.coreLive c = true → c ≠ 6 → s.coreQueue c = some n → k < 4 → bit target k = true →
    s.running k = true → s.room k → k ≠ n → Answers (.doorbell c target) s (fun t => t.placed k 31 1 n ∧ t.core c = s.core c)) ∧
  (∀ (s : State) (c n : Nat) (e : Event) (es : List Event), s.coreLive c = true → s.coreQueue c = some n → (s.queue n).entries
    = e :: es → s.bus.snaps.all (fun x => !(x.init = s.coreInit c && x.reg = .CPU_EVQ && x.i = c)) = true → Answers
    (.eventEntryRemove c false) s (fun t => (t.queue n).entries = es ∧ t.core c = s.core c)) ∧
  (∀ (s : State) (c n : Nat) (e e1 : Event) (es : List Event), s.coreLive c = true → s.coreQueue c = some n → (s.queue
    n).entries = e :: e1 :: es → Answers (.eventEntryRemove c true) s (fun t => (t.queue n).entries = { e1 with ovf := true }
    :: es ∧ (t.queue n).lost = min 0xFFFF ((s.queue n).lost + 1) ∧ t.core c = s.core c ∧ t.oneMore s F.ERR_BLK2_UNCORR 15))

/-- R594, R598, R599: the whole next state of each short operation in either slot. `slotWrite` writes what the other slot
gives from the registers that `s` holds. -/
def Obligations.ShortPairsComplete : Prop :=
  ∀ (s : State) (c ra rb y ecc : Nat) (inB : Bool), s.fetches c → slotReserved (y % 2 ^ 15) = false →
    let a := s.g c ra
    let b := s.g c rb
    let q : Word := (BitVec.ofNat 5 rb).signExtend 32
    let other := y % 2 ^ 15
    let w (i : Nat → Bool → Nat → Nat → Nat → Nat → Instr) (v : Word) : Prop :=
      Answers (i c inB ra rb y ecc) s (fun t => t = ((s.setG c ra v).slotWrite s c other).setPc c (s.pc c + 4))
    (slotMem other = false → (slotDest other = none ∨ slotDest other ≠ some (ra % 32)) →
      w .shortMov (b) ∧
      w .shortAdd (a + b) ∧
      w .shortSub (a - b) ∧
      w .shortAnd (a &&& b) ∧
      w .shortOr (a ||| b) ∧
      w .shortXor (a ^^^ b) ∧
      w .shortSll (a <<< (b.toNat % 32)) ∧
      w .shortSrl (a >>> (b.toNat % 32)) ∧
      w .shortSra (a.sshiftRight (b.toNat % 32)) ∧
      w .shortNeg (-b) ∧
      w .shortNot (~~~b) ∧
      w .shortAddq (a + q) ∧
      w .shortLiq (q) ∧
      w .shortCeq (if a = b then 1 else 0) ∧
      w .shortClt (if a.slt b then 1 else 0) ∧
      w .shortCltu (if a < b then 1 else 0) ∧
      w .shortMul (a * b) ∧
      w .shortSexb ((b.setWidth 8).signExtend 32) ∧
      w .shortSexh ((b.setWidth 16).signExtend 32) ∧
      w .shortZexb ((b.setWidth 8).setWidth 32) ∧
      w .shortZexh ((b.setWidth 16).setWidth 32) ∧
      w .shortCeqz (if b = 0 then 1 else 0)) ∧
    (slotMem other = false → ra % 32 = 0 → rb % 32 = 0 →
      Answers (.shortNop c inB ra rb y ecc) s (fun t => t = (s.slotWrite s c other).setPc c (s.pc c + 4))) ∧
    (∀ p : Nat, p % 4 = 0 → slotMem other = false → ecc < 3 → s.reaches c p = true → s.wordBad (physAt c p) = false →
      let e := s.eccCount (physAt c p) ecc
      let ld (i : Nat → Bool → Nat → Nat → Nat → Nat → Instr) : Prop := isRam c p = true → s.permits c p F.CPU_RBASE_R = true →
        (slotDest other = none ∨ slotDest other ≠ some (ra % 32)) → Answers (i c inB ra rb y ecc) s (fun t =>
          t = ((e.setG c ra (s.rd32 (physAt c p))).slotWrite s c other).setPc c (s.pc c + 4))
      let st (i : Nat → Bool → Nat → Nat → Nat → Nat → Instr) : Prop := inLocal c p = true → s.permits c p F.CPU_RBASE_W = true →
        Answers (i c inB ra rb y ecc) s (fun t =>
          t = ((e.wrBytes (physAt c p) (bytesOf a)).slotWrite s c other).setPc c (s.pc c + 4))
      (b.toNat = p → ld .shortLdw ∧ st .shortStw) ∧
      ((s.g c 30 + BitVec.ofNat 32 (4 * (rb % 32))).toNat = p → ld .shortLdwsp ∧ st .shortStwsp)) ∧
    (slotMem other = true → Answers (.shortLdw c inB ra rb y ecc) s (fun t => t = s.takeTrap c 2 3
      (if inB then encPair y (encSlot 0x11 ra rb) else encPair (encSlot 0x11 ra rb) y) (s.pc c)))

/-- What a step is. That an empty queue lets one unit of T0 pass is the model's choice (DESIGN CHOICE, log entry 20). -/
def Obligations.StepRunsTheFrontCommand : Prop :=
  (∀ (s : State) (c : Instr) (cs : List Instr), s.pending = c :: cs → step s = exec c { s with pending := cs }) ∧
  (∀ s : State, s.pending = [] → step s = .next { s with now := s.now + 1 })

/-- The spec describes every error as counted, reported and survived; no command stops the block, and none changes the queue.
-/
def Obligations.EveryCommandCompletes : Prop :=
  ∀ (c : Instr) (s : State), ∃ t, exec c s = .next t ∧ t.pending = s.pending

/-- The invariant of the model's memory and register file. It makes equal contents equal data. -/
def Obligations.CanonicalFormIsKept : Prop :=
  ∀ s t : State, s.canonical → step s = .next t → t.canonical

/-- What State.reset holds of what the register tables and the power states give. -/
def Obligations.ResetState : Prop :=
  State.reset.canonical ∧ State.reset.queueWf = true ∧ State.reset.pending = [] ∧ State.reset.dom = 0 ∧ State.reset.get
    F.PMU_STATE_STATE = 5 ∧
  (∀ n, n < 5 → (State.reset.queue n).entries = [] ∧ (State.reset.queue n).lost = 0) ∧
  (∀ c, c < 7 → State.reset.get F.CPU_CORE_CORE c = c ∧ State.reset.get F.CPU_STATUS_EXL c = 0 ∧ State.reset.get
    F.CPU_STATUS_IE c = 0) ∧
  (∀ x, x < 60 → State.reset.get F.PSW_PROT_LATCH x = 0)

/-- R594, R595: decode and encode agree over every instruction. `runWord` reads a word's fields; `encR`, `encI`, `encLui`,
`encB`, `encJ`, `encPair` place them. An operand too wide for its field is taken modulo the field's width. -/
def Obligations.CeporCommandsRunTheirWords : Prop :=
  (∀ (s : State) (c : Nat),
    let runs (i : Instr) (w : Word) : Prop := exec i s = .next { s.runWord c w with pending := s.pending }
    (∀ rd rs1 rs2 : Nat,
      runs (.aluAdd c rd rs1 rs2) (encR 0x00 rd rs1 rs2 0x00) ∧
      runs (.aluSub c rd rs1 rs2) (encR 0x00 rd rs1 rs2 0x01) ∧
      runs (.aluAnd c rd rs1 rs2) (encR 0x00 rd rs1 rs2 0x02) ∧
      runs (.aluOr c rd rs1 rs2) (encR 0x00 rd rs1 rs2 0x03) ∧
      runs (.aluXor c rd rs1 rs2) (encR 0x00 rd rs1 rs2 0x04) ∧
      runs (.aluSll c rd rs1 rs2) (encR 0x00 rd rs1 rs2 0x05) ∧
      runs (.aluSrl c rd rs1 rs2) (encR 0x00 rd rs1 rs2 0x06) ∧
      runs (.aluSra c rd rs1 rs2) (encR 0x00 rd rs1 rs2 0x07) ∧
      runs (.aluMul c rd rs1 rs2) (encR 0x00 rd rs1 rs2 0x08) ∧
      runs (.mulhu c rd rs1 rs2) (encR 0x00 rd rs1 rs2 0x09) ∧
      runs (.mulhs c rd rs1 rs2) (encR 0x00 rd rs1 rs2 0x0A) ∧
      runs (.divu c rd rs1 rs2) (encR 0x00 rd rs1 rs2 0x0B) ∧
      runs (.divs c rd rs1 rs2) (encR 0x00 rd rs1 rs2 0x0C) ∧
      runs (.remu c rd rs1 rs2) (encR 0x00 rd rs1 rs2 0x0D) ∧
      runs (.rems c rd rs1 rs2) (encR 0x00 rd rs1 rs2 0x0E) ∧
      runs (.aluCeq c rd rs1 rs2) (encR 0x00 rd rs1 rs2 0x10) ∧
      runs (.cne c rd rs1 rs2) (encR 0x00 rd rs1 rs2 0x11) ∧
      runs (.aluClt c rd rs1 rs2) (encR 0x00 rd rs1 rs2 0x12) ∧
      runs (.aluCltu c rd rs1 rs2) (encR 0x00 rd rs1 rs2 0x13) ∧
      runs (.cge c rd rs1 rs2) (encR 0x00 rd rs1 rs2 0x14) ∧
      runs (.cgeu c rd rs1 rs2) (encR 0x00 rd rs1 rs2 0x15) ∧
      runs (.minS c rd rs1 rs2) (encR 0x00 rd rs1 rs2 0x18) ∧
      runs (.maxS c rd rs1 rs2) (encR 0x00 rd rs1 rs2 0x19) ∧
      runs (.minu c rd rs1 rs2) (encR 0x00 rd rs1 rs2 0x1A) ∧
      runs (.maxu c rd rs1 rs2) (encR 0x00 rd rs1 rs2 0x1B) ∧
      runs (.fadd c rd rs1 rs2) (encR 0x01 rd rs1 rs2 0x00) ∧
      runs (.fsub c rd rs1 rs2) (encR 0x01 rd rs1 rs2 0x01) ∧
      runs (.fmul c rd rs1 rs2) (encR 0x01 rd rs1 rs2 0x02) ∧
      runs (.fdiv c rd rs1 rs2) (encR 0x01 rd rs1 rs2 0x03) ∧
      runs (.fsqrt c rd rs1 rs2) (encR 0x01 rd rs1 rs2 0x04) ∧
      runs (.fmin c rd rs1 rs2) (encR 0x01 rd rs1 rs2 0x05) ∧
      runs (.fmax c rd rs1 rs2) (encR 0x01 rd rs1 rs2 0x06) ∧
      runs (.fceq c rd rs1 rs2) (encR 0x01 rd rs1 rs2 0x08) ∧
      runs (.fclt c rd rs1 rs2) (encR 0x01 rd rs1 rs2 0x09) ∧
      runs (.fcle c rd rs1 rs2) (encR 0x01 rd rs1 rs2 0x0A) ∧
      runs (.ftoi c rd rs1 rs2) (encR 0x01 rd rs1 rs2 0x0C) ∧
      runs (.ftou c rd rs1 rs2) (encR 0x01 rd rs1 rs2 0x0D) ∧
      runs (.itof c rd rs1 rs2) (encR 0x01 rd rs1 rs2 0x0E) ∧
      runs (.utof c rd rs1 rs2) (encR 0x01 rd rs1 rs2 0x0F)) ∧
    (∀ rd rs1 rs2 func : Nat, runs (.amoswap c rd rs1 rs2 func 0) (encR 0x2C rd rs1 rs2 func) ∧
      runs (.amoadd c rd rs1 rs2 func 0) (encR 0x2D rd rs1 rs2 func)) ∧
    (∀ rd rs1 imm : Nat,
      runs (.addi c rd rs1 imm) (encI 0x10 rd rs1 imm) ∧
      runs (.andi c rd rs1 imm) (encI 0x11 rd rs1 imm) ∧
      runs (.ori c rd rs1 imm) (encI 0x12 rd rs1 imm) ∧
      runs (.xori c rd rs1 imm) (encI 0x13 rd rs1 imm) ∧
      runs (.slli c rd rs1 imm) (encI 0x14 rd rs1 imm) ∧
      runs (.srli c rd rs1 imm) (encI 0x15 rd rs1 imm) ∧
      runs (.srai c rd rs1 imm) (encI 0x16 rd rs1 imm) ∧
      runs (.ceqi c rd rs1 imm) (encI 0x17 rd rs1 imm) ∧
      runs (.clti c rd rs1 imm) (encI 0x18 rd rs1 imm) ∧
      runs (.cltui c rd rs1 imm) (encI 0x19 rd rs1 imm) ∧
      runs (.jalr c rd rs1 imm) (encI 0x34 rd rs1 imm) ∧
      runs (.jr c rd rs1 imm) (encI 0x35 rd rs1 imm) ∧
      runs (.mfc c rd rs1 imm) (encI 0x40 rd rs1 imm) ∧
      runs (.mtc c rd rs1 imm) (encI 0x41 rd rs1 imm) ∧
      runs (.trapInsn c rd rs1 imm) (encI 0x42 rd rs1 imm) ∧
      runs (.rtt c rd rs1 imm) (encI 0x43 rd rs1 imm) ∧
      runs (.waitInsn c rd rs1 imm) (encI 0x44 rd rs1 imm) ∧
      runs (.fence c rd rs1 imm) (encI 0x45 rd rs1 imm) ∧
      runs (.brk c rd rs1 imm) (encI 0x46 rd rs1 imm) ∧
      runs (.ldw c rd rs1 imm 0) (encI 0x20 rd rs1 imm) ∧
      runs (.ldh c rd rs1 imm 0) (encI 0x21 rd rs1 imm) ∧
      runs (.ldhu c rd rs1 imm 0) (encI 0x22 rd rs1 imm) ∧
      runs (.ldb c rd rs1 imm 0) (encI 0x23 rd rs1 imm) ∧
      runs (.ldbu c rd rs1 imm 0) (encI 0x24 rd rs1 imm) ∧
      runs (.stw c rd rs1 imm 0) (encI 0x28 rd rs1 imm) ∧
      runs (.sth c rd rs1 imm 0) (encI 0x29 rd rs1 imm) ∧
      runs (.stb c rd rs1 imm 0) (encI 0x2A rd rs1 imm)) ∧
    (∀ rd imm : Nat, runs (.lui c rd imm) (encLui rd imm)) ∧
    (∀ rs1 off : Nat, runs (.bez c rs1 off) (encB 0x30 rs1 off) ∧ runs (.bnz c rs1 off) (encB 0x31 rs1 off)) ∧
    (∀ off : Nat, runs (.jal c off) (encJ 0x32 off) ∧ runs (.jump c off) (encJ 0x33 off)) ∧
    (∀ ra rb y : Nat,
      let short (i : Nat → Bool → Nat → Nat → Nat → Nat → Instr) (sop : Nat) : Prop :=
        runs (i c false ra rb y 0) (encPair (encSlot sop ra rb) y) ∧ runs (i c true ra rb y 0) (encPair y (encSlot sop ra rb))
      short .shortNop 0x00 ∧
      short .shortMov 0x01 ∧
      short .shortAdd 0x02 ∧
      short .shortSub 0x03 ∧
      short .shortAnd 0x04 ∧
      short .shortOr 0x05 ∧
      short .shortXor 0x06 ∧
      short .shortSll 0x07 ∧
      short .shortSrl 0x08 ∧
      short .shortSra 0x09 ∧
      short .shortNeg 0x0A ∧
      short .shortNot 0x0B ∧
      short .shortAddq 0x0C ∧
      short .shortLiq 0x0D ∧
      short .shortCeq 0x0E ∧
      short .shortClt 0x0F ∧
      short .shortCltu 0x10 ∧
      short .shortLdw 0x11 ∧
      short .shortStw 0x12 ∧
      short .shortMul 0x13 ∧
      short .shortSexb 0x14 ∧
      short .shortSexh 0x15 ∧
      short .shortZexb 0x16 ∧
      short .shortZexh 0x17 ∧
      short .shortCeqz 0x18 ∧
      short .shortLdwsp 0x19 ∧
      short .shortStwsp 0x1A)) ∧
  encR 0x00 5 6 7 0x0B = 0x00298E0B#32 ∧ encPair (encSlot 0x01 6 5) (encSlot 0x0C 5 1) = 0x84C530A1#32

/-- The register lists of all blocks and of the cores' control registers, read both ways. -/
def Obligations.AddressMapIsOneToOne : Prop :=
  (∀ (r : Reg) (i j w : Nat), r.valid i j = true → w < r.geom.words → regAt (r.addr i j w) = some (r, i, j, w)) ∧
  (∀ (s : State) (r r' : Reg) (i j w i' j' w' : Nat) (v : Word), r.valid i j = true → w < r.geom.words → r'.valid i' j' = true
    → w' < r'.geom.words → (r, i, j, w) ≠ (r', i', j', w') → (s.setWord r i j w v).word r' i' j' w' = s.word r' i' j' w' ∧
    (s.setWord r i j w v).word r i j w = v)

/-- R613: the steps of taking a trap, with the vectors of R611 and the double trap of R614 on a C6 core. Which address each
cause saves is stated with the words that trap. -/
def Obligations.TakingATrap : Prop :=
  (∀ (s : State) (c code slot : Nat) (word epc : Word) (bad : Option Nat), s.get F.CPU_STATUS_EXL c = 0 → code < 12 → slot < 4 →
    epc.toNat % 4 = 0 → (∀ a, bad = some a → a < 2 ^ 32) →
    let t := s.takeTrap c code slot word epc bad
    t.get F.CPU_ESTAT_ALL c = bitsOf (s.word .CPU_STATUS c 0 0) 2 0 ∧
    t.get F.CPU_EPC_ADDR c * 4 = epc.toNat ∧
    (∀ a, bad = some a → t.get F.CPU_BADADDR_ADDR c = a) ∧
    (bad = none → t.get F.CPU_BADADDR_ADDR c = s.get F.CPU_BADADDR_ADDR c) ∧
    t.word .CPU_TRAPINSN c 0 0 = word ∧
    t.get F.CPU_CAUSE_CODE c = code ∧ t.get F.CPU_CAUSE_SLOT c = slot ∧
    t.get F.CPU_STATUS_MODE c = 1 ∧ t.get F.CPU_STATUS_IE c = 0 ∧ t.get F.CPU_STATUS_EXL c = 1 ∧
    t.pc c = BitVec.ofNat 32 (s.get F.CPU_TVEC_BASE c * 256 + if code ≤ 2 then 0 else if code = 10 then 0x80 else 0x40) ∧
    (∀ n, n ≠ c → t.core n = s.core n) ∧ t.core c = { s.core c with pc := t.pc c } ∧
    (∀ a, (∀ r ∈ [Reg.CPU_ESTAT, .CPU_EPC, .CPU_BADADDR, .CPU_TRAPINSN, .CPU_CAUSE, .CPU_STATUS], r.addr c 0 0 ≠ a) →
      Sparse.get t.regs a = Sparse.get s.regs a) ∧
    { t with regs := s.regs, cpu := s.cpu } = s) ∧
  (∀ (s : State) (c n code slot : Nat) (word epc : Word) (bad : Option Nat), s.get F.CPU_STATUS_EXL c = 1 → c < 5 →
    s.partOn c = some n → s.takeTrap c code slot word epc bad = (s.cum 8).restartOf n 3 c)

/-- R592: the general registers. That calls write g31 is stated with the jumps; what LDWSP and STWSP make of g30 with the
short pairs. -/
def Obligations.GeneralRegisters : Prop :=
  ∀ (s : State) (c : Nat) (v : Word), s.g c 0 = 0 ∧ s.setG c 0 v = s ∧ ∀ r, 0 < r → r < 32 → (s.setG c r v).g c r = v ∧
  (∀ k, k < 32 → k ≠ r → (s.setG c r v).g c k = s.g c k) ∧ (s.setG c r v).pc c = s.pc c ∧
  (∀ n, n ≠ c → (s.setG c r v).core n = s.core n) ∧ { s.setG c r v with cpu := s.cpu } = s

/-- R596, whole. Cores 0 to 4 are the cores that have the functions; on the others the words are not implemented and trap as
R588 says. -/
def Obligations.DivisionNeverTraps : Prop :=
  ∀ (s : State) (c rd rs1 rs2 : Nat), c < 5 → s.fetches c →
    let a := s.g c rs1
    let b := s.g c rs2
    (∃ v, exec (.divu c rd rs1 rs2) s = .next (s.gives c rd v) ∧ (b = 0 → v = 0xFFFFFFFF#32)) ∧
    (∃ v, exec (.divs c rd rs1 rs2) s = .next (s.gives c rd v) ∧ (b = 0 → v = 0xFFFFFFFF#32) ∧
      (a = 0x80000000#32 → b = 0xFFFFFFFF#32 → v = 0x80000000#32)) ∧
    (∃ v, exec (.remu c rd rs1 rs2) s = .next (s.gives c rd v) ∧ (b = 0 → v = a)) ∧
    (∃ v, exec (.rems c rd rs1 rs2) s = .next (s.gives c rd v) ∧ (b = 0 → v = a) ∧
      (a = 0x80000000#32 → b = 0xFFFFFFFF#32 → v = 0))

/-- R600, whole: the next state is that of the trap and nothing else. Words that trap for an earlier cause of R612 (reserved,
illegal pair) are left out by their own conditions. -/
def Obligations.MisalignedAccessesTrap : Prop :=
  ∀ (s : State) (c : Nat), s.fetches c → (∀ rd rs1 imm ecc a : Nat, (s.g c rs1 + (BitVec.ofNat 14 imm).signExtend 32).toNat =
    a → a % 4 ≠ 0 → exec (.ldw c rd rs1 imm ecc) s = .next (s.takeTrap c 7 0 (encI 0x20 rd rs1 imm) (s.pc c) (some a))) ∧
  (∀ rd rs1 imm ecc a : Nat, (s.g c rs1 + (BitVec.ofNat 14 imm).signExtend 32).toNat = a → a % 2 ≠ 0 → exec (.ldh c rd rs1 imm
    ecc) s = .next (s.takeTrap c 7 0 (encI 0x21 rd rs1 imm) (s.pc c) (some a))) ∧
  (∀ rd rs1 imm ecc a : Nat, (s.g c rs1 + (BitVec.ofNat 14 imm).signExtend 32).toNat = a → a % 2 ≠ 0 → exec (.ldhu c rd rs1
    imm ecc) s = .next (s.takeTrap c 7 0 (encI 0x22 rd rs1 imm) (s.pc c) (some a))) ∧
  (∀ rd rs1 imm ecc a : Nat, (s.g c rs1 + (BitVec.ofNat 14 imm).signExtend 32).toNat = a → a % 4 ≠ 0 → exec (.stw c rd rs1 imm
    ecc) s = .next (s.takeTrap c 7 0 (encI 0x28 rd rs1 imm) (s.pc c) (some a))) ∧
  (∀ rd rs1 imm ecc a : Nat, (s.g c rs1 + (BitVec.ofNat 14 imm).signExtend 32).toNat = a → a % 2 ≠ 0 → exec (.sth c rd rs1 imm
    ecc) s = .next (s.takeTrap c 7 0 (encI 0x29 rd rs1 imm) (s.pc c) (some a))) ∧
  (∀ rd rs1 rs2 func ecc a : Nat, func % 512 = 0 → (s.g c rs1).toNat = a → a % 4 ≠ 0 → exec (.amoswap c rd rs1 rs2 func ecc) s
    = .next (s.takeTrap c 7 0 (encR 0x2C rd rs1 rs2 func) (s.pc c) (some a))) ∧
  (∀ rd rs1 rs2 func ecc a : Nat, func % 512 = 0 → (s.g c rs1).toNat = a → a % 4 ≠ 0 → exec (.amoadd c rd rs1 rs2 func ecc) s
    = .next (s.takeTrap c 7 0 (encR 0x2D rd rs1 rs2 func) (s.pc c) (some a))) ∧
  (∀ ra rb y ecc a : Nat, slotReserved (y % 2 ^ 15) = false → slotMem (y % 2 ^ 15) = false → (slotDest (y % 2 ^ 15) = none ∨
    slotDest (y % 2 ^ 15) ≠ some (ra % 32)) → (s.g c rb).toNat = a → a % 4 ≠ 0 → exec (.shortLdw c false ra rb y ecc) s =
    .next (s.takeTrap c 7 1 (encPair (encSlot 0x11 ra rb) y) (s.pc c) (some a)) ∧ exec (.shortLdw c true ra rb y ecc) s =
    .next (s.takeTrap c 7 2 (encPair y (encSlot 0x11 ra rb)) (s.pc c) (some a))) ∧
  (∀ ra rb y ecc a : Nat, slotReserved (y % 2 ^ 15) = false → slotMem (y % 2 ^ 15) = false → (s.g c rb).toNat = a → a % 4 ≠ 0
    → exec (.shortStw c false ra rb y ecc) s = .next (s.takeTrap c 7 1 (encPair (encSlot 0x12 ra rb) y) (s.pc c) (some a)) ∧
    exec (.shortStw c true ra rb y ecc) s = .next (s.takeTrap c 7 2 (encPair y (encSlot 0x12 ra rb)) (s.pc c) (some a))) ∧
  (∀ ra rb y ecc a : Nat, slotReserved (y % 2 ^ 15) = false → slotMem (y % 2 ^ 15) = false → (slotDest (y % 2 ^ 15) = none ∨
    slotDest (y % 2 ^ 15) ≠ some (ra % 32)) → (s.g c 30 + BitVec.ofNat 32 (4 * (rb % 32))).toNat = a → a % 4 ≠ 0 → exec
    (.shortLdwsp c false ra rb y ecc) s = .next (s.takeTrap c 7 1 (encPair (encSlot 0x19 ra rb) y) (s.pc c) (some a)) ∧ exec
    (.shortLdwsp c true ra rb y ecc) s = .next (s.takeTrap c 7 2 (encPair y (encSlot 0x19 ra rb)) (s.pc c) (some a))) ∧
  (∀ ra rb y ecc a : Nat, slotReserved (y % 2 ^ 15) = false → slotMem (y % 2 ^ 15) = false → (s.g c 30 + BitVec.ofNat 32 (4 *
    (rb % 32))).toNat = a → a % 4 ≠ 0 → exec (.shortStwsp c false ra rb y ecc) s = .next (s.takeTrap c 7 1 (encPair (encSlot
    0x1A ra rb) y) (s.pc c) (some a)) ∧ exec (.shortStwsp c true ra rb y ecc) s = .next (s.takeTrap c 7 2 (encPair y (encSlot
    0x1A ra rb)) (s.pc c) (some a)))

/-- R621, whole: for every queue, every event and every state. CPU_EVQSTAT.LOST is bits 31 to 16 of the register as the core
reads it. -/
def Obligations.FullQueueDropsEvents : Prop :=
  (∀ (s : State) (n block code item a0 a1 : Nat) (replay : Bool), ¬s.room n →
    let t := s.event n block code item a0 a1 replay
    (t.queue n).entries = (s.queue n).entries ∧ (t.queue n).lost = min 0xFFFF ((s.queue n).lost + 1) ∧
      (t.queue n).ovfNext = true) ∧
  (∀ (s : State) (n block code item a0 a1 : Nat) (replay : Bool), s.room n → (s.queue n).ovfNext = true →
    let t := s.event n block code item a0 a1 replay
    ∃ e : Event, (t.queue n).entries = (s.queue n).entries ++ [e] ∧ e.ovf = true ∧ e.block = block ∧ e.code = code ∧
      e.item = item ∧ (t.queue n).ovfNext = false ∧ (t.queue n).lost = (s.queue n).lost) ∧
  (∀ (s : State) (c n : Nat), s.coreQueue c = some n →
    bitsOf (s.cpuRead c 0x14).2 31 16 = min 0xFFFF (s.queue n).lost)

/-- R20, R21, R22 and R24, whole, for every register of a peripheral block that is wider than 32 bits, by whichever of the
three read commands the access is made. -/
def Obligations.SnapshotsHoldAWideRegister : Prop :=
  ∀ (s : State) (init : Init) (a i j w : Nat) (r : Reg) (c : Instr), s.carries a → a % 4 = 0 → regAt a = some (r, i, j, w) →
    r.wide = true → (c = .snapshot init a ∨ c = .snapshotRelease init a ∨ c = .tornRead init a) → (w = 0 → Answers c s (fun t
    => t.snapOf init r i j = some ⟨init, r, i, j, (List.range r.geom.words).map (s.readWord init r i j), s.now⟩ ∧ t.readData
    init = some (s.readWord init r i j 0))) ∧
  (∀ x, 0 < w → s.snapOf init r i j = some x → (w + 1 < r.geom.words → Answers c s (fun t => t.snapOf init r i j = some x ∧
    t.readData init = some (x.words.getD w 0))) ∧ (w + 1 = r.geom.words → Answers c s (fun t => t.snapOf init r i j = none ∧
    t.readData init = some (x.words.getD w 0)))) ∧ (0 < w → s.snapOf init r i j = none → Answers c s (fun t => t.oneMore s
    F.ERR_BLK0_SNAP r.block ∧ t.readData init = some (s.readWord init r i j w)))

/-- The frame of 58 commands: with the parts it may write put back, the next state is the state before; a request into a
domain that is off leaves what its dropped write leaves (R37, R492). -/
def Obligations.IslandAccessAndServiceCommandsStayInTheirPart : Prop :=
  (∀ (s : State) (i : Nat), Answers (.distancePulse i) s (fun t => { t with mtr := s.mtr } = s)) ∧
  (∀ (s : State), Answers (.counterSealWrite) s (fun t => { t with mtr := s.mtr } = s)) ∧
  (∀ (s : State), Answers (.vmtrReturn) s (fun t => { t with mtr := s.mtr } = s)) ∧
  (∀ (s : State), Answers (.slewEnd) s (fun t => { t with mtr := s.mtr } = s)) ∧
  (∀ (s : State), Answers (.sealPinAssert) s (fun t => { t with mtr := s.mtr } = s)) ∧
  (∀ (s : State), Answers (.sealPinRelease) s (fun t => { t with mtr := s.mtr } = s)) ∧
  (∀ (s : State), Answers (.challengeExpiry) s (fun t => { t with mtr := s.mtr } = s)) ∧
  (∀ (s : State), Answers (.openLockoutEnd) s (fun t => { t with mtr := s.mtr } = s)) ∧
  (∀ (s : State), Answers (.pulseWindowCompare) s (fun t => { t with cyc := s.cyc, ev := s.ev, mtr := s.mtr, regs := s.regs }
    = s)) ∧
  (∀ (s : State), Answers (.vmtrFlush) s (fun t => { t with cyc := s.cyc, ev := s.ev, mtr := s.mtr, regs := s.regs } = s)) ∧
  (∀ (s : State), Answers (.islandCoreRestart) s (fun t => { t with cyc := s.cyc, ev := s.ev, mtr := s.mtr, regs := s.regs } =
    s)) ∧
  (∀ (s : State), Answers (.crystalComparison) s (fun t => { t with cyc := s.cyc, ev := s.ev, mtr := s.mtr, regs := s.regs } =
    s)) ∧
  (∀ (s : State), Answers (.distcopy) s (fun t => { t with cyc := s.cyc, ev := s.ev, mtr := s.mtr, regs := s.regs } = s)) ∧
  (∀ (s : State), Answers (.pinTimerExpiry) s (fun t => { t with cyc := s.cyc, ev := s.ev, mtr := s.mtr, regs := s.regs } =
    s)) ∧
  (∀ (s : State), Answers (.openIdleExpiry) s (fun t => { t with cyc := s.cyc, ev := s.ev, mtr := s.mtr, regs := s.regs } =
    s)) ∧
  (∀ (s : State), Answers (.firmwareSelftestTimeout) s (fun t =>
    { t with cyc := s.cyc, ev := s.ev, mtr := s.mtr, regs := s.regs } = s)) ∧
  (∀ (s : State), Answers (.statusReq) s (fun t => { t with cyc := s.cyc, ev := s.ev, mtr := s.mtr, regs := s.regs } = s)) ∧
  (∀ (s : State), Answers (.timeCorr) s (fun t => { t with cyc := s.cyc, ev := s.ev, mtr := s.mtr, regs := s.regs } = s)) ∧
  (∀ (s : State), Answers (.distCfg) s (fun t => { t with cyc := s.cyc, ev := s.ev, mtr := s.mtr, regs := s.regs } = s)) ∧
  (∀ (s : State), Answers (.openAuth) s (fun t => { t with cyc := s.cyc, ev := s.ev, mtr := s.mtr, regs := s.regs } = s)) ∧
  (∀ (s : State), Answers (.sealReq) s (fun t => { t with cyc := s.cyc, ev := s.ev, mtr := s.mtr, regs := s.regs } = s)) ∧
  (∀ (s : State), Answers (.setKfactor) s (fun t => { t with cyc := s.cyc, ev := s.ev, mtr := s.mtr, regs := s.regs } = s)) ∧
  (∀ (s : State), Answers (.setTime) s (fun t => { t with cyc := s.cyc, ev := s.ev, mtr := s.mtr, regs := s.regs } = s)) ∧
  (∀ (s : State) (outcome : Nat), Answers (.islandSelftest outcome) s (fun t =>
    { t with cyc := s.cyc, ev := s.ev, mtr := s.mtr, regs := s.regs } = s)) ∧
  (∀ (s : State), Answers (.fwBlock) s (fun t => { t with cyc := s.cyc, ev := s.ev, mtr := s.mtr, regs := s.regs } = s)) ∧
  (∀ (s : State), Answers (.fwCommit) s (fun t => { t with cyc := s.cyc, ev := s.ev, mtr := s.mtr, regs := s.regs } = s)) ∧
  (∀ (s : State), Answers (.pubkeyReq) s (fun t => { t with cyc := s.cyc, ev := s.ev, mtr := s.mtr, regs := s.regs } = s)) ∧
  (∀ (s : State), Answers (.islandLinkFall) s (fun t => { t with cyc := s.cyc, ev := s.ev, mtr := s.mtr, regs := s.regs } =
    s)) ∧
  (∀ (s : State), Answers (.legaltime) s (fun t =>
    { t with cyc := s.cyc, ev := s.ev, mtr := s.mtr, regs := s.regs, tim := s.tim } = s)) ∧
  (∀ (s : State), Answers (.islandLinkRise) s (fun t =>
    { t with cyc := s.cyc, ev := s.ev, mtr := s.mtr, regs := s.regs, tim := s.tim } = s)) ∧
  (∀ (s : State) (init : Init) (v : Nat), Answers (.mtrTxheadWrite init v) s (fun t =>
    { t with cyc := s.cyc, ev := s.ev, free := s.free, mtr := s.mtr, regs := s.regs } = s)) ∧
  (∀ (s : State) (init : Init) (v : Nat), Answers (.mtrRxtailWrite init v) s (fun t =>
    { t with cyc := s.cyc, ev := s.ev, free := s.free, mtr := s.mtr, regs := s.regs } = s)) ∧
  (∀ (s : State), Answers (.parameterBlockFailure) s (fun t =>
    { t with cyc := s.cyc, ev := s.ev, free := s.free, mtr := s.mtr, regs := s.regs } = s)) ∧
  (∀ (s : State), Answers (.recordReq) s (fun t =>
    { t with cyc := s.cyc, ev := s.ev, free := s.free, mtr := s.mtr, regs := s.regs } = s)) ∧
  (∀ (s : State), Answers (.openReq) s (fun t =>
    { t with cyc := s.cyc, ev := s.ev, free := s.free, mtr := s.mtr, regs := s.regs } = s)) ∧
  (∀ (s : State), Answers (.exchangeRepeat) s (fun t => { t with free := s.free, acc := s.acc } = s)) ∧
  (∀ (s : State), Answers (.secretGrantExpiry) s (fun t => { t with acc := s.acc } = s)) ∧
  (∀ (s : State) (k : Nat), Answers (.buttonHoldExpiry k) s (fun t => { t with acc := s.acc, cyc := s.cyc, regs := s.regs } =
    s)) ∧
  (∀ (s : State) (sync : Bool) (crcOk : Bool) (id : Nat) (resp : Nat) (vec : List Nat) (lat : Int) (unc : Bool), Answers
    (.replySlotEnd sync crcOk id resp vec lat unc) s (fun t =>
    { t with acc := s.acc, cyc := s.cyc, free := s.free, log := s.log, mem := s.mem, regs := s.regs } = s ∧ (unc = false →
    t.log = s.log ∧ t.mem = s.mem) ∧ t.memOutside s 0x107F0000 0x10800000)) ∧
  (∀ (s : State), Answers (.lockOutEnd) s (fun t => { t with acc := s.acc, cyc := s.cyc, ev := s.ev, regs := s.regs } = s)) ∧
  (∀ (s : State), Answers (.exchangeResult) s (fun t => { t with acc := s.acc, cyc := s.cyc, ev := s.ev, regs := s.regs } =
    s)) ∧
  (∀ (s : State) (good : Bool), Answers (.slotRecordWritten good) s (fun t =>
    { t with acc := s.acc, cyc := s.cyc, ev := s.ev, mem := s.mem, regs := s.regs } = s ∧ (s.acc.writing = none ∨ good = false
    → t.mem = s.mem) ∧ ∀ k id, s.acc.writing = some (k, id) → t.memOutside s (slotPage k (Sparse.at s.acc.seqs k 0 + 1))
    (slotPage k (Sparse.at s.acc.seqs k 0 + 1) + 0x1000))) ∧
  (∀ (s : State) (init : Init) (f : Nat) (zreq : Nat), Answers (.accessAuthenticate init f zreq) s (fun t => t = s.offWrite
    init (Reg.ACC_FNREQ.addr f 0 1) ∨ { t with acc := s.acc, cyc := s.cyc, ev := s.ev, free := s.free, regs := s.regs } = s)) ∧
  (∀ (s : State) (init : Init), Answers (.pollingClockLock init) s (fun t => t = s.offWrite init (Reg.ACC_FNREQ.addr 0 0 1) ∨
    { t with acc := s.acc, cyc := s.cyc, ev := s.ev, free := s.free, regs := s.regs } = s)) ∧
  (∀ (s : State) (init : Init), Answers (.pollingClockUnlock init) s (fun t => t = s.offWrite init (Reg.ACC_FNREQ.addr 0 0 1)
    ∨ { t with acc := s.acc, cyc := s.cyc, ev := s.ev, free := s.free, regs := s.regs } = s)) ∧
  (∀ (s : State) (init : Init) (id : Nat), Answers (.enrolPresentToken init id) s (fun t => t = s.offWrite init
    (Reg.ACC_FNREQ.addr 3 0 1) ∨ { t with acc := s.acc, cyc := s.cyc, ev := s.ev, free := s.free, regs := s.regs } = s)) ∧
  (∀ (s : State) (init : Init) (id : Nat), Answers (.enrolSecretCode init id) s (fun t => t = s.offWrite init
    (Reg.ACC_FNREQ.addr 3 0 1) ∨ { t with acc := s.acc, cyc := s.cyc, ev := s.ev, free := s.free, regs := s.regs } = s)) ∧
  (∀ (s : State) (init : Init) (slot : Nat), Answers (.revoke init slot) s (fun t => t = s.offWrite init (Reg.ACC_FNREQ.addr 3
    0 1) ∨ { t with acc := s.acc, cyc := s.cyc, ev := s.ev, free := s.free, regs := s.regs } = s)) ∧
  (∀ (s : State), Answers (.jtagBypass) s (fun t => { t with jtag := s.jtag } = s)) ∧
  (∀ (s : State), Answers (.jtagIdcode) s (fun t => { t with jtag := s.jtag } = s)) ∧
  (∀ (s : State) (pins : List Nat) (preload : List Nat), Answers (.samplePreload pins preload) s (fun t =>
    { t with jtag := s.jtag } = s)) ∧
  (∀ (s : State), Answers (.extest) s (fun t => { t with jtag := s.jtag } = s)) ∧
  (∀ (s : State) (path : Nat) (src : Nat) (sess : Nat) (seq : Nat) (key sig : List Byte), Answers (.siariAuth path src sess
    seq key sig) s (fun t => { t with cyc := s.cyc, eth := s.eth, regs := s.regs, upd := s.upd } = s)) ∧
  (∀ (s : State) (path : Nat) (src : Nat) (sess : Nat) (seq : Nat), Answers (.siariStatus path src sess seq) s (fun t =>
    { t with cyc := s.cyc, eth := s.eth, regs := s.regs, upd := s.upd } = s)) ∧
  (∀ (s : State) (path : Nat) (src : Nat) (sess : Nat) (seq : Nat) (first : Nat) (count : Nat), Answers (.logread path src
    sess seq first count) s (fun t => { t with cyc := s.cyc, eth := s.eth, regs := s.regs, upd := s.upd } = s)) ∧
  (∀ (s : State) (path : Nat) (src : Nat) (sess : Nat) (seq : Nat) (m : List Byte), Answers (.activate path src sess seq m) s
    (fun t => { t with cyc := s.cyc, eth := s.eth, regs := s.regs, upd := s.upd } = s)) ∧
  (∀ (s : State) (init : Init), Answers (.workshopReply init) s (fun t =>
    { t with cyc := s.cyc, eth := s.eth, regs := s.regs, upd := s.upd } = s)) ∧
  (∀ (s : State), Answers (.workshopTimeout) s (fun t => { t with cyc := s.cyc, eth := s.eth, regs := s.regs, upd := s.upd } =
    s))

/-- The frame of the commands that write registers and at most one block's own state: with those put back, the next state is
the state before; a write into a domain that is off leaves what its drop leaves (R37, R492). -/
def Obligations.NetworkAndPlaneCommandsStayInTheirPart : Prop :=
  (∀ (s : State), Answers (.pollStepChange) s (fun t => { t with regs := s.regs } = s)) ∧
  (∀ (s : State) (c : Nat), Answers (.romChange c) s (fun t => { t with regs := s.regs } = s)) ∧
  (∀ (s : State) (init : Init) (c : Nat) (k : Nat) (dir : Nat), Answers (.dirChange init c k dir) s (fun t => t = s.offWrite
    init (Reg.CAN_MBID.addr c k 0) ∨ { t with cyc := s.cyc, regs := s.regs } = s)) ∧
  (∀ (s : State) (d : Nat) (p : Nat), Answers (.announceReceive d p) s (fun t => { t with cyc := s.cyc, regs := s.regs } = s)) ∧
  (∀ (s : State) (d : Nat) (p : Nat), Answers (.signalingReceive d p) s (fun t => { t with cyc := s.cyc, regs := s.regs } =
    s)) ∧
  (∀ (s : State) (init : Init) (p : Nat) (v : Nat), Answers (.rxTailAdvance init p v) s (fun t => t = s.offWrite init
    (Reg.ESW_FPRXTAIL.addr p 0 0) ∨ { t with cyc := s.cyc, regs := s.regs } = s)) ∧
  (∀ (s : State) (init : Init) (i : Nat) (v : Nat), Answers (.filtWrite init i v) s (fun t => t = s.offWrite init
    (Reg.FIN_FILT.addr i 0 0) ∨ { t with cyc := s.cyc, regs := s.regs } = s)) ∧
  (∀ (s : State) (init : Init) (i : Nat), Answers (.couplingEnable init i) s (fun t => { t with cyc := s.cyc, regs := s.regs }
    = s)) ∧
  (∀ (s : State) (init : Init) (i : Nat), Answers (.couplingDisable init i) s (fun t =>
    { t with cyc := s.cyc, regs := s.regs } = s)) ∧
  (∀ (s : State) (k : Nat), Answers (.exposureWindowLapse k) s (fun t => { t with regs := s.regs } = s)) ∧
  (∀ (s : State) (n : Nat), Answers (.noticeLapse n) s (fun t => { t with regs := s.regs } = s)) ∧
  (∀ (s : State) (vbat : Nat), Answers (.fullZoneEntry vbat) s (fun t => { t with regs := s.regs } = s)) ∧
  (∀ (s : State) (vbat : Nat), Answers (.overvoltageExit vbat) s (fun t => { t with regs := s.regs } = s)) ∧
  (∀ (s : State) (tbp : Int), Answers (.baseplateTemperatureSample tbp) s (fun t => { t with cyc := s.cyc, regs := s.regs } =
    s)) ∧
  (∀ (s : State), Answers (.t3Timeout) s (fun t => { t with regs := s.regs } = s)) ∧
  (∀ (s : State) (d : Nat), Answers (.decoderCalibrationEnd d) s (fun t => { t with regs := s.regs } = s)) ∧
  (∀ (s : State) (d : Nat), Answers (.backgroundRecalibration d) s (fun t => { t with regs := s.regs } = s)) ∧
  (∀ (s : State) (k : Nat), Answers (.entryAgeing k) s (fun t => { t with eth := s.eth } = s)) ∧
  (∀ (s : State) (p : Nat), Answers (.gateEntryEnd p) s (fun t => { t with eth := s.eth } = s)) ∧
  (∀ (s : State) (d : Nat), Answers (.announceSend d) s (fun t => { t with eth := s.eth } = s)) ∧
  (∀ (s : State) (init : Init) (idx : Nat), Answers (.fdbReadIndex init idx) s (fun t => t = s.offWrite init
    (Reg.ESW_FDBCMD.addr 0 0 0) ∨ { t with cyc := s.cyc, eth := s.eth, regs := s.regs } = s)) ∧
  (∀ (s : State) (init : Init), Answers (.fdbWriteByKey init) s (fun t => t = s.offWrite init (Reg.ESW_FDBCMD.addr 0 0 0) ∨
    { t with cyc := s.cyc, eth := s.eth, regs := s.regs } = s)) ∧
  (∀ (s : State) (init : Init), Answers (.fdbLookUpKey init) s (fun t => t = s.offWrite init (Reg.ESW_FDBCMD.addr 0 0 0) ∨
    { t with cyc := s.cyc, eth := s.eth, regs := s.regs } = s)) ∧
  (∀ (s : State) (init : Init), Answers (.fdbDeleteByKey init) s (fun t => t = s.offWrite init (Reg.ESW_FDBCMD.addr 0 0 0) ∨
    { t with cyc := s.cyc, eth := s.eth, regs := s.regs } = s)) ∧
  (∀ (s : State) (init : Init), Answers (.fdbFlush init) s (fun t => t = s.offWrite init (Reg.ESW_AGE.addr 0 0 0) ∨
    { t with cyc := s.cyc, eth := s.eth, regs := s.regs } = s)) ∧
  (∀ (s : State) (init : Init) (p : Nat), Answers (.gateListChange init p) s (fun t => t = s.offWrite init
    (Reg.ESW_PTASCTL.addr p 0 0) ∨ { t with cyc := s.cyc, eth := s.eth, regs := s.regs } = s)) ∧
  (∀ (s : State) (p : Nat), Answers (.gateListSwitch p) s (fun t => { t with regs := s.regs, eth := s.eth } = s)) ∧
  (∀ (s : State) (d : Nat), Answers (.followUpTimeout d) s (fun t => { t with cyc := s.cyc, eth := s.eth, regs := s.regs } =
    s)) ∧
  (∀ (s : State) (d : Nat), Answers (.grandmasterSyncInterval d) s (fun t =>
    { t with cyc := s.cyc, eth := s.eth, regs := s.regs } = s)) ∧
  (∀ (s : State) (p : Nat), Answers (.pdelayExchange p) s (fun t => { t with regs := s.regs, eth := s.eth } = s)) ∧
  (∀ (s : State) (init : Init) (d : Nat) (v : Nat), Answers (.ptpRoleWrite init d v) s (fun t => t = s.offWrite init
    (Reg.ESW_PTPROLE.addr d 0 0) ∨ { t with cyc := s.cyc, eth := s.eth, regs := s.regs } = s)) ∧
  (∀ (s : State) (init : Init) (p : Nat) (rx : Bool) (a : Nat), Answers (.ringBaseWrite init p rx a) s (fun t => t =
    s.offWrite init ((if rx then Reg.ESW_FPRXBASE else .ESW_FPTXBASE).addr p 0 0) ∨
    { t with cyc := s.cyc, eth := s.eth, regs := s.regs } = s)) ∧
  (∀ (s : State) (init : Init) (c : Nat), Answers (.canEnable init c) s (fun t => t = s.offWrite init (Reg.CAN_CTL.addr c 0 0)
    ∨ { t with can := s.can, cyc := s.cyc, regs := s.regs } = s)) ∧
  (∀ (s : State) (init : Init) (c : Nat) (k : Nat) (ws : List Word), Answers (.transmitRequest init c k ws) s (fun t => t =
    s.offWrite init (Reg.CAN_MB.addr c k 23) ∨ { t with can := s.can, cyc := s.cyc, regs := s.regs } = s)) ∧
  (∀ (s : State) (init : Init) (c : Nat) (k : Nat), Answers (.transmitAbort init c k) s (fun t => t = s.offWrite init
    (Reg.CAN_MB.addr c k 23) ∨ { t with can := s.can, cyc := s.cyc, regs := s.regs } = s)) ∧
  (∀ (s : State) (c : Nat) (unc : Bool), Answers (.arbitration c unc) s (fun t =>
    { t with can := s.can, cyc := s.cyc, log := s.log, mem := s.mem, regs := s.regs } = s ∧ (unc = false → t.log = s.log ∧
    t.mem = s.mem) ∧ t.memOutside s 0x107F0000 0x10800000)) ∧
  (∀ (s : State) (c : Nat), Answers (.arbitrationLost c) s (fun t => { t with can := s.can, cyc := s.cyc, regs := s.regs } =
    s)) ∧
  (∀ (s : State) (init : Init) (c : Nat), Answers (.busOffRecoveryRequest init c) s (fun t => t = s.offWrite init
    (Reg.CAN_CTL.addr c 0 0) ∨ { t with can := s.can, cyc := s.cyc, regs := s.regs } = s)) ∧
  (∀ (s : State) (c : Nat), Answers (.protocolException c) s (fun t => { t with can := s.can, cyc := s.cyc, regs := s.regs } =
    s)) ∧
  (∀ (s : State) (c : Nat), Answers (.gatewayQueueAge c) s (fun t => { t with can := s.can, cyc := s.cyc, regs := s.regs } =
    s)) ∧
  (∀ (s : State) (init : Init) (l : Nat), Answers (.linScheduleRun init l) s (fun t => t = s.offWrite init
    (Reg.LIN_SCHCTL.addr l 0 0) ∨ { t with cyc := s.cyc, lin := s.lin, regs := s.regs } = s)) ∧
  (∀ (s : State) (l : Nat), Answers (.linSlotStart l) s (fun t => { t with cyc := s.cyc, lin := s.lin, regs := s.regs } = s)) ∧
  (∀ (s : State) (init : Init) (l : Nat), Answers (.linTableSwitch init l) s (fun t => t = s.offWrite init
    (Reg.LIN_SCHCTL.addr l 0 0) ∨ { t with cyc := s.cyc, lin := s.lin, regs := s.regs } = s)) ∧
  (∀ (s : State), Answers (.wakeOutPulseEnd) s (fun t => { t with nwk := s.nwk } = s)) ∧
  (∀ (s : State), Answers (.loopIgnoreEnd) s (fun t => { t with nwk := s.nwk } = s)) ∧
  (∀ (s : State) (j : Nat), Answers (.confirmationTimeout j) s (fun t => { t with cyc := s.cyc, nwk := s.nwk, regs := s.regs }
    = s)) ∧
  (∀ (s : State) (j : Nat), Answers (.backOffEnd j) s (fun t => { t with regs := s.regs, nwk := s.nwk } = s)) ∧
  (∀ (s : State) (j : Nat), Answers (.recoveryPhaseEnd j) s (fun t => { t with regs := s.regs, nwk := s.nwk } = s)) ∧
  (∀ (s : State), Answers (.startUpPhaseEnd) s (fun t => { t with regs := s.regs, nwk := s.nwk } = s)) ∧
  (∀ (s : State) (j : Nat), Answers (.ownWakeFrame j) s (fun t => { t with cyc := s.cyc, nwk := s.nwk, regs := s.regs } = s)) ∧
  (∀ (s : State) (init : Init) (u : Nat), Answers (.tableRun init u) s (fun t => t = s.offWrite init (Reg.SCH_TCTL.addr u 0 0)
    ∨ { t with cyc := s.cyc, regs := s.regs, sch := s.sch } = s)) ∧
  (∀ (s : State) (init : Init) (u : Nat), Answers (.tableStop init u) s (fun t => t = s.offWrite init (Reg.SCH_TCTL.addr u 0
    0) ∨ { t with cyc := s.cyc, regs := s.regs, sch := s.sch } = s)) ∧
  (∀ (s : State) (init : Init) (u : Nat), Answers (.bankCopy init u) s (fun t => t = s.offWrite init (Reg.SCH_TCTL.addr u 0 0)
    ∨ { t with cyc := s.cyc, regs := s.regs, sch := s.sch } = s)) ∧
  (∀ (s : State) (init : Init) (u : Nat), Answers (.swapRequest init u) s (fun t => t = s.offWrite init (Reg.SCH_TCTL.addr u 0
    0) ∨ { t with cyc := s.cyc, regs := s.regs, sch := s.sch } = s)) ∧
  (∀ (s : State) (u : Nat), Answers (.bankSwap u) s (fun t => { t with cyc := s.cyc, regs := s.regs, sch := s.sch } = s)) ∧
  (∀ (s : State) (init : Init) (block : Nat) (g : Nat), Answers (.groupCommit init block g) s (fun t => t = s.offWrite init
    ((gctlReg block g).addr (g % 32) 0 0) ∨ { t with cyc := s.cyc, regs := s.regs, sch := s.sch } = s)) ∧
  (∀ (s : State) (init : Init) (block : Nat) (g : Nat), Answers (.groupDiscard init block g) s (fun t => t = s.offWrite init
    ((gctlReg block g).addr (g % 32) 0 0) ∨ { t with cyc := s.cyc, regs := s.regs, sch := s.sch } = s)) ∧
  (∀ (s : State) (u : Nat), Answers (.legalTimeMessage u) s (fun t => { t with regs := s.regs, tim := s.tim } = s)) ∧
  (∀ (s : State) (n : Nat), Answers (.rateUpdate n) s (fun t => { t with regs := s.regs, tim := s.tim } = s)) ∧
  (∀ (s : State) (init : Init) (n : Nat) (e : Int), Answers (.offsetWrite init n e) s (fun t => t = s.offWrite init
    (Reg.TIM_SOFFS.addr n 0 1) ∨ { t with cyc := s.cyc, regs := s.regs, tim := s.tim } = s)) ∧
  (∀ (s : State) (init : Init) (n : Nat) (v : Nat), Answers (.incrementWrite init n v) s (fun t => t = s.offWrite init
    (Reg.TIM_INCR.addr n 0 0) ∨ { t with cyc := s.cyc, regs := s.regs, tim := s.tim } = s)) ∧
  (∀ (s : State) (pass : Bool), Answers (.shadowSelfTest pass) s (fun t => { t with regs := s.regs, tim := s.tim } = s)) ∧
  (∀ (s : State) (init : Init), Answers (.plannedSwap init) s (fun t => t = s.offWrite init (Reg.TIM_SHCTL.addr 0 0 0) ∨
    { t with cyc := s.cyc, regs := s.regs, tim := s.tim } = s)) ∧
  (∀ (s : State) (init : Init), Answers (.dwdogKey3c init) s (fun t =>
    { t with cyc := s.cyc, integ := s.integ, regs := s.regs } = s)) ∧
  (∀ (s : State) (init : Init), Answers (.dwdogKeyC3 init) s (fun t =>
    { t with cyc := s.cyc, integ := s.integ, regs := s.regs } = s)) ∧
  (∀ (s : State) (init : Init) (key : Nat), Answers (.dwdogWrongKey init key) s (fun t =>
    { t with cyc := s.cyc, integ := s.integ, regs := s.regs } = s)) ∧
  (∀ (s : State) (init : Init) (ms : Nat), Answers (.dwdogTimeWrite init ms) s (fun t =>
    { t with cyc := s.cyc, integ := s.integ, regs := s.regs } = s)) ∧
  (∀ (s : State), Answers (.restExit) s (fun t => { t with regs := s.regs, integ := s.integ } = s)) ∧
  (∀ (s : State), Answers (.restWatchdogReturn) s (fun t => { t with regs := s.regs, integ := s.integ } = s)) ∧
  (∀ (s : State) (x : Nat) (low : Bool) (high : Bool), Answers (.offStateDiagnosis x low high) s (fun t =>
    { t with psw := s.psw } = s)) ∧
  (∀ (s : State), Answers (.ciPwrClockLoss) s (fun t => { t with psw := s.psw } = s)) ∧
  (∀ (s : State) (p : Nat), Answers (.currentLimitEntry p) s (fun t => { t with regs := s.regs, psw := s.psw } = s)) ∧
  (∀ (s : State) (p : Nat), Answers (.limitExit p) s (fun t => { t with regs := s.regs, psw := s.psw } = s)) ∧
  (∀ (s : State) (p : Nat), Answers (.cleanExpiry p) s (fun t => { t with regs := s.regs, psw := s.psw } = s)) ∧
  (∀ (s : State) (x : Nat) (isense : Nat), Answers (.onStateMeasurement x isense) s (fun t =>
    { t with regs := s.regs, psw := s.psw } = s)) ∧
  (∀ (s : State) (init : Init) (n : Nat) (ext : Nat), Answers (.plannedRestartNotice init n ext) s (fun t => t = s.offWrite
    init (Reg.PSW_PLAN.addr n 0 0) ∨ { t with cyc := s.cyc, psw := s.psw, regs := s.regs } = s)) ∧
  (∀ (s : State) (g : Nat) (found : List Nat), Answers (.pollingBurst g found) s (fun t => { t with fin := s.fin } = s)) ∧
  (∀ (s : State) (i : Nat) (high : Bool), Answers (.inputThresholdCrossing i high) s (fun t =>
    { t with fin := s.fin, regs := s.regs, sch := s.sch } = s ∧ { t.sch with truth := s.sch.truth } = s.sch)) ∧
  (∀ (s : State) (i : Nat), Answers (.cleaningPulseEnd i) s (fun t => { t with regs := s.regs, fin := s.fin } = s)) ∧
  (∀ (s : State) (i : Nat), Answers (.cleaningWaitDrop i) s (fun t => { t with cyc := s.cyc, fin := s.fin, regs := s.regs } =
    s)) ∧
  (∀ (s : State) (i : Nat) (uv : Nat), Answers (.analogueConversion i uv) s (fun t =>
    { t with fin := s.fin, regs := s.regs, sch := s.sch } = s ∧ { t.sch with truth := s.sch.truth } = s.sch)) ∧
  (∀ (s : State) (i : Nat), Answers (.tpeakExpiry i) s (fun t => { t with free := s.free, regs := s.regs, vlv := s.vlv } = s)) ∧
  (∀ (s : State) (i : Nat), Answers (.decayEnd i) s (fun t => { t with regs := s.regs, sch := s.sch, vlv := s.vlv } = s ∧
    { t.sch with truth := s.sch.truth } = s.sch)) ∧
  (∀ (s : State) (m : Nat), Answers (.undercoatPeriodStart m) s (fun t => { t with regs := s.regs, lgt := s.lgt } = s)) ∧
  (∀ (s : State) (k : Nat), lightBits.all (fun m => !s.follows m k || (s.led m).heldActs.isEmpty) = true → Answers
    (.windowOpening k) s (fun t => { t with lgt := s.lgt, regs := s.regs } = s)) ∧
  (∀ (s : State) (k : Nat), Answers (.windowOpening k) s (fun t =>
    { t with bus := s.bus, cyc := s.cyc, ev := s.ev, free := s.free, integ := s.integ, lgt := s.lgt, psw := s.psw, regs := s.regs, sch := s.sch, tim := s.tim, vlv := s.vlv }
    = s)) ∧
  (∀ (s : State) (init : Init) (sig : Nat) (level : Bool), Answers (.partitionSignalWrite init sig level) s (fun t =>
    { t with cyc := s.cyc, gwy := s.gwy, regs := s.regs } = s)) ∧
  (∀ (s : State) (g : Nat) (tag : Nat), Answers (.quarantineEnd g tag) s (fun t => { t with gwy := s.gwy } = s)) ∧
  (∀ (s : State) (l : Nat), Answers (.laneMoveComplete l) s (fun t => { t with links := s.links } = s)) ∧
  (∀ (s : State) (m : Nat), Answers (.undercoatPulseEnd m) s (fun t => { t with lgt := s.lgt } = s)) ∧
  (∀ (s : State), Answers (.logFlushTimer) s (fun t => { t with log := s.log } = s))
end

