-- ==== Sys2Proof/Laws/Bits.lean ====
section
/-! SUPPORT. What a bit field reads after a field of the word is set. -/

set_option Elab.async false

namespace Sys2Proof.Machine

theorem maskBits_getLsbD (hi lo k : Nat) (h : lo ≤ hi) (h32 : hi ≤ 31) :
    (maskBits hi lo).getLsbD k = (decide (lo ≤ k) && decide (k ≤ hi)) := by
  unfold maskBits
  simp only [BitVec.getLsbD_shiftLeft, BitVec.getLsbD_ushiftRight, BitVec.getLsbD_allOnes]
  by_cases h1 : lo ≤ k <;> by_cases h2 : k ≤ hi <;> simp [h1, h2] <;> omega

theorem setBits_getLsbD (w : Word) (hi lo v k : Nat) (h : lo ≤ hi) (h32 : hi ≤ 31) :
    (setBits w hi lo v).getLsbD k =
      if lo ≤ k ∧ k ≤ hi then v.testBit (k - lo) else w.getLsbD k := by
  unfold setBits
  simp only [BitVec.getLsbD_or, BitVec.getLsbD_and, BitVec.getLsbD_not, BitVec.getLsbD_shiftLeft, BitVec.getLsbD_ofNat,
    maskBits_getLsbD hi lo k h h32, Nat.testBit_mod_two_pow]
  by_cases hk : k < 32
  · by_cases h1 : lo ≤ k <;> by_cases h2 : k ≤ hi <;> simp [h1, h2, hk]
    · have h3 : ¬ k < lo := by omega
      have h4 : k - lo < 32 := by omega
      have h5 : k - lo < hi + 1 - lo := by omega
      simp [h3, h4, h5]
    · intro _ _ h3; omega
  · have h2 : ¬ k ≤ hi := by omega
    simp [h2, hk, BitVec.getLsbD_of_ge _ _ (by omega : 32 ≤ k)]

theorem bitsOf_testBit (w : Word) (hi lo k : Nat) :
    (bitsOf w hi lo).testBit k = (decide (k < hi + 1 - lo) && w.getLsbD (lo + k)) := by
  simp [bitsOf, Nat.testBit_mod_two_pow, Nat.testBit_div_two_pow, BitVec.getLsbD, Nat.add_comm]

/-- A field set to v reads v modulo its width. -/
theorem bitsOf_setBits_same (w : Word) (hi lo v : Nat) (h : lo ≤ hi) (h32 : hi ≤ 31) :
    bitsOf (setBits w hi lo v) hi lo = v % 2 ^ (hi + 1 - lo) := by
  apply Nat.eq_of_testBit_eq
  intro k
  rw [bitsOf_testBit, setBits_getLsbD w hi lo v _ h h32, Nat.testBit_mod_two_pow]
  by_cases hk : k < hi + 1 - lo
  · have : lo + k ≤ hi := by omega
    simp [hk, this]
  · simp [hk]

/-- A field apart from the one that is set reads as before. -/
theorem bitsOf_setBits_apart (w : Word) (hi lo v hi' lo' : Nat) (h : lo ≤ hi) (h32 : hi ≤ 31)
    (ha : hi < lo' ∨ hi' < lo) : bitsOf (setBits w hi lo v) hi' lo' = bitsOf w hi' lo' := by
  apply Nat.eq_of_testBit_eq
  intro k
  rw [bitsOf_testBit, bitsOf_testBit, setBits_getLsbD w hi lo v _ h h32]
  by_cases hk : k < hi' + 1 - lo'
  · have : ¬ (lo ≤ lo' + k ∧ lo' + k ≤ hi) := by omega
    simp [hk, this]
  · simp [hk]

theorem bitsOf_lt (w : Word) (hi lo : Nat) : bitsOf w hi lo < 2 ^ (hi + 1 - lo) := by
  unfold bitsOf; exact Nat.mod_lt _ (by positivity)

end Sys2Proof.Machine
end

