-- ==== Sys2Proof/Laws/Sparse.lean ====
section
/-! SUPPORT. What a sparse map reads after an entry is set or erased, and that both keep the keys rising. -/

set_option Elab.async false

namespace Sys2Proof.Machine

variable {α : Type}

@[simp] theorem Sparse.get_set_same (m : List (Nat × α)) (k : Nat) (v : α) : Sparse.get (Sparse.set m k v) k = some v := by
  induction m with
  | nil => simp [Sparse.set, Sparse.get]
  | cons e m ih =>
    obtain ⟨a, w⟩ := e
    unfold Sparse.set
    split
    · simp [Sparse.get]
    · split
      · simp [Sparse.get]
      · simp [Sparse.get, *]

theorem Sparse.get_set_ne (m : List (Nat × α)) (k k' : Nat) (v : α) (h : k ≠ k') :
    Sparse.get (Sparse.set m k v) k' = Sparse.get m k' := by
  induction m with
  | nil => simp [Sparse.set, Sparse.get, h]
  | cons e m ih =>
    obtain ⟨a, w⟩ := e
    unfold Sparse.set
    split
    · subst_vars; simp [Sparse.get, h]
    · split
      · simp [Sparse.get, h]
      · simp [Sparse.get, ih]

@[simp] theorem Sparse.get_erase_same (m : List (Nat × α)) (k : Nat) : Sparse.get (Sparse.erase m k) k = none := by
  induction m with
  | nil => rfl
  | cons e m ih =>
    obtain ⟨a, w⟩ := e
    unfold Sparse.erase
    split
    · exact ih
    · simp [Sparse.get, *]

theorem Sparse.get_erase_ne (m : List (Nat × α)) (k k' : Nat) (h : k ≠ k') :
    Sparse.get (Sparse.erase m k) k' = Sparse.get m k' := by
  induction m with
  | nil => rfl
  | cons e m ih =>
    obtain ⟨a, w⟩ := e
    unfold Sparse.erase
    split
    · subst_vars; simp [Sparse.get, h, ih]
    · simp [Sparse.get, ih]

@[simp] theorem Sparse.at_set_same (m : List (Nat × α)) (k : Nat) (v d : α) : Sparse.at (Sparse.set m k v) k d = v := by
  simp [Sparse.at]

theorem Sparse.at_set_ne (m : List (Nat × α)) (k k' : Nat) (v d : α) (h : k ≠ k') :
    Sparse.at (Sparse.set m k v) k' d = Sparse.at m k' d := by
  simp [Sparse.at, Sparse.get_set_ne m k k' v h]

@[simp] theorem Sparse.at_erase_same (m : List (Nat × α)) (k : Nat) (d : α) : Sparse.at (Sparse.erase m k) k d = d := by
  simp [Sparse.at]

theorem Sparse.at_erase_ne (m : List (Nat × α)) (k k' : Nat) (d : α) (h : k ≠ k') :
    Sparse.at (Sparse.erase m k) k' d = Sparse.at m k' d := by
  simp [Sparse.at, Sparse.get_erase_ne m k k' h]

theorem Sparse.sortedFrom_le {m : List (Nat × α)} {lo lo' : Nat} (hl : lo' ≤ lo) (h : Sparse.sortedFrom lo m = true) :
    Sparse.sortedFrom lo' m = true := by
  cases m with
  | nil => rfl
  | cons e m =>
    obtain ⟨a, w⟩ := e
    simp only [Sparse.sortedFrom, Bool.and_eq_true, decide_eq_true_eq] at h ⊢
    exact ⟨by omega, h.2⟩

theorem Sparse.sortedFrom_set {m : List (Nat × α)} {lo k : Nat} (v : α) (hk : lo ≤ k)
    (h : Sparse.sortedFrom lo m = true) : Sparse.sortedFrom lo (Sparse.set m k v) = true := by
  induction m generalizing lo with
  | nil => simp [Sparse.set, Sparse.sortedFrom, hk]
  | cons e m ih =>
    obtain ⟨a, w⟩ := e
    simp only [Sparse.sortedFrom, Bool.and_eq_true, decide_eq_true_eq] at h
    unfold Sparse.set
    split
    · subst_vars; simp [Sparse.sortedFrom, h]
    · split
      · simp only [Sparse.sortedFrom, Bool.and_eq_true, decide_eq_true_eq]; exact ⟨hk, by omega, h.2⟩
      · simp only [Sparse.sortedFrom, Bool.and_eq_true, decide_eq_true_eq]; exact ⟨h.1, ih (by omega) h.2⟩

theorem Sparse.sortedFrom_erase {m : List (Nat × α)} {lo k : Nat} (h : Sparse.sortedFrom lo m = true) :
    Sparse.sortedFrom lo (Sparse.erase m k) = true := by
  induction m generalizing lo with
  | nil => rfl
  | cons e m ih =>
    obtain ⟨a, w⟩ := e
    simp only [Sparse.sortedFrom, Bool.and_eq_true, decide_eq_true_eq] at h
    unfold Sparse.erase
    split
    · exact Sparse.sortedFrom_le (by omega) (ih h.2)
    · simp only [Sparse.sortedFrom, Bool.and_eq_true, decide_eq_true_eq]; exact ⟨h.1, ih h.2⟩

theorem Sparse.sortedFrom_filter {m : List (Nat × α)} {lo : Nat} (p : Nat × α → Bool) (h : Sparse.sortedFrom lo m = true) :
    Sparse.sortedFrom lo (m.filter p) = true := by
  induction m generalizing lo with
  | nil => rfl
  | cons e m ih =>
    obtain ⟨a, w⟩ := e
    simp only [Sparse.sortedFrom, Bool.and_eq_true, decide_eq_true_eq] at h
    rw [List.filter_cons]
    split
    · simp only [Sparse.sortedFrom, Bool.and_eq_true, decide_eq_true_eq]; exact ⟨h.1, ih h.2⟩
    · exact Sparse.sortedFrom_le (by omega) (ih h.2)

theorem Sparse.mem_set {m : List (Nat × α)} {k : Nat} {v : α} {c : Nat × α} (h : c ∈ Sparse.set m k v) :
    c = (k, v) ∨ c ∈ m := by
  induction m with
  | nil => simpa [Sparse.set] using h
  | cons e m ih =>
    obtain ⟨a, w⟩ := e
    unfold Sparse.set at h
    split at h
    · simp at h; rcases h with h | h <;> simp [h]
    · split at h
      · simpa using h
      · simp at h; rcases h with h | h
        · simp [h]
        · rcases ih h with h | h <;> simp [h]

theorem Sparse.mem_erase {m : List (Nat × α)} {k : Nat} {c : Nat × α} (h : c ∈ Sparse.erase m k) : c ∈ m ∧ c.1 ≠ k := by
  induction m with
  | nil => simp [Sparse.erase] at h
  | cons e m ih =>
    obtain ⟨a, w⟩ := e
    unfold Sparse.erase at h
    split at h
    · exact ⟨by simp [(ih h).1], (ih h).2⟩
    · simp at h; rcases h with rfl | h
      · simpa using ‹_›
      · exact ⟨by simp [(ih h).1], (ih h).2⟩

end Sys2Proof.Machine
end

