-- ==== Sys2Proof/Laws/State.lean ====
section
/-! SUPPORT. What each shared operation leaves as it was: for every operation and every field of the state that it does not
write, the field after it is the field before it. -/

set_option Elab.async false

namespace Sys2Proof.Machine

@[simp] theorem State.setWord_now (s : State) (r : Reg) (i j w : Nat) (v : Word) :
    (s.setWord r i j w v).now = s.now := rfl
@[simp] theorem State.setWord_free (s : State) (r : Reg) (i j w : Nat) (v : Word) :
    (s.setWord r i j w v).free = s.free := rfl
@[simp] theorem State.setWord_pending (s : State) (r : Reg) (i j w : Nat) (v : Word) :
    (s.setWord r i j w v).pending = s.pending := rfl
@[simp] theorem State.setWord_mem (s : State) (r : Reg) (i j w : Nat) (v : Word) :
    (s.setWord r i j w v).mem = s.mem := rfl
@[simp] theorem State.setWord_dom (s : State) (r : Reg) (i j w : Nat) (v : Word) :
    (s.setWord r i j w v).dom = s.dom := rfl
@[simp] theorem State.setWord_bus (s : State) (r : Reg) (i j w : Nat) (v : Word) :
    (s.setWord r i j w v).bus = s.bus := rfl
@[simp] theorem State.setWord_ev (s : State) (r : Reg) (i j w : Nat) (v : Word) :
    (s.setWord r i j w v).ev = s.ev := rfl
@[simp] theorem State.setWord_log (s : State) (r : Reg) (i j w : Nat) (v : Word) :
    (s.setWord r i j w v).log = s.log := rfl
@[simp] theorem State.setWord_cfg (s : State) (r : Reg) (i j w : Nat) (v : Word) :
    (s.setWord r i j w v).cfg = s.cfg := rfl
@[simp] theorem State.setWord_links (s : State) (r : Reg) (i j w : Nat) (v : Word) :
    (s.setWord r i j w v).links = s.links := rfl
@[simp] theorem State.setWord_sch (s : State) (r : Reg) (i j w : Nat) (v : Word) :
    (s.setWord r i j w v).sch = s.sch := rfl
@[simp] theorem State.setWord_psw (s : State) (r : Reg) (i j w : Nat) (v : Word) :
    (s.setWord r i j w v).psw = s.psw := rfl
@[simp] theorem State.setWord_vlv (s : State) (r : Reg) (i j w : Nat) (v : Word) :
    (s.setWord r i j w v).vlv = s.vlv := rfl
@[simp] theorem State.setWord_lgt (s : State) (r : Reg) (i j w : Nat) (v : Word) :
    (s.setWord r i j w v).lgt = s.lgt := rfl
@[simp] theorem State.setWord_tim (s : State) (r : Reg) (i j w : Nat) (v : Word) :
    (s.setWord r i j w v).tim = s.tim := rfl
@[simp] theorem State.setWord_eth (s : State) (r : Reg) (i j w : Nat) (v : Word) :
    (s.setWord r i j w v).eth = s.eth := rfl
@[simp] theorem State.setWord_fin (s : State) (r : Reg) (i j w : Nat) (v : Word) :
    (s.setWord r i j w v).fin = s.fin := rfl
@[simp] theorem State.setWord_gwy (s : State) (r : Reg) (i j w : Nat) (v : Word) :
    (s.setWord r i j w v).gwy = s.gwy := rfl
@[simp] theorem State.setWord_can (s : State) (r : Reg) (i j w : Nat) (v : Word) :
    (s.setWord r i j w v).can = s.can := rfl
@[simp] theorem State.setWord_lin (s : State) (r : Reg) (i j w : Nat) (v : Word) :
    (s.setWord r i j w v).lin = s.lin := rfl
@[simp] theorem State.setWord_nwk (s : State) (r : Reg) (i j w : Nat) (v : Word) :
    (s.setWord r i j w v).nwk = s.nwk := rfl
@[simp] theorem State.setWord_acc (s : State) (r : Reg) (i j w : Nat) (v : Word) :
    (s.setWord r i j w v).acc = s.acc := rfl
@[simp] theorem State.setWord_pmu (s : State) (r : Reg) (i j w : Nat) (v : Word) :
    (s.setWord r i j w v).pmu = s.pmu := rfl
@[simp] theorem State.setWord_cpu (s : State) (r : Reg) (i j w : Nat) (v : Word) :
    (s.setWord r i j w v).cpu = s.cpu := rfl
@[simp] theorem State.setWord_boot (s : State) (r : Reg) (i j w : Nat) (v : Word) :
    (s.setWord r i j w v).boot = s.boot := rfl
@[simp] theorem State.setWord_sup (s : State) (r : Reg) (i j w : Nat) (v : Word) :
    (s.setWord r i j w v).sup = s.sup := rfl
@[simp] theorem State.setWord_jtag (s : State) (r : Reg) (i j w : Nat) (v : Word) :
    (s.setWord r i j w v).jtag = s.jtag := rfl
@[simp] theorem State.setWord_integ (s : State) (r : Reg) (i j w : Nat) (v : Word) :
    (s.setWord r i j w v).integ = s.integ := rfl
@[simp] theorem State.setWord_upd (s : State) (r : Reg) (i j w : Nat) (v : Word) :
    (s.setWord r i j w v).upd = s.upd := rfl
@[simp] theorem State.setWord_mtr (s : State) (r : Reg) (i j w : Nat) (v : Word) :
    (s.setWord r i j w v).mtr = s.mtr := rfl
@[simp] theorem State.setWord_fuse (s : State) (r : Reg) (i j w : Nat) (v : Word) :
    (s.setWord r i j w v).fuse = s.fuse := rfl
@[simp] theorem State.setWord_cyc (s : State) (r : Reg) (i j w : Nat) (v : Word) :
    (s.setWord r i j w v).cyc = s.cyc := rfl
@[simp] theorem State.put_now (s : State) (f : Fld) (v i j : Nat) :
    (s.put f v i j).now = s.now := rfl
@[simp] theorem State.put_free (s : State) (f : Fld) (v i j : Nat) :
    (s.put f v i j).free = s.free := rfl
@[simp] theorem State.put_pending (s : State) (f : Fld) (v i j : Nat) :
    (s.put f v i j).pending = s.pending := rfl
@[simp] theorem State.put_mem (s : State) (f : Fld) (v i j : Nat) :
    (s.put f v i j).mem = s.mem := rfl
@[simp] theorem State.put_dom (s : State) (f : Fld) (v i j : Nat) :
    (s.put f v i j).dom = s.dom := rfl
@[simp] theorem State.put_bus (s : State) (f : Fld) (v i j : Nat) :
    (s.put f v i j).bus = s.bus := rfl
@[simp] theorem State.put_ev (s : State) (f : Fld) (v i j : Nat) :
    (s.put f v i j).ev = s.ev := rfl
@[simp] theorem State.put_log (s : State) (f : Fld) (v i j : Nat) :
    (s.put f v i j).log = s.log := rfl
@[simp] theorem State.put_cfg (s : State) (f : Fld) (v i j : Nat) :
    (s.put f v i j).cfg = s.cfg := rfl
@[simp] theorem State.put_links (s : State) (f : Fld) (v i j : Nat) :
    (s.put f v i j).links = s.links := rfl
@[simp] theorem State.put_sch (s : State) (f : Fld) (v i j : Nat) :
    (s.put f v i j).sch = s.sch := rfl
@[simp] theorem State.put_psw (s : State) (f : Fld) (v i j : Nat) :
    (s.put f v i j).psw = s.psw := rfl
@[simp] theorem State.put_vlv (s : State) (f : Fld) (v i j : Nat) :
    (s.put f v i j).vlv = s.vlv := rfl
@[simp] theorem State.put_lgt (s : State) (f : Fld) (v i j : Nat) :
    (s.put f v i j).lgt = s.lgt := rfl
@[simp] theorem State.put_tim (s : State) (f : Fld) (v i j : Nat) :
    (s.put f v i j).tim = s.tim := rfl
@[simp] theorem State.put_eth (s : State) (f : Fld) (v i j : Nat) :
    (s.put f v i j).eth = s.eth := rfl
@[simp] theorem State.put_fin (s : State) (f : Fld) (v i j : Nat) :
    (s.put f v i j).fin = s.fin := rfl
@[simp] theorem State.put_gwy (s : State) (f : Fld) (v i j : Nat) :
    (s.put f v i j).gwy = s.gwy := rfl
@[simp] theorem State.put_can (s : State) (f : Fld) (v i j : Nat) :
    (s.put f v i j).can = s.can := rfl
@[simp] theorem State.put_lin (s : State) (f : Fld) (v i j : Nat) :
    (s.put f v i j).lin = s.lin := rfl
@[simp] theorem State.put_nwk (s : State) (f : Fld) (v i j : Nat) :
    (s.put f v i j).nwk = s.nwk := rfl
@[simp] theorem State.put_acc (s : State) (f : Fld) (v i j : Nat) :
    (s.put f v i j).acc = s.acc := rfl
@[simp] theorem State.put_pmu (s : State) (f : Fld) (v i j : Nat) :
    (s.put f v i j).pmu = s.pmu := rfl
@[simp] theorem State.put_cpu (s : State) (f : Fld) (v i j : Nat) :
    (s.put f v i j).cpu = s.cpu := rfl
@[simp] theorem State.put_boot (s : State) (f : Fld) (v i j : Nat) :
    (s.put f v i j).boot = s.boot := rfl
@[simp] theorem State.put_sup (s : State) (f : Fld) (v i j : Nat) :
    (s.put f v i j).sup = s.sup := rfl
@[simp] theorem State.put_jtag (s : State) (f : Fld) (v i j : Nat) :
    (s.put f v i j).jtag = s.jtag := rfl
@[simp] theorem State.put_integ (s : State) (f : Fld) (v i j : Nat) :
    (s.put f v i j).integ = s.integ := rfl
@[simp] theorem State.put_upd (s : State) (f : Fld) (v i j : Nat) :
    (s.put f v i j).upd = s.upd := rfl
@[simp] theorem State.put_mtr (s : State) (f : Fld) (v i j : Nat) :
    (s.put f v i j).mtr = s.mtr := rfl
@[simp] theorem State.put_fuse (s : State) (f : Fld) (v i j : Nat) :
    (s.put f v i j).fuse = s.fuse := rfl
@[simp] theorem State.put_cyc (s : State) (f : Fld) (v i j : Nat) :
    (s.put f v i j).cyc = s.cyc := rfl
@[simp] theorem State.bumpBy_now (s : State) (f : Fld) (n i j : Nat) :
    (s.bumpBy f n i j).now = s.now := rfl
@[simp] theorem State.bumpBy_free (s : State) (f : Fld) (n i j : Nat) :
    (s.bumpBy f n i j).free = s.free := rfl
@[simp] theorem State.bumpBy_pending (s : State) (f : Fld) (n i j : Nat) :
    (s.bumpBy f n i j).pending = s.pending := rfl
@[simp] theorem State.bumpBy_mem (s : State) (f : Fld) (n i j : Nat) :
    (s.bumpBy f n i j).mem = s.mem := rfl
@[simp] theorem State.bumpBy_dom (s : State) (f : Fld) (n i j : Nat) :
    (s.bumpBy f n i j).dom = s.dom := rfl
@[simp] theorem State.bumpBy_bus (s : State) (f : Fld) (n i j : Nat) :
    (s.bumpBy f n i j).bus = s.bus := rfl
@[simp] theorem State.bumpBy_ev (s : State) (f : Fld) (n i j : Nat) :
    (s.bumpBy f n i j).ev = s.ev := rfl
@[simp] theorem State.bumpBy_log (s : State) (f : Fld) (n i j : Nat) :
    (s.bumpBy f n i j).log = s.log := rfl
@[simp] theorem State.bumpBy_cfg (s : State) (f : Fld) (n i j : Nat) :
    (s.bumpBy f n i j).cfg = s.cfg := rfl
@[simp] theorem State.bumpBy_links (s : State) (f : Fld) (n i j : Nat) :
    (s.bumpBy f n i j).links = s.links := rfl
@[simp] theorem State.bumpBy_sch (s : State) (f : Fld) (n i j : Nat) :
    (s.bumpBy f n i j).sch = s.sch := rfl
@[simp] theorem State.bumpBy_psw (s : State) (f : Fld) (n i j : Nat) :
    (s.bumpBy f n i j).psw = s.psw := rfl
@[simp] theorem State.bumpBy_vlv (s : State) (f : Fld) (n i j : Nat) :
    (s.bumpBy f n i j).vlv = s.vlv := rfl
@[simp] theorem State.bumpBy_lgt (s : State) (f : Fld) (n i j : Nat) :
    (s.bumpBy f n i j).lgt = s.lgt := rfl
@[simp] theorem State.bumpBy_tim (s : State) (f : Fld) (n i j : Nat) :
    (s.bumpBy f n i j).tim = s.tim := rfl
@[simp] theorem State.bumpBy_eth (s : State) (f : Fld) (n i j : Nat) :
    (s.bumpBy f n i j).eth = s.eth := rfl
@[simp] theorem State.bumpBy_fin (s : State) (f : Fld) (n i j : Nat) :
    (s.bumpBy f n i j).fin = s.fin := rfl
@[simp] theorem State.bumpBy_gwy (s : State) (f : Fld) (n i j : Nat) :
    (s.bumpBy f n i j).gwy = s.gwy := rfl
@[simp] theorem State.bumpBy_can (s : State) (f : Fld) (n i j : Nat) :
    (s.bumpBy f n i j).can = s.can := rfl
@[simp] theorem State.bumpBy_lin (s : State) (f : Fld) (n i j : Nat) :
    (s.bumpBy f n i j).lin = s.lin := rfl
@[simp] theorem State.bumpBy_nwk (s : State) (f : Fld) (n i j : Nat) :
    (s.bumpBy f n i j).nwk = s.nwk := rfl
@[simp] theorem State.bumpBy_acc (s : State) (f : Fld) (n i j : Nat) :
    (s.bumpBy f n i j).acc = s.acc := rfl
@[simp] theorem State.bumpBy_pmu (s : State) (f : Fld) (n i j : Nat) :
    (s.bumpBy f n i j).pmu = s.pmu := rfl
@[simp] theorem State.bumpBy_cpu (s : State) (f : Fld) (n i j : Nat) :
    (s.bumpBy f n i j).cpu = s.cpu := rfl
@[simp] theorem State.bumpBy_boot (s : State) (f : Fld) (n i j : Nat) :
    (s.bumpBy f n i j).boot = s.boot := rfl
@[simp] theorem State.bumpBy_sup (s : State) (f : Fld) (n i j : Nat) :
    (s.bumpBy f n i j).sup = s.sup := rfl
@[simp] theorem State.bumpBy_jtag (s : State) (f : Fld) (n i j : Nat) :
    (s.bumpBy f n i j).jtag = s.jtag := rfl
@[simp] theorem State.bumpBy_integ (s : State) (f : Fld) (n i j : Nat) :
    (s.bumpBy f n i j).integ = s.integ := rfl
@[simp] theorem State.bumpBy_upd (s : State) (f : Fld) (n i j : Nat) :
    (s.bumpBy f n i j).upd = s.upd := rfl
@[simp] theorem State.bumpBy_mtr (s : State) (f : Fld) (n i j : Nat) :
    (s.bumpBy f n i j).mtr = s.mtr := rfl
@[simp] theorem State.bumpBy_fuse (s : State) (f : Fld) (n i j : Nat) :
    (s.bumpBy f n i j).fuse = s.fuse := rfl
@[simp] theorem State.bump_now (s : State) (f : Fld) (i j : Nat) :
    (s.bump f i j).now = s.now := rfl
@[simp] theorem State.bump_free (s : State) (f : Fld) (i j : Nat) :
    (s.bump f i j).free = s.free := rfl
@[simp] theorem State.bump_pending (s : State) (f : Fld) (i j : Nat) :
    (s.bump f i j).pending = s.pending := rfl
@[simp] theorem State.bump_mem (s : State) (f : Fld) (i j : Nat) :
    (s.bump f i j).mem = s.mem := rfl
@[simp] theorem State.bump_dom (s : State) (f : Fld) (i j : Nat) :
    (s.bump f i j).dom = s.dom := rfl
@[simp] theorem State.bump_bus (s : State) (f : Fld) (i j : Nat) :
    (s.bump f i j).bus = s.bus := rfl
@[simp] theorem State.bump_ev (s : State) (f : Fld) (i j : Nat) :
    (s.bump f i j).ev = s.ev := rfl
@[simp] theorem State.bump_log (s : State) (f : Fld) (i j : Nat) :
    (s.bump f i j).log = s.log := rfl
@[simp] theorem State.bump_cfg (s : State) (f : Fld) (i j : Nat) :
    (s.bump f i j).cfg = s.cfg := rfl
@[simp] theorem State.bump_links (s : State) (f : Fld) (i j : Nat) :
    (s.bump f i j).links = s.links := rfl
@[simp] theorem State.bump_sch (s : State) (f : Fld) (i j : Nat) :
    (s.bump f i j).sch = s.sch := rfl
@[simp] theorem State.bump_psw (s : State) (f : Fld) (i j : Nat) :
    (s.bump f i j).psw = s.psw := rfl
@[simp] theorem State.bump_vlv (s : State) (f : Fld) (i j : Nat) :
    (s.bump f i j).vlv = s.vlv := rfl
@[simp] theorem State.bump_lgt (s : State) (f : Fld) (i j : Nat) :
    (s.bump f i j).lgt = s.lgt := rfl
@[simp] theorem State.bump_tim (s : State) (f : Fld) (i j : Nat) :
    (s.bump f i j).tim = s.tim := rfl
@[simp] theorem State.bump_eth (s : State) (f : Fld) (i j : Nat) :
    (s.bump f i j).eth = s.eth := rfl
@[simp] theorem State.bump_fin (s : State) (f : Fld) (i j : Nat) :
    (s.bump f i j).fin = s.fin := rfl
@[simp] theorem State.bump_gwy (s : State) (f : Fld) (i j : Nat) :
    (s.bump f i j).gwy = s.gwy := rfl
@[simp] theorem State.bump_can (s : State) (f : Fld) (i j : Nat) :
    (s.bump f i j).can = s.can := rfl
@[simp] theorem State.bump_lin (s : State) (f : Fld) (i j : Nat) :
    (s.bump f i j).lin = s.lin := rfl
@[simp] theorem State.bump_nwk (s : State) (f : Fld) (i j : Nat) :
    (s.bump f i j).nwk = s.nwk := rfl
@[simp] theorem State.bump_acc (s : State) (f : Fld) (i j : Nat) :
    (s.bump f i j).acc = s.acc := rfl
@[simp] theorem State.bump_pmu (s : State) (f : Fld) (i j : Nat) :
    (s.bump f i j).pmu = s.pmu := rfl
@[simp] theorem State.bump_cpu (s : State) (f : Fld) (i j : Nat) :
    (s.bump f i j).cpu = s.cpu := rfl
@[simp] theorem State.bump_boot (s : State) (f : Fld) (i j : Nat) :
    (s.bump f i j).boot = s.boot := rfl
@[simp] theorem State.bump_sup (s : State) (f : Fld) (i j : Nat) :
    (s.bump f i j).sup = s.sup := rfl
@[simp] theorem State.bump_jtag (s : State) (f : Fld) (i j : Nat) :
    (s.bump f i j).jtag = s.jtag := rfl
@[simp] theorem State.bump_integ (s : State) (f : Fld) (i j : Nat) :
    (s.bump f i j).integ = s.integ := rfl
@[simp] theorem State.bump_upd (s : State) (f : Fld) (i j : Nat) :
    (s.bump f i j).upd = s.upd := rfl
@[simp] theorem State.bump_mtr (s : State) (f : Fld) (i j : Nat) :
    (s.bump f i j).mtr = s.mtr := rfl
@[simp] theorem State.bump_fuse (s : State) (f : Fld) (i j : Nat) :
    (s.bump f i j).fuse = s.fuse := rfl
@[simp] theorem State.wrap_now (s : State) (f : Fld) (i j : Nat) :
    (s.wrap f i j).now = s.now := rfl
@[simp] theorem State.wrap_free (s : State) (f : Fld) (i j : Nat) :
    (s.wrap f i j).free = s.free := rfl
@[simp] theorem State.wrap_pending (s : State) (f : Fld) (i j : Nat) :
    (s.wrap f i j).pending = s.pending := rfl
@[simp] theorem State.wrap_mem (s : State) (f : Fld) (i j : Nat) :
    (s.wrap f i j).mem = s.mem := rfl
@[simp] theorem State.wrap_dom (s : State) (f : Fld) (i j : Nat) :
    (s.wrap f i j).dom = s.dom := rfl
@[simp] theorem State.wrap_bus (s : State) (f : Fld) (i j : Nat) :
    (s.wrap f i j).bus = s.bus := rfl
@[simp] theorem State.wrap_ev (s : State) (f : Fld) (i j : Nat) :
    (s.wrap f i j).ev = s.ev := rfl
@[simp] theorem State.wrap_log (s : State) (f : Fld) (i j : Nat) :
    (s.wrap f i j).log = s.log := rfl
@[simp] theorem State.wrap_cfg (s : State) (f : Fld) (i j : Nat) :
    (s.wrap f i j).cfg = s.cfg := rfl
@[simp] theorem State.wrap_links (s : State) (f : Fld) (i j : Nat) :
    (s.wrap f i j).links = s.links := rfl
@[simp] theorem State.wrap_sch (s : State) (f : Fld) (i j : Nat) :
    (s.wrap f i j).sch = s.sch := rfl
@[simp] theorem State.wrap_psw (s : State) (f : Fld) (i j : Nat) :
    (s.wrap f i j).psw = s.psw := rfl
@[simp] theorem State.wrap_vlv (s : State) (f : Fld) (i j : Nat) :
    (s.wrap f i j).vlv = s.vlv := rfl
@[simp] theorem State.wrap_lgt (s : State) (f : Fld) (i j : Nat) :
    (s.wrap f i j).lgt = s.lgt := rfl
@[simp] theorem State.wrap_tim (s : State) (f : Fld) (i j : Nat) :
    (s.wrap f i j).tim = s.tim := rfl
@[simp] theorem State.wrap_eth (s : State) (f : Fld) (i j : Nat) :
    (s.wrap f i j).eth = s.eth := rfl
@[simp] theorem State.wrap_fin (s : State) (f : Fld) (i j : Nat) :
    (s.wrap f i j).fin = s.fin := rfl
@[simp] theorem State.wrap_gwy (s : State) (f : Fld) (i j : Nat) :
    (s.wrap f i j).gwy = s.gwy := rfl
@[simp] theorem State.wrap_can (s : State) (f : Fld) (i j : Nat) :
    (s.wrap f i j).can = s.can := rfl
@[simp] theorem State.wrap_lin (s : State) (f : Fld) (i j : Nat) :
    (s.wrap f i j).lin = s.lin := rfl
@[simp] theorem State.wrap_nwk (s : State) (f : Fld) (i j : Nat) :
    (s.wrap f i j).nwk = s.nwk := rfl
@[simp] theorem State.wrap_acc (s : State) (f : Fld) (i j : Nat) :
    (s.wrap f i j).acc = s.acc := rfl
@[simp] theorem State.wrap_pmu (s : State) (f : Fld) (i j : Nat) :
    (s.wrap f i j).pmu = s.pmu := rfl
@[simp] theorem State.wrap_cpu (s : State) (f : Fld) (i j : Nat) :
    (s.wrap f i j).cpu = s.cpu := rfl
@[simp] theorem State.wrap_boot (s : State) (f : Fld) (i j : Nat) :
    (s.wrap f i j).boot = s.boot := rfl
@[simp] theorem State.wrap_sup (s : State) (f : Fld) (i j : Nat) :
    (s.wrap f i j).sup = s.sup := rfl
@[simp] theorem State.wrap_jtag (s : State) (f : Fld) (i j : Nat) :
    (s.wrap f i j).jtag = s.jtag := rfl
@[simp] theorem State.wrap_integ (s : State) (f : Fld) (i j : Nat) :
    (s.wrap f i j).integ = s.integ := rfl
@[simp] theorem State.wrap_upd (s : State) (f : Fld) (i j : Nat) :
    (s.wrap f i j).upd = s.upd := rfl
@[simp] theorem State.wrap_mtr (s : State) (f : Fld) (i j : Nat) :
    (s.wrap f i j).mtr = s.mtr := rfl
@[simp] theorem State.wrap_fuse (s : State) (f : Fld) (i j : Nat) :
    (s.wrap f i j).fuse = s.fuse := rfl
@[simp] theorem State.wrap_cyc (s : State) (f : Fld) (i j : Nat) :
    (s.wrap f i j).cyc = s.cyc := rfl
@[simp] theorem State.setWordsFrom_now (s : State) (r : Reg) (i j w : Nat) (vs : List Word) :
    (s.setWordsFrom r i j w vs).now = s.now := by
  induction vs generalizing s w with
  | nil => rfl
  | cons v vs ih => rw [State.setWordsFrom, ih, State.setWord_now]
@[simp] theorem State.setWordsFrom_free (s : State) (r : Reg) (i j w : Nat) (vs : List Word) :
    (s.setWordsFrom r i j w vs).free = s.free := by
  induction vs generalizing s w with
  | nil => rfl
  | cons v vs ih => rw [State.setWordsFrom, ih, State.setWord_free]
@[simp] theorem State.setWordsFrom_pending (s : State) (r : Reg) (i j w : Nat) (vs : List Word) :
    (s.setWordsFrom r i j w vs).pending = s.pending := by
  induction vs generalizing s w with
  | nil => rfl
  | cons v vs ih => rw [State.setWordsFrom, ih, State.setWord_pending]
@[simp] theorem State.setWordsFrom_mem (s : State) (r : Reg) (i j w : Nat) (vs : List Word) :
    (s.setWordsFrom r i j w vs).mem = s.mem := by
  induction vs generalizing s w with
  | nil => rfl
  | cons v vs ih => rw [State.setWordsFrom, ih, State.setWord_mem]
@[simp] theorem State.setWordsFrom_dom (s : State) (r : Reg) (i j w : Nat) (vs : List Word) :
    (s.setWordsFrom r i j w vs).dom = s.dom := by
  induction vs generalizing s w with
  | nil => rfl
  | cons v vs ih => rw [State.setWordsFrom, ih, State.setWord_dom]
@[simp] theorem State.setWordsFrom_bus (s : State) (r : Reg) (i j w : Nat) (vs : List Word) :
    (s.setWordsFrom r i j w vs).bus = s.bus := by
  induction vs generalizing s w with
  | nil => rfl
  | cons v vs ih => rw [State.setWordsFrom, ih, State.setWord_bus]
@[simp] theorem State.setWordsFrom_ev (s : State) (r : Reg) (i j w : Nat) (vs : List Word) :
    (s.setWordsFrom r i j w vs).ev = s.ev := by
  induction vs generalizing s w with
  | nil => rfl
  | cons v vs ih => rw [State.setWordsFrom, ih, State.setWord_ev]
@[simp] theorem State.setWordsFrom_log (s : State) (r : Reg) (i j w : Nat) (vs : List Word) :
    (s.setWordsFrom r i j w vs).log = s.log := by
  induction vs generalizing s w with
  | nil => rfl
  | cons v vs ih => rw [State.setWordsFrom, ih, State.setWord_log]
@[simp] theorem State.setWordsFrom_cfg (s : State) (r : Reg) (i j w : Nat) (vs : List Word) :
    (s.setWordsFrom r i j w vs).cfg = s.cfg := by
  induction vs generalizing s w with
  | nil => rfl
  | cons v vs ih => rw [State.setWordsFrom, ih, State.setWord_cfg]
@[simp] theorem State.setWordsFrom_links (s : State) (r : Reg) (i j w : Nat) (vs : List Word) :
    (s.setWordsFrom r i j w vs).links = s.links := by
  induction vs generalizing s w with
  | nil => rfl
  | cons v vs ih => rw [State.setWordsFrom, ih, State.setWord_links]
@[simp] theorem State.setWordsFrom_sch (s : State) (r : Reg) (i j w : Nat) (vs : List Word) :
    (s.setWordsFrom r i j w vs).sch = s.sch := by
  induction vs generalizing s w with
  | nil => rfl
  | cons v vs ih => rw [State.setWordsFrom, ih, State.setWord_sch]
@[simp] theorem State.setWordsFrom_psw (s : State) (r : Reg) (i j w : Nat) (vs : List Word) :
    (s.setWordsFrom r i j w vs).psw = s.psw := by
  induction vs generalizing s w with
  | nil => rfl
  | cons v vs ih => rw [State.setWordsFrom, ih, State.setWord_psw]
@[simp] theorem State.setWordsFrom_vlv (s : State) (r : Reg) (i j w : Nat) (vs : List Word) :
    (s.setWordsFrom r i j w vs).vlv = s.vlv := by
  induction vs generalizing s w with
  | nil => rfl
  | cons v vs ih => rw [State.setWordsFrom, ih, State.setWord_vlv]
@[simp] theorem State.setWordsFrom_lgt (s : State) (r : Reg) (i j w : Nat) (vs : List Word) :
    (s.setWordsFrom r i j w vs).lgt = s.lgt := by
  induction vs generalizing s w with
  | nil => rfl
  | cons v vs ih => rw [State.setWordsFrom, ih, State.setWord_lgt]
@[simp] theorem State.setWordsFrom_tim (s : State) (r : Reg) (i j w : Nat) (vs : List Word) :
    (s.setWordsFrom r i j w vs).tim = s.tim := by
  induction vs generalizing s w with
  | nil => rfl
  | cons v vs ih => rw [State.setWordsFrom, ih, State.setWord_tim]
@[simp] theorem State.setWordsFrom_eth (s : State) (r : Reg) (i j w : Nat) (vs : List Word) :
    (s.setWordsFrom r i j w vs).eth = s.eth := by
  induction vs generalizing s w with
  | nil => rfl
  | cons v vs ih => rw [State.setWordsFrom, ih, State.setWord_eth]
@[simp] theorem State.setWordsFrom_fin (s : State) (r : Reg) (i j w : Nat) (vs : List Word) :
    (s.setWordsFrom r i j w vs).fin = s.fin := by
  induction vs generalizing s w with
  | nil => rfl
  | cons v vs ih => rw [State.setWordsFrom, ih, State.setWord_fin]
@[simp] theorem State.setWordsFrom_gwy (s : State) (r : Reg) (i j w : Nat) (vs : List Word) :
    (s.setWordsFrom r i j w vs).gwy = s.gwy := by
  induction vs generalizing s w with
  | nil => rfl
  | cons v vs ih => rw [State.setWordsFrom, ih, State.setWord_gwy]
@[simp] theorem State.setWordsFrom_can (s : State) (r : Reg) (i j w : Nat) (vs : List Word) :
    (s.setWordsFrom r i j w vs).can = s.can := by
  induction vs generalizing s w with
  | nil => rfl
  | cons v vs ih => rw [State.setWordsFrom, ih, State.setWord_can]
@[simp] theorem State.setWordsFrom_lin (s : State) (r : Reg) (i j w : Nat) (vs : List Word) :
    (s.setWordsFrom r i j w vs).lin = s.lin := by
  induction vs generalizing s w with
  | nil => rfl
  | cons v vs ih => rw [State.setWordsFrom, ih, State.setWord_lin]
@[simp] theorem State.setWordsFrom_nwk (s : State) (r : Reg) (i j w : Nat) (vs : List Word) :
    (s.setWordsFrom r i j w vs).nwk = s.nwk := by
  induction vs generalizing s w with
  | nil => rfl
  | cons v vs ih => rw [State.setWordsFrom, ih, State.setWord_nwk]
@[simp] theorem State.setWordsFrom_acc (s : State) (r : Reg) (i j w : Nat) (vs : List Word) :
    (s.setWordsFrom r i j w vs).acc = s.acc := by
  induction vs generalizing s w with
  | nil => rfl
  | cons v vs ih => rw [State.setWordsFrom, ih, State.setWord_acc]
@[simp] theorem State.setWordsFrom_pmu (s : State) (r : Reg) (i j w : Nat) (vs : List Word) :
    (s.setWordsFrom r i j w vs).pmu = s.pmu := by
  induction vs generalizing s w with
  | nil => rfl
  | cons v vs ih => rw [State.setWordsFrom, ih, State.setWord_pmu]
@[simp] theorem State.setWordsFrom_cpu (s : State) (r : Reg) (i j w : Nat) (vs : List Word) :
    (s.setWordsFrom r i j w vs).cpu = s.cpu := by
  induction vs generalizing s w with
  | nil => rfl
  | cons v vs ih => rw [State.setWordsFrom, ih, State.setWord_cpu]
@[simp] theorem State.setWordsFrom_boot (s : State) (r : Reg) (i j w : Nat) (vs : List Word) :
    (s.setWordsFrom r i j w vs).boot = s.boot := by
  induction vs generalizing s w with
  | nil => rfl
  | cons v vs ih => rw [State.setWordsFrom, ih, State.setWord_boot]
@[simp] theorem State.setWordsFrom_sup (s : State) (r : Reg) (i j w : Nat) (vs : List Word) :
    (s.setWordsFrom r i j w vs).sup = s.sup := by
  induction vs generalizing s w with
  | nil => rfl
  | cons v vs ih => rw [State.setWordsFrom, ih, State.setWord_sup]
@[simp] theorem State.setWordsFrom_jtag (s : State) (r : Reg) (i j w : Nat) (vs : List Word) :
    (s.setWordsFrom r i j w vs).jtag = s.jtag := by
  induction vs generalizing s w with
  | nil => rfl
  | cons v vs ih => rw [State.setWordsFrom, ih, State.setWord_jtag]
@[simp] theorem State.setWordsFrom_integ (s : State) (r : Reg) (i j w : Nat) (vs : List Word) :
    (s.setWordsFrom r i j w vs).integ = s.integ := by
  induction vs generalizing s w with
  | nil => rfl
  | cons v vs ih => rw [State.setWordsFrom, ih, State.setWord_integ]
@[simp] theorem State.setWordsFrom_upd (s : State) (r : Reg) (i j w : Nat) (vs : List Word) :
    (s.setWordsFrom r i j w vs).upd = s.upd := by
  induction vs generalizing s w with
  | nil => rfl
  | cons v vs ih => rw [State.setWordsFrom, ih, State.setWord_upd]
@[simp] theorem State.setWordsFrom_mtr (s : State) (r : Reg) (i j w : Nat) (vs : List Word) :
    (s.setWordsFrom r i j w vs).mtr = s.mtr := by
  induction vs generalizing s w with
  | nil => rfl
  | cons v vs ih => rw [State.setWordsFrom, ih, State.setWord_mtr]
@[simp] theorem State.setWordsFrom_fuse (s : State) (r : Reg) (i j w : Nat) (vs : List Word) :
    (s.setWordsFrom r i j w vs).fuse = s.fuse := by
  induction vs generalizing s w with
  | nil => rfl
  | cons v vs ih => rw [State.setWordsFrom, ih, State.setWord_fuse]
@[simp] theorem State.setWordsFrom_cyc (s : State) (r : Reg) (i j w : Nat) (vs : List Word) :
    (s.setWordsFrom r i j w vs).cyc = s.cyc := by
  induction vs generalizing s w with
  | nil => rfl
  | cons v vs ih => rw [State.setWordsFrom, ih, State.setWord_cyc]
@[simp] theorem State.setWords_now (s : State) (r : Reg) (i j : Nat) (vs : List Word) :
    (s.setWords r i j vs).now = s.now := by unfold State.setWords; rw [State.setWordsFrom_now]
@[simp] theorem State.setWords_free (s : State) (r : Reg) (i j : Nat) (vs : List Word) :
    (s.setWords r i j vs).free = s.free := by unfold State.setWords; rw [State.setWordsFrom_free]
@[simp] theorem State.setWords_pending (s : State) (r : Reg) (i j : Nat) (vs : List Word) :
    (s.setWords r i j vs).pending = s.pending := by unfold State.setWords; rw [State.setWordsFrom_pending]
@[simp] theorem State.setWords_mem (s : State) (r : Reg) (i j : Nat) (vs : List Word) :
    (s.setWords r i j vs).mem = s.mem := by unfold State.setWords; rw [State.setWordsFrom_mem]
@[simp] theorem State.setWords_dom (s : State) (r : Reg) (i j : Nat) (vs : List Word) :
    (s.setWords r i j vs).dom = s.dom := by unfold State.setWords; rw [State.setWordsFrom_dom]
@[simp] theorem State.setWords_bus (s : State) (r : Reg) (i j : Nat) (vs : List Word) :
    (s.setWords r i j vs).bus = s.bus := by unfold State.setWords; rw [State.setWordsFrom_bus]
@[simp] theorem State.setWords_ev (s : State) (r : Reg) (i j : Nat) (vs : List Word) :
    (s.setWords r i j vs).ev = s.ev := by unfold State.setWords; rw [State.setWordsFrom_ev]
@[simp] theorem State.setWords_log (s : State) (r : Reg) (i j : Nat) (vs : List Word) :
    (s.setWords r i j vs).log = s.log := by unfold State.setWords; rw [State.setWordsFrom_log]
@[simp] theorem State.setWords_cfg (s : State) (r : Reg) (i j : Nat) (vs : List Word) :
    (s.setWords r i j vs).cfg = s.cfg := by unfold State.setWords; rw [State.setWordsFrom_cfg]
@[simp] theorem State.setWords_links (s : State) (r : Reg) (i j : Nat) (vs : List Word) :
    (s.setWords r i j vs).links = s.links := by unfold State.setWords; rw [State.setWordsFrom_links]
@[simp] theorem State.setWords_sch (s : State) (r : Reg) (i j : Nat) (vs : List Word) :
    (s.setWords r i j vs).sch = s.sch := by unfold State.setWords; rw [State.setWordsFrom_sch]
@[simp] theorem State.setWords_psw (s : State) (r : Reg) (i j : Nat) (vs : List Word) :
    (s.setWords r i j vs).psw = s.psw := by unfold State.setWords; rw [State.setWordsFrom_psw]
@[simp] theorem State.setWords_vlv (s : State) (r : Reg) (i j : Nat) (vs : List Word) :
    (s.setWords r i j vs).vlv = s.vlv := by unfold State.setWords; rw [State.setWordsFrom_vlv]
@[simp] theorem State.setWords_lgt (s : State) (r : Reg) (i j : Nat) (vs : List Word) :
    (s.setWords r i j vs).lgt = s.lgt := by unfold State.setWords; rw [State.setWordsFrom_lgt]
@[simp] theorem State.setWords_tim (s : State) (r : Reg) (i j : Nat) (vs : List Word) :
    (s.setWords r i j vs).tim = s.tim := by unfold State.setWords; rw [State.setWordsFrom_tim]
@[simp] theorem State.setWords_eth (s : State) (r : Reg) (i j : Nat) (vs : List Word) :
    (s.setWords r i j vs).eth = s.eth := by unfold State.setWords; rw [State.setWordsFrom_eth]
@[simp] theorem State.setWords_fin (s : State) (r : Reg) (i j : Nat) (vs : List Word) :
    (s.setWords r i j vs).fin = s.fin := by unfold State.setWords; rw [State.setWordsFrom_fin]
@[simp] theorem State.setWords_gwy (s : State) (r : Reg) (i j : Nat) (vs : List Word) :
    (s.setWords r i j vs).gwy = s.gwy := by unfold State.setWords; rw [State.setWordsFrom_gwy]
@[simp] theorem State.setWords_can (s : State) (r : Reg) (i j : Nat) (vs : List Word) :
    (s.setWords r i j vs).can = s.can := by unfold State.setWords; rw [State.setWordsFrom_can]
@[simp] theorem State.setWords_lin (s : State) (r : Reg) (i j : Nat) (vs : List Word) :
    (s.setWords r i j vs).lin = s.lin := by unfold State.setWords; rw [State.setWordsFrom_lin]
@[simp] theorem State.setWords_nwk (s : State) (r : Reg) (i j : Nat) (vs : List Word) :
    (s.setWords r i j vs).nwk = s.nwk := by unfold State.setWords; rw [State.setWordsFrom_nwk]
@[simp] theorem State.setWords_acc (s : State) (r : Reg) (i j : Nat) (vs : List Word) :
    (s.setWords r i j vs).acc = s.acc := by unfold State.setWords; rw [State.setWordsFrom_acc]
@[simp] theorem State.setWords_pmu (s : State) (r : Reg) (i j : Nat) (vs : List Word) :
    (s.setWords r i j vs).pmu = s.pmu := by unfold State.setWords; rw [State.setWordsFrom_pmu]
@[simp] theorem State.setWords_cpu (s : State) (r : Reg) (i j : Nat) (vs : List Word) :
    (s.setWords r i j vs).cpu = s.cpu := by unfold State.setWords; rw [State.setWordsFrom_cpu]
@[simp] theorem State.setWords_boot (s : State) (r : Reg) (i j : Nat) (vs : List Word) :
    (s.setWords r i j vs).boot = s.boot := by unfold State.setWords; rw [State.setWordsFrom_boot]
@[simp] theorem State.setWords_sup (s : State) (r : Reg) (i j : Nat) (vs : List Word) :
    (s.setWords r i j vs).sup = s.sup := by unfold State.setWords; rw [State.setWordsFrom_sup]
@[simp] theorem State.setWords_jtag (s : State) (r : Reg) (i j : Nat) (vs : List Word) :
    (s.setWords r i j vs).jtag = s.jtag := by unfold State.setWords; rw [State.setWordsFrom_jtag]
@[simp] theorem State.setWords_integ (s : State) (r : Reg) (i j : Nat) (vs : List Word) :
    (s.setWords r i j vs).integ = s.integ := by unfold State.setWords; rw [State.setWordsFrom_integ]
@[simp] theorem State.setWords_upd (s : State) (r : Reg) (i j : Nat) (vs : List Word) :
    (s.setWords r i j vs).upd = s.upd := by unfold State.setWords; rw [State.setWordsFrom_upd]
@[simp] theorem State.setWords_mtr (s : State) (r : Reg) (i j : Nat) (vs : List Word) :
    (s.setWords r i j vs).mtr = s.mtr := by unfold State.setWords; rw [State.setWordsFrom_mtr]
@[simp] theorem State.setWords_fuse (s : State) (r : Reg) (i j : Nat) (vs : List Word) :
    (s.setWords r i j vs).fuse = s.fuse := by unfold State.setWords; rw [State.setWordsFrom_fuse]
@[simp] theorem State.setWords_cyc (s : State) (r : Reg) (i j : Nat) (vs : List Word) :
    (s.setWords r i j vs).cyc = s.cyc := by unfold State.setWords; rw [State.setWordsFrom_cyc]
@[simp] theorem State.cumBy_now (s : State) (n k : Nat) :
    (s.cumBy n k).now = s.now := rfl
@[simp] theorem State.cumBy_free (s : State) (n k : Nat) :
    (s.cumBy n k).free = s.free := rfl
@[simp] theorem State.cumBy_pending (s : State) (n k : Nat) :
    (s.cumBy n k).pending = s.pending := rfl
@[simp] theorem State.cumBy_mem (s : State) (n k : Nat) :
    (s.cumBy n k).mem = s.mem := rfl
@[simp] theorem State.cumBy_dom (s : State) (n k : Nat) :
    (s.cumBy n k).dom = s.dom := rfl
@[simp] theorem State.cumBy_bus (s : State) (n k : Nat) :
    (s.cumBy n k).bus = s.bus := rfl
@[simp] theorem State.cumBy_ev (s : State) (n k : Nat) :
    (s.cumBy n k).ev = s.ev := rfl
@[simp] theorem State.cumBy_log (s : State) (n k : Nat) :
    (s.cumBy n k).log = s.log := rfl
@[simp] theorem State.cumBy_cfg (s : State) (n k : Nat) :
    (s.cumBy n k).cfg = s.cfg := rfl
@[simp] theorem State.cumBy_links (s : State) (n k : Nat) :
    (s.cumBy n k).links = s.links := rfl
@[simp] theorem State.cumBy_sch (s : State) (n k : Nat) :
    (s.cumBy n k).sch = s.sch := rfl
@[simp] theorem State.cumBy_psw (s : State) (n k : Nat) :
    (s.cumBy n k).psw = s.psw := rfl
@[simp] theorem State.cumBy_vlv (s : State) (n k : Nat) :
    (s.cumBy n k).vlv = s.vlv := rfl
@[simp] theorem State.cumBy_lgt (s : State) (n k : Nat) :
    (s.cumBy n k).lgt = s.lgt := rfl
@[simp] theorem State.cumBy_tim (s : State) (n k : Nat) :
    (s.cumBy n k).tim = s.tim := rfl
@[simp] theorem State.cumBy_eth (s : State) (n k : Nat) :
    (s.cumBy n k).eth = s.eth := rfl
@[simp] theorem State.cumBy_fin (s : State) (n k : Nat) :
    (s.cumBy n k).fin = s.fin := rfl
@[simp] theorem State.cumBy_gwy (s : State) (n k : Nat) :
    (s.cumBy n k).gwy = s.gwy := rfl
@[simp] theorem State.cumBy_can (s : State) (n k : Nat) :
    (s.cumBy n k).can = s.can := rfl
@[simp] theorem State.cumBy_lin (s : State) (n k : Nat) :
    (s.cumBy n k).lin = s.lin := rfl
@[simp] theorem State.cumBy_nwk (s : State) (n k : Nat) :
    (s.cumBy n k).nwk = s.nwk := rfl
@[simp] theorem State.cumBy_acc (s : State) (n k : Nat) :
    (s.cumBy n k).acc = s.acc := rfl
@[simp] theorem State.cumBy_pmu (s : State) (n k : Nat) :
    (s.cumBy n k).pmu = s.pmu := rfl
@[simp] theorem State.cumBy_cpu (s : State) (n k : Nat) :
    (s.cumBy n k).cpu = s.cpu := rfl
@[simp] theorem State.cumBy_boot (s : State) (n k : Nat) :
    (s.cumBy n k).boot = s.boot := rfl
@[simp] theorem State.cumBy_sup (s : State) (n k : Nat) :
    (s.cumBy n k).sup = s.sup := rfl
@[simp] theorem State.cumBy_jtag (s : State) (n k : Nat) :
    (s.cumBy n k).jtag = s.jtag := rfl
@[simp] theorem State.cumBy_integ (s : State) (n k : Nat) :
    (s.cumBy n k).integ = s.integ := rfl
@[simp] theorem State.cumBy_upd (s : State) (n k : Nat) :
    (s.cumBy n k).upd = s.upd := rfl
@[simp] theorem State.cumBy_mtr (s : State) (n k : Nat) :
    (s.cumBy n k).mtr = s.mtr := rfl
@[simp] theorem State.cumBy_fuse (s : State) (n k : Nat) :
    (s.cumBy n k).fuse = s.fuse := rfl
@[simp] theorem State.cum_now (s : State) (n : Nat) :
    (s.cum n).now = s.now := rfl
@[simp] theorem State.cum_free (s : State) (n : Nat) :
    (s.cum n).free = s.free := rfl
@[simp] theorem State.cum_pending (s : State) (n : Nat) :
    (s.cum n).pending = s.pending := rfl
@[simp] theorem State.cum_mem (s : State) (n : Nat) :
    (s.cum n).mem = s.mem := rfl
@[simp] theorem State.cum_dom (s : State) (n : Nat) :
    (s.cum n).dom = s.dom := rfl
@[simp] theorem State.cum_bus (s : State) (n : Nat) :
    (s.cum n).bus = s.bus := rfl
@[simp] theorem State.cum_ev (s : State) (n : Nat) :
    (s.cum n).ev = s.ev := rfl
@[simp] theorem State.cum_log (s : State) (n : Nat) :
    (s.cum n).log = s.log := rfl
@[simp] theorem State.cum_cfg (s : State) (n : Nat) :
    (s.cum n).cfg = s.cfg := rfl
@[simp] theorem State.cum_links (s : State) (n : Nat) :
    (s.cum n).links = s.links := rfl
@[simp] theorem State.cum_sch (s : State) (n : Nat) :
    (s.cum n).sch = s.sch := rfl
@[simp] theorem State.cum_psw (s : State) (n : Nat) :
    (s.cum n).psw = s.psw := rfl
@[simp] theorem State.cum_vlv (s : State) (n : Nat) :
    (s.cum n).vlv = s.vlv := rfl
@[simp] theorem State.cum_lgt (s : State) (n : Nat) :
    (s.cum n).lgt = s.lgt := rfl
@[simp] theorem State.cum_tim (s : State) (n : Nat) :
    (s.cum n).tim = s.tim := rfl
@[simp] theorem State.cum_eth (s : State) (n : Nat) :
    (s.cum n).eth = s.eth := rfl
@[simp] theorem State.cum_fin (s : State) (n : Nat) :
    (s.cum n).fin = s.fin := rfl
@[simp] theorem State.cum_gwy (s : State) (n : Nat) :
    (s.cum n).gwy = s.gwy := rfl
@[simp] theorem State.cum_can (s : State) (n : Nat) :
    (s.cum n).can = s.can := rfl
@[simp] theorem State.cum_lin (s : State) (n : Nat) :
    (s.cum n).lin = s.lin := rfl
@[simp] theorem State.cum_nwk (s : State) (n : Nat) :
    (s.cum n).nwk = s.nwk := rfl
@[simp] theorem State.cum_acc (s : State) (n : Nat) :
    (s.cum n).acc = s.acc := rfl
@[simp] theorem State.cum_pmu (s : State) (n : Nat) :
    (s.cum n).pmu = s.pmu := rfl
@[simp] theorem State.cum_cpu (s : State) (n : Nat) :
    (s.cum n).cpu = s.cpu := rfl
@[simp] theorem State.cum_boot (s : State) (n : Nat) :
    (s.cum n).boot = s.boot := rfl
@[simp] theorem State.cum_sup (s : State) (n : Nat) :
    (s.cum n).sup = s.sup := rfl
@[simp] theorem State.cum_jtag (s : State) (n : Nat) :
    (s.cum n).jtag = s.jtag := rfl
@[simp] theorem State.cum_integ (s : State) (n : Nat) :
    (s.cum n).integ = s.integ := rfl
@[simp] theorem State.cum_upd (s : State) (n : Nat) :
    (s.cum n).upd = s.upd := rfl
@[simp] theorem State.cum_mtr (s : State) (n : Nat) :
    (s.cum n).mtr = s.mtr := rfl
@[simp] theorem State.cum_fuse (s : State) (n : Nat) :
    (s.cum n).fuse = s.fuse := rfl
@[simp] theorem State.accErr_now (s : State) (k : Nat) :
    (s.accErr k).now = s.now := rfl
@[simp] theorem State.accErr_free (s : State) (k : Nat) :
    (s.accErr k).free = s.free := rfl
@[simp] theorem State.accErr_pending (s : State) (k : Nat) :
    (s.accErr k).pending = s.pending := rfl
@[simp] theorem State.accErr_mem (s : State) (k : Nat) :
    (s.accErr k).mem = s.mem := rfl
@[simp] theorem State.accErr_dom (s : State) (k : Nat) :
    (s.accErr k).dom = s.dom := rfl
@[simp] theorem State.accErr_bus (s : State) (k : Nat) :
    (s.accErr k).bus = s.bus := rfl
@[simp] theorem State.accErr_ev (s : State) (k : Nat) :
    (s.accErr k).ev = s.ev := rfl
@[simp] theorem State.accErr_log (s : State) (k : Nat) :
    (s.accErr k).log = s.log := rfl
@[simp] theorem State.accErr_cfg (s : State) (k : Nat) :
    (s.accErr k).cfg = s.cfg := rfl
@[simp] theorem State.accErr_links (s : State) (k : Nat) :
    (s.accErr k).links = s.links := rfl
@[simp] theorem State.accErr_sch (s : State) (k : Nat) :
    (s.accErr k).sch = s.sch := rfl
@[simp] theorem State.accErr_psw (s : State) (k : Nat) :
    (s.accErr k).psw = s.psw := rfl
@[simp] theorem State.accErr_vlv (s : State) (k : Nat) :
    (s.accErr k).vlv = s.vlv := rfl
@[simp] theorem State.accErr_lgt (s : State) (k : Nat) :
    (s.accErr k).lgt = s.lgt := rfl
@[simp] theorem State.accErr_tim (s : State) (k : Nat) :
    (s.accErr k).tim = s.tim := rfl
@[simp] theorem State.accErr_eth (s : State) (k : Nat) :
    (s.accErr k).eth = s.eth := rfl
@[simp] theorem State.accErr_fin (s : State) (k : Nat) :
    (s.accErr k).fin = s.fin := rfl
@[simp] theorem State.accErr_gwy (s : State) (k : Nat) :
    (s.accErr k).gwy = s.gwy := rfl
@[simp] theorem State.accErr_can (s : State) (k : Nat) :
    (s.accErr k).can = s.can := rfl
@[simp] theorem State.accErr_lin (s : State) (k : Nat) :
    (s.accErr k).lin = s.lin := rfl
@[simp] theorem State.accErr_nwk (s : State) (k : Nat) :
    (s.accErr k).nwk = s.nwk := rfl
@[simp] theorem State.accErr_acc (s : State) (k : Nat) :
    (s.accErr k).acc = s.acc := rfl
@[simp] theorem State.accErr_pmu (s : State) (k : Nat) :
    (s.accErr k).pmu = s.pmu := rfl
@[simp] theorem State.accErr_cpu (s : State) (k : Nat) :
    (s.accErr k).cpu = s.cpu := rfl
@[simp] theorem State.accErr_boot (s : State) (k : Nat) :
    (s.accErr k).boot = s.boot := rfl
@[simp] theorem State.accErr_sup (s : State) (k : Nat) :
    (s.accErr k).sup = s.sup := rfl
@[simp] theorem State.accErr_jtag (s : State) (k : Nat) :
    (s.accErr k).jtag = s.jtag := rfl
@[simp] theorem State.accErr_integ (s : State) (k : Nat) :
    (s.accErr k).integ = s.integ := rfl
@[simp] theorem State.accErr_upd (s : State) (k : Nat) :
    (s.accErr k).upd = s.upd := rfl
@[simp] theorem State.accErr_mtr (s : State) (k : Nat) :
    (s.accErr k).mtr = s.mtr := rfl
@[simp] theorem State.accErr_fuse (s : State) (k : Nat) :
    (s.accErr k).fuse = s.fuse := rfl
@[simp] theorem State.snapErr_now (s : State) (k : Nat) :
    (s.snapErr k).now = s.now := rfl
@[simp] theorem State.snapErr_free (s : State) (k : Nat) :
    (s.snapErr k).free = s.free := rfl
@[simp] theorem State.snapErr_pending (s : State) (k : Nat) :
    (s.snapErr k).pending = s.pending := rfl
@[simp] theorem State.snapErr_mem (s : State) (k : Nat) :
    (s.snapErr k).mem = s.mem := rfl
@[simp] theorem State.snapErr_dom (s : State) (k : Nat) :
    (s.snapErr k).dom = s.dom := rfl
@[simp] theorem State.snapErr_bus (s : State) (k : Nat) :
    (s.snapErr k).bus = s.bus := rfl
@[simp] theorem State.snapErr_ev (s : State) (k : Nat) :
    (s.snapErr k).ev = s.ev := rfl
@[simp] theorem State.snapErr_log (s : State) (k : Nat) :
    (s.snapErr k).log = s.log := rfl
@[simp] theorem State.snapErr_cfg (s : State) (k : Nat) :
    (s.snapErr k).cfg = s.cfg := rfl
@[simp] theorem State.snapErr_links (s : State) (k : Nat) :
    (s.snapErr k).links = s.links := rfl
@[simp] theorem State.snapErr_sch (s : State) (k : Nat) :
    (s.snapErr k).sch = s.sch := rfl
@[simp] theorem State.snapErr_psw (s : State) (k : Nat) :
    (s.snapErr k).psw = s.psw := rfl
@[simp] theorem State.snapErr_vlv (s : State) (k : Nat) :
    (s.snapErr k).vlv = s.vlv := rfl
@[simp] theorem State.snapErr_lgt (s : State) (k : Nat) :
    (s.snapErr k).lgt = s.lgt := rfl
@[simp] theorem State.snapErr_tim (s : State) (k : Nat) :
    (s.snapErr k).tim = s.tim := rfl
@[simp] theorem State.snapErr_eth (s : State) (k : Nat) :
    (s.snapErr k).eth = s.eth := rfl
@[simp] theorem State.snapErr_fin (s : State) (k : Nat) :
    (s.snapErr k).fin = s.fin := rfl
@[simp] theorem State.snapErr_gwy (s : State) (k : Nat) :
    (s.snapErr k).gwy = s.gwy := rfl
@[simp] theorem State.snapErr_can (s : State) (k : Nat) :
    (s.snapErr k).can = s.can := rfl
@[simp] theorem State.snapErr_lin (s : State) (k : Nat) :
    (s.snapErr k).lin = s.lin := rfl
@[simp] theorem State.snapErr_nwk (s : State) (k : Nat) :
    (s.snapErr k).nwk = s.nwk := rfl
@[simp] theorem State.snapErr_acc (s : State) (k : Nat) :
    (s.snapErr k).acc = s.acc := rfl
@[simp] theorem State.snapErr_pmu (s : State) (k : Nat) :
    (s.snapErr k).pmu = s.pmu := rfl
@[simp] theorem State.snapErr_cpu (s : State) (k : Nat) :
    (s.snapErr k).cpu = s.cpu := rfl
@[simp] theorem State.snapErr_boot (s : State) (k : Nat) :
    (s.snapErr k).boot = s.boot := rfl
@[simp] theorem State.snapErr_sup (s : State) (k : Nat) :
    (s.snapErr k).sup = s.sup := rfl
@[simp] theorem State.snapErr_jtag (s : State) (k : Nat) :
    (s.snapErr k).jtag = s.jtag := rfl
@[simp] theorem State.snapErr_integ (s : State) (k : Nat) :
    (s.snapErr k).integ = s.integ := rfl
@[simp] theorem State.snapErr_upd (s : State) (k : Nat) :
    (s.snapErr k).upd = s.upd := rfl
@[simp] theorem State.snapErr_mtr (s : State) (k : Nat) :
    (s.snapErr k).mtr = s.mtr := rfl
@[simp] theorem State.snapErr_fuse (s : State) (k : Nat) :
    (s.snapErr k).fuse = s.fuse := rfl
@[simp] theorem State.ownDrop_now (s : State) (init : Init) (r : Reg) (i a : Nat) :
    (s.ownDrop init r i a).now = s.now := by cases init <;> rfl
@[simp] theorem State.ownDrop_free (s : State) (init : Init) (r : Reg) (i a : Nat) :
    (s.ownDrop init r i a).free = s.free := by cases init <;> rfl
@[simp] theorem State.ownDrop_pending (s : State) (init : Init) (r : Reg) (i a : Nat) :
    (s.ownDrop init r i a).pending = s.pending := by cases init <;> rfl
@[simp] theorem State.ownDrop_mem (s : State) (init : Init) (r : Reg) (i a : Nat) :
    (s.ownDrop init r i a).mem = s.mem := by cases init <;> rfl
@[simp] theorem State.ownDrop_dom (s : State) (init : Init) (r : Reg) (i a : Nat) :
    (s.ownDrop init r i a).dom = s.dom := by cases init <;> rfl
@[simp] theorem State.ownDrop_bus (s : State) (init : Init) (r : Reg) (i a : Nat) :
    (s.ownDrop init r i a).bus = s.bus := by cases init <;> rfl
@[simp] theorem State.ownDrop_ev (s : State) (init : Init) (r : Reg) (i a : Nat) :
    (s.ownDrop init r i a).ev = s.ev := by cases init <;> rfl
@[simp] theorem State.ownDrop_log (s : State) (init : Init) (r : Reg) (i a : Nat) :
    (s.ownDrop init r i a).log = s.log := by cases init <;> rfl
@[simp] theorem State.ownDrop_cfg (s : State) (init : Init) (r : Reg) (i a : Nat) :
    (s.ownDrop init r i a).cfg = s.cfg := by cases init <;> rfl
@[simp] theorem State.ownDrop_links (s : State) (init : Init) (r : Reg) (i a : Nat) :
    (s.ownDrop init r i a).links = s.links := by cases init <;> rfl
@[simp] theorem State.ownDrop_sch (s : State) (init : Init) (r : Reg) (i a : Nat) :
    (s.ownDrop init r i a).sch = s.sch := by cases init <;> rfl
@[simp] theorem State.ownDrop_psw (s : State) (init : Init) (r : Reg) (i a : Nat) :
    (s.ownDrop init r i a).psw = s.psw := by cases init <;> rfl
@[simp] theorem State.ownDrop_vlv (s : State) (init : Init) (r : Reg) (i a : Nat) :
    (s.ownDrop init r i a).vlv = s.vlv := by cases init <;> rfl
@[simp] theorem State.ownDrop_lgt (s : State) (init : Init) (r : Reg) (i a : Nat) :
    (s.ownDrop init r i a).lgt = s.lgt := by cases init <;> rfl
@[simp] theorem State.ownDrop_tim (s : State) (init : Init) (r : Reg) (i a : Nat) :
    (s.ownDrop init r i a).tim = s.tim := by cases init <;> rfl
@[simp] theorem State.ownDrop_eth (s : State) (init : Init) (r : Reg) (i a : Nat) :
    (s.ownDrop init r i a).eth = s.eth := by cases init <;> rfl
@[simp] theorem State.ownDrop_fin (s : State) (init : Init) (r : Reg) (i a : Nat) :
    (s.ownDrop init r i a).fin = s.fin := by cases init <;> rfl
@[simp] theorem State.ownDrop_gwy (s : State) (init : Init) (r : Reg) (i a : Nat) :
    (s.ownDrop init r i a).gwy = s.gwy := by cases init <;> rfl
@[simp] theorem State.ownDrop_can (s : State) (init : Init) (r : Reg) (i a : Nat) :
    (s.ownDrop init r i a).can = s.can := by cases init <;> rfl
@[simp] theorem State.ownDrop_lin (s : State) (init : Init) (r : Reg) (i a : Nat) :
    (s.ownDrop init r i a).lin = s.lin := by cases init <;> rfl
@[simp] theorem State.ownDrop_nwk (s : State) (init : Init) (r : Reg) (i a : Nat) :
    (s.ownDrop init r i a).nwk = s.nwk := by cases init <;> rfl
@[simp] theorem State.ownDrop_acc (s : State) (init : Init) (r : Reg) (i a : Nat) :
    (s.ownDrop init r i a).acc = s.acc := by cases init <;> rfl
@[simp] theorem State.ownDrop_pmu (s : State) (init : Init) (r : Reg) (i a : Nat) :
    (s.ownDrop init r i a).pmu = s.pmu := by cases init <;> rfl
@[simp] theorem State.ownDrop_cpu (s : State) (init : Init) (r : Reg) (i a : Nat) :
    (s.ownDrop init r i a).cpu = s.cpu := by cases init <;> rfl
@[simp] theorem State.ownDrop_boot (s : State) (init : Init) (r : Reg) (i a : Nat) :
    (s.ownDrop init r i a).boot = s.boot := by cases init <;> rfl
@[simp] theorem State.ownDrop_sup (s : State) (init : Init) (r : Reg) (i a : Nat) :
    (s.ownDrop init r i a).sup = s.sup := by cases init <;> rfl
@[simp] theorem State.ownDrop_jtag (s : State) (init : Init) (r : Reg) (i a : Nat) :
    (s.ownDrop init r i a).jtag = s.jtag := by cases init <;> rfl
@[simp] theorem State.ownDrop_integ (s : State) (init : Init) (r : Reg) (i a : Nat) :
    (s.ownDrop init r i a).integ = s.integ := by cases init <;> rfl
@[simp] theorem State.ownDrop_upd (s : State) (init : Init) (r : Reg) (i a : Nat) :
    (s.ownDrop init r i a).upd = s.upd := by cases init <;> rfl
@[simp] theorem State.ownDrop_mtr (s : State) (init : Init) (r : Reg) (i a : Nat) :
    (s.ownDrop init r i a).mtr = s.mtr := by cases init <;> rfl
@[simp] theorem State.ownDrop_fuse (s : State) (init : Init) (r : Reg) (i a : Nat) :
    (s.ownDrop init r i a).fuse = s.fuse := by cases init <;> rfl
@[simp] theorem State.wr8_now (s : State) (a : Nat) (v : Byte) :
    (s.wr8 a v).now = s.now := rfl
@[simp] theorem State.wr8_free (s : State) (a : Nat) (v : Byte) :
    (s.wr8 a v).free = s.free := rfl
@[simp] theorem State.wr8_pending (s : State) (a : Nat) (v : Byte) :
    (s.wr8 a v).pending = s.pending := rfl
@[simp] theorem State.wr8_regs (s : State) (a : Nat) (v : Byte) :
    (s.wr8 a v).regs = s.regs := rfl
@[simp] theorem State.wr8_dom (s : State) (a : Nat) (v : Byte) :
    (s.wr8 a v).dom = s.dom := rfl
@[simp] theorem State.wr8_bus (s : State) (a : Nat) (v : Byte) :
    (s.wr8 a v).bus = s.bus := rfl
@[simp] theorem State.wr8_ev (s : State) (a : Nat) (v : Byte) :
    (s.wr8 a v).ev = s.ev := rfl
@[simp] theorem State.wr8_log (s : State) (a : Nat) (v : Byte) :
    (s.wr8 a v).log = s.log := rfl
@[simp] theorem State.wr8_cfg (s : State) (a : Nat) (v : Byte) :
    (s.wr8 a v).cfg = s.cfg := rfl
@[simp] theorem State.wr8_links (s : State) (a : Nat) (v : Byte) :
    (s.wr8 a v).links = s.links := rfl
@[simp] theorem State.wr8_sch (s : State) (a : Nat) (v : Byte) :
    (s.wr8 a v).sch = s.sch := rfl
@[simp] theorem State.wr8_psw (s : State) (a : Nat) (v : Byte) :
    (s.wr8 a v).psw = s.psw := rfl
@[simp] theorem State.wr8_vlv (s : State) (a : Nat) (v : Byte) :
    (s.wr8 a v).vlv = s.vlv := rfl
@[simp] theorem State.wr8_lgt (s : State) (a : Nat) (v : Byte) :
    (s.wr8 a v).lgt = s.lgt := rfl
@[simp] theorem State.wr8_tim (s : State) (a : Nat) (v : Byte) :
    (s.wr8 a v).tim = s.tim := rfl
@[simp] theorem State.wr8_eth (s : State) (a : Nat) (v : Byte) :
    (s.wr8 a v).eth = s.eth := rfl
@[simp] theorem State.wr8_fin (s : State) (a : Nat) (v : Byte) :
    (s.wr8 a v).fin = s.fin := rfl
@[simp] theorem State.wr8_gwy (s : State) (a : Nat) (v : Byte) :
    (s.wr8 a v).gwy = s.gwy := rfl
@[simp] theorem State.wr8_can (s : State) (a : Nat) (v : Byte) :
    (s.wr8 a v).can = s.can := rfl
@[simp] theorem State.wr8_lin (s : State) (a : Nat) (v : Byte) :
    (s.wr8 a v).lin = s.lin := rfl
@[simp] theorem State.wr8_nwk (s : State) (a : Nat) (v : Byte) :
    (s.wr8 a v).nwk = s.nwk := rfl
@[simp] theorem State.wr8_acc (s : State) (a : Nat) (v : Byte) :
    (s.wr8 a v).acc = s.acc := rfl
@[simp] theorem State.wr8_pmu (s : State) (a : Nat) (v : Byte) :
    (s.wr8 a v).pmu = s.pmu := rfl
@[simp] theorem State.wr8_cpu (s : State) (a : Nat) (v : Byte) :
    (s.wr8 a v).cpu = s.cpu := rfl
@[simp] theorem State.wr8_boot (s : State) (a : Nat) (v : Byte) :
    (s.wr8 a v).boot = s.boot := rfl
@[simp] theorem State.wr8_sup (s : State) (a : Nat) (v : Byte) :
    (s.wr8 a v).sup = s.sup := rfl
@[simp] theorem State.wr8_jtag (s : State) (a : Nat) (v : Byte) :
    (s.wr8 a v).jtag = s.jtag := rfl
@[simp] theorem State.wr8_integ (s : State) (a : Nat) (v : Byte) :
    (s.wr8 a v).integ = s.integ := rfl
@[simp] theorem State.wr8_upd (s : State) (a : Nat) (v : Byte) :
    (s.wr8 a v).upd = s.upd := rfl
@[simp] theorem State.wr8_mtr (s : State) (a : Nat) (v : Byte) :
    (s.wr8 a v).mtr = s.mtr := rfl
@[simp] theorem State.wr8_fuse (s : State) (a : Nat) (v : Byte) :
    (s.wr8 a v).fuse = s.fuse := rfl
@[simp] theorem State.wr8_cyc (s : State) (a : Nat) (v : Byte) :
    (s.wr8 a v).cyc = s.cyc := rfl
@[simp] theorem State.wr32_now (s : State) (a : Nat) (v : Word) :
    (s.wr32 a v).now = s.now := by
  unfold State.wr32; rw [State.wr8_now, State.wr8_now, State.wr8_now, State.wr8_now]
@[simp] theorem State.wr32_free (s : State) (a : Nat) (v : Word) :
    (s.wr32 a v).free = s.free := by
  unfold State.wr32; rw [State.wr8_free, State.wr8_free, State.wr8_free, State.wr8_free]
@[simp] theorem State.wr32_pending (s : State) (a : Nat) (v : Word) :
    (s.wr32 a v).pending = s.pending := by
  unfold State.wr32; rw [State.wr8_pending, State.wr8_pending, State.wr8_pending, State.wr8_pending]
@[simp] theorem State.wr32_regs (s : State) (a : Nat) (v : Word) :
    (s.wr32 a v).regs = s.regs := by
  unfold State.wr32; rw [State.wr8_regs, State.wr8_regs, State.wr8_regs, State.wr8_regs]
@[simp] theorem State.wr32_dom (s : State) (a : Nat) (v : Word) :
    (s.wr32 a v).dom = s.dom := by
  unfold State.wr32; rw [State.wr8_dom, State.wr8_dom, State.wr8_dom, State.wr8_dom]
@[simp] theorem State.wr32_bus (s : State) (a : Nat) (v : Word) :
    (s.wr32 a v).bus = s.bus := by
  unfold State.wr32; rw [State.wr8_bus, State.wr8_bus, State.wr8_bus, State.wr8_bus]
@[simp] theorem State.wr32_ev (s : State) (a : Nat) (v : Word) :
    (s.wr32 a v).ev = s.ev := by
  unfold State.wr32; rw [State.wr8_ev, State.wr8_ev, State.wr8_ev, State.wr8_ev]
@[simp] theorem State.wr32_log (s : State) (a : Nat) (v : Word) :
    (s.wr32 a v).log = s.log := by
  unfold State.wr32; rw [State.wr8_log, State.wr8_log, State.wr8_log, State.wr8_log]
@[simp] theorem State.wr32_cfg (s : State) (a : Nat) (v : Word) :
    (s.wr32 a v).cfg = s.cfg := by
  unfold State.wr32; rw [State.wr8_cfg, State.wr8_cfg, State.wr8_cfg, State.wr8_cfg]
@[simp] theorem State.wr32_links (s : State) (a : Nat) (v : Word) :
    (s.wr32 a v).links = s.links := by
  unfold State.wr32; rw [State.wr8_links, State.wr8_links, State.wr8_links, State.wr8_links]
@[simp] theorem State.wr32_sch (s : State) (a : Nat) (v : Word) :
    (s.wr32 a v).sch = s.sch := by
  unfold State.wr32; rw [State.wr8_sch, State.wr8_sch, State.wr8_sch, State.wr8_sch]
@[simp] theorem State.wr32_psw (s : State) (a : Nat) (v : Word) :
    (s.wr32 a v).psw = s.psw := by
  unfold State.wr32; rw [State.wr8_psw, State.wr8_psw, State.wr8_psw, State.wr8_psw]
@[simp] theorem State.wr32_vlv (s : State) (a : Nat) (v : Word) :
    (s.wr32 a v).vlv = s.vlv := by
  unfold State.wr32; rw [State.wr8_vlv, State.wr8_vlv, State.wr8_vlv, State.wr8_vlv]
@[simp] theorem State.wr32_lgt (s : State) (a : Nat) (v : Word) :
    (s.wr32 a v).lgt = s.lgt := by
  unfold State.wr32; rw [State.wr8_lgt, State.wr8_lgt, State.wr8_lgt, State.wr8_lgt]
@[simp] theorem State.wr32_tim (s : State) (a : Nat) (v : Word) :
    (s.wr32 a v).tim = s.tim := by
  unfold State.wr32; rw [State.wr8_tim, State.wr8_tim, State.wr8_tim, State.wr8_tim]
@[simp] theorem State.wr32_eth (s : State) (a : Nat) (v : Word) :
    (s.wr32 a v).eth = s.eth := by
  unfold State.wr32; rw [State.wr8_eth, State.wr8_eth, State.wr8_eth, State.wr8_eth]
@[simp] theorem State.wr32_fin (s : State) (a : Nat) (v : Word) :
    (s.wr32 a v).fin = s.fin := by
  unfold State.wr32; rw [State.wr8_fin, State.wr8_fin, State.wr8_fin, State.wr8_fin]
@[simp] theorem State.wr32_gwy (s : State) (a : Nat) (v : Word) :
    (s.wr32 a v).gwy = s.gwy := by
  unfold State.wr32; rw [State.wr8_gwy, State.wr8_gwy, State.wr8_gwy, State.wr8_gwy]
@[simp] theorem State.wr32_can (s : State) (a : Nat) (v : Word) :
    (s.wr32 a v).can = s.can := by
  unfold State.wr32; rw [State.wr8_can, State.wr8_can, State.wr8_can, State.wr8_can]
@[simp] theorem State.wr32_lin (s : State) (a : Nat) (v : Word) :
    (s.wr32 a v).lin = s.lin := by
  unfold State.wr32; rw [State.wr8_lin, State.wr8_lin, State.wr8_lin, State.wr8_lin]
@[simp] theorem State.wr32_nwk (s : State) (a : Nat) (v : Word) :
    (s.wr32 a v).nwk = s.nwk := by
  unfold State.wr32; rw [State.wr8_nwk, State.wr8_nwk, State.wr8_nwk, State.wr8_nwk]
@[simp] theorem State.wr32_acc (s : State) (a : Nat) (v : Word) :
    (s.wr32 a v).acc = s.acc := by
  unfold State.wr32; rw [State.wr8_acc, State.wr8_acc, State.wr8_acc, State.wr8_acc]
@[simp] theorem State.wr32_pmu (s : State) (a : Nat) (v : Word) :
    (s.wr32 a v).pmu = s.pmu := by
  unfold State.wr32; rw [State.wr8_pmu, State.wr8_pmu, State.wr8_pmu, State.wr8_pmu]
@[simp] theorem State.wr32_cpu (s : State) (a : Nat) (v : Word) :
    (s.wr32 a v).cpu = s.cpu := by
  unfold State.wr32; rw [State.wr8_cpu, State.wr8_cpu, State.wr8_cpu, State.wr8_cpu]
@[simp] theorem State.wr32_boot (s : State) (a : Nat) (v : Word) :
    (s.wr32 a v).boot = s.boot := by
  unfold State.wr32; rw [State.wr8_boot, State.wr8_boot, State.wr8_boot, State.wr8_boot]
@[simp] theorem State.wr32_sup (s : State) (a : Nat) (v : Word) :
    (s.wr32 a v).sup = s.sup := by
  unfold State.wr32; rw [State.wr8_sup, State.wr8_sup, State.wr8_sup, State.wr8_sup]
@[simp] theorem State.wr32_jtag (s : State) (a : Nat) (v : Word) :
    (s.wr32 a v).jtag = s.jtag := by
  unfold State.wr32; rw [State.wr8_jtag, State.wr8_jtag, State.wr8_jtag, State.wr8_jtag]
@[simp] theorem State.wr32_integ (s : State) (a : Nat) (v : Word) :
    (s.wr32 a v).integ = s.integ := by
  unfold State.wr32; rw [State.wr8_integ, State.wr8_integ, State.wr8_integ, State.wr8_integ]
@[simp] theorem State.wr32_upd (s : State) (a : Nat) (v : Word) :
    (s.wr32 a v).upd = s.upd := by
  unfold State.wr32; rw [State.wr8_upd, State.wr8_upd, State.wr8_upd, State.wr8_upd]
@[simp] theorem State.wr32_mtr (s : State) (a : Nat) (v : Word) :
    (s.wr32 a v).mtr = s.mtr := by
  unfold State.wr32; rw [State.wr8_mtr, State.wr8_mtr, State.wr8_mtr, State.wr8_mtr]
@[simp] theorem State.wr32_fuse (s : State) (a : Nat) (v : Word) :
    (s.wr32 a v).fuse = s.fuse := by
  unfold State.wr32; rw [State.wr8_fuse, State.wr8_fuse, State.wr8_fuse, State.wr8_fuse]
@[simp] theorem State.wr32_cyc (s : State) (a : Nat) (v : Word) :
    (s.wr32 a v).cyc = s.cyc := by
  unfold State.wr32; rw [State.wr8_cyc, State.wr8_cyc, State.wr8_cyc, State.wr8_cyc]
@[simp] theorem State.wr16_now (s : State) (a : Nat) (v : BitVec 16) :
    (s.wr16 a v).now = s.now := rfl
@[simp] theorem State.wr16_free (s : State) (a : Nat) (v : BitVec 16) :
    (s.wr16 a v).free = s.free := rfl
@[simp] theorem State.wr16_pending (s : State) (a : Nat) (v : BitVec 16) :
    (s.wr16 a v).pending = s.pending := rfl
@[simp] theorem State.wr16_regs (s : State) (a : Nat) (v : BitVec 16) :
    (s.wr16 a v).regs = s.regs := rfl
@[simp] theorem State.wr16_dom (s : State) (a : Nat) (v : BitVec 16) :
    (s.wr16 a v).dom = s.dom := rfl
@[simp] theorem State.wr16_bus (s : State) (a : Nat) (v : BitVec 16) :
    (s.wr16 a v).bus = s.bus := rfl
@[simp] theorem State.wr16_ev (s : State) (a : Nat) (v : BitVec 16) :
    (s.wr16 a v).ev = s.ev := rfl
@[simp] theorem State.wr16_log (s : State) (a : Nat) (v : BitVec 16) :
    (s.wr16 a v).log = s.log := rfl
@[simp] theorem State.wr16_cfg (s : State) (a : Nat) (v : BitVec 16) :
    (s.wr16 a v).cfg = s.cfg := rfl
@[simp] theorem State.wr16_links (s : State) (a : Nat) (v : BitVec 16) :
    (s.wr16 a v).links = s.links := rfl
@[simp] theorem State.wr16_sch (s : State) (a : Nat) (v : BitVec 16) :
    (s.wr16 a v).sch = s.sch := rfl
@[simp] theorem State.wr16_psw (s : State) (a : Nat) (v : BitVec 16) :
    (s.wr16 a v).psw = s.psw := rfl
@[simp] theorem State.wr16_vlv (s : State) (a : Nat) (v : BitVec 16) :
    (s.wr16 a v).vlv = s.vlv := rfl
@[simp] theorem State.wr16_lgt (s : State) (a : Nat) (v : BitVec 16) :
    (s.wr16 a v).lgt = s.lgt := rfl
@[simp] theorem State.wr16_tim (s : State) (a : Nat) (v : BitVec 16) :
    (s.wr16 a v).tim = s.tim := rfl
@[simp] theorem State.wr16_eth (s : State) (a : Nat) (v : BitVec 16) :
    (s.wr16 a v).eth = s.eth := rfl
@[simp] theorem State.wr16_fin (s : State) (a : Nat) (v : BitVec 16) :
    (s.wr16 a v).fin = s.fin := rfl
@[simp] theorem State.wr16_gwy (s : State) (a : Nat) (v : BitVec 16) :
    (s.wr16 a v).gwy = s.gwy := rfl
@[simp] theorem State.wr16_can (s : State) (a : Nat) (v : BitVec 16) :
    (s.wr16 a v).can = s.can := rfl
@[simp] theorem State.wr16_lin (s : State) (a : Nat) (v : BitVec 16) :
    (s.wr16 a v).lin = s.lin := rfl
@[simp] theorem State.wr16_nwk (s : State) (a : Nat) (v : BitVec 16) :
    (s.wr16 a v).nwk = s.nwk := rfl
@[simp] theorem State.wr16_acc (s : State) (a : Nat) (v : BitVec 16) :
    (s.wr16 a v).acc = s.acc := rfl
@[simp] theorem State.wr16_pmu (s : State) (a : Nat) (v : BitVec 16) :
    (s.wr16 a v).pmu = s.pmu := rfl
@[simp] theorem State.wr16_cpu (s : State) (a : Nat) (v : BitVec 16) :
    (s.wr16 a v).cpu = s.cpu := rfl
@[simp] theorem State.wr16_boot (s : State) (a : Nat) (v : BitVec 16) :
    (s.wr16 a v).boot = s.boot := rfl
@[simp] theorem State.wr16_sup (s : State) (a : Nat) (v : BitVec 16) :
    (s.wr16 a v).sup = s.sup := rfl
@[simp] theorem State.wr16_jtag (s : State) (a : Nat) (v : BitVec 16) :
    (s.wr16 a v).jtag = s.jtag := rfl
@[simp] theorem State.wr16_integ (s : State) (a : Nat) (v : BitVec 16) :
    (s.wr16 a v).integ = s.integ := rfl
@[simp] theorem State.wr16_upd (s : State) (a : Nat) (v : BitVec 16) :
    (s.wr16 a v).upd = s.upd := rfl
@[simp] theorem State.wr16_mtr (s : State) (a : Nat) (v : BitVec 16) :
    (s.wr16 a v).mtr = s.mtr := rfl
@[simp] theorem State.wr16_fuse (s : State) (a : Nat) (v : BitVec 16) :
    (s.wr16 a v).fuse = s.fuse := rfl
@[simp] theorem State.wr16_cyc (s : State) (a : Nat) (v : BitVec 16) :
    (s.wr16 a v).cyc = s.cyc := rfl
@[simp] theorem State.wrBytes_now (s : State) (a : Nat) (bs : List Byte) :
    (s.wrBytes a bs).now = s.now := by
  induction bs generalizing s a with
  | nil => rfl
  | cons b bs ih => rw [State.wrBytes, ih, State.wr8_now]
@[simp] theorem State.wrBytes_free (s : State) (a : Nat) (bs : List Byte) :
    (s.wrBytes a bs).free = s.free := by
  induction bs generalizing s a with
  | nil => rfl
  | cons b bs ih => rw [State.wrBytes, ih, State.wr8_free]
@[simp] theorem State.wrBytes_pending (s : State) (a : Nat) (bs : List Byte) :
    (s.wrBytes a bs).pending = s.pending := by
  induction bs generalizing s a with
  | nil => rfl
  | cons b bs ih => rw [State.wrBytes, ih, State.wr8_pending]
@[simp] theorem State.wrBytes_regs (s : State) (a : Nat) (bs : List Byte) :
    (s.wrBytes a bs).regs = s.regs := by
  induction bs generalizing s a with
  | nil => rfl
  | cons b bs ih => rw [State.wrBytes, ih, State.wr8_regs]
@[simp] theorem State.wrBytes_dom (s : State) (a : Nat) (bs : List Byte) :
    (s.wrBytes a bs).dom = s.dom := by
  induction bs generalizing s a with
  | nil => rfl
  | cons b bs ih => rw [State.wrBytes, ih, State.wr8_dom]
@[simp] theorem State.wrBytes_bus (s : State) (a : Nat) (bs : List Byte) :
    (s.wrBytes a bs).bus = s.bus := by
  induction bs generalizing s a with
  | nil => rfl
  | cons b bs ih => rw [State.wrBytes, ih, State.wr8_bus]
@[simp] theorem State.wrBytes_ev (s : State) (a : Nat) (bs : List Byte) :
    (s.wrBytes a bs).ev = s.ev := by
  induction bs generalizing s a with
  | nil => rfl
  | cons b bs ih => rw [State.wrBytes, ih, State.wr8_ev]
@[simp] theorem State.wrBytes_log (s : State) (a : Nat) (bs : List Byte) :
    (s.wrBytes a bs).log = s.log := by
  induction bs generalizing s a with
  | nil => rfl
  | cons b bs ih => rw [State.wrBytes, ih, State.wr8_log]
@[simp] theorem State.wrBytes_cfg (s : State) (a : Nat) (bs : List Byte) :
    (s.wrBytes a bs).cfg = s.cfg := by
  induction bs generalizing s a with
  | nil => rfl
  | cons b bs ih => rw [State.wrBytes, ih, State.wr8_cfg]
@[simp] theorem State.wrBytes_links (s : State) (a : Nat) (bs : List Byte) :
    (s.wrBytes a bs).links = s.links := by
  induction bs generalizing s a with
  | nil => rfl
  | cons b bs ih => rw [State.wrBytes, ih, State.wr8_links]
@[simp] theorem State.wrBytes_sch (s : State) (a : Nat) (bs : List Byte) :
    (s.wrBytes a bs).sch = s.sch := by
  induction bs generalizing s a with
  | nil => rfl
  | cons b bs ih => rw [State.wrBytes, ih, State.wr8_sch]
@[simp] theorem State.wrBytes_psw (s : State) (a : Nat) (bs : List Byte) :
    (s.wrBytes a bs).psw = s.psw := by
  induction bs generalizing s a with
  | nil => rfl
  | cons b bs ih => rw [State.wrBytes, ih, State.wr8_psw]
@[simp] theorem State.wrBytes_vlv (s : State) (a : Nat) (bs : List Byte) :
    (s.wrBytes a bs).vlv = s.vlv := by
  induction bs generalizing s a with
  | nil => rfl
  | cons b bs ih => rw [State.wrBytes, ih, State.wr8_vlv]
@[simp] theorem State.wrBytes_lgt (s : State) (a : Nat) (bs : List Byte) :
    (s.wrBytes a bs).lgt = s.lgt := by
  induction bs generalizing s a with
  | nil => rfl
  | cons b bs ih => rw [State.wrBytes, ih, State.wr8_lgt]
@[simp] theorem State.wrBytes_tim (s : State) (a : Nat) (bs : List Byte) :
    (s.wrBytes a bs).tim = s.tim := by
  induction bs generalizing s a with
  | nil => rfl
  | cons b bs ih => rw [State.wrBytes, ih, State.wr8_tim]
@[simp] theorem State.wrBytes_eth (s : State) (a : Nat) (bs : List Byte) :
    (s.wrBytes a bs).eth = s.eth := by
  induction bs generalizing s a with
  | nil => rfl
  | cons b bs ih => rw [State.wrBytes, ih, State.wr8_eth]
@[simp] theorem State.wrBytes_fin (s : State) (a : Nat) (bs : List Byte) :
    (s.wrBytes a bs).fin = s.fin := by
  induction bs generalizing s a with
  | nil => rfl
  | cons b bs ih => rw [State.wrBytes, ih, State.wr8_fin]
@[simp] theorem State.wrBytes_gwy (s : State) (a : Nat) (bs : List Byte) :
    (s.wrBytes a bs).gwy = s.gwy := by
  induction bs generalizing s a with
  | nil => rfl
  | cons b bs ih => rw [State.wrBytes, ih, State.wr8_gwy]
@[simp] theorem State.wrBytes_can (s : State) (a : Nat) (bs : List Byte) :
    (s.wrBytes a bs).can = s.can := by
  induction bs generalizing s a with
  | nil => rfl
  | cons b bs ih => rw [State.wrBytes, ih, State.wr8_can]
@[simp] theorem State.wrBytes_lin (s : State) (a : Nat) (bs : List Byte) :
    (s.wrBytes a bs).lin = s.lin := by
  induction bs generalizing s a with
  | nil => rfl
  | cons b bs ih => rw [State.wrBytes, ih, State.wr8_lin]
@[simp] theorem State.wrBytes_nwk (s : State) (a : Nat) (bs : List Byte) :
    (s.wrBytes a bs).nwk = s.nwk := by
  induction bs generalizing s a with
  | nil => rfl
  | cons b bs ih => rw [State.wrBytes, ih, State.wr8_nwk]
@[simp] theorem State.wrBytes_acc (s : State) (a : Nat) (bs : List Byte) :
    (s.wrBytes a bs).acc = s.acc := by
  induction bs generalizing s a with
  | nil => rfl
  | cons b bs ih => rw [State.wrBytes, ih, State.wr8_acc]
@[simp] theorem State.wrBytes_pmu (s : State) (a : Nat) (bs : List Byte) :
    (s.wrBytes a bs).pmu = s.pmu := by
  induction bs generalizing s a with
  | nil => rfl
  | cons b bs ih => rw [State.wrBytes, ih, State.wr8_pmu]
@[simp] theorem State.wrBytes_cpu (s : State) (a : Nat) (bs : List Byte) :
    (s.wrBytes a bs).cpu = s.cpu := by
  induction bs generalizing s a with
  | nil => rfl
  | cons b bs ih => rw [State.wrBytes, ih, State.wr8_cpu]
@[simp] theorem State.wrBytes_boot (s : State) (a : Nat) (bs : List Byte) :
    (s.wrBytes a bs).boot = s.boot := by
  induction bs generalizing s a with
  | nil => rfl
  | cons b bs ih => rw [State.wrBytes, ih, State.wr8_boot]
@[simp] theorem State.wrBytes_sup (s : State) (a : Nat) (bs : List Byte) :
    (s.wrBytes a bs).sup = s.sup := by
  induction bs generalizing s a with
  | nil => rfl
  | cons b bs ih => rw [State.wrBytes, ih, State.wr8_sup]
@[simp] theorem State.wrBytes_jtag (s : State) (a : Nat) (bs : List Byte) :
    (s.wrBytes a bs).jtag = s.jtag := by
  induction bs generalizing s a with
  | nil => rfl
  | cons b bs ih => rw [State.wrBytes, ih, State.wr8_jtag]
@[simp] theorem State.wrBytes_integ (s : State) (a : Nat) (bs : List Byte) :
    (s.wrBytes a bs).integ = s.integ := by
  induction bs generalizing s a with
  | nil => rfl
  | cons b bs ih => rw [State.wrBytes, ih, State.wr8_integ]
@[simp] theorem State.wrBytes_upd (s : State) (a : Nat) (bs : List Byte) :
    (s.wrBytes a bs).upd = s.upd := by
  induction bs generalizing s a with
  | nil => rfl
  | cons b bs ih => rw [State.wrBytes, ih, State.wr8_upd]
@[simp] theorem State.wrBytes_mtr (s : State) (a : Nat) (bs : List Byte) :
    (s.wrBytes a bs).mtr = s.mtr := by
  induction bs generalizing s a with
  | nil => rfl
  | cons b bs ih => rw [State.wrBytes, ih, State.wr8_mtr]
@[simp] theorem State.wrBytes_fuse (s : State) (a : Nat) (bs : List Byte) :
    (s.wrBytes a bs).fuse = s.fuse := by
  induction bs generalizing s a with
  | nil => rfl
  | cons b bs ih => rw [State.wrBytes, ih, State.wr8_fuse]
@[simp] theorem State.wrBytes_cyc (s : State) (a : Nat) (bs : List Byte) :
    (s.wrBytes a bs).cyc = s.cyc := by
  induction bs generalizing s a with
  | nil => rfl
  | cons b bs ih => rw [State.wrBytes, ih, State.wr8_cyc]
@[simp] theorem State.wrWords_now (s : State) (a : Nat) (ws : List Word) :
    (s.wrWords a ws).now = s.now := by
  induction ws generalizing s a with
  | nil => rfl
  | cons w ws ih => rw [State.wrWords]; exact (ih _ _).trans (State.wr32_now _ _ _)
@[simp] theorem State.wrWords_free (s : State) (a : Nat) (ws : List Word) :
    (s.wrWords a ws).free = s.free := by
  induction ws generalizing s a with
  | nil => rfl
  | cons w ws ih => rw [State.wrWords]; exact (ih _ _).trans (State.wr32_free _ _ _)
@[simp] theorem State.wrWords_pending (s : State) (a : Nat) (ws : List Word) :
    (s.wrWords a ws).pending = s.pending := by
  induction ws generalizing s a with
  | nil => rfl
  | cons w ws ih => rw [State.wrWords]; exact (ih _ _).trans (State.wr32_pending _ _ _)
@[simp] theorem State.wrWords_regs (s : State) (a : Nat) (ws : List Word) :
    (s.wrWords a ws).regs = s.regs := by
  induction ws generalizing s a with
  | nil => rfl
  | cons w ws ih => rw [State.wrWords]; exact (ih _ _).trans (State.wr32_regs _ _ _)
@[simp] theorem State.wrWords_dom (s : State) (a : Nat) (ws : List Word) :
    (s.wrWords a ws).dom = s.dom := by
  induction ws generalizing s a with
  | nil => rfl
  | cons w ws ih => rw [State.wrWords]; exact (ih _ _).trans (State.wr32_dom _ _ _)
@[simp] theorem State.wrWords_bus (s : State) (a : Nat) (ws : List Word) :
    (s.wrWords a ws).bus = s.bus := by
  induction ws generalizing s a with
  | nil => rfl
  | cons w ws ih => rw [State.wrWords]; exact (ih _ _).trans (State.wr32_bus _ _ _)
@[simp] theorem State.wrWords_ev (s : State) (a : Nat) (ws : List Word) :
    (s.wrWords a ws).ev = s.ev := by
  induction ws generalizing s a with
  | nil => rfl
  | cons w ws ih => rw [State.wrWords]; exact (ih _ _).trans (State.wr32_ev _ _ _)
@[simp] theorem State.wrWords_log (s : State) (a : Nat) (ws : List Word) :
    (s.wrWords a ws).log = s.log := by
  induction ws generalizing s a with
  | nil => rfl
  | cons w ws ih => rw [State.wrWords]; exact (ih _ _).trans (State.wr32_log _ _ _)
@[simp] theorem State.wrWords_cfg (s : State) (a : Nat) (ws : List Word) :
    (s.wrWords a ws).cfg = s.cfg := by
  induction ws generalizing s a with
  | nil => rfl
  | cons w ws ih => rw [State.wrWords]; exact (ih _ _).trans (State.wr32_cfg _ _ _)
@[simp] theorem State.wrWords_links (s : State) (a : Nat) (ws : List Word) :
    (s.wrWords a ws).links = s.links := by
  induction ws generalizing s a with
  | nil => rfl
  | cons w ws ih => rw [State.wrWords]; exact (ih _ _).trans (State.wr32_links _ _ _)
@[simp] theorem State.wrWords_sch (s : State) (a : Nat) (ws : List Word) :
    (s.wrWords a ws).sch = s.sch := by
  induction ws generalizing s a with
  | nil => rfl
  | cons w ws ih => rw [State.wrWords]; exact (ih _ _).trans (State.wr32_sch _ _ _)
@[simp] theorem State.wrWords_psw (s : State) (a : Nat) (ws : List Word) :
    (s.wrWords a ws).psw = s.psw := by
  induction ws generalizing s a with
  | nil => rfl
  | cons w ws ih => rw [State.wrWords]; exact (ih _ _).trans (State.wr32_psw _ _ _)
@[simp] theorem State.wrWords_vlv (s : State) (a : Nat) (ws : List Word) :
    (s.wrWords a ws).vlv = s.vlv := by
  induction ws generalizing s a with
  | nil => rfl
  | cons w ws ih => rw [State.wrWords]; exact (ih _ _).trans (State.wr32_vlv _ _ _)
@[simp] theorem State.wrWords_lgt (s : State) (a : Nat) (ws : List Word) :
    (s.wrWords a ws).lgt = s.lgt := by
  induction ws generalizing s a with
  | nil => rfl
  | cons w ws ih => rw [State.wrWords]; exact (ih _ _).trans (State.wr32_lgt _ _ _)
@[simp] theorem State.wrWords_tim (s : State) (a : Nat) (ws : List Word) :
    (s.wrWords a ws).tim = s.tim := by
  induction ws generalizing s a with
  | nil => rfl
  | cons w ws ih => rw [State.wrWords]; exact (ih _ _).trans (State.wr32_tim _ _ _)
@[simp] theorem State.wrWords_eth (s : State) (a : Nat) (ws : List Word) :
    (s.wrWords a ws).eth = s.eth := by
  induction ws generalizing s a with
  | nil => rfl
  | cons w ws ih => rw [State.wrWords]; exact (ih _ _).trans (State.wr32_eth _ _ _)
@[simp] theorem State.wrWords_fin (s : State) (a : Nat) (ws : List Word) :
    (s.wrWords a ws).fin = s.fin := by
  induction ws generalizing s a with
  | nil => rfl
  | cons w ws ih => rw [State.wrWords]; exact (ih _ _).trans (State.wr32_fin _ _ _)
@[simp] theorem State.wrWords_gwy (s : State) (a : Nat) (ws : List Word) :
    (s.wrWords a ws).gwy = s.gwy := by
  induction ws generalizing s a with
  | nil => rfl
  | cons w ws ih => rw [State.wrWords]; exact (ih _ _).trans (State.wr32_gwy _ _ _)
@[simp] theorem State.wrWords_can (s : State) (a : Nat) (ws : List Word) :
    (s.wrWords a ws).can = s.can := by
  induction ws generalizing s a with
  | nil => rfl
  | cons w ws ih => rw [State.wrWords]; exact (ih _ _).trans (State.wr32_can _ _ _)
@[simp] theorem State.wrWords_lin (s : State) (a : Nat) (ws : List Word) :
    (s.wrWords a ws).lin = s.lin := by
  induction ws generalizing s a with
  | nil => rfl
  | cons w ws ih => rw [State.wrWords]; exact (ih _ _).trans (State.wr32_lin _ _ _)
@[simp] theorem State.wrWords_nwk (s : State) (a : Nat) (ws : List Word) :
    (s.wrWords a ws).nwk = s.nwk := by
  induction ws generalizing s a with
  | nil => rfl
  | cons w ws ih => rw [State.wrWords]; exact (ih _ _).trans (State.wr32_nwk _ _ _)
@[simp] theorem State.wrWords_acc (s : State) (a : Nat) (ws : List Word) :
    (s.wrWords a ws).acc = s.acc := by
  induction ws generalizing s a with
  | nil => rfl
  | cons w ws ih => rw [State.wrWords]; exact (ih _ _).trans (State.wr32_acc _ _ _)
@[simp] theorem State.wrWords_pmu (s : State) (a : Nat) (ws : List Word) :
    (s.wrWords a ws).pmu = s.pmu := by
  induction ws generalizing s a with
  | nil => rfl
  | cons w ws ih => rw [State.wrWords]; exact (ih _ _).trans (State.wr32_pmu _ _ _)
@[simp] theorem State.wrWords_cpu (s : State) (a : Nat) (ws : List Word) :
    (s.wrWords a ws).cpu = s.cpu := by
  induction ws generalizing s a with
  | nil => rfl
  | cons w ws ih => rw [State.wrWords]; exact (ih _ _).trans (State.wr32_cpu _ _ _)
@[simp] theorem State.wrWords_boot (s : State) (a : Nat) (ws : List Word) :
    (s.wrWords a ws).boot = s.boot := by
  induction ws generalizing s a with
  | nil => rfl
  | cons w ws ih => rw [State.wrWords]; exact (ih _ _).trans (State.wr32_boot _ _ _)
@[simp] theorem State.wrWords_sup (s : State) (a : Nat) (ws : List Word) :
    (s.wrWords a ws).sup = s.sup := by
  induction ws generalizing s a with
  | nil => rfl
  | cons w ws ih => rw [State.wrWords]; exact (ih _ _).trans (State.wr32_sup _ _ _)
@[simp] theorem State.wrWords_jtag (s : State) (a : Nat) (ws : List Word) :
    (s.wrWords a ws).jtag = s.jtag := by
  induction ws generalizing s a with
  | nil => rfl
  | cons w ws ih => rw [State.wrWords]; exact (ih _ _).trans (State.wr32_jtag _ _ _)
@[simp] theorem State.wrWords_integ (s : State) (a : Nat) (ws : List Word) :
    (s.wrWords a ws).integ = s.integ := by
  induction ws generalizing s a with
  | nil => rfl
  | cons w ws ih => rw [State.wrWords]; exact (ih _ _).trans (State.wr32_integ _ _ _)
@[simp] theorem State.wrWords_upd (s : State) (a : Nat) (ws : List Word) :
    (s.wrWords a ws).upd = s.upd := by
  induction ws generalizing s a with
  | nil => rfl
  | cons w ws ih => rw [State.wrWords]; exact (ih _ _).trans (State.wr32_upd _ _ _)
@[simp] theorem State.wrWords_mtr (s : State) (a : Nat) (ws : List Word) :
    (s.wrWords a ws).mtr = s.mtr := by
  induction ws generalizing s a with
  | nil => rfl
  | cons w ws ih => rw [State.wrWords]; exact (ih _ _).trans (State.wr32_mtr _ _ _)
@[simp] theorem State.wrWords_fuse (s : State) (a : Nat) (ws : List Word) :
    (s.wrWords a ws).fuse = s.fuse := by
  induction ws generalizing s a with
  | nil => rfl
  | cons w ws ih => rw [State.wrWords]; exact (ih _ _).trans (State.wr32_fuse _ _ _)
@[simp] theorem State.wrWords_cyc (s : State) (a : Nat) (ws : List Word) :
    (s.wrWords a ws).cyc = s.cyc := by
  induction ws generalizing s a with
  | nil => rfl
  | cons w ws ih => rw [State.wrWords]; exact (ih _ _).trans (State.wr32_cyc _ _ _)
@[simp] theorem State.tookFresh_now (s : State) :
    (s.tookFresh).now = s.now := rfl
@[simp] theorem State.tookFresh_pending (s : State) :
    (s.tookFresh).pending = s.pending := rfl
@[simp] theorem State.tookFresh_regs (s : State) :
    (s.tookFresh).regs = s.regs := rfl
@[simp] theorem State.tookFresh_mem (s : State) :
    (s.tookFresh).mem = s.mem := rfl
@[simp] theorem State.tookFresh_dom (s : State) :
    (s.tookFresh).dom = s.dom := rfl
@[simp] theorem State.tookFresh_bus (s : State) :
    (s.tookFresh).bus = s.bus := rfl
@[simp] theorem State.tookFresh_ev (s : State) :
    (s.tookFresh).ev = s.ev := rfl
@[simp] theorem State.tookFresh_log (s : State) :
    (s.tookFresh).log = s.log := rfl
@[simp] theorem State.tookFresh_cfg (s : State) :
    (s.tookFresh).cfg = s.cfg := rfl
@[simp] theorem State.tookFresh_links (s : State) :
    (s.tookFresh).links = s.links := rfl
@[simp] theorem State.tookFresh_sch (s : State) :
    (s.tookFresh).sch = s.sch := rfl
@[simp] theorem State.tookFresh_psw (s : State) :
    (s.tookFresh).psw = s.psw := rfl
@[simp] theorem State.tookFresh_vlv (s : State) :
    (s.tookFresh).vlv = s.vlv := rfl
@[simp] theorem State.tookFresh_lgt (s : State) :
    (s.tookFresh).lgt = s.lgt := rfl
@[simp] theorem State.tookFresh_tim (s : State) :
    (s.tookFresh).tim = s.tim := rfl
@[simp] theorem State.tookFresh_eth (s : State) :
    (s.tookFresh).eth = s.eth := rfl
@[simp] theorem State.tookFresh_fin (s : State) :
    (s.tookFresh).fin = s.fin := rfl
@[simp] theorem State.tookFresh_gwy (s : State) :
    (s.tookFresh).gwy = s.gwy := rfl
@[simp] theorem State.tookFresh_can (s : State) :
    (s.tookFresh).can = s.can := rfl
@[simp] theorem State.tookFresh_lin (s : State) :
    (s.tookFresh).lin = s.lin := rfl
@[simp] theorem State.tookFresh_nwk (s : State) :
    (s.tookFresh).nwk = s.nwk := rfl
@[simp] theorem State.tookFresh_acc (s : State) :
    (s.tookFresh).acc = s.acc := rfl
@[simp] theorem State.tookFresh_pmu (s : State) :
    (s.tookFresh).pmu = s.pmu := rfl
@[simp] theorem State.tookFresh_cpu (s : State) :
    (s.tookFresh).cpu = s.cpu := rfl
@[simp] theorem State.tookFresh_boot (s : State) :
    (s.tookFresh).boot = s.boot := rfl
@[simp] theorem State.tookFresh_sup (s : State) :
    (s.tookFresh).sup = s.sup := rfl
@[simp] theorem State.tookFresh_jtag (s : State) :
    (s.tookFresh).jtag = s.jtag := rfl
@[simp] theorem State.tookFresh_integ (s : State) :
    (s.tookFresh).integ = s.integ := rfl
@[simp] theorem State.tookFresh_upd (s : State) :
    (s.tookFresh).upd = s.upd := rfl
@[simp] theorem State.tookFresh_mtr (s : State) :
    (s.tookFresh).mtr = s.mtr := rfl
@[simp] theorem State.tookFresh_fuse (s : State) :
    (s.tookFresh).fuse = s.fuse := rfl
@[simp] theorem State.tookFresh_cyc (s : State) :
    (s.tookFresh).cyc = s.cyc := rfl
@[simp] theorem State.setQueue_now (s : State) (n : Nat) (q : EvQueue) :
    (s.setQueue n q).now = s.now := rfl
@[simp] theorem State.setQueue_free (s : State) (n : Nat) (q : EvQueue) :
    (s.setQueue n q).free = s.free := rfl
@[simp] theorem State.setQueue_pending (s : State) (n : Nat) (q : EvQueue) :
    (s.setQueue n q).pending = s.pending := rfl
@[simp] theorem State.setQueue_regs (s : State) (n : Nat) (q : EvQueue) :
    (s.setQueue n q).regs = s.regs := rfl
@[simp] theorem State.setQueue_mem (s : State) (n : Nat) (q : EvQueue) :
    (s.setQueue n q).mem = s.mem := rfl
@[simp] theorem State.setQueue_dom (s : State) (n : Nat) (q : EvQueue) :
    (s.setQueue n q).dom = s.dom := rfl
@[simp] theorem State.setQueue_bus (s : State) (n : Nat) (q : EvQueue) :
    (s.setQueue n q).bus = s.bus := rfl
@[simp] theorem State.setQueue_log (s : State) (n : Nat) (q : EvQueue) :
    (s.setQueue n q).log = s.log := rfl
@[simp] theorem State.setQueue_cfg (s : State) (n : Nat) (q : EvQueue) :
    (s.setQueue n q).cfg = s.cfg := rfl
@[simp] theorem State.setQueue_links (s : State) (n : Nat) (q : EvQueue) :
    (s.setQueue n q).links = s.links := rfl
@[simp] theorem State.setQueue_sch (s : State) (n : Nat) (q : EvQueue) :
    (s.setQueue n q).sch = s.sch := rfl
@[simp] theorem State.setQueue_psw (s : State) (n : Nat) (q : EvQueue) :
    (s.setQueue n q).psw = s.psw := rfl
@[simp] theorem State.setQueue_vlv (s : State) (n : Nat) (q : EvQueue) :
    (s.setQueue n q).vlv = s.vlv := rfl
@[simp] theorem State.setQueue_lgt (s : State) (n : Nat) (q : EvQueue) :
    (s.setQueue n q).lgt = s.lgt := rfl
@[simp] theorem State.setQueue_tim (s : State) (n : Nat) (q : EvQueue) :
    (s.setQueue n q).tim = s.tim := rfl
@[simp] theorem State.setQueue_eth (s : State) (n : Nat) (q : EvQueue) :
    (s.setQueue n q).eth = s.eth := rfl
@[simp] theorem State.setQueue_fin (s : State) (n : Nat) (q : EvQueue) :
    (s.setQueue n q).fin = s.fin := rfl
@[simp] theorem State.setQueue_gwy (s : State) (n : Nat) (q : EvQueue) :
    (s.setQueue n q).gwy = s.gwy := rfl
@[simp] theorem State.setQueue_can (s : State) (n : Nat) (q : EvQueue) :
    (s.setQueue n q).can = s.can := rfl
@[simp] theorem State.setQueue_lin (s : State) (n : Nat) (q : EvQueue) :
    (s.setQueue n q).lin = s.lin := rfl
@[simp] theorem State.setQueue_nwk (s : State) (n : Nat) (q : EvQueue) :
    (s.setQueue n q).nwk = s.nwk := rfl
@[simp] theorem State.setQueue_acc (s : State) (n : Nat) (q : EvQueue) :
    (s.setQueue n q).acc = s.acc := rfl
@[simp] theorem State.setQueue_pmu (s : State) (n : Nat) (q : EvQueue) :
    (s.setQueue n q).pmu = s.pmu := rfl
@[simp] theorem State.setQueue_cpu (s : State) (n : Nat) (q : EvQueue) :
    (s.setQueue n q).cpu = s.cpu := rfl
@[simp] theorem State.setQueue_boot (s : State) (n : Nat) (q : EvQueue) :
    (s.setQueue n q).boot = s.boot := rfl
@[simp] theorem State.setQueue_sup (s : State) (n : Nat) (q : EvQueue) :
    (s.setQueue n q).sup = s.sup := rfl
@[simp] theorem State.setQueue_jtag (s : State) (n : Nat) (q : EvQueue) :
    (s.setQueue n q).jtag = s.jtag := rfl
@[simp] theorem State.setQueue_integ (s : State) (n : Nat) (q : EvQueue) :
    (s.setQueue n q).integ = s.integ := rfl
@[simp] theorem State.setQueue_upd (s : State) (n : Nat) (q : EvQueue) :
    (s.setQueue n q).upd = s.upd := rfl
@[simp] theorem State.setQueue_mtr (s : State) (n : Nat) (q : EvQueue) :
    (s.setQueue n q).mtr = s.mtr := rfl
@[simp] theorem State.setQueue_fuse (s : State) (n : Nat) (q : EvQueue) :
    (s.setQueue n q).fuse = s.fuse := rfl
@[simp] theorem State.setQueue_cyc (s : State) (n : Nat) (q : EvQueue) :
    (s.setQueue n q).cyc = s.cyc := rfl
@[simp] theorem State.emptyQueue_now (s : State) (n : Nat) :
    (s.emptyQueue n).now = s.now := rfl
@[simp] theorem State.emptyQueue_free (s : State) (n : Nat) :
    (s.emptyQueue n).free = s.free := rfl
@[simp] theorem State.emptyQueue_pending (s : State) (n : Nat) :
    (s.emptyQueue n).pending = s.pending := rfl
@[simp] theorem State.emptyQueue_regs (s : State) (n : Nat) :
    (s.emptyQueue n).regs = s.regs := rfl
@[simp] theorem State.emptyQueue_mem (s : State) (n : Nat) :
    (s.emptyQueue n).mem = s.mem := rfl
@[simp] theorem State.emptyQueue_dom (s : State) (n : Nat) :
    (s.emptyQueue n).dom = s.dom := rfl
@[simp] theorem State.emptyQueue_bus (s : State) (n : Nat) :
    (s.emptyQueue n).bus = s.bus := rfl
@[simp] theorem State.emptyQueue_log (s : State) (n : Nat) :
    (s.emptyQueue n).log = s.log := rfl
@[simp] theorem State.emptyQueue_cfg (s : State) (n : Nat) :
    (s.emptyQueue n).cfg = s.cfg := rfl
@[simp] theorem State.emptyQueue_links (s : State) (n : Nat) :
    (s.emptyQueue n).links = s.links := rfl
@[simp] theorem State.emptyQueue_sch (s : State) (n : Nat) :
    (s.emptyQueue n).sch = s.sch := rfl
@[simp] theorem State.emptyQueue_psw (s : State) (n : Nat) :
    (s.emptyQueue n).psw = s.psw := rfl
@[simp] theorem State.emptyQueue_vlv (s : State) (n : Nat) :
    (s.emptyQueue n).vlv = s.vlv := rfl
@[simp] theorem State.emptyQueue_lgt (s : State) (n : Nat) :
    (s.emptyQueue n).lgt = s.lgt := rfl
@[simp] theorem State.emptyQueue_tim (s : State) (n : Nat) :
    (s.emptyQueue n).tim = s.tim := rfl
@[simp] theorem State.emptyQueue_eth (s : State) (n : Nat) :
    (s.emptyQueue n).eth = s.eth := rfl
@[simp] theorem State.emptyQueue_fin (s : State) (n : Nat) :
    (s.emptyQueue n).fin = s.fin := rfl
@[simp] theorem State.emptyQueue_gwy (s : State) (n : Nat) :
    (s.emptyQueue n).gwy = s.gwy := rfl
@[simp] theorem State.emptyQueue_can (s : State) (n : Nat) :
    (s.emptyQueue n).can = s.can := rfl
@[simp] theorem State.emptyQueue_lin (s : State) (n : Nat) :
    (s.emptyQueue n).lin = s.lin := rfl
@[simp] theorem State.emptyQueue_nwk (s : State) (n : Nat) :
    (s.emptyQueue n).nwk = s.nwk := rfl
@[simp] theorem State.emptyQueue_acc (s : State) (n : Nat) :
    (s.emptyQueue n).acc = s.acc := rfl
@[simp] theorem State.emptyQueue_pmu (s : State) (n : Nat) :
    (s.emptyQueue n).pmu = s.pmu := rfl
@[simp] theorem State.emptyQueue_cpu (s : State) (n : Nat) :
    (s.emptyQueue n).cpu = s.cpu := rfl
@[simp] theorem State.emptyQueue_boot (s : State) (n : Nat) :
    (s.emptyQueue n).boot = s.boot := rfl
@[simp] theorem State.emptyQueue_sup (s : State) (n : Nat) :
    (s.emptyQueue n).sup = s.sup := rfl
@[simp] theorem State.emptyQueue_jtag (s : State) (n : Nat) :
    (s.emptyQueue n).jtag = s.jtag := rfl
@[simp] theorem State.emptyQueue_integ (s : State) (n : Nat) :
    (s.emptyQueue n).integ = s.integ := rfl
@[simp] theorem State.emptyQueue_upd (s : State) (n : Nat) :
    (s.emptyQueue n).upd = s.upd := rfl
@[simp] theorem State.emptyQueue_mtr (s : State) (n : Nat) :
    (s.emptyQueue n).mtr = s.mtr := rfl
@[simp] theorem State.emptyQueue_fuse (s : State) (n : Nat) :
    (s.emptyQueue n).fuse = s.fuse := rfl
@[simp] theorem State.emptyQueue_cyc (s : State) (n : Nat) :
    (s.emptyQueue n).cyc = s.cyc := rfl
@[simp] theorem State.enqueue_now (s : State) (n : Nat) (e : Event) :
    (s.enqueue n e).now = s.now := by
  unfold State.enqueue; dsimp only; split <;> rfl
@[simp] theorem State.enqueue_free (s : State) (n : Nat) (e : Event) :
    (s.enqueue n e).free = s.free := by
  unfold State.enqueue; dsimp only; split <;> rfl
@[simp] theorem State.enqueue_pending (s : State) (n : Nat) (e : Event) :
    (s.enqueue n e).pending = s.pending := by
  unfold State.enqueue; dsimp only; split <;> rfl
@[simp] theorem State.enqueue_mem (s : State) (n : Nat) (e : Event) :
    (s.enqueue n e).mem = s.mem := by
  unfold State.enqueue; dsimp only; split <;> rfl
@[simp] theorem State.enqueue_dom (s : State) (n : Nat) (e : Event) :
    (s.enqueue n e).dom = s.dom := by
  unfold State.enqueue; dsimp only; split <;> rfl
@[simp] theorem State.enqueue_bus (s : State) (n : Nat) (e : Event) :
    (s.enqueue n e).bus = s.bus := by
  unfold State.enqueue; dsimp only; split <;> rfl
@[simp] theorem State.enqueue_log (s : State) (n : Nat) (e : Event) :
    (s.enqueue n e).log = s.log := by
  unfold State.enqueue; dsimp only; split <;> rfl
@[simp] theorem State.enqueue_cfg (s : State) (n : Nat) (e : Event) :
    (s.enqueue n e).cfg = s.cfg := by
  unfold State.enqueue; dsimp only; split <;> rfl
@[simp] theorem State.enqueue_links (s : State) (n : Nat) (e : Event) :
    (s.enqueue n e).links = s.links := by
  unfold State.enqueue; dsimp only; split <;> rfl
@[simp] theorem State.enqueue_sch (s : State) (n : Nat) (e : Event) :
    (s.enqueue n e).sch = s.sch := by
  unfold State.enqueue; dsimp only; split <;> rfl
@[simp] theorem State.enqueue_psw (s : State) (n : Nat) (e : Event) :
    (s.enqueue n e).psw = s.psw := by
  unfold State.enqueue; dsimp only; split <;> rfl
@[simp] theorem State.enqueue_vlv (s : State) (n : Nat) (e : Event) :
    (s.enqueue n e).vlv = s.vlv := by
  unfold State.enqueue; dsimp only; split <;> rfl
@[simp] theorem State.enqueue_lgt (s : State) (n : Nat) (e : Event) :
    (s.enqueue n e).lgt = s.lgt := by
  unfold State.enqueue; dsimp only; split <;> rfl
@[simp] theorem State.enqueue_tim (s : State) (n : Nat) (e : Event) :
    (s.enqueue n e).tim = s.tim := by
  unfold State.enqueue; dsimp only; split <;> rfl
@[simp] theorem State.enqueue_eth (s : State) (n : Nat) (e : Event) :
    (s.enqueue n e).eth = s.eth := by
  unfold State.enqueue; dsimp only; split <;> rfl
@[simp] theorem State.enqueue_fin (s : State) (n : Nat) (e : Event) :
    (s.enqueue n e).fin = s.fin := by
  unfold State.enqueue; dsimp only; split <;> rfl
@[simp] theorem State.enqueue_gwy (s : State) (n : Nat) (e : Event) :
    (s.enqueue n e).gwy = s.gwy := by
  unfold State.enqueue; dsimp only; split <;> rfl
@[simp] theorem State.enqueue_can (s : State) (n : Nat) (e : Event) :
    (s.enqueue n e).can = s.can := by
  unfold State.enqueue; dsimp only; split <;> rfl
@[simp] theorem State.enqueue_lin (s : State) (n : Nat) (e : Event) :
    (s.enqueue n e).lin = s.lin := by
  unfold State.enqueue; dsimp only; split <;> rfl
@[simp] theorem State.enqueue_nwk (s : State) (n : Nat) (e : Event) :
    (s.enqueue n e).nwk = s.nwk := by
  unfold State.enqueue; dsimp only; split <;> rfl
@[simp] theorem State.enqueue_acc (s : State) (n : Nat) (e : Event) :
    (s.enqueue n e).acc = s.acc := by
  unfold State.enqueue; dsimp only; split <;> rfl
@[simp] theorem State.enqueue_pmu (s : State) (n : Nat) (e : Event) :
    (s.enqueue n e).pmu = s.pmu := by
  unfold State.enqueue; dsimp only; split <;> rfl
@[simp] theorem State.enqueue_cpu (s : State) (n : Nat) (e : Event) :
    (s.enqueue n e).cpu = s.cpu := by
  unfold State.enqueue; dsimp only; split <;> rfl
@[simp] theorem State.enqueue_boot (s : State) (n : Nat) (e : Event) :
    (s.enqueue n e).boot = s.boot := by
  unfold State.enqueue; dsimp only; split <;> rfl
@[simp] theorem State.enqueue_sup (s : State) (n : Nat) (e : Event) :
    (s.enqueue n e).sup = s.sup := by
  unfold State.enqueue; dsimp only; split <;> rfl
@[simp] theorem State.enqueue_jtag (s : State) (n : Nat) (e : Event) :
    (s.enqueue n e).jtag = s.jtag := by
  unfold State.enqueue; dsimp only; split <;> rfl
@[simp] theorem State.enqueue_integ (s : State) (n : Nat) (e : Event) :
    (s.enqueue n e).integ = s.integ := by
  unfold State.enqueue; dsimp only; split <;> rfl
@[simp] theorem State.enqueue_upd (s : State) (n : Nat) (e : Event) :
    (s.enqueue n e).upd = s.upd := by
  unfold State.enqueue; dsimp only; split <;> rfl
@[simp] theorem State.enqueue_mtr (s : State) (n : Nat) (e : Event) :
    (s.enqueue n e).mtr = s.mtr := by
  unfold State.enqueue; dsimp only; split <;> rfl
@[simp] theorem State.enqueue_fuse (s : State) (n : Nat) (e : Event) :
    (s.enqueue n e).fuse = s.fuse := by
  unfold State.enqueue; dsimp only; split <;> rfl
@[simp] theorem State.event_now (s : State) (n block code item a0 a1 : Nat) (p : Bool) :
    (s.event n block code item a0 a1 p).now = s.now := by unfold State.event; rw [State.enqueue_now]
@[simp] theorem State.event_free (s : State) (n block code item a0 a1 : Nat) (p : Bool) :
    (s.event n block code item a0 a1 p).free = s.free := by unfold State.event; rw [State.enqueue_free]
@[simp] theorem State.event_pending (s : State) (n block code item a0 a1 : Nat) (p : Bool) :
    (s.event n block code item a0 a1 p).pending = s.pending := by unfold State.event; rw [State.enqueue_pending]
@[simp] theorem State.event_mem (s : State) (n block code item a0 a1 : Nat) (p : Bool) :
    (s.event n block code item a0 a1 p).mem = s.mem := by unfold State.event; rw [State.enqueue_mem]
@[simp] theorem State.event_dom (s : State) (n block code item a0 a1 : Nat) (p : Bool) :
    (s.event n block code item a0 a1 p).dom = s.dom := by unfold State.event; rw [State.enqueue_dom]
@[simp] theorem State.event_bus (s : State) (n block code item a0 a1 : Nat) (p : Bool) :
    (s.event n block code item a0 a1 p).bus = s.bus := by unfold State.event; rw [State.enqueue_bus]
@[simp] theorem State.event_log (s : State) (n block code item a0 a1 : Nat) (p : Bool) :
    (s.event n block code item a0 a1 p).log = s.log := by unfold State.event; rw [State.enqueue_log]
@[simp] theorem State.event_cfg (s : State) (n block code item a0 a1 : Nat) (p : Bool) :
    (s.event n block code item a0 a1 p).cfg = s.cfg := by unfold State.event; rw [State.enqueue_cfg]
@[simp] theorem State.event_links (s : State) (n block code item a0 a1 : Nat) (p : Bool) :
    (s.event n block code item a0 a1 p).links = s.links := by unfold State.event; rw [State.enqueue_links]
@[simp] theorem State.event_sch (s : State) (n block code item a0 a1 : Nat) (p : Bool) :
    (s.event n block code item a0 a1 p).sch = s.sch := by unfold State.event; rw [State.enqueue_sch]
@[simp] theorem State.event_psw (s : State) (n block code item a0 a1 : Nat) (p : Bool) :
    (s.event n block code item a0 a1 p).psw = s.psw := by unfold State.event; rw [State.enqueue_psw]
@[simp] theorem State.event_vlv (s : State) (n block code item a0 a1 : Nat) (p : Bool) :
    (s.event n block code item a0 a1 p).vlv = s.vlv := by unfold State.event; rw [State.enqueue_vlv]
@[simp] theorem State.event_lgt (s : State) (n block code item a0 a1 : Nat) (p : Bool) :
    (s.event n block code item a0 a1 p).lgt = s.lgt := by unfold State.event; rw [State.enqueue_lgt]
@[simp] theorem State.event_tim (s : State) (n block code item a0 a1 : Nat) (p : Bool) :
    (s.event n block code item a0 a1 p).tim = s.tim := by unfold State.event; rw [State.enqueue_tim]
@[simp] theorem State.event_eth (s : State) (n block code item a0 a1 : Nat) (p : Bool) :
    (s.event n block code item a0 a1 p).eth = s.eth := by unfold State.event; rw [State.enqueue_eth]
@[simp] theorem State.event_fin (s : State) (n block code item a0 a1 : Nat) (p : Bool) :
    (s.event n block code item a0 a1 p).fin = s.fin := by unfold State.event; rw [State.enqueue_fin]
@[simp] theorem State.event_gwy (s : State) (n block code item a0 a1 : Nat) (p : Bool) :
    (s.event n block code item a0 a1 p).gwy = s.gwy := by unfold State.event; rw [State.enqueue_gwy]
@[simp] theorem State.event_can (s : State) (n block code item a0 a1 : Nat) (p : Bool) :
    (s.event n block code item a0 a1 p).can = s.can := by unfold State.event; rw [State.enqueue_can]
@[simp] theorem State.event_lin (s : State) (n block code item a0 a1 : Nat) (p : Bool) :
    (s.event n block code item a0 a1 p).lin = s.lin := by unfold State.event; rw [State.enqueue_lin]
@[simp] theorem State.event_nwk (s : State) (n block code item a0 a1 : Nat) (p : Bool) :
    (s.event n block code item a0 a1 p).nwk = s.nwk := by unfold State.event; rw [State.enqueue_nwk]
@[simp] theorem State.event_acc (s : State) (n block code item a0 a1 : Nat) (p : Bool) :
    (s.event n block code item a0 a1 p).acc = s.acc := by unfold State.event; rw [State.enqueue_acc]
@[simp] theorem State.event_pmu (s : State) (n block code item a0 a1 : Nat) (p : Bool) :
    (s.event n block code item a0 a1 p).pmu = s.pmu := by unfold State.event; rw [State.enqueue_pmu]
@[simp] theorem State.event_cpu (s : State) (n block code item a0 a1 : Nat) (p : Bool) :
    (s.event n block code item a0 a1 p).cpu = s.cpu := by unfold State.event; rw [State.enqueue_cpu]
@[simp] theorem State.event_boot (s : State) (n block code item a0 a1 : Nat) (p : Bool) :
    (s.event n block code item a0 a1 p).boot = s.boot := by unfold State.event; rw [State.enqueue_boot]
@[simp] theorem State.event_sup (s : State) (n block code item a0 a1 : Nat) (p : Bool) :
    (s.event n block code item a0 a1 p).sup = s.sup := by unfold State.event; rw [State.enqueue_sup]
@[simp] theorem State.event_jtag (s : State) (n block code item a0 a1 : Nat) (p : Bool) :
    (s.event n block code item a0 a1 p).jtag = s.jtag := by unfold State.event; rw [State.enqueue_jtag]
@[simp] theorem State.event_integ (s : State) (n block code item a0 a1 : Nat) (p : Bool) :
    (s.event n block code item a0 a1 p).integ = s.integ := by unfold State.event; rw [State.enqueue_integ]
@[simp] theorem State.event_upd (s : State) (n block code item a0 a1 : Nat) (p : Bool) :
    (s.event n block code item a0 a1 p).upd = s.upd := by unfold State.event; rw [State.enqueue_upd]
@[simp] theorem State.event_mtr (s : State) (n block code item a0 a1 : Nat) (p : Bool) :
    (s.event n block code item a0 a1 p).mtr = s.mtr := by unfold State.event; rw [State.enqueue_mtr]
@[simp] theorem State.event_fuse (s : State) (n block code item a0 a1 : Nat) (p : Bool) :
    (s.event n block code item a0 a1 p).fuse = s.fuse := by unfold State.event; rw [State.enqueue_fuse]
@[simp] theorem State.eventTo_now (s : State) (sp : OwnSpec) (block code item a0 a1 : Nat) :
    (s.eventTo sp block code item a0 a1).now = s.now := by
  unfold State.eventTo; split
  · rw [State.event_now]
  · rfl
@[simp] theorem State.eventTo_free (s : State) (sp : OwnSpec) (block code item a0 a1 : Nat) :
    (s.eventTo sp block code item a0 a1).free = s.free := by
  unfold State.eventTo; split
  · rw [State.event_free]
  · rfl
@[simp] theorem State.eventTo_pending (s : State) (sp : OwnSpec) (block code item a0 a1 : Nat) :
    (s.eventTo sp block code item a0 a1).pending = s.pending := by
  unfold State.eventTo; split
  · rw [State.event_pending]
  · rfl
@[simp] theorem State.eventTo_mem (s : State) (sp : OwnSpec) (block code item a0 a1 : Nat) :
    (s.eventTo sp block code item a0 a1).mem = s.mem := by
  unfold State.eventTo; split
  · rw [State.event_mem]
  · rfl
@[simp] theorem State.eventTo_dom (s : State) (sp : OwnSpec) (block code item a0 a1 : Nat) :
    (s.eventTo sp block code item a0 a1).dom = s.dom := by
  unfold State.eventTo; split
  · rw [State.event_dom]
  · rfl
@[simp] theorem State.eventTo_bus (s : State) (sp : OwnSpec) (block code item a0 a1 : Nat) :
    (s.eventTo sp block code item a0 a1).bus = s.bus := by
  unfold State.eventTo; split
  · rw [State.event_bus]
  · rfl
@[simp] theorem State.eventTo_log (s : State) (sp : OwnSpec) (block code item a0 a1 : Nat) :
    (s.eventTo sp block code item a0 a1).log = s.log := by
  unfold State.eventTo; split
  · rw [State.event_log]
  · rfl
@[simp] theorem State.eventTo_cfg (s : State) (sp : OwnSpec) (block code item a0 a1 : Nat) :
    (s.eventTo sp block code item a0 a1).cfg = s.cfg := by
  unfold State.eventTo; split
  · rw [State.event_cfg]
  · rfl
@[simp] theorem State.eventTo_links (s : State) (sp : OwnSpec) (block code item a0 a1 : Nat) :
    (s.eventTo sp block code item a0 a1).links = s.links := by
  unfold State.eventTo; split
  · rw [State.event_links]
  · rfl
@[simp] theorem State.eventTo_sch (s : State) (sp : OwnSpec) (block code item a0 a1 : Nat) :
    (s.eventTo sp block code item a0 a1).sch = s.sch := by
  unfold State.eventTo; split
  · rw [State.event_sch]
  · rfl
@[simp] theorem State.eventTo_psw (s : State) (sp : OwnSpec) (block code item a0 a1 : Nat) :
    (s.eventTo sp block code item a0 a1).psw = s.psw := by
  unfold State.eventTo; split
  · rw [State.event_psw]
  · rfl
@[simp] theorem State.eventTo_vlv (s : State) (sp : OwnSpec) (block code item a0 a1 : Nat) :
    (s.eventTo sp block code item a0 a1).vlv = s.vlv := by
  unfold State.eventTo; split
  · rw [State.event_vlv]
  · rfl
@[simp] theorem State.eventTo_lgt (s : State) (sp : OwnSpec) (block code item a0 a1 : Nat) :
    (s.eventTo sp block code item a0 a1).lgt = s.lgt := by
  unfold State.eventTo; split
  · rw [State.event_lgt]
  · rfl
@[simp] theorem State.eventTo_tim (s : State) (sp : OwnSpec) (block code item a0 a1 : Nat) :
    (s.eventTo sp block code item a0 a1).tim = s.tim := by
  unfold State.eventTo; split
  · rw [State.event_tim]
  · rfl
@[simp] theorem State.eventTo_eth (s : State) (sp : OwnSpec) (block code item a0 a1 : Nat) :
    (s.eventTo sp block code item a0 a1).eth = s.eth := by
  unfold State.eventTo; split
  · rw [State.event_eth]
  · rfl
@[simp] theorem State.eventTo_fin (s : State) (sp : OwnSpec) (block code item a0 a1 : Nat) :
    (s.eventTo sp block code item a0 a1).fin = s.fin := by
  unfold State.eventTo; split
  · rw [State.event_fin]
  · rfl
@[simp] theorem State.eventTo_gwy (s : State) (sp : OwnSpec) (block code item a0 a1 : Nat) :
    (s.eventTo sp block code item a0 a1).gwy = s.gwy := by
  unfold State.eventTo; split
  · rw [State.event_gwy]
  · rfl
@[simp] theorem State.eventTo_can (s : State) (sp : OwnSpec) (block code item a0 a1 : Nat) :
    (s.eventTo sp block code item a0 a1).can = s.can := by
  unfold State.eventTo; split
  · rw [State.event_can]
  · rfl
@[simp] theorem State.eventTo_lin (s : State) (sp : OwnSpec) (block code item a0 a1 : Nat) :
    (s.eventTo sp block code item a0 a1).lin = s.lin := by
  unfold State.eventTo; split
  · rw [State.event_lin]
  · rfl
@[simp] theorem State.eventTo_nwk (s : State) (sp : OwnSpec) (block code item a0 a1 : Nat) :
    (s.eventTo sp block code item a0 a1).nwk = s.nwk := by
  unfold State.eventTo; split
  · rw [State.event_nwk]
  · rfl
@[simp] theorem State.eventTo_acc (s : State) (sp : OwnSpec) (block code item a0 a1 : Nat) :
    (s.eventTo sp block code item a0 a1).acc = s.acc := by
  unfold State.eventTo; split
  · rw [State.event_acc]
  · rfl
@[simp] theorem State.eventTo_pmu (s : State) (sp : OwnSpec) (block code item a0 a1 : Nat) :
    (s.eventTo sp block code item a0 a1).pmu = s.pmu := by
  unfold State.eventTo; split
  · rw [State.event_pmu]
  · rfl
@[simp] theorem State.eventTo_cpu (s : State) (sp : OwnSpec) (block code item a0 a1 : Nat) :
    (s.eventTo sp block code item a0 a1).cpu = s.cpu := by
  unfold State.eventTo; split
  · rw [State.event_cpu]
  · rfl
@[simp] theorem State.eventTo_boot (s : State) (sp : OwnSpec) (block code item a0 a1 : Nat) :
    (s.eventTo sp block code item a0 a1).boot = s.boot := by
  unfold State.eventTo; split
  · rw [State.event_boot]
  · rfl
@[simp] theorem State.eventTo_sup (s : State) (sp : OwnSpec) (block code item a0 a1 : Nat) :
    (s.eventTo sp block code item a0 a1).sup = s.sup := by
  unfold State.eventTo; split
  · rw [State.event_sup]
  · rfl
@[simp] theorem State.eventTo_jtag (s : State) (sp : OwnSpec) (block code item a0 a1 : Nat) :
    (s.eventTo sp block code item a0 a1).jtag = s.jtag := by
  unfold State.eventTo; split
  · rw [State.event_jtag]
  · rfl
@[simp] theorem State.eventTo_integ (s : State) (sp : OwnSpec) (block code item a0 a1 : Nat) :
    (s.eventTo sp block code item a0 a1).integ = s.integ := by
  unfold State.eventTo; split
  · rw [State.event_integ]
  · rfl
@[simp] theorem State.eventTo_upd (s : State) (sp : OwnSpec) (block code item a0 a1 : Nat) :
    (s.eventTo sp block code item a0 a1).upd = s.upd := by
  unfold State.eventTo; split
  · rw [State.event_upd]
  · rfl
@[simp] theorem State.eventTo_mtr (s : State) (sp : OwnSpec) (block code item a0 a1 : Nat) :
    (s.eventTo sp block code item a0 a1).mtr = s.mtr := by
  unfold State.eventTo; split
  · rw [State.event_mtr]
  · rfl
@[simp] theorem State.eventTo_fuse (s : State) (sp : OwnSpec) (block code item a0 a1 : Nat) :
    (s.eventTo sp block code item a0 a1).fuse = s.fuse := by
  unfold State.eventTo; split
  · rw [State.event_fuse]
  · rfl
@[simp] theorem State.eventAll_now (s : State) (ns : List Nat) (block code item a0 a1 : Nat) :
    (s.eventAll ns block code item a0 a1).now = s.now := by
  unfold State.eventAll
  induction ns generalizing s with
  | nil => rfl
  | cons n ns ih => rw [List.foldl_cons, ih, State.event_now]
@[simp] theorem State.eventAll_free (s : State) (ns : List Nat) (block code item a0 a1 : Nat) :
    (s.eventAll ns block code item a0 a1).free = s.free := by
  unfold State.eventAll
  induction ns generalizing s with
  | nil => rfl
  | cons n ns ih => rw [List.foldl_cons, ih, State.event_free]
@[simp] theorem State.eventAll_pending (s : State) (ns : List Nat) (block code item a0 a1 : Nat) :
    (s.eventAll ns block code item a0 a1).pending = s.pending := by
  unfold State.eventAll
  induction ns generalizing s with
  | nil => rfl
  | cons n ns ih => rw [List.foldl_cons, ih, State.event_pending]
@[simp] theorem State.eventAll_mem (s : State) (ns : List Nat) (block code item a0 a1 : Nat) :
    (s.eventAll ns block code item a0 a1).mem = s.mem := by
  unfold State.eventAll
  induction ns generalizing s with
  | nil => rfl
  | cons n ns ih => rw [List.foldl_cons, ih, State.event_mem]
@[simp] theorem State.eventAll_dom (s : State) (ns : List Nat) (block code item a0 a1 : Nat) :
    (s.eventAll ns block code item a0 a1).dom = s.dom := by
  unfold State.eventAll
  induction ns generalizing s with
  | nil => rfl
  | cons n ns ih => rw [List.foldl_cons, ih, State.event_dom]
@[simp] theorem State.eventAll_bus (s : State) (ns : List Nat) (block code item a0 a1 : Nat) :
    (s.eventAll ns block code item a0 a1).bus = s.bus := by
  unfold State.eventAll
  induction ns generalizing s with
  | nil => rfl
  | cons n ns ih => rw [List.foldl_cons, ih, State.event_bus]
@[simp] theorem State.eventAll_log (s : State) (ns : List Nat) (block code item a0 a1 : Nat) :
    (s.eventAll ns block code item a0 a1).log = s.log := by
  unfold State.eventAll
  induction ns generalizing s with
  | nil => rfl
  | cons n ns ih => rw [List.foldl_cons, ih, State.event_log]
@[simp] theorem State.eventAll_cfg (s : State) (ns : List Nat) (block code item a0 a1 : Nat) :
    (s.eventAll ns block code item a0 a1).cfg = s.cfg := by
  unfold State.eventAll
  induction ns generalizing s with
  | nil => rfl
  | cons n ns ih => rw [List.foldl_cons, ih, State.event_cfg]
@[simp] theorem State.eventAll_links (s : State) (ns : List Nat) (block code item a0 a1 : Nat) :
    (s.eventAll ns block code item a0 a1).links = s.links := by
  unfold State.eventAll
  induction ns generalizing s with
  | nil => rfl
  | cons n ns ih => rw [List.foldl_cons, ih, State.event_links]
@[simp] theorem State.eventAll_sch (s : State) (ns : List Nat) (block code item a0 a1 : Nat) :
    (s.eventAll ns block code item a0 a1).sch = s.sch := by
  unfold State.eventAll
  induction ns generalizing s with
  | nil => rfl
  | cons n ns ih => rw [List.foldl_cons, ih, State.event_sch]
@[simp] theorem State.eventAll_psw (s : State) (ns : List Nat) (block code item a0 a1 : Nat) :
    (s.eventAll ns block code item a0 a1).psw = s.psw := by
  unfold State.eventAll
  induction ns generalizing s with
  | nil => rfl
  | cons n ns ih => rw [List.foldl_cons, ih, State.event_psw]
@[simp] theorem State.eventAll_vlv (s : State) (ns : List Nat) (block code item a0 a1 : Nat) :
    (s.eventAll ns block code item a0 a1).vlv = s.vlv := by
  unfold State.eventAll
  induction ns generalizing s with
  | nil => rfl
  | cons n ns ih => rw [List.foldl_cons, ih, State.event_vlv]
@[simp] theorem State.eventAll_lgt (s : State) (ns : List Nat) (block code item a0 a1 : Nat) :
    (s.eventAll ns block code item a0 a1).lgt = s.lgt := by
  unfold State.eventAll
  induction ns generalizing s with
  | nil => rfl
  | cons n ns ih => rw [List.foldl_cons, ih, State.event_lgt]
@[simp] theorem State.eventAll_tim (s : State) (ns : List Nat) (block code item a0 a1 : Nat) :
    (s.eventAll ns block code item a0 a1).tim = s.tim := by
  unfold State.eventAll
  induction ns generalizing s with
  | nil => rfl
  | cons n ns ih => rw [List.foldl_cons, ih, State.event_tim]
@[simp] theorem State.eventAll_eth (s : State) (ns : List Nat) (block code item a0 a1 : Nat) :
    (s.eventAll ns block code item a0 a1).eth = s.eth := by
  unfold State.eventAll
  induction ns generalizing s with
  | nil => rfl
  | cons n ns ih => rw [List.foldl_cons, ih, State.event_eth]
@[simp] theorem State.eventAll_fin (s : State) (ns : List Nat) (block code item a0 a1 : Nat) :
    (s.eventAll ns block code item a0 a1).fin = s.fin := by
  unfold State.eventAll
  induction ns generalizing s with
  | nil => rfl
  | cons n ns ih => rw [List.foldl_cons, ih, State.event_fin]
@[simp] theorem State.eventAll_gwy (s : State) (ns : List Nat) (block code item a0 a1 : Nat) :
    (s.eventAll ns block code item a0 a1).gwy = s.gwy := by
  unfold State.eventAll
  induction ns generalizing s with
  | nil => rfl
  | cons n ns ih => rw [List.foldl_cons, ih, State.event_gwy]
@[simp] theorem State.eventAll_can (s : State) (ns : List Nat) (block code item a0 a1 : Nat) :
    (s.eventAll ns block code item a0 a1).can = s.can := by
  unfold State.eventAll
  induction ns generalizing s with
  | nil => rfl
  | cons n ns ih => rw [List.foldl_cons, ih, State.event_can]
@[simp] theorem State.eventAll_lin (s : State) (ns : List Nat) (block code item a0 a1 : Nat) :
    (s.eventAll ns block code item a0 a1).lin = s.lin := by
  unfold State.eventAll
  induction ns generalizing s with
  | nil => rfl
  | cons n ns ih => rw [List.foldl_cons, ih, State.event_lin]
@[simp] theorem State.eventAll_nwk (s : State) (ns : List Nat) (block code item a0 a1 : Nat) :
    (s.eventAll ns block code item a0 a1).nwk = s.nwk := by
  unfold State.eventAll
  induction ns generalizing s with
  | nil => rfl
  | cons n ns ih => rw [List.foldl_cons, ih, State.event_nwk]
@[simp] theorem State.eventAll_acc (s : State) (ns : List Nat) (block code item a0 a1 : Nat) :
    (s.eventAll ns block code item a0 a1).acc = s.acc := by
  unfold State.eventAll
  induction ns generalizing s with
  | nil => rfl
  | cons n ns ih => rw [List.foldl_cons, ih, State.event_acc]
@[simp] theorem State.eventAll_pmu (s : State) (ns : List Nat) (block code item a0 a1 : Nat) :
    (s.eventAll ns block code item a0 a1).pmu = s.pmu := by
  unfold State.eventAll
  induction ns generalizing s with
  | nil => rfl
  | cons n ns ih => rw [List.foldl_cons, ih, State.event_pmu]
@[simp] theorem State.eventAll_cpu (s : State) (ns : List Nat) (block code item a0 a1 : Nat) :
    (s.eventAll ns block code item a0 a1).cpu = s.cpu := by
  unfold State.eventAll
  induction ns generalizing s with
  | nil => rfl
  | cons n ns ih => rw [List.foldl_cons, ih, State.event_cpu]
@[simp] theorem State.eventAll_boot (s : State) (ns : List Nat) (block code item a0 a1 : Nat) :
    (s.eventAll ns block code item a0 a1).boot = s.boot := by
  unfold State.eventAll
  induction ns generalizing s with
  | nil => rfl
  | cons n ns ih => rw [List.foldl_cons, ih, State.event_boot]
@[simp] theorem State.eventAll_sup (s : State) (ns : List Nat) (block code item a0 a1 : Nat) :
    (s.eventAll ns block code item a0 a1).sup = s.sup := by
  unfold State.eventAll
  induction ns generalizing s with
  | nil => rfl
  | cons n ns ih => rw [List.foldl_cons, ih, State.event_sup]
@[simp] theorem State.eventAll_jtag (s : State) (ns : List Nat) (block code item a0 a1 : Nat) :
    (s.eventAll ns block code item a0 a1).jtag = s.jtag := by
  unfold State.eventAll
  induction ns generalizing s with
  | nil => rfl
  | cons n ns ih => rw [List.foldl_cons, ih, State.event_jtag]
@[simp] theorem State.eventAll_integ (s : State) (ns : List Nat) (block code item a0 a1 : Nat) :
    (s.eventAll ns block code item a0 a1).integ = s.integ := by
  unfold State.eventAll
  induction ns generalizing s with
  | nil => rfl
  | cons n ns ih => rw [List.foldl_cons, ih, State.event_integ]
@[simp] theorem State.eventAll_upd (s : State) (ns : List Nat) (block code item a0 a1 : Nat) :
    (s.eventAll ns block code item a0 a1).upd = s.upd := by
  unfold State.eventAll
  induction ns generalizing s with
  | nil => rfl
  | cons n ns ih => rw [List.foldl_cons, ih, State.event_upd]
@[simp] theorem State.eventAll_mtr (s : State) (ns : List Nat) (block code item a0 a1 : Nat) :
    (s.eventAll ns block code item a0 a1).mtr = s.mtr := by
  unfold State.eventAll
  induction ns generalizing s with
  | nil => rfl
  | cons n ns ih => rw [List.foldl_cons, ih, State.event_mtr]
@[simp] theorem State.eventAll_fuse (s : State) (ns : List Nat) (block code item a0 a1 : Nat) :
    (s.eventAll ns block code item a0 a1).fuse = s.fuse := by
  unfold State.eventAll
  induction ns generalizing s with
  | nil => rfl
  | cons n ns ih => rw [List.foldl_cons, ih, State.event_fuse]
@[simp] theorem State.eventAtStart_now (s : State) (n block code item a0 a1 : Nat) (p : Bool) :
    (s.eventAtStart n block code item a0 a1 p).now = s.now := by
  unfold State.eventAtStart; split
  · rw [State.event_now]
  · rfl
@[simp] theorem State.eventAtStart_free (s : State) (n block code item a0 a1 : Nat) (p : Bool) :
    (s.eventAtStart n block code item a0 a1 p).free = s.free := by
  unfold State.eventAtStart; split
  · rw [State.event_free]
  · rfl
@[simp] theorem State.eventAtStart_pending (s : State) (n block code item a0 a1 : Nat) (p : Bool) :
    (s.eventAtStart n block code item a0 a1 p).pending = s.pending := by
  unfold State.eventAtStart; split
  · rw [State.event_pending]
  · rfl
@[simp] theorem State.eventAtStart_mem (s : State) (n block code item a0 a1 : Nat) (p : Bool) :
    (s.eventAtStart n block code item a0 a1 p).mem = s.mem := by
  unfold State.eventAtStart; split
  · rw [State.event_mem]
  · rfl
@[simp] theorem State.eventAtStart_dom (s : State) (n block code item a0 a1 : Nat) (p : Bool) :
    (s.eventAtStart n block code item a0 a1 p).dom = s.dom := by
  unfold State.eventAtStart; split
  · rw [State.event_dom]
  · rfl
@[simp] theorem State.eventAtStart_bus (s : State) (n block code item a0 a1 : Nat) (p : Bool) :
    (s.eventAtStart n block code item a0 a1 p).bus = s.bus := by
  unfold State.eventAtStart; split
  · rw [State.event_bus]
  · rfl
@[simp] theorem State.eventAtStart_log (s : State) (n block code item a0 a1 : Nat) (p : Bool) :
    (s.eventAtStart n block code item a0 a1 p).log = s.log := by
  unfold State.eventAtStart; split
  · rw [State.event_log]
  · rfl
@[simp] theorem State.eventAtStart_cfg (s : State) (n block code item a0 a1 : Nat) (p : Bool) :
    (s.eventAtStart n block code item a0 a1 p).cfg = s.cfg := by
  unfold State.eventAtStart; split
  · rw [State.event_cfg]
  · rfl
@[simp] theorem State.eventAtStart_links (s : State) (n block code item a0 a1 : Nat) (p : Bool) :
    (s.eventAtStart n block code item a0 a1 p).links = s.links := by
  unfold State.eventAtStart; split
  · rw [State.event_links]
  · rfl
@[simp] theorem State.eventAtStart_sch (s : State) (n block code item a0 a1 : Nat) (p : Bool) :
    (s.eventAtStart n block code item a0 a1 p).sch = s.sch := by
  unfold State.eventAtStart; split
  · rw [State.event_sch]
  · rfl
@[simp] theorem State.eventAtStart_psw (s : State) (n block code item a0 a1 : Nat) (p : Bool) :
    (s.eventAtStart n block code item a0 a1 p).psw = s.psw := by
  unfold State.eventAtStart; split
  · rw [State.event_psw]
  · rfl
@[simp] theorem State.eventAtStart_vlv (s : State) (n block code item a0 a1 : Nat) (p : Bool) :
    (s.eventAtStart n block code item a0 a1 p).vlv = s.vlv := by
  unfold State.eventAtStart; split
  · rw [State.event_vlv]
  · rfl
@[simp] theorem State.eventAtStart_lgt (s : State) (n block code item a0 a1 : Nat) (p : Bool) :
    (s.eventAtStart n block code item a0 a1 p).lgt = s.lgt := by
  unfold State.eventAtStart; split
  · rw [State.event_lgt]
  · rfl
@[simp] theorem State.eventAtStart_tim (s : State) (n block code item a0 a1 : Nat) (p : Bool) :
    (s.eventAtStart n block code item a0 a1 p).tim = s.tim := by
  unfold State.eventAtStart; split
  · rw [State.event_tim]
  · rfl
@[simp] theorem State.eventAtStart_eth (s : State) (n block code item a0 a1 : Nat) (p : Bool) :
    (s.eventAtStart n block code item a0 a1 p).eth = s.eth := by
  unfold State.eventAtStart; split
  · rw [State.event_eth]
  · rfl
@[simp] theorem State.eventAtStart_fin (s : State) (n block code item a0 a1 : Nat) (p : Bool) :
    (s.eventAtStart n block code item a0 a1 p).fin = s.fin := by
  unfold State.eventAtStart; split
  · rw [State.event_fin]
  · rfl
@[simp] theorem State.eventAtStart_gwy (s : State) (n block code item a0 a1 : Nat) (p : Bool) :
    (s.eventAtStart n block code item a0 a1 p).gwy = s.gwy := by
  unfold State.eventAtStart; split
  · rw [State.event_gwy]
  · rfl
@[simp] theorem State.eventAtStart_can (s : State) (n block code item a0 a1 : Nat) (p : Bool) :
    (s.eventAtStart n block code item a0 a1 p).can = s.can := by
  unfold State.eventAtStart; split
  · rw [State.event_can]
  · rfl
@[simp] theorem State.eventAtStart_lin (s : State) (n block code item a0 a1 : Nat) (p : Bool) :
    (s.eventAtStart n block code item a0 a1 p).lin = s.lin := by
  unfold State.eventAtStart; split
  · rw [State.event_lin]
  · rfl
@[simp] theorem State.eventAtStart_nwk (s : State) (n block code item a0 a1 : Nat) (p : Bool) :
    (s.eventAtStart n block code item a0 a1 p).nwk = s.nwk := by
  unfold State.eventAtStart; split
  · rw [State.event_nwk]
  · rfl
@[simp] theorem State.eventAtStart_acc (s : State) (n block code item a0 a1 : Nat) (p : Bool) :
    (s.eventAtStart n block code item a0 a1 p).acc = s.acc := by
  unfold State.eventAtStart; split
  · rw [State.event_acc]
  · rfl
@[simp] theorem State.eventAtStart_pmu (s : State) (n block code item a0 a1 : Nat) (p : Bool) :
    (s.eventAtStart n block code item a0 a1 p).pmu = s.pmu := by
  unfold State.eventAtStart; split
  · rw [State.event_pmu]
  · rfl
@[simp] theorem State.eventAtStart_cpu (s : State) (n block code item a0 a1 : Nat) (p : Bool) :
    (s.eventAtStart n block code item a0 a1 p).cpu = s.cpu := by
  unfold State.eventAtStart; split
  · rw [State.event_cpu]
  · rfl
@[simp] theorem State.eventAtStart_boot (s : State) (n block code item a0 a1 : Nat) (p : Bool) :
    (s.eventAtStart n block code item a0 a1 p).boot = s.boot := by
  unfold State.eventAtStart; split
  · rw [State.event_boot]
  · rfl
@[simp] theorem State.eventAtStart_sup (s : State) (n block code item a0 a1 : Nat) (p : Bool) :
    (s.eventAtStart n block code item a0 a1 p).sup = s.sup := by
  unfold State.eventAtStart; split
  · rw [State.event_sup]
  · rfl
@[simp] theorem State.eventAtStart_jtag (s : State) (n block code item a0 a1 : Nat) (p : Bool) :
    (s.eventAtStart n block code item a0 a1 p).jtag = s.jtag := by
  unfold State.eventAtStart; split
  · rw [State.event_jtag]
  · rfl
@[simp] theorem State.eventAtStart_integ (s : State) (n block code item a0 a1 : Nat) (p : Bool) :
    (s.eventAtStart n block code item a0 a1 p).integ = s.integ := by
  unfold State.eventAtStart; split
  · rw [State.event_integ]
  · rfl
@[simp] theorem State.eventAtStart_upd (s : State) (n block code item a0 a1 : Nat) (p : Bool) :
    (s.eventAtStart n block code item a0 a1 p).upd = s.upd := by
  unfold State.eventAtStart; split
  · rw [State.event_upd]
  · rfl
@[simp] theorem State.eventAtStart_mtr (s : State) (n block code item a0 a1 : Nat) (p : Bool) :
    (s.eventAtStart n block code item a0 a1 p).mtr = s.mtr := by
  unfold State.eventAtStart; split
  · rw [State.event_mtr]
  · rfl
@[simp] theorem State.eventAtStart_fuse (s : State) (n block code item a0 a1 : Nat) (p : Bool) :
    (s.eventAtStart n block code item a0 a1 p).fuse = s.fuse := by
  unfold State.eventAtStart; split
  · rw [State.event_fuse]
  · rfl
@[simp] theorem State.releaseHeld_now (s : State) (n : Nat) :
    (s.releaseHeld n).now = s.now := by
  unfold State.releaseHeld; dsimp only; rw [State.cumBy_now, State.setQueue_now]
@[simp] theorem State.releaseHeld_free (s : State) (n : Nat) :
    (s.releaseHeld n).free = s.free := by
  unfold State.releaseHeld; dsimp only; rw [State.cumBy_free, State.setQueue_free]
@[simp] theorem State.releaseHeld_pending (s : State) (n : Nat) :
    (s.releaseHeld n).pending = s.pending := by
  unfold State.releaseHeld; dsimp only; rw [State.cumBy_pending, State.setQueue_pending]
@[simp] theorem State.releaseHeld_mem (s : State) (n : Nat) :
    (s.releaseHeld n).mem = s.mem := by
  unfold State.releaseHeld; dsimp only; rw [State.cumBy_mem, State.setQueue_mem]
@[simp] theorem State.releaseHeld_dom (s : State) (n : Nat) :
    (s.releaseHeld n).dom = s.dom := by
  unfold State.releaseHeld; dsimp only; rw [State.cumBy_dom, State.setQueue_dom]
@[simp] theorem State.releaseHeld_bus (s : State) (n : Nat) :
    (s.releaseHeld n).bus = s.bus := by
  unfold State.releaseHeld; dsimp only; rw [State.cumBy_bus, State.setQueue_bus]
@[simp] theorem State.releaseHeld_log (s : State) (n : Nat) :
    (s.releaseHeld n).log = s.log := by
  unfold State.releaseHeld; dsimp only; rw [State.cumBy_log, State.setQueue_log]
@[simp] theorem State.releaseHeld_cfg (s : State) (n : Nat) :
    (s.releaseHeld n).cfg = s.cfg := by
  unfold State.releaseHeld; dsimp only; rw [State.cumBy_cfg, State.setQueue_cfg]
@[simp] theorem State.releaseHeld_links (s : State) (n : Nat) :
    (s.releaseHeld n).links = s.links := by
  unfold State.releaseHeld; dsimp only; rw [State.cumBy_links, State.setQueue_links]
@[simp] theorem State.releaseHeld_sch (s : State) (n : Nat) :
    (s.releaseHeld n).sch = s.sch := by
  unfold State.releaseHeld; dsimp only; rw [State.cumBy_sch, State.setQueue_sch]
@[simp] theorem State.releaseHeld_psw (s : State) (n : Nat) :
    (s.releaseHeld n).psw = s.psw := by
  unfold State.releaseHeld; dsimp only; rw [State.cumBy_psw, State.setQueue_psw]
@[simp] theorem State.releaseHeld_vlv (s : State) (n : Nat) :
    (s.releaseHeld n).vlv = s.vlv := by
  unfold State.releaseHeld; dsimp only; rw [State.cumBy_vlv, State.setQueue_vlv]
@[simp] theorem State.releaseHeld_lgt (s : State) (n : Nat) :
    (s.releaseHeld n).lgt = s.lgt := by
  unfold State.releaseHeld; dsimp only; rw [State.cumBy_lgt, State.setQueue_lgt]
@[simp] theorem State.releaseHeld_tim (s : State) (n : Nat) :
    (s.releaseHeld n).tim = s.tim := by
  unfold State.releaseHeld; dsimp only; rw [State.cumBy_tim, State.setQueue_tim]
@[simp] theorem State.releaseHeld_eth (s : State) (n : Nat) :
    (s.releaseHeld n).eth = s.eth := by
  unfold State.releaseHeld; dsimp only; rw [State.cumBy_eth, State.setQueue_eth]
@[simp] theorem State.releaseHeld_fin (s : State) (n : Nat) :
    (s.releaseHeld n).fin = s.fin := by
  unfold State.releaseHeld; dsimp only; rw [State.cumBy_fin, State.setQueue_fin]
@[simp] theorem State.releaseHeld_gwy (s : State) (n : Nat) :
    (s.releaseHeld n).gwy = s.gwy := by
  unfold State.releaseHeld; dsimp only; rw [State.cumBy_gwy, State.setQueue_gwy]
@[simp] theorem State.releaseHeld_can (s : State) (n : Nat) :
    (s.releaseHeld n).can = s.can := by
  unfold State.releaseHeld; dsimp only; rw [State.cumBy_can, State.setQueue_can]
@[simp] theorem State.releaseHeld_lin (s : State) (n : Nat) :
    (s.releaseHeld n).lin = s.lin := by
  unfold State.releaseHeld; dsimp only; rw [State.cumBy_lin, State.setQueue_lin]
@[simp] theorem State.releaseHeld_nwk (s : State) (n : Nat) :
    (s.releaseHeld n).nwk = s.nwk := by
  unfold State.releaseHeld; dsimp only; rw [State.cumBy_nwk, State.setQueue_nwk]
@[simp] theorem State.releaseHeld_acc (s : State) (n : Nat) :
    (s.releaseHeld n).acc = s.acc := by
  unfold State.releaseHeld; dsimp only; rw [State.cumBy_acc, State.setQueue_acc]
@[simp] theorem State.releaseHeld_pmu (s : State) (n : Nat) :
    (s.releaseHeld n).pmu = s.pmu := by
  unfold State.releaseHeld; dsimp only; rw [State.cumBy_pmu, State.setQueue_pmu]
@[simp] theorem State.releaseHeld_cpu (s : State) (n : Nat) :
    (s.releaseHeld n).cpu = s.cpu := by
  unfold State.releaseHeld; dsimp only; rw [State.cumBy_cpu, State.setQueue_cpu]
@[simp] theorem State.releaseHeld_boot (s : State) (n : Nat) :
    (s.releaseHeld n).boot = s.boot := by
  unfold State.releaseHeld; dsimp only; rw [State.cumBy_boot, State.setQueue_boot]
@[simp] theorem State.releaseHeld_sup (s : State) (n : Nat) :
    (s.releaseHeld n).sup = s.sup := by
  unfold State.releaseHeld; dsimp only; rw [State.cumBy_sup, State.setQueue_sup]
@[simp] theorem State.releaseHeld_jtag (s : State) (n : Nat) :
    (s.releaseHeld n).jtag = s.jtag := by
  unfold State.releaseHeld; dsimp only; rw [State.cumBy_jtag, State.setQueue_jtag]
@[simp] theorem State.releaseHeld_integ (s : State) (n : Nat) :
    (s.releaseHeld n).integ = s.integ := by
  unfold State.releaseHeld; dsimp only; rw [State.cumBy_integ, State.setQueue_integ]
@[simp] theorem State.releaseHeld_upd (s : State) (n : Nat) :
    (s.releaseHeld n).upd = s.upd := by
  unfold State.releaseHeld; dsimp only; rw [State.cumBy_upd, State.setQueue_upd]
@[simp] theorem State.releaseHeld_mtr (s : State) (n : Nat) :
    (s.releaseHeld n).mtr = s.mtr := by
  unfold State.releaseHeld; dsimp only; rw [State.cumBy_mtr, State.setQueue_mtr]
@[simp] theorem State.releaseHeld_fuse (s : State) (n : Nat) :
    (s.releaseHeld n).fuse = s.fuse := by
  unfold State.releaseHeld; dsimp only; rw [State.cumBy_fuse, State.setQueue_fuse]
@[simp] theorem State.logPush_now (s : State) (e : LogEntry) :
    (s.logPush e).now = s.now := by
  unfold State.logPush; split
  · rw [State.wrWords_now]; rfl
  · rfl
@[simp] theorem State.logPush_free (s : State) (e : LogEntry) :
    (s.logPush e).free = s.free := by
  unfold State.logPush; split
  · rw [State.wrWords_free]; rfl
  · rfl
@[simp] theorem State.logPush_pending (s : State) (e : LogEntry) :
    (s.logPush e).pending = s.pending := by
  unfold State.logPush; split
  · rw [State.wrWords_pending]; rfl
  · rfl
@[simp] theorem State.logPush_dom (s : State) (e : LogEntry) :
    (s.logPush e).dom = s.dom := by
  unfold State.logPush; split
  · rw [State.wrWords_dom]; rfl
  · rfl
@[simp] theorem State.logPush_bus (s : State) (e : LogEntry) :
    (s.logPush e).bus = s.bus := by
  unfold State.logPush; split
  · rw [State.wrWords_bus]; rfl
  · rfl
@[simp] theorem State.logPush_ev (s : State) (e : LogEntry) :
    (s.logPush e).ev = s.ev := by
  unfold State.logPush; split
  · rw [State.wrWords_ev]; rfl
  · rfl
@[simp] theorem State.logPush_cfg (s : State) (e : LogEntry) :
    (s.logPush e).cfg = s.cfg := by
  unfold State.logPush; split
  · rw [State.wrWords_cfg]; rfl
  · rfl
@[simp] theorem State.logPush_links (s : State) (e : LogEntry) :
    (s.logPush e).links = s.links := by
  unfold State.logPush; split
  · rw [State.wrWords_links]; rfl
  · rfl
@[simp] theorem State.logPush_sch (s : State) (e : LogEntry) :
    (s.logPush e).sch = s.sch := by
  unfold State.logPush; split
  · rw [State.wrWords_sch]; rfl
  · rfl
@[simp] theorem State.logPush_psw (s : State) (e : LogEntry) :
    (s.logPush e).psw = s.psw := by
  unfold State.logPush; split
  · rw [State.wrWords_psw]; rfl
  · rfl
@[simp] theorem State.logPush_vlv (s : State) (e : LogEntry) :
    (s.logPush e).vlv = s.vlv := by
  unfold State.logPush; split
  · rw [State.wrWords_vlv]; rfl
  · rfl
@[simp] theorem State.logPush_lgt (s : State) (e : LogEntry) :
    (s.logPush e).lgt = s.lgt := by
  unfold State.logPush; split
  · rw [State.wrWords_lgt]; rfl
  · rfl
@[simp] theorem State.logPush_tim (s : State) (e : LogEntry) :
    (s.logPush e).tim = s.tim := by
  unfold State.logPush; split
  · rw [State.wrWords_tim]; rfl
  · rfl
@[simp] theorem State.logPush_eth (s : State) (e : LogEntry) :
    (s.logPush e).eth = s.eth := by
  unfold State.logPush; split
  · rw [State.wrWords_eth]; rfl
  · rfl
@[simp] theorem State.logPush_fin (s : State) (e : LogEntry) :
    (s.logPush e).fin = s.fin := by
  unfold State.logPush; split
  · rw [State.wrWords_fin]; rfl
  · rfl
@[simp] theorem State.logPush_gwy (s : State) (e : LogEntry) :
    (s.logPush e).gwy = s.gwy := by
  unfold State.logPush; split
  · rw [State.wrWords_gwy]; rfl
  · rfl
@[simp] theorem State.logPush_can (s : State) (e : LogEntry) :
    (s.logPush e).can = s.can := by
  unfold State.logPush; split
  · rw [State.wrWords_can]; rfl
  · rfl
@[simp] theorem State.logPush_lin (s : State) (e : LogEntry) :
    (s.logPush e).lin = s.lin := by
  unfold State.logPush; split
  · rw [State.wrWords_lin]; rfl
  · rfl
@[simp] theorem State.logPush_nwk (s : State) (e : LogEntry) :
    (s.logPush e).nwk = s.nwk := by
  unfold State.logPush; split
  · rw [State.wrWords_nwk]; rfl
  · rfl
@[simp] theorem State.logPush_acc (s : State) (e : LogEntry) :
    (s.logPush e).acc = s.acc := by
  unfold State.logPush; split
  · rw [State.wrWords_acc]; rfl
  · rfl
@[simp] theorem State.logPush_pmu (s : State) (e : LogEntry) :
    (s.logPush e).pmu = s.pmu := by
  unfold State.logPush; split
  · rw [State.wrWords_pmu]; rfl
  · rfl
@[simp] theorem State.logPush_cpu (s : State) (e : LogEntry) :
    (s.logPush e).cpu = s.cpu := by
  unfold State.logPush; split
  · rw [State.wrWords_cpu]; rfl
  · rfl
@[simp] theorem State.logPush_boot (s : State) (e : LogEntry) :
    (s.logPush e).boot = s.boot := by
  unfold State.logPush; split
  · rw [State.wrWords_boot]; rfl
  · rfl
@[simp] theorem State.logPush_sup (s : State) (e : LogEntry) :
    (s.logPush e).sup = s.sup := by
  unfold State.logPush; split
  · rw [State.wrWords_sup]; rfl
  · rfl
@[simp] theorem State.logPush_jtag (s : State) (e : LogEntry) :
    (s.logPush e).jtag = s.jtag := by
  unfold State.logPush; split
  · rw [State.wrWords_jtag]; rfl
  · rfl
@[simp] theorem State.logPush_integ (s : State) (e : LogEntry) :
    (s.logPush e).integ = s.integ := by
  unfold State.logPush; split
  · rw [State.wrWords_integ]; rfl
  · rfl
@[simp] theorem State.logPush_upd (s : State) (e : LogEntry) :
    (s.logPush e).upd = s.upd := by
  unfold State.logPush; split
  · rw [State.wrWords_upd]; rfl
  · rfl
@[simp] theorem State.logPush_mtr (s : State) (e : LogEntry) :
    (s.logPush e).mtr = s.mtr := by
  unfold State.logPush; split
  · rw [State.wrWords_mtr]; rfl
  · rfl
@[simp] theorem State.logPush_fuse (s : State) (e : LogEntry) :
    (s.logPush e).fuse = s.fuse := by
  unfold State.logPush; split
  · rw [State.wrWords_fuse]; rfl
  · rfl
@[simp] theorem State.logPut_now (s : State) (e : LogEntry) :
    (s.logPut e).now = s.now := by
  unfold State.logPut; split
  · rw [State.logPush_now]
  · rw [State.logPush_now, State.logPush_now]
@[simp] theorem State.logPut_free (s : State) (e : LogEntry) :
    (s.logPut e).free = s.free := by
  unfold State.logPut; split
  · rw [State.logPush_free]
  · rw [State.logPush_free, State.logPush_free]
@[simp] theorem State.logPut_pending (s : State) (e : LogEntry) :
    (s.logPut e).pending = s.pending := by
  unfold State.logPut; split
  · rw [State.logPush_pending]
  · rw [State.logPush_pending, State.logPush_pending]
@[simp] theorem State.logPut_dom (s : State) (e : LogEntry) :
    (s.logPut e).dom = s.dom := by
  unfold State.logPut; split
  · rw [State.logPush_dom]
  · rw [State.logPush_dom, State.logPush_dom]
@[simp] theorem State.logPut_bus (s : State) (e : LogEntry) :
    (s.logPut e).bus = s.bus := by
  unfold State.logPut; split
  · rw [State.logPush_bus]
  · rw [State.logPush_bus, State.logPush_bus]
@[simp] theorem State.logPut_ev (s : State) (e : LogEntry) :
    (s.logPut e).ev = s.ev := by
  unfold State.logPut; split
  · rw [State.logPush_ev]
  · rw [State.logPush_ev, State.logPush_ev]
@[simp] theorem State.logPut_cfg (s : State) (e : LogEntry) :
    (s.logPut e).cfg = s.cfg := by
  unfold State.logPut; split
  · rw [State.logPush_cfg]
  · rw [State.logPush_cfg, State.logPush_cfg]
@[simp] theorem State.logPut_links (s : State) (e : LogEntry) :
    (s.logPut e).links = s.links := by
  unfold State.logPut; split
  · rw [State.logPush_links]
  · rw [State.logPush_links, State.logPush_links]
@[simp] theorem State.logPut_sch (s : State) (e : LogEntry) :
    (s.logPut e).sch = s.sch := by
  unfold State.logPut; split
  · rw [State.logPush_sch]
  · rw [State.logPush_sch, State.logPush_sch]
@[simp] theorem State.logPut_psw (s : State) (e : LogEntry) :
    (s.logPut e).psw = s.psw := by
  unfold State.logPut; split
  · rw [State.logPush_psw]
  · rw [State.logPush_psw, State.logPush_psw]
@[simp] theorem State.logPut_vlv (s : State) (e : LogEntry) :
    (s.logPut e).vlv = s.vlv := by
  unfold State.logPut; split
  · rw [State.logPush_vlv]
  · rw [State.logPush_vlv, State.logPush_vlv]
@[simp] theorem State.logPut_lgt (s : State) (e : LogEntry) :
    (s.logPut e).lgt = s.lgt := by
  unfold State.logPut; split
  · rw [State.logPush_lgt]
  · rw [State.logPush_lgt, State.logPush_lgt]
@[simp] theorem State.logPut_tim (s : State) (e : LogEntry) :
    (s.logPut e).tim = s.tim := by
  unfold State.logPut; split
  · rw [State.logPush_tim]
  · rw [State.logPush_tim, State.logPush_tim]
@[simp] theorem State.logPut_eth (s : State) (e : LogEntry) :
    (s.logPut e).eth = s.eth := by
  unfold State.logPut; split
  · rw [State.logPush_eth]
  · rw [State.logPush_eth, State.logPush_eth]
@[simp] theorem State.logPut_fin (s : State) (e : LogEntry) :
    (s.logPut e).fin = s.fin := by
  unfold State.logPut; split
  · rw [State.logPush_fin]
  · rw [State.logPush_fin, State.logPush_fin]
@[simp] theorem State.logPut_gwy (s : State) (e : LogEntry) :
    (s.logPut e).gwy = s.gwy := by
  unfold State.logPut; split
  · rw [State.logPush_gwy]
  · rw [State.logPush_gwy, State.logPush_gwy]
@[simp] theorem State.logPut_can (s : State) (e : LogEntry) :
    (s.logPut e).can = s.can := by
  unfold State.logPut; split
  · rw [State.logPush_can]
  · rw [State.logPush_can, State.logPush_can]
@[simp] theorem State.logPut_lin (s : State) (e : LogEntry) :
    (s.logPut e).lin = s.lin := by
  unfold State.logPut; split
  · rw [State.logPush_lin]
  · rw [State.logPush_lin, State.logPush_lin]
@[simp] theorem State.logPut_nwk (s : State) (e : LogEntry) :
    (s.logPut e).nwk = s.nwk := by
  unfold State.logPut; split
  · rw [State.logPush_nwk]
  · rw [State.logPush_nwk, State.logPush_nwk]
@[simp] theorem State.logPut_acc (s : State) (e : LogEntry) :
    (s.logPut e).acc = s.acc := by
  unfold State.logPut; split
  · rw [State.logPush_acc]
  · rw [State.logPush_acc, State.logPush_acc]
@[simp] theorem State.logPut_pmu (s : State) (e : LogEntry) :
    (s.logPut e).pmu = s.pmu := by
  unfold State.logPut; split
  · rw [State.logPush_pmu]
  · rw [State.logPush_pmu, State.logPush_pmu]
@[simp] theorem State.logPut_cpu (s : State) (e : LogEntry) :
    (s.logPut e).cpu = s.cpu := by
  unfold State.logPut; split
  · rw [State.logPush_cpu]
  · rw [State.logPush_cpu, State.logPush_cpu]
@[simp] theorem State.logPut_boot (s : State) (e : LogEntry) :
    (s.logPut e).boot = s.boot := by
  unfold State.logPut; split
  · rw [State.logPush_boot]
  · rw [State.logPush_boot, State.logPush_boot]
@[simp] theorem State.logPut_sup (s : State) (e : LogEntry) :
    (s.logPut e).sup = s.sup := by
  unfold State.logPut; split
  · rw [State.logPush_sup]
  · rw [State.logPush_sup, State.logPush_sup]
@[simp] theorem State.logPut_jtag (s : State) (e : LogEntry) :
    (s.logPut e).jtag = s.jtag := by
  unfold State.logPut; split
  · rw [State.logPush_jtag]
  · rw [State.logPush_jtag, State.logPush_jtag]
@[simp] theorem State.logPut_integ (s : State) (e : LogEntry) :
    (s.logPut e).integ = s.integ := by
  unfold State.logPut; split
  · rw [State.logPush_integ]
  · rw [State.logPush_integ, State.logPush_integ]
@[simp] theorem State.logPut_upd (s : State) (e : LogEntry) :
    (s.logPut e).upd = s.upd := by
  unfold State.logPut; split
  · rw [State.logPush_upd]
  · rw [State.logPush_upd, State.logPush_upd]
@[simp] theorem State.logPut_mtr (s : State) (e : LogEntry) :
    (s.logPut e).mtr = s.mtr := by
  unfold State.logPut; split
  · rw [State.logPush_mtr]
  · rw [State.logPush_mtr, State.logPush_mtr]
@[simp] theorem State.logPut_fuse (s : State) (e : LogEntry) :
    (s.logPut e).fuse = s.fuse := by
  unfold State.logPut; split
  · rw [State.logPush_fuse]
  · rw [State.logPush_fuse, State.logPush_fuse]
@[simp] theorem State.logEntry_now (s : State) (typ block item a0 a1 : Nat) :
    (s.logEntry typ block item a0 a1).now = s.now := by
  unfold State.logEntry; dsimp only; split
  · rw [State.logPut_now]
  · rfl
@[simp] theorem State.logEntry_free (s : State) (typ block item a0 a1 : Nat) :
    (s.logEntry typ block item a0 a1).free = s.free := by
  unfold State.logEntry; dsimp only; split
  · rw [State.logPut_free]
  · rfl
@[simp] theorem State.logEntry_pending (s : State) (typ block item a0 a1 : Nat) :
    (s.logEntry typ block item a0 a1).pending = s.pending := by
  unfold State.logEntry; dsimp only; split
  · rw [State.logPut_pending]
  · rfl
@[simp] theorem State.logEntry_dom (s : State) (typ block item a0 a1 : Nat) :
    (s.logEntry typ block item a0 a1).dom = s.dom := by
  unfold State.logEntry; dsimp only; split
  · rw [State.logPut_dom]
  · rfl
@[simp] theorem State.logEntry_bus (s : State) (typ block item a0 a1 : Nat) :
    (s.logEntry typ block item a0 a1).bus = s.bus := by
  unfold State.logEntry; dsimp only; split
  · rw [State.logPut_bus]
  · rfl
@[simp] theorem State.logEntry_ev (s : State) (typ block item a0 a1 : Nat) :
    (s.logEntry typ block item a0 a1).ev = s.ev := by
  unfold State.logEntry; dsimp only; split
  · rw [State.logPut_ev]
  · rfl
@[simp] theorem State.logEntry_cfg (s : State) (typ block item a0 a1 : Nat) :
    (s.logEntry typ block item a0 a1).cfg = s.cfg := by
  unfold State.logEntry; dsimp only; split
  · rw [State.logPut_cfg]
  · rfl
@[simp] theorem State.logEntry_links (s : State) (typ block item a0 a1 : Nat) :
    (s.logEntry typ block item a0 a1).links = s.links := by
  unfold State.logEntry; dsimp only; split
  · rw [State.logPut_links]
  · rfl
@[simp] theorem State.logEntry_sch (s : State) (typ block item a0 a1 : Nat) :
    (s.logEntry typ block item a0 a1).sch = s.sch := by
  unfold State.logEntry; dsimp only; split
  · rw [State.logPut_sch]
  · rfl
@[simp] theorem State.logEntry_psw (s : State) (typ block item a0 a1 : Nat) :
    (s.logEntry typ block item a0 a1).psw = s.psw := by
  unfold State.logEntry; dsimp only; split
  · rw [State.logPut_psw]
  · rfl
@[simp] theorem State.logEntry_vlv (s : State) (typ block item a0 a1 : Nat) :
    (s.logEntry typ block item a0 a1).vlv = s.vlv := by
  unfold State.logEntry; dsimp only; split
  · rw [State.logPut_vlv]
  · rfl
@[simp] theorem State.logEntry_lgt (s : State) (typ block item a0 a1 : Nat) :
    (s.logEntry typ block item a0 a1).lgt = s.lgt := by
  unfold State.logEntry; dsimp only; split
  · rw [State.logPut_lgt]
  · rfl
@[simp] theorem State.logEntry_tim (s : State) (typ block item a0 a1 : Nat) :
    (s.logEntry typ block item a0 a1).tim = s.tim := by
  unfold State.logEntry; dsimp only; split
  · rw [State.logPut_tim]
  · rfl
@[simp] theorem State.logEntry_eth (s : State) (typ block item a0 a1 : Nat) :
    (s.logEntry typ block item a0 a1).eth = s.eth := by
  unfold State.logEntry; dsimp only; split
  · rw [State.logPut_eth]
  · rfl
@[simp] theorem State.logEntry_fin (s : State) (typ block item a0 a1 : Nat) :
    (s.logEntry typ block item a0 a1).fin = s.fin := by
  unfold State.logEntry; dsimp only; split
  · rw [State.logPut_fin]
  · rfl
@[simp] theorem State.logEntry_gwy (s : State) (typ block item a0 a1 : Nat) :
    (s.logEntry typ block item a0 a1).gwy = s.gwy := by
  unfold State.logEntry; dsimp only; split
  · rw [State.logPut_gwy]
  · rfl
@[simp] theorem State.logEntry_can (s : State) (typ block item a0 a1 : Nat) :
    (s.logEntry typ block item a0 a1).can = s.can := by
  unfold State.logEntry; dsimp only; split
  · rw [State.logPut_can]
  · rfl
@[simp] theorem State.logEntry_lin (s : State) (typ block item a0 a1 : Nat) :
    (s.logEntry typ block item a0 a1).lin = s.lin := by
  unfold State.logEntry; dsimp only; split
  · rw [State.logPut_lin]
  · rfl
@[simp] theorem State.logEntry_nwk (s : State) (typ block item a0 a1 : Nat) :
    (s.logEntry typ block item a0 a1).nwk = s.nwk := by
  unfold State.logEntry; dsimp only; split
  · rw [State.logPut_nwk]
  · rfl
@[simp] theorem State.logEntry_acc (s : State) (typ block item a0 a1 : Nat) :
    (s.logEntry typ block item a0 a1).acc = s.acc := by
  unfold State.logEntry; dsimp only; split
  · rw [State.logPut_acc]
  · rfl
@[simp] theorem State.logEntry_pmu (s : State) (typ block item a0 a1 : Nat) :
    (s.logEntry typ block item a0 a1).pmu = s.pmu := by
  unfold State.logEntry; dsimp only; split
  · rw [State.logPut_pmu]
  · rfl
@[simp] theorem State.logEntry_cpu (s : State) (typ block item a0 a1 : Nat) :
    (s.logEntry typ block item a0 a1).cpu = s.cpu := by
  unfold State.logEntry; dsimp only; split
  · rw [State.logPut_cpu]
  · rfl
@[simp] theorem State.logEntry_boot (s : State) (typ block item a0 a1 : Nat) :
    (s.logEntry typ block item a0 a1).boot = s.boot := by
  unfold State.logEntry; dsimp only; split
  · rw [State.logPut_boot]
  · rfl
@[simp] theorem State.logEntry_sup (s : State) (typ block item a0 a1 : Nat) :
    (s.logEntry typ block item a0 a1).sup = s.sup := by
  unfold State.logEntry; dsimp only; split
  · rw [State.logPut_sup]
  · rfl
@[simp] theorem State.logEntry_jtag (s : State) (typ block item a0 a1 : Nat) :
    (s.logEntry typ block item a0 a1).jtag = s.jtag := by
  unfold State.logEntry; dsimp only; split
  · rw [State.logPut_jtag]
  · rfl
@[simp] theorem State.logEntry_integ (s : State) (typ block item a0 a1 : Nat) :
    (s.logEntry typ block item a0 a1).integ = s.integ := by
  unfold State.logEntry; dsimp only; split
  · rw [State.logPut_integ]
  · rfl
@[simp] theorem State.logEntry_upd (s : State) (typ block item a0 a1 : Nat) :
    (s.logEntry typ block item a0 a1).upd = s.upd := by
  unfold State.logEntry; dsimp only; split
  · rw [State.logPut_upd]
  · rfl
@[simp] theorem State.logEntry_mtr (s : State) (typ block item a0 a1 : Nat) :
    (s.logEntry typ block item a0 a1).mtr = s.mtr := by
  unfold State.logEntry; dsimp only; split
  · rw [State.logPut_mtr]
  · rfl
@[simp] theorem State.logEntry_fuse (s : State) (typ block item a0 a1 : Nat) :
    (s.logEntry typ block item a0 a1).fuse = s.fuse := by
  unfold State.logEntry; dsimp only; split
  · rw [State.logPut_fuse]
  · rfl
@[simp] theorem State.deliver_now (s : State) (r : Reg) (i j : Nat) (ws : List Word) :
    (s.deliver r i j ws).now = s.now := by
  unfold State.deliver; split
  · rfl
  · rw [State.setWords_now]
@[simp] theorem State.deliver_free (s : State) (r : Reg) (i j : Nat) (ws : List Word) :
    (s.deliver r i j ws).free = s.free := by
  unfold State.deliver; split
  · rfl
  · rw [State.setWords_free]
@[simp] theorem State.deliver_pending (s : State) (r : Reg) (i j : Nat) (ws : List Word) :
    (s.deliver r i j ws).pending = s.pending := by
  unfold State.deliver; split
  · rfl
  · rw [State.setWords_pending]
@[simp] theorem State.deliver_mem (s : State) (r : Reg) (i j : Nat) (ws : List Word) :
    (s.deliver r i j ws).mem = s.mem := by
  unfold State.deliver; split
  · rfl
  · rw [State.setWords_mem]
@[simp] theorem State.deliver_dom (s : State) (r : Reg) (i j : Nat) (ws : List Word) :
    (s.deliver r i j ws).dom = s.dom := by
  unfold State.deliver; split
  · rfl
  · rw [State.setWords_dom]
@[simp] theorem State.deliver_ev (s : State) (r : Reg) (i j : Nat) (ws : List Word) :
    (s.deliver r i j ws).ev = s.ev := by
  unfold State.deliver; split
  · rfl
  · rw [State.setWords_ev]
@[simp] theorem State.deliver_log (s : State) (r : Reg) (i j : Nat) (ws : List Word) :
    (s.deliver r i j ws).log = s.log := by
  unfold State.deliver; split
  · rfl
  · rw [State.setWords_log]
@[simp] theorem State.deliver_cfg (s : State) (r : Reg) (i j : Nat) (ws : List Word) :
    (s.deliver r i j ws).cfg = s.cfg := by
  unfold State.deliver; split
  · rfl
  · rw [State.setWords_cfg]
@[simp] theorem State.deliver_links (s : State) (r : Reg) (i j : Nat) (ws : List Word) :
    (s.deliver r i j ws).links = s.links := by
  unfold State.deliver; split
  · rfl
  · rw [State.setWords_links]
@[simp] theorem State.deliver_sch (s : State) (r : Reg) (i j : Nat) (ws : List Word) :
    (s.deliver r i j ws).sch = s.sch := by
  unfold State.deliver; split
  · rfl
  · rw [State.setWords_sch]
@[simp] theorem State.deliver_psw (s : State) (r : Reg) (i j : Nat) (ws : List Word) :
    (s.deliver r i j ws).psw = s.psw := by
  unfold State.deliver; split
  · rfl
  · rw [State.setWords_psw]
@[simp] theorem State.deliver_vlv (s : State) (r : Reg) (i j : Nat) (ws : List Word) :
    (s.deliver r i j ws).vlv = s.vlv := by
  unfold State.deliver; split
  · rfl
  · rw [State.setWords_vlv]
@[simp] theorem State.deliver_lgt (s : State) (r : Reg) (i j : Nat) (ws : List Word) :
    (s.deliver r i j ws).lgt = s.lgt := by
  unfold State.deliver; split
  · rfl
  · rw [State.setWords_lgt]
@[simp] theorem State.deliver_tim (s : State) (r : Reg) (i j : Nat) (ws : List Word) :
    (s.deliver r i j ws).tim = s.tim := by
  unfold State.deliver; split
  · rfl
  · rw [State.setWords_tim]
@[simp] theorem State.deliver_eth (s : State) (r : Reg) (i j : Nat) (ws : List Word) :
    (s.deliver r i j ws).eth = s.eth := by
  unfold State.deliver; split
  · rfl
  · rw [State.setWords_eth]
@[simp] theorem State.deliver_fin (s : State) (r : Reg) (i j : Nat) (ws : List Word) :
    (s.deliver r i j ws).fin = s.fin := by
  unfold State.deliver; split
  · rfl
  · rw [State.setWords_fin]
@[simp] theorem State.deliver_gwy (s : State) (r : Reg) (i j : Nat) (ws : List Word) :
    (s.deliver r i j ws).gwy = s.gwy := by
  unfold State.deliver; split
  · rfl
  · rw [State.setWords_gwy]
@[simp] theorem State.deliver_can (s : State) (r : Reg) (i j : Nat) (ws : List Word) :
    (s.deliver r i j ws).can = s.can := by
  unfold State.deliver; split
  · rfl
  · rw [State.setWords_can]
@[simp] theorem State.deliver_lin (s : State) (r : Reg) (i j : Nat) (ws : List Word) :
    (s.deliver r i j ws).lin = s.lin := by
  unfold State.deliver; split
  · rfl
  · rw [State.setWords_lin]
@[simp] theorem State.deliver_nwk (s : State) (r : Reg) (i j : Nat) (ws : List Word) :
    (s.deliver r i j ws).nwk = s.nwk := by
  unfold State.deliver; split
  · rfl
  · rw [State.setWords_nwk]
@[simp] theorem State.deliver_acc (s : State) (r : Reg) (i j : Nat) (ws : List Word) :
    (s.deliver r i j ws).acc = s.acc := by
  unfold State.deliver; split
  · rfl
  · rw [State.setWords_acc]
@[simp] theorem State.deliver_pmu (s : State) (r : Reg) (i j : Nat) (ws : List Word) :
    (s.deliver r i j ws).pmu = s.pmu := by
  unfold State.deliver; split
  · rfl
  · rw [State.setWords_pmu]
@[simp] theorem State.deliver_cpu (s : State) (r : Reg) (i j : Nat) (ws : List Word) :
    (s.deliver r i j ws).cpu = s.cpu := by
  unfold State.deliver; split
  · rfl
  · rw [State.setWords_cpu]
@[simp] theorem State.deliver_boot (s : State) (r : Reg) (i j : Nat) (ws : List Word) :
    (s.deliver r i j ws).boot = s.boot := by
  unfold State.deliver; split
  · rfl
  · rw [State.setWords_boot]
@[simp] theorem State.deliver_sup (s : State) (r : Reg) (i j : Nat) (ws : List Word) :
    (s.deliver r i j ws).sup = s.sup := by
  unfold State.deliver; split
  · rfl
  · rw [State.setWords_sup]
@[simp] theorem State.deliver_jtag (s : State) (r : Reg) (i j : Nat) (ws : List Word) :
    (s.deliver r i j ws).jtag = s.jtag := by
  unfold State.deliver; split
  · rfl
  · rw [State.setWords_jtag]
@[simp] theorem State.deliver_integ (s : State) (r : Reg) (i j : Nat) (ws : List Word) :
    (s.deliver r i j ws).integ = s.integ := by
  unfold State.deliver; split
  · rfl
  · rw [State.setWords_integ]
@[simp] theorem State.deliver_upd (s : State) (r : Reg) (i j : Nat) (ws : List Word) :
    (s.deliver r i j ws).upd = s.upd := by
  unfold State.deliver; split
  · rfl
  · rw [State.setWords_upd]
@[simp] theorem State.deliver_mtr (s : State) (r : Reg) (i j : Nat) (ws : List Word) :
    (s.deliver r i j ws).mtr = s.mtr := by
  unfold State.deliver; split
  · rfl
  · rw [State.setWords_mtr]

@[simp] theorem State.deliver_fuse (s : State) (r : Reg) (i j : Nat) (ws : List Word) :
    (s.deliver r i j ws).fuse = s.fuse := by
  unfold State.deliver; split
  · rfl
  · rw [State.setWords_fuse]
@[simp] theorem State.deliver_cyc (s : State) (r : Reg) (i j : Nat) (ws : List Word) :
    (s.deliver r i j ws).cyc = s.cyc := by
  unfold State.deliver; split
  · rfl
  · rw [State.setWords_cyc]

end Sys2Proof.Machine
end

