-- ==== Sys2Proof/Laws/Ops.lean ====
section
/-! SUPPORT. What the named operations over registers and memory do: what is read after a write, at the place written and
elsewhere, and that every operation keeps the canonical form of the memory and of the register file. -/

set_option Elab.async false

namespace Sys2Proof.Machine

/-! ### Register words and fields -/

@[simp] theorem State.word_setWord_same (s : State) (r : Reg) (i j w : Nat) (v : Word) :
    (s.setWord r i j w v).word r i j w = v := by
  unfold State.word State.setWord
  dsimp only
  split
  · simp [*]
  · simp

/-- The register file at any address but the one that is written. -/
theorem State.regs_setWord_ne (s : State) (r : Reg) (i j w a : Nat) (v : Word) (h : r.addr i j w ≠ a) :
    Sparse.get (s.setWord r i j w v).regs a = Sparse.get s.regs a := by
  unfold State.setWord
  dsimp only
  split
  · exact Sparse.get_erase_ne _ _ _ h
  · exact Sparse.get_set_ne _ _ _ _ h

theorem State.word_setWord_ne (s : State) (r r' : Reg) (i j w i' j' w' : Nat) (v : Word)
    (h : r.addr i j w ≠ r'.addr i' j' w') : (s.setWord r i j w v).word r' i' j' w' = s.word r' i' j' w' := by
  unfold State.word
  rw [State.regs_setWord_ne s r i j w _ v h]

/-- A field that lies in one word as lo ≤ hi ≤ 31. -/
def Fld.fits (f : Fld) : Prop := f.lo ≤ f.hi ∧ f.hi ≤ 31

theorem State.get_put_same (s : State) (f : Fld) (v i j : Nat) (h : f.fits) :
    (s.put f v i j).get f i j = v % 2 ^ (f.hi + 1 - f.lo) := by
  unfold State.get State.put
  rw [State.word_setWord_same, bitsOf_setBits_same _ _ _ _ h.1 h.2]

/-- Two fields of one word of one register instance that share no bit. -/
theorem State.get_put_apart (s : State) (f g : Fld) (v i j : Nat) (h : f.fits) (hr : g.reg = f.reg)
    (hw : g.word = f.word) (ha : f.hi < g.lo ∨ g.hi < f.lo) : (s.put f v i j).get g i j = s.get g i j := by
  unfold State.get State.put
  rw [hr, hw, State.word_setWord_same, bitsOf_setBits_apart _ _ _ _ _ _ h.1 h.2 ha]

/-- Two fields of words at different addresses. -/
theorem State.get_put_elsewhere (s : State) (f g : Fld) (v i j i' j' : Nat)
    (h : f.reg.addr i j f.word ≠ g.reg.addr i' j' g.word) : (s.put f v i j).get g i' j' = s.get g i' j' := by
  unfold State.get State.put
  rw [State.word_setWord_ne _ _ _ _ _ _ _ _ _ _ h]

/-- A counter after one more count: one up, held at its maximum. -/
theorem State.get_bump_same (s : State) (f : Fld) (i j : Nat) (h : f.fits) :
    (s.bump f i j).get f i j = min f.top (s.get f i j + 1) := by
  unfold State.bump State.bumpBy
  rw [State.get_put_same _ _ _ _ _ h]
  unfold Fld.top
  exact Nat.mod_eq_of_lt (lt_of_le_of_lt (Nat.min_le_left _ _) (Nat.sub_lt (by positivity) Nat.one_pos))

/-! ### Memory bytes -/

@[simp] theorem State.rd8_wr8_same (s : State) (a : Nat) (v : Byte) : (s.wr8 a v).rd8 a = v := by
  unfold State.rd8 State.wr8
  dsimp only
  split
  · simp [*]
  · simp

theorem State.rd8_wr8_ne (s : State) (a b : Nat) (v : Byte) (h : a ≠ b) : (s.wr8 a v).rd8 b = s.rd8 b := by
  unfold State.rd8 State.wr8
  dsimp only
  split
  · rw [Sparse.get_erase_ne _ _ _ h]
  · rw [Sparse.get_set_ne _ _ _ _ h]

/-- A byte outside a list of bytes that is written reads as before. -/
theorem State.rd8_wrBytes_outside (s : State) (a b : Nat) (bs : List Byte) (h : b < a ∨ a + bs.length ≤ b) :
    (s.wrBytes a bs).rd8 b = s.rd8 b := by
  induction bs generalizing s a with
  | nil => rfl
  | cons x bs ih =>
    simp only [List.length_cons] at h
    rw [State.wrBytes, ih _ _ (by omega), State.rd8_wr8_ne _ _ _ _ (by omega)]

/-- A byte outside a word that is written reads as before. -/
theorem State.rd8_wr32_outside (s : State) (a b : Nat) (v : Word) (h : b < a ∨ a + 4 ≤ b) :
    (s.wr32 a v).rd8 b = s.rd8 b := by
  unfold State.wr32
  rw [State.rd8_wr8_ne _ _ _ _ (by omega), State.rd8_wr8_ne _ _ _ _ (by omega), State.rd8_wr8_ne _ _ _ _ (by omega),
    State.rd8_wr8_ne _ _ _ _ (by omega)]

/-- A byte outside a list of words that is written reads as before. -/
theorem State.rd8_wrWords_outside (s : State) (a b : Nat) (ws : List Word) (h : b < a ∨ a + 4 * ws.length ≤ b) :
    (s.wrWords a ws).rd8 b = s.rd8 b := by
  induction ws generalizing s a with
  | nil => rfl
  | cons x ws ih =>
    simp only [List.length_cons] at h
    rw [State.wrWords, ih _ _ (by omega), State.rd8_wr32_outside _ _ _ _ (by omega)]

/-- A word that is written reads back. -/
@[simp] theorem State.rd32_wr32_same (s : State) (a : Nat) (v : Word) : (s.wr32 a v).rd32 a = v := by
  unfold State.rd32 State.wr32
  rw [State.rd8_wr8_ne _ (a + 3) a _ (by omega), State.rd8_wr8_ne _ (a + 2) a _ (by omega),
    State.rd8_wr8_ne _ (a + 1) a _ (by omega), State.rd8_wr8_same, State.rd8_wr8_ne _ (a + 3) (a + 1) _ (by omega),
    State.rd8_wr8_ne _ (a + 2) (a + 1) _ (by omega), State.rd8_wr8_same,
    State.rd8_wr8_ne _ (a + 3) (a + 2) _ (by omega), State.rd8_wr8_same, State.rd8_wr8_same]
  unfold wordOf
  apply BitVec.eq_of_getLsbD_eq
  intro k hk
  simp only [BitVec.getLsbD_append, BitVec.getLsbD_extractLsb']
  by_cases h1 : k < 8
  · simp [h1]
  · by_cases h2 : k - 8 < 8
    · simp [h1, h2, show 8 + (k - 8) = k by omega]
    · by_cases h3 : k - 8 - 8 < 8
      · simp [h1, h2, h3, show 16 + (k - 8 - 8) = k by omega]
      · simp [h1, h2, h3, show 24 + (k - 8 - 8 - 8) = k by omega, show k - 8 - 8 - 8 < 8 by omega]

/-! ### Canonical forms -/

theorem Memory.wf_wr8 {s : State} (a : Nat) (v : Byte) (h : Memory.wf s.mem) : Memory.wf (s.wr8 a v).mem := by
  unfold State.wr8
  dsimp only
  split
  · exact ⟨Sparse.sortedFrom_erase h.1, fun c hc => h.2 c (Sparse.mem_erase hc).1⟩
  · refine ⟨Sparse.sortedFrom_set v (Nat.zero_le _) h.1, fun c hc => ?_⟩
    rcases Sparse.mem_set hc with rfl | hc
    · assumption
    · exact h.2 c hc

theorem Memory.wf_filter {m : List Host.Cell} (p : Host.Cell → Bool) (h : Memory.wf m) : Memory.wf (m.filter p) :=
  ⟨Sparse.sortedFrom_filter p h.1, fun c hc => h.2 c (List.mem_filter.mp hc).1⟩

theorem Memory.wf_wr32 {s : State} (a : Nat) (v : Word) (h : Memory.wf s.mem) : Memory.wf (s.wr32 a v).mem :=
  Memory.wf_wr8 _ _ (Memory.wf_wr8 _ _ (Memory.wf_wr8 _ _ (Memory.wf_wr8 _ _ h)))

theorem Memory.wf_wr16 {s : State} (a : Nat) (v : BitVec 16) (h : Memory.wf s.mem) : Memory.wf (s.wr16 a v).mem :=
  Memory.wf_wr8 _ _ (Memory.wf_wr8 _ _ h)

theorem Memory.wf_wrBytes {s : State} (a : Nat) (bs : List Byte) (h : Memory.wf s.mem) :
    Memory.wf (s.wrBytes a bs).mem := by
  induction bs generalizing s a with
  | nil => exact h
  | cons b bs ih => exact ih (a + 1) (Memory.wf_wr8 a b h)

theorem Memory.wf_wrWords {s : State} (a : Nat) (ws : List Word) (h : Memory.wf s.mem) :
    Memory.wf (s.wrWords a ws).mem := by
  induction ws generalizing s a with
  | nil => exact h
  | cons w ws ih => exact ih (a + 4) (Memory.wf_wr32 a w h)

theorem Regs.wf_setWord {s : State} (r : Reg) (i j w : Nat) (v : Word) (h : Regs.wf s.regs) :
    Regs.wf (s.setWord r i j w v).regs := by
  unfold State.setWord
  dsimp only
  split
  · exact Sparse.sortedFrom_erase h
  · exact Sparse.sortedFrom_set v (Nat.zero_le _) h

theorem Regs.wf_put {s : State} (f : Fld) (v i j : Nat) (h : Regs.wf s.regs) : Regs.wf (s.put f v i j).regs :=
  Regs.wf_setWord _ _ _ _ _ h

/-! ### The answer of a command -/

/-- A command answers a next state and keeps the queue of waiting commands. -/
theorem State.ends_eq (s t : State) : s.ends t = .next { t with pending := s.pending } := rfl

end Sys2Proof.Machine
end

