-- ==== Sys2Proof/Laws/Parts.lean ====
section
/-! SUPPORT. When a part of the flash opens, and when it is accepted (R117 to R119). -/

set_option Elab.async false

namespace Sys2Proof.Machine

/-- A part that passes checks 2 to 5 of R119 opens to its body. -/
theorem State.partOpen_ok {s : State} {a : Nat} {key body : List Byte} (hslot : (s.rd8 (a + 6)).toNat < 4)
    (hrev : bit s.fuse.revoked (s.rd8 (a + 6)).toNat = false)
    (hpub : Sha.value (s.rdBytes (a + 0x7C) 64) = s.fuse.hashes.getD (s.rd8 (a + 6)).toNat 0)
    (hkey : gcmOpen (toBE 32 s.fuse.storage) (s.rdBytes (a + 0x30) 12) [] (s.rdBytes (a + 0x3C) 32)
      (ofBE (s.rdBytes (a + 0x5C) 16)) = some key)
    (hbody : gcmOpen key (s.rdBytes (a + 0x18) 12) (s.rdBytes a 0x18) (s.rdBytes (a + 0x100) (s.rd32 (a + 0x0C)).toNat)
      (ofBE (s.rdBytes (a + 0x6C) 16)) = some body)
    (hsig : signedBy (s.rdBytes (a + 0x7C) 64) (s.rdBytes (a + 0xC0) 64) (s.rdBytes a 0x18 ++ body) = true) :
    s.partOpen a = .ok body := by
  have h4 : ¬ 4 ≤ (s.rd8 (a + 6)).toNat := by omega
  simp only [State.partOpen, h4, hrev, hpub, hkey, hbody, hsig, ne_eq, not_true_eq_false, Bool.false_eq_true, or_false, if_false, if_true]

/-- A part that passes every check of R119 is accepted with its body. -/
theorem State.partJudge_ok {s : State} {g part core a len load e off size : Nat} {body : List Byte}
    (hd : s.dirEntry g part = some (off, size)) (hh : s.partHead g part = some (a, len, load, e))
    (hc : s.headerOk a part size = true) (ho : s.partOpen a = .ok body) (hl : (s.loadAt part core load len).isNone = false)
    (hp : part ≠ 1) : s.partJudge g part core 0 = (0, body) := by
  simp [State.partJudge, hd, hh, hc, ho, hl, hp]

end Sys2Proof.Machine
end

