-- ==== Sys2Proof/Laws/Shared.lean ====
section
/-! SUPPORT. What the shared operations over ownership, event queues and cores can do, one lemma for each. -/

set_option Elab.async false

namespace Sys2Proof.Machine

/-- A write under the ownership rule: no effect where the initiator does not reach the block, the off-domain drop where its domain
is off, its effect for one who may write, the counted drop for any other. -/
theorem State.owned_cases (s : State) (init : Init) (r : Reg) (i j w : Nat) (act : State → State) :
    ((s.reachable init r.block = false ∧ r.block ≠ 17) ∧ s.owned init r i j w act = s) ∨
    ((s.reachable init r.block = true ∨ r.block = 17) ∧ (s.blockOn r.block = false ∧ s.aonAccess init r.block = false) ∧
      s.owned init r i j w act = s.offWrite init (r.addr i j w)) ∨
    ((s.reachable init r.block = true ∨ r.block = 17) ∧ (s.blockOn r.block = true ∨ s.aonAccess init r.block = true) ∧
      s.mayWrite init r i = true ∧ s.owned init r i j w act = act s) ∨
    ((s.reachable init r.block = true ∨ r.block = 17) ∧ (s.blockOn r.block = true ∨ s.aonAccess init r.block = true) ∧
      s.mayWrite init r i = false ∧ s.owned init r i j w act = s.ownDrop init r i (r.addr i j w)) := by
  unfold State.owned State.ownedAt State.reaching
  by_cases h4 : r.block = 17 <;> cases h1 : s.reachable init r.block <;> cases h2 : s.blockOn r.block <;>
    cases h3 : s.aonAccess init r.block <;> cases h : s.mayWrite init r i <;> simp_all

@[simp] theorem State.queue_setQueue_same (s : State) (n : Nat) (q : EvQueue) : (s.setQueue n q).queue n = q := by
  simp [State.queue, State.setQueue, Sparse.at]

theorem State.queue_setQueue_ne (s : State) (n k : Nat) (q : EvQueue) (h : n ≠ k) : (s.setQueue n q).queue k = s.queue k := by
  simp [State.queue, State.setQueue, Sparse.at, Sparse.get_set_ne _ _ _ _ h]

/-- The queues depend on the events alone. -/
theorem State.queue_congr {s t : State} (h : t.ev = s.ev) (n : Nat) : t.queue n = s.queue n := by
  unfold State.queue
  rw [h]

/-- A queue with room takes an entry at its end, which carries the mark of what was lost before it. -/
theorem State.queue_enqueue_room (s : State) (n : Nat) (e : Event) (h : (s.queue n).entries.length < queueCap n) :
    (s.enqueue n e).queue n =
      { s.queue n with entries := (s.queue n).entries ++ [{ e with ovf := e.ovf || (s.queue n).ovfNext }], ovfNext := false } := by
  unfold State.enqueue
  rw [if_pos h]
  exact State.queue_setQueue_same _ _ _

/-- A full queue keeps its entries, counts the loss and marks it. -/
theorem State.queue_enqueue_full (s : State) (n : Nat) (e : Event) (h : ¬ (s.queue n).entries.length < queueCap n) :
    (s.enqueue n e).queue n = { s.queue n with lost := min 0xFFFF ((s.queue n).lost + 1), ovfNext := true } := by
  unfold State.enqueue
  rw [if_neg h, State.queue_congr (State.cum_ev _ _)]
  exact State.queue_setQueue_same _ _ _

/-! ### Cores -/

@[simp] theorem State.core_setCore_same (s : State) (c : Nat) (k : Core) : (s.setCore c k).core c = k := by
  simp [State.core, State.setCore, Sparse.at]

theorem State.core_setCore_ne (s : State) (c d : Nat) (k : Core) (h : c ≠ d) : (s.setCore c k).core d = s.core d := by
  simp [State.core, State.setCore, Sparse.at, Sparse.get_set_ne _ _ _ _ h]

@[simp] theorem State.setCore_regs (s : State) (c : Nat) (k : Core) : (s.setCore c k).regs = s.regs := rfl
@[simp] theorem State.setCore_mem (s : State) (c : Nat) (k : Core) : (s.setCore c k).mem = s.mem := rfl
@[simp] theorem State.setCore_ev (s : State) (c : Nat) (k : Core) : (s.setCore c k).ev = s.ev := rfl
@[simp] theorem State.setPc_pc (s : State) (c : Nat) (v : Word) : (s.setPc c v).pc c = v := by
  simp [State.pc, State.setPc]
@[simp] theorem State.setPc_regs (s : State) (c : Nat) (v : Word) : (s.setPc c v).regs = s.regs := rfl
@[simp] theorem State.setPc_mem (s : State) (c : Nat) (v : Word) : (s.setPc c v).mem = s.mem := rfl

/-- A word of a core: nothing where the core carries out none, a trap where its fetch is refused or meets an uncorrectable
word, else the word's own effect. -/
theorem State.insn_cases (s : State) (c : Nat) (act : State → State) :
    (s.coreLive c = false ∧ s.insn c act = s) ∨
    (s.coreLive c = true ∧ (s.fetchable c (s.pc c).toNat = false ∨ s.permits c (s.pc c).toNat F.CPU_RBASE_X = false) ∧
      s.insn c act = s.tookFresh.trap c 6 0 (BitVec.ofNat 32 s.fresh) (some (s.pc c).toNat)) ∨
    (s.coreLive c = true ∧ s.fetchable c (s.pc c).toNat = true ∧ s.permits c (s.pc c).toNat F.CPU_RBASE_X = true ∧
      ((s.wordBad (physAt c (s.pc c).toNat) = true ∧ ∃ t : State, t = s.badSeen 1 (physAt c (s.pc c).toNat) ∧
          s.insn c act = t.tookFresh.trap c 8 0 (BitVec.ofNat 32 t.fresh) (some (s.pc c).toNat)) ∨
        (s.wordBad (physAt c (s.pc c).toNat) = false ∧ s.insn c act = act s))) := by
  unfold State.insn
  cases h1 : s.coreLive c
  · exact .inl ⟨rfl, by simp⟩
  · cases h2 : s.fetchable c (s.pc c).toNat <;> cases h3 : s.permits c (s.pc c).toNat F.CPU_RBASE_X <;>
      cases h4 : s.wordBad (physAt c (s.pc c).toNat) <;> simp_all

end Sys2Proof.Machine
end

