-- ==== Sys2Proof/Tests/Setup.lean ====
section
/-! SUPPORT. Small states for the tests: a device in RUN with every domain on, whose items all belong to partition 0. -/

set_option Elab.async false

namespace Sys2Proof.Tests

open Sys2Proof.Machine

/-- Partition 0 owns every item of every class. -/
def allOwners : List OwnEntry := (List.range 19).map (fun k => ⟨k, 0, 0, 65535⟩)

/-- A device in RUN: domains on, bring-up ended, each partition on its own core, supply in the full zone. -/
def base : State :=
  (((({ State.reset with
    now := 64000000000
    dom := 1023
    sup := { State.reset.sup with inP := false }
    cfg := { CfgState.reset with owners := allOwners }
    boot := { BootState.reset with step := 11 } }.setPwr 0).put F.SYS_PARTHOST_HOST0 0).put F.SYS_PARTHOST_HOST1 1).put
    F.SYS_PARTHOST_HOST2 2).put F.SYS_PARTHOST_HOST3 3

/-- A public key of P-256, that of the private key 5, and its SHA-256. -/
def toolKey : List Byte := toBE 32 0x51590b7a515140d2d784c85608668fdfef8c82fd1f5be52421554a0dc3d033ed ++
  toBE 32 0xe0c17da8904a727d8ae1bf36bf8a79260d012f00d4d80888d1d0bb44fda16da4
def toolHash : Nat := 0x2db9dde21110dc9f1c8aee68e7adb48907460072e13742a05a2d71340958f1dc

/-- The flash image of a stencil library of 8 bytes: its header, key, tags and signature, and its encrypted body (R117). -/
def partImage : List Byte :=
  toBE 44 0x4b58505421010000010000000800000000005a40ffffffff0000000000000000000000000000000000000000 ++
  toBE 44 0x00000000000000000000000000000000cea6423e49656d690f47cfd8b6fe9317627111d923b33c63c9bbef95 ++
  toBE 44 0x691b2b915ce84de46054e33c0c27f35305093113d0066e8781d20fbc7775b767a34f376d51590b7a515140d2 ++
  toBE 44 0xd784c85608668fdfef8c82fd1f5be52421554a0dc3d033ede0c17da8904a727d8ae1bf36bf8a79260d012f00 ++
  toBE 44 0xd4d80888d1d0bb44fda16da400000000088bb9ff22ab291a74c86fc677ba897baadee370cc6129b82d170ba3 ++
  toBE 44 0xfc26415ce250b2222e6e946753ae885ffc990cd76665b36ff32b218fb63c490825d234560fbeb6dab02a8442

/-- Memory cells that hold bytes from an address on. -/
def cellsAt : Nat → List Byte → List Host.Cell
  | _, [] => []
  | a, b :: bs => (a, b) :: cellsAt (a + 1) bs

/-- The same device in step 10 of a bring-up, with a flash whose generation A has a directory of one part (R115); its CRC is that of code 3 of
R499. -/
def dirBase : State :=
  { base with
    mem := cellsAt 0x20100000 [0x4B, 0x58, 0x47, 0x44] ++ cellsAt 0x20100010 [0x21] ++ cellsAt 0x20100014 [0, 0x10, 0, 0, 8, 1, 0, 0] ++
      cellsAt 0x20100FFC (leB 4 1773471714)
    boot := { base.boot with step := 10, parts := [0x21] }
    fuse := { FuseState.reset with hashes := [toolHash, 0, 0, 0] } }

/-- The same device with that part in place, signed by the key of slot 0 (R118). -/
def partBase : State := { dirBase with mem := dirBase.mem ++ cellsAt 0x20101000 partImage }

/-- The same device with a message in MTR_TXBUF, as a partition writes it for the metering island (R582, R583). -/
def requestBase (typ seq : Nat) (p : List Byte) : State :=
  let m := mtrMsg typ 0 seq p
  ((List.range (m.length / 4)).foldl (fun t k => t.setWord .MTR_TXBUF k 0 0
    (wordOf (m.getD (4 * k) 0) (m.getD (4 * k + 1) 0) (m.getD (4 * k + 2) 0) (m.getD (4 * k + 3) 0)))
    (base.put F.MTR_STAT_LINK 1)).put F.MTR_TXHEAD_HEAD m.length

/-- The same device with core c carrying out words in its local memory, in supervisor mode, with two registers set. -/
def coreBase (c : Nat) (a b : Word) : State :=
  ({ base with mtr := { base.mtr with on := true } }.put F.CPU_STATUS_MODE 1 c).setCore c
    ⟨[(5, a), (6, b)], 0x08000100, .running, false, 0⟩

end Sys2Proof.Tests
end

