-- ==== Sys2Proof/Tests/Slice0.lean ====
section
/-! SUPPORT. Tests: the refusal of ill-formed commands, words and values that the spec prints, and for every statement with hypotheses a
state and operands that meet them. -/

set_option Elab.async false

namespace Sys2Proof.Tests

open Sys2Proof Sys2Proof.Machine

/-! ### Ill-formed commands (WellFormed.lean) -/

/-- It names an initiator that is no partition that the hardware does not have. -/
theorem test_illFormed_1 : Instr.wf (.snapshot (.part 4) 0x40000000) = false := by decide +kernel

/-- It carries an address of more than 32 bits. -/
theorem test_illFormed_2 : Instr.wf (.snapshot .aon 0x100000000) = false := by decide +kernel

/-- It names a link that the hardware does not have. -/
theorem test_illFormed_3 : Instr.wf (.linkWord 12 [] false .other) = false := by decide +kernel

/-- It names a lane of a link that the hardware does not have. -/
theorem test_illFormed_4 : Instr.wf (.linkWord 0 [81] false .other) = false := by decide +kernel

/-- It names a block that has no groups that the hardware does not have. -/
theorem test_illFormed_5 : Instr.wf (.memberWrite .aon 6 0 0 0) = false := by decide +kernel

/-- It names an access size that the hardware does not have. -/
theorem test_illFormed_6 : Instr.wf (.debugLoad 0 0x10000000 3) = false := by decide +kernel

/-- It names a scale that the hardware does not have. -/
theorem test_illFormed_7 : Instr.wf (.servoOffset 3 0) = false := by decide +kernel

/-- It names a power channel that the hardware does not have. -/
theorem test_illFormed_8 : Instr.wf (.pswCmdOn (.part 0) 60) = false := by decide +kernel

/-- It names a valve output that the hardware does not have. -/
theorem test_illFormed_9 : Instr.wf (.vlvCmdOn (.part 0) 24) = false := by decide +kernel

/-- It names a membership bit that the hardware does not have. -/
theorem test_illFormed_10 : Instr.wf (.lgtCmdOn (.part 0) 16) = false := by decide +kernel

/-- It names a target index that the hardware does not have. -/
theorem test_illFormed_11 : Instr.wf (.pulseTrailingEdge 104) = false := by decide +kernel

/-- It names a protected site that the hardware does not have. -/
theorem test_illFormed_12 : Instr.wf (.currentLimitEntry 108) = false := by decide +kernel

/-- It names an analogue input that the hardware does not have. -/
theorem test_illFormed_13 : Instr.wf (.analogueConversion 63 0) = false := by decide +kernel

/-- It names a fast input that the hardware does not have. -/
theorem test_illFormed_14 : Instr.wf (.fastInputEdge 87 false) = false := by decide +kernel

/-- It carries more data than a frame holds. -/
theorem test_illFormed_15 : Instr.wf (.frameAcceptance 0 0 8 false false false false false 0 (List.replicate 65 0) false) = false := by decide +kernel

/-- It carries a buffer with a word too few. -/
theorem test_illFormed_16 : Instr.wf (.transmitRequest (.part 0) 0 0 (List.replicate 23 0)) = false := by decide +kernel

/-- It names an access slot that the hardware does not have. -/
theorem test_illFormed_17 : Instr.wf (.accessPollBurst [8]) = false := by decide +kernel

/-- It names a C6 core that the hardware does not have. -/
theorem test_illFormed_18 : Instr.wf (.coreCheckError [5]) = false := by decide +kernel

/-- It names a core that the hardware does not have. -/
theorem test_illFormed_19 : Instr.wf (.addi 7 0 0 0) = false := by decide +kernel

/-- It names a general register that the hardware does not have. -/
theorem test_illFormed_20 : Instr.wf (.addi 0 32 0 0) = false := by decide +kernel

/-- It names an immediate that the hardware does not have. -/
theorem test_illFormed_21 : Instr.wf (.addi 0 0 0 0x4000) = false := by decide +kernel

/-- It names a count of bit errors that the hardware does not have. -/
theorem test_illFormed_22 : Instr.wf (.ldw 0 0 0 0 4) = false := by decide +kernel

/-- It carries a workshop message without its header. -/
theorem test_illFormed_23 : Instr.wf (.wsmsg 0 0 0 0 [1, 2, 3, 4, 5, 6, 7]) = false := by decide +kernel

/-- It carries a slot of more than 15 bits. -/
theorem test_illFormed_24 : Instr.wf (.shortMov 0 false 0 0 0x8000 0) = false := by decide +kernel

/-- Commands at the edge of their ranges. -/
theorem test_wellFormed :
    ([.snapshot (.part 3) 0xFFFFFFFC, .pswCmdOn (.part 0) 71, .lgtCmdOn (.part 0) 163, .pulseTrailingEdge 399,
      .analogueConversion 87 0, .addi 6 31 31 0x3FFF] : List Instr).all Instr.wf = true := by decide +kernel

/-! ### Words and values that the spec prints -/

/-- The word of the first worked example of chapter 17. -/
theorem test_encode_divu : encR 0x00 5 6 7 0x0B = 0x00298E0B#32 := by decide +kernel

/-- The pair of the second: MOV g6, g5 beside ADDQ g5, 1. -/
theorem test_encode_pair : encPair (encSlot 0x01 6 5) (encSlot 0x0C 5 1) = 0x84C530A1#32 := by decide +kernel

/-- R598: the pair of that example reads before it writes. -/
theorem test_pair_reads_first :
    let t := (coreBase 0 255#32 0#32).runWord 0 0x84C530A1#32
    t.g 0 6 = 255#32 ∧ t.g 0 5 = 256#32 ∧ t.pc 0 = 0x08000104#32 := by decide +kernel

/-- R613, the first worked example: CPU_STATUS after a trap reads EXL 1, IE 0, MODE 1. -/
theorem test_trap_status : ((coreBase 6 7#32 9#32).runWord 6 0x00298E0B#32).word .CPU_STATUS 6 0 0 = 5#32 := by decide +kernel

/-- The opcode table gives its rows no bits, so no word spells a command. -/
theorem test_no_word_spells_a_command : decodeTableWord 32 0 = none := by decide

/-- A step on an empty queue lets one unit of T0 pass. -/
theorem test_idle : step State.reset = .next { State.reset with now := 1 } := rfl

/-! ### The part image of `partBase` -/

/-- What cells laid from an address on give. -/
theorem get_cellsAt (a k : Nat) (bs : List Byte) : Sparse.get (cellsAt a bs) k = if a ≤ k then bs[k - a]? else none := by
  induction bs generalizing a with
  | nil => simp [cellsAt, Sparse.get]
  | cons b bs ih =>
    rcases Nat.lt_trichotomy a k with h | h | h
    · have h1 : k - a = (k - (a + 1)) + 1 := by omega
      simp [cellsAt, Sparse.get, ih, h1, Nat.ne_of_lt h, Nat.le_of_lt h, Nat.succ_le_of_lt h]
    · simp [cellsAt, Sparse.get, h]
    · simp [cellsAt, Sparse.get, ih, Nat.ne_of_gt h, Nat.not_le_of_lt h, Nat.not_le_of_lt (Nat.lt_succ_of_lt h)]

/-- Cells laid after others are read where the others do not reach. -/
theorem get_append (xs ys : List Host.Cell) (k : Nat) :
    Sparse.get (xs ++ ys) k = (Sparse.get xs k).or (Sparse.get ys k) := by
  induction xs with
  | nil => rfl
  | cons c cs ih =>
    by_cases h : c.1 = k <;> simp [Sparse.get, h, ih]

theorem partBase_below (k : Nat) (h : k < 0x20101000) : partBase.rd8 k = dirBase.rd8 k := by
  simp [State.rd8, partBase, get_append, get_cellsAt, Nat.not_le_of_lt h]

theorem dirBase_above (k : Nat) (h : 0x20101000 ≤ k) : Sparse.get dirBase.mem k = none := by
  simp only [dirBase, get_append, get_cellsAt]
  rw [List.getElem?_eq_none (by simp; omega), List.getElem?_eq_none (by simp; omega), List.getElem?_eq_none (by simp; omega),
    List.getElem?_eq_none (by simp [leB]; omega)]
  simp

set_option maxRecDepth 10000000 in
theorem partBase_image (o n : Nat) (h : o + n ≤ 264) : partBase.rdBytes (0x20101000 + o) n = (partImage.drop o).take n := by
  have hl : partImage.length = 264 := by decide +kernel
  refine List.ext_getElem (by simp [State.rdBytes, hl]; omega) fun k h1 h2 => ?_
  have hk : k < n := by simpa [State.rdBytes] using h1
  have hg : Sparse.get dirBase.mem (0x20101000 + (o + k)) = none := dirBase_above _ (by omega)
  have hb : o + k < partImage.length := by omega
  simp [State.rdBytes, State.rd8, partBase, get_append, hg, get_cellsAt, List.getElem?_eq_getElem hb, Nat.add_assoc]
theorem partBase_nums (n : Nat) (hn : n ≤ 0x1000) : partBase.nums 0x20100000 n = dirBase.nums 0x20100000 n := by
  unfold State.nums State.rdBytes
  refine congrArg (List.map _) (List.map_congr_left fun k hk => partBase_below _ ?_)
  have := List.mem_range.mp hk
  omega

set_option maxRecDepth 10000000 in
theorem dirBase_dirGood : dirBase.dirGood 0 = true := by decide +kernel

theorem partBase_dirGood : partBase.dirGood 0 = true := by
  rw [← dirBase_dirGood]
  unfold State.dirGood genBase State.rd32
  simp only [if_true, partBase_nums 4 (by decide), partBase_nums 0xFFC (by decide),
    partBase_below (0x20100000 + 0xFFC) (by decide), partBase_below (0x20100000 + 0xFFC + 1) (by decide),
    partBase_below (0x20100000 + 0xFFC + 2) (by decide), partBase_below (0x20100000 + 0xFFC + 3) (by decide)]

theorem partBase_dirEntry : partBase.dirEntry 0 0x21 = some (0x1000, 0x108) := by
  unfold State.dirEntry
  rw [partBase_dirGood]
  decide +kernel

theorem partBase_head : partBase.partHead 0 0x21 = some (0x20101000, 8, 0x405A0000, 0xFFFFFFFF) := by
  unfold State.partHead
  rw [partBase_dirEntry]
  decide +kernel


set_option maxRecDepth 10000000 in
theorem partBase_key : gcmOpen (toBE 32 0) ((partImage.drop 0x30).take 12) [] ((partImage.drop 0x3C).take 32)
    (ofBE ((partImage.drop 0x5C).take 16)) = some ((List.range 32).map (BitVec.ofNat 8)) := by decide +kernel

set_option maxRecDepth 10000000 in
theorem partBase_body : gcmOpen ((List.range 32).map (BitVec.ofNat 8)) ((partImage.drop 0x18).take 12) (partImage.take 0x18)
    ((partImage.drop 0x100).take 8) (ofBE ((partImage.drop 0x6C).take 16)) = some [1, 2, 3, 4, 5, 6, 7, 255] := by decide +kernel

set_option maxRecDepth 10000000 in
theorem partBase_signed : (partImage.drop 0x7C).take 64 = toolKey ∧
    signedBy toolKey ((partImage.drop 0xC0).take 64) (partImage.take 0x18 ++ [1, 2, 3, 4, 5, 6, 7, 255]) = true ∧
    Sha.value toolKey = toolHash := by decide +kernel

set_option maxRecDepth 10000000 in
theorem partBase_judge : partBase.partJudge 0 0x21 0x11 0 = (0, [1, 2, 3, 4, 5, 6, 7, 255]) := by
  have hs : (partBase.rd8 (0x20101000 + 6)).toNat = 0 := by decide +kernel
  have hn : (partBase.rd32 (0x20101000 + 0x0C)).toNat = 8 := by decide +kernel
  have h0 : partBase.rdBytes 0x20101000 0x18 = partImage.take 0x18 := partBase_image 0 0x18 (by decide)
  have im := partBase_image
  refine State.partJudge_ok partBase_dirEntry partBase_head (by decide +kernel) (State.partOpen_ok
    (key := (List.range 32).map (BitVec.ofNat 8)) ?_ ?_ ?_ ?_ ?_ ?_)
    (by decide +kernel) (by decide)
  · rw [hs]; decide
  · rw [hs]; rfl
  · rw [hs, im 0x7C 64 (by decide), partBase_signed.1, partBase_signed.2.2]; rfl
  · rw [im 0x30 12 (by decide), im 0x3C 32 (by decide), im 0x5C 16 (by decide)]; exact partBase_key
  · rw [hn, h0, im 0x18 12 (by decide), im 0x100 8 (by decide), im 0x6C 16 (by decide)]; exact partBase_body
  · rw [h0, im 0x7C 64 (by decide), im 0xC0 64 (by decide), partBase_signed.1]; exact partBase_signed.2.1

/-- R536, R499: the frame of a request for VCORE at nominal level with SEQ 1 is 0xA2073A, its CRC worked out by hand with polynomial 0x2F. -/
theorem test_rail_frame : (base.railSend 0 32 3).railFrame = some 0xA2073A := by decide +kernel

/-! ### Witnesses -/

theorem witness_RegisterReadsComplete :
    (let s : State := base
    let a : Nat := Reg.addr .TIM_T0 0 0 0
    let i : Nat := 0
    let j : Nat := 0
    let w : Nat := 0
    let r : Reg := .TIM_T0
    (s.carries a) ∧ (a % 4 = 0) ∧ (regAt a = some (r, i, j, w)) ∧ (r.wide = true) ∧ (w = 0)) ∧
    (let s : State := base.readBy (.part 0) 0x40000000
    let init : Init := .part 0
    let a : Nat := 0x40000008
    let i : Nat := 0
    let j : Nat := 0
    let w : Nat := 2
    let r : Reg := .TIM_T0
    let x : Snap := ⟨.part 0, .TIM_T0, 0, 0, t0Words 64000000000, 64000000000⟩
    (s.carries a) ∧ (a % 4 = 0) ∧ (regAt a = some (r, i, j, w)) ∧ (r.wide = true) ∧ (0 < w) ∧ (w + 1 = r.geom.words) ∧ (s.snapOf init r i j = some x)) ∧
    (let s : State := base
    let init : Init := .part 0
    let a : Nat := Reg.addr .TIM_T0 0 0 1
    let i : Nat := 0
    let j : Nat := 0
    let w : Nat := 1
    let r : Reg := .TIM_T0
    (s.carries a) ∧ (a % 4 = 0) ∧ (regAt a = some (r, i, j, w)) ∧ (r.wide = true) ∧ (0 < w) ∧ (s.snapOf init r i j = none)) ∧
    (let s : State := base
    let init : Init := .part 0
    let a : Nat := Reg.addr .PSW_CNT 5 0 0
    let i : Nat := 5
    let j : Nat := 0
    let w : Nat := 0
    let r : Reg := .PSW_CNT
    (s.carries a) ∧ (a % 4 = 0) ∧ (regAt a = some (r, i, j, w)) ∧ (r.wide = false) ∧ (s.ownRead init r i = true)) ∧
    (let s : State := { base.readBy (.part 0) 0x40000000 with now := 64004000000 }
    let init : Init := .part 0
    let a : Nat := 0x40000008
    let i : Nat := 0
    let j : Nat := 0
    let w : Nat := 2
    let r : Reg := .TIM_T0
    let x : Snap := ⟨.part 0, .TIM_T0, 0, 0, t0Words 64000000000, 64000000000⟩
    (inBlocks a = true) ∧ (a % 4 = 0) ∧ (regAt a = some (r, i, j, w)) ∧ (s.snapOf init r i j = some x) ∧ (x.at_ + 250 * usUnits ≤ s.now)) := by
  refine ⟨?_, ?_, ?_, ?_, ?_⟩ <;> decide +kernel

theorem witness_RegisterWritesComplete :
    (let s : State := base
    let init : Init := .part 0
    let a : Nat := Reg.addr .SCH_ENTRY 2 5 1
    let i : Nat := 2
    let j : Nat := 5
    let w : Nat := 1
    let r : Reg := .SCH_ENTRY
    (s.carries a) ∧ (a % 4 = 0) ∧ (regAt a = some (r, i, j, w)) ∧ (s.mayWrite init r i = true) ∧ (r.writable = true) ∧ (r.wide = true) ∧ (r ≠ .SCH_RULE) ∧ (w + 1 < r.geom.words)) ∧
    (let s : State := base
    let init : Init := .part 0
    let a : Nat := Reg.addr .CHK_CFG 3 0 0
    let i : Nat := 3
    let j : Nat := 0
    let w : Nat := 0
    let r : Reg := .CHK_CFG
    (s.carries a) ∧ (a % 4 = 0) ∧ (regAt a = some (r, i, j, w)) ∧ (s.mayWrite init r i = true) ∧ (r.writable = true) ∧ (r.wide = false) ∧ (r.block = 11 ∨ r.block = 12)) ∧
    (let s : State := base
    let n : Nat := 2
    let a : Nat := Reg.addr .CHK_CFG 3 0 0
    let i : Nat := 3
    let j : Nat := 0
    let w : Nat := 0
    let r : Reg := .CHK_CFG
    (s.carries a) ∧ (a % 4 = 0) ∧ (n < 4) ∧ (regAt a = some (r, i, j, w)) ∧ (r.block = 11 ∨ r.block = 12) ∧ (s.mayWrite (.part n) r i = false)) ∧
    (let s : State := base
    let init : Init := .part 0
    let r : Nat := 1
    (r < 256) ∧ (s.domOn domFAB = true) ∧ (s.blockOn 2 = true) ∧ (s.mayWrite init .SCH_RULE r = true)) := by
  refine ⟨?_, ?_, ?_, ?_⟩ <;> decide +kernel

theorem witness_AccessesWithoutATargetAreCounted :
    (let s : State := base
    let a : Nat := 0x40000FF0
    (s.carries a) ∧ (a % 4 = 0) ∧ (regAt a = none)) ∧
    (let s : State := base
    let a : Nat := 0x30000000
    (s.domOn domFAB = true) ∧ (decoded a = false) ∧ (inRetention a = false) ∧ (a % 4 = 0)) ∧
    (let s : State := { base with dom := 1023 - 32 }
    let n : Nat := 1
    let a : Nat := 0x40700000
    (n < 4) ∧ (s.domOn domFAB = true) ∧ (a % 4 = 0) ∧ (inBlocks a = true) ∧ (s.blockOn (blockOf a) = false) ∧ (s.room n)) ∧
    (let s : State := { base with dom := 1023 - 32 }
    let n : Nat := 1
    let a : Nat := 0x40700000
    (n < 4) ∧ (s.domOn domFAB = true) ∧ (a % 4 = 0) ∧ (inBlocks a = true) ∧ (s.blockOn (blockOf a) = false) ∧ (s.room n)) := by
  refine ⟨?_, ?_, ?_, ?_⟩ <;> decide +kernel

theorem witness_GroupWritesComplete :
    (let s : State := base.setWord .PSW_MEMBER 3 0 0 0x30#32
    let n : Nat := 0
    let a : Nat := 0x40383004
    let g : Nat := 3
    let o : Nat := 4
    let block : Nat := 3
    let m : Nat := 5
    let x : Nat := 5
    let r : Reg := .PSW_CFG
    (n < 4) ∧ (g < 32) ∧ (s.domOn domFAB = true) ∧ (a % 4 = 0) ∧ (inStencils a = false) ∧ (pageOf a = some (block, g, o)) ∧ (o < 0xF00) ∧ (s.blockOn block = true) ∧ (pageReg block o = some r) ∧ (r.writable = true) ∧ (s.ownsSpec (.part n) (.item 0x0B ((if block = 3 then 96 else if block = 4 then 128 else 160) + g)) = true) ∧ (m ∈ s.members block g) ∧ (pageHas block m r = true) ∧ (memberTarget block m = some x) ∧ (s.ownerOf (targetSpec x) = some n)) ∧
    (let s : State := base
    let n : Nat := 0
    let block : Nat := 3
    let g : Nat := 3
    let w : Nat := 1
    (n < 4) ∧ (block = 3 ∨ block = 4 ∨ block = 5) ∧ (g < 32) ∧ (w < 8) ∧ ((groupReg block).valid g w = true) ∧ (s.domOn domFAB = true) ∧ (s.blockOn block = true) ∧ (s.ownsSpec (.part n) (.item 0x0B ((if block = 3 then 96 else if block = 4 then 128 else 160) + g)) = true)) := by
  refine ⟨?_, ?_⟩ <;> decide +kernel

theorem witness_LinkFaultsAreCountedAndMoved :
    (let s : State := base
    let l : Nat := 3
    let lanes : List Nat := [4, 7]
    let parityBad : Bool := false
    let n : Nat := 2
    (l < 12) ∧ (n < 4) ∧ (s.domOn domFAB = true) ∧ ((s.link l).pausedTo = none) ∧ (parityBad = true ∨ 2 ≤ (s.badLanes l lanes).length) ∧ (s.room n)) ∧
    (let s : State := base
    let l : Nat := 3
    let x : Nat := 7
    let lanes : List Nat := [7]
    (l < 12) ∧ (s.domOn domFAB = true) ∧ ((s.link l).pausedTo = none) ∧ (s.badLanes l lanes = [x])) ∧
    (let s : State := base
    let l : Nat := 3
    let lanes : List Nat := []
    (l < 12) ∧ (s.domOn domFAB = true) ∧ (s.badLanes l lanes = [])) ∧
    (let s : State := base
    let l : Nat := 3
    let x : Nat := 7
    (l < 12) ∧ (x < 80) ∧ (s.domOn domFAB = true) ∧ ((s.link l).moved = none) ∧ (80 ∉ (s.link l).failed) ∧ (x ∉ (s.link l).failed)) := by
  refine ⟨?_, ?_, ?_, ?_⟩ <;> decide +kernel

theorem witness_SupplyZonesComplete :
    (let s : State := base
    (s.sup.inP = false)) ∧
    (let s : State := { (base.put F.PSW_CMD_OUT 1 5).put F.PSW_CMD_OUT 2 66 with sup := { base.sup with cutFrom := some 1000 } }
    let f : Nat := 1000
    (s.sup.cutFrom = some f) ∧ (f + 2 * msUnits ≤ s.now) ∧ (s.psw.cut = []) ∧ (s.domOn domPWR = true)) ∧
    (let s : State := base
    (s.sup.inP = false)) ∧
    (let s : State := base
    (s.sup.inP = false)) ∧
    (let s : State := State.reset
    (s.sup.inP = true)) ∧
    (let s : State := { base with psw := { base.psw with cut := powerChannels } }
    (s.sup.inP = false) ∧ (s.domOn domPWR = true)) := by
  refine ⟨?_, ?_, ?_, ?_, ?_, ?_⟩ <;> decide +kernel

theorem witness_DeviceResetsComplete :
    (let s : State := (base.put F.PMU_RAIL_ON 7).put F.PMU_SUPPLY_PGC 1
    let i : Bool := false
    ((if i then bit (s.get F.PMU_RAIL_ON) 1 || bit (s.get F.PMU_RAIL_ON) 2 else bit (s.get F.PMU_RAIL_ON) 0) = true) ∧ (s.get (if i then F.PMU_SUPPLY_PGI else F.PMU_SUPPLY_PGC) = 1)) ∧
    (let s : State := (base.put F.PSW_CMD_OUT 1 5).put F.PSW_CMD_OUT 2 66
    (Regs.wf s.regs) ∧ (s.sup.resetFrom = none) ∧ (s.sup.inP = false)) ∧
    (let s : State := { base with sup := { base.sup with resetFrom := some 0 } }
    let f : Nat := 0
    (s.sup.resetFrom = some f) ∧ (f + 10 * msUnits ≤ s.now) ∧ (s.sup.longDone = false) ∧ (s.domOn domPWR = true)) ∧
    (let s : State := { base with sup := { base.sup with resetFrom := some 0 } }
    let f : Nat := 0
    (s.sup.resetFrom = some f) ∧ (s.sup.inP = false)) ∧
    (let s : State := base
    (s.domOn domPWR = true)) ∧
    (let s : State := base
    (s.domOn domPWR = true)) ∧
    (let s : State := { base with sup := { base.sup with resetFrom := some 5, inP := true } }
    let f : Nat := 5
    (s.sup.resetFrom = some f) ∧ (s.sup.inP = true)) := by
  refine ⟨?_, ?_, ?_, ?_, ?_, ?_, ?_⟩ <;> decide +kernel

set_option maxRecDepth 10000000 in
theorem witness_BringUpStepsComplete :
    (let s : State := { base with dom := 8, boot := { base.boot with step := 2, doms := [9, 7, 0] } }
    let d : Nat := 9
    let e : Nat := 7
    let ds : List Nat := [0]
    (s.boot.doms = d :: e :: ds) ∧ (s.boot.domAt + 200 * usUnits ≤ s.now)) ∧
    (let s : State := { base with boot := { base.boot with step := 5, kind := 0, sramDone := false } }
    (s.boot.kind ≤ 1) ∧ (s.boot.sramDone = false) ∧ (s.domOn domFAB = true) ∧ (2 ≤ s.boot.step) ∧ (s.boot.step ≠ 11)) ∧
    (let s : State := { base with boot := { base.boot with step := 4, kind := 0 } }
    (s.boot.step = 4) ∧ (s.boot.kind ≠ 2)) ∧
    (let s : State := { base.setPwr 5 with now := 40000000000000, boot := { base.boot with step := 12, serviceAt := some 0 } }
    let f : Nat := 0
    (s.boot.serviceAt = some f) ∧ (s.boot.step = 12) ∧ (s.upd.sessions = []) ∧ (f + 1800 * secUnits ≤ s.now) ∧ (s.pwr = 5)) ∧
    (let s : State := partBase
    let verdict : Nat := 0
    let h : Nat := 0x20101000
    let len : Nat := 8
    let load : Nat := 0x405A0000
    let e : Nat := 0xFFFFFFFF
    let body : List Byte := [1, 2, 3, 4, 5, 6, 7, 255]
    let rest : List Nat := []
    (s.boot.step = 10) ∧ (s.boot.kind ≠ 3) ∧ (s.boot.parts = 0x21 :: rest) ∧ (s.partHead s.boot.gen 0x21 = some (h, len, load, e)) ∧ (s.partJudge s.boot.gen 0x21 0x11 verdict = (0, body))) := by
  refine ⟨?_, ?_, ?_, ?_, by decide +kernel, by decide +kernel, by decide +kernel, partBase_head, partBase_judge⟩ <;> decide +kernel

theorem witness_RegisterRecordsComplete :
    (let s : State := { base with boot := { base.boot with jobs := [⟨none, [BitVec.ofNat 32 (Reg.addr .CHK_CFG 3 0 0), 0xFFFFFFFF#32, 5], none⟩], step := 9 } }
    let js : List RecJob := []
    let j : RecJob := ⟨none, [BitVec.ofNat 32 (Reg.addr .CHK_CFG 3 0 0), 0xFFFFFFFF#32, 5], none⟩
    let w : Word := BitVec.ofNat 32 (Reg.addr .CHK_CFG 3 0 0)
    let v : Word := 0xFFFFFFFF#32
    let x : Word := 5#32
    let more : List Word := []
    let r : Reg := .CHK_CFG
    let i : Nat := 3
    let k : Nat := 0
    let n : Nat := Reg.addr .CHK_CFG 3 0 0
    (s.boot.jobs = j :: js) ∧ (j.wait = none) ∧ (j.words = w :: v :: x :: more) ∧ (bitsOf w 1 0 = 0) ∧ ((j.part = none → s.boot.domAt + 200 * usUnits ≤ s.now)) ∧ (s.domOn domFAB = true) ∧ (recAddr [w] = n) ∧ (regAt n = some (r, i, k, 0)) ∧ (r.block = 11) ∧ (r.writable = true) ∧ (pageOf n = none) ∧ (inBlocks n = true)) ∧
    (let s : State := { base with boot := { base.boot with jobs := [⟨none, [BitVec.ofNat 32 (Reg.addr .CHK_CFG 3 0 0 + 1), 2#32, 0xFFFFFFFF#32, 0x12345678#32, 5], none⟩], step := 9 } }
    let js : List RecJob := []
    let j : RecJob := ⟨none, [BitVec.ofNat 32 (Reg.addr .CHK_CFG 3 0 0 + 1), 2#32, 0xFFFFFFFF#32, 0x12345678#32, 5], none⟩
    let w : Word := BitVec.ofNat 32 (Reg.addr .CHK_CFG 3 0 0 + 1)
    let c : Word := 2#32
    let v : Word := 0xFFFFFFFF#32
    let v2 : Word := 0x12345678#32
    let x : Word := 5#32
    let more : List Word := []
    let r : Reg := .CHK_CFG
    let r2 : Reg := .CHK_DID
    let i : Nat := 3
    let k : Nat := 0
    let i2 : Nat := 3
    let k2 : Nat := 0
    let n : Nat := Reg.addr .CHK_CFG 3 0 0
    (s.boot.jobs = j :: js) ∧ (j.wait = none) ∧ (j.words = w :: c :: v :: v2 :: x :: more) ∧ (bitsOf w 1 0 = 1) ∧ (c = 2#32) ∧ ((j.part = none → s.boot.domAt + 200 * usUnits ≤ s.now)) ∧ (s.domOn domFAB = true) ∧ (recAddr [w] = n) ∧ (regAt n = some (r, i, k, 0)) ∧ (regAt (n + 4) = some (r2, i2, k2, 0)) ∧ (r.block = 11) ∧ (r2.block = 11) ∧ (r.writable = true) ∧ (r2.writable = true) ∧ (inBlocks n = true) ∧ (inBlocks (n + 4) = true)) ∧
    (let s : State := { base with boot := { base.boot with jobs := [⟨none, [BitVec.ofNat 32 (Reg.addr .CHK_CFG 3 0 0 + 2), 0xFFFF#32, 0x12345678#32, 5], none⟩], step := 9 } }
    let js : List RecJob := []
    let j : RecJob := ⟨none, [BitVec.ofNat 32 (Reg.addr .CHK_CFG 3 0 0 + 2), 0xFFFF#32, 0x12345678#32, 5], none⟩
    let w : Word := BitVec.ofNat 32 (Reg.addr .CHK_CFG 3 0 0 + 2)
    let m : Word := 0xFFFF#32
    let v : Word := 0x12345678#32
    let x : Word := 5#32
    let more : List Word := []
    let r : Reg := .CHK_CFG
    let i : Nat := 3
    let k : Nat := 0
    let n : Nat := Reg.addr .CHK_CFG 3 0 0
    (s.boot.jobs = j :: js) ∧ (j.wait = none) ∧ (j.words = w :: m :: v :: x :: more) ∧ (bitsOf w 1 0 = 2) ∧ ((j.part = none → s.boot.domAt + 200 * usUnits ≤ s.now)) ∧ (s.domOn domFAB = true) ∧ (recAddr [w] = n) ∧ (regAt n = some (r, i, k, 0)) ∧ (r.block = 11) ∧ (r.writable = true) ∧ (inBlocks n = true)) ∧
    (let s : State := { base with boot := { base.boot with jobs := [⟨none, [BitVec.ofNat 32 (Reg.addr .CHK_CFG 3 0 0 + 3), 0xFFFF#32, 0x5678#32, 50#32, 5], none⟩], step := 9 } }
    let js : List RecJob := []
    let j : RecJob := ⟨none, [BitVec.ofNat 32 (Reg.addr .CHK_CFG 3 0 0 + 3), 0xFFFF#32, 0x5678#32, 50#32, 5], none⟩
    let w : Word := BitVec.ofNat 32 (Reg.addr .CHK_CFG 3 0 0 + 3)
    let m : Word := 0xFFFF#32
    let v : Word := 0x5678#32
    let u : Word := 50#32
    let x : Word := 5#32
    let more : List Word := []
    let n : Nat := Reg.addr .CHK_CFG 3 0 0
    (s.boot.jobs = j :: js) ∧ (j.wait = none) ∧ (j.words = w :: m :: v :: u :: x :: more) ∧ (bitsOf w 1 0 = 3) ∧ ((j.part = none → s.boot.domAt + 200 * usUnits ≤ s.now)) ∧ (recAddr [w] = n) ∧ (s.recOk n = true) ∧ (1 ≤ u.toNat) ∧ (u.toNat ≤ 10000) ∧ (s.recRead n &&& m ≠ v)) ∧
    (let s : State := { base with boot := { base.boot with jobs := [⟨none, [3#32, 0xFFFF#32, 0x5678#32, 50#32, 5], some (Reg.addr .CHK_CFG 3 0 0, 0#32, 0#32, 7)⟩], step := 9 } }
    let js : List RecJob := []
    let j : RecJob := ⟨none, [3#32, 0xFFFF#32, 0x5678#32, 50#32, 5], some (Reg.addr .CHK_CFG 3 0 0, 0#32, 0#32, 7)⟩
    let w : Word := 3#32
    let m : Word := 0xFFFF#32
    let v : Word := 0x5678#32
    let u : Word := 50#32
    let x : Word := 5#32
    let m2 : Word := 0#32
    let v2 : Word := 0#32
    let more : List Word := []
    let n : Nat := Reg.addr .CHK_CFG 3 0 0
    let dl : Nat := 7
    (s.boot.jobs = j :: js) ∧ (j.words = w :: m :: v :: u :: x :: more) ∧ (bitsOf w 1 0 = 3) ∧ (j.wait = some (n, m2, v2, dl)) ∧ (s.recRead n &&& m2 = v2)) ∧
    (let s : State := { base with boot := { base.boot with jobs := [⟨none, [0x40B0000F#32, 0xFFFF#32, 0x5678#32, 50#32, 5], some (0x40B0000C, 0#32, 1#32, 7)⟩], step := 9 } }
    let js : List RecJob := []
    let j : RecJob := ⟨none, [0x40B0000F#32, 0xFFFF#32, 0x5678#32, 50#32, 5], some (0x40B0000C, 0#32, 1#32, 7)⟩
    let w : Word := 0x40B0000F#32
    let m : Word := 0xFFFF#32
    let v : Word := 0x5678#32
    let u : Word := 50#32
    let x : Word := 5#32
    let m2 : Word := 0#32
    let v2 : Word := 1#32
    let more : List Word := []
    let n : Nat := 0x40B0000C
    let dl : Nat := 7
    (s.boot.jobs = j :: js) ∧ (j.words = w :: m :: v :: u :: x :: more) ∧ (bitsOf w 1 0 = 3) ∧ (j.wait = some (n, m2, v2, dl)) ∧ (dl ≤ s.now)) := by
  refine ⟨?_, ?_, ?_, ?_, ?_, ?_⟩ <;> decide +kernel

theorem witness_RailLinkCompletes :
    (let s : State := { base with boot := { base.boot with pgWait := some (0, 5), rails := [1, 2] } }
    let i : Bool := false
    let k : Nat := 0
    let f : Nat := 5
    let r : Nat := 1
    let rs : List Nat := [2]
    (s.boot.pgWait = some (k, f)) ∧ ((k = 1 ↔ i = true)) ∧ (s.boot.rails = r :: rs)) ∧
    (let s : State := { base with boot := { base.boot with pgWait := some (0, 5), rails := [1, 2] }, pmu := { base.pmu with rail := some ⟨0, 32, 3, 1, 5, 0, none⟩ } }
    let i : Bool := false
    let k : Nat := 0
    let f : Nat := 5
    let q : RailReq := ⟨0, 32, 3, 1, 5, 0, none⟩
    (s.boot.pgWait = some (k, f)) ∧ ((k = 1 ↔ i = true)) ∧ (f + 2 * msUnits ≤ s.now) ∧ (s.pmu.rail = some q) ∧ (q.tries < 3)) ∧
    (let s : State := { base with boot := { base.boot with rails := [2] }, pmu := { base.pmu with rail := some ⟨1, 32, 3, 1, 64000000000, 0, none⟩, railSeq := false } }
    let b : Nat := 64
    let r : Nat := 2
    let rs : List Nat := []
    let q : RailReq := ⟨1, 32, 3, 1, 64000000000, 0, none⟩
    (b < 256) ∧ (s.pmu.rail = some q) ∧ (q.retryAt = none) ∧ (s.boot.pgWait = none) ∧ (q.sentAt ≤ s.now) ∧ (s.now ≤ q.sentAt + 2 * msUnits) ∧ (countBits 8 b % 2 = 1) ∧ (b / 64 = 1) ∧ (q.rail = 1) ∧ (bit b 5 = s.pmu.railSeq) ∧ (b / 8 % 4 = 0) ∧ (q.level ≠ 0) ∧ (s.boot.rails = r :: rs)) ∧
    (let s : State := { base.setPwr 2 with pmu := { base.pmu with rail := some ⟨3, 0, 0, 1, 64000000000, 0, none⟩, railSeq := true } }
    let b : Nat := 0xE0
    let q : RailReq := ⟨3, 0, 0, 1, 64000000000, 0, none⟩
    (b < 256) ∧ (s.pmu.rail = some q) ∧ (q.retryAt = none) ∧ (s.boot.pgWait = none) ∧ (q.sentAt ≤ s.now) ∧ (s.now ≤ q.sentAt + 2 * msUnits) ∧ (countBits 8 b % 2 = 1) ∧ (b / 64 = q.rail) ∧ (bit b 5 = s.pmu.railSeq) ∧ (b / 8 % 4 = 0) ∧ (q.level = 0) ∧ (s.pwr = 2) ∧ (s.pmu.deepReq = false)) ∧
    (let s : State := { base with pmu := { base.pmu with rail := some ⟨0, 32, 3, 1, 5, 0, none⟩ } }
    let q : RailReq := ⟨0, 32, 3, 1, 5, 0, none⟩
    (s.pmu.rail = some q) ∧ (q.retryAt = none) ∧ (s.boot.pgWait = none) ∧ (q.sentAt + 2 * msUnits ≤ s.now) ∧ (q.tries < 3)) ∧
    (let s : State := { base with pmu := { base.pmu with rail := some ⟨0, 32, 3, 1, 5, 0, some 9⟩ } }
    let q : RailReq := ⟨0, 32, 3, 1, 5, 0, some 9⟩
    let f : Nat := 9
    (s.pmu.rail = some q) ∧ (q.retryAt = some f) ∧ (f ≤ s.now)) ∧
    (let s : State := { base.setPwr 5 with pmu := { base.pmu with againAt := some 5 } }
    let f : Nat := 5
    (s.pmu.againAt = some f) ∧ (f ≤ s.now) ∧ (s.pwr = 5)) := by
  refine ⟨?_, ?_, ?_, ?_, ?_, ?_, ?_⟩ <;> decide +kernel

theorem witness_ScalesAndServoComplete :
    (let s : State := base
    (s.domOn domTIM = true)) ∧
    (let s : State := base.put F.TIM_STAT_V3 1
    (s.get F.TIM_STAT_V3 = 1) ∧ (s.tim.t3At + 3 * secUnits ≤ s.now)) ∧
    (let s : State := base
    let d : Nat := 4
    (d < 10) ∧ (s.domOn (decDom d) = true)) ∧
    (let s : State := base.put F.TIM_CALSTAT_DEC 1023
    let d : Nat := 4
    (d < 10) ∧ (s.domOn (decDom d) = true) ∧ (bit (s.get F.TIM_CALSTAT_DEC) d = true)) ∧
    (let s : State := (base.put F.TIM_SCTL_SRC 4 1).put F.TIM_SSTAT_STATE 2 1
    let n : Nat := 1
    let e : Int := -70000
    (n = 1 ∨ n = 2) ∧ (srcOf n (s.get F.TIM_SCTL_SRC n) ≠ 0) ∧ (s.domOn domTIM = true) ∧ (s.get F.TIM_SSTAT_STATE n = 2) ∧ (((s.scale n).lastAcc).all (fun u => decide (u + 15625 * usUnits ≤ s.now)) = true) ∧ (e.natAbs ≤ s.stepThr n)) ∧
    (let s : State := (base.put F.TIM_SCTL_SRC 4 2).put F.TIM_SSTAT_STATE 1 2
    let n : Nat := 2
    (n = 1 ∨ n = 2) ∧ (srcOf n (s.get F.TIM_SCTL_SRC n) ≠ 0) ∧ (s.domOn domTIM = true) ∧ (s.get F.TIM_SSTAT_STATE n = 1) ∧ (((s.scale n).lastAcc).all (fun u => decide (u + 15625 * usUnits ≤ s.now)) = true)) ∧
    (let s : State := base.setScale 1 { Scale.fresh with stepAt := [(5, 99)] }
    let n : Nat := 1
    let u : Nat := 5
    let e : Int := 99
    let rest : List (Nat × Int) := []
    (n = 1 ∨ n = 2) ∧ ((s.scale n).stepAt = (u, e) :: rest) ∧ (u ≤ s.now)) ∧
    (let s : State := base.setScale 2 { Scale.fresh with rateAt := [(5, -131072)] }
    let n : Nat := 2
    let u : Nat := 5
    let r : Int := -131072
    let rest : List (Nat × Int) := []
    (n = 1 ∨ n = 2) ∧ ((s.scale n).rateAt = (u, r) :: rest) ∧ (u ≤ s.now)) ∧
    (let s : State := base.put F.TIM_SSTAT_STATE 2 2
    let n : Nat := 2
    (n = 1 ∨ n = 2) ∧ (s.get F.TIM_SSTAT_STATE n = 2) ∧ (max (s.scale n).waitFrom ((s.scale n).lastAcc.getD 0) + 4 * s.expected n ≤ s.now)) ∧
    (let s : State := base
    let init : Init := .part 0
    let n : Nat := 1
    (n = 1 ∨ n = 2) ∧ (s.domOn domFAB = true) ∧ (s.blockOn 0 = true) ∧ (s.mayWrite init .TIM_SCTL n = true) ∧ (s.smode n = 0) ∧ ((s.get F.TIM_SCTL_SRC n ≠ 0 → srcOf n (s.get F.TIM_SCTL_SRC n) ≠ 0))) ∧
    (let s : State := base
    let init : Init := .part 0
    let n : Nat := 1
    (n = 1 ∨ n = 2) ∧ (s.domOn domFAB = true) ∧ (s.blockOn 0 = true) ∧ (s.mayWrite init .TIM_SCTL n = true) ∧ (s.smode n ≠ 2) ∧ ((s.get F.TIM_SCTL_SRC n ≠ 0 → srcOf n (s.get F.TIM_SCTL_SRC n) ≠ 0))) ∧
    (let s : State := base.put F.TIM_SCTL_MODE 1 1
    let init : Init := .part 0
    let n : Nat := 1
    (n = 1 ∨ n = 2) ∧ (s.domOn domFAB = true) ∧ (s.blockOn 0 = true) ∧ (s.mayWrite init .TIM_SCTL n = true) ∧ (s.smode n ≠ 0) ∧ ((s.get F.TIM_SCTL_SRC n ≠ 0 → srcOf n (s.get F.TIM_SCTL_SRC n) ≠ 0))) ∧
    (let s : State := base
    let init : Init := .part 0
    let n : Nat := 1
    let e : Int := -7
    (n = 1 ∨ n = 2) ∧ (s.domOn domFAB = true) ∧ (s.blockOn 0 = true) ∧ (s.mayWrite init .TIM_SOFFS n = true) ∧ (s.get F.TIM_SSTAT_STATE n ≠ 1) ∧ (s.get F.TIM_SSTAT_STATE n ≠ 2) ∧ (s.get F.TIM_SSTAT_STATE n ≠ 3) ∧ (0 ≤ s.scaleAt n s.applyTick + (s.scale n).stepAt.foldl (fun t p => t + p.2) 0 + e)) ∧
    (let s : State := (base.put F.TIM_SCTL_SRC 4 1).put F.TIM_SSTAT_STATE 1 1
    let init : Init := .part 0
    let n : Nat := 1
    (n = 1 ∨ n = 2) ∧ (s.domOn domFAB = true) ∧ (s.blockOn 0 = true) ∧ (s.mayWrite init .TIM_SFEED n = true) ∧ (s.get F.TIM_SCTL_SRC n = 4) ∧ (s.get F.TIM_SSTAT_STATE n = 1) ∧ (((s.scale n).lastAcc).all (fun u => decide (u + 15625 * usUnits ≤ s.now)) = true)) ∧
    (let s : State := ((base.put F.TIM_SCTL_SRC 3 1).put F.TIM_SSTAT_STATE 1 1).put F.TIM_TCICTL_EDGE 1 0
    let n : Nat := 1
    let rise : Bool := true
    let d : Int := 262144000000000
    (n = 1 ∨ n = 2) ∧ (s.get F.TIM_SCTL_SRC n = 3) ∧ (leadingEdge (s.get F.TIM_TCICTL_EDGE (s.get F.TIM_SCTL_TCI n)) rise = true) ∧ (s.domOn domTIM = true) ∧ ((s.scale n).pulse.all (fun u => decide (u + 999900 * usUnits ≤ s.now) && decide (s.now ≤ u + 1000100 * usUnits)) = true) ∧ (((s.scale n).lastAcc).all (fun u => decide (u + 15625 * usUnits ≤ s.now)) = true) ∧ (s.get F.TIM_SSTAT_STATE n = 1) ∧ (s.scaleAt n s.now - signedOf 32 (s.get F.TIM_SPPS_DELAY n) * 4096 = d)) ∧
    (let s : State := base.put F.TIM_SSTAT_STATE 4 1
    let init : Init := .part 0
    let n : Nat := 1
    let v : Nat := 67100000
    (n = 1 ∨ n = 2) ∧ (s.domOn domFAB = true) ∧ (s.blockOn 0 = true) ∧ (s.mayWrite init .TIM_INCR n = true) ∧ (incrLow ≤ v) ∧ (v ≤ incrHigh)) := by
  refine ⟨?_, ?_, ?_, ?_, ?_, ?_, ?_, ?_, ?_, ?_, ?_, ?_, ?_, ?_, ?_, ?_⟩ <;> decide +kernel

theorem witness_ShadowAndTimePinsComplete :
    (let s : State := base
    let lossP : Bool := true
    let lossS : Bool := false
    let tickP : Bool := false
    let tickS : Bool := false
    (s.get F.TIM_STAT_NOSHADOW = 0) ∧ (s.tim.switchAt = none) ∧ ((if lossP = true ∨ lossS = true then lossP = true ∧ lossS = false else tickP = true ∧ tickS = false))) ∧
    (let s : State := base
    let lossP : Bool := false
    let lossS : Bool := true
    let tickP : Bool := false
    let tickS : Bool := false
    (s.get F.TIM_STAT_NOSHADOW = 0) ∧ (s.tim.switchAt = none) ∧ ((if lossP = true ∨ lossS = true then lossS = true else tickP = false ∨ tickS = true))) ∧
    (let s : State := { base with tim := { base.tim with switchAt := some 5 } }
    let u : Nat := 5
    (s.tim.switchAt = some u)) ∧
    (let s : State := { base with tim := { base.tim with testAt := some 5 } }
    let u : Nat := 5
    (s.tim.testAt = some u) ∧ (u ≤ s.now)) ∧
    (let s : State := base
    let init : Init := .part 0
    (s.domOn domFAB = true) ∧ (s.blockOn 0 = true) ∧ (s.mayWrite init .TIM_SHCTL 0 = true) ∧ (s.get F.TIM_STAT_NOSHADOW = 0) ∧ (s.tim.swapAt = none)) ∧
    (let s : State := { base with tim := { base.tim with swapAt := some 5 } }
    let u : Nat := 5
    (s.tim.swapAt = some u) ∧ (u ≤ s.now)) ∧
    (let s : State := (base.put F.TIM_TPOWID_WIDTH 400 3).setWord .TIM_TPOSTART 3 0 0 4000#32
    let init : Init := .part 0
    let n : Nat := 3
    (n < 16) ∧ (s.domOn domFAB = true) ∧ (s.blockOn 0 = true) ∧ (s.mayWrite init .TIM_TPOCTL n = true) ∧ (s.get F.TIM_TPOCTL_EN n = 0) ∧ (s.get F.TIM_TPOCTL_SRC n = 0) ∧ (s.scaleValid (s.get F.TIM_TPOCTL_SCALE n) = true) ∧ (320 ≤ s.get F.TIM_TPOWID_WIDTH n) ∧ (s.get F.TIM_TPOWID_WIDTH n ≤ 268000000 * 16) ∧ (s.get F.TIM_TPOCTL_MODE n = 0 ∨ (3200 ≤ s.tpoPer n ∧ s.tpoPer n ≤ 3600000000000 * 16 ∧ s.get F.TIM_TPOWID_WIDTH n + 320 ≤ s.tpoPer n)) ∧ (s.tpoFirst n (s.now + usUnits) = 0)) ∧
    (let s : State := (base.put F.TIM_TPOCTL_EN 1 3).setTpo 3 ⟨1, 1, some 70, false, none, none⟩
    let init : Init := .part 0
    let n : Nat := 3
    (n < 16) ∧ (s.domOn domFAB = true) ∧ (s.blockOn 0 = true) ∧ (s.mayWrite init .TIM_TPOCTL n = true) ∧ (s.get F.TIM_TPOCTL_EN n = 1)) ∧
    (let s : State := ((base.put F.TIM_TPOCTL_EN 1 3).put F.TIM_TPOWID_WIDTH 400 3).setWord .TIM_TPOSTART 3 0 0 2#32
    let n : Nat := 3
    let u : Nat := 32000000000
    (n < 16) ∧ (s.get F.TIM_TPOCTL_EN n = 1) ∧ (s.get F.TIM_TPOCTL_SRC n = 0) ∧ (s.get F.TIM_TPOSTAT_DONE n = 0) ∧ ((s.tpo n).late = false) ∧ (s.t0Of (s.get F.TIM_TPOCTL_SCALE n) (s.tpoInstant n (s.tpo n).k) = some u) ∧ (u ≤ s.now) ∧ (s.tim.switchAt = none) ∧ ((s.chan (384 + n)).window = none)) ∧
    (let s : State := (base.put F.TIM_TPOCTL_EN 1 3).setTpo 3 ⟨1, 1, some 70, false, none, none⟩
    let n : Nat := 3
    let u : Nat := 70
    (n < 16) ∧ ((s.tpo n).trail = some u) ∧ (u ≤ s.now) ∧ (s.tim.switchAt = none) ∧ ((s.chan (384 + n)).window = none)) ∧
    (let s : State := base.put F.TIM_TCICTL_EDGE 1 2
    let i : Nat := 2
    let rise : Bool := true
    (i < 8) ∧ (s.domOn domTIM = true) ∧ ((s.tci i).last.all (fun u => decide (u + 160 ≤ s.now)) = true) ∧ (s.get F.TIM_TCICTL_EDGE i = 3 ∨ s.get F.TIM_TCICTL_EDGE i = (if rise then 1 else 2))) := by
  refine ⟨?_, ?_, ?_, ?_, ?_, ?_, ?_, ?_, ?_, ?_, ?_⟩ <;> decide +kernel

theorem witness_DebugPortCompletes :
    (let s : State := base
    (s.domOn domFAB = true)) ∧
    (let s : State := base
    (s.domOn domFAB = true)) ∧
    (let s : State := { base with jtag := { base.jtag with mode := 2 } }
    (s.jtag.mode = 2) ∧ (s.domOn domFAB = true)) ∧
    (let s : State := { base.put F.SYS_BOOTSTAT_STATE 2 with jtag := { base.jtag with mode := 2 } }
    (s.jtag.mode = 2) ∧ (s.serviceOnly = true) ∧ (s.domOn domFAB = true)) ∧
    (let s : State := { base with jtag := { base.jtag with mode := 1 } }
    (¬(s.jtag.mode = 2 ∧ s.serviceOnly = true)) ∧ (s.domOn domFAB = true)) ∧
    (let s : State := { coreBase 1 7 9 with jtag := { base.jtag with mode := 1 } }
    let c : Nat := 1
    (s.debugOn c = true) ∧ ((List.range 5).all (fun k => !(s.core k).halted) = true)) ∧
    (let s : State := { (coreBase 1 7 9).wr32 0x201000100 0x00298E0B#32 with jtag := { base.jtag with mode := 1 } }.setHalted 1 true
    let c : Nat := 1
    (s.debugHalted c = true)) ∧
    (let s : State := { coreBase 1 7 9 with jtag := { base.jtag with mode := 1 } }.setHalted 1 true
    let c : Nat := 1
    (s.debugHalted c = true)) ∧
    (let s : State := { coreBase 1 7 9 with jtag := { base.jtag with mode := 1 } }.setHalted 1 true
    let c : Nat := 1
    let k : Nat := 5
    (s.debugHalted c = true) ∧ (k < 32)) ∧
    (let s : State := { coreBase 1 7 9 with jtag := { base.jtag with mode := 1 } }.setHalted 1 true
    let c : Nat := 1
    let k : Nat := 32
    (s.debugHalted c = true) ∧ (32 ≤ k)) ∧
    (let s : State := { coreBase 1 7 9 with jtag := { base.jtag with mode := 1 } }.setHalted 1 true
    let c : Nat := 1
    let k : Nat := 5
    (s.debugHalted c = true) ∧ (k < 32)) ∧
    (let s : State := { coreBase 1 7 9 with jtag := { base.jtag with mode := 1 } }.setHalted 1 true
    let c : Nat := 1
    let k : Nat := 41
    (s.debugHalted c = true) ∧ (32 ≤ k)) ∧
    (let s : State := ({ coreBase 1 7 9 with jtag := { base.jtag with mode := 1 } }.setHalted 1 true).wr32 0x201020104 0x12345678#32
    let c : Nat := 1
    let a : Nat := 0x08020104
    (s.debugHalted c = true) ∧ (a % 4 = 0) ∧ (isRam c a = true) ∧ (s.wordBad (physAt c a) = false)) ∧
    (let s : State := { coreBase 1 7 9 with jtag := { base.jtag with mode := 1 } }.setHalted 1 true
    let c : Nat := 1
    let a : Nat := 0x08020104
    (s.debugHalted c = true) ∧ (a % 4 = 0) ∧ (inLocal c a = true) ∧ (s.wordBad (physAt c a) = false)) := by
  refine ⟨?_, ?_, ?_, ?_, ?_, ?_, ?_, ?_, ?_, ?_, ?_, ?_, ?_, ?_⟩ <;> decide +kernel

theorem witness_SwitchTablesAndRingsComplete :
    (let s : State := { ((base.put F.ESW_FDBDATA_MAC_LO 0x22334455).put F.ESW_FDBDATA_MAC_HI 0x11).put F.ESW_FDBDATA_VID 7 with eth := { base.eth with fdb := [(4 * fdbBucket 7 0x1122334455 + 2, ⟨0x1122334455, 7, false, 4, 9⟩)] } }
    let init : Init := .part 0
    let k : Nat := 4 * fdbBucket 7 0x1122334455 + 2
    (s.domOn domFAB = true) ∧ (s.blockOn 1 = true) ∧ (s.mayWrite init .ESW_FDBCMD 0 = true) ∧ (s.eth.learnt.all (fun x => x.at_ != s.now) = true) ∧ (k < 8192)) ∧
    (let s : State := (((base.put F.ESW_FDBDATA_MAC_LO 0x22334455).put F.ESW_FDBDATA_MAC_HI 0x11).put F.ESW_FDBDATA_VID 7).put F.ESW_FDBDATA_VALID 1
    let init : Init := .part 0
    let vid : Nat := 7
    let mac : Nat := 0x1122334455
    let k : Nat := 4 * fdbBucket 7 0x1122334455
    (s.domOn domFAB = true) ∧ (s.blockOn 1 = true) ∧ (s.mayWrite init .ESW_FDBCMD 0 = true) ∧ (s.eth.learnt.all (fun x => x.at_ != s.now) = true) ∧ (s.fdbKey = (vid, mac)) ∧ (s.fdbFind vid mac = some k ∨ (s.fdbFind vid mac = none ∧ s.fdbFree vid mac = some k)) ∧ (s.get F.ESW_FDBDATA_VALID = 1)) ∧
    (let s : State := { ((base.put F.ESW_FDBDATA_MAC_LO 0x22334455).put F.ESW_FDBDATA_MAC_HI 0x11).put F.ESW_FDBDATA_VID 7 with eth := { base.eth with fdb := [(4 * fdbBucket 7 0x1122334455 + 2, ⟨0x1122334455, 7, false, 4, 9⟩)] } }
    let init : Init := .part 0
    let vid : Nat := 7
    let mac : Nat := 0x1122334455
    let k : Nat := 4 * fdbBucket 7 0x1122334455 + 2
    let e : FdbEnt := ⟨0x1122334455, 7, false, 4, 9⟩
    (s.domOn domFAB = true) ∧ (s.blockOn 1 = true) ∧ (s.mayWrite init .ESW_FDBCMD 0 = true) ∧ (s.eth.learnt.all (fun x => x.at_ != s.now) = true) ∧ (s.fdbKey = (vid, mac)) ∧ (s.fdbFind vid mac = some k) ∧ (s.fdbAt k = some e)) ∧
    (let s : State := ((base.put F.ESW_FDBDATA_MAC_LO 0x22334455).put F.ESW_FDBDATA_MAC_HI 0x11).put F.ESW_FDBDATA_VID 7
    let init : Init := .part 0
    let vid : Nat := 7
    let mac : Nat := 0x1122334455
    (s.domOn domFAB = true) ∧ (s.blockOn 1 = true) ∧ (s.mayWrite init .ESW_FDBCMD 0 = true) ∧ (s.eth.learnt.all (fun x => x.at_ != s.now) = true) ∧ (s.fdbKey = (vid, mac)) ∧ (s.fdbFind vid mac = none)) ∧
    (let s : State := { ((base.put F.ESW_FDBDATA_MAC_LO 0x22334455).put F.ESW_FDBDATA_MAC_HI 0x11).put F.ESW_FDBDATA_VID 7 with eth := { base.eth with fdb := [(4 * fdbBucket 7 0x1122334455 + 2, ⟨0x1122334455, 7, false, 4, 9⟩)] } }
    let init : Init := .part 0
    let vid : Nat := 7
    let mac : Nat := 0x1122334455
    let k : Nat := 4 * fdbBucket 7 0x1122334455 + 2
    (s.domOn domFAB = true) ∧ (s.blockOn 1 = true) ∧ (s.mayWrite init .ESW_FDBCMD 0 = true) ∧ (s.eth.learnt.all (fun x => x.at_ != s.now) = true) ∧ (s.fdbKey = (vid, mac)) ∧ (s.fdbFind vid mac = some k) ∧ (Sparse.sorted s.eth.fdb = true)) ∧
    (let s : State := ({ ((base.put F.ESW_FDBDATA_MAC_LO 0x22334455).put F.ESW_FDBDATA_MAC_HI 0x11).put F.ESW_FDBDATA_VID 7 with eth := { base.eth with fdb := [(4 * fdbBucket 7 0x1122334455 + 2, ⟨0x1122334455, 7, false, 4, 9⟩)] } })
    let init : Init := .part 0
    (s.domOn domFAB = true) ∧ (s.blockOn 1 = true) ∧ (s.mayWrite init .ESW_AGE 0 = true)) ∧
    (let s : State := ({ ((base.put F.ESW_FDBDATA_MAC_LO 0x22334455).put F.ESW_FDBDATA_MAC_HI 0x11).put F.ESW_FDBDATA_VID 7 with eth := { base.eth with fdb := [(4 * fdbBucket 7 0x1122334455 + 2, ⟨0x1122334455, 7, false, 4, 9⟩)] } }).put F.ESW_AGE_AGETIME 2
    let k : Nat := 4 * fdbBucket 7 0x1122334455 + 2
    let e : FdbEnt := ⟨0x1122334455, 7, false, 4, 9⟩
    (s.fdbAt k = some e) ∧ (e.static = false) ∧ (e.seen + max 1 (s.get F.ESW_AGE_AGETIME) * secUnits ≤ s.now) ∧ (Sparse.sorted s.eth.fdb = true)) ∧
    (let s : State := base
    let init : Init := .part 0
    let p : Nat := 3
    (p < 11) ∧ (s.domOn domFAB = true) ∧ (s.blockOn 1 = true) ∧ (s.mayWrite init .ESW_PTASCTL p = true) ∧ (s.get F.ESW_PTASCTL_CHANGE p = 0)) ∧
    (let s : State := ((base.put F.TIM_STAT_V1 1).put F.ESW_PTASCTL_CHANGE 1 3).setEport 3 { EthPort.idle with changeAt := some 16000 }
    let p : Nat := 3
    let u : Int := 65536000000
    (p < 11) ∧ (s.get F.ESW_PTASCTL_CHANGE p = 1) ∧ (s.gateSwitchAt p = some u) ∧ (u ≤ s.scaleAt 1 s.now)) ∧
    (let s : State := ((base.put F.TIM_STAT_V1 1).put F.ESW_PTASCTL_EN 1 3).setEport 3 { EthPort.idle with run := ⟨0, 1000, 3, some 1, 500, 900, 3⟩ }
    let p : Nat := 3
    let e : Nat := 1
    (p < 11) ∧ (s.get F.ESW_PTASCTL_EN p = 1) ∧ ((s.eport p).run.len ≠ 0) ∧ (s.scaleValid 1 = true) ∧ ((s.eport p).run.until_ ≤ s.scaleAt 1 s.now) ∧ ((s.eport p).run.idx = some e)) ∧
    (let s : State := base
    let init : Init := .part 2
    let p : Nat := 2
    (p < 4) ∧ (s.domOn domFAB = true) ∧ (s.blockOn 1 = true) ∧ (s.mayWrite init .ESW_FPRXTAIL p = true)) ∧
    (let s : State := base
    let init : Init := .part 2
    let p : Nat := 2
    let v : Nat := 77
    (p < 4) ∧ (s.domOn domFAB = true) ∧ (s.blockOn 1 = true) ∧ (s.mayWrite init .ESW_FPTXTAIL p = true) ∧ (s.get F.ESW_FPTXHEAD_HEAD p = v % 1024 ∨ s.ringRuns p false = false)) ∧
    (let s : State := { base with cfg := { base.cfg with place := [(2, ⟨true, 0x10040000, 0x40000, 0⟩)] } }
    let init : Init := .part 2
    let p : Nat := 2
    let a : Nat := 0x10040020
    let rx : Bool := true
    (p < 4) ∧ (s.domOn domFAB = true) ∧ (s.blockOn 1 = true) ∧ (s.mayWrite init (if rx then .ESW_FPRXBASE else .ESW_FPTXBASE) p = true) ∧ ((s.partRange p).1 ≤ a) ∧ (a < (s.partRange p).2) ∧ (a < 2 ^ 32)) ∧
    (let s : State := { base with cfg := { base.cfg with place := [(2, ⟨true, 0x10040000, 0x40000, 0⟩)] } }
    let init : Init := .part 2
    let p : Nat := 2
    let a : Nat := 0x1003FFE0
    let rx : Bool := true
    (p < 4) ∧ (s.domOn domFAB = true) ∧ (s.blockOn 1 = true) ∧ (s.mayWrite init (if rx then .ESW_FPRXBASE else .ESW_FPTXBASE) p = true) ∧ (a < (s.partRange p).1 ∨ (s.partRange p).2 ≤ a)) ∧
    (let s : State := { base with eth := { base.eth with learnt := [⟨base.now, fdbBucket 0 0, 6, some ⟨7, 3, false, 4, 9⟩, 0⟩] } }
    let init : Init := .part 0
    let vid : Nat := 0
    let mac : Nat := 0
    let x : Learnt := ⟨base.now, fdbBucket 0 0, 6, some ⟨7, 3, false, 4, 9⟩, 0⟩
    (s.domOn domFAB = true) ∧ (s.blockOn 1 = true) ∧ (s.mayWrite init .ESW_FDBCMD 0 = true) ∧ (s.fdbKey = (vid, mac)) ∧ (s.eth.learnt = [x]) ∧ (x.at_ = s.now) ∧ (x.counted = 0) ∧ (x.bucket = fdbBucket vid mac) ∧ (Sparse.sorted s.eth.fdb = true)) ∧
    (let s : State := ((((({ base with cfg := { base.cfg with place := [(1, ⟨true, 0x10040000, 0x40000, 0⟩)] } }.put F.ESW_FPTXSIZE_SIZE 16 1).put F.ESW_FPTXBASE_BASE 0x802000 1).put F.ESW_FPTXHEAD_HEAD 7 1).put F.ESW_FPTXTAIL_TAIL 7 1).wr32 0x100400E4 0x80000010#32)
    let init : Init := .part 1
    let p : Nat := 1
    (p < 4) ∧ (s.domOn domFAB = true) ∧ (s.blockOn 1 = true) ∧ (s.mayWrite init .ESW_FPTXTAIL p = true) ∧ (s.ringRuns p false = true)) ∧
    (let s : State := ((((({ base with cfg := { base.cfg with place := [(1, ⟨true, 0x10040000, 0x40000, 0⟩)] } }.put F.ESW_FPTXSIZE_SIZE 16 1).put F.ESW_FPTXBASE_BASE 0x802000 1).put F.ESW_FPTXHEAD_HEAD 7 1).put F.ESW_FPTXTAIL_TAIL 7 1).wr32 0x100400E4 0x80000010#32)
    let init : Init := .part 1
    let p : Nat := 1
    let v : Nat := 8
    let d : Nat := 0x100400E0
    let len : Nat := 16
    (p < 4) ∧ (s.domOn domFAB = true) ∧ (s.blockOn 1 = true) ∧ (s.mayWrite init .ESW_FPTXTAIL p = true) ∧ (s.ringRuns p false = true) ∧ (v % 1024 = (s.get F.ESW_FPTXHEAD_HEAD p + 1) % s.get F.ESW_FPTXSIZE_SIZE p) ∧ (d = 32 * s.get F.ESW_FPTXBASE_BASE p + 32 * s.get F.ESW_FPTXHEAD_HEAD p) ∧ (s.badIn d 32 = none) ∧ (bitsOf (s.rd32 (d + 4)) 31 31 = 1) ∧ (bitsOf (s.rd32 (d + 4)) 15 0 = len) ∧ (len < 60 ∨ 1518 < len)) := by
  refine ⟨?_, ?_, ?_, ?_, ?_, ?_, ?_, ?_, ?_, ?_, ?_, ?_, ?_, ?_, ?_, ?_, ?_⟩ <;> decide +kernel

set_option maxRecDepth 10000000 in
theorem witness_FramesAndPortsComplete :
    (let s : State := ((((base.put F.ESW_PCTL_EN 1 2).put F.ESW_PSTAT_LINK 1 2).put F.ESW_PCTL_EN 1 3).put F.ESW_PSTAT_LINK 1 3).put F.ESW_VLAN_MEMBER 12 7
    let p : Nat := 2
    let q : Nat := 3
    let frame : List Byte := (([0x00, 0x11, 0x22, 0x33, 0x44, 0x55, 0x66, 0x77, 0x88, 0x99, 0xAA, 0xBB, 0x81, 0x00, 0xA0, 0x07, 0x08, 0x00] ++ (List.replicate 42 5) : List Byte) ++ fcsOf ([0x00, 0x11, 0x22, 0x33, 0x44, 0x55, 0x66, 0x77, 0x88, 0x99, 0xAA, 0xBB, 0x81, 0x00, 0xA0, 0x07, 0x08, 0x00] ++ (List.replicate 42 5) : List Byte))
    let f : Frame := parseFrame (([0x00, 0x11, 0x22, 0x33, 0x44, 0x55, 0x66, 0x77, 0x88, 0x99, 0xAA, 0xBB, 0x81, 0x00, 0xA0, 0x07, 0x08, 0x00] ++ (List.replicate 42 5) : List Byte)) 0 0 2 64000000000
    (p < 10) ∧ (s.domOn domNET = true) ∧ (s.portUp p = true) ∧ (64 ≤ frame.length) ∧ (frame.length ≤ 1522) ∧ (frame.drop (frame.length - 4) = fcsOf (frame.take (frame.length - 4))) ∧ (parseFrame (frame.take (frame.length - 4)) (s.get F.ESW_PCTL_PVID p) (s.get F.ESW_PCTL_DPCP p) p s.now = f) ∧ (f.etype ≠ 0x8808) ∧ (f.vid ≠ 4095) ∧ (f.dst ≠ ptpAddr) ∧ (bit (s.get F.ESW_VLAN_MEMBER f.vid) p = true) ∧ (¬(p = 9 ∧ s.service f = true)) ∧ ((List.range 256).all (fun k => !s.streamHit k f) = true) ∧ (((s.bump F.ESW_PCNT_COUNT p 0).learn p f.vid f.src).destPorts f = [q]) ∧ (q < 10) ∧ (s.cutThrough f p q = false) ∧ (f.cells ≤ s.cellsFree q) ∧ (cellsOf (s.equeue q (s.mapQueue q f.pcp)) < s.get F.ESW_PQLIM_LIM q (s.mapQueue q f.pcp))) ∧
    (let s : State := ((base.put F.ESW_PCTL_EN 1 9).put F.ESW_PSTAT_LINK 1 9)
    let p : Nat := 9
    let frame : List Byte := []
    (8 ≤ p) ∧ (p < 11) ∧ (s.domOn domNET = true) ∧ (s.portUp p = true) ∧ (frame.length < 64 ∨ 1522 < frame.length ∨ frame.drop (frame.length - 4) ≠ fcsOf (frame.take (frame.length - 4)))) ∧
    (let s : State := (((((base.put F.ESW_PCTL_EN 1 2).put F.ESW_PSTAT_LINK 1 2).put F.ESW_PCTL_EN 1 3).put F.ESW_PSTAT_LINK 1 3).put F.ESW_VLAN_MEMBER 12 7).setEqueue 3 3 [⟨0x001122334455, 0x66778899AABB, 7, 5, [8, 0] ++ List.replicate 42 5, 2, 64000000000, 3, none, 0, none, []⟩]
    let p : Nat := 3
    let q : Nat := 3
    let f : Frame := ⟨0x001122334455, 0x66778899AABB, 7, 5, [8, 0] ++ List.replicate 42 5, 2, 64000000000, 3, none, 0, none, []⟩
    let fs : List Frame := []
    (p < 10) ∧ (s.domOn domNET = true) ∧ (s.portUp p = true) ∧ ((s.eport p).busyTo ≤ s.now) ∧ ((s.eport p).ptp = []) ∧ (q < 8) ∧ (s.equeue p q = f :: fs) ∧ ((List.range 8).all (fun k => (decide (k = q) || (s.equeue p k).isEmpty) && (s.equeue p k).all (fun g => g.launch.isNone)) = true) ∧ (s.get F.ESW_PTASCTL_EN p = 0) ∧ (s.shaped p q = false) ∧ (f.desc = none) ∧ (f.atts = [])) ∧
    (let s : State := base.put F.ESW_PCTL_EN 1 3
    let p : Nat := 3
    let cable : Nat := 1
    let sqi : Nat := 5
    let audited : Bool := true
    let rtt : Option Nat := none
    (p < 8) ∧ (¬(audited = true ∧ rtt.isSome = true ∧ (cable % 4 = 1 ∨ cable % 4 = 2))) ∧ (s.domOn domNET = true) ∧ (s.get F.ESW_PCTL_EN p = 1) ∧ (sqi < 8)) ∧
    (let s : State := ((((base.put F.ESW_PCTL_EN 1 2).put F.ESW_PSTAT_LINK 1 2).put F.ESW_PCTL_EN 1 3).put F.ESW_PSTAT_LINK 1 3).put F.ESW_VLAN_MEMBER 12 7
    let p : Nat := 3
    (p < 11) ∧ (s.upd.sessions = [])) ∧
    (let s : State := base.put F.ESW_PCTL_EN 1 3
    let p : Nat := 3
    let cable : Nat := 2
    (p < 8) ∧ (s.domOn domNET = true) ∧ (s.get F.ESW_PCTL_EN p = 1) ∧ (cable % 4 = 1 ∨ cable % 4 = 2)) := by
  refine ⟨?_, ?_, ?_, ?_, ?_, ?_⟩ <;> decide +kernel

theorem witness_GptpEngineCompletes :
    (let s : State := ((((base.put F.ESW_PCTL_EN 1 2).put F.ESW_PSTAT_LINK 1 2).put F.ESW_PCTL_EN 1 3).put F.ESW_PSTAT_LINK 1 3).put F.TIM_STAT_V1 1 |>.put F.ESW_PSTAT_ASCAP 3 2 |>.put F.ESW_PSTAT_ASCAP 3 3 |>.put F.ESW_PTPROLE_ROLE 0x20 0
    let d : Nat := 0
    let p : Nat := 2
    (d < 2) ∧ (p < 10) ∧ (s.domOn domNET = true) ∧ (s.ptpRole d p = 2) ∧ (s.ptpUp d p = true) ∧ ((s.ptpDom d).sync = none)) ∧
    (let s : State := (((((base.put F.ESW_PCTL_EN 1 2).put F.ESW_PSTAT_LINK 1 2).put F.ESW_PCTL_EN 1 3).put F.ESW_PSTAT_LINK 1 3).put F.TIM_STAT_V1 1 |>.put F.ESW_PSTAT_ASCAP 3 2 |>.put F.ESW_PSTAT_ASCAP 3 3 |>.put F.ESW_PTPROLE_ROLE 0x20 0).setPtpDom 0 { PtpDom.fresh with sync := some ⟨2, 7, 5, 0, 3, true⟩ }
    let d : Nat := 0
    let p : Nat := 2
    let seq : Nat := 7
    let stamp : Nat := 5
    let origin0 : Int := 0
    let corr0 : Int := 3
    (d < 2) ∧ (s.domOn domNET = true) ∧ ((s.ptpDom d).sync = some ⟨p, seq, stamp, origin0, corr0, true⟩)) ∧
    (let s : State := (((((base.put F.ESW_PCTL_EN 1 2).put F.ESW_PSTAT_LINK 1 2).put F.ESW_PCTL_EN 1 3).put F.ESW_PSTAT_LINK 1 3).put F.TIM_STAT_V1 1 |>.put F.ESW_PSTAT_ASCAP 3 2 |>.put F.ESW_PSTAT_ASCAP 3 3 |>.put F.ESW_PTPROLE_ROLE 0x20 0).setPtpDom 0 { PtpDom.fresh with sync := some ⟨2, 7, 5, 0, 3, true⟩ }
    let d : Nat := 0
    let p : Nat := 2
    let seq : Nat := 7
    let stamp : Nat := 5
    let origin : Int := 0
    let corr : Int := 3
    ((s.ptpDom d).sync = some ⟨p, seq, stamp, origin, corr, true⟩) ∧ (stamp + 10 * msUnits ≤ s.now) ∧ (d < 2)) ∧
    (let s : State := ((((base.put F.ESW_PCTL_EN 1 2).put F.ESW_PSTAT_LINK 1 2).put F.ESW_PCTL_EN 1 3).put F.ESW_PSTAT_LINK 1 3).put F.TIM_STAT_V1 1 |>.put F.ESW_PSTAT_ASCAP 3 2 |>.put F.ESW_PSTAT_ASCAP 3 3 |>.put F.ESW_PTPROLE_ROLE 0x20 0
    let d : Nat := 0
    (d < 2) ∧ ((s.slavePort d).isSome = true) ∧ ((s.ptpDom d).lost = false) ∧ ((s.ptpDom d).last + 3 * s.syncInterval d ≤ s.now) ∧ (s.domOn domNET = true)) ∧
    (let s : State := ((((base.put F.ESW_PCTL_EN 1 2).put F.ESW_PSTAT_LINK 1 2).put F.ESW_PCTL_EN 1 3).put F.ESW_PSTAT_LINK 1 3).put F.TIM_STAT_V1 1 |>.put F.ESW_PSTAT_ASCAP 3 2 |>.put F.ESW_PSTAT_ASCAP 3 3 |>.put F.ESW_PTPROLE_ROLE 0x40 0 |>.put F.ESW_PTPSTEP_ONESTEP 8 0
    let d : Nat := 0
    let q : Nat := 3
    (d < 2) ∧ (s.domOn domNET = true) ∧ (s.isGm d = true) ∧ ((s.ptpDom d).gmNext ≤ s.now) ∧ (s.masterPorts d = [q]) ∧ (s.scaleValid (d + 1) = true) ∧ (bit (s.get F.ESW_PTPSTEP_ONESTEP d) q = true)) ∧
    (let s : State := ((((base.put F.ESW_PCTL_EN 1 2).put F.ESW_PSTAT_LINK 1 2).put F.ESW_PCTL_EN 1 3).put F.ESW_PSTAT_LINK 1 3).put F.TIM_STAT_V1 1 |>.put F.ESW_PSTAT_ASCAP 3 2 |>.put F.ESW_PSTAT_ASCAP 3 3 |>.put F.ESW_PTPROLE_ROLE 0x40 0
    let d : Nat := 0
    let q : Nat := 3
    (d < 2) ∧ (s.domOn domNET = true) ∧ ((s.ptpDom d).annNext ≤ s.now) ∧ (s.masterPorts d = [q]) ∧ (q ≠ 8)) ∧
    (let s : State := ((((base.put F.ESW_PCTL_EN 1 2).put F.ESW_PSTAT_LINK 1 2).put F.ESW_PCTL_EN 1 3).put F.ESW_PSTAT_LINK 1 3).put F.TIM_STAT_V1 1 |>.put F.ESW_PSTAT_ASCAP 3 2 |>.put F.ESW_PSTAT_ASCAP 3 3 |>.put F.ESW_PTPROLE_ROLE 0x40 0
    let d : Nat := 0
    let p : Nat := 3
    (d < 2) ∧ (p < 10) ∧ (s.portUp p = true) ∧ (s.domOn domNET = true)) ∧
    (let s : State := ((((base.put F.ESW_PCTL_EN 1 2).put F.ESW_PSTAT_LINK 1 2).put F.ESW_PCTL_EN 1 3).put F.ESW_PSTAT_LINK 1 3).put F.TIM_STAT_V1 1 |>.put F.ESW_PSTAT_ASCAP 3 2 |>.put F.ESW_PSTAT_ASCAP 3 3 |>.put F.ESW_PTPROLE_ROLE 0x40 0
    let d : Nat := 0
    let p : Nat := 3
    (d < 2) ∧ (p < 10) ∧ (s.portUp p = true) ∧ (s.domOn domNET = true)) ∧
    (let s : State := ((((base.put F.ESW_PCTL_EN 1 2).put F.ESW_PSTAT_LINK 1 2).put F.ESW_PCTL_EN 1 3).put F.ESW_PSTAT_LINK 1 3).put F.TIM_STAT_V1 1 |>.put F.ESW_PSTAT_ASCAP 3 2 |>.put F.ESW_PSTAT_ASCAP 3 3 |>.put F.ESW_PTPROLE_ROLE 0x40 0
    let p : Nat := 3
    (p < 8 ∨ p = 9) ∧ (s.domOn domNET = true) ∧ (s.portUp p = true) ∧ ((s.eport p).pdLast.all (fun u => decide (u + s.pdInterval ≤ s.now)) = true)) ∧
    (let s : State := (((base.put F.ESW_PCTL_EN 1 9).put F.ESW_PSTAT_LINK 1 9)).setEport 9 { EthPort.idle with pdOpen := some 63999999000, good := 2 }
    let p : Nat := 9
    let u : Nat := 63999999000
    let turnaround : Int := 65536
    (8 < p) ∧ (p < 10) ∧ (s.domOn domNET = true) ∧ (s.portUp p = true) ∧ ((s.eport p).pdOpen = some u) ∧ ((Int.ofNat (fineOf (s.now - u)) - turnaround) / 2 ≤ Int.ofNat (s.get F.ESW_PDCTL_THRESH) * 65536)) ∧
    (let s : State := base
    let init : Init := .part 0
    let d : Nat := 1
    let v : Nat := 0x20
    (d < 2) ∧ (s.domOn domFAB = true) ∧ (s.blockOn 1 = true) ∧ (s.mayWrite init .ESW_PTPROLE d = true) ∧ (slavesOf v ≤ 1)) := by
  refine ⟨?_, ?_, ?_, ?_, ?_, ?_, ?_, ?_, ?_, ?_, ?_⟩ <;> decide +kernel

theorem witness_RequestsLeaveTheirCore :
    (let s : State := base
    let init : Init := .part 0
    let x : Nat := 66
    (isPower x = true ∧ x < 72) ∧ (s.domOn domFAB = true) ∧ (s.blockOn 3 = true) ∧ (s.mayWrite init .PSW_CMD x = true) ∧ (s.oddMember x = false)) ∧
    (let s : State := base
    let init : Init := .part 0
    let x : Nat := 66
    (isPower x = true ∧ x < 72) ∧ (s.domOn domFAB = true) ∧ (s.blockOn 3 = true) ∧ (s.mayWrite init .PSW_CMD x = true) ∧ (s.oddMember x = false)) ∧
    (let s : State := base
    let init : Init := .part 0
    let x : Nat := 66
    (64 ≤ x ∧ x < 72) ∧ (s.domOn domFAB = true) ∧ (s.blockOn 3 = true) ∧ (s.mayWrite init .PSW_CMD x = true) ∧ (s.oddMember x = false)) ∧
    (let s : State := base
    let init : Init := .part 0
    let i : Nat := 7
    (i < 24) ∧ (s.domOn domFAB = true) ∧ (s.blockOn 4 = true) ∧ (s.mayWrite init .VLV_CMD i = true)) ∧
    (let s : State := base
    let init : Init := .part 0
    let i : Nat := 7
    (i < 24) ∧ (s.domOn domFAB = true) ∧ (s.blockOn 4 = true) ∧ (s.mayWrite init .VLV_CMD i = true)) ∧
    (let s : State := base
    let init : Init := .part 0
    let m : Nat := 40
    (isLed (m + 128) = true) ∧ (s.domOn domFAB = true) ∧ (s.blockOn 5 = true) ∧ (s.mayWrite init .LGT_CMD m = true)) ∧
    (let s : State := base
    let init : Init := .part 0
    let m : Nat := 40
    (isLed (m + 128) = true) ∧ (s.domOn domFAB = true) ∧ (s.blockOn 5 = true) ∧ (s.mayWrite init .LGT_CMD m = true)) ∧
    (let s : State := base
    let init : Init := .part 0
    let m : Nat := 130
    (isLed (m + 128) = true) ∧ (isMx m = false) ∧ (s.domOn domFAB = true) ∧ (s.blockOn 5 = true) ∧ (s.mayWrite init .LGT_CMD m = true)) := by
  refine ⟨?_, ?_, ?_, ?_, ?_, ?_, ?_, ?_⟩ <;> decide +kernel

theorem witness_ActionsReachTheirTargets :
    (let s : State := { base with sch := { base.sch with imm := [⟨4, some 0, none, none⟩, ⟨3, some 1, none, some 0⟩] } }
    let x : Nat := 3
    let v : Nat := 1
    let q : ImmReq := ⟨3, some 1, none, some 0⟩
    (s.sch.imm.find? (fun q => q.x == x) = some q) ∧ (s.clocked = true) ∧ (x < 60) ∧ (q.st = some v) ∧ (q.lvl = none) ∧ (v ≤ 1) ∧ ((s.chan x).last.all (fun l => l.slot != slotAfter 1600 s.now) = true) ∧ (s.heldFor x 5 = false) ∧ (s.inrush x (s.immAct x (some v) none q.who none) = 0) ∧ ((s.diag x).planned = false)) ∧
    (let s : State := (((((base.put F.SCH_ENTRY_MODE 1 2 7).put F.SCH_ENTRY_ACTION 1 2 7).put F.SCH_ENTRY_NOTIFY 0 2 7).setWord .SCH_ENTRY 2 7 1 0x00010003#32).setWord .SCH_ENTRY 2 7 2 2#32).put F.SCH_TCTL_RUN 1 2
    let q : Nat := 2
    let e : Nat := 7
    let b : Nat := 0
    let x : Nat := 3
    let plan : Nat := 32000000000
    (s.planeRuns = true) ∧ (q < 8) ∧ (e < 512) ∧ (s.actBank q = b) ∧ ((s.entSt q b e).handed = []) ∧ (s.entNext q b e = some plan) ∧ (s.get F.SCH_TCTL_RUN q = 1) ∧ (plan ≤ s.now) ∧ (s.get F.SCH_ENTRY_ACTION q (entJ b e) = 1) ∧ (s.entTgt q b e = .one x) ∧ (x < 60) ∧ (s.whoOwns (s.ownerOf (.item 0x09 q)) x = true) ∧ ((s.chan x).last.all (fun l => l.slot != plan) = true) ∧ (s.heldFor x 4 = false) ∧ (s.inrush x (s.entAct q b e plan none 1600 (some 1) none) = 0)) ∧
    (let s : State := { base.put F.PSW_CMD_OUT 1 3 with sch := { base.sch with pulses := [⟨3, 7, ownAct 4 7, none⟩] } }
    let x : Nat := 3
    let p : Pulse := ⟨3, 7, ownAct 4 7, none⟩
    (s.sch.pulses.find? (fun p => p.x == x && decide (p.due ≤ s.now)) = some p) ∧ (s.clocked = true) ∧ (p.claim = none) ∧ ((s.chan x).last.all (fun l => l.slot != p.due) = true) ∧ (x < 60) ∧ (s.heldFor x p.act.src = false) ∧ ((s.diag x).planned = false)) ∧
    (let s : State := { base with sch := { base.sch with defer := [⟨3, { ownAct 4 7 with st := some 1, icls := 1, steps := 1 }, 9⟩] } }
    let x : Nat := 3
    let d : Deferral := ⟨3, { ownAct 4 7 with st := some 1, icls := 1, steps := 1 }, 9⟩
    (s.sch.defer.find? (fun d => d.x == x && decide (d.due ≤ s.now)) = some d) ∧ (s.clocked = true) ∧ (x < 60) ∧ (d.act.st = some 1) ∧ (s.heldFor x d.act.src = false) ∧ ({ s with sch := { s.sch with defer := s.sch.defer.erase d } }.fits (tabGroup x) (s.weight x (s.inrush x d.act)) d.act.key = true)) ∧
    (let s : State := { base with sch := { base.sch with commits := [⟨3, 5, some 0⟩], staged := [⟨4, 5, 0, .VLV_CFG, 4, 0⟩, ⟨3, 5, 0, .PSW_CFG, 4, 0x12345678⟩] } }
    let g : Nat := 5
    let q : CommitReq := ⟨3, 5, some 0⟩
    let f : StagedFld := ⟨3, 5, 0, .PSW_CFG, 4, 0x12345678⟩
    (s.sch.commits.find? (fun q => q.block == 3 && q.group == g) = some q) ∧ (s.clocked = true) ∧ (g < 32) ∧ (s.sch.staged.filter (fun f => f.block == 3 && f.group == g) = [f]) ∧ (f.reg = .PSW_CFG) ∧ (isPower f.i = true) ∧ (s.writeYields f (slotAfter (gridOf f.i) s.now) = false)) ∧
    (let s : State := base
    let init : Init := .part 0
    let block : Nat := 4
    let g : Nat := 5
    let n : Nat := 0
    (groupOk block g = true) ∧ (s.domOn domFAB = true) ∧ (s.blockOn block = true) ∧ ((g < 32 → s.mayWrite init (gctlReg block g) g = true)) ∧ ((32 ≤ g → init = .part n))) ∧
    (let s : State := { base with sch := { base.sch with staged := [⟨4, 5, 0, .VLV_CFG, 4, 0⟩, ⟨3, 5, 0, .PSW_CFG, 4, 0x12345678⟩] } }
    let init : Init := .part 0
    let block : Nat := 4
    let g : Nat := 5
    let n : Nat := 0
    (groupOk block g = true) ∧ (s.domOn domFAB = true) ∧ (s.blockOn block = true) ∧ ((g < 32 → s.mayWrite init (gctlReg block g) g = true)) ∧ ((32 ≤ g → init = .part n))) ∧
    (let s : State := (((((base.put F.SCH_ENTRY_MODE 1 2 7).put F.SCH_ENTRY_ACTION 1 2 7).put F.SCH_ENTRY_NOTIFY 0 2 7).setWord .SCH_ENTRY 2 7 1 0x00010003#32).setWord .SCH_ENTRY 2 7 2 2#32).put F.SCH_TCTL_RUN 1 2
    let q : Nat := 2
    let e : Nat := 7
    let b : Nat := 0
    let plan : Nat := 32000000000
    (s.planeRuns = true) ∧ (q < 8) ∧ (e < 512) ∧ (s.actBank q = b) ∧ ((s.entSt q b e).handed = []) ∧ (s.entNext q b e = some plan) ∧ (s.get F.SCH_TCTL_RUN q = 1) ∧ (plan ≤ s.now)) := by
  refine ⟨?_, ?_, ?_, ?_, ?_, ?_, ?_, ?_⟩ <;> decide +kernel

theorem witness_TablesAndRulesComplete :
    (let s : State := base
    let init : Init := .part 0
    let q : Nat := 2
    (q < 8) ∧ (s.domOn domFAB = true) ∧ (s.blockOn 2 = true) ∧ (s.mayWrite init .SCH_TCTL q = true) ∧ (s.get F.SCH_TCTL_RUN q = 0) ∧ ((s.ownerOf (.item 0x09 q)).all (fun n => (Sparse.get s.psw.windows n).isNone) = true)) ∧
    (let s : State := { base with psw := { base.psw with windows := [(0, 77)] } }
    let init : Init := .part 0
    let q : Nat := 2
    let n : Nat := 0
    (q < 8) ∧ (s.domOn domFAB = true) ∧ (s.blockOn 2 = true) ∧ (s.mayWrite init .SCH_TCTL q = true) ∧ (s.get F.SCH_TCTL_RUN q = 0) ∧ (s.ownerOf (.item 0x09 q) = some n) ∧ ((Sparse.get s.psw.windows n).isSome = true)) ∧
    (let s : State := { base.put F.SCH_TCTL_RUN 1 2 with sch := { base.sch with defer := [⟨3, { ownAct 4 7 with table := 2 }, 9⟩, ⟨3, { ownAct 4 7 with table := 1 }, 9⟩] } }
    let init : Init := .part 0
    let q : Nat := 2
    (q < 8) ∧ (s.domOn domFAB = true) ∧ (s.blockOn 2 = true) ∧ (s.mayWrite init .SCH_TCTL q = true) ∧ (s.get F.SCH_TCTL_RUN q = 1)) ∧
    (let s : State := ((((base.put F.SCH_ENTRY_MODE 1 2 7).put F.SCH_ENTRY_ACTION 1 2 7).put F.SCH_ENTRY_NOTIFY 0 2 7).setWord .SCH_ENTRY 2 7 1 0x00010003#32).put F.SCH_TCTL_RUN 1 2
    let init : Init := .part 0
    let q : Nat := 2
    (q < 8) ∧ (s.domOn domFAB = true) ∧ (s.blockOn 2 = true) ∧ (s.mayWrite init .SCH_TCTL q = true) ∧ (s.get F.SCH_TCTL_SWAPREQ q = 0)) ∧
    (let s : State := base
    let init : Init := .part 0
    let q : Nat := 2
    (q < 8) ∧ (s.domOn domFAB = true) ∧ (s.blockOn 2 = true) ∧ (s.mayWrite init .SCH_TCTL q = true) ∧ (s.get F.SCH_TCTL_SWAPREQ q = 0) ∧ (s.get F.SCH_TCTL_SWAT q = 0)) ∧
    (let s : State := (base.put F.SCH_TCTL_SWAPREQ 1 2).setTable 2 ⟨some 5, false⟩
    let q : Nat := 2
    let u : Nat := 5
    (q < 8) ∧ (s.get F.SCH_TCTL_SWAPREQ q = 1) ∧ ((s.table q).swapAt = some u) ∧ (u ≤ s.now)) ∧
    (let s : State := (((base.setWord .SCH_RULE 9 0 0 0xA0100000#32).setWord .SCH_RULE 9 0 1 0x00010003#32).setWord .SCH_RULE 9 0 3 0x20000005#32).setWord .SCH_RULE 9 0 0 0#32
    let init : Init := .part 0
    let r : Nat := 9
    let w0 : Nat := 0x20100000
    (r < 256) ∧ (s.domOn domFAB = true) ∧ (s.blockOn 2 = true) ∧ (s.mayWrite init .SCH_RULE r = true) ∧ (s.get F.SCH_RULE_EN r = 0) ∧ (s.ruleRefused r (BitVec.ofNat 32 w0 ||| 0x80000000) = false)) ∧
    (let s : State := (((base.setWord .SCH_RULE 9 0 0 0xA0100000#32).setWord .SCH_RULE 9 0 1 0x00010003#32).setWord .SCH_RULE 9 0 3 0x20000005#32).put F.FIN_STATE_STATE 1 5
    let r : Nat := 9
    let x : Nat := 3
    (r < 256) ∧ (s.planeRuns = true) ∧ (s.get F.SCH_RULE_EN r = 1) ∧ (s.get F.SCH_RULE_MODE r = 1) ∧ (s.turnsTrue r = true) ∧ (s.get F.SCH_RULE_ACTION r = 1) ∧ (tgtOf (s.word .SCH_RULE r 0 1) = .one x) ∧ (x < 60) ∧ (s.whoOwns (s.ownerOf (.item 0x0A r)) x = true) ∧ ((s.chan x).prot = 0) ∧ (s.towHolds x = false) ∧ ((s.chan x).claims = [])) ∧
    (let s : State := (((base.setWord .SCH_RULE 9 0 0 0xA0100000#32).setWord .SCH_RULE 9 0 1 0x00010003#32).setWord .SCH_RULE 9 0 3 0x20000005#32).rfxHeld 9 true |>.setChan 3 { Chan.idle with claims := [⟨9, some 1, none, none⟩] }
    let r : Nat := 9
    (r < 256) ∧ (s.planeRuns = true) ∧ (s.get F.SCH_RULE_EN r = 1) ∧ (s.get F.SCH_RULE_MODE r = 1) ∧ (s.ruleCond r = false)) ∧
    (let s : State := (((base.setWord .SCH_RULE 9 0 0 0xA0100000#32).setWord .SCH_RULE 9 0 1 0x00010003#32).setWord .SCH_RULE 9 0 3 0x20000005#32).rfxHeld 9 true |>.setChan 3 { Chan.idle with claims := [⟨9, some 1, none, none⟩] }
    let init : Init := .part 0
    let r : Nat := 9
    (r < 256) ∧ (s.domOn domFAB = true) ∧ (s.blockOn 2 = true) ∧ (s.mayWrite init .SCH_RULE r = true) ∧ (s.get F.SCH_RULE_EN r = 1)) ∧
    (let s : State := (((base.setWord .SCH_RULE 9 0 0 0xA0100000#32).setWord .SCH_RULE 9 0 1 0x00010003#32).setWord .SCH_RULE 9 0 3 0x20000005#32).rfxHeld 9 true |>.setChan 3 { Chan.idle with claims := [⟨9, some 1, none, none⟩] }
    let init : Init := .part 0
    let r : Nat := 9
    (r < 256) ∧ (s.domOn domFAB = true) ∧ (s.blockOn 2 = true) ∧ (s.mayWrite init .SCH_RULE r = true)) ∧
    (let s : State := ({ base with psw := { base.psw with windows := [(0, 77)] } }).setChan 3 { Chan.idle with window := some 77 }
    let n : Nat := 0
    let u : Nat := 77
    (Sparse.get s.psw.windows n = some u) ∧ (u ≤ s.now) ∧ (Sparse.sorted s.psw.windows = true)) ∧
    (let s : State := (((base.setWord .SCH_RULE 9 0 0 0xA0100000#32).setWord .SCH_RULE 9 0 1 0x00010003#32).setWord .SCH_RULE 9 0 3 0x20000005#32).rfxHeld 9 true |>.setChan 3 { Chan.idle with claims := [⟨9, some 1, none, none⟩] }
    let r : Nat := 9
    (r < 256) ∧ (s.planeRuns = true) ∧ (s.get F.SCH_RULE_EN r = 1)) := by
  refine ⟨?_, ?_, ?_, ?_, ?_, ?_, ?_, ?_, ?_, ?_, ?_, ?_, ?_⟩ <;> decide +kernel

theorem witness_ProtectionOfChannelsCompletes :
    (let s : State := (base.put F.PSW_PROT_STATE 1 3).put F.PSW_CMD_OUT 1 3
    let p : Nat := 3
    (p < 60) ∧ (s.pstate p = 1)) ∧
    (let s : State := (base.put F.PSW_PROT_STATE 2 3).put F.PSW_CMD_OUT 1 3 |>.setProt 3 { ProtSt.cool with limitFrom := some 5 }
    let p : Nat := 3
    (p < 60) ∧ (s.pstate p = 2)) ∧
    (let s : State := (base.put F.PSW_PROT_STATE 2 3).put F.PSW_CMD_OUT 1 3 |>.setProt 3 { ProtSt.cool with limitFrom := some 5 }|>.put F.PSW_CFG_NMAX 4 3
    let p : Nat := 3
    (p < 60) ∧ (s.pstate p = 2) ∧ (s.get F.PSW_PROT_ATT p + 1 < max 1 (s.get F.PSW_CFG_NMAX p))) ∧
    (let s : State := (base.put F.PSW_PROT_STATE 2 3).put F.PSW_CMD_OUT 1 3 |>.setProt 3 { ProtSt.cool with limitFrom := some 5 }|>.put F.PSW_CFG_NMAX 4 3
    let p : Nat := 3
    let u : Nat := 5
    (p < 60) ∧ (s.pstate p = 2) ∧ ((s.prot p).limitFrom = some u) ∧ (u + s.tovl p ≤ s.now) ∧ (s.get F.PSW_PROT_ATT p + 1 < max 1 (s.get F.PSW_CFG_NMAX p))) ∧
    (let s : State := (base.put F.PSW_PROT_STATE 2 3).put F.PSW_CMD_OUT 1 3 |>.setProt 3 { ProtSt.cool with limitFrom := some 5 }|>.put F.PSW_CFG_NMAX 4 3
    let p : Nat := 3
    (p < 60) ∧ (s.pstate p = 1 ∨ s.pstate p = 2) ∧ (s.get F.PSW_PROT_ATT p + 1 < max 1 (s.get F.PSW_CFG_NMAX p))) ∧
    (let s : State := (base.put F.PSW_PROT_STATE 2 3).put F.PSW_CMD_OUT 1 3 |>.setProt 3 { ProtSt.cool with limitFrom := some 5 }|>.put F.PSW_CFG_NMAX 3 3 |>.put F.PSW_PROT_ATT 2 3
    let p : Nat := 3
    (p < 60) ∧ (s.pstate p = 2) ∧ (max 1 (s.get F.PSW_CFG_NMAX p) ≤ min 31 (s.get F.PSW_PROT_ATT p + 1))) ∧
    (let s : State := (base.put F.PSW_PROT_STATE 3 3).put F.PSW_PROT_ATT 2 3 |>.setProt 3 { ProtSt.cool with pauseEnd := some 5 } |>.setHold 3 pOff true
    let p : Nat := 3
    let u : Nat := 5
    (p < 60) ∧ (s.pstate p = 3) ∧ ((s.prot p).pauseEnd = some u) ∧ (u ≤ s.now) ∧ ((s.prot p).hot = false)) ∧
    (let s : State := (base.put F.PSW_PROT_STATE 3 3).put F.PSW_PROT_ATT 2 3 |>.setProt 3 { ProtSt.cool with pauseEnd := some 5 } |>.setHold 3 pOff true |>.setProt 3 { ProtSt.cool with pauseEnd := some 5, hot := true }
    let p : Nat := 3
    let u : Nat := 5
    (p < 60) ∧ (s.pstate p = 3) ∧ ((s.prot p).pauseEnd = some u) ∧ (u ≤ s.now) ∧ ((s.prot p).hot = true)) ∧
    (let s : State := (base.put F.PSW_PROT_STATE 3 3).put F.PSW_PROT_ATT 2 3 |>.setProt 3 { ProtSt.cool with pauseEnd := some 5 } |>.setHold 3 pOff true |>.put F.PSW_PROT_STATE 4 3
    let p : Nat := 3
    (p < 60) ∧ (s.pstate p = 4)) ∧
    (let s : State := (base.put F.PSW_PROT_STATE 3 3).put F.PSW_PROT_ATT 2 3 |>.setProt 3 { ProtSt.cool with pauseEnd := some 5 } |>.setHold 3 pOff true
    let init : Init := .part 0
    let p : Nat := 3
    (p < 60) ∧ (s.domOn domFAB = true) ∧ (s.blockOn 3 = true) ∧ (s.mayWrite init .PSW_PROT p = true) ∧ (3 ≤ s.pstate p) ∧ (s.pstate p ≤ 5) ∧ ((s.prot p).hot = false)) ∧
    (let s : State := (base.put F.PSW_PROT_ATT 2 3).setProt 3 { ProtSt.cool with cleanFrom := some 5 }
    let p : Nat := 3
    let u : Nat := 5
    (p < 60) ∧ (s.pstate p = 0 ∨ s.pstate p = 1 ∨ s.pstate p = 2 ∨ s.pstate p = 6) ∧ ((s.prot p).cleanFrom = some u) ∧ (u + s.clean p ≤ s.now)) := by
  refine ⟨?_, ?_, ?_, ?_, ?_, ?_, ?_, ?_, ?_, ?_, ?_⟩ <;> decide +kernel

theorem witness_PairsDiagnosisAndTowlineComplete :
    (let s : State := base
    let init : Init := .part 0
    let k : Nat := 2
    (k < 4) ∧ (s.domOn domFAB = true) ∧ (s.blockOn 3 = true) ∧ (s.mayWrite init .PSW_BPAIR k = true) ∧ (s.get F.PSW_BPAIR_PAIR k = 0) ∧ (s.ownerOf (targetSpec (64 + 2 * k)) = s.ownerOf (targetSpec (65 + 2 * k))) ∧ ((s.ownerOf (targetSpec (64 + 2 * k))).isSome = true) ∧ (s.out (64 + 2 * k) = 0) ∧ (s.out (65 + 2 * k) = 0)) ∧
    (let s : State := base.put F.PSW_BPAIR_PAIR 1 2
    let init : Init := .part 0
    let k : Nat := 2
    (k < 4) ∧ (s.domOn domFAB = true) ∧ (s.blockOn 3 = true) ∧ (s.mayWrite init .PSW_BPAIR k = true) ∧ (s.get F.PSW_BPAIR_PAIR k = 1) ∧ (s.out (64 + 2 * k) = 0) ∧ ((s.chan (64 + 2 * k)).brake = false) ∧ ((s.chan (64 + 2 * k)).claims = []) ∧ (s.towHolds (64 + 2 * k) = false)) ∧
    (let s : State := base.put F.PSW_BPAIR_PAIR 1 2
    let init : Init := .part 0
    let k : Nat := 2
    (k < 4) ∧ (s.domOn domFAB = true) ∧ (s.blockOn 3 = true) ∧ (s.mayWrite init .PSW_BPAIR k = true) ∧ (s.get F.PSW_BPAIR_PAIR k = 1) ∧ (s.out (64 + 2 * k) = 0) ∧ (s.held (64 + 2 * k) = false)) ∧
    (let s : State := (base.put F.PSW_CMD_OUT 1 3).put F.PMU_SUPPLY_ZONE 2
    let x : Nat := 3
    (x < 72) ∧ (isPower x = true) ∧ (s.oddMember x = false) ∧ (s.out x ≠ 0) ∧ (s.fullZone = true)) ∧
    (let s : State := (base.put F.PSW_CFG_OFFDIAG 1 3).put F.PMU_SUPPLY_ZONE 2
    let x : Nat := 3
    (x < 72) ∧ (isPower x = true) ∧ (s.oddMember x = false) ∧ (s.get F.PSW_CFG_OFFDIAG x ≠ 0) ∧ (s.out x = 0) ∧ ((s.chan x).brake = false) ∧ (s.offZone = true)) ∧
    (let s : State := (base.put F.PMU_SUPPLY_ZONE 2).setDiag 3 { DiagSt.fresh with onRes := some 2, method := 1 }
    let x : Nat := 3
    let r : Nat := 2
    (x < 60) ∧ ((s.diag x).from_ + s.dint x ≤ s.now) ∧ (s.fullZone = true) ∧ (s.pstate x ≠ 3 ∧ s.pstate x ≠ 4 ∧ s.pstate x ≠ 5) ∧ ((s.diag x).onRes = some r) ∧ (r < 8)) ∧
    (let s : State := (((base.put F.PSW_CMD_OUT 1 3).put F.PMU_SUPPLY_ZONE 2).setDiag 3 { DiagSt.fresh with stretching := some (9, ownAct 4 7) })
    let x : Nat := 3
    let u : Nat := 9
    let a : Act := ownAct 4 7
    (x < 60) ∧ ((s.diag x).stretching = some (u, a)) ∧ (u ≤ s.now) ∧ (s.out x ≠ 0) ∧ (s.held x = false) ∧ (s.und x = 0) ∧ (s.fullZone = true)) ∧
    (let s : State := base
    let init : Init := .part 2
    let n : Nat := 2
    let ext : Nat := 300
    (n < 4) ∧ (s.domOn domFAB = true) ∧ (s.blockOn 3 = true) ∧ (s.mayWrite init .PSW_PLAN n = true) ∧ (0 < ext) ∧ (ext < 2048)) ∧
    (let s : State := { base.put F.PSW_PLAN_ARMED 1 2 with now := 80000000000, psw := { base.psw with notices := [(2, 0)] } }
    let n : Nat := 2
    let u : Nat := 0
    (Sparse.get s.psw.notices n = some u) ∧ (s.get F.PSW_PLAN_ARMED n = 1) ∧ (u + 5 * secUnits ≤ s.now)) ∧
    (let s : State := base
    let init : Init := .part 0
    (s.domOn domFAB = true) ∧ (s.blockOn 3 = true) ∧ (s.mayWrite init .PSW_WDOG 0 = true)) ∧
    (let s : State := { base with psw := { base.psw with wdPairs := [.part 0] } }
    let init : Init := .part 0
    (s.domOn domFAB = true) ∧ (s.blockOn 3 = true) ∧ (s.mayWrite init .PSW_WDOG 0 = true) ∧ (init ∈ s.psw.wdPairs)) ∧
    (let s : State := { base with psw := { base.psw with wdPairs := [.part 0] } }
    let init : Init := .part 0
    let key : Nat := 7
    (s.domOn domFAB = true) ∧ (s.blockOn 3 = true) ∧ (s.mayWrite init .PSW_WDOG 0 = true) ∧ (key % 256 ≠ 0) ∧ (key % 256 ≠ 0x5A) ∧ ((key % 256 = 0xA5 → init ∉ s.psw.wdPairs))) ∧
    (let s : State := { base with psw := { base.psw with wdPairs := [.part 0] } }
    let init : Init := .part 0
    (s.domOn domFAB = true) ∧ (s.blockOn 3 = true) ∧ (s.mayWrite init .PSW_WDOG 0 = true)) ∧
    (let s : State := { base.put F.PSW_WDSTAT_TOWACT 1 with psw := { base.psw with towRefreshed := true } }
    let init : Init := .part 0
    (s.domOn domFAB = true) ∧ (s.blockOn 3 = true) ∧ (s.mayWrite init .PSW_WDOG 0 = true) ∧ (s.get F.PSW_WDSTAT_TOWACT = 1) ∧ (s.psw.towRefreshed = true)) ∧
    (let s : State := { (base.put F.PSW_PROT_STATE 1 3).put F.PSW_CMD_OUT 1 3 with psw := { base.psw with wdAt := some 5 } }
    let u : Nat := 5
    (s.psw.wdAt = some u) ∧ (u ≤ s.now)) ∧
    (let s : State := base
    let pin : Nat := 3
    (pin < 8) ∧ (s.get F.PSW_WDSTAT_TOWACT = 0)) ∧
    (let s : State := { base.put F.PSW_WDSTAT_TOWACT 1 with psw := { base.psw with tow := [⟨2, false, false, 3⟩] } }
    let pin : Nat := 2
    let x : Nat := 3
    let e : TowEntry := ⟨2, false, false, 3⟩
    (pin < 8) ∧ (s.get F.PSW_WDSTAT_TOWACT = 1) ∧ (s.psw.tow = [e]) ∧ (e.pin = pin) ∧ (e.x = x) ∧ (x < 60) ∧ (e.low = false) ∧ ((s.chan x).prot = 0) ∧ (s.inrush x (ownAct 2 0) = 0)) := by
  refine ⟨?_, ?_, ?_, ?_, ?_, ?_, ?_, ?_, ?_, ?_, ?_, ?_, ?_, ?_, ?_, ?_, ?_⟩ <;> decide +kernel

theorem witness_ValveCommandsComplete :
    (let s : State := { base.put F.VLV_CMD_PHASE 1 7 |>.put F.VLV_BSTAT_PEAK 0xF 1 |>.put F.VLV_BCFG_HBUD 50 1 with vlv := { base.vlv with queues := [(1, [⟨7, 1600, { ownAct 5 63999998400 with st := some 1, who := some 0 }, true, false, false⟩])] } }
    let b : Nat := 1
    let r : ValveReq := ⟨7, 1600, { ownAct 5 63999998400 with st := some 1, who := some 0 }, true, false, false⟩
    let rs : List ValveReq := []
    (b < 4) ∧ (s.psw.clockLost = false) ∧ (s.vq b = r :: rs) ∧ (rs.all (fun q => q.i != r.i) = true) ∧ ((s.vq b).filter s.tooLate = []) ∧ (r.i / 6 = b) ∧ (s.get F.VLV_BSTAT_PEAK b = 0xF) ∧ (s.get F.VLV_BPROT_STATE b < 3) ∧ (s.holdSum b = 0)) ∧
    (let s : State := (base.put F.VLV_CMD_PHASE 2 7).put F.VLV_CMD_OUT 1 7 |>.put F.PMU_SUPPLY_ZONE 2 |>.setVout 7 { ValveOut.idle with until_ := some 9, onAt := 63990000000, act := some (ownAct 5 1600), prof := 0x00500A14#32, time := 0x01020003#32 }
    let i : Nat := 7
    (i < 24) ∧ (s.get F.VLV_CMD_PHASE i = 2) ∧ (s.fullZone = true) ∧ (bitsOf (s.vout i).prof 27 20 ≠ 0)) ∧
    (let s : State := (base.put F.VLV_CMD_PHASE 2 7).put F.VLV_CMD_OUT 1 7 |>.put F.PMU_SUPPLY_ZONE 2 |>.setVout 7 { ValveOut.idle with until_ := some 9, onAt := 63990000000, act := some (ownAct 5 1600), prof := 0x00500A14#32, time := 0x01020003#32 }
    let i : Nat := 7
    (i < 24) ∧ (s.get F.VLV_CMD_PHASE i = 2) ∧ (s.phaseDue i = true) ∧ (s.fullZone = true)) ∧
    (let s : State := ((base.put F.VLV_CMD_PHASE 2 7).put F.VLV_CMD_OUT 1 7 |>.put F.PMU_SUPPLY_ZONE 2 |>.setVout 7 { ValveOut.idle with until_ := some 9, onAt := 63990000000, act := some (ownAct 5 1600), prof := 0x00500A14#32, time := 0x01020003#32 }) |>.put F.VLV_CMD_PHASE 3 7
    let i : Nat := 7
    (i < 24) ∧ (s.get F.VLV_CMD_PHASE i = 3) ∧ (s.phaseDue i = true)) ∧
    (let s : State := ((base.put F.VLV_CMD_PHASE 2 7).put F.VLV_CMD_OUT 1 7 |>.put F.PMU_SUPPLY_ZONE 2 |>.setVout 7 { ValveOut.idle with until_ := some 9, onAt := 63990000000, act := some (ownAct 5 1600), prof := 0x00500A14#32, time := 0x01020003#32 }) |>.put F.VLV_CMD_PHASE 4 7
    let i : Nat := 7
    (i < 24) ∧ (s.get F.VLV_CMD_PHASE i = 4) ∧ (s.phaseDue i = true)) ∧
    (let s : State := ((base.put F.VLV_CMD_PHASE 2 7).put F.VLV_CMD_OUT 1 7 |>.put F.PMU_SUPPLY_ZONE 2 |>.setVout 7 { ValveOut.idle with until_ := some 9, onAt := 63990000000, act := some (ownAct 5 1600), prof := 0x00500A14#32, time := 0x01020003#32 }) |>.put F.VLV_CMD_PHASE 5 7
    let i : Nat := 7
    (i < 24) ∧ (s.get F.VLV_CMD_PHASE i = 5) ∧ ((s.vq (i / 6)).all (fun r => r.i != i) = true)) ∧
    (let s : State := ({ base.put F.VLV_CMD_PHASE 1 7 |>.put F.VLV_BSTAT_PEAK 0xF 1 |>.put F.VLV_BCFG_HBUD 50 1 with vlv := { base.vlv with queues := [(1, [⟨7, 1600, { ownAct 5 63999998400 with st := some 1, who := some 0 }, true, false, false⟩])] } }) |>.put F.VLV_CFG_MAXDLY 0 7
    let i : Nat := 7
    let r : ValveReq := ⟨7, 1600, { ownAct 5 63999998400 with st := some 1, who := some 0 }, true, false, false⟩
    (i < 24) ∧ ((s.vq (i / 6)).find? (fun r => r.i == i) = some r) ∧ (s.tooLate r = true)) ∧
    (let s : State := ((base.put F.VLV_CMD_PHASE 2 7).put F.VLV_CMD_OUT 1 7 |>.put F.PMU_SUPPLY_ZONE 2 |>.setVout 7 { ValveOut.idle with until_ := some 9, onAt := 63990000000, act := some (ownAct 5 1600), prof := 0x00500A14#32, time := 0x01020003#32 }) |>.put F.VLV_BCFG_SGOFF 0 1
    let b : Nat := 1
    let pins : Nat := 6
    let i : Nat := 8
    (b < 4) ∧ ((bankIdx b).any s.valveLive = true) ∧ ((bankIdx b).filter (fun i => bit pins (i % 6) && !s.valveLive i) = [i]) ∧ (s.get F.VLV_BCFG_SGOFF b = 0)) ∧
    (let s : State := (base.put F.PMU_SUPPLY_ZONE 2).put F.VLV_CFG_OFFDIAG 1 7
    let i : Nat := 7
    (i < 24) ∧ (s.get F.VLV_CFG_OFFDIAG i ≠ 0) ∧ (s.offZone = true) ∧ ((bankIdx (i / 6)).all (fun n => s.out (80 + n) == 0 && !s.valveLive n) = true)) ∧
    (let s : State := ((base.put F.VLV_CMD_PHASE 2 7).put F.VLV_CMD_OUT 1 7 |>.put F.PMU_SUPPLY_ZONE 2 |>.setVout 7 { ValveOut.idle with until_ := some 9, onAt := 63990000000, act := some (ownAct 5 1600), prof := 0x00500A14#32, time := 0x01020003#32 }) |>.put F.VLV_CFG_MOVEM 1 7 |>.setVout 7 { ValveOut.idle with judging := true }
    let i : Nat := 7
    (i < 24) ∧ (s.get F.VLV_CMD_PHASE i = 2) ∧ (s.movem i = 1) ∧ ((s.vout i).judging = true) ∧ (s.fullZone = true)) ∧
    (let s : State := (base.put F.PMU_SUPPLY_ZONE 2).put F.VLV_CFG_MOVEM 2 7 |>.setVout 7 { ValveOut.idle with judging := true }
    let i : Nat := 7
    (i < 24) ∧ (s.out (80 + i) = 0) ∧ (s.movem i = 2) ∧ ((s.vout i).judging = true) ∧ (s.fullZone = true)) ∧
    (let s : State := (base.put F.PMU_SUPPLY_ZONE 2).put F.VLV_CFG_MOVEM 2 7 |>.setVout 7 { ValveOut.idle with judging := true, decayEnd := some 5 }
    let i : Nat := 7
    let u : Nat := 5
    (i < 24) ∧ ((s.vout i).decayEnd = some u) ∧ (s.movem i = 2) ∧ ((s.vout i).judging = true) ∧ (s.out (80 + i) = 0) ∧ (u + s.get F.VLV_CFG_KWIN i * 100 * usUnits ≤ s.now) ∧ (s.fullZone = true)) := by
  refine ⟨?_, ?_, ?_, ?_, ?_, ?_, ?_, ?_, ?_, ?_, ?_, ?_⟩ <;> decide +kernel

theorem witness_LightsAndTheirFaultsComplete :
    (let s : State := (base.put F.LGT_STATE_OUT 1 3).setLed 3 { LedCh.dark with nNext := 77 }
    let m : Nat := 3
    (lightBits.contains m = true) ∧ (s.out (m + 128) ≠ 0) ∧ ((s.led m).pstart + s.ledPeriod m ≤ s.now) ∧ (s.ledFrozen m = false)) ∧
    (let s : State := ((base.put F.LGT_STATE_OUT 1 3).put F.LGT_STATE_RANGE 1 3).setLed 3 { LedCh.dark with n := 77, lit := true }
    let m : Nat := 3
    (lightBits.contains m = true) ∧ (s.out (m + 128) ≠ 0) ∧ (s.get F.LGT_STATE_RANGE m = 1) ∧ ((s.led m).lit = true) ∧ (s.ledFrozen m = false) ∧ ((s.led m).n < 1024) ∧ ((s.led m).pstart + (s.led m).n * (s.ledPeriod m / 1024) ≤ s.now)) ∧
    (let s : State := base.setLed 3 { LedCh.dark with starting := some (ownAct 5 7) }
    let m : Nat := 3
    let a : Act := ownAct 5 7
    (lightBits.contains m = true) ∧ ((s.led m).starting = some a)) ∧
    (let tj : Nat := 160
    (tj < 256)) ∧
    (let tj : Nat := 120
    (tj < 256)) ∧
    (let s : State := (base.put F.LGT_STATE_OUT 1 72).put F.LGT_STATE_OUT 1 3
    let g : Nat := 40
    (g < 96) ∧ (s.out (160 + g) ≠ 0) ∧ (s.out (128 + g / 12) ≠ 0)) ∧
    (let s : State := ((base.put F.LGT_STATE_OUT 1 72).put F.LGT_STATE_OUT 1 3).put F.LGT_SCFG_OPENBYP 1 3
    let g : Nat := 40
    (g < 96) ∧ (s.out (160 + g) ≠ 0) ∧ (s.get F.LGT_SCFG_OPENBYP (g / 12) ≠ 0)) ∧
    (let s : State := base
    let q : Nat := 5
    let temp : Nat := 0xC0
    let i : Nat := 16
    (q < 12) ∧ (3 * q ≤ i) ∧ (i < 3 * q + 3) ∧ (temp % 256 ≠ 0x80) ∧ (s.curveOk (s.get F.LGT_DIM_CURVE (128 + i)) = true) ∧ (signedOf 8 temp ≤ s.curveT (s.get F.LGT_DIM_CURVE (128 + i)) 0)) ∧
    (let s : State := base.put F.LGT_STATE_OUT 1 9
    let m : Nat := 9
    (m < 16) ∧ (s.out (m + 128) ≠ 0) ∧ (s.anyLit m = true)) ∧
    (let s : State := base.put F.LGT_STATE_OUT 1 9
    let m : Nat := 9
    (m < 16) ∧ (s.out (m + 128) ≠ 0)) ∧
    (let s : State := base.put F.LGT_STATE_OUT 1 135
    let m : Nat := 135
    let i : Nat := 7
    (i < 36) ∧ (m = 128 + i) ∧ (s.out (256 + i) ≠ 0)) ∧
    (let s : State := base.put F.LGT_STATE_OUT 1 135
    let i : Nat := 7
    (i < 36) ∧ (s.out (256 + i) ≠ 0)) ∧
    (let s : State := (base.put F.LGT_SPROT_LATCH 1 3).setHold 131 pOff true |>.setHold 200 pBypass true
    let init : Init := .part 0
    let m : Nat := 3
    (m < 16) ∧ (s.domOn domFAB = true) ∧ (s.blockOn 5 = true) ∧ (s.mayWrite init .LGT_SPROT m = true)) ∧
    (let s : State := (base.put F.LGT_APROT_LATCH 1 3).setHold 259 pOff true
    let init : Init := .part 0
    let m : Nat := 131
    (128 ≤ m) ∧ (m < 164) ∧ (s.domOn domFAB = true) ∧ (s.blockOn 5 = true) ∧ (s.mayWrite init .LGT_APROT (m - 128) = true)) := by
  refine ⟨?_, ?_, ?_, ?_, ?_, ?_, ?_, ?_, ?_, ?_, ?_, ?_, ?_, ?_⟩ <;> decide +kernel

theorem witness_WindowsStencilsAndNeighbourTestComplete :
    (let s : State := { (((base.put F.LGT_EXPW_TPO 2 1).put F.LGT_EXPW_ACTIVE 1 1).put F.LGT_EXPW_LEN 10 1).put F.LGT_DIM_LOCK 2 3 |>.put F.LGT_DIM_EXPMASK 2 3 with lgt := { base.lgt with windows := [(1, [63999990000, 63999999000])] } }
    let k : Nat := 1
    let m : Nat := 3
    let e : Nat := 63999990000
    let l : List Nat := [63999999000]
    (k < 4) ∧ (Sparse.at s.lgt.windows k [] = e :: l) ∧ (s.get F.LGT_EXPW_ACTIVE k = 1) ∧ (e + s.get F.LGT_EXPW_OFFS k * 160 ≤ s.now) ∧ (lightBits.contains m = true) ∧ (s.follows m k = true) ∧ ((s.led m).open_ = none)) ∧
    (let s : State := ({ (((base.put F.LGT_EXPW_TPO 2 1).put F.LGT_EXPW_ACTIVE 1 1).put F.LGT_EXPW_LEN 10 1).put F.LGT_DIM_LOCK 2 3 |>.put F.LGT_DIM_EXPMASK 2 3 with lgt := { base.lgt with edges := [(2, 63999990000)] } }) |>.setLed 3 { LedCh.dark with open_ := some 5, opens := [4, 2] }
    let k : Nat := 1
    let m : Nat := 3
    let e : Nat := 5
    (lightBits.contains m = true) ∧ (s.follows m k = true) ∧ ((s.led m).open_ = some e) ∧ (e ≤ s.now) ∧ ((s.led m).heldActs = [])) ∧
    (let s : State := base.put F.LGT_EXPW_ACTIVE 1 1
    let k : Nat := 1
    (k < 4) ∧ (s.expActive k = false)) ∧
    (let s : State := base.put F.LGT_STNCTL_PROG 5 3
    let init : Init := .part 0
    let i : Nat := 3
    (i < 16) ∧ (s.domOn domFAB = true) ∧ (s.blockOn 5 = true) ∧ (s.mayWrite init .LGT_STNCTL i = true) ∧ (s.get F.LGT_STNSTAT_STATE i ≠ 1) ∧ (s.get F.LGT_STNSTAT_STATE i ≠ 2) ∧ (s.get F.LGT_STNCTL_AT i = 0) ∧ (0x21 ∉ s.boot.missing)) ∧
    (let s : State := base.put F.LGT_STNSTAT_STATE 2 3
    let init : Init := .part 0
    let i : Nat := 3
    (i < 16) ∧ (s.domOn domFAB = true) ∧ (s.blockOn 5 = true) ∧ (s.mayWrite init .LGT_STNCTL i = true) ∧ (s.get F.LGT_STNSTAT_STATE i = 1 ∨ s.get F.LGT_STNSTAT_STATE i = 2)) ∧
    (let s : State := (base.put F.LGT_STNSTAT_STATE 1 3).setStn 3 { StencilSt.idle with armedAt := 40960 }
    let i : Nat := 3
    let u : Nat := 10
    (i < 16) ∧ (s.get F.LGT_STNSTAT_STATE i = 1) ∧ (s.t0Of (s.stn i).scale (Int.ofNat (s.stn i).armedAt) = some u) ∧ (u ≤ s.now)) ∧
    (let s : State := ((base.put F.LGT_STNSTAT_STATE 2 3).setStn 3 { StencilSt.idle with prog := 1, step := 2 }).wr32 0x405A0210 0x30000000#32 |>.wr32 0x405A0214 0x00000007#32
    let i : Nat := 3
    let a : Nat := 0x405A0210
    (i < 16) ∧ (s.get F.LGT_STNSTAT_STATE i = 2) ∧ ((s.stn i).next ≤ s.now) ∧ ((s.stn i).ramp = none) ∧ ((s.stn i).zero < 63) ∧ (0x405A0000 + 512 * (s.stn i).prog + 8 * (s.stn i).step = a) ∧ (bitsOf (s.rd32 a) 31 28 = 3) ∧ (bitsOf (s.rd32 a) 27 24 = 0) ∧ (bitsOf (s.rd32 a) 7 6 = 0)) ∧
    (let s : State := ((base.put F.LGT_STNSTAT_STATE 2 3).setStn 3 { StencilSt.idle with prog := 1, step := 2 })
    let i : Nat := 3
    let a : Nat := 0x405A0210
    (i < 16) ∧ (s.get F.LGT_STNSTAT_STATE i = 2) ∧ ((s.stn i).next ≤ s.now) ∧ ((s.stn i).ramp = none) ∧ (0x405A0000 + 512 * (s.stn i).prog + 8 * (s.stn i).step = a) ∧ (bitsOf (s.rd32 a) 31 28 = 0) ∧ (bitsOf (s.rd32 a) 27 24 = 0) ∧ (bitsOf (s.rd32 a) 7 6 = 0)) ∧
    (let s : State := (base.put F.LGT_STNSTAT_STATE 2 3).setStn 3 { StencilSt.idle with ramp := some ⟨[(4, 77)], [], 77, 63999000000, 16000000⟩ }
    let i : Nat := 3
    let m : Nat := 4
    let l : Nat := 77
    let r : Ramp := ⟨[(4, 77)], [], 77, 63999000000, 16000000⟩
    (s.get F.LGT_STNSTAT_STATE i = 2) ∧ ((s.stn i).ramp = some r) ∧ (s.now < r.start + r.dur) ∧ (r.levels = [(m, l)]) ∧ (m < 16) ∧ (s.get F.LGT_STATE_LOCKED m = 0) ∧ (l = r.level) ∧ (l < 65536) ∧ ((s.chan (m + 128)).last.all (fun q => q.slot != slotAt 160 s.now) = true)) ∧
    (let s : State := base
    let init : Init := .part 0
    let mask : Nat := 9
    (s.domOn domFAB = true) ∧ (s.blockOn 5 = true) ∧ (s.mayWrite init .LGT_CTL 0 = true) ∧ (s.get F.LGT_STAT_NTBUSY = 0) ∧ ((bitList 16 (mask % 65536)).filter (fun n => s.out (n + 128) == 0 && (s.led n).starting.isNone) ≠ [])) ∧
    (let s : State := base
    let init : Init := .part 0
    (s.domOn domFAB = true) ∧ (s.blockOn 5 = true) ∧ (s.mayWrite init .LGT_CTL 0 = true) ∧ (s.get F.LGT_STAT_NTBUSY = 0) ∧ ((List.range 16).filter (fun n => s.out (n + 128) == 0 && (s.led n).starting.isNone) ≠ [])) ∧
    (let s : State := { (base.put F.LGT_STAT_NTBUSY 1).setHold 131 pTest true with lgt := { base.lgt with testing := [3] } }
    let a : Nat := 146
    let b : Nat := 147
    let m : Nat := 3
    (s.get F.LGT_STAT_NTBUSY = 1) ∧ (s.lgt.testing.contains m = true) ∧ (m < 16) ∧ (pinOf a = some (m, true)) ∧ (pinOf b = some (m, true)) ∧ (neighbours a b = true) ∧ (s.out (m + 128) = 0) ∧ (m ∉ s.lgt.testFail) ∧ (a < 1024) ∧ (b < 1024)) ∧
    (let s : State := { (base.put F.LGT_STAT_NTBUSY 1).setHold 131 pTest true with lgt := { base.lgt with testing := [3] } }
    let m : Nat := 3
    (s.get F.LGT_STAT_NTBUSY = 1) ∧ (s.lgt.testing = [m]) ∧ (m < 16)) ∧
    (let s : State := ((base.put F.LGT_STNSTAT_STATE 2 3).setStn 3 { StencilSt.idle with prog := 1, step := 2 }).wr32 0x405A0210 0x30000000#32 |>.wr32 0x405A0214 0x00000007#32
    let i : Nat := 3
    (i < 16) ∧ (s.get F.LGT_STNSTAT_STATE i = 2) ∧ ((s.stn i).next ≤ s.now)) := by
  refine ⟨?_, ?_, ?_, ?_, ?_, ?_, ?_, ?_, ?_, ?_, ?_, ?_, ?_, ?_⟩ <;> decide +kernel

theorem witness_FieldInputsComplete :
    (let s : State := base.put F.PMU_SUPPLY_ZONE 2
    let i : Nat := 3
    (i < 88) ∧ (s.finRuns = true) ∧ (s.analogue i = false) ∧ (s.on F.FIN_CFG_POL i = true ∨ s.get F.PMU_SUPPLY_ZONE ≠ 0)) ∧
    (let s : State := base.put F.FIN_STATE_RAW 1 3
    let i : Nat := 3
    (i < 96) ∧ (s.finRuns = true) ∧ (s.on F.FIN_STATE_RAW i ≠ s.on F.FIN_STATE_STATE i) ∧ (s.filtDue i ≤ s.now)) ∧
    (let s : State := base
    let init : Init := .part 0
    let i : Nat := 3
    (i < 96) ∧ (s.domOn domFAB = true) ∧ (s.blockOn 6 = true) ∧ (s.mayWrite init .FIN_FILT i = true)) ∧
    (let s : State := (base.put F.FIN_STATE_CLNACT 1 3).setFin 3 { FinIn.quiet with cleanEnd := some 5 }
    let i : Nat := 3
    let e : Nat := 5
    (i < 96) ∧ ((s.fin_ i).cleanEnd = some e) ∧ (e ≤ s.now) ∧ (s.get F.FIN_STATE_CLNW i = 0)) ∧
    (let s : State := (base.put F.FIN_STATE_CLNW 1 3).setFin 3 { FinIn.quiet with waitFrom := some 5 }
    let i : Nat := 3
    let e : Nat := 5
    (i < 96) ∧ ((s.fin_ i).waitFrom = some e) ∧ (e + 20 * msUnits ≤ s.now)) ∧
    (let s : State := base.put F.FIN_CFG_MODE 1 70
    let i : Nat := 70
    let uv : Nat := 1250000
    let v : Nat := 1000
    (s.analogue i = true) ∧ (s.finRuns = true) ∧ ((s.fin_ i).convAt ≤ s.now) ∧ (min 0xFFF (uv / (if s.on F.FIN_ACFG_RANGE i then 10000 else 1250)) = v)) ∧
    (let s : State := base
    let init : Init := .part 0
    let i : Nat := 70
    (64 ≤ i) ∧ (i < 88) ∧ (s.domOn domFAB = true) ∧ (s.blockOn 6 = true) ∧ (s.mayWrite init .FIN_ATHR i = true)) ∧
    (let s : State := base.put F.PMU_SUPPLY_ZONE 2
    let i : Nat := 90
    (88 ≤ i) ∧ (i < 96) ∧ (s.finRuns = true) ∧ (s.on F.FIN_CFG_POL i = true ∨ s.get F.PMU_SUPPLY_ZONE ≠ 0) ∧ (s.get F.FIN_CFG_STAMP i = 0)) ∧
    (let s : State := (((base.put F.FIN_PGRP_EN 1 2).put F.FIN_CFG_PGRP 2 7).finPark).setPwr 3
    let g : Nat := 2
    let w : Nat := (base.put F.FIN_PGRP_EN 1 2).word .FIN_PGRP 2 0 0 |>.toNat
    let per : Nat := (((base.burstPeriod ((base.word .FIN_PGRP 2 0 0).toNat)).getD 0))
    (Sparse.get s.fin.groups g = some w) ∧ (s.burstPeriod w = some per) ∧ (s.parked = true) ∧ (Sparse.at s.fin.next g 0 ≤ s.now)) ∧
    (let s : State := { (((base.put F.FIN_PGRP_EN 1 2).put F.FIN_CFG_PGRP 2 7).finPark).setPwr 3 with fin := { (((base.put F.FIN_PGRP_EN 1 2).put F.FIN_CFG_PGRP 2 7).finPark).fin with confirm := [(2, [7], 5)] } }
    let g : Nat := 2
    let d : Nat := 5
    let diff : List Nat := [7]
    let found : List Nat := [7]
    let rest : List (Nat × List Nat × Nat) := []
    (g < 8) ∧ (s.fin.confirm = (g, diff, d) :: rest) ∧ (d ≤ s.now) ∧ (s.parked = true) ∧ ((s.groupInputs g).any (fun c => diff.contains c.1 && (burstRaw found c != c.2.2)) = true)) := by
  refine ⟨?_, ?_, ?_, ?_, ?_, ?_, ?_, ?_, ?_, ?_⟩ <;> decide +kernel

theorem witness_LinCommandsComplete :
    (let s : State := base.put F.LIN_SCHCTL_SEL 2 3
    let init : Init := .part 0
    let l : Nat := 3
    (l < 12) ∧ (s.domOn domFAB = true) ∧ (s.blockOn 8 = true) ∧ (s.mayWrite init .LIN_SCHCTL l = true) ∧ (s.get F.LIN_SCHCTL_RUN l = 0)) ∧
    (let s : State := ((((base.put F.NWK_TRC_STATE 0 13).put F.LIN_CTL_EN 1 3).put F.LIN_SCHCTL_RUN 1 3).put F.LIN_FCFG_EN 1 3 9 |>.put F.LIN_ENT_TYPE 1 3 66 |>.put F.LIN_ENT_FID 9 3 66 |>.put F.LIN_ENT_SLOT 50 3 66).setLin 3 { LinCh.idle with pos := (1, 2) }
    let l : Nat := 3
    let a : Nat := 1
    let e : Nat := 2
    let f : Nat := 9
    (l < 12) ∧ (a < 4) ∧ (e < 64) ∧ (s.domOn domBUS = true) ∧ (s.get F.LIN_SCHCTL_RUN l = 1) ∧ ((s.lin_ l).pos = (a, e)) ∧ ((s.lin_ l).next ≤ s.now) ∧ (s.get F.LIN_SCHCTL_SWREQ l = 0) ∧ ((s.lin_ l).collTo = none) ∧ (s.linSends l = true) ∧ (s.get F.LIN_STAT_BUSY l = 0) ∧ (s.get F.LIN_ENT_TYPE l (64 * a + e) = 1) ∧ (s.get F.LIN_ENT_FID l (64 * a + e) = f) ∧ (s.get F.LIN_FCFG_EN l f = 1)) ∧
    (let s : State := ((((base.put F.NWK_TRC_STATE 0 13).put F.LIN_CTL_EN 1 3).put F.LIN_SCHCTL_RUN 1 3).put F.LIN_FCFG_EN 1 3 9 |>.put F.LIN_ENT_TYPE 1 3 66 |>.put F.LIN_ENT_FID 9 3 66 |>.put F.LIN_ENT_SLOT 50 3 66).put F.LIN_STAT_BUSY 1 3 |>.setLin 3 { LinCh.idle with pos := (1, 2), frame := some ⟨9, 1, 0, 5⟩ }
    let l : Nat := 3
    let a : Nat := 1
    let e : Nat := 2
    (l < 12) ∧ (a < 4) ∧ (e < 64) ∧ (s.domOn domBUS = true) ∧ (s.get F.LIN_SCHCTL_RUN l = 1) ∧ ((s.lin_ l).pos = (a, e)) ∧ ((s.lin_ l).next ≤ s.now) ∧ (s.get F.LIN_SCHCTL_SWREQ l = 0) ∧ ((s.lin_ l).collTo = none) ∧ (s.linSends l = true) ∧ (s.get F.LIN_STAT_BUSY l = 1) ∧ (s.get F.LIN_ENT_TYPE l (64 * a + e) ≠ 0)) ∧
    (let s : State := (((((base.put F.NWK_TRC_STATE 0 13).put F.LIN_CTL_EN 1 3).put F.LIN_SCHCTL_RUN 1 3).put F.LIN_FCFG_EN 1 3 9 |>.put F.LIN_ENT_TYPE 1 3 66 |>.put F.LIN_ENT_FID 9 3 66 |>.put F.LIN_ENT_SLOT 50 3 66).put F.LIN_STAT_BUSY 1 3 |>.setLin 3 { LinCh.idle with frame := some ⟨9, 1, 0, 5⟩ }).put F.LIN_FCFG_DIR 1 3 9
    let l : Nat := 3
    let f : LinTx := ⟨9, 1, 0, 5⟩
    (l < 12) ∧ ((s.lin_ l).frame = some f) ∧ (f.typ ≠ 2) ∧ (f.fid < 64) ∧ (s.linPublish l f.fid = true) ∧ ((s.lin_ l).waiting = none)) ∧
    (let s : State := ((((base.put F.NWK_TRC_STATE 0 13).put F.LIN_CTL_EN 1 3).put F.LIN_SCHCTL_RUN 1 3).put F.LIN_FCFG_EN 1 3 9 |>.put F.LIN_ENT_TYPE 1 3 66 |>.put F.LIN_ENT_FID 9 3 66 |>.put F.LIN_ENT_SLOT 50 3 66).put F.LIN_STAT_BUSY 1 3 |>.setLin 3 { LinCh.idle with frame := some ⟨9, 1, 0, 5⟩ }
    let l : Nat := 3
    let err : Nat := 2
    let f : LinTx := ⟨9, 1, 0, 5⟩
    (l < 12) ∧ (2 ≤ err) ∧ (err ≤ 5) ∧ ((s.lin_ l).frame = some f) ∧ (f.typ ≠ 2) ∧ (f.fid < 64) ∧ ((s.lin_ l).waiting = none)) ∧
    (let s : State := (((((base.put F.NWK_TRC_STATE 0 13).put F.LIN_CTL_EN 1 3).put F.LIN_SCHCTL_RUN 1 3).put F.LIN_FCFG_EN 1 3 9 |>.put F.LIN_ENT_TYPE 1 3 66 |>.put F.LIN_ENT_FID 9 3 66 |>.put F.LIN_ENT_SLOT 50 3 66).put F.LIN_STAT_BUSY 1 3 |>.setLin 3 { LinCh.idle with frame := some ⟨9, 1, 0, 5⟩ }).put F.LIN_CTL_BAUD 19200 3
    let l : Nat := 3
    let f : LinTx := ⟨9, 1, 0, 5⟩
    (l < 12) ∧ ((s.lin_ l).frame = some f) ∧ (f.typ ≠ 2) ∧ (f.fid < 64) ∧ (s.linPublish l f.fid = false) ∧ (s.linDeadline l f ≤ s.now) ∧ ((s.lin_ l).waiting = none)) ∧
    (let s : State := (((base.put F.NWK_TRC_STATE 0 13).put F.LIN_CTL_EN 1 3).put F.LIN_SCHCTL_RUN 1 3).put F.LIN_FCFG_EN 1 3 9 |>.put F.LIN_ENT_TYPE 1 3 66 |>.put F.LIN_ENT_FID 9 3 66 |>.put F.LIN_ENT_SLOT 50 3 66
    let init : Init := .part 0
    let l : Nat := 3
    (l < 12) ∧ (s.domOn domFAB = true) ∧ (s.blockOn 8 = true) ∧ (s.mayWrite init .LIN_SCHCTL l = true) ∧ (s.get F.LIN_SCHCTL_RUN l = 1)) ∧
    (let s : State := (((((base.put F.NWK_TRC_STATE 0 13).put F.LIN_CTL_EN 1 3).put F.LIN_SCHCTL_RUN 1 3).put F.LIN_FCFG_EN 1 3 9 |>.put F.LIN_ENT_TYPE 1 3 66 |>.put F.LIN_ENT_FID 9 3 66 |>.put F.LIN_ENT_SLOT 50 3 66).put F.LIN_STAT_BUSY 1 3 |>.setLin 3 { LinCh.idle with frame := some ⟨9, 1, 0, 5⟩ }).put F.LIN_FCFG_DIR 0 3 9
    let l : Nat := 3
    let f : LinTx := ⟨9, 1, 0, 5⟩
    (l < 12) ∧ ((s.lin_ l).frame = some f) ∧ (f.typ ≠ 2) ∧ (f.fid < 64) ∧ (s.linPublish l f.fid = false) ∧ ((s.lin_ l).waiting = none)) := by
  refine ⟨?_, ?_, ?_, ?_, ?_, ?_, ?_, ?_⟩ <;> decide +kernel

theorem witness_CanCommandsComplete :
    (let s : State := base.put F.CAN_NBT_BRP 1 3 |>.put F.CAN_NBT_TSEG1 60 3 |>.put F.CAN_NBT_TSEG2 17 3 |>.put F.CAN_DBT_TSEG1 20 3 |>.put F.CAN_DBT_TSEG2 9 3
    let init : Init := .part 0
    let c : Nat := 3
    (c < 10) ∧ (s.domOn domFAB = true) ∧ (s.blockOn 7 = true) ∧ (s.mayWrite init .CAN_CTL c = true) ∧ (s.canTimingOk c = true)) ∧
    (let s : State := base.put F.CAN_NBT_TSEG2 0 3
    let init : Init := .part 0
    let c : Nat := 3
    (c < 10) ∧ (s.domOn domFAB = true) ∧ (s.blockOn 7 = true) ∧ (s.mayWrite init .CAN_CTL c = true) ∧ (s.get F.CAN_CTL_EN c = 0) ∧ (s.canTimingOk c = false)) ∧
    (let s : State := ((base.put F.CAN_CTL_EN 1 3).put F.NWK_TRC_STATE 0 3).put F.CAN_MBID_DIR 1 3 9 |>.put F.CAN_MBID_ID 0x4040000 3 9
    let c : Nat := 3
    let id : Nat := 0x4040000
    let dlc : Nat := 2
    let sof : Nat := 63999000000
    let ide : Bool := false
    let fdf : Bool := false
    let brs : Bool := false
    let esi : Bool := false
    let rtr : Bool := false
    let data : List Byte := [1, 2]
    let k : Nat := 9
    (s.canOn c = true) ∧ (fdf = false ∨ s.get F.CAN_CTL_FDEN c = 1) ∧ ((s.can_ c).edge = none) ∧ ((List.range 4).all (fun p => bitsOf (s.word .CAN_PBID c p 0) 31 31 != 1) = true) ∧ (k < 128) ∧ (s.get F.CAN_MBID_DIR c k = 1) ∧ ((List.range k).all (fun j => s.get F.CAN_MBID_DIR c j != 1) = true) ∧ (frMatches (frameWords id ide fdf brs esi rtr dlc data (t0Words (sof / 200 * 200))) (s.on F.CAN_MBID_IDE c k) (s.get F.CAN_MBID_ID c k) (s.get F.CAN_MBMSK_MASK c k) = true) ∧ (s.locked .CAN_MB c k = false)) ∧
    (let s : State := ((base.put F.CAN_CTL_EN 1 3).put F.NWK_TRC_STATE 0 3).put F.CAN_FIFOCTL_EN 1 3 |>.put F.CAN_FIFOCTL_ALL 1 3
    let c : Nat := 3
    let fdf : Bool := false
    (s.canOn c = true) ∧ (fdf = false ∨ s.get F.CAN_CTL_FDEN c = 1) ∧ ((s.can_ c).edge = none) ∧ ((List.range 4).all (fun p => bitsOf (s.word .CAN_PBID c p 0) 31 31 != 1) = true) ∧ ((List.range 128).all (fun k => s.get F.CAN_MBID_DIR c k != 1) = true) ∧ (s.get F.CAN_FIFOCTL_EN c = 1) ∧ (s.get F.CAN_FIFOCTL_ALL c = 1) ∧ ((s.can_ c).fifo.length < 64)) ∧
    (let s : State := ((base.put F.CAN_CTL_EN 1 3).put F.NWK_TRC_STATE 0 3)
    let c : Nat := 3
    let fdf : Bool := false
    (s.canOn c = true) ∧ (fdf = false ∨ s.get F.CAN_CTL_FDEN c = 1) ∧ ((s.can_ c).edge = none) ∧ ((List.range 4).all (fun p => bitsOf (s.word .CAN_PBID c p 0) 31 31 != 1) = true) ∧ ((List.range 128).all (fun k => s.get F.CAN_MBID_DIR c k != 1) = true) ∧ (s.get F.CAN_FIFOCTL_EN c = 0)) ∧
    (let s : State := base.setCan 3 { CanCh.idle with fifo := [(List.replicate 24 0), (List.replicate 24 0)] }
    let init : Init := .part 0
    let c : Nat := 3
    (c < 10) ∧ (s.domOn domFAB = true) ∧ (s.blockOn 7 = true) ∧ (s.ownRead init .CAN_FIFO c = true) ∧ ((s.can_ c).fifo.length ≤ 64) ∧ (s.bus.slots = [])) ∧
    (let s : State := ((base.put F.CAN_CTL_EN 1 3).put F.NWK_TRC_STATE 0 3).put F.CAN_MBID_DIR 2 3 9
    let init : Init := .part 0
    let c : Nat := 3
    let k : Nat := 9
    let ws : List Word := [0x123, 5] ++ List.replicate 22 0
    (c < 10) ∧ (k < 128) ∧ (s.domOn domFAB = true) ∧ (s.blockOn 7 = true) ∧ (s.mayWrite init .CAN_MB c = true) ∧ (s.get F.CAN_MBID_DIR c k = 2) ∧ ((s.can_ c).tx = none) ∧ (ws.length = 24) ∧ (bitsOf (ws.getD 1 0) 31 30 = 0) ∧ (bitsOf (ws.getD 23 0) 30 30 = 0)) ∧
    (let s : State := ((base.put F.CAN_CTL_EN 1 3).put F.NWK_TRC_STATE 0 3).put F.CAN_MBID_DIR 2 3 9 |>.put F.CAN_MB_TXREQ 1 3 9
    let init : Init := .part 0
    let c : Nat := 3
    let k : Nat := 9
    (c < 10) ∧ (k < 128) ∧ (s.domOn domFAB = true) ∧ (s.blockOn 7 = true) ∧ (s.mayWrite init .CAN_MB c = true) ∧ (s.get F.CAN_MBID_DIR c k = 2) ∧ ((s.can_ c).tx = none) ∧ (s.get F.CAN_MB_TXREQ c k = 1)) ∧
    (let s : State := (((base.put F.CAN_CTL_EN 1 3).put F.NWK_TRC_STATE 0 3).put F.CAN_MBID_DIR 2 3 9 |>.put F.CAN_MB_TXREQ 1 3 9).setCan 3 { CanCh.idle with tx := some ⟨some 9, none, 5000, false, none⟩ }
    let init : Init := .part 0
    let c : Nat := 3
    let k : Nat := 9
    let x : CanTx := ⟨some 9, none, 5000, false, none⟩
    (c < 10) ∧ (k < 128) ∧ (s.domOn domFAB = true) ∧ (s.blockOn 7 = true) ∧ (s.mayWrite init .CAN_MB c = true) ∧ (s.get F.CAN_MBID_DIR c k = 2) ∧ ((s.can_ c).tx = some x) ∧ (x.buf = some k)) ∧
    (let s : State := ((base.put F.CAN_CTL_EN 1 3).put F.NWK_TRC_STATE 0 3).put F.CAN_MBID_DIR 2 3 9 |>.put F.CAN_MB_TXREQ 1 3 9
    let c : Nat := 3
    let k : Nat := 9
    let key : Nat := 0
    (s.canOn c = true) ∧ (s.trc c = 0) ∧ (s.get F.CAN_STAT_ROMACT c = 0) ∧ (s.get F.CAN_STAT_BUSY c = 0) ∧ ((s.can_ c).wait.all (fun e => decide (e ≤ s.now)) = true) ∧ ((s.can_ c).gq = []) ∧ (s.firstBuf c = some (key, k))) ∧
    (let s : State := (((base.put F.CAN_CTL_EN 1 3).put F.NWK_TRC_STATE 0 3).put F.CAN_MBID_DIR 2 3 9 |>.put F.CAN_MB_TXREQ 1 3 9).setCan 3 { CanCh.idle with tx := some ⟨some 9, none, 5000, false, none⟩ }
    let c : Nat := 3
    let k : Nat := 9
    let sof : Nat := 5000
    (c < 10) ∧ (k < 128) ∧ ((s.can_ c).tx = some ⟨some k, none, sof, false, none⟩) ∧ (s.get F.CAN_MB_TXREQ c k = 1) ∧ (s.get F.CAN_CTL_LOOP c = 0)) ∧
    (let s : State := (((base.put F.CAN_CTL_EN 1 3).put F.NWK_TRC_STATE 0 3).put F.CAN_MBID_DIR 2 3 9 |>.put F.CAN_MB_TXREQ 1 3 9).setCan 3 { CanCh.idle with tx := some ⟨some 9, none, 5000, false, none⟩ }
    let c : Nat := 3
    let k : Nat := 9
    let sof : Nat := 5000
    (c < 10) ∧ (k < 128) ∧ ((s.can_ c).tx = some ⟨some k, none, sof, false, none⟩) ∧ (s.get F.CAN_MB_TXREQ c k = 1)) ∧
    (let s : State := ((base.put F.CAN_CTL_EN 1 3).put F.NWK_TRC_STATE 0 3)
    let c : Nat := 3
    let cls : Nat := 6
    (1 ≤ cls) ∧ (cls ≤ 6) ∧ (s.canOn c = true) ∧ ((s.can_ c).tx = none) ∧ (s.canFrozen c = false) ∧ (s.get F.CAN_ERRC_TEC c ≤ 255) ∧ (s.get F.CAN_ERRC_REC c < 127)) ∧
    (let s : State := (((base.put F.CAN_CTL_EN 1 3).put F.NWK_TRC_STATE 0 3).put F.CAN_MBID_DIR 2 3 9 |>.put F.CAN_MB_TXREQ 1 3 9).setCan 3 { CanCh.idle with tx := some ⟨some 9, none, 5000, false, none⟩ }
    let c : Nat := 3
    let k : Nat := 9
    let sof : Nat := 5000
    let cls : Nat := 4
    let kind : Nat := 0
    (1 ≤ cls) ∧ (cls ≤ 6) ∧ (kind ≠ 2) ∧ (s.canOn c = true) ∧ (k < 128) ∧ ((s.can_ c).tx = some ⟨some k, none, sof, false, none⟩) ∧ (s.get F.CAN_CTL_DAR c = 0) ∧ (s.canFrozen c = false) ∧ (s.get F.CAN_ERRC_TEC c ≤ 247)) ∧
    (let s : State := (((base.put F.CAN_CTL_EN 1 3).put F.NWK_TRC_STATE 0 3).put F.CAN_MBID_DIR 2 3 9 |>.put F.CAN_MB_TXREQ 1 3 9 |>.put F.CAN_ERRC_TEC 250 3).setCan 3 { CanCh.idle with tx := some ⟨some 9, none, 5000, false, none⟩ }
    let c : Nat := 3
    let cls : Nat := 4
    let kind : Nat := 0
    let x : CanTx := ⟨some 9, none, 5000, false, none⟩
    (1 ≤ cls) ∧ (cls ≤ 6) ∧ (kind ≠ 2) ∧ (s.canOn c = true) ∧ ((s.can_ c).tx = some x) ∧ (x.held = none) ∧ (s.canFrozen c = false) ∧ (248 ≤ s.get F.CAN_ERRC_TEC c) ∧ (s.get F.CAN_ERRC_TEC c ≤ 255)) ∧
    (let s : State := ((base.put F.CAN_CTL_EN 1 3).put F.NWK_TRC_STATE 0 3).put F.CAN_STAT_ESTATE 2 3
    let init : Init := .part 0
    let c : Nat := 3
    (c < 10) ∧ (s.domOn domFAB = true) ∧ (s.blockOn 7 = true) ∧ (s.mayWrite init .CAN_CTL c = true) ∧ (s.get F.CAN_CTL_EN c = 1) ∧ (s.get F.CAN_STAT_ESTATE c = 2)) ∧
    (let s : State := ((base.put F.CAN_CTL_EN 1 3).put F.NWK_TRC_STATE 0 3).put F.CAN_STAT_ESTATE 3 3
    let c : Nat := 3
    (c < 10) ∧ (s.get F.CAN_CTL_EN c = 1) ∧ (s.get F.CAN_STAT_ESTATE c = 3)) ∧
    (let s : State := ((base.put F.CAN_CTL_EN 1 3).put F.NWK_TRC_STATE 0 3).put F.CAN_CTL_ROM 1 3
    let c : Nat := 3
    (s.canOn c = true) ∧ (s.get F.CAN_STAT_BUSY c = 0)) ∧
    (let s : State := ((base.put F.CAN_CTL_EN 1 3).put F.NWK_TRC_STATE 0 3).put F.CAN_CTL_FDEN 0 3
    let c : Nat := 3
    (s.canOn c = true) ∧ (s.get F.CAN_CTL_FDEN c = 0)) ∧
    (let s : State := ((base.put F.CAN_CTL_EN 1 3).put F.NWK_TRC_STATE 0 3).put F.CAN_MBID_DIR 2 3 9 |>.put F.CAN_MB_TXREQ 1 3 9
    let init : Init := .part 0
    let c : Nat := 3
    let k : Nat := 9
    let dir : Nat := 1
    (c < 10) ∧ (k < 128) ∧ (dir < 4) ∧ (dir ≠ 2) ∧ (s.domOn domFAB = true) ∧ (s.blockOn 7 = true) ∧ (s.mayWrite init .CAN_MBID c = true) ∧ (s.get F.CAN_MBID_DIR c k = 2) ∧ (s.get F.CAN_MB_TXREQ c k = 1)) ∧
    (let s : State := base.setCan 3 { CanCh.idle with fifo := [(List.replicate 24 0), (List.replicate 24 0)] }
    let init : Init := .part 0
    let c : Nat := 3
    (c < 10) ∧ (s.domOn domFAB = true) ∧ (s.domOn domBUS = true) ∧ (s.ownsSpec init (.item 0x0E c) = true) ∧ ((s.can_ c).fifo ≠ []) ∧ (s.bus.slots = [])) ∧
    (let s : State := ((base.put F.CAN_CTL_EN 1 3).put F.NWK_TRC_STATE 0 3).put F.CAN_MBID_DIR 2 3 9 |>.put F.CAN_MB_TXREQ 1 3 9
    let c : Nat := 3
    let k : Nat := 9
    let key : Nat := 0
    (s.canOn c = true) ∧ (s.trc c = 0) ∧ (s.get F.CAN_STAT_ROMACT c = 0) ∧ (s.get F.CAN_STAT_BUSY c = 0) ∧ ((s.can_ c).wait.all (fun e => decide (e ≤ s.now)) = true) ∧ ((s.can_ c).gq = []) ∧ (s.firstBuf c = some (key, k))) ∧
    (let s : State := ((base.put F.CAN_CTL_EN 1 3).put F.NWK_TRC_STATE 0 3).put F.CAN_MBID_DIR 1 3 9 |>.put F.CAN_MBID_ID 0x4040000 3 9
    let c : Nat := 3
    let id : Nat := 0x4040000
    let dlc : Nat := 2
    let sof : Nat := 63999000000
    let ide : Bool := false
    let fdf : Bool := false
    let brs : Bool := false
    let esi : Bool := false
    let rtr : Bool := false
    let data : List Byte := [1, 2]
    let k : Nat := 9
    (s.canOn c = true) ∧ (fdf = false ∨ s.get F.CAN_CTL_FDEN c = 1) ∧ ((s.can_ c).edge = none) ∧ ((List.range 4).all (fun p => bitsOf (s.word .CAN_PBID c p 0) 31 31 != 1) = true) ∧ (k < 128) ∧ (s.get F.CAN_MBID_DIR c k = 1) ∧ ((List.range k).all (fun j => s.get F.CAN_MBID_DIR c j != 1) = true) ∧ (frMatches (frameWords id ide fdf brs esi rtr dlc data (t0Words (sof / 200 * 200))) (s.on F.CAN_MBID_IDE c k) (s.get F.CAN_MBID_ID c k) (s.get F.CAN_MBMSK_MASK c k) = true)) := by
  refine ⟨?_, ?_, ?_, ?_, ?_, ?_, ?_, ?_, ?_, ?_, ?_, ?_, ?_, ?_, ?_, ?_, ?_, ?_, ?_, ?_, ?_, ?_, ?_⟩ <;> decide +kernel

theorem witness_SleepAndWakeCommandsComplete :
    (let s : State := (base.put F.NWK_TRC_WKEN 1 3 |>.put F.NWK_TRC_STATE 3 3 |>.put F.NWK_TRC_SWEN 0 3).ncopyWord .NWK_TRC 3 0 0
    let init : Init := .part 0
    let j : Nat := 3
    (j < 22) ∧ (s.domOn domFAB = true) ∧ (s.blockOn 9 = true) ∧ (s.mayWrite init .NWK_TRC j = true) ∧ ((s.nchan j).wokeAt = none) ∧ (s.get F.NWK_CTL_AUTOPARK = 0) ∧ (2 ≤ s.trc j)) ∧
    (let s : State := base.put F.NWK_TRC_STATE 0 3
    let init : Init := .part 0
    let j : Nat := 3
    (j < 22) ∧ (s.domOn domFAB = true) ∧ (s.blockOn 9 = true) ∧ (s.mayWrite init .NWK_TRC j = true) ∧ ((s.nchan j).wokeAt = none) ∧ (s.get F.NWK_CTL_AUTOPARK = 0) ∧ (s.trc j = 0) ∧ (s.get F.NWK_TRC_GOING j = 0)) ∧
    (let s : State := base.put F.NWK_TRC_STATE 0 3
    let init : Init := .part 0
    let j : Nat := 3
    (j < 22) ∧ (s.domOn domFAB = true) ∧ (s.blockOn 9 = true) ∧ (s.mayWrite init .NWK_TRC j = true) ∧ ((s.nchan j).wokeAt = none) ∧ (s.get F.NWK_CTL_AUTOPARK = 0) ∧ (s.trc j = 0)) ∧
    (let s : State := base.put F.NWK_TRC_STATE 0 3
    let init : Init := .part 0
    let j : Nat := 3
    (j < 22) ∧ (s.domOn domFAB = true) ∧ (s.blockOn 9 = true) ∧ (s.mayWrite init .NWK_TRC j = true) ∧ ((s.nchan j).wokeAt = none) ∧ (s.get F.NWK_CTL_AUTOPARK = 0) ∧ (s.trc j = 0)) ∧
    (let s : State := base.put F.NWK_TRC_STATE 2 3
    let init : Init := .part 0
    let j : Nat := 3
    (j < 22) ∧ (s.domOn domFAB = true) ∧ (s.blockOn 9 = true) ∧ (s.mayWrite init .NWK_TRC j = true) ∧ ((s.nchan j).wokeAt = none) ∧ (s.get F.NWK_CTL_AUTOPARK = 0) ∧ (s.trc j = 2)) ∧
    (let s : State := base.setNchan 3 { NwkChan.quiet with want := some 3 }
    let j : Nat := 3
    let m : Nat := 3
    (j < 22) ∧ (m < 4) ∧ ((if j < 10 then s.on F.CAN_STAT_BUSY j else s.on F.LIN_STAT_BUSY (j - 10)) = false) ∧ ((s.nchan j).want = some m) ∧ (s.get F.NWK_CTL_AUTOPARK = 0)) ∧
    (let s : State := (base.put F.NWK_TRC_WKEN 1 3 |>.put F.NWK_TRC_STATE 3 3 |>.put F.NWK_TRC_SWEN 0 3).ncopyWord .NWK_TRC 3 0 0
    let j : Nat := 3
    (j < 10) ∧ (s.watches j = true) ∧ ((s.nchan j).wrote.all (fun w => w.1 / 200 != s.now / 200) = true) ∧ (s.ncopy F.NWK_TRC_SWEN j = 0) ∧ (s.guarded j = false)) ∧
    (let s : State := ((base.put F.NWK_TRC_WKEN 1 3 |>.put F.NWK_TRC_STATE 3 3 |>.put F.NWK_TRC_SWEN 0 3).ncopyWord .NWK_TRC 3 0 0).put F.NWK_STAT_STARTUP 1
    let j : Nat := 3
    (j < 10) ∧ (s.watches j = true) ∧ ((s.nchan j).wrote.all (fun w => w.1 / 200 != s.now / 200) = true) ∧ (s.ncopy F.NWK_TRC_SWEN j = 0) ∧ (s.guarded j = true) ∧ ((s.nchan j).cond = none)) ∧
    (let s : State := (base.put F.NWK_TRC_WKEN 1 13 |>.put F.NWK_TRC_STATE 3 13 |>.put F.NWK_TRC_SWEN 0 13).ncopyWord .NWK_TRC 13 0 0
    let j : Nat := 13
    (10 ≤ j) ∧ (j < 22) ∧ (s.watches j = true) ∧ ((s.nchan j).wrote.all (fun w => w.1 / 200 != s.now / 200) = true) ∧ (s.guarded j = false)) ∧
    (let s : State := ((((base.put F.NWK_TRC_WKEN 1 3 |>.put F.NWK_TRC_STATE 3 3 |>.put F.NWK_TRC_SWEN 1 3).ncopyWord .NWK_TRC 3 0 0).put F.NWK_SET_EN 1 3 1).ncopyWord .NWK_SET 3 1 0).put F.NWK_SWCFG_FEC 4 3
    let j : Nat := 3
    let id : Nat := 0
    let dlc : Nat := 2
    let ide : Bool := false
    let data : List Byte := [1, 2]
    (j < 10) ∧ (id < 2 ^ 29) ∧ (dlc < 16) ∧ (s.watches j = true) ∧ ((s.nchan j).wrote.all (fun w => w.1 / 200 != s.now / 200) = true) ∧ (s.ncopy F.NWK_TRC_SWEN j ≠ 0) ∧ (s.guarded j = false) ∧ ((List.range 4).any (fun k => s.setMatches j k id dlc ide ((dataWords (data.take (dlcLen false dlc))).getD 0 0) ((dataWords (data.take (dlcLen false dlc))).getD 1 0)) = true)) ∧
    (let s : State := ((((base.put F.NWK_TRC_WKEN 1 3 |>.put F.NWK_TRC_STATE 3 3 |>.put F.NWK_TRC_SWEN 1 3).ncopyWord .NWK_TRC 3 0 0).put F.NWK_SET_EN 1 3 1).ncopyWord .NWK_SET 3 1 0).put F.NWK_SWCFG_FEC 4 3
    let j : Nat := 3
    (j < 10) ∧ (s.watches j = true) ∧ ((s.nchan j).wrote.all (fun w => w.1 / 200 != s.now / 200) = true) ∧ (s.ncopy F.NWK_TRC_SWEN j ≠ 0) ∧ (s.get F.NWK_SWCFG_FEC j < s.ncopy F.NWK_SWCFG_ERRLIM j)) ∧
    (let s : State := (base.put F.NWK_WIO_WIEN 1).ncopyWord .NWK_WIO 0 0 0
    (s.ncopy F.NWK_WIO_WIEN ≠ 0) ∧ (s.loopIgnored = false) ∧ (s.nwk.highFrom = none) ∧ (s.nwk.raised = false)) ∧
    (let s : State := { base with nwk := { base.nwk with pulseTo := some 5, outHigh := true } }
    let u : Nat := 5
    (s.nwk.pulseTo = some u) ∧ (u ≤ s.now) ∧ (s.nwk.outHigh = true) ∧ (s.get F.NWK_WIO_WOLVL = 0)) ∧
    (let s : State := { base with nwk := { base.nwk with ignoreTo := some 5 } }
    let u : Nat := 5
    (s.nwk.ignoreTo = some u) ∧ (u ≤ s.now)) ∧
    (let s : State := base.setNchan 3 { NwkChan.quiet with window := some 5 }
    let j : Nat := 3
    let u : Nat := 5
    (j < 22) ∧ ((s.nchan j).window = some u) ∧ (u ≤ s.now) ∧ (s.guarded j = false)) ∧
    (let s : State := (base.setNchan 3 { NwkChan.quiet with backTo := some 5 }).put F.NWK_FW_BOACT 1 3
    let j : Nat := 3
    let u : Nat := 5
    (j < 22) ∧ ((s.nchan j).backTo = some u) ∧ (u ≤ s.now)) ∧
    (let s : State := (base.setNchan 3 { NwkChan.quiet with recTo := some 5 }).put F.NWK_FW_RECACT 1 3
    let j : Nat := 3
    let u : Nat := 5
    (j < 22) ∧ ((s.nchan j).recTo = some u) ∧ (u ≤ s.now)) ∧
    (let s : State := { base.put F.NWK_STAT_STARTUP 1 with nwk := { base.nwk with startTo := some 5 } }
    let u : Nat := 5
    (s.nwk.startTo = some u) ∧ (u ≤ s.now)) ∧
    (let s : State := base.setNchan 3 { NwkChan.quiet with cond := some (5, 1, 2, false, []) }
    let j : Nat := 3
    let u : Nat := 5
    let src : Nat := 1
    let a : Nat := 2
    let co : Bool := false
    let ws : List Word := []
    (j < 22) ∧ ((s.nchan j).cond = some (u, src, a, co, ws)) ∧ (u ≤ s.now)) ∧
    (let s : State := { (((base.put F.NWK_TRC_WFMB 9 3).put F.CAN_CTL_EN 1 3).put F.CAN_MBID_DIR 2 3 9).put F.NWK_TRC_STATE 0 3 with nwk := { base.nwk with framesDue := [2, 3] } }
    let j : Nat := 3
    let k : Nat := 9
    (j < 10) ∧ (s.nwk.framesDue.contains j = true) ∧ (s.pwr = 0) ∧ (s.get F.NWK_TRC_WFMB j = k) ∧ (s.get F.CAN_CTL_EN j = 1) ∧ (s.trc j = 0) ∧ (s.get F.CAN_MBID_DIR j k = 2)) ∧
    (let s : State := { base with nwk := { base.nwk with framesDue := [2, 3] } }
    let j : Nat := 3
    (j < 10) ∧ (s.nwk.framesDue.contains j = true) ∧ (s.pwr = 0) ∧ (s.get F.CAN_CTL_EN j = 0)) := by
  refine ⟨?_, ?_, ?_, ?_, ?_, ?_, ?_, ?_, ?_, ?_, ?_, ?_, ?_, ?_, ?_, ?_, ?_, ?_, ?_, ?_, ?_⟩ <;> decide +kernel

theorem witness_GatewayCommandsComplete :
    (let s : State := { ((((((((base.put F.CAN_CTL_EN 1 3).put F.NWK_TRC_STATE 0 3).put F.GWY_CTL_EN 1).put F.GWY_CPL_EN 1 5).put F.GWY_CPL_KIND 0 5).put F.GWY_CPL_SPORT 0 5).put F.GWY_CPL_DPORT 3 5).put F.GWY_CPL_GRP 0 5 |>.put F.GWY_CPL_SID 77 5).put F.GWY_CPL_DFMT 1 5 with gwy := { GwyState.reset with inbox := [{ (⟨0, 77, false, false, false, [1, 2], none, 0, 0, 0⟩ : Msg) with id := 5 }] } }
    let m : Msg := { (⟨0, 77, false, false, false, [1, 2], none, 0, 0, 0⟩ : Msg) with id := 5 }
    let rest : List Msg := []
    (s.gwy.inbox = m :: rest) ∧ (s.enabledCpls.all (fun i => !s.cplMatches m i) = true) ∧ (s.gwy.waiting = [])) ∧
    (let s : State := { ((((((((base.put F.CAN_CTL_EN 1 3).put F.NWK_TRC_STATE 0 3).put F.GWY_CTL_EN 1).put F.GWY_CPL_EN 1 5).put F.GWY_CPL_KIND 0 5).put F.GWY_CPL_SPORT 0 5).put F.GWY_CPL_DPORT 3 5).put F.GWY_CPL_GRP 0 5 |>.put F.GWY_CPL_SID 77 5).put F.GWY_CPL_DFMT 1 5 with gwy := { GwyState.reset with inbox := [⟨0, 77, false, false, false, [1, 2], none, 0, 0, 0⟩] } }
    let m : Msg := ⟨0, 77, false, false, false, [1, 2], none, 0, 0, 0⟩
    let rest : List Msg := []
    let i : Nat := 5
    let c : Nat := 3
    (s.gwy.inbox = m :: rest) ∧ (s.gwy.waiting = []) ∧ (i < 4096) ∧ (c < 10) ∧ (s.enabledCpls.filter (fun k => s.cplMatches m k) = [i]) ∧ (s.get F.GWY_CPL_KIND i = 0) ∧ (s.get F.GWY_CPL_CHKEN i = 0) ∧ (s.get F.GWY_CPL_DPORT i = c) ∧ (s.get F.GWY_CPL_DFMT i = 1) ∧ (m.data.length ≤ 8) ∧ (s.get F.CAN_CTL_EN c = 1) ∧ (s.trc c = 0) ∧ ((s.can_ c).gq.length < 32)) ∧
    (let s : State := { (((((((((base.put F.CAN_CTL_EN 1 3).put F.NWK_TRC_STATE 0 3).put F.GWY_CTL_EN 1).put F.GWY_CPL_EN 1 5).put F.GWY_CPL_KIND 0 5).put F.GWY_CPL_SPORT 0 5).put F.GWY_CPL_DPORT 3 5).put F.GWY_CPL_GRP 0 5 |>.put F.GWY_CPL_SID 77 5).put F.GWY_CPL_DFMT 1 5).put F.GWY_CPL_CHKU 4 5 with gwy := { GwyState.reset with jobs := [(4, [⟨5, 1, some ⟨0, 77, false, false, false, [1, 2], none, 0, 0, 0⟩, none⟩])] } }
    let u : Nat := 4
    let i : Nat := 5
    let n : Nat := 1
    let m : Msg := ⟨0, 77, false, false, false, [1, 2], none, 0, 0, 0⟩
    let rest : List ChkJob := []
    (u < 32) ∧ (Sparse.at s.gwy.jobs u [] = ⟨i, n, some m, none⟩ :: rest) ∧ (s.get F.GWY_CPL_KIND i ≠ 2) ∧ (s.gwy.waiting = []) ∧ (m.data.take (crcLen (s.get F.CHK_CFG_CODE u)) ≠ s.chkCrc u (m.data.drop (crcLen (s.get F.CHK_CFG_CODE u))))) ∧
    (let s : State := { ((((((((((base.put F.CAN_CTL_EN 1 3).put F.NWK_TRC_STATE 0 3).put F.GWY_CTL_EN 1).put F.GWY_CPL_EN 1 5).put F.GWY_CPL_KIND 0 5).put F.GWY_CPL_SPORT 0 5).put F.GWY_CPL_DPORT 3 5).put F.GWY_CPL_GRP 0 5 |>.put F.GWY_CPL_SID 77 5).put F.GWY_CPL_DFMT 1 5).put F.GWY_CPL_CHKU 4 5).put F.CHK_CFG_AW 1 4 with gwy := { GwyState.reset with jobs := [(4, [⟨5, 1, none, some ⟨5, 77, false, false, false, [1], none, false, none⟩⟩])] } }
    let u : Nat := 4
    let w : Nat := 4
    let n : Nat := 1
    let o : OutMsg := ⟨5, 77, false, false, false, [1], none, false, none⟩
    let rest : List ChkJob := []
    (u < 32) ∧ (Sparse.at s.gwy.jobs u [] = ⟨o.cpl, n, none, some o⟩ :: rest) ∧ (s.chkWidth u = w) ∧ (w ≠ 0) ∧ (s.gwy.waiting = [])) ∧
    (let s : State := base.setCan 3 { CanCh.idle with gq := [⟨List.replicate 24 0, 5, 7, 1, none⟩] }
    let c : Nat := 3
    let e : CanEnt := ⟨List.replicate 24 0, 5, 7, 1, none⟩
    (c < 10) ∧ (e.cpl < 4096) ∧ ((s.can_ c).gq = [e]) ∧ ((s.can_ c).held = []) ∧ ((s.can_ c).tx = none) ∧ (e.at_ + max 1 (s.get F.GWY_CTL_QAGE) * msUnits < s.now)) ∧
    (let s : State := { base with gwy := { GwyState.reset with gathers := [(21, ⟨[[1, 2, 3, 4]], 7, []⟩)] } }
    let k : Nat := 5
    let p : Nat := 1
    let g : Gather := ⟨[[1, 2, 3, 4]], 7, []⟩
    (k < 64) ∧ (p < 4) ∧ (Sparse.get s.gwy.gathers (4 * k + p) = some g) ∧ (g.at_ + s.get F.GWY_TUN_AGG k * usUnits ≤ s.now)) ∧
    (let s : State := { base with eth := { base.eth with avtp := [parseFrame (List.replicate 60 0) 0 0 2 5] } }
    let f : Frame := parseFrame (List.replicate 60 0) 0 0 2 5
    let rest : List Frame := []
    (s.eth.avtp = f :: rest) ∧ (s.tunnelOf (beNum ((f.body.drop 6).take 8)) = none)) ∧
    (let s : State := { (base.put F.GWY_TUN_RXEN 1 5).put F.GWY_TUN_STREAM 9 5 with eth := { base.eth with avtp := [{ parseFrame (List.replicate 60 0) 0 0 2 5 with body := [0x22, 0xF0, 0x82, 0x80, 0, 7, 0, 0, 0, 0, 0, 0, 0, 9] }] }, gwy := { GwyState.reset with seqRx := [(5, 207)] } }
    let f : Frame := { parseFrame (List.replicate 60 0) 0 0 2 5 with body := [0x22, 0xF0, 0x82, 0x80, 0, 7, 0, 0, 0, 0, 0, 0, 0, 9] }
    let rest : List Frame := []
    let k : Nat := 5
    let seq : Nat := 7
    (s.eth.avtp = f :: rest) ∧ (k < 64) ∧ (s.tunnelOf (beNum ((f.body.drop 6).take 8)) = some k) ∧ (((f.body.drop 2).getD 0 0).toNat ≠ 4) ∧ (((f.body.drop 2).getD 3 0).toNat = seq) ∧ (acfSplit 400 ((f.body.drop 14).take (beNum ((f.body.drop 3).take 2) % 2048)) = []) ∧ (Sparse.get s.gwy.seqRx k = some ((seq + 200) % 256))) ∧
    (let s : State := (((((((((base.put F.CAN_CTL_EN 1 3).put F.NWK_TRC_STATE 0 3).put F.GWY_CTL_EN 1).put F.GWY_CPL_EN 1 5).put F.GWY_CPL_KIND 0 5).put F.GWY_CPL_SPORT 0 5).put F.GWY_CPL_DPORT 3 5).put F.GWY_CPL_GRP 0 5 |>.put F.GWY_CPL_SID 77 5).put F.GWY_CPL_DFMT 1 5).put F.GWY_CPL_EN 0 5
    let init : Init := .part 0
    let i : Nat := 5
    (i < 4096) ∧ (s.domOn domFAB = true) ∧ (s.mayWrite init .GWY_CPL i = true) ∧ (s.get F.GWY_CPL_EN i = 0) ∧ (s.cplBad i = false)) ∧
    (let s : State := ((((((((((base.put F.CAN_CTL_EN 1 3).put F.NWK_TRC_STATE 0 3).put F.GWY_CTL_EN 1).put F.GWY_CPL_EN 1 5).put F.GWY_CPL_KIND 0 5).put F.GWY_CPL_SPORT 0 5).put F.GWY_CPL_DPORT 3 5).put F.GWY_CPL_GRP 0 5 |>.put F.GWY_CPL_SID 77 5).put F.GWY_CPL_DFMT 1 5).put F.GWY_CPL_EN 0 5).put F.GWY_CPL_DPORT 0 5
    let init : Init := .part 0
    let i : Nat := 5
    (i < 4096) ∧ (s.domOn domFAB = true) ∧ (s.mayWrite init .GWY_CPL i = true) ∧ (s.get F.GWY_CPL_EN i = 0) ∧ (s.cplBad i = true)) ∧
    (let s : State := ((((((((base.put F.CAN_CTL_EN 1 3).put F.NWK_TRC_STATE 0 3).put F.GWY_CTL_EN 1).put F.GWY_CPL_EN 1 5).put F.GWY_CPL_KIND 0 5).put F.GWY_CPL_SPORT 0 5).put F.GWY_CPL_DPORT 3 5).put F.GWY_CPL_GRP 0 5 |>.put F.GWY_CPL_SID 77 5).put F.GWY_CPL_DFMT 1 5
    let init : Init := .part 0
    let i : Nat := 5
    (i < 4096) ∧ (s.domOn domFAB = true) ∧ (s.mayWrite init .GWY_CPL i = true)) ∧
    (let s : State := ((((((((((((((base.put F.CAN_CTL_EN 1 3).put F.NWK_TRC_STATE 0 3).put F.GWY_CTL_EN 1).put F.GWY_CPL_EN 1 10).put F.GWY_CPL_KIND 1 10).put F.GWY_CPL_SPORT 48 10).put F.GWY_CPL_DPORT 3 10).put F.GWY_CPL_GRP 2 10 |>.put F.GWY_CPL_SID 0 10).put F.GWY_CPL_EN 1 11).put F.GWY_CPL_KIND 2 11).put F.GWY_CPL_SPORT 3 11).put F.GWY_CPL_DPORT 48 11).put F.GWY_CPL_GRP 2 11 |>.put F.GWY_CPL_SID 0 11).put F.GWY_GRP_CPLREQ 10 2 |>.put F.GWY_GRP_CPLRSP 11 2)
    let init : Init := .part 0
    let p : Nat := 0
    let g : Nat := 2
    let tag : Nat := 7
    let addr : Nat := 0x4000
    let count : Nat := 3
    (p < 4) ∧ (g < 63) ∧ (tag < 256) ∧ (s.domOn domFAB = true) ∧ (s.mayWrite init .GWY_RQ p = true) ∧ (s.grpOwner g = some p) ∧ (addr < 2 ^ 32) ∧ (count < 16) ∧ (s.rqRefused 1 g tag addr count = none) ∧ (s.gwy.lines = []) ∧ (s.get F.GWY_GRP_PFLEN g = 0)) ∧
    (let s : State := ((((((((((((((base.put F.CAN_CTL_EN 1 3).put F.NWK_TRC_STATE 0 3).put F.GWY_CTL_EN 1).put F.GWY_CPL_EN 1 10).put F.GWY_CPL_KIND 1 10).put F.GWY_CPL_SPORT 48 10).put F.GWY_CPL_DPORT 3 10).put F.GWY_CPL_GRP 2 10 |>.put F.GWY_CPL_SID 0 10).put F.GWY_CPL_EN 1 11).put F.GWY_CPL_KIND 2 11).put F.GWY_CPL_SPORT 3 11).put F.GWY_CPL_DPORT 48 11).put F.GWY_CPL_GRP 2 11 |>.put F.GWY_CPL_SID 0 11).put F.GWY_GRP_CPLREQ 10 2 |>.put F.GWY_GRP_CPLRSP 11 2)
    let init : Init := .part 0
    let p : Nat := 0
    let g : Nat := 2
    let tag : Nat := 7
    let addr : Nat := 0x4001
    let count : Nat := 3
    let code : Nat := 11
    (p < 4) ∧ (g < 63) ∧ (tag < 256) ∧ (s.domOn domFAB = true) ∧ (s.mayWrite init .GWY_RQ p = true) ∧ (s.grpOwner g = some p) ∧ (addr < 2 ^ 32) ∧ (count < 16) ∧ (s.rqRefused 1 g tag addr count = some code) ∧ (s.gringRuns p = false)) ∧
    (let s : State := ((((((((((((((base.put F.CAN_CTL_EN 1 3).put F.NWK_TRC_STATE 0 3).put F.GWY_CTL_EN 1).put F.GWY_CPL_EN 1 10).put F.GWY_CPL_KIND 1 10).put F.GWY_CPL_SPORT 48 10).put F.GWY_CPL_DPORT 3 10).put F.GWY_CPL_GRP 2 10 |>.put F.GWY_CPL_SID 0 10).put F.GWY_CPL_EN 1 11).put F.GWY_CPL_KIND 2 11).put F.GWY_CPL_SPORT 3 11).put F.GWY_CPL_DPORT 48 11).put F.GWY_CPL_GRP 2 11 |>.put F.GWY_CPL_SID 0 11).put F.GWY_GRP_CPLREQ 10 2 |>.put F.GWY_GRP_CPLRSP 11 2)
    let init : Init := .part 0
    let p : Nat := 0
    let g : Nat := 2
    let tag : Nat := 7
    let addr : Nat := 0x4000
    let count : Nat := 2
    (p < 4) ∧ (g < 63) ∧ (tag < 256) ∧ (s.domOn domFAB = true) ∧ (s.mayWrite init .GWY_RQ p = true) ∧ (s.grpOwner g = some p) ∧ (addr < 2 ^ 32) ∧ (count < 16) ∧ (s.rqRefused 2 g tag addr count = none) ∧ (s.gwy.lines = [])) ∧
    (let s : State := { ((((((((((((((base.put F.CAN_CTL_EN 1 3).put F.NWK_TRC_STATE 0 3).put F.GWY_CTL_EN 1).put F.GWY_CPL_EN 1 10).put F.GWY_CPL_KIND 1 10).put F.GWY_CPL_SPORT 48 10).put F.GWY_CPL_DPORT 3 10).put F.GWY_CPL_GRP 2 10 |>.put F.GWY_CPL_SID 0 10).put F.GWY_CPL_EN 1 11).put F.GWY_CPL_KIND 2 11).put F.GWY_CPL_SPORT 3 11).put F.GWY_CPL_DPORT 48 11).put F.GWY_CPL_GRP 2 11 |>.put F.GWY_CPL_SID 0 11).put F.GWY_GRP_CPLREQ 10 2 |>.put F.GWY_GRP_CPLRSP 11 2) with gwy := { GwyState.reset with replies := [(11, [3, 9, 0, 0], false)] } }
    let i : Nat := 11
    let data : List Byte := [3, 9, 0, 0]
    let f : Bool := false
    let rest : List (Nat × List Byte × Bool) := []
    (i < 4096) ∧ (s.gwy.replies = (i, data, f) :: rest) ∧ (s.access (s.get F.GWY_CPL_GRP i) ((data.getD 1 0).toNat) = none)) ∧
    (let s : State := { ((((((((((((((base.put F.CAN_CTL_EN 1 3).put F.NWK_TRC_STATE 0 3).put F.GWY_CTL_EN 1).put F.GWY_CPL_EN 1 10).put F.GWY_CPL_KIND 1 10).put F.GWY_CPL_SPORT 48 10).put F.GWY_CPL_DPORT 3 10).put F.GWY_CPL_GRP 2 10 |>.put F.GWY_CPL_SID 0 10).put F.GWY_CPL_EN 1 11).put F.GWY_CPL_KIND 2 11).put F.GWY_CPL_SPORT 3 11).put F.GWY_CPL_DPORT 48 11).put F.GWY_CPL_GRP 2 11 |>.put F.GWY_CPL_SID 0 11).put F.GWY_GRP_CPLREQ 10 2 |>.put F.GWY_GRP_CPLRSP 11 2) with gwy := { GwyState.reset with replies := [(11, [3, 7, 0, 0, 0, 0, 0, 0, 5, 5, 5, 5], false)], accs := [⟨2, 7, false, 0x4000, 1, 1, [], 1, some 5, none⟩] } }
    let i : Nat := 11
    let data : List Byte := [3, 7, 0, 0, 0, 0, 0, 0, 5, 5, 5, 5]
    let a : Access := ⟨2, 7, false, 0x4000, 1, 1, [], 1, some 5, none⟩
    let rest : List (Nat × List Byte × Bool) := []
    (i < 4096) ∧ (s.gwy.replies = (i, data, false) :: rest) ∧ (s.access (s.get F.GWY_CPL_GRP i) ((data.getD 1 0).toNat) = some a) ∧ (a.write = false) ∧ ((data.getD 0 0).toNat = 3) ∧ ((data.getD 3 0).toNat = 0) ∧ (a.want = a.count)) ∧
    (let s : State := { ((((((((((((((base.put F.CAN_CTL_EN 1 3).put F.NWK_TRC_STATE 0 3).put F.GWY_CTL_EN 1).put F.GWY_CPL_EN 1 10).put F.GWY_CPL_KIND 1 10).put F.GWY_CPL_SPORT 48 10).put F.GWY_CPL_DPORT 3 10).put F.GWY_CPL_GRP 2 10 |>.put F.GWY_CPL_SID 0 10).put F.GWY_CPL_EN 1 11).put F.GWY_CPL_KIND 2 11).put F.GWY_CPL_SPORT 3 11).put F.GWY_CPL_DPORT 48 11).put F.GWY_CPL_GRP 2 11 |>.put F.GWY_CPL_SID 0 11).put F.GWY_GRP_CPLREQ 10 2 |>.put F.GWY_GRP_CPLRSP 11 2) with gwy := { GwyState.reset with accs := [⟨2, 7, false, 0x4000, 1, 1, [], 1, some 5, none⟩] } }
    let g : Nat := 2
    let tag : Nat := 7
    let u : Nat := 5
    let a : Access := ⟨2, 7, false, 0x4000, 1, 1, [], 1, some 5, none⟩
    (g < 63) ∧ (s.access g tag = some a) ∧ (a.from_ = some u) ∧ (u + s.tmo g ≤ s.now) ∧ (a.write = false) ∧ (s.gwy.replies = [])) ∧
    (let s : State := { base with gwy := { GwyState.reset with lines := [⟨2, 7, 0x4000, [none, some 9], 5⟩] } }
    let g : Nat := 2
    let l : PfLine := ⟨2, 7, 0x4000, [none, some 9], 5⟩
    let v : Word := 9
    (s.gwy.lines = [l]) ∧ (l.grp = g) ∧ (l.words.filter (fun w => w.isSome) = [some v]) ∧ (l.at_ + max 1 (s.get F.GWY_GRP_PFAGE g) * msUnits ≤ s.now)) ∧
    (let s : State := ((((((((base.put F.CAN_CTL_EN 1 3).put F.NWK_TRC_STATE 0 3).put F.GWY_CTL_EN 1).put F.GWY_CPL_EN 1 5).put F.GWY_CPL_KIND 3 5).put F.GWY_CPL_SPORT 64 5).put F.GWY_CPL_DPORT 3 5).put F.GWY_CPL_GRP 0 5 |>.put F.GWY_CPL_SID 259 5)
    let p : Nat := 0
    let sig : Nat := 3
    let level : Bool := true
    (sig < 32) ∧ (s.enabledCpls.any (fun i => s.get F.GWY_CPL_KIND i == 3 && s.get F.GWY_CPL_SPORT i == 0x40 && s.get F.GWY_CPL_SID i == 0x100 + sig && s.cplOwner i == some p) = true) ∧ (Sparse.at s.gwy.sigs (32 * p + sig) false ≠ level) ∧ (s.get F.GWY_CTL_EN = 1) ∧ (s.domOn domFAB = true)) := by
  refine ⟨?_, ?_, ?_, ?_, ?_, ?_, ?_, ?_, ?_, ?_, ?_, ?_, ?_, ?_, ?_, ?_, ?_, ?_, ?_⟩ <;> decide +kernel

theorem witness_AccessCommandsComplete :
    (let s : State := (((base.put F.ACC_TOK_ENR 1 0).put F.ACC_TOK_ID 77 0).put F.ACC_CTL_EN 1)
    let init : Init := .part 0
    let f : Nat := 1
    (f < 2) ∧ (s.domOn domFAB = true) ∧ (s.domOn domACC = true) ∧ (s.mayWrite init .ACC_FNREQ f = true) ∧ (s.acc.exch = none) ∧ (s.lockedOut = false)) ∧
    (let s : State := (((base.put F.ACC_TOK_ENR 1 0).put F.ACC_TOK_ID 77 0).put F.ACC_CTL_EN 1).put F.ACC_LOCKOUT_ACTIVE 1
    let init : Init := .part 0
    let f : Nat := 1
    (f < 2) ∧ (s.domOn domFAB = true) ∧ (s.domOn domACC = true) ∧ (s.mayWrite init .ACC_FNREQ f = true) ∧ (s.acc.exch = none) ∧ (s.lockedOut = true)) ∧
    (let s : State := (((base.put F.ACC_TOK_ENR 1 0).put F.ACC_TOK_ID 77 0).put F.ACC_CTL_EN 1)
    let init : Init := .part 0
    (s.domOn domFAB = true) ∧ (s.domOn domACC = true) ∧ (s.mayWrite init .ACC_FNREQ 0 = true) ∧ (s.acc.exch = none)) ∧
    (let s : State := (((base.put F.ACC_TOK_ENR 1 0).put F.ACC_TOK_ID 77 0).put F.ACC_CTL_EN 1)
    let init : Init := .part 0
    (s.domOn domFAB = true) ∧ (s.domOn domACC = true) ∧ (s.mayWrite init .ACC_FNREQ 0 = true) ∧ (s.acc.exch = none)) ∧
    (let s : State := (((base.put F.ACC_TOK_ENR 1 0).put F.ACC_TOK_ID 77 0).put F.ACC_CTL_EN 1)
    let init : Init := .part 0
    let id : Nat := 9
    let k : Nat := 1
    (s.domOn domFAB = true) ∧ (s.domOn domACC = true) ∧ (s.mayWrite init .ACC_FNREQ 3 = true) ∧ (s.acc.exch = none) ∧ (id < 2 ^ 32) ∧ (s.acc.writing = none) ∧ (s.lockedOut = false) ∧ (s.tokenOf id = none) ∧ ((List.range 8).find? (fun n => !s.enrolled n) = some k)) ∧
    (let s : State := { (((base.put F.ACC_TOK_ENR 1 0).put F.ACC_TOK_ID 77 0).put F.ACC_CTL_EN 1) with acc := { AccState.reset with grantTo := some 65000000000 } }
    let init : Init := .part 0
    let id : Nat := 9
    let k : Nat := 1
    let d : Nat := 65000000000
    (s.domOn domFAB = true) ∧ (s.domOn domACC = true) ∧ (s.mayWrite init .ACC_FNREQ 3 = true) ∧ (s.acc.exch = none) ∧ (id < 2 ^ 32) ∧ (s.acc.writing = none) ∧ (s.lockedOut = false) ∧ (s.tokenOf id = none) ∧ ((List.range 8).find? (fun n => !s.enrolled n) = some k) ∧ (s.acc.grantTo = some d) ∧ (s.now ≤ d)) ∧
    (let s : State := (((base.put F.ACC_TOK_ENR 1 0).put F.ACC_TOK_ID 77 0).put F.ACC_CTL_EN 1)
    let init : Init := .part 0
    let slot : Nat := 0
    (s.domOn domFAB = true) ∧ (s.domOn domACC = true) ∧ (s.mayWrite init .ACC_FNREQ 3 = true) ∧ (s.acc.exch = none) ∧ (slot < 8) ∧ (s.acc.writing = none)) ∧
    (let s : State := { (((((base.put F.ACC_TOK_ENR 1 0).put F.ACC_TOK_ID 77 0).put F.ACC_CTL_EN 1).put F.ACC_AER_VECMASK 255).put F.ACC_CTL_MINAER 2).put F.ACC_CTL_SPREADMIN 0 with acc := { AccState.reset with keys := [(0, 1234)], exch := some ⟨0, 1, 5, 0, none, 1, 5, 1, 0, false, 0, none, 9⟩ } }
    let e : Exch := ⟨0, 1, 5, 0, none, 1, 5, 1, 0, false, 0, none, 9⟩
    let sync : Bool := true
    let unc : Bool := true
    (sync = false ∨ unc = true) ∧ (s.acc.exch = some e) ∧ (e.again = none) ∧ (e.judged < e.m) ∧ (e.m ≤ 8) ∧ (s.fieldEnd e + msUnits + 6 * msUnits * e.judged ≤ s.now)) ∧
    (let s : State := { (((((base.put F.ACC_TOK_ENR 1 0).put F.ACC_TOK_ID 77 0).put F.ACC_CTL_EN 1).put F.ACC_AER_VECMASK 255).put F.ACC_CTL_MINAER 2).put F.ACC_CTL_SPREADMIN 0 with acc := { AccState.reset with keys := [(0, 1234)], exch := some ⟨0, 1, 5, 0, none, 1, 5, 1, 0, false, 0, none, 9⟩ } }
    let id : Nat := 77
    let resp : Nat := tokenResp 1234 9 [10, 20, 30, 40, 50, 60, 70, 80]
    let e : Exch := ⟨0, 1, 5, 0, none, 1, 5, 1, 0, false, 0, none, 9⟩
    let vec : List Nat := [10, 20, 30, 40, 50, 60, 70, 80]
    let lat : Int := 0
    (s.acc.exch = some e) ∧ (e.again = none) ∧ (e.slot = none) ∧ (e.judged < e.m) ∧ (e.m ≤ 8) ∧ (s.fieldEnd e + msUnits + 6 * msUnits * e.judged ≤ s.now) ∧ (id < 2 ^ 32) ∧ (s.enrolled e.judged = true) ∧ (s.get F.ACC_TOK_ID e.judged = id) ∧ ((s.slotKey e.judged id false).map (fun key => tokenResp key e.chal vec) = some resp) ∧ (resp < 2 ^ 64) ∧ (s.plausible vec lat = true) ∧ (s.zonesOf vec < 65536)) ∧
    (let s : State := { (((((base.put F.ACC_TOK_ENR 1 0).put F.ACC_TOK_ID 77 0).put F.ACC_CTL_EN 1).put F.ACC_AER_VECMASK 255).put F.ACC_CTL_MINAER 2).put F.ACC_CTL_SPREADMIN 0 with acc := { AccState.reset with keys := [(0, 1234)], exch := some ⟨0, 1, 5, 0, none, 1, 5, 1, 0, false, 0, none, 9⟩ } }
    let id : Nat := 77
    let resp : Nat := 3
    let e : Exch := ⟨0, 1, 5, 0, none, 1, 5, 1, 0, false, 0, none, 9⟩
    let vec : List Nat := [10, 20, 30, 40, 50, 60, 70, 80]
    (s.acc.exch = some e) ∧ (e.again = none) ∧ (e.slot = none) ∧ (e.judged < e.m) ∧ (e.m ≤ 8) ∧ (s.fieldEnd e + msUnits + 6 * msUnits * e.judged ≤ s.now) ∧ (id < 2 ^ 32) ∧ (s.enrolled e.judged = true) ∧ (s.get F.ACC_TOK_ID e.judged = id) ∧ ((s.slotKey e.judged id false).map (fun key => tokenResp key e.chal vec) ≠ some resp) ∧ (resp < 2 ^ 64)) ∧
    (let s : State := { (((((base.put F.ACC_TOK_ENR 1 0).put F.ACC_TOK_ID 77 0).put F.ACC_CTL_EN 1)).put F.ACC_TOK_RESULT 1 0).put F.ACC_TOK_ZONES 4 0 with acc := { AccState.reset with exch := some ⟨0, 1, 5, 0, none, 1, 5, 1, 1, false, 0, none, 9⟩ } }
    let e : Exch := ⟨0, 1, 5, 0, none, 1, 5, 1, 1, false, 0, none, 9⟩
    (s.acc.exch = some e) ∧ (e.fn < 4) ∧ (e.again = none) ∧ (e.judged = e.m) ∧ (s.fieldEnd e + msUnits + 6 * msUnits * e.m + 200 * usUnits ≤ s.now) ∧ (e.slot = none) ∧ (e.failed = 0) ∧ (e.garbled = false)) ∧
    (let s : State := { (((base.put F.ACC_TOK_ENR 1 0).put F.ACC_TOK_ID 77 0).put F.ACC_CTL_EN 1) with acc := { AccState.reset with exch := some ⟨0, 1, 5, 0, none, 1, 5, 1, 1, true, 0, some 7, 9⟩ } }
    let e : Exch := ⟨0, 1, 5, 0, none, 1, 5, 1, 1, true, 0, some 7, 9⟩
    let u : Nat := 7
    (s.acc.exch = some e) ∧ (e.again = some u) ∧ (u ≤ s.now)) ∧
    (let s : State := { (((base.put F.ACC_TOK_ENR 1 0).put F.ACC_TOK_ID 77 0).put F.ACC_CTL_EN 1) with acc := { AccState.reset with writing := some (1, some 9) } }
    let k : Nat := 1
    let n : Nat := 9
    (k < 8) ∧ (n < 2 ^ 32) ∧ (s.acc.writing = some (k, some n))) ∧
    (let s : State := { (((base.put F.ACC_TOK_ENR 1 0).put F.ACC_TOK_ID 77 0).put F.ACC_CTL_EN 1) with acc := { AccState.reset with writing := some (1, some 9) } }
    let k : Nat := 1
    let id : Option Nat := some 9
    (k < 8) ∧ (s.acc.writing = some (k, id))) ∧
    (let s : State := { ((base.put F.ACC_TOK_ENR 1 0).put F.ACC_TOK_ID 77 0).put F.ACC_CTL_EN 1 with acc := { AccState.reset with keys := [(0, 1234)] } }
    let id : Nat := 77
    let cmd : Nat := 5
    let cnt : Nat := 1024
    let mac : Nat := tokenMac 1234 77 1024 5
    let k : Nat := 0
    (id < 2 ^ 32) ∧ (cmd < 256) ∧ (cnt < 2 ^ 32) ∧ (k < 8) ∧ (s.domOn domACC = true) ∧ (s.get F.ACC_CTL_EN = 1) ∧ (s.pwr = 0) ∧ (s.acc.exch = none) ∧ (s.lockedOut = false) ∧ (s.tokenOf id = some k) ∧ ((Sparse.get s.acc.keys k).map (fun key => tokenMac key id cnt cmd) = some mac) ∧ (mac < 2 ^ 64) ∧ (1 ≤ (cnt + 2 ^ 32 - s.get F.ACC_TOK_BCNT k) % 2 ^ 32) ∧ ((cnt + 2 ^ 32 - s.get F.ACC_TOK_BCNT k) % 2 ^ 32 ≤ 1024)) ∧
    (let s : State := { ((base.put F.ACC_TOK_ENR 1 0).put F.ACC_TOK_ID 77 0).put F.ACC_CTL_EN 1 with acc := { AccState.reset with keys := [(0, 1234)] } }
    let id : Nat := 77
    let cmd : Nat := 5
    let cnt : Nat := 3
    let mac : Nat := 6
    let k : Nat := 0
    (id < 2 ^ 32) ∧ (cmd < 256) ∧ (cnt < 2 ^ 32) ∧ (mac < 2 ^ 64) ∧ (s.domOn domACC = true) ∧ (s.get F.ACC_CTL_EN = 1) ∧ (s.pwr = 0) ∧ (s.acc.exch = none) ∧ (s.lockedOut = false) ∧ (s.tokenOf id = some k) ∧ ((Sparse.get s.acc.keys k).map (fun key => tokenMac key id cnt cmd) ≠ some mac)) ∧
    (let s : State := { (((base.put F.ACC_TOK_ENR 1 0).put F.ACC_TOK_ID 77 0).put F.ACC_CTL_EN 1) with acc := { AccState.reset with held := [(0, (5, 6))] } }
    let k : Nat := 0
    let c : Nat := 5
    let u : Nat := 6
    (Sparse.get s.acc.held k = some (c, u)) ∧ (u ≤ s.now)) ∧
    (let s : State := { ((((base.put F.ACC_TOK_ENR 1 0).put F.ACC_TOK_ID 77 0).put F.ACC_CTL_EN 1).put F.ACC_POLLSTEP_PER 20 0).setPwr 3 with acc := { AccState.reset with clock := some 5 } }
    let per : Nat := 200 * msUnits
    let replies : List Nat := [0, 3]
    (s.pollPeriod = some per) ∧ (s.parked = true) ∧ (s.acc.nextPoll ≤ s.now) ∧ (s.boot.missing.contains 2 = false) ∧ (s.slotCount = 1) ∧ (s.enrolled 0 = true) ∧ (Sparse.get s.acc.quiet 0 = none) ∧ (s.lockedOut = false) ∧ (replies.contains 0 = true)) ∧
    (let s : State := (((((base.put F.ACC_TOK_ENR 1 0).put F.ACC_TOK_ID 77 0).put F.ACC_CTL_EN 1).put F.ACC_POLLSTEP_PER 20 0).setPwr 3).put F.ACC_POLL_SNIFF 5
    (s.parked = true) ∧ (s.get F.ACC_POLL_SNIFF ≠ 0) ∧ (s.acc.nextSniff ≤ s.now) ∧ (s.boot.missing.contains 2 = false)) ∧
    (let s : State := { (((((base.put F.ACC_TOK_ENR 1 0).put F.ACC_TOK_ID 77 0).put F.ACC_CTL_EN 1).put F.ACC_POLLSTEP_PER 20 0).setPwr 3).put F.ACC_POLL_SNIFF 5 with acc := { AccState.reset with keys := [(0, 1234)] } }
    let id : Nat := 77
    let cmd : Nat := 6
    let cnt : Nat := 9
    let mac : Nat := tokenMac 1234 77 9 6
    let k : Nat := 0
    (id < 2 ^ 32) ∧ (cmd < 256) ∧ (cnt < 2 ^ 32) ∧ (k < 8) ∧ (s.parked = true) ∧ (s.get F.ACC_POLL_SNIFF ≠ 0) ∧ (s.acc.nextSniff ≤ s.now) ∧ (s.boot.missing.contains 2 = false) ∧ (s.lockedOut = false) ∧ (s.tokenOf id = some k) ∧ ((Sparse.get s.acc.keys k).map (fun key => tokenMac key id cnt cmd) = some mac) ∧ (mac < 2 ^ 64) ∧ (1 ≤ (cnt + 2 ^ 32 - s.get F.ACC_TOK_BCNT k) % 2 ^ 32) ∧ ((cnt + 2 ^ 32 - s.get F.ACC_TOK_BCNT k) % 2 ^ 32 ≤ 1024)) ∧
    (let s : State := { (base.put F.ACC_POLL_STEP 2).put F.ACC_POLLSTEP_END 0 2 with acc := { AccState.reset with clock := some 5 } }
    let k : Nat := 2
    let u : Nat := 5
    (s.get F.ACC_POLL_STEP = k) ∧ (k ≠ 7) ∧ (s.acc.clock = some u) ∧ (u + s.get F.ACC_POLLSTEP_END k * 60 * secUnits ≤ s.now)) ∧
    (let s : State := { base.put F.ACC_LOCKOUT_ACTIVE 1 with acc := { AccState.reset with lockTo := some 5, flag := true, fails := [3] } }
    let u : Nat := 5
    (s.acc.lockTo = some u) ∧ (u ≤ s.now)) ∧
    (let s : State := { base with acc := { AccState.reset with grantTo := some 5 } }
    let u : Nat := 5
    (s.acc.grantTo = some u) ∧ (u ≤ s.now)) := by
  refine ⟨?_, ?_, ?_, ?_, ?_, ?_, ?_, ?_, ?_, ?_, ?_, ?_, ?_, ?_, ?_, ?_, ?_, ?_, ?_, ?_, ?_, ?_, ?_⟩ <;> decide +kernel

theorem witness_PowerStateCommandsComplete :
    (let s : State := base
    let init : Init := .part 0
    (s.reachable init 13 = true) ∧ (s.mayWrite init .PMU_CTL 0 = true) ∧ (s.pwr = 0)) ∧
    (let s : State := base
    let init : Init := .part 0
    (s.reachable init 13 = true) ∧ (s.mayWrite init .PMU_CTL 0 = true) ∧ (s.pwr = 0) ∧ (s.nwk.wakeIn = false)) ∧
    (let s : State := base
    let init : Init := .part 0
    (s.reachable init 13 = true) ∧ (s.mayWrite init .PMU_CTL 0 = true) ∧ (s.pwr = 0) ∧ (s.nwk.wakeIn = false)) ∧
    (let s : State := { (base.setPwr 2).put F.PMU_STATE_PHASE 2 with pmu := { PmuState.reset with entryAt := 5, acks := [1], keyPairs := [.part 0] } }
    let init : Init := .part 0
    (s.reachable init 13 = true) ∧ (s.mayWrite init .PMU_CTL 0 = true) ∧ (s.pwr = 2) ∧ (s.pmu.commitAt = none)) ∧
    (let s : State := { base.setPwr 1 with ev := { base.ev with placed := true } }
    (s.pwr = 1) ∧ (s.ev.placed = true)) ∧
    (let s : State := { base.setPwr 1 with psw := { base.psw with wdAt := some 64000000001, wdUse := 100 } }
    let u : Nat := 64000000001
    (s.pwr = 1) ∧ (s.psw.wdAt = some u) ∧ ((u - s.now) * 4 ≤ s.psw.wdUse * msUnits)) ∧
    (let s : State := { (base.setPwr 2).put F.PMU_STATE_PHASE 1 with pmu := { PmuState.reset with entryAt := 5, acks := [1], keyPairs := [.part 0] } }
    let init : Init := .part 0
    let n : Nat := 0
    (n < 4) ∧ (s.reachable init 13 = true) ∧ (s.mayWrite init .PMU_PARKACK n = true) ∧ (s.pwr = 2) ∧ (s.get F.PMU_STATE_PHASE = 1) ∧ (s.upd.act = none)) ∧
    (let s : State := { (base.setPwr 2).put F.PMU_STATE_PHASE 1 with pmu := { PmuState.reset with entryAt := 5, acks := [1], keyPairs := [.part 0] } }
    (s.pwr = 2) ∧ (s.get F.PMU_STATE_PHASE = 1) ∧ (s.pmu.entryAt + clampNat 1 1000 (s.get F.PMU_CTL_PREPTIME) * msUnits ≤ s.now) ∧ (s.upd.act = none)) ∧
    (let s : State := { (base.setPwr 2).put F.PMU_STATE_PHASE 2 with pmu := { PmuState.reset with entryAt := 5, acks := [1], keyPairs := [.part 0] } }
    (s.pwr = 2) ∧ (s.get F.PMU_STATE_PHASE = 2)) ∧
    (let s : State := { (base.setPwr 2).put F.PMU_STATE_PHASE 3 with pmu := { PmuState.reset with entryAt := 5, acks := [1], keyPairs := [.part 0] } }
    (s.pwr = 2) ∧ (s.get F.PMU_STATE_PHASE = 3) ∧ (s.pmu.commitAt = none)) ∧
    (let s : State := { ({ base.setPwr 3 with pmu := { PmuState.reset with commitAt := some 5, wakes := [] } }).put F.PMU_DEEP_DPTIME 1 with now := 960000000005 }
    let u : Nat := 5
    (s.pwr = 3) ∧ (s.pmu.commitAt = some u) ∧ (s.get F.PMU_DEEP_DPTIME ≠ 0) ∧ (u + s.get F.PMU_DEEP_DPTIME * 60 * secUnits ≤ s.now)) ∧
    (let s : State := ({ base.setPwr 3 with pmu := { PmuState.reset with commitAt := some 5, wakes := [] } }).put F.PMU_DEEP_DPVBAT 100
    (s.pwr = 3) ∧ (s.get F.PMU_DEEP_DPVBAT ≠ 0)) ∧
    (let s : State := { base.setPwr 3 with pmu := { PmuState.reset with commitAt := some 5, wakes := [⟨2, none, 0, 0, 0, 0, 0, false⟩] } }
    (s.pwr = 3 ∨ s.pwr = 4) ∧ (s.pmu.seen < s.pmu.wakes.length)) ∧
    (let s : State := ({ base.setPwr 3 with pmu := { PmuState.reset with commitAt := some 5, wakes := [] } }).put F.PMU_ATMR_EN 1 |>.put F.PMU_ATMR_TIME 3
    let u : Nat := 5
    (s.pwr = 3 ∨ s.pwr = 4) ∧ (s.pmu.commitAt = some u) ∧ (s.get F.PMU_ATMR_EN = 1) ∧ (s.pmu.timerFired = false) ∧ (s.pmu.lineOnly = false) ∧ (u + max 1 (s.get F.PMU_ATMR_TIME) * secUnits ≤ s.now)) ∧
    (let s : State := ({ base.setPwr 3 with pmu := { PmuState.reset with commitAt := some 5, wakes := [] } }).put F.PMU_CMP_EN 1 3 |>.put F.PMU_CMP_WAKE 1 3
    let n : Nat := 3
    (n < 8) ∧ (s.get F.PMU_CMP_EN n = 1) ∧ (s.get F.PMU_CMP_SRC n < 96 ∨ s.get F.PMU_CMP_SRC n = 127) ∧ (s.pwr = 3 ∨ s.pwr = 4)) ∧
    (let s : State := base.put F.PMU_CMP_EN 1 3
    let n : Nat := 3
    (n < 8) ∧ (s.get F.PMU_CMP_EN n = 1) ∧ (s.get F.PMU_CMP_SRC n < 96 ∨ s.get F.PMU_CMP_SRC n = 127) ∧ (s.pwr ≤ 1)) ∧
    (let s : State := base
    let init : Init := .part 0
    (s.reachable init 13 = true) ∧ (s.mayWrite init .PMU_RESET 0 = true)) ∧
    (let s : State := { (base.setPwr 2).put F.PMU_STATE_PHASE 1 with pmu := { PmuState.reset with entryAt := 5, acks := [1], keyPairs := [.part 0] } }
    let init : Init := .part 0
    (s.reachable init 13 = true) ∧ (s.mayWrite init .PMU_RESET 0 = true) ∧ (s.pmu.keyPairs.contains init = true)) ∧
    (let s : State := base
    let init : Init := .part 0
    (s.reachable init 13 = true) ∧ (s.mayWrite init .PMU_RESET 0 = true) ∧ (s.pmu.keyPairs.contains init = false)) := by
  refine ⟨?_, ?_, ?_, ?_, ?_, ?_, ?_, ?_, ?_, ?_, ?_, ?_, ?_, ?_, ?_, ?_, ?_, ?_, ?_⟩ <;> decide +kernel

theorem witness_MeteringIslandCompletes :
    (let s : State := { base.put F.MTR_STAT_LINK 1 with mtr := { MtrState.reset with on := true } }
    (s.mtr.on = true)) ∧
    (let s : State := { base.put F.MTR_STAT_LINK 1 with mtr := { MtrState.reset with on := true } }
    (s.mtr.on = true)) ∧
    (let s : State := { base.put F.MTR_STAT_LINK 1 with mtr := { MtrState.reset with on := true, cnt0 := 5, cnt1 := 3 } }
    let a : Nat := 5
    let b : Nat := 3
    (s.mtr.on = true) ∧ (s.mtr.winAt + secUnits ≤ s.inow) ∧ (s.mtr.cnt0 - s.mtr.win0 = a) ∧ (s.mtr.cnt1 - s.mtr.win1 = b) ∧ (max a b - min a b ≤ 2 + a / 64) ∧ (a ≤ 25000) ∧ (b ≤ 25000)) ∧
    (let s : State := { base.put F.MTR_STAT_LINK 1 with mtr := { MtrState.reset with on := true, cnt0 := 5, cnt1 := 2 } }
    let a : Nat := 5
    let b : Nat := 2
    (s.mtr.on = true) ∧ (s.mtr.winAt + secUnits ≤ s.inow) ∧ (s.mtr.cnt0 - s.mtr.win0 = a) ∧ (s.mtr.cnt1 - s.mtr.win1 = b) ∧ (2 + a / 64 < max a b - min a b ∨ 25000 < a ∨ 25000 < b)) ∧
    (let s : State := { base.put F.MTR_STAT_LINK 1 with mtr := { MtrState.reset with on := true, cnt0 := 5 } }
    (s.mtr.on = true) ∧ (s.mtr.sealAt + 100 * msUnits ≤ s.inow) ∧ (s.mtr.cnt0 ≠ s.mtr.sealed0 ∨ s.mtr.cnt1 ≠ s.mtr.sealed1)) ∧
    (let s : State := { base.put F.MTR_STAT_LINK 1 with mtr := { MtrState.reset with on := true, cnt0 := 5 } }
    (s.mtr.on = true)) ∧
    (let s : State := base
    (s.mtr.on = false)) ∧
    (let s : State := { base.put F.MTR_STAT_LINK 1 with mtr := { MtrState.reset with on := true } }
    (s.mtr.on = true) ∧ (s.get F.MTR_STAT_LINK = 1)) ∧
    (let s : State := { base.put F.MTR_STAT_LINK 1 with mtr := { MtrState.reset with on := true } }
    (s.mtr.on = true)) ∧
    (let s : State := { base.put F.MTR_STAT_LINK 1 with mtr := { MtrState.reset with on := true, clock := ⟨0, 0, 0, true⟩ } }
    (s.mtr.on = true) ∧ (s.mtr.clock.valid = true) ∧ (s.mtr.legalAt ≤ s.legalMs)) ∧
    (let s : State := { base.put F.MTR_STAT_LINK 1 with mtr := { MtrState.reset with on := true, dist := 10, kfactor := 1000 } }
    (s.mtr.on = true) ∧ (s.mtr.dist ≠ 0) ∧ (s.mtr.distAt ≤ s.inow)) ∧
    (let s : State := { base.put F.MTR_STAT_LINK 1 with mtr := { MtrState.reset with on := true, clock := ⟨0, 0, 20, true⟩ } }
    (s.mtr.clock.slew ≠ 0) ∧ (s.mtr.clock.rest s.inow = 0)) ∧
    (let s : State := { base.put F.MTR_STAT_LINK 1 with mtr := { MtrState.reset with on := true } }
    (s.mtr.on = true) ∧ (s.mtr.pin = false) ∧ (s.mtr.sealSt ≠ 1)) ∧
    (let s : State := { base.put F.MTR_STAT_LINK 1 with mtr := { MtrState.reset with on := true, pin := true, pinFrom := some 5, off := 2000000000000 } }
    let u : Nat := 5
    (s.mtr.on = true) ∧ (s.mtr.pinFrom = some u) ∧ (s.mtr.sealSt ≠ 1) ∧ (u + 120 * secUnits ≤ s.inow)) ∧
    (let s : State := { base.put F.MTR_STAT_LINK 1 with mtr := { MtrState.reset with on := true, sealSt := 1, off := 200000000000000, pin := true } }
    (s.mtr.on = true) ∧ (s.mtr.sealSt = 1) ∧ (s.mtr.openAt + 1800 * secUnits ≤ s.inow)) ∧
    (let s : State := { base.put F.MTR_STAT_LINK 1 with mtr := { MtrState.reset with on := true, chal := some ([1], 5), off := 2000000000000 } }
    let c : List Byte := [1]
    let u : Nat := 5
    (s.mtr.chal = some (c, u)) ∧ (u + 60 * secUnits ≤ s.inow)) ∧
    (let s : State := { base.put F.MTR_STAT_LINK 1 with mtr := { MtrState.reset with on := true, lockTo := some 5 } }
    let u : Nat := 5
    (s.mtr.lockTo = some u) ∧ (u ≤ s.inow)) ∧
    (let s : State := { base.put F.MTR_STAT_LINK 1 with mtr := { MtrState.reset with on := true, fuses := 3 } }
    (s.mtr.on = true)) ∧
    (let s : State := { base.put F.MTR_STAT_LINK 1 with mtr := { MtrState.reset with on := true, trialTo := some 5, store := 1 } }
    let u : Nat := 5
    (s.mtr.on = true) ∧ (s.mtr.trialTo = some u) ∧ (u ≤ s.inow) ∧ (s.get F.MTR_STAT_LINK = 1)) ∧
    (let s : State := { base.put F.MTR_STAT_LINK 1 with mtr := { MtrState.reset with on := true } }
    let init : Init := .part 0
    let v : Nat := 48
    (s.domOn domFAB = true) ∧ (s.mayWrite init .MTR_TXHEAD 0 = true) ∧ (v % 8 = 0) ∧ (v < 4096) ∧ ((v + 4096 - s.get F.MTR_TXHEAD_HEAD) % 4096 ≤ (s.get F.MTR_TXTAIL_TAIL + 4096 - s.get F.MTR_TXHEAD_HEAD - 8) % 4096)) ∧
    (let s : State := { base.put F.MTR_STAT_LINK 1 with mtr := { MtrState.reset with on := true } }
    let init : Init := .part 0
    let v : Nat := 50
    (s.domOn domFAB = true) ∧ (s.mayWrite init .MTR_TXHEAD 0 = true) ∧ (v < 4096) ∧ (v % 8 ≠ 0 ∨ (s.get F.MTR_TXTAIL_TAIL + 4096 - s.get F.MTR_TXHEAD_HEAD - 8) % 4096 < (v + 4096 - s.get F.MTR_TXHEAD_HEAD) % 4096)) ∧
    (let s : State := ({ base.put F.MTR_STAT_LINK 1 with mtr := { MtrState.reset with on := true } }).put F.MTR_RXHEAD_HEAD 64
    let init : Init := .part 0
    let v : Nat := 48
    (s.domOn domFAB = true) ∧ (s.mayWrite init .MTR_RXTAIL 0 = true) ∧ (v % 8 = 0) ∧ (v < 4096) ∧ ((v + 4096 - s.get F.MTR_RXTAIL_TAIL) % 4096 ≤ (s.get F.MTR_RXHEAD_HEAD + 4096 - s.get F.MTR_RXTAIL_TAIL) % 4096) ∧ (s.mtr.waiting = [])) ∧
    (let s : State := { base.put F.MTR_STAT_LINK 1 with mtr := { MtrState.reset with on := true } }
    (s.get F.MTR_STAT_LINK = 1)) ∧
    (let s : State := { base with mtr := { MtrState.reset with on := true, trialTo := some 5 } }
    (s.mtr.on = true) ∧ (s.get F.MTR_STAT_LINK = 0)) := by
  refine ⟨?_, ?_, ?_, ?_, ?_, ?_, ?_, ?_, ?_, ?_, ?_, ?_, ?_, ?_, ?_, ?_, ?_, ?_, ?_, ?_, ?_, ?_, ?_, ?_⟩ <;> decide +kernel

theorem witness_MeteringRequestsComplete :
    (let s : State := { (base.put F.MTR_STAT_LINK 1).setWord .MTR_TXBUF 0 0 0 1#32 |>.setWord .MTR_TXBUF 1 0 0 0x55#32 |>.put F.MTR_TXHEAD_HEAD 8 with mtr := { MtrState.reset with on := true } }
    let seq : Nat := 0x55
    let size : Nat := 8
    let h : Nat := 0
    let p : List Byte := List.replicate 0 0
    (s.mtrHead = some (1, seq, p, size)) ∧ (p.length = 0) ∧ (s.get F.MTR_TXHEAD_HEAD = (s.get F.MTR_TXTAIL_TAIL + size) % 4096) ∧ (s.mtr.waiting = []) ∧ (s.get F.MTR_RXHEAD_HEAD = h) ∧ (h % 8 = 0) ∧ ((h + 4096 - s.get F.MTR_RXTAIL_TAIL) % 4096 ≤ 2048)) ∧
    (let s : State := { (base.put F.MTR_STAT_LINK 1).setWord .MTR_TXBUF 0 0 0 1048578#32 |>.setWord .MTR_TXBUF 1 0 0 0x55#32 |>.put F.MTR_TXHEAD_HEAD 24 |>.setWord .MTR_TXBUF 2 0 0 1#32 with mtr := { MtrState.reset with on := true } }
    let seq : Nat := 0x55
    let size : Nat := 24
    let h : Nat := 0
    let p : List Byte := [1, 0, 0, 0, 0, 0, 0, 0, 0, 0, 0, 0, 0, 0, 0, 0]
    (s.mtrHead = some (2, seq, p, size)) ∧ (p.length = 16) ∧ (s.get F.MTR_TXHEAD_HEAD = (s.get F.MTR_TXTAIL_TAIL + size) % 4096) ∧ (s.mtr.waiting = []) ∧ (s.get F.MTR_RXHEAD_HEAD = h) ∧ (h % 8 = 0) ∧ ((h + 4096 - s.get F.MTR_RXTAIL_TAIL) % 4096 ≤ 2048) ∧ ((p.getD 0 0).toNat = 1 ∨ (p.getD 0 0).toNat = 2) ∧ (s.mtr.clock.valid = false)) ∧
    (let s : State := { (base.put F.MTR_STAT_LINK 1).setWord .MTR_TXBUF 0 0 0 1048578#32 |>.setWord .MTR_TXBUF 1 0 0 0x55#32 |>.put F.MTR_TXHEAD_HEAD 24 |>.setWord .MTR_TXBUF 2 0 0 1#32 |>.setWord .MTR_TXBUF 4 0 0 327680#32 with mtr := { MtrState.reset with on := true, clock := ⟨0, 0, 0, true⟩ } }
    let seq : Nat := 0x55
    let size : Nat := 24
    let h : Nat := 0
    let p : List Byte := [1, 0, 0, 0, 0, 0, 0, 0, 0, 0, 5, 0, 0, 0, 0, 0]
    let d : Int := 1000
    (s.mtrHead = some (2, seq, p, size)) ∧ (p.length = 16) ∧ (s.get F.MTR_TXHEAD_HEAD = (s.get F.MTR_TXTAIL_TAIL + size) % 4096) ∧ (s.mtr.waiting = []) ∧ (s.get F.MTR_RXHEAD_HEAD = h) ∧ (h % 8 = 0) ∧ ((h + 4096 - s.get F.MTR_RXTAIL_TAIL) % 4096 ≤ 2048) ∧ ((p.getD 0 0).toNat = 1 ∨ (p.getD 0 0).toNat = 2) ∧ (s.mtr.clock.valid = true) ∧ (s.mtr.clock.slew = 0) ∧ (s.mtr.corr = []) ∧ (s.mtr.marks = []) ∧ (Int.ofNat (msOfUtc (ofLE (p.drop 8))) - Int.ofNat s.legalMs = d) ∧ (10 < d.natAbs) ∧ (d.natAbs ≤ 2000)) ∧
    (let s : State := { (base.put F.MTR_STAT_LINK 1).setWord .MTR_TXBUF 0 0 0 131075#32 |>.setWord .MTR_TXBUF 1 0 0 0x55#32 |>.put F.MTR_TXHEAD_HEAD 16 |>.setWord .MTR_TXBUF 2 0 0 7#32 with mtr := { MtrState.reset with on := true } }
    let seq : Nat := 0x55
    let size : Nat := 16
    let h : Nat := 0
    let p : List Byte := [7, 0]
    (s.mtrHead = some (3, seq, p, size)) ∧ (p.length = 2) ∧ (s.get F.MTR_TXHEAD_HEAD = (s.get F.MTR_TXTAIL_TAIL + size) % 4096) ∧ (s.mtr.waiting = []) ∧ (s.get F.MTR_RXHEAD_HEAD = h) ∧ (h % 8 = 0) ∧ ((h + 4096 - s.get F.MTR_RXTAIL_TAIL) % 4096 ≤ 2048) ∧ (ofLE p ≤ 1000)) ∧
    (let s : State := { (base.put F.MTR_STAT_LINK 1).setWord .MTR_TXBUF 0 0 0 1310724#32 |>.setWord .MTR_TXBUF 1 0 0 0x55#32 |>.put F.MTR_TXHEAD_HEAD 32 |>.setWord .MTR_TXBUF 2 0 0 4294967295#32 with mtr := { MtrState.reset with on := true } }
    let seq : Nat := 0x55
    let size : Nat := 32
    let h : Nat := 0
    let p : List Byte := [255, 255, 255, 255, 0, 0, 0, 0, 0, 0, 0, 0, 0, 0, 0, 0, 0, 0, 0, 0]
    (s.mtrHead = some (4, seq, p, size)) ∧ (p.length = 20) ∧ (s.get F.MTR_TXHEAD_HEAD = (s.get F.MTR_TXTAIL_TAIL + size) % 4096) ∧ (s.mtr.waiting = []) ∧ (s.get F.MTR_RXHEAD_HEAD = h) ∧ (h % 8 = 0) ∧ ((h + 4096 - s.get F.MTR_RXTAIL_TAIL) % 4096 ≤ 2048) ∧ (ofLE (p.take 4) = 0xFFFFFFFF)) ∧
    (let s : State := { (base.put F.MTR_STAT_LINK 1).setWord .MTR_TXBUF 0 0 0 1310724#32 |>.setWord .MTR_TXBUF 1 0 0 0x55#32 |>.put F.MTR_TXHEAD_HEAD 32 |>.setWord .MTR_TXBUF 2 0 0 9#32 with mtr := { MtrState.reset with on := true } }
    let seq : Nat := 0x55
    let size : Nat := 32
    let h : Nat := 0
    let p : List Byte := [9, 0, 0, 0, 0, 0, 0, 0, 0, 0, 0, 0, 0, 0, 0, 0, 0, 0, 0, 0]
    (s.mtrHead = some (4, seq, p, size)) ∧ (p.length = 20) ∧ (s.get F.MTR_TXHEAD_HEAD = (s.get F.MTR_TXTAIL_TAIL + size) % 4096) ∧ (s.mtr.waiting = []) ∧ (s.get F.MTR_RXHEAD_HEAD = h) ∧ (h % 8 = 0) ∧ ((h + 4096 - s.get F.MTR_RXTAIL_TAIL) % 4096 ≤ 2048) ∧ (ofLE (p.take 4) ≠ 0xFFFFFFFF) ∧ (s.mtr.recs.all (fun r => r.index != ofLE (p.take 4)) = true)) ∧
    (let s : State := { (base.put F.MTR_STAT_LINK 1).setWord .MTR_TXBUF 0 0 0 5#32 |>.setWord .MTR_TXBUF 1 0 0 0x55#32 |>.put F.MTR_TXHEAD_HEAD 8 with mtr := { MtrState.reset with on := true } }
    let seq : Nat := 0x55
    let size : Nat := 8
    let h : Nat := 0
    let p : List Byte := List.replicate 0 0
    (s.mtrHead = some (5, seq, p, size)) ∧ (p.length = 0) ∧ (s.get F.MTR_TXHEAD_HEAD = (s.get F.MTR_TXTAIL_TAIL + size) % 4096) ∧ (s.mtr.waiting = []) ∧ (s.get F.MTR_RXHEAD_HEAD = h) ∧ (h % 8 = 0) ∧ ((h + 4096 - s.get F.MTR_RXTAIL_TAIL) % 4096 ≤ 2048) ∧ (s.mtr.sealSt ≠ 1) ∧ (s.mtr.lockTo = none)) ∧
    (let s : State := { (base.put F.MTR_STAT_LINK 1).setWord .MTR_TXBUF 0 0 0 5#32 |>.setWord .MTR_TXBUF 1 0 0 0x55#32 |>.put F.MTR_TXHEAD_HEAD 8 with mtr := { MtrState.reset with on := true, lockTo := some 5 } }
    let seq : Nat := 0x55
    let size : Nat := 8
    let h : Nat := 0
    let p : List Byte := List.replicate 0 0
    (s.mtrHead = some (5, seq, p, size)) ∧ (p.length = 0) ∧ (s.get F.MTR_TXHEAD_HEAD = (s.get F.MTR_TXTAIL_TAIL + size) % 4096) ∧ (s.mtr.waiting = []) ∧ (s.get F.MTR_RXHEAD_HEAD = h) ∧ (h % 8 = 0) ∧ ((h + 4096 - s.get F.MTR_RXTAIL_TAIL) % 4096 ≤ 2048) ∧ (s.mtr.sealSt ≠ 1) ∧ (s.mtr.lockTo.isSome = true)) ∧
    (let s : State := { requestBase 6 0x55 ([0, 0, 0, 0, 0, 0, 0, 0] ++ toolKey ++ toBE 64 0x088bb9ff22ab291a74c86fc677ba897baadee370cc6129b82d170ba3fc26415c8307e25d6bf1233a98319f873cc2999299fcfdcee3031ffb98e51ae98bcb5434) with mtr := { MtrState.reset with on := true, pin := true, chal := some ([1], 5), hashes := [toolHash, 0, 0, 0] } }
    let seq : Nat := 0x55
    let size : Nat := 144
    let h : Nat := 0
    let p : List Byte := [0, 0, 0, 0, 0, 0, 0, 0] ++ toolKey ++ toBE 64 0x088bb9ff22ab291a74c86fc677ba897baadee370cc6129b82d170ba3fc26415c8307e25d6bf1233a98319f873cc2999299fcfdcee3031ffb98e51ae98bcb5434
    (s.mtrHead = some (6, seq, p, size)) ∧ (p.length = 136) ∧ (s.get F.MTR_TXHEAD_HEAD = (s.get F.MTR_TXTAIL_TAIL + size) % 4096) ∧ (s.mtr.waiting = []) ∧ (s.get F.MTR_RXHEAD_HEAD = h) ∧ (h % 8 = 0) ∧ ((h + 4096 - s.get F.MTR_RXTAIL_TAIL) % 4096 ≤ 2048) ∧ (s.mtr.sealSt ≠ 1) ∧ (s.mtr.pin = true) ∧ (s.workshopOk p = true)) ∧
    (let s : State := { (base.put F.MTR_STAT_LINK 1).setWord .MTR_TXBUF 0 0 0 8912902#32 |>.setWord .MTR_TXBUF 1 0 0 0x55#32 |>.put F.MTR_TXHEAD_HEAD 144 with mtr := { MtrState.reset with on := true, pin := true, chal := some ([1], 5) } }
    let seq : Nat := 0x55
    let size : Nat := 144
    let h : Nat := 0
    let p : List Byte := List.replicate 136 0
    (s.mtrHead = some (6, seq, p, size)) ∧ (p.length = 136) ∧ (s.get F.MTR_TXHEAD_HEAD = (s.get F.MTR_TXTAIL_TAIL + size) % 4096) ∧ (s.mtr.waiting = []) ∧ (s.get F.MTR_RXHEAD_HEAD = h) ∧ (h % 8 = 0) ∧ ((h + 4096 - s.get F.MTR_RXTAIL_TAIL) % 4096 ≤ 2048) ∧ (s.mtr.sealSt ≠ 1) ∧ (s.mtr.pin = true) ∧ (s.workshopOk p = false) ∧ (s.mtr.bad = [])) ∧
    (let s : State := { (base.put F.MTR_STAT_LINK 1).setWord .MTR_TXBUF 0 0 0 8912902#32 |>.setWord .MTR_TXBUF 1 0 0 0x55#32 |>.put F.MTR_TXHEAD_HEAD 144 with mtr := { MtrState.reset with on := true } }
    let seq : Nat := 0x55
    let size : Nat := 144
    let h : Nat := 0
    let p : List Byte := List.replicate 136 0
    (s.mtrHead = some (6, seq, p, size)) ∧ (p.length = 136) ∧ (s.get F.MTR_TXHEAD_HEAD = (s.get F.MTR_TXTAIL_TAIL + size) % 4096) ∧ (s.mtr.waiting = []) ∧ (s.get F.MTR_RXHEAD_HEAD = h) ∧ (h % 8 = 0) ∧ ((h + 4096 - s.get F.MTR_RXTAIL_TAIL) % 4096 ≤ 2048) ∧ (s.mtr.sealSt ≠ 1) ∧ (s.mtr.pin = false)) ∧
    (let s : State := { (base.put F.MTR_STAT_LINK 1).setWord .MTR_TXBUF 0 0 0 7#32 |>.setWord .MTR_TXBUF 1 0 0 0x55#32 |>.put F.MTR_TXHEAD_HEAD 8 with mtr := { MtrState.reset with on := true, sealSt := 1 } }
    let seq : Nat := 0x55
    let size : Nat := 8
    let h : Nat := 0
    let p : List Byte := List.replicate 0 0
    (s.mtrHead = some (7, seq, p, size)) ∧ (p.length = 0) ∧ (s.get F.MTR_TXHEAD_HEAD = (s.get F.MTR_TXTAIL_TAIL + size) % 4096) ∧ (s.mtr.waiting = []) ∧ (s.get F.MTR_RXHEAD_HEAD = h) ∧ (h % 8 = 0) ∧ ((h + 4096 - s.get F.MTR_RXTAIL_TAIL) % 4096 ≤ 2048) ∧ (s.mtr.sealSt = 1) ∧ (s.mtr.pin = false)) ∧
    (let s : State := { (base.put F.MTR_STAT_LINK 1).setWord .MTR_TXBUF 0 0 0 7#32 |>.setWord .MTR_TXBUF 1 0 0 0x55#32 |>.put F.MTR_TXHEAD_HEAD 8 with mtr := { MtrState.reset with on := true } }
    let seq : Nat := 0x55
    let size : Nat := 8
    let h : Nat := 0
    let p : List Byte := List.replicate 0 0
    (s.mtrHead = some (7, seq, p, size)) ∧ (p.length = 0) ∧ (s.get F.MTR_TXHEAD_HEAD = (s.get F.MTR_TXTAIL_TAIL + size) % 4096) ∧ (s.mtr.waiting = []) ∧ (s.get F.MTR_RXHEAD_HEAD = h) ∧ (h % 8 = 0) ∧ ((h + 4096 - s.get F.MTR_RXTAIL_TAIL) % 4096 ≤ 2048) ∧ (s.mtr.sealSt ≠ 1)) ∧
    (let s : State := { (base.put F.MTR_STAT_LINK 1).setWord .MTR_TXBUF 0 0 0 327688#32 |>.setWord .MTR_TXBUF 1 0 0 0x55#32 |>.put F.MTR_TXHEAD_HEAD 16 |>.setWord .MTR_TXBUF 2 0 0 4000#32 with mtr := { MtrState.reset with on := true, sealSt := 1 } }
    let seq : Nat := 0x55
    let size : Nat := 16
    let h : Nat := 0
    let p : List Byte := [160, 15, 0, 0, 0]
    (s.mtrHead = some (8, seq, p, size)) ∧ (p.length = 5) ∧ (s.get F.MTR_TXHEAD_HEAD = (s.get F.MTR_TXTAIL_TAIL + size) % 4096) ∧ (s.mtr.waiting = []) ∧ (s.get F.MTR_RXHEAD_HEAD = h) ∧ (h % 8 = 0) ∧ ((h + 4096 - s.get F.MTR_RXTAIL_TAIL) % 4096 ≤ 2048) ∧ (s.mtr.sealSt = 1) ∧ (1000 ≤ ofLE (p.take 4)) ∧ (ofLE (p.take 4) ≤ 1000000) ∧ ((p.getD 4 0).toNat % 2 = 0)) ∧
    (let s : State := { (base.put F.MTR_STAT_LINK 1).setWord .MTR_TXBUF 0 0 0 327688#32 |>.setWord .MTR_TXBUF 1 0 0 0x55#32 |>.put F.MTR_TXHEAD_HEAD 16 |>.setWord .MTR_TXBUF 2 0 0 4000#32 with mtr := { MtrState.reset with on := true } }
    let seq : Nat := 0x55
    let size : Nat := 16
    let h : Nat := 0
    let p : List Byte := [160, 15, 0, 0, 0]
    (s.mtrHead = some (8, seq, p, size)) ∧ (p.length = 5) ∧ (s.get F.MTR_TXHEAD_HEAD = (s.get F.MTR_TXTAIL_TAIL + size) % 4096) ∧ (s.mtr.waiting = []) ∧ (s.get F.MTR_RXHEAD_HEAD = h) ∧ (h % 8 = 0) ∧ ((h + 4096 - s.get F.MTR_RXTAIL_TAIL) % 4096 ≤ 2048) ∧ (s.mtr.sealSt ≠ 1)) ∧
    (let s : State := { (base.put F.MTR_STAT_LINK 1).setWord .MTR_TXBUF 0 0 0 524297#32 |>.setWord .MTR_TXBUF 1 0 0 0x55#32 |>.put F.MTR_TXHEAD_HEAD 16 |>.setWord .MTR_TXBUF 2 0 0 327681#32 with mtr := { MtrState.reset with on := true, sealSt := 1 } }
    let seq : Nat := 0x55
    let size : Nat := 16
    let h : Nat := 0
    let p : List Byte := [1, 0, 5, 0, 0, 0, 0, 0]
    (s.mtrHead = some (9, seq, p, size)) ∧ (p.length = 8) ∧ (s.get F.MTR_TXHEAD_HEAD = (s.get F.MTR_TXTAIL_TAIL + size) % 4096) ∧ (s.mtr.waiting = []) ∧ (s.get F.MTR_RXHEAD_HEAD = h) ∧ (h % 8 = 0) ∧ ((h + 4096 - s.get F.MTR_RXTAIL_TAIL) % 4096 ≤ 2048) ∧ (s.mtr.sealSt = 1)) ∧
    (let s : State := { (base.put F.MTR_STAT_LINK 1).setWord .MTR_TXBUF 0 0 0 10#32 |>.setWord .MTR_TXBUF 1 0 0 0x55#32 |>.put F.MTR_TXHEAD_HEAD 8 with mtr := { MtrState.reset with on := true, sealSt := 1 } }
    let seq : Nat := 0x55
    let size : Nat := 8
    let h : Nat := 0
    let p : List Byte := List.replicate 0 0
    (s.mtrHead = some (10, seq, p, size)) ∧ (p.length = 0) ∧ (s.get F.MTR_TXHEAD_HEAD = (s.get F.MTR_TXTAIL_TAIL + size) % 4096) ∧ (s.mtr.waiting = []) ∧ (s.get F.MTR_RXHEAD_HEAD = h) ∧ (h % 8 = 0) ∧ ((h + 4096 - s.get F.MTR_RXTAIL_TAIL) % 4096 ≤ 2048) ∧ (s.mtr.sealSt = 1)) ∧
    (let s : State := { (base.put F.MTR_STAT_LINK 1).setWord .MTR_TXBUF 0 0 0 67633163#32 |>.setWord .MTR_TXBUF 1 0 0 0x55#32 |>.put F.MTR_TXHEAD_HEAD 1040 |>.setWord .MTR_TXBUF 2 0 0 5#32 with mtr := { MtrState.reset with on := true, sealSt := 1 } }
    let seq : Nat := 0x55
    let size : Nat := 1040
    let h : Nat := 0
    let p : List Byte := [5, 0, 0, 0, 0, 0, 0, 0, 0, 0, 0, 0, 0, 0, 0, 0, 0, 0, 0, 0, 0, 0, 0, 0, 0, 0, 0, 0, 0, 0, 0, 0, 0, 0, 0, 0, 0, 0, 0, 0, 0, 0, 0, 0, 0, 0, 0, 0, 0, 0, 0, 0, 0, 0, 0, 0, 0, 0, 0, 0, 0, 0, 0, 0, 0, 0, 0, 0, 0, 0, 0, 0, 0, 0, 0, 0, 0, 0, 0, 0, 0, 0, 0, 0, 0, 0, 0, 0, 0, 0, 0, 0, 0, 0, 0, 0, 0, 0, 0, 0, 0, 0, 0, 0, 0, 0, 0, 0, 0, 0, 0, 0, 0, 0, 0, 0, 0, 0, 0, 0, 0, 0, 0, 0, 0, 0, 0, 0, 0, 0, 0, 0, 0, 0, 0, 0, 0, 0, 0, 0, 0, 0, 0, 0, 0, 0, 0, 0, 0, 0, 0, 0, 0, 0, 0, 0, 0, 0, 0, 0, 0, 0, 0, 0, 0, 0, 0, 0, 0, 0, 0, 0, 0, 0, 0, 0, 0, 0, 0, 0, 0, 0, 0, 0, 0, 0, 0, 0, 0, 0, 0, 0, 0, 0, 0, 0, 0, 0, 0, 0, 0, 0, 0, 0, 0, 0, 0, 0, 0, 0, 0, 0, 0, 0, 0, 0, 0, 0, 0, 0, 0, 0, 0, 0, 0, 0, 0, 0, 0, 0, 0, 0, 0, 0, 0, 0, 0, 0, 0, 0, 0, 0, 0, 0, 0, 0, 0, 0, 0, 0, 0, 0, 0, 0, 0, 0, 0, 0, 0, 0, 0, 0, 0, 0, 0, 0, 0, 0, 0, 0, 0, 0, 0, 0, 0, 0, 0, 0, 0, 0, 0, 0, 0, 0, 0, 0, 0, 0, 0, 0, 0, 0, 0, 0, 0, 0, 0, 0, 0, 0, 0, 0, 0, 0, 0, 0, 0, 0, 0, 0, 0, 0, 0, 0, 0, 0, 0, 0, 0, 0, 0, 0, 0, 0, 0, 0, 0, 0, 0, 0, 0, 0, 0, 0, 0, 0, 0, 0, 0, 0, 0, 0, 0, 0, 0, 0, 0, 0, 0, 0, 0, 0, 0, 0, 0, 0, 0, 0, 0, 0, 0, 0, 0, 0, 0, 0, 0, 0, 0, 0, 0, 0, 0, 0, 0, 0, 0, 0, 0, 0, 0, 0, 0, 0, 0, 0, 0, 0, 0, 0, 0, 0, 0, 0, 0, 0, 0, 0, 0, 0, 0, 0, 0, 0, 0, 0, 0, 0, 0, 0, 0, 0, 0, 0, 0, 0, 0, 0, 0, 0, 0, 0, 0, 0, 0, 0, 0, 0, 0, 0, 0, 0, 0, 0, 0, 0, 0, 0, 0, 0, 0, 0, 0, 0, 0, 0, 0, 0, 0, 0, 0, 0, 0, 0, 0, 0, 0, 0, 0, 0, 0, 0, 0, 0, 0, 0, 0, 0, 0, 0, 0, 0, 0, 0, 0, 0, 0, 0, 0, 0, 0, 0, 0, 0, 0, 0, 0, 0, 0, 0, 0, 0, 0, 0, 0, 0, 0, 0, 0, 0, 0, 0, 0, 0, 0, 0, 0, 0, 0, 0, 0, 0, 0, 0, 0, 0, 0, 0, 0, 0, 0, 0, 0, 0, 0, 0, 0, 0, 0, 0, 0, 0, 0, 0, 0, 0, 0, 0, 0, 0, 0, 0, 0, 0, 0, 0, 0, 0, 0, 0, 0, 0, 0, 0, 0, 0, 0, 0, 0, 0, 0, 0, 0, 0, 0, 0, 0, 0, 0, 0, 0, 0, 0, 0, 0, 0, 0, 0, 0, 0, 0, 0, 0, 0, 0, 0, 0, 0, 0, 0, 0, 0, 0, 0, 0, 0, 0, 0, 0, 0, 0, 0, 0, 0, 0, 0, 0, 0, 0, 0, 0, 0, 0, 0, 0, 0, 0, 0, 0, 0, 0, 0, 0, 0, 0, 0, 0, 0, 0, 0, 0, 0, 0, 0, 0, 0, 0, 0, 0, 0, 0, 0, 0, 0, 0, 0, 0, 0, 0, 0, 0, 0, 0, 0, 0, 0, 0, 0, 0, 0, 0, 0, 0, 0, 0, 0, 0, 0, 0, 0, 0, 0, 0, 0, 0, 0, 0, 0, 0, 0, 0, 0, 0, 0, 0, 0, 0, 0, 0, 0, 0, 0, 0, 0, 0, 0, 0, 0, 0, 0, 0, 0, 0, 0, 0, 0, 0, 0, 0, 0, 0, 0, 0, 0, 0, 0, 0, 0, 0, 0, 0, 0, 0, 0, 0, 0, 0, 0, 0, 0, 0, 0, 0, 0, 0, 0, 0, 0, 0, 0, 0, 0, 0, 0, 0, 0, 0, 0, 0, 0, 0, 0, 0, 0, 0, 0, 0, 0, 0, 0, 0, 0, 0, 0, 0, 0, 0, 0, 0, 0, 0, 0, 0, 0, 0, 0, 0, 0, 0, 0, 0, 0, 0, 0, 0, 0, 0, 0, 0, 0, 0, 0, 0, 0, 0, 0, 0, 0, 0, 0, 0, 0, 0, 0, 0, 0, 0, 0, 0, 0, 0, 0, 0, 0, 0, 0, 0, 0, 0, 0, 0, 0, 0, 0, 0, 0, 0, 0, 0, 0, 0, 0, 0, 0, 0, 0, 0, 0, 0, 0, 0, 0, 0, 0, 0, 0, 0, 0, 0, 0, 0, 0, 0, 0, 0, 0, 0, 0, 0, 0, 0, 0, 0, 0, 0, 0, 0, 0, 0, 0, 0, 0, 0, 0, 0, 0, 0, 0, 0, 0, 0, 0, 0, 0, 0, 0, 0, 0, 0, 0, 0, 0, 0, 0, 0, 0, 0, 0, 0, 0, 0, 0, 0, 0, 0, 0, 0, 0, 0, 0, 0, 0, 0, 0, 0, 0, 0, 0, 0, 0, 0, 0, 0, 0, 0, 0, 0, 0, 0, 0, 0, 0, 0, 0, 0, 0, 0, 0, 0, 0, 0, 0, 0, 0, 0, 0, 0, 0, 0, 0, 0, 0, 0, 0, 0, 0, 0, 0, 0, 0, 0, 0, 0, 0, 0, 0, 0, 0, 0, 0, 0, 0, 0, 0, 0, 0, 0, 0, 0, 0, 0, 0, 0, 0, 0, 0, 0, 0, 0, 0, 0, 0, 0, 0, 0, 0, 0, 0, 0, 0, 0, 0, 0, 0, 0, 0, 0, 0, 0, 0, 0, 0, 0, 0, 0, 0, 0, 0, 0, 0, 0, 0, 0, 0, 0, 0, 0, 0, 0, 0, 0, 0]
    (s.mtrHead = some (11, seq, p, size)) ∧ (p.length = 1032) ∧ (s.get F.MTR_TXHEAD_HEAD = (s.get F.MTR_TXTAIL_TAIL + size) % 4096) ∧ (s.mtr.waiting = []) ∧ (s.get F.MTR_RXHEAD_HEAD = h) ∧ (h % 8 = 0) ∧ ((h + 4096 - s.get F.MTR_RXTAIL_TAIL) % 4096 ≤ 2048) ∧ (s.mtr.sealSt = 1) ∧ (ofLE (p.take 4) < 128)) ∧
    (let s : State := { (base.put F.MTR_STAT_LINK 1).setWord .MTR_TXBUF 0 0 0 4718604#32 |>.setWord .MTR_TXBUF 1 0 0 0x55#32 |>.put F.MTR_TXHEAD_HEAD 80 with mtr := { MtrState.reset with on := true, sealSt := 1 } }
    let seq : Nat := 0x55
    let size : Nat := 80
    let h : Nat := 0
    let p : List Byte := List.replicate 72 0
    (s.mtrHead = some (12, seq, p, size)) ∧ (p.length = 72) ∧ (s.get F.MTR_TXHEAD_HEAD = (s.get F.MTR_TXTAIL_TAIL + size) % 4096) ∧ (s.mtr.waiting = []) ∧ (s.get F.MTR_RXHEAD_HEAD = h) ∧ (h % 8 = 0) ∧ ((h + 4096 - s.get F.MTR_RXTAIL_TAIL) % 4096 ≤ 2048) ∧ (s.mtr.sealSt = 1) ∧ (s.imageOk p = false)) ∧
    (let s : State := { requestBase 12 0x55 ([0, 0, 0, 0, 0, 0, 0, 0] ++ toBE 64 0x088bb9ff22ab291a74c86fc677ba897baadee370cc6129b82d170ba3fc26415c7fa0f3f77fd739e9bc1ba1a75554bf92358ad86d4188ba2a5e3587d88b4f5719) with mtr := { MtrState.reset with on := true, sealSt := 1, fwKey := toolKey } }
    let seq : Nat := 0x55
    let size : Nat := 80
    let p : List Byte := [0, 0, 0, 0, 0, 0, 0, 0] ++ toBE 64 0x088bb9ff22ab291a74c86fc677ba897baadee370cc6129b82d170ba3fc26415c7fa0f3f77fd739e9bc1ba1a75554bf92358ad86d4188ba2a5e3587d88b4f5719
    (s.mtrHead = some (12, seq, p, size)) ∧ (p.length = 72) ∧ (s.mtr.sealSt = 1) ∧ (s.imageOk p = true) ∧ (s.mtr.store < 2)) ∧
    (let s : State := { (base.put F.MTR_STAT_LINK 1).setWord .MTR_TXBUF 0 0 0 13#32 |>.setWord .MTR_TXBUF 1 0 0 0x55#32 |>.put F.MTR_TXHEAD_HEAD 8 with mtr := { MtrState.reset with on := true } }
    let seq : Nat := 0x55
    let size : Nat := 8
    let h : Nat := 0
    let p : List Byte := List.replicate 0 0
    (s.mtrHead = some (13, seq, p, size)) ∧ (p.length = 0) ∧ (s.get F.MTR_TXHEAD_HEAD = (s.get F.MTR_TXTAIL_TAIL + size) % 4096) ∧ (s.mtr.waiting = []) ∧ (s.get F.MTR_RXHEAD_HEAD = h) ∧ (h % 8 = 0) ∧ ((h + 4096 - s.get F.MTR_RXTAIL_TAIL) % 4096 ≤ 2048)) := by
  refine ⟨?_, ?_, ?_, ?_, ?_, ?_, ?_, ?_, ?_, ?_, ?_, ?_, ?_, ?_, ?_, ?_, ?_, ?_, ?_, ?_, ?_⟩ <;> decide +kernel

theorem witness_PartitionCommandsComplete :
    (let s : State := { base with cfg := { base.cfg with place := [(0, { Placement.absent with present := true }), (1, { Placement.absent with present := true })] } }
    let init : Init := .part 1
    let n : Nat := 1
    (s.domOn domFAB = true) ∧ (s.mayWrite init .SYS_PCTL n = true) ∧ (n < 4) ∧ (s.canRestart n = true) ∧ (s.restarting n = none) ∧ (s.get F.UPD_HEALTH_TRIAL n = 0) ∧ (s.seat n < 4) ∧ (s.coreState (s.seat n) < 3)) ∧
    (let s : State := { base with cfg := { base.cfg with place := [(0, { Placement.absent with present := true }), (1, { Placement.absent with present := true })] } }
    let init : Init := .part 1
    let n : Nat := 1
    (s.domOn domFAB = true) ∧ (s.mayWrite init .SYS_PCTL n = true) ∧ (s.reliefFree = true) ∧ (n < 4) ∧ (s.canRestart n = true) ∧ (s.restarting n = none) ∧ (s.get F.UPD_HEALTH_TRIAL n = 0) ∧ (s.seat n < 4) ∧ (s.coreState (s.seat n) < 3)) ∧
    (let s : State := { { base with cfg := { base.cfg with place := [(0, { Placement.absent with present := true }), (1, { Placement.absent with present := true })] } } with integ := { base.integ with seat := [(1, 4)] } }
    let init : Init := .part 1
    let n : Nat := 1
    (s.domOn domFAB = true) ∧ (s.mayWrite init .SYS_PCTL n = true) ∧ (s.coreState n < 2) ∧ (n < 4) ∧ (s.canRestart n = true) ∧ (s.restarting n = none) ∧ (s.get F.UPD_HEALTH_TRIAL n = 0) ∧ (s.seat n < 5)) ∧
    (let s : State := { base with cfg := { base.cfg with place := [(0, { Placement.absent with present := true }), (1, { Placement.absent with present := true })] } }
    let init : Init := .part 0
    let n : Nat := 1
    (s.domOn domFAB = true) ∧ (s.mayWrite init .SYS_RELIEF 0 = true) ∧ (n < 4) ∧ (s.canRestart n = true) ∧ (s.restarting n = none) ∧ (s.get F.UPD_HEALTH_TRIAL n = 0) ∧ (s.seat n < 4) ∧ (s.coreState (s.seat n) < 3)) ∧
    (let s : State := { base with cfg := { base.cfg with place := [(0, { Placement.absent with present := true }), (1, { Placement.absent with present := true })] } }
    let c : Nat := 1
    let n : Nat := 1
    (c < 4) ∧ ((List.range 4).filter (fun m => s.running m && s.host m == c) = [n]) ∧ (s.seat n = c) ∧ (s.get F.SYS_RELIEF_AUTO = 0) ∧ (s.get F.UPD_HEALTH_TRIAL n = 0) ∧ (s.restarting n = none)) ∧
    (let s : State := { { base with cfg := { base.cfg with place := [(0, { Placement.absent with present := true }), (1, { Placement.absent with present := true })] } } with dom := 1019, integ := { base.integ with rcOn := some 5 } }
    let u : Nat := 5
    (s.integ.rcOn = some u) ∧ (u + 200 * usUnits ≤ s.now) ∧ (s.domOn domFAB = true) ∧ (s.coreState 4 ≠ 3)) ∧
    (let s : State := ({ base with cfg := { base.cfg with place := [(0, { Placement.absent with present := true }), (1, { Placement.absent with present := true })] } }).setCoreState 1 2
    let c : Nat := 1
    (c < 5) ∧ (s.coreState c = 2) ∧ ((List.range 4).all (fun n => (s.restarting n).all (fun r => r.core != c)) = true)) := by
  refine ⟨?_, ?_, ?_, ?_, ?_, ?_, ?_⟩ <;> decide +kernel

theorem witness_IntegrityCommandsComplete :
    (let s : State := base
    let init : Init := .part 0
    (s.domOn domFAB = true) ∧ (s.mayWrite init .SYS_DWDOG 0 = true)) ∧
    (let s : State := { base.put F.SYS_DWDOG_TIME 50 with integ := { base.integ with dwPairs := [.part 0] } }
    let init : Init := .part 0
    let m : Nat := 50
    (s.domOn domFAB = true) ∧ (s.mayWrite init .SYS_DWDOG 0 = true) ∧ (s.integ.dwPairs.contains init = true) ∧ (s.pwr = 0) ∧ (s.get F.SYS_DWDOG_TIME = m) ∧ (10 ≤ m) ∧ (m ≤ 4000)) ∧
    (let s : State := { base with integ := { base.integ with dwPairs := [.part 0] } }
    let init : Init := .part 0
    let key : Nat := 7
    (s.domOn domFAB = true) ∧ (s.mayWrite init .SYS_DWDOG 0 = true) ∧ (key % 256 ≠ 0) ∧ (key % 256 ≠ 0x3C) ∧ (key % 256 ≠ 0xC3)) ∧
    (let s : State := { base with integ := { base.integ with dwUse := 50 } }
    let init : Init := .part 0
    (s.domOn domFAB = true) ∧ (s.mayWrite init .SYS_DWDOG 0 = true) ∧ (s.integ.dwUse ≠ 0)) ∧
    (let s : State := { base with integ := { base.integ with dwAt := some 5 } }
    let u : Nat := 5
    (s.integ.dwAt = some u) ∧ (u ≤ s.now)) ∧
    (let s : State := base
    let init : Init := .part 0
    let n : Nat := 0
    let cls : Nat := 1
    let idx : Nat := 5
    (n < 4) ∧ (s.domOn domFAB = true) ∧ (s.mayWrite init .SYS_TEST n = true) ∧ (Sparse.get s.integ.tests n = none) ∧ (idx < 65536) ∧ (s.svcOk n 1 cls idx = true) ∧ (cls < 256)) ∧
    (let s : State := base
    let init : Init := .part 0
    let n : Nat := 0
    let idx : Nat := 5
    (n < 4) ∧ (s.domOn domFAB = true) ∧ (s.mayWrite init .SYS_TEST n = true) ∧ (Sparse.get s.integ.tests n = none) ∧ (idx < 65536) ∧ (s.svcOk n 2 4 idx = true)) ∧
    (let s : State := base.put F.CAN_CTL_EN 1 5
    let init : Init := .part 0
    let n : Nat := 0
    let idx : Nat := 5
    (n < 4) ∧ (s.domOn domFAB = true) ∧ (s.mayWrite init .SYS_TEST n = true) ∧ (Sparse.get s.integ.tests n = none) ∧ (idx < 65536) ∧ (s.svcOk n 3 14 idx = true) ∧ (idx < 10)) ∧
    (let s : State := base.put F.LIN_CTL_EN 1 5
    let init : Init := .part 0
    let n : Nat := 0
    let idx : Nat := 5
    (n < 4) ∧ (s.domOn domFAB = true) ∧ (s.mayWrite init .SYS_TEST n = true) ∧ (Sparse.get s.integ.tests n = none) ∧ (idx < 65536) ∧ (s.svcOk n 4 15 idx = true) ∧ (idx < 12)) ∧
    (let s : State := base.put F.ESW_PCTL_EN 1 5
    let init : Init := .part 0
    let n : Nat := 0
    let idx : Nat := 5
    (n < 4) ∧ (s.domOn domFAB = true) ∧ (s.mayWrite init .SYS_TEST n = true) ∧ (Sparse.get s.integ.tests n = none) ∧ (idx < 65536) ∧ (s.svcOk n 5 18 idx = true) ∧ (s.upd.sessions = [])) ∧
    (let s : State := base
    let init : Init := .part 0
    let n : Nat := 0
    let cls : Nat := 7
    let idx : Nat := 5
    (n < 4) ∧ (s.domOn domFAB = true) ∧ (s.mayWrite init .SYS_TEST n = true) ∧ (Sparse.get s.integ.tests n = none) ∧ (idx < 65536) ∧ (cls < 256) ∧ (s.svcOk n 1 cls idx = false)) ∧
    (let s : State := { base.put F.SYS_TEST_BUSY 1 0 with integ := { base.integ with tests := [(0, ⟨1, 1, 5, 7⟩)] } }
    let n : Nat := 0
    let x : SvcTest := ⟨1, 1, 5, 7⟩
    (n < 4) ∧ (Sparse.get s.integ.tests n = some x)) ∧
    (let s : State := (base.put F.ERR_SCRUB_EN 1)
    (s.get F.ERR_SCRUB_EN = 1) ∧ (s.pwr ≤ 1)) ∧
    (let s : State := (base.put F.ERR_SCRUB_EN 1)
    (s.get F.ERR_SCRUB_EN = 1) ∧ (s.pwr ≤ 1)) ∧
    (let s : State := { (base.setPwr 3).put F.ERR_SCRUB_DSSCRUB 1 with now := 57600000000005, pmu := { PmuState.reset with commitAt := some 5 } }
    let one : Nat := 4
    let two : Nat := 3
    let h : Nat := 1
    let u : Nat := 5
    (s.pwr = 3 ∨ s.pwr = 4) ∧ (s.get F.ERR_SCRUB_DSSCRUB = h) ∧ (h ≠ 0) ∧ (s.pmu.commitAt = some u) ∧ (max s.integ.scrubbed u + h * 3600 * secUnits ≤ s.now) ∧ (s.get F.ERR_CUM_COUNT 0 + one < 2 ^ 32) ∧ (s.get F.ERR_CUM_COUNT 1 + two < 2 ^ 32)) ∧
    (let s : State := { base.logEntry 3 15 0xFFFF 5 with now := 164000000000, log := { (base.logEntry 3 15 0xFFFF 5).log with headFound := true } }
    let e : LogEntry := ((base.logEntry 3 15 0xFFFF 5).log.pend.headD ⟨none, 0, 0, false, 0, 0, 0, 0⟩)
    let rest : List LogEntry := []
    (s.log.pend = e :: rest) ∧ (s.log.headFound = true) ∧ (s.log.flushing = 0) ∧ (e.stamp + secUnits ≤ s.now)) ∧
    (let s : State := { base.put F.ERR_LOGHEAD_ENTRY 9 with log := { (base.logEntry 3 15 0xFFFF 5).log with headFound := true, flushing := 1 } }
    let e : LogEntry := ((base.logEntry 3 15 0xFFFF 5).log.pend.headD ⟨none, 0, 0, false, 0, 0, 0, 0⟩)
    let k : Nat := 9
    (s.log.pend = [e]) ∧ (s.log.headFound = true) ∧ (s.log.flushing = 1) ∧ (s.get F.ERR_LOGHEAD_ENTRY = k) ∧ (k + 1 < 786432)) ∧
    (let s : State := base
    (s.log.headFound = false) ∧ (s.pwr ≤ 1) ∧ (s.logHead = none) ∧ (s.log.pend = [])) ∧
    (let s : State := base.wrWords (logFlash 6) (((base.logEntry 3 15 0xFFFF 5).log.pend.headD ⟨none, 0, 0, false, 0, 0, 0, 0⟩).words)
    let k : Nat := 6
    let q : Nat := 0
    (s.log.headFound = false) ∧ (s.pwr ≤ 1) ∧ (s.logHead = some (k, q)) ∧ (s.log.pend = []) ∧ (k + 1 < 786432) ∧ (q + 1 < 2 ^ 32)) := by
  refine ⟨?_, ?_, ?_, ?_, ?_, ?_, ?_, ?_, ?_, ?_, ?_, ?_, ?_, ?_, ?_, ?_, ?_, ?_, ?_⟩ <;> decide +kernel

theorem witness_SiariSessionsComplete :
    (let s : State := { (base.put F.ESW_PSTAT_LINK 1 10).put F.UPD_GATE_ALLOW 1 with upd := { UpdState.reset with sessions := [⟨0, 7, 9, [], some 9, 5, 5, some 4, [], 0, [], true⟩], holder := some (9, 5) } }
    let path : Nat := 0
    (s.siariOn path = true)) ∧
    (let s : State := { ((base.put F.ESW_PSTAT_LINK 1 10).put F.UPD_GATE_ALLOW 1) with upd := { UpdState.reset with sessions := [⟨0, 7, 9, [], none, 5, 5, some 4, [], 0, [], true⟩], holder := none }, fuse := { FuseState.reset with hashes := [toolHash, 0, 0, 0] } }
    let x : Session := ⟨0, 7, 9, [], none, 5, 5, some 4, [], 0, [], true⟩
    let seq : Nat := 5
    let key : List Byte := toolKey
    let sig : List Byte := toBE 64 1
    (s.session x.value = some x) ∧ (s.siariOn x.path = true) ∧ (x.seq.map (fun q => (q + 1) % 2 ^ 32) = some seq) ∧ (x.seq ≠ some seq) ∧ (signedBy key sig (s.authBytes x) = false)) ∧
    (let s : State := { ((base.put F.ESW_PSTAT_LINK 1 10).put F.UPD_GATE_ALLOW 1) with upd := { UpdState.reset with sessions := [⟨0, 7, 9, [], none, 5, 5, some 4, [], 0, [], true⟩], holder := none }, fuse := { FuseState.reset with hashes := [toolHash, 0, 0, 0] } }
    let x : Session := ⟨0, 7, 9, [], none, 5, 5, some 4, [], 0, [], true⟩
    let seq : Nat := 5
    let k : Nat := 8
    let key : List Byte := toolKey
    let sig : List Byte := toBE 64 0x088bb9ff22ab291a74c86fc677ba897baadee370cc6129b82d170ba3fc26415ca046cbbaa246142f929e732ff036f74813d05bf612489b31e625b07f14c64fac
    (s.session x.value = some x) ∧ (s.siariOn x.path = true) ∧ (x.seq.map (fun q => (q + 1) % 2 ^ 32) = some seq) ∧ (x.seq ≠ some seq) ∧ (signedBy key sig (s.authBytes x) = true) ∧ (s.toolSlot key = some k) ∧ (s.upd.holder = none) ∧ (s.upd.arb = none)) ∧
    (let s : State := { ((base.put F.ESW_PSTAT_LINK 1 10).put F.UPD_GATE_ALLOW 1) with upd := { UpdState.reset with sessions := [⟨0, 7, 9, [], none, 5, 5, some 4, [], 0, [], true⟩], holder := none }, fuse := { FuseState.reset with hashes := [0, 0, 0, 0] } }
    let x : Session := ⟨0, 7, 9, [], none, 5, 5, some 4, [], 0, [], true⟩
    let seq : Nat := 5
    let key : List Byte := toolKey
    let sig : List Byte := toBE 64 0x088bb9ff22ab291a74c86fc677ba897baadee370cc6129b82d170ba3fc26415ca046cbbaa246142f929e732ff036f74813d05bf612489b31e625b07f14c64fac
    (s.session x.value = some x) ∧ (s.siariOn x.path = true) ∧ (x.seq.map (fun q => (q + 1) % 2 ^ 32) = some seq) ∧ (x.seq ≠ some seq) ∧ (signedBy key sig (s.authBytes x) = true) ∧ (s.toolSlot key = none)) ∧
    (let s : State := { (base.put F.ESW_PSTAT_LINK 1 10).put F.UPD_GATE_ALLOW 1 with upd := { UpdState.reset with sessions := [⟨0, 7, 9, [], some 9, 5, 5, some 4, [], 0, [], true⟩], holder := none, arb := some (5, [(9, 4)]) } }
    let e : Nat := 5
    let q : Nat := 4
    let x : Session := ⟨0, 7, 9, [], some 9, 5, 5, some 4, [], 0, [], true⟩
    (s.upd.arb = some (e, [(x.value, q)])) ∧ (e ≤ s.now) ∧ (s.session x.value = some x)) ∧
    (let s : State := { (base.put F.ESW_PSTAT_LINK 1 10).put F.UPD_GATE_ALLOW 1 with upd := { UpdState.reset with sessions := [⟨0, 7, 9, [], some 9, 5, 5, some 4, [], 0, [], true⟩], holder := some (9, 5) } }
    let x : Session := ⟨0, 7, 9, [], some 9, 5, 5, some 4, [], 0, [], true⟩
    let seq : Nat := 5
    (s.session x.value = some x) ∧ (s.siariOn x.path = true) ∧ (x.seq.map (fun q => (q + 1) % 2 ^ 32) = some seq) ∧ (x.seq ≠ some seq) ∧ (x.slot ≠ none)) ∧
    (let s : State := { { (base.put F.ESW_PSTAT_LINK 1 10).put F.UPD_GATE_ALLOW 1 with upd := { UpdState.reset with sessions := [⟨0, 7, 9, [], none, 5, 5, some 4, [], 0, [], true⟩], holder := none } } with now := 640000000000 }
    let x : Session := ⟨0, 7, 9, [], none, 5, 5, some 4, [], 0, [], true⟩
    (s.session x.value = some x) ∧ (x.slot = none) ∧ (x.at_ + 10 * secUnits ≤ s.now)) ∧
    (let s : State := { { (base.put F.ESW_PSTAT_LINK 1 10).put F.UPD_GATE_ALLOW 1 with upd := { UpdState.reset with sessions := [⟨0, 7, 9, [], some 9, 5, 5, some 4, [], 0, [], true⟩], holder := some (9, 5) } } with now := 1640000000000 }
    let x : Session := ⟨0, 7, 9, [], some 9, 5, 5, some 4, [], 0, [], true⟩
    (s.session x.value = some x) ∧ (x.last + 60 * secUnits ≤ s.now)) ∧
    (let s : State := { (base.put F.ESW_PSTAT_LINK 1 10).put F.UPD_GATE_ALLOW 1 with upd := { UpdState.reset with sessions := [⟨0, 7, 9, [], some 9, 5, 5, some 4, [], 0, [], true⟩], holder := some (9, 5) } }
    let x : Session := ⟨0, 7, 9, [], some 9, 5, 5, some 4, [], 0, [], true⟩
    let seq : Nat := 5
    (s.session x.value = some x) ∧ (s.siariOn x.path = true) ∧ (x.seq.map (fun q => (q + 1) % 2 ^ 32) = some seq) ∧ (x.seq ≠ some seq) ∧ (x.slot ≠ none)) ∧
    (let s : State := { (base.put F.ESW_PSTAT_LINK 1 10).put F.UPD_GATE_ALLOW 1 with upd := { UpdState.reset with sessions := [⟨0, 7, 9, [], some 9, 5, 5, some 4, [], 0, [], true⟩], holder := some (9, 5) } }
    let x : Session := ⟨0, 7, 9, [], some 9, 5, 5, some 4, [], 0, [], true⟩
    let seq : Nat := 5
    let count : Nat := 2
    (s.session x.value = some x) ∧ (s.siariOn x.path = true) ∧ (x.seq.map (fun q => (q + 1) % 2 ^ 32) = some seq) ∧ (x.seq ≠ some seq) ∧ (x.slot ≠ none) ∧ (1 ≤ count) ∧ (count ≤ 32)) ∧
    (let s : State := { (base.put F.ESW_PSTAT_LINK 1 10).put F.UPD_GATE_ALLOW 1 with upd := { UpdState.reset with sessions := [⟨0, 7, 9, [], some 9, 5, 5, some 4, [], 0, [], true⟩], holder := some (9, 5) } }
    let x : Session := ⟨0, 7, 9, [], some 9, 5, 5, some 4, [], 0, [], true⟩
    let seq : Nat := 5
    let count : Nat := 33
    (s.session x.value = some x) ∧ (s.siariOn x.path = true) ∧ (x.seq.map (fun q => (q + 1) % 2 ^ 32) = some seq) ∧ (x.seq ≠ some seq) ∧ (x.slot ≠ none) ∧ (count = 0 ∨ 32 < count)) ∧
    (let s : State := { (base.put F.ESW_PSTAT_LINK 1 10).put F.UPD_GATE_ALLOW 1 with upd := { UpdState.reset with sessions := [⟨0, 7, 9, [], some 9, 5, 5, some 4, [], 0, [], true⟩], holder := some (9, 5) } }
    let x : Session := ⟨0, 7, 9, [], some 9, 5, 5, some 4, [], 0, [], true⟩
    let seq : Nat := 5
    let part : Nat := 1
    let off : Nat := 0x2000
    let size : Nat := 16
    let most : Nat := 0x100000
    (s.session x.value = some x) ∧ (s.siariOn x.path = true) ∧ (x.seq.map (fun q => (q + 1) % 2 ^ 32) = some seq) ∧ (x.seq ≠ some seq) ∧ (x.slot ≠ none) ∧ (s.holds x = true) ∧ (s.upd.act = none) ∧ (s.partMax part = some most) ∧ (0x1000 ≤ off) ∧ (off % 4096 = 0) ∧ (off + size ≤ 0x3000000) ∧ (size ≤ most + 256) ∧ ((x.parts.filter (fun p => p.part != part)).all (fun p => decide (off + size ≤ p.off) || decide (p.off + p.size ≤ off)) = true)) ∧
    (let s : State := { (base.put F.ESW_PSTAT_LINK 1 10).put F.UPD_GATE_ALLOW 1 with upd := { UpdState.reset with sessions := [⟨0, 7, 9, [], some 9, 5, 5, some 4, [], 0, [⟨1, 0x2000, 16, 4, false⟩], true⟩], holder := some (9, 5) } }
    let x : Session := ⟨0, 7, 9, [], some 9, 5, 5, some 4, [], 0, [⟨1, 0x2000, 16, 4, false⟩], true⟩
    let seq : Nat := 5
    let off : Nat := 4
    let data : List Byte := [1, 2]
    let p : Staged19 := ⟨1, 0x2000, 16, 4, false⟩
    (s.session x.value = some x) ∧ (s.siariOn x.path = true) ∧ (x.seq.map (fun q => (q + 1) % 2 ^ 32) = some seq) ∧ (x.seq ≠ some seq) ∧ (x.slot ≠ none) ∧ (s.holds x = true) ∧ (s.upd.act = none) ∧ (0 < data.length) ∧ (data.length ≤ 1024) ∧ (x.parts = [p]) ∧ (p.done = false) ∧ (off = p.fill) ∧ (off + data.length ≤ p.size)) ∧
    (let s : State := { (base.put F.ESW_PSTAT_LINK 1 10).put F.UPD_GATE_ALLOW 1 with upd := { UpdState.reset with sessions := [⟨0, 7, 9, [], some 9, 5, 5, some 4, [], 0, [⟨1, 0x2000, 16, 4, false⟩], true⟩], holder := some (9, 5) } }
    let x : Session := ⟨0, 7, 9, [], some 9, 5, 5, some 4, [], 0, [⟨1, 0x2000, 16, 4, false⟩], true⟩
    let seq : Nat := 5
    let p : Staged19 := ⟨1, 0x2000, 16, 4, false⟩
    (s.session x.value = some x) ∧ (s.siariOn x.path = true) ∧ (x.seq.map (fun q => (q + 1) % 2 ^ 32) = some seq) ∧ (x.seq ≠ some seq) ∧ (x.slot ≠ none) ∧ (s.holds x = true) ∧ (s.upd.act = none) ∧ (x.parts = [p]) ∧ (p.done = false)) ∧
    (let s : State := { (base.put F.ESW_PSTAT_LINK 1 10).put F.UPD_GATE_ALLOW 1 with upd := { UpdState.reset with sessions := [⟨0, 7, 9, [], some 9, 5, 5, some 4, [], 0, [], true⟩], holder := some (9, 5) } }
    let x : Session := ⟨0, 7, 9, [], some 9, 5, 5, some 4, [], 0, [], true⟩
    let seq : Nat := 5
    let proof : List Byte := Sha.digest (toBE 32 0)
    (s.session x.value = some x) ∧ (s.siariOn x.path = true) ∧ (x.seq.map (fun q => (q + 1) % 2 ^ 32) = some seq) ∧ (x.seq ≠ some seq) ∧ (x.slot ≠ none) ∧ (s.holds x = true) ∧ (Sparse.get s.upd.barred x.path = none) ∧ (Sha.digest (toBE 32 s.acc.vehicle.code ++ x.chal) = proof)) ∧
    (let s : State := { (base.put F.ESW_PSTAT_LINK 1 10).put F.UPD_GATE_ALLOW 1 with upd := { UpdState.reset with sessions := [⟨0, 7, 9, [], some 9, 5, 5, some 4, [], 0, [], true⟩], holder := some (9, 5) } }
    let x : Session := ⟨0, 7, 9, [], some 9, 5, 5, some 4, [], 0, [], true⟩
    let seq : Nat := 5
    let proof : List Byte := []
    (s.session x.value = some x) ∧ (s.siariOn x.path = true) ∧ (x.seq.map (fun q => (q + 1) % 2 ^ 32) = some seq) ∧ (x.seq ≠ some seq) ∧ (x.slot ≠ none) ∧ (s.holds x = true) ∧ (Sparse.get s.upd.barred x.path = none) ∧ (Sha.digest (toBE 32 s.acc.vehicle.code ++ x.chal) ≠ proof) ∧ (x.wrong < 2)) ∧
    (let s : State := { (base.put F.ESW_PSTAT_LINK 1 10).put F.UPD_GATE_ALLOW 1 with upd := { UpdState.reset with sessions := [⟨0, 7, 9, [], some 9, 5, 5, some 4, [], 0, [], true⟩], holder := some (9, 5) } }
    let x : Session := ⟨0, 7, 9, [], some 9, 5, 5, some 4, [], 0, [], true⟩
    let seq : Nat := 5
    let m : List Byte := [1, 0, 0, 0, 0, 0, 0, 0]
    (s.session x.value = some x) ∧ (s.siariOn x.path = true) ∧ (x.seq.map (fun q => (q + 1) % 2 ^ 32) = some seq) ∧ (x.seq ≠ some seq) ∧ (x.slot ≠ none) ∧ (s.holds x = true) ∧ (8 ≤ m.length) ∧ (m.length ≤ 1040) ∧ ((m.getD 0 0).toNat ≠ 0) ∧ ((m.getD 0 0).toNat ≤ 13) ∧ (s.upd.ws = none)) ∧
    (let s : State := ({ (base.put F.ESW_PSTAT_LINK 1 10).put F.UPD_GATE_ALLOW 1 with upd := { UpdState.reset with sessions := [⟨0, 7, 9, [], some 9, 5, 5, some 4, [], 0, [], true⟩], holder := some (9, 5), ws := some (9, 4, 7) } }).put F.UPD_WSCTL_PEND 1
    let init : Init := .part 0
    let v : Nat := 9
    let q : Nat := 4
    let u : Nat := 7
    (s.domOn domFAB = true) ∧ (s.mayWrite init .UPD_WSCTL 0 = true) ∧ (s.upd.ws = some (v, q, u))) ∧
    (let s : State := { (base.put F.ESW_PSTAT_LINK 1 10).put F.UPD_GATE_ALLOW 1 with upd := { UpdState.reset with sessions := [⟨0, 7, 9, [], some 9, 5, 5, some 4, [], 0, [], true⟩], holder := some (9, 5), ws := some (9, 4, 7) } }
    let x : Session := ⟨0, 7, 9, [], some 9, 5, 5, some 4, [], 0, [], true⟩
    let q : Nat := 4
    let u : Nat := 7
    (s.upd.ws = some (x.value, q, u)) ∧ (u ≤ s.now) ∧ (s.session x.value = some x)) ∧
    (let s : State := { (base.put F.ESW_PSTAT_LINK 1 10).put F.UPD_GATE_ALLOW 1 with upd := { UpdState.reset with sessions := [⟨0, 7, 9, [], some 9, 5, 5, some 4, [], 0, [], true⟩], holder := some (9, 5) } }
    let x : Session := ⟨0, 7, 9, [], some 9, 5, 5, some 4, [], 0, [], true⟩
    let seq : Nat := 5
    (s.session x.value = some x) ∧ (s.siariOn x.path = true) ∧ (x.seq.map (fun q => (q + 1) % 2 ^ 32) = some seq) ∧ (x.seq ≠ some seq) ∧ (x.slot ≠ none) ∧ (s.holds x = true)) ∧
    (let s : State := { (base.put F.ESW_PSTAT_LINK 1 10).put F.UPD_GATE_ALLOW 1 with upd := { UpdState.reset with sessions := [⟨0, 7, 9, [], some 9, 5, 5, some 4, [], 0, [], true⟩], holder := some (9, 5) } }
    let x : Session := ⟨0, 7, 9, [], some 9, 5, 5, some 4, [], 0, [], true⟩
    let seq : Nat := 5
    (s.session x.value = some x) ∧ (s.siariOn x.path = true) ∧ (x.seq.map (fun q => (q + 1) % 2 ^ 32) = some seq) ∧ (x.seq ≠ some seq) ∧ (x.slot ≠ none) ∧ (s.holds x = true) ∧ (8 ≤ x.slot.getD 0)) ∧
    (let s : State := { (base.put F.ESW_PSTAT_LINK 1 10).put F.UPD_GATE_ALLOW 1 with upd := { UpdState.reset with sessions := [⟨0, 7, 9, [], some 3, 5, 5, some 4, [], 0, [], true⟩], holder := some (9, 5) } }
    let x : Session := ⟨0, 7, 9, [], some 3, 5, 5, some 4, [], 0, [], true⟩
    let seq : Nat := 5
    (s.session x.value = some x) ∧ (s.siariOn x.path = true) ∧ (x.seq.map (fun q => (q + 1) % 2 ^ 32) = some seq) ∧ (x.seq ≠ some seq) ∧ (x.slot ≠ none) ∧ (s.holds x = true) ∧ (x.slot.getD 0 < 8)) ∧
    (let s : State := { (base.put F.ESW_PSTAT_LINK 1 10).put F.UPD_GATE_ALLOW 1 with upd := { UpdState.reset with sessions := [⟨0, 7, 9, [], some 9, 5, 5, some 4, [], 0, [], true⟩], holder := some (9, 5) } }
    let x : Session := ⟨0, 7, 9, [], some 9, 5, 5, some 4, [], 0, [], true⟩
    let seq : Nat := 5
    (s.session x.value = some x) ∧ (s.siariOn x.path = true) ∧ (x.seq.map (fun q => (q + 1) % 2 ^ 32) = some seq) ∧ (x.seq ≠ some seq) ∧ (x.slot ≠ none) ∧ (s.holds x = true) ∧ (8 ≤ x.slot.getD 0)) := by
  refine ⟨?_, ?_, ?_, ?_, ?_, ?_, ?_, ?_, ?_, ?_, ?_, ?_, ?_, ?_, ?_, ?_, ?_, ?_, ?_, ?_, ?_, ?_, ?_⟩ <;> decide +kernel

theorem witness_SiariActivationCompletes :
    (let s : State := { (base.put F.ESW_PSTAT_LINK 1 10).put F.UPD_GATE_ALLOW 1 with upd := { UpdState.reset with sessions := [⟨0, 7, 9, [], some 9, 5, 5, some 4, [], 0, [], true⟩], holder := some (9, 5) } }
    let x : Session := ⟨0, 7, 9, [], some 9, 5, 5, some 4, [], 0, [], true⟩
    let seq : Nat := 5
    let m : List Byte := []
    let st : Nat := 6
    (s.session x.value = some x) ∧ (s.siariOn x.path = true) ∧ (x.seq.map (fun q => (q + 1) % 2 ^ 32) = some seq) ∧ (x.seq ≠ some seq) ∧ (x.slot ≠ none) ∧ (s.holds x = true) ∧ (s.manCheck x m = st) ∧ (st ≠ 0)) ∧
    (let s : State := { ({ (base.put F.ESW_PSTAT_LINK 1 10).put F.UPD_GATE_ALLOW 1 with upd := { UpdState.reset with sessions := [⟨0, 7, 9, [], some 9, 5, 5, some 4, [], 0, [⟨1, 0x2000, 0, 0, true⟩, ⟨0x10, 0x3000, 0, 0, true⟩], true⟩], holder := some (9, 5) } }).wr32 0x20001008 5 with fuse := { FuseState.reset with hashes := [toolHash, 0, 0, 0] } }
    let x : Session := ⟨0, 7, 9, [], some 9, 5, 5, some 4, [], 0, [⟨1, 0x2000, 0, 0, true⟩, ⟨0x10, 0x3000, 0, 0, true⟩], true⟩
    let seq : Nat := 5
    let m : List Byte := ([0x4B#8, 0x58#8, 0x4D#8, 0x46#8, 1, 0, 2, 0] ++ leB 4 base.cfg.product ++ leB 4 5 ++ List.replicate 48 0#8 ++ [1#8, 0] ++ List.replicate 6 0#8 ++ leB 4 0x2000 ++ leB 4 0 ++ Sha.digest [] ++ [0x10#8, 0] ++ List.replicate 6 0#8 ++ leB 4 0x3000 ++ leB 4 0 ++ Sha.digest [] ++ toolKey ++ toBE 64 0x088bb9ff22ab291a74c86fc677ba897baadee370cc6129b82d170ba3fc26415cbf388b6404c51d5d97d9d8f034875f9d698d9bb976492b291e4e0a2b902768fb)
    (s.session x.value = some x) ∧ (s.siariOn x.path = true) ∧ (x.seq.map (fun q => (q + 1) % 2 ^ 32) = some seq) ∧ (x.seq ≠ some seq) ∧ (x.slot ≠ none) ∧ (s.holds x = true) ∧ (s.manCheck x m = 0)) ∧
    (let s : State := { (base.put F.ESW_PSTAT_LINK 1 10).put F.UPD_GATE_ALLOW 1 with upd := { UpdState.reset with sessions := [⟨0, 7, 9, [], some 9, 5, 5, some 4, [], 0, [], true⟩], holder := some (9, 5), act := some { entries := [], base := 5, digest := [], full := false, total := 120, endAt := none, jseq := 0, healthy := [], trials := [], todo := [], tried := [], gen := 1, session := 9 } } }
    let a : Activation := { entries := [], base := 5, digest := [], full := false, total := 120, endAt := none, jseq := 0, healthy := [], trials := [], todo := [], tried := [], gen := 1, session := 9 }
    (s.upd.act = some a) ∧ (a.endAt = none)) ∧
    (let s : State := { (base.put F.ESW_PSTAT_LINK 1 10).put F.UPD_GATE_ALLOW 1 with upd := { UpdState.reset with sessions := [⟨0, 7, 9, [], some 9, 5, 5, some 4, [], 0, [], true⟩], holder := some (9, 5), act := some { entries := [⟨0x10, 0, 0, 0, 0x2000, 0, []⟩], base := 5, digest := [], full := false, total := 120, endAt := none, jseq := 0, healthy := [], trials := [], todo := [], tried := [], gen := 1, session := 9 } } }
    let a : Activation := { entries := [⟨0x10, 0, 0, 0, 0x2000, 0, []⟩], base := 5, digest := [], full := false, total := 120, endAt := none, jseq := 0, healthy := [], trials := [], todo := [], tried := [], gen := 1, session := 9 }
    let n : Nat := 0
    (s.upd.act = some a) ∧ (a.endAt = none) ∧ (a.full = false) ∧ (n < 4) ∧ (a.entries.all (fun e => e.src == 0) = true) ∧ ((List.range 4).filter (fun k => a.entries.any (fun e => e.src == 0 && e.part == 0x10 + k)) = [n]) ∧ (s.seat n < 4) ∧ (s.coreState (s.seat n) < 3)) ∧
    (let s : State := ({ (base.put F.ESW_PSTAT_LINK 1 10).put F.UPD_GATE_ALLOW 1 with upd := { UpdState.reset with sessions := [⟨0, 7, 9, [], some 9, 5, 5, some 4, [], 0, [], true⟩], holder := some (9, 5), act := some { entries := [⟨0x10, 0, 0, 0, 0x2000, 0, []⟩, ⟨1, 0, 0, 0, 0x3000, 0, []⟩], base := 5, digest := [], full := true, total := 120, endAt := some 5, jseq := 0, healthy := [], trials := [], todo := [], tried := [], gen := 1, session := 9 } } }).put F.UPD_HEALTH_TRIAL 1 0
    let init : Init := .part 0
    let n : Nat := 0
    let a : Activation := { entries := [⟨0x10, 0, 0, 0, 0x2000, 0, []⟩, ⟨1, 0, 0, 0, 0x3000, 0, []⟩], base := 5, digest := [], full := true, total := 120, endAt := some 5, jseq := 0, healthy := [], trials := [], todo := [], tried := [], gen := 1, session := 9 }
    (n < 4) ∧ (s.domOn domFAB = true) ∧ (s.mayWrite init .UPD_HEALTH n = true) ∧ (s.get F.UPD_HEALTH_TRIAL n = 1) ∧ (s.upd.act = some a) ∧ (a.endAt.isSome = true) ∧ (a.full = true) ∧ (a.entries.any (fun e => e.part == 0x10 + n) = true) ∧ ((0x10 + n) ∉ a.healthy) ∧ (a.entries.any (fun e => e.part != 0x10 + n && !a.healthy.contains e.part) = true)) ∧
    (let s : State := ({ (base.put F.ESW_PSTAT_LINK 1 10).put F.UPD_GATE_ALLOW 1 with upd := { UpdState.reset with sessions := [⟨0, 7, 9, [], some 9, 5, 5, some 4, [], 0, [], true⟩], holder := some (9, 5), act := some { entries := [⟨0x10, 0, 0, 0, 0x2000, 0, []⟩], base := 5, digest := [], full := false, total := 120, endAt := some 5, jseq := 0, healthy := [], trials := [], todo := [], tried := [], gen := 1, session := 9 } } }).put F.UPD_HEALTH_TRIAL 1 0
    let init : Init := .part 0
    let n : Nat := 0
    let a : Activation := { entries := [⟨0x10, 0, 0, 0, 0x2000, 0, []⟩], base := 5, digest := [], full := false, total := 120, endAt := some 5, jseq := 0, healthy := [], trials := [], todo := [], tried := [], gen := 1, session := 9 }
    (n < 4) ∧ (s.domOn domFAB = true) ∧ (s.mayWrite init .UPD_HEALTH n = true) ∧ (s.get F.UPD_HEALTH_TRIAL n = 1) ∧ (s.upd.act = some a) ∧ (a.gen < 2) ∧ (a.endAt.isSome = true) ∧ (a.entries.any (fun e => e.part == 0x10 + n) = true) ∧ ((0x10 + n) ∉ a.healthy) ∧ (a.entries.all (fun e => e.part == 0x10 + n || a.healthy.contains e.part) = true)) ∧
    (let s : State := ({ (base.put F.ESW_PSTAT_LINK 1 10).put F.UPD_GATE_ALLOW 1 with upd := { UpdState.reset with sessions := [⟨0, 7, 9, [], some 9, 5, 5, some 4, [], 0, [], true⟩], holder := some (9, 5), act := some { entries := [], base := 5, digest := [], full := false, total := 120, endAt := some 5, jseq := 0, healthy := [], trials := [], todo := [], tried := [], gen := 1, session := 9 } } }).put F.UPD_HEALTH_TRIAL 1 0
    let init : Init := .part 0
    let n : Nat := 0
    let a : Activation := { entries := [], base := 5, digest := [], full := false, total := 120, endAt := some 5, jseq := 0, healthy := [], trials := [], todo := [], tried := [], gen := 1, session := 9 }
    (n < 4) ∧ (s.domOn domFAB = true) ∧ (s.mayWrite init .UPD_HEALTH n = true) ∧ (s.get F.UPD_HEALTH_TRIAL n = 1) ∧ (s.upd.act = some a) ∧ (a.full = false)) ∧
    (let s : State := { (base.put F.ESW_PSTAT_LINK 1 10).put F.UPD_GATE_ALLOW 1 with upd := { UpdState.reset with sessions := [⟨0, 7, 9, [], some 9, 5, 5, some 4, [], 0, [], true⟩], holder := some (9, 5), act := some { entries := [], base := 5, digest := [], full := false, total := 120, endAt := some 5, jseq := 0, healthy := [], trials := [(0x11, 7)], todo := [], tried := [], gen := 1, session := 9 } } }
    let part : Nat := 0x11
    let u : Nat := 7
    let a : Activation := { entries := [], base := 5, digest := [], full := false, total := 120, endAt := some 5, jseq := 0, healthy := [], trials := [(0x11, 7)], todo := [], tried := [], gen := 1, session := 9 }
    (s.upd.act = some a) ∧ (a.full = false) ∧ (part ≠ 2) ∧ (part < 256) ∧ (Sparse.get a.trials part = some u) ∧ (u ≤ s.now)) ∧
    (let s : State := { (base.put F.ESW_PSTAT_LINK 1 10).put F.UPD_GATE_ALLOW 1 with upd := { UpdState.reset with sessions := [⟨0, 7, 9, [], some 9, 5, 5, some 4, [], 0, [], true⟩], holder := some (9, 5), act := some { entries := [], base := 5, digest := [], full := false, total := 120, endAt := some 5, jseq := 0, healthy := [], trials := [], todo := [], tried := [], gen := 1, session := 9 } } }
    let u : Nat := 5
    let a : Activation := { entries := [], base := 5, digest := [], full := false, total := 120, endAt := some 5, jseq := 0, healthy := [], trials := [], todo := [], tried := [], gen := 1, session := 9 }
    (s.upd.act = some a) ∧ (a.full = false) ∧ (a.endAt = some u) ∧ (u ≤ s.now)) ∧
    (let s : State := { (base.put F.ESW_PSTAT_LINK 1 10).put F.UPD_GATE_ALLOW 1 with upd := { UpdState.reset with sessions := [⟨0, 7, 9, [], some 9, 5, 5, some 4, [], 0, [], true⟩], holder := some (9, 5), act := some { entries := [], base := 5, digest := [], full := false, total := 120, endAt := some 5, jseq := 0, healthy := [], trials := [], todo := [], tried := [], gen := 1, session := 9 } } }
    let x : Session := ⟨0, 7, 9, [], some 9, 5, 5, some 4, [], 0, [], true⟩
    let seq : Nat := 5
    let a : Activation := { entries := [], base := 5, digest := [], full := false, total := 120, endAt := some 5, jseq := 0, healthy := [], trials := [], todo := [], tried := [], gen := 1, session := 9 }
    (s.session x.value = some x) ∧ (s.siariOn x.path = true) ∧ (x.seq.map (fun q => (q + 1) % 2 ^ 32) = some seq) ∧ (x.seq ≠ some seq) ∧ (x.slot ≠ none) ∧ (s.holds x = true) ∧ (s.upd.act = some a) ∧ (a.full = false)) ∧
    (let s : State := { (base.put F.ESW_PSTAT_LINK 1 10).put F.UPD_GATE_ALLOW 1 with upd := { UpdState.reset with sessions := [⟨0, 7, 9, [], some 9, 5, 5, some 4, [], 0, [], true⟩], holder := some (9, 5) } }
    let x : Session := ⟨0, 7, 9, [], some 9, 5, 5, some 4, [], 0, [], true⟩
    let seq : Nat := 5
    (s.session x.value = some x) ∧ (s.siariOn x.path = true) ∧ (x.seq.map (fun q => (q + 1) % 2 ^ 32) = some seq) ∧ (x.seq ≠ some seq) ∧ (x.slot ≠ none) ∧ (s.holds x = true) ∧ (s.upd.act = none)) ∧
    (let s : State := { base with upd := { UpdState.reset with due := true } }
    (s.upd.due = true) ∧ (s.pwr ≤ 1) ∧ (s.upd.opened = none)) ∧
    (let s : State := { base with upd := { UpdState.reset with due := true, opened := some (1, 5) } }
    let g : Nat := 1
    let b : Nat := 5
    (s.upd.due = true) ∧ (s.pwr ≤ 1) ∧ (s.upd.opened = some (g, b))) := by
  refine ⟨?_, ?_, ?_, ?_, ?_, ?_, ?_, ?_, ?_, ?_, ?_, ?_, ?_⟩ <;> decide +kernel

theorem witness_AluWordsComplete :
    let s := coreBase 0 15317#32 60#32
    s.fetches 0 := by decide +kernel

theorem witness_ImmediateWordsComplete :
    let s := coreBase 5 15317#32 60#32
    s.fetches 5 ∧ 31 < 32 := by decide +kernel

theorem witness_FpuWordsComplete_1 :
    let s := coreBase 3 0x7FC00000#32 0x3F800000#32
    s.fetches 3 ∧ fIsNaN (s.g 3 5) = true ∧ fIsNaN (s.g 3 6) = false := by decide +kernel
theorem witness_FpuWordsComplete_2 :
    let s := coreBase 0 0xBF800000#32 0xFFC00000#32
    s.fetches 0 ∧ fIsNaN (s.g 0 5) = false ∧ fSign (s.g 0 5) = true ∧ fIsNaN (s.g 0 6) = true := by decide +kernel

theorem witness_LoadsComplete :
    (let s : State := (coreBase 1 0x08020104 0xC0DEBEEF#32).wr32 0x201020100 0x89ABFDEC#32
    let c : Nat := 1
    let rs1 : Nat := 5
    let imm : Nat := 16380
    let ecc : Nat := 0
    let a : Nat := 134349056
    (s.fetches c) ∧ ((s.g c rs1 + ((BitVec.ofNat 14 imm).signExtend 32)).toNat = a) ∧ (a % 4 = 0) ∧ (s.permits c a F.CPU_RBASE_R = true) ∧ (s.reaches c a = true) ∧ (isRam c (a / 4 * 4) = true) ∧ (s.wordBad (physAt c (a / 4 * 4)) = false) ∧ (ecc < 3)) ∧
    (let s : State := (coreBase 1 (BitVec.ofNat 32 (Reg.addr .CHK_CFG 3 0 0)) 0).setWord .CHK_DID 3 0 0 0x89ABFDEC#32
    let c : Nat := 1
    let rs1 : Nat := 5
    let imm : Nat := 4
    let a : Nat := Reg.addr .CHK_DID 3 0 0 + 0
    (s.fetches c) ∧ ((s.g c rs1 + ((BitVec.ofNat 14 imm).signExtend 32)).toNat = a) ∧ (a % 4 = 0) ∧ (s.permits c a F.CPU_RBASE_R = true) ∧ (s.reaches c a = true) ∧ (isRam c (a / 4 * 4) = false) ∧ (c ≠ 6)) ∧
    (let s : State := (coreBase 1 0x08020104 0xC0DEBEEF#32).wr32 0x201020100 0x89ABFDEC#32
    let c : Nat := 1
    let rs1 : Nat := 5
    let imm : Nat := 16380
    let ecc : Nat := 0
    let a : Nat := 134349056
    (s.fetches c) ∧ ((s.g c rs1 + ((BitVec.ofNat 14 imm).signExtend 32)).toNat = a) ∧ (a % 2 = 0) ∧ (s.permits c a F.CPU_RBASE_R = true) ∧ (s.reaches c a = true) ∧ (isRam c (a / 4 * 4) = true) ∧ (s.wordBad (physAt c (a / 4 * 4)) = false) ∧ (ecc < 3)) ∧
    (let s : State := (coreBase 1 (BitVec.ofNat 32 (Reg.addr .CHK_CFG 3 0 0)) 0).setWord .CHK_DID 3 0 0 0x89ABFDEC#32
    let c : Nat := 1
    let rs1 : Nat := 5
    let imm : Nat := 4
    let a : Nat := Reg.addr .CHK_DID 3 0 0 + 0
    (s.fetches c) ∧ ((s.g c rs1 + ((BitVec.ofNat 14 imm).signExtend 32)).toNat = a) ∧ (a % 2 = 0) ∧ (s.permits c a F.CPU_RBASE_R = true) ∧ (s.reaches c a = true) ∧ (isRam c (a / 4 * 4) = false) ∧ (c ≠ 6)) ∧
    (let s : State := (coreBase 1 0x08020104 0xC0DEBEEF#32).wr32 0x201020100 0x89ABFDEC#32
    let c : Nat := 1
    let rs1 : Nat := 5
    let imm : Nat := 16380
    let ecc : Nat := 0
    let a : Nat := 134349056
    (s.fetches c) ∧ ((s.g c rs1 + ((BitVec.ofNat 14 imm).signExtend 32)).toNat = a) ∧ (a % 2 = 0) ∧ (s.permits c a F.CPU_RBASE_R = true) ∧ (s.reaches c a = true) ∧ (isRam c (a / 4 * 4) = true) ∧ (s.wordBad (physAt c (a / 4 * 4)) = false) ∧ (ecc < 3)) ∧
    (let s : State := (coreBase 1 (BitVec.ofNat 32 (Reg.addr .CHK_CFG 3 0 0)) 0).setWord .CHK_DID 3 0 0 0x89ABFDEC#32
    let c : Nat := 1
    let rs1 : Nat := 5
    let imm : Nat := 4
    let a : Nat := Reg.addr .CHK_DID 3 0 0 + 0
    (s.fetches c) ∧ ((s.g c rs1 + ((BitVec.ofNat 14 imm).signExtend 32)).toNat = a) ∧ (a % 2 = 0) ∧ (s.permits c a F.CPU_RBASE_R = true) ∧ (s.reaches c a = true) ∧ (isRam c (a / 4 * 4) = false) ∧ (c ≠ 6)) ∧
    (let s : State := (coreBase 1 0x08020104 0xC0DEBEEF#32).wr32 0x201020100 0x89ABFDEC#32
    let c : Nat := 1
    let rs1 : Nat := 5
    let imm : Nat := 16380
    let ecc : Nat := 0
    let a : Nat := 134349056
    (s.fetches c) ∧ ((s.g c rs1 + ((BitVec.ofNat 14 imm).signExtend 32)).toNat = a) ∧ (a % 1 = 0) ∧ (s.permits c a F.CPU_RBASE_R = true) ∧ (s.reaches c a = true) ∧ (isRam c (a / 4 * 4) = true) ∧ (s.wordBad (physAt c (a / 4 * 4)) = false) ∧ (ecc < 3)) ∧
    (let s : State := (coreBase 1 (BitVec.ofNat 32 (Reg.addr .CHK_CFG 3 0 0)) 0).setWord .CHK_DID 3 0 0 0x89ABFDEC#32
    let c : Nat := 1
    let rs1 : Nat := 5
    let imm : Nat := 4
    let a : Nat := Reg.addr .CHK_DID 3 0 0 + 0
    (s.fetches c) ∧ ((s.g c rs1 + ((BitVec.ofNat 14 imm).signExtend 32)).toNat = a) ∧ (a % 1 = 0) ∧ (s.permits c a F.CPU_RBASE_R = true) ∧ (s.reaches c a = true) ∧ (isRam c (a / 4 * 4) = false) ∧ (c ≠ 6)) ∧
    (let s : State := (coreBase 1 0x08020104 0xC0DEBEEF#32).wr32 0x201020100 0x89ABFDEC#32
    let c : Nat := 1
    let rs1 : Nat := 5
    let imm : Nat := 16380
    let ecc : Nat := 0
    let a : Nat := 134349056
    (s.fetches c) ∧ ((s.g c rs1 + ((BitVec.ofNat 14 imm).signExtend 32)).toNat = a) ∧ (a % 1 = 0) ∧ (s.permits c a F.CPU_RBASE_R = true) ∧ (s.reaches c a = true) ∧ (isRam c (a / 4 * 4) = true) ∧ (s.wordBad (physAt c (a / 4 * 4)) = false) ∧ (ecc < 3)) ∧
    (let s : State := (coreBase 1 (BitVec.ofNat 32 (Reg.addr .CHK_CFG 3 0 0)) 0).setWord .CHK_DID 3 0 0 0x89ABFDEC#32
    let c : Nat := 1
    let rs1 : Nat := 5
    let imm : Nat := 4
    let a : Nat := Reg.addr .CHK_DID 3 0 0 + 0
    (s.fetches c) ∧ ((s.g c rs1 + ((BitVec.ofNat 14 imm).signExtend 32)).toNat = a) ∧ (a % 1 = 0) ∧ (s.permits c a F.CPU_RBASE_R = true) ∧ (s.reaches c a = true) ∧ (isRam c (a / 4 * 4) = false) ∧ (c ≠ 6)) := by
  refine ⟨?_, ?_, ?_, ?_, ?_, ?_, ?_, ?_, ?_, ?_⟩ <;> decide +kernel

theorem witness_StoresAndAtomicsComplete :
    (let s : State := coreBase 1 0x08020104 0xC0DEBEEF#32
    let c : Nat := 1
    let rs1 : Nat := 5
    let imm : Nat := 16380
    let ecc : Nat := 0
    let a : Nat := 134349056
    (s.fetches c) ∧ ((s.g c rs1 + ((BitVec.ofNat 14 imm).signExtend 32)).toNat = a) ∧ (a % 4 = 0) ∧ (s.permits c a F.CPU_RBASE_W = true) ∧ (s.reaches c a = true) ∧ (inLocal c a = true) ∧ (s.wordBad (physAt c a) = false) ∧ (ecc < 3)) ∧
    (let s : State := { coreBase 1 0x10040104 0xC0DEBEEF#32 with cfg := { base.cfg with place := [(1, ⟨true, 0x10040000, 0x40000, 0⟩)] } }
    let c : Nat := 1
    let rs1 : Nat := 5
    let imm : Nat := 16380
    let ecc : Nat := 0
    let a : Nat := 268697856
    (s.fetches c) ∧ ((s.g c rs1 + ((BitVec.ofNat 14 imm).signExtend 32)).toNat = a) ∧ (a % 4 = 0) ∧ (s.permits c a F.CPU_RBASE_W = true) ∧ (c < 5) ∧ (0x10000000 ≤ a) ∧ (a < 0x10800000) ∧ (ecc < 3)) ∧
    (let s : State := coreBase 0 (BitVec.ofNat 32 (Reg.addr .CHK_CFG 3 0 0)) 0x12345678#32
    let c : Nat := 0
    let rs1 : Nat := 5
    let imm : Nat := 4
    let a : Nat := Reg.addr .CHK_DID 3 0 0
    (s.fetches c) ∧ ((s.g c rs1 + ((BitVec.ofNat 14 imm).signExtend 32)).toNat = a) ∧ (a % 4 = 0) ∧ (s.permits c a F.CPU_RBASE_W = true) ∧ (s.reaches c a = true) ∧ (c ≠ 6) ∧ (0x40000000 ≤ a)) ∧
    (let s : State := coreBase 1 0x08020104 0xC0DEBEEF#32
    let c : Nat := 1
    let rs1 : Nat := 5
    let imm : Nat := 16380
    let ecc : Nat := 0
    let a : Nat := 134349056
    (s.fetches c) ∧ ((s.g c rs1 + ((BitVec.ofNat 14 imm).signExtend 32)).toNat = a) ∧ (a % 2 = 0) ∧ (s.permits c a F.CPU_RBASE_W = true) ∧ (s.reaches c a = true) ∧ (inLocal c a = true) ∧ (s.wordBad (physAt c a) = false) ∧ (ecc < 3)) ∧
    (let s : State := { coreBase 1 0x10040104 0xC0DEBEEF#32 with cfg := { base.cfg with place := [(1, ⟨true, 0x10040000, 0x40000, 0⟩)] } }
    let c : Nat := 1
    let rs1 : Nat := 5
    let imm : Nat := 16380
    let ecc : Nat := 0
    let a : Nat := 268697856
    (s.fetches c) ∧ ((s.g c rs1 + ((BitVec.ofNat 14 imm).signExtend 32)).toNat = a) ∧ (a % 2 = 0) ∧ (s.permits c a F.CPU_RBASE_W = true) ∧ (c < 5) ∧ (0x10000000 ≤ a) ∧ (a < 0x10800000) ∧ (ecc < 3)) ∧
    (let s : State := coreBase 1 0x08020104 0xC0DEBEEF#32
    let c : Nat := 1
    let rs1 : Nat := 5
    let imm : Nat := 16380
    let ecc : Nat := 0
    let a : Nat := 134349056
    (s.fetches c) ∧ ((s.g c rs1 + ((BitVec.ofNat 14 imm).signExtend 32)).toNat = a) ∧ (a % 1 = 0) ∧ (s.permits c a F.CPU_RBASE_W = true) ∧ (s.reaches c a = true) ∧ (inLocal c a = true) ∧ (s.wordBad (physAt c a) = false) ∧ (ecc < 3)) ∧
    (let s : State := { coreBase 1 0x10040104 0xC0DEBEEF#32 with cfg := { base.cfg with place := [(1, ⟨true, 0x10040000, 0x40000, 0⟩)] } }
    let c : Nat := 1
    let rs1 : Nat := 5
    let imm : Nat := 16380
    let ecc : Nat := 0
    let a : Nat := 268697856
    (s.fetches c) ∧ ((s.g c rs1 + ((BitVec.ofNat 14 imm).signExtend 32)).toNat = a) ∧ (a % 1 = 0) ∧ (s.permits c a F.CPU_RBASE_W = true) ∧ (c < 5) ∧ (0x10000000 ≤ a) ∧ (a < 0x10800000) ∧ (ecc < 3)) ∧
    (let s : State := (coreBase 1 0x08020104 0xC0DEBEEF#32).wr32 0x201020104 0x89ABFDEC#32
    let c : Nat := 1
    let rs1 : Nat := 5
    let func : Nat := 0
    let ecc : Nat := 0
    let a : Nat := 0x08020104
    (s.fetches c) ∧ (func % 512 = 0) ∧ ((s.g c rs1).toNat = a) ∧ (a % 4 = 0) ∧ (amoPlace c a = true) ∧ (s.permits c a F.CPU_RBASE_R = true) ∧ (s.permits c a F.CPU_RBASE_W = true) ∧ (s.wordBad (physAt c a) = false) ∧ (inLocal c a = true) ∧ (ecc < 3)) ∧
    (let s : State := { (coreBase 1 0x10040104 0xC0DEBEEF#32).wr32 0x10040104 0x89ABFDEC#32 with cfg := { base.cfg with place := [(1, ⟨true, 0x10040000, 0x40000, 0⟩)] } }
    let c : Nat := 1
    let rs1 : Nat := 5
    let func : Nat := 0
    let ecc : Nat := 0
    let a : Nat := 0x10040104
    (s.fetches c) ∧ (func % 512 = 0) ∧ ((s.g c rs1).toNat = a) ∧ (a % 4 = 0) ∧ (c < 5) ∧ (0x10000000 ≤ a) ∧ (a < 0x10800000) ∧ (s.permits c a F.CPU_RBASE_R = true) ∧ (s.permits c a F.CPU_RBASE_W = true) ∧ (s.wordBad a = false) ∧ (ecc < 3)) ∧
    (let s : State := (coreBase 1 0x08020104 0xC0DEBEEF#32).wr32 0x201020104 0x89ABFDEC#32
    let c : Nat := 1
    let rs1 : Nat := 5
    let func : Nat := 0
    let ecc : Nat := 0
    let a : Nat := 0x08020104
    (s.fetches c) ∧ (func % 512 = 0) ∧ ((s.g c rs1).toNat = a) ∧ (a % 4 = 0) ∧ (amoPlace c a = true) ∧ (s.permits c a F.CPU_RBASE_R = true) ∧ (s.permits c a F.CPU_RBASE_W = true) ∧ (s.wordBad (physAt c a) = false) ∧ (inLocal c a = true) ∧ (ecc < 3)) ∧
    (let s : State := { (coreBase 1 0x10040104 0xC0DEBEEF#32).wr32 0x10040104 0x89ABFDEC#32 with cfg := { base.cfg with place := [(1, ⟨true, 0x10040000, 0x40000, 0⟩)] } }
    let c : Nat := 1
    let rs1 : Nat := 5
    let func : Nat := 0
    let ecc : Nat := 0
    let a : Nat := 0x10040104
    (s.fetches c) ∧ (func % 512 = 0) ∧ ((s.g c rs1).toNat = a) ∧ (a % 4 = 0) ∧ (c < 5) ∧ (0x10000000 ≤ a) ∧ (a < 0x10800000) ∧ (s.permits c a F.CPU_RBASE_R = true) ∧ (s.permits c a F.CPU_RBASE_W = true) ∧ (s.wordBad a = false) ∧ (ecc < 3)) := by
  refine ⟨?_, ?_, ?_, ?_, ?_, ?_, ?_, ?_, ?_, ?_, ?_⟩ <;> decide +kernel

theorem witness_AccessesThatTrap :
    (let s : State := coreBase 1 0x08020101 0
    let c : Nat := 1
    let rs1 : Nat := 5
    let imm : Nat := 0
    let a : Nat := 0x08020101
    (s.fetches c) ∧ ((s.g c rs1 + ((BitVec.ofNat 14 imm).signExtend 32)).toNat = a) ∧ (a % 4 ≠ 0)) ∧
    (let s : State := coreBase 1 0x08020101 0
    let c : Nat := 1
    let rs1 : Nat := 5
    let imm : Nat := 0
    let a : Nat := 0x08020101
    (s.fetches c) ∧ ((s.g c rs1 + ((BitVec.ofNat 14 imm).signExtend 32)).toNat = a) ∧ (a % 2 ≠ 0)) ∧
    (let s : State := coreBase 1 0x08020101 0
    let c : Nat := 1
    let rs1 : Nat := 5
    let imm : Nat := 0
    let a : Nat := 0x08020101
    (s.fetches c) ∧ ((s.g c rs1 + ((BitVec.ofNat 14 imm).signExtend 32)).toNat = a) ∧ (a % 2 ≠ 0)) ∧
    (let s : State := coreBase 5 0x10000000 0
    let c : Nat := 5
    let rs1 : Nat := 5
    let imm : Nat := 0
    let a : Nat := 0x10000000
    (s.fetches c) ∧ ((s.g c rs1 + ((BitVec.ofNat 14 imm).signExtend 32)).toNat = a) ∧ (¬(s.permits c a F.CPU_RBASE_R = true ∧ s.reaches c a = true))) ∧
    (let s : State := coreBase 5 0x10000000 0
    let c : Nat := 5
    let rs1 : Nat := 5
    let imm : Nat := 0
    let a : Nat := 0x10000000
    (s.fetches c) ∧ ((s.g c rs1 + ((BitVec.ofNat 14 imm).signExtend 32)).toNat = a) ∧ (¬(s.permits c a F.CPU_RBASE_R = true ∧ s.reaches c a = true))) ∧
    (let s : State := coreBase 1 0x08020101 0
    let c : Nat := 1
    let rs1 : Nat := 5
    let imm : Nat := 0
    let a : Nat := 0x08020101
    (s.fetches c) ∧ ((s.g c rs1 + ((BitVec.ofNat 14 imm).signExtend 32)).toNat = a) ∧ (a % 4 ≠ 0)) ∧
    (let s : State := coreBase 1 0x08020101 0
    let c : Nat := 1
    let rs1 : Nat := 5
    let imm : Nat := 0
    let a : Nat := 0x08020101
    (s.fetches c) ∧ ((s.g c rs1 + ((BitVec.ofNat 14 imm).signExtend 32)).toNat = a) ∧ (a % 2 ≠ 0)) ∧
    (let s : State := coreBase 5 0x10000000 0
    let c : Nat := 5
    let rs1 : Nat := 5
    let imm : Nat := 0
    let a : Nat := 0x10000000
    (s.fetches c) ∧ ((s.g c rs1 + ((BitVec.ofNat 14 imm).signExtend 32)).toNat = a) ∧ (¬(s.permits c a F.CPU_RBASE_W = true ∧ s.reaches c a = true))) ∧
    (let s : State := { coreBase 1 0x08020104 0 with cpu := { (coreBase 1 0x08020104 0).cpu with bad := [0x201020100] } }
    let c : Nat := 1
    let rs1 : Nat := 5
    let imm : Nat := 0
    let a : Nat := 0x08020104
    (s.fetches c) ∧ ((s.g c rs1 + ((BitVec.ofNat 14 imm).signExtend 32)).toNat = a) ∧ (a % 4 = 0) ∧ (s.permits c a F.CPU_RBASE_R = true) ∧ (s.reaches c a = true) ∧ (isRam c a = true) ∧ (s.wordBad (physAt c a) = true)) ∧
    (let s : State := coreBase 1 0x08000104 0
    let c : Nat := 1
    let rs1 : Nat := 5
    let func : Nat := 0
    let a : Nat := 0x08000104
    (s.fetches c) ∧ (func % 512 = 0) ∧ ((s.g c rs1).toNat = a) ∧ (a % 4 = 0) ∧ (amoPlace c a = false)) ∧
    (let s : State := coreBase 1 0x08000104 0
    let c : Nat := 1
    let rs1 : Nat := 5
    let func : Nat := 0
    let a : Nat := 0x08000104
    (s.fetches c) ∧ (func % 512 = 0) ∧ ((s.g c rs1).toNat = a) ∧ (a % 4 = 0) ∧ (amoPlace c a = false)) := by
  refine ⟨?_, ?_, ?_, ?_, ?_, ?_, ?_, ?_, ?_, ?_, ?_⟩ <;> decide +kernel

theorem witness_BranchesAndJumpsComplete :
    (let s : State := coreBase 0 0 9
    let c : Nat := 0
    (s.fetches c)) ∧
    (let s : State := coreBase 0 0 9
    let c : Nat := 0
    (s.fetches c)) ∧
    (let s : State := coreBase 1 0 9
    let c : Nat := 1
    (s.fetches c)) ∧
    (let s : State := coreBase 1 0 9
    let c : Nat := 1
    (s.fetches c)) ∧
    (let s : State := coreBase 1 0x08000200 9
    let c : Nat := 1
    let rd : Nat := 0
    let rs1 : Nat := 5
    let imm : Nat := 16380
    let p : Word := 0x080001FC#32
    (s.fetches c) ∧ (rd % 32 = 0) ∧ (s.g c rs1 + ((BitVec.ofNat 14 imm).signExtend 32) = p) ∧ (p.toNat % 4 = 0)) ∧
    (let s : State := coreBase 1 0x08000200 9
    let c : Nat := 1
    let rd : Nat := 0
    let rs1 : Nat := 5
    let imm : Nat := 16380
    let p : Word := 0x080001FC#32
    (s.fetches c) ∧ (rd % 32 = 0) ∧ (s.g c rs1 + ((BitVec.ofNat 14 imm).signExtend 32) = p) ∧ (p.toNat % 4 = 0)) ∧
    (let s : State := coreBase 1 0x08000202 9
    let c : Nat := 1
    let rd : Nat := 0
    let rs1 : Nat := 5
    let imm : Nat := 16380
    let p : Word := 0x080001FE#32
    (s.fetches c) ∧ (rd % 32 = 0) ∧ (s.g c rs1 + ((BitVec.ofNat 14 imm).signExtend 32) = p) ∧ (p.toNat % 4 ≠ 0)) ∧
    (let s : State := coreBase 1 0x08000202 9
    let c : Nat := 1
    let rd : Nat := 0
    let rs1 : Nat := 5
    let imm : Nat := 16380
    let p : Word := 0x080001FE#32
    (s.fetches c) ∧ (rd % 32 = 0) ∧ (s.g c rs1 + ((BitVec.ofNat 14 imm).signExtend 32) = p) ∧ (p.toNat % 4 ≠ 0)) := by
  refine ⟨?_, ?_, ?_, ?_, ?_, ?_, ?_, ?_⟩ <;> decide +kernel

theorem witness_SystemWordsAndEventsComplete :
    (let s : State := coreBase 1 77 9
    let c : Nat := 1
    let rs1 : Nat := 0
    let imm : Nat := 9
    (s.fetches c) ∧ (rs1 % 32 = 0) ∧ (imm < 256) ∧ (s.super c = true ∨ imm = 0x07 ∨ imm = 0x08 ∨ imm = 0x0A ∨ imm = 0x0B)) ∧
    (let s : State := coreBase 1 77 9
    let c : Nat := 1
    let rd : Nat := 0
    let imm : Nat := 9
    (s.fetches c) ∧ (rd % 32 = 0) ∧ (imm < 256) ∧ (s.super c = true ∨ imm = 0x0C)) ∧
    (let s : State := ((((coreBase 1 77 9).put F.CPU_STATUS_MODE 0 1).put F.CPU_RBASE_EN 1 1 0).put F.CPU_RBASE_X 1 1 0).put F.CPU_RLIM_LIMIT 0x7FFFFFF 1 0
    let c : Nat := 1
    let rs1 : Nat := 0
    let imm : Nat := 9
    (s.fetches c) ∧ (rs1 % 32 = 0) ∧ (imm < 256) ∧ (s.super c = false) ∧ (imm ≠ 0x07 ∧ imm ≠ 0x08 ∧ imm ≠ 0x0A ∧ imm ≠ 0x0B)) ∧
    (let s : State := ((((coreBase 1 77 9).put F.CPU_STATUS_MODE 0 1).put F.CPU_RBASE_EN 1 1 0).put F.CPU_RBASE_X 1 1 0).put F.CPU_RLIM_LIMIT 0x7FFFFFF 1 0
    let c : Nat := 1
    let rd : Nat := 0
    let imm : Nat := 9
    (s.fetches c) ∧ (rd % 32 = 0) ∧ (imm < 256) ∧ (s.super c = false) ∧ (imm ≠ 0x0C)) ∧
    (let s : State := coreBase 1 77 9
    let c : Nat := 1
    let rd : Nat := 0
    let rs1 : Nat := 0
    (s.fetches c) ∧ (rd % 32 = 0) ∧ (rs1 % 32 = 0)) ∧
    (let s : State := coreBase 1 77 9
    let c : Nat := 1
    let rd : Nat := 0
    let rs1 : Nat := 0
    let imm : Nat := 0
    (s.fetches c) ∧ (noFields rd rs1 imm = true)) ∧
    (let s : State := coreBase 1 77 9
    let c : Nat := 1
    let rd : Nat := 0
    let rs1 : Nat := 0
    let imm : Nat := 0
    (s.fetches c) ∧ (noFields rd rs1 imm = true) ∧ (s.super c = true)) ∧
    (let s : State := ((((coreBase 1 77 9).put F.CPU_STATUS_MODE 0 1).put F.CPU_RBASE_EN 1 1 0).put F.CPU_RBASE_X 1 1 0).put F.CPU_RLIM_LIMIT 0x7FFFFFF 1 0
    let c : Nat := 1
    let rd : Nat := 0
    let rs1 : Nat := 0
    let imm : Nat := 0
    (s.fetches c) ∧ (noFields rd rs1 imm = true) ∧ (s.super c = false)) ∧
    (let s : State := coreBase 5 77 9
    let c : Nat := 5
    let rd : Nat := 0
    let rs1 : Nat := 0
    let imm : Nat := 0
    (s.fetches c) ∧ (noFields rd rs1 imm = true)) ∧
    (let s : State := coreBase 5 77 9
    let c : Nat := 5
    let n : Nat := 4
    let rd : Nat := 0
    let rs1 : Nat := 0
    let imm : Nat := 0
    (s.fetches c) ∧ (noFields rd rs1 imm = true) ∧ (s.coreQueue c = some n)) ∧
    (let s : State := ((coreBase 0 77 9).event 0 3 1 7 8 9).put F.CPU_STATUS_IE 1 0
    let c : Nat := 0
    let n : Nat := 0
    (s.coreLive c = true) ∧ (s.coreQueue c = some n) ∧ ((s.queue n).entries ≠ []) ∧ (s.get F.CPU_STATUS_IE c = 1) ∧ (s.get F.CPU_STATUS_EXL c = 0)) ∧
    (let s : State := ((coreBase 0 77 9).event 0 3 1 7 8 9).setCore 0 { (coreBase 0 77 9).core 0 with run := .waiting }
    let c : Nat := 0
    let n : Nat := 0
    (s.coreQueue c = some n) ∧ ((s.core c).run = .waiting) ∧ ((s.core c).halted = false) ∧ ((s.queue n).entries ≠ []) ∧ (s.pwr ≠ 1 ∨ c = 5) ∧ (s.get F.CPU_STATUS_IE c = 0)) ∧
    (let s : State := coreBase 0 77 9
    let c : Nat := 0
    let n : Nat := 0
    let target : Nat := 0xD
    let k : Nat := 2
    (s.coreLive c = true) ∧ (c ≠ 6) ∧ (s.coreQueue c = some n) ∧ (k < 4) ∧ (bit target k = true) ∧ (s.running k = true) ∧ (s.room k) ∧ (k ≠ n)) ∧
    (let s : State := (((coreBase 0 77 9).event 0 3 1 7 8 9).event 0 4 2 5 6 7)
    let c : Nat := 0
    let n : Nat := 0
    let e : Event := ⟨3, 1, 7, 8, 9, 0, false, false⟩
    let es : List Event := [⟨4, 2, 5, 6, 7, 0, false, false⟩]
    (s.coreLive c = true) ∧ (s.coreQueue c = some n) ∧ ((s.queue n).entries = e :: es) ∧ (s.bus.snaps.all (fun x => !(x.init = s.coreInit c && x.reg = .CPU_EVQ && x.i = c)) = true)) ∧
    (let s : State := (((coreBase 0 77 9).event 0 3 1 7 8 9).event 0 4 2 5 6 7)
    let c : Nat := 0
    let n : Nat := 0
    let e : Event := ⟨3, 1, 7, 8, 9, 0, false, false⟩
    let e1 : Event := ⟨4, 2, 5, 6, 7, 0, false, false⟩
    let es : List Event := []
    (s.coreLive c = true) ∧ (s.coreQueue c = some n) ∧ ((s.queue n).entries = e :: e1 :: es)) := by
  refine ⟨?_, ?_, ?_, ?_, ?_, ?_, ?_, ?_, ?_, ?_, ?_, ?_, ?_, ?_, ?_⟩ <;> decide +kernel

theorem witness_ShortPairsComplete_1 :
    let s := coreBase 0 7#32 9#32
    s.fetches 0 ∧ slotReserved (encSlot 1 8 5 % 2 ^ 15) = false ∧ slotMem (encSlot 1 8 5 % 2 ^ 15) = false ∧
      slotDest (encSlot 1 8 5 % 2 ^ 15) ≠ some (5 % 32) := by decide +kernel
theorem witness_ShortPairsComplete_2 :
    let s := (coreBase 1 7#32 0x08020104#32).setG 1 30 0x080200E0#32
    s.fetches 1 ∧ slotReserved 0 = false ∧ slotMem 0 = false ∧ 0x08020104 % 4 = 0 ∧ s.reaches 1 0x08020104 = true ∧
      s.wordBad (physAt 1 0x08020104) = false ∧ inLocal 1 0x08020104 = true ∧ isRam 1 0x08020104 = true ∧
      s.permits 1 0x08020104 F.CPU_RBASE_R = true ∧ s.permits 1 0x08020104 F.CPU_RBASE_W = true ∧ slotDest 0 = none ∧
      (s.g 1 6).toNat = 0x08020104 ∧ (s.g 1 30 + BitVec.ofNat 32 (4 * (9 % 32))).toNat = 0x08020104 := by decide +kernel
theorem witness_ShortPairsComplete_3 :
    let s := coreBase 0 7#32 9#32
    s.fetches 0 ∧ slotReserved (encSlot 0x12 8 9 % 2 ^ 15) = false ∧ slotMem (encSlot 0x12 8 9 % 2 ^ 15) = true := by decide +kernel

theorem witness_StepRunsTheFrontCommand_1 :
    ({ base with pending := [.jtagBypass, .jtagIdcode] } : State).pending = .jtagBypass :: [.jtagIdcode] := by decide +kernel
theorem witness_StepRunsTheFrontCommand_2 : base.pending = [] := by decide +kernel

theorem witness_CanonicalFormIsKept :
    let s : State := { base with pending := [.jtagIdcode] }
    s.canonical ∧ ∃ t, step s = .next t := ⟨by unfold State.canonical; decide +kernel, _, rfl⟩

theorem witness_AddressMapIsOneToOne_1 : Reg.valid .CAN_FIFO 9 0 = true ∧ 23 < (Reg.geom .CAN_FIFO).words := by decide +kernel
theorem witness_AddressMapIsOneToOne_2 :
    Reg.valid .PSW_CFG 71 0 = true ∧ 0 < (Reg.geom .PSW_CFG).words ∧ Reg.valid .PSW_CFG 59 0 = true ∧
      ((.PSW_CFG, 71, 0, 0) : Reg × Nat × Nat × Nat) ≠ (.PSW_CFG, 59, 0, 0) := by decide +kernel

theorem witness_TakingATrap_1 :
    let s := coreBase 0 7#32 9#32
    s.get F.CPU_STATUS_EXL 0 = 0 ∧ (11 < 12) ∧ (3 < 4) ∧ (0x08000100#32).toNat % 4 = 0 := by decide +kernel
theorem witness_TakingATrap_2 :
    let s := (coreBase 0 7#32 9#32).put F.CPU_STATUS_EXL 1 0
    s.get F.CPU_STATUS_EXL 0 = 1 ∧ 0 < 5 ∧ s.partOn 0 = some 0 := by decide +kernel

theorem witness_GeneralRegisters : 0 < 31 ∧ 31 < 32 ∧ 30 < 32 ∧ 30 ≠ 31 := by decide

theorem witness_DivisionNeverTraps_1 :
    let s := coreBase 4 0x80000000#32 0xFFFFFFFF#32
    4 < 5 ∧ { s with cfg := s.cfg }.g 4 5 = 0x80000000#32 ∧ s.g 4 6 = 0xFFFFFFFF#32 := by decide +kernel
theorem witness_DivisionNeverTraps_2 :
    let s := coreBase 1 7#32 0#32
    1 < 5 ∧ s.fetches 1 ∧ s.g 1 6 = 0 := by decide +kernel
theorem witness_DivisionNeverTraps_3 :
    let s := coreBase 1 0x80000000#32 0xFFFFFFFF#32
    s.fetches 1 ∧ s.g 1 5 = 0x80000000#32 ∧ s.g 1 6 = 0xFFFFFFFF#32 := by decide +kernel

theorem witness_MisalignedAccessesTrap_1 :
    let s := coreBase 1 0x08020101#32 0x08020102#32
    s.fetches 1 ∧ (s.g 1 5 + (BitVec.ofNat 14 0).signExtend 32).toNat = 0x08020101 ∧ 0x08020101 % 2 ≠ 0 ∧
      (s.g 1 6).toNat = 0x08020102 ∧ 0x08020102 % 4 ≠ 0 ∧ slotReserved (0 % 2 ^ 15) = false ∧ slotMem (0 % 2 ^ 15) = false ∧
      slotDest (0 % 2 ^ 15) = none := by decide +kernel
theorem witness_MisalignedAccessesTrap_2 :
    let s := (coreBase 1 7#32 9#32).setG 1 30 0x08020103#32
    s.fetches 1 ∧ (s.g 1 30 + BitVec.ofNat 32 (4 * (31 % 32))).toNat = 0x0802017F ∧ 0x0802017F % 4 ≠ 0 ∧
      slotReserved (encSlot 1 8 5 % 2 ^ 15) = false ∧ slotMem (encSlot 1 8 5 % 2 ^ 15) = false ∧
      slotDest (encSlot 1 8 5 % 2 ^ 15) ≠ some (7 % 32) := by decide +kernel

theorem witness_FullQueueDropsEvents_1 :
    let s := base.setQueue 4 ⟨List.replicate 64 ⟨13, 3, 0, 0, 0, 0, false, false⟩, 0, false⟩
    ¬s.room 4 := by decide +kernel
theorem witness_FullQueueDropsEvents_2 :
    let s := base.setQueue 0 ⟨[⟨13, 3, 0, 0, 0, 0, false, false⟩], 5, true⟩
    s.room 0 ∧ (s.queue 0).ovfNext = true ∧ s.coreQueue 0 = some 0 := by decide +kernel

theorem witness_SnapshotsHoldAWideRegister_1 :
    base.carries 0x40000000 ∧ 0x40000000 % 4 = 0 ∧ regAt 0x40000000 = some (.TIM_T0, 0, 0, 0) ∧ Reg.wide .TIM_T0 = true := by
  decide +kernel
theorem witness_SnapshotsHoldAWideRegister_2 :
    let s := base.readBy (.part 0) 0x40000000
    s.carries 0x40000004 ∧ regAt 0x40000004 = some (.TIM_T0, 0, 0, 1) ∧ 1 + 1 < (Reg.geom .TIM_T0).words ∧
      s.snapOf (.part 0) .TIM_T0 0 0 = some ⟨.part 0, .TIM_T0, 0, 0, t0Words 64000000000, 64000000000⟩ := by decide +kernel
theorem witness_SnapshotsHoldAWideRegister_3 :
    let s := base.readBy (.part 0) 0x40000000
    s.carries 0x40000008 ∧ regAt 0x40000008 = some (.TIM_T0, 0, 0, 2) ∧ 2 + 1 = (Reg.geom .TIM_T0).words ∧
      (s.snapOf (.part 0) .TIM_T0 0 0).isSome = true := by decide +kernel
theorem witness_SnapshotsHoldAWideRegister_4 :
    base.carries 0x40000004 ∧ regAt 0x40000004 = some (.TIM_T0, 0, 0, 1) ∧ 0 < 1 ∧ base.snapOf (.part 0) .TIM_T0 0 0 = none := by
  decide +kernel

theorem witness_NetworkAndPlaneCommandsStayInTheirPart :
    (let s : State := base
    let k : Nat := 0
    (lightBits.all (fun m => !s.follows m k || (s.led m).heldActs.isEmpty) = true)) := by
  decide +kernel

end Sys2Proof.Tests
end

section
/-! What the accesses of an initiator over the fabric do: the address map, the counters, and the answers of the commands. -/

namespace Sys2Proof.Machine

/-! ### Commands and their answers -/

/-- A state whose queue of waiting commands is another one. -/
def State.withPending (t : State) (q : List Instr) : State := { t with pending := q }

/-- A command that ends in a state answers it with the queue of waiting commands as it was. -/
theorem Answers.of_ends {c : Instr} {s : State} {P : State → Prop} (t : State) (he : exec c s = s.ends t)
    (hp : P (t.withPending s.pending)) : Answers c s P := ⟨_, he, hp⟩

theorem State.withPending_pending (t : State) : t.withPending t.pending = t := rfl

@[simp] theorem State.withPending_word (t : State) (q : List Instr) (r : Reg) (i j w : Nat) :
    (t.withPending q).word r i j w = t.word r i j w := rfl
@[simp] theorem State.withPending_get (t : State) (q : List Instr) (f : Fld) (i j : Nat) :
    (t.withPending q).get f i j = t.get f i j := rfl
@[simp] theorem State.withPending_oneMore (t s : State) (q : List Instr) (f : Fld) (i j : Nat) :
    (t.withPending q).oneMore s f i j ↔ t.oneMore s f i j := Iff.rfl
@[simp] theorem State.withPending_queue (t : State) (q : List Instr) (n : Nat) :
    (t.withPending q).queue n = t.queue n := rfl
@[simp] theorem State.withPending_readData (t : State) (q : List Instr) (init : Init) :
    (t.withPending q).readData init = t.readData init := rfl
@[simp] theorem State.withPending_bus (t : State) (q : List Instr) : (t.withPending q).bus = t.bus := rfl
@[simp] theorem State.withPending_regs (t : State) (q : List Instr) : (t.withPending q).regs = t.regs := rfl

/-! ### The address map -/

theorem Reg.block_of_mem_ofBlock : ∀ k < 18, ∀ r ∈ Reg.ofBlock k, r.block = k := by decide +kernel

theorem findIn_some {a : Nat} {rs : List Reg} {r : Reg} {i j w : Nat} (h : findIn a rs = some (r, i, j, w)) :
    r ∈ rs ∧ r.at_ a = some (i, j, w) := by
  induction rs with
  | nil => simp [findIn] at h
  | cons x xs ih =>
    unfold findIn at h
    split at h
    · next i' j' w' hx =>
      obtain ⟨rfl, rfl, rfl, rfl⟩ : x = r ∧ i' = i ∧ j' = j ∧ w' = w := by simpa using h
      exact ⟨List.mem_cons_self, hx⟩
    · exact ⟨List.mem_cons_of_mem _ (ih h).1, (ih h).2⟩

/-- The index that an offset gives, times its stride, does not pass the offset. -/
theorem strideIndex_mul_le (n o st : Nat) : (if n = 1 then 0 else o / st) * st ≤ o := by
  split
  · simp
  · exact Nat.div_mul_le_self o st

theorem Reg.addr_of_at {r : Reg} {a i j w : Nat} (h : r.at_ a = some (i, j, w)) : r.addr i j w = a := by
  simp only [Reg.at_, Option.ite_none_left_eq_some, Option.ite_none_right_eq_some, Option.some.injEq, Prod.mk.injEq,
    Bool.and_eq_true, decide_eq_true_eq, beq_iff_eq] at h
  obtain ⟨hbase, ⟨⟨-, haligned⟩, -⟩, hi, hj, hw⟩ := h
  have hi' := strideIndex_mul_le r.geom.n1 (a - r.geom.base) r.geom.s1
  rw [hi] at hi' hj hw haligned
  have hj' := strideIndex_mul_le r.geom.n2 (a - r.geom.base - i * r.geom.s1) r.geom.s2
  rw [hj] at hj' hw haligned
  rw [Reg.addr, Nat.mul_comm r.geom.s1, Nat.mul_comm r.geom.s2]
  omega

theorem inBlocks_iff {a : Nat} : inBlocks a = true ↔ 0x40000000 ≤ a ∧ a < 0x41100000 := by simp [inBlocks]

theorem blockOf_lt {a : Nat} (h : inBlocks a = true) : blockOf a < 17 := by
  rw [inBlocks_iff] at h
  unfold blockOf
  omega

theorem regAt_some {a : Nat} {r : Reg} {i j w : Nat} (hb : inBlocks a = true) (h : regAt a = some (r, i, j, w)) :
    r.block = blockOf a ∧ r.addr i j w = a := by
  have hk := blockOf_lt hb
  rw [inBlocks_iff] at hb
  unfold regAt at h
  rw [if_neg (by omega), if_pos (by omega)] at h
  obtain ⟨hmem, hat⟩ := findIn_some h
  exact ⟨Reg.block_of_mem_ofBlock _ (Nat.lt_succ_of_lt hk) r hmem, Reg.addr_of_at hat⟩

/-! ### Accesses that the fabric carries to a block -/

theorem inRetention_of_inBlocks {a : Nat} (h : inBlocks a = true) : inRetention a = false := by
  rw [inBlocks_iff] at h
  simp only [inRetention, Bool.and_eq_false_iff, decide_eq_false_iff_not]
  omega

theorem word_aligned {a : Nat} (h : a % 4 = 0) : a / 4 * 4 = a := by omega

theorem State.busRead_register {s : State} {a i j w : Nat} {r : Reg} (init : Init) (hc : s.carries a) (h4 : a % 4 = 0)
    (hr : regAt a = some (r, i, j, w)) : s.busRead init a = s.regRead init r i j w := by
  obtain ⟨hfab, hin, hon, hst, hpg⟩ := hc
  simp [State.busRead, word_aligned h4, hfab, hin, hon, hst, hpg, hr, inRetention_of_inBlocks hin]

theorem State.busRead_unmapped {s : State} {a : Nat} (init : Init) (hc : s.carries a) (h4 : a % 4 = 0)
    (hr : regAt a = none) : s.busRead init a = (s.accErr (blockOf a), 0) := by
  obtain ⟨hfab, hin, hon, hst, hpg⟩ := hc
  simp [State.busRead, word_aligned h4, hfab, hin, hon, hst, hpg, hr, inRetention_of_inBlocks hin]

theorem State.busWrite_register {s : State} {a i j w : Nat} {r : Reg} (init : Init) (v : Word) (hc : s.carries a)
    (h4 : a % 4 = 0) (hr : regAt a = some (r, i, j, w)) : s.busWrite init a v = s.regWrite init r i j w v := by
  obtain ⟨hfab, hin, hon, hst, hpg⟩ := hc
  simp [State.busWrite, word_aligned h4, hfab, hin, hon, hst, hpg, hr, inRetention_of_inBlocks hin]

theorem State.busWrite_unmapped {s : State} {a : Nat} (init : Init) (v : Word) (hc : s.carries a) (h4 : a % 4 = 0)
    (hr : regAt a = none) : s.busWrite init a v = s.accErr (blockOf a) := by
  obtain ⟨hfab, hin, hon, hst, hpg⟩ := hc
  simp [State.busWrite, word_aligned h4, hfab, hin, hon, hst, hpg, hr, inRetention_of_inBlocks hin]


/-! ### Error counters -/

theorem State.word_put_ne (s : State) (f : Fld) (v i j : Nat) (r : Reg) (i' j' w' : Nat)
    (h : f.reg.addr i j f.word ≠ r.addr i' j' w') : (s.put f v i j).word r i' j' w' = s.word r i' j' w' :=
  State.word_setWord_ne _ _ _ _ _ _ _ _ _ _ h

theorem State.word_bump_ne (s : State) (f : Fld) (i j : Nat) (r : Reg) (i' j' w' : Nat)
    (h : f.reg.addr i j f.word ≠ r.addr i' j' w') : (s.bump f i j).word r i' j' w' = s.word r i' j' w' := by
  rw [State.bump, State.bumpBy, State.word_put_ne _ _ _ _ _ _ _ _ _ h]
  rfl

theorem State.word_cum_ne (s : State) (n : Nat) (r : Reg) (i j w : Nat) (h : Reg.addr .ERR_CUM n 0 0 ≠ r.addr i j w) :
    (s.cum n).word r i j w = s.word r i j w :=
  State.word_bump_ne s F.ERR_CUM_COUNT n 0 r i j w h

/-- A counter of a block's error register is one up after its count and that of a cumulative counter. -/
theorem State.oneMore_bump_cum (s : State) (f : Fld) (k n : Nat) (hf : f.fits)
    (h : Reg.addr .ERR_CUM n 0 0 ≠ f.reg.addr k 0 f.word) : ((s.bump f k).cum n).oneMore s f k := by
  rw [State.oneMore, ← State.get_bump_same s f k 0 hf, State.get, State.get, State.word_cum_ne _ _ _ _ _ _ h]

theorem addr_cum_ne_blk0 (n : Nat) {k : Nat} (hk : k < 17) : Reg.addr .ERR_CUM n 0 0 ≠ Reg.addr .ERR_BLK0 k 0 0 := by
  simp only [Reg.addr, Reg.geom]
  omega

theorem State.accErr_oneMore (s : State) {k : Nat} (hk : k < 17) : (s.accErr k).oneMore s F.ERR_BLK0_ACCESS k :=
  State.oneMore_bump_cum s F.ERR_BLK0_ACCESS k 18 ⟨by decide, by decide⟩ (addr_cum_ne_blk0 18 hk)

theorem State.snapErr_oneMore (s : State) {k : Nat} (hk : k < 17) : (s.snapErr k).oneMore s F.ERR_BLK0_SNAP k := by
  rw [State.snapErr, if_pos hk]
  exact State.oneMore_bump_cum s F.ERR_BLK0_SNAP k 19 ⟨by decide, by decide⟩ (addr_cum_ne_blk0 19 hk)

/-! ### The event log and the register file -/

theorem State.word_logPush_ne (s : State) (e : LogEntry) (r : Reg) (i j w : Nat)
    (hs : Reg.addr .ERR_LOGSEQ 0 0 0 ≠ r.addr i j w) (hc : Reg.addr .ERR_CUM 26 0 0 ≠ r.addr i j w) :
    (s.logPush e).word r i j w = s.word r i j w := by
  unfold State.logPush
  split
  · rw [State.word, State.wrWords_regs]
    exact State.word_setWord_ne _ _ _ _ _ _ _ _ _ _ hs
  · exact State.word_cum_ne _ _ _ _ _ _ hc

theorem State.word_logPut_ne (s : State) (e : LogEntry) (r : Reg) (i j w : Nat)
    (hs : Reg.addr .ERR_LOGSEQ 0 0 0 ≠ r.addr i j w) (hc : Reg.addr .ERR_CUM 26 0 0 ≠ r.addr i j w) :
    (s.logPut e).word r i j w = s.word r i j w := by
  unfold State.logPut
  split
  · exact State.word_logPush_ne _ _ _ _ _ _ hs hc
  · rw [State.word_logPush_ne _ _ _ _ _ _ hs hc, State.word_logPush_ne _ _ _ _ _ _ hs hc]
    rfl

/-- A log entry changes no register word but ERR_LOGSEQ and the count of entries lost. -/
theorem State.word_logEntry_ne (s : State) (typ block item a0 a1 : Nat) (r : Reg) (i j w : Nat)
    (hs : Reg.addr .ERR_LOGSEQ 0 0 0 ≠ r.addr i j w) (hc : Reg.addr .ERR_CUM 26 0 0 ≠ r.addr i j w) :
    (s.logEntry typ block item a0 a1).word r i j w = s.word r i j w := by
  unfold State.logEntry
  dsimp only
  split
  · exact State.word_logPut_ne _ _ _ _ _ _ hs hc
  · rfl

/-! ### Events in a queue with room -/

theorem State.regs_event_room (s : State) (n block code item a0 a1 : Nat) (h : s.room n) :
    (s.event n block code item a0 a1).regs = s.regs := by
  rw [State.event, State.enqueue, if_pos h]
  rfl

theorem State.getLast_event_room (s : State) (n block code item a0 a1 : Nat) (h : s.room n) :
    ((s.event n block code item a0 a1).queue n).entries.getLast? =
      some ⟨block, code, item, a0 % 2 ^ 32, a1 % 2 ^ 32, s.evStamp n, false, (s.queue n).ovfNext⟩ := by
  rw [State.event, State.queue_enqueue_room s n _ h]
  simp

/-! ### Accesses into an island whose domain is off (R37, R492) -/

/-- The count and the log entry of an access into an island whose domain is off. -/
def State.offNoted (s : State) (init : Init) (a : Nat) : State :=
  ((s.bump F.ERR_BLK2_DOMOFF 15).cum 20).logEntry 3 15 0xFFFF a (initCode init)

theorem State.offRead_part (s : State) (n a : Nat) :
    s.offRead (.part n) a = (s.offNoted (.part n) a).event n 15 2 0xFFFF a := rfl

theorem State.offWrite_part (s : State) (n a : Nat) :
    s.offWrite (.part n) a = (s.offNoted (.part n) a).event n 15 5 0xFFFF a 6 := rfl

@[simp] theorem State.offNoted_ev (s : State) (init : Init) (a : Nat) : (s.offNoted init a).ev = s.ev := by
  simp [State.offNoted]

theorem State.offNoted_room {s : State} {init : Init} {a n : Nat} (h : s.room n) : (s.offNoted init a).room n := by
  rwa [State.room, State.queue_congr (State.offNoted_ev s init a)]

theorem State.offNoted_oneMore (s : State) (init : Init) (a : Nat) : (s.offNoted init a).oneMore s F.ERR_BLK2_DOMOFF 15 := by
  rw [State.oneMore, ← State.oneMore_bump_cum s F.ERR_BLK2_DOMOFF 15 20 ⟨by decide, by decide⟩ (by decide), State.get,
    State.get, State.offNoted, State.word_logEntry_ne _ _ _ _ _ _ _ _ _ _ (by decide) (by decide)]

/-- What an access of partition n into an island that is off leaves, with the event of the given code: one more count, and the
event as the last of the partition's queue. -/
theorem State.offNoted_event {s : State} {n a : Nat} (code a1 : Nat) (ha : inBlocks a = true) (hroom : s.room n)
    (h1 : a1 < 2 ^ 32) :
    ((s.offNoted (.part n) a).event n 15 code 0xFFFF a a1).oneMore s F.ERR_BLK2_DOMOFF 15 ∧
      (((s.offNoted (.part n) a).event n 15 code 0xFFFF a a1).queue n).entries.getLast?.map
        (fun e => (e.block, e.code, e.arg0, e.arg1)) = some (15, code, a, a1) := by
  have hr := State.offNoted_room (init := .part n) (a := a) hroom
  rw [inBlocks_iff] at ha
  constructor
  · rw [State.oneMore, State.get, State.word, State.regs_event_room _ _ _ _ _ _ _ hr]
    exact State.offNoted_oneMore s (.part n) a
  · rw [State.getLast_event_room _ _ _ _ _ _ _ hr]
    simp only [Option.map_some, Option.some.injEq, Prod.mk.injEq, true_and]
    exact ⟨Nat.mod_eq_of_lt (by omega), Nat.mod_eq_of_lt h1⟩

theorem State.busRead_off {s : State} {n a : Nat} (hfab : s.domOn domFAB = true) (h4 : a % 4 = 0)
    (hin : inBlocks a = true) (hoff : s.blockOn (blockOf a) = false) :
    s.busRead (.part n) a = (s.offRead (.part n) a, 0) := by
  simp [State.busRead, word_aligned h4, hfab, hin, hoff, State.aonAccess]

theorem State.busWrite_off {s : State} {n a : Nat} (v : Word) (hfab : s.domOn domFAB = true) (h4 : a % 4 = 0)
    (hin : inBlocks a = true) (hoff : s.blockOn (blockOf a) = false) :
    s.busWrite (.part n) a v = s.offWrite (.part n) a := by
  simp [State.busWrite, word_aligned h4, hfab, hin, hoff, State.aonAccess]

/-! ### Accesses to no region (R59) -/

theorem decoded_eq_false {a : Nat} (h : decoded a = false) :
    inBlocks a = false ∧ ¬ (0x10000000 ≤ a ∧ a < 0x10800000) := by
  simp only [decoded, Bool.or_eq_false_iff] at h
  obtain ⟨⟨⟨-, hsram⟩, -⟩, hin⟩ := h
  exact ⟨hin, by simpa using hsram⟩

theorem State.busRead_undecoded {s : State} {a : Nat} (init : Init) (hfab : s.domOn domFAB = true) (hd : decoded a = false)
    (hret : inRetention a = false) (h4 : a % 4 = 0) : s.busRead init a = (s.accErr 15, 0) := by
  simp [State.busRead, word_aligned h4, hfab, (decoded_eq_false hd).1, hret, hd]

theorem State.busWrite_undecoded {s : State} {a : Nat} (init : Init) (v : Word) (hfab : s.domOn domFAB = true)
    (hd : decoded a = false) (hret : inRetention a = false) (h4 : a % 4 = 0) : s.busWrite init a v = s.accErr 15 := by
  obtain ⟨hin, hsram⟩ := decoded_eq_false hd
  simp [State.busWrite, word_aligned h4, hfab, hin, hret, -not_and, hsram]

/-! ### The word that a read returns -/

@[simp] theorem State.returned_readData (p : State × Word) (init : Init) :
    (State.returned p init).readData init = some p.2 :=
  Sparse.get_set_same _ _ _

@[simp] theorem State.returned_get (p : State × Word) (init : Init) (f : Fld) (i j : Nat) :
    (State.returned p init).get f i j = p.1.get f i j := rfl
@[simp] theorem State.returned_oneMore (p : State × Word) (init : Init) (s : State) (f : Fld) (i j : Nat) :
    (State.returned p init).oneMore s f i j ↔ p.1.oneMore s f i j := Iff.rfl
@[simp] theorem State.returned_queue (p : State × Word) (init : Init) (n : Nat) :
    (State.returned p init).queue n = p.1.queue n := rfl

/-! ### Accesses without a target -/

/-- An access that is counted in a block's access class: a read of it answers zero. -/
theorem State.busAccess_counted {s : State} {init : Init} {a k : Nat} (hk : k < 17)
    (hread : s.busRead init a = (s.accErr k, 0)) (hwrite : ∀ v, s.busWrite init a v = s.accErr k) (v : Option Nat) :
    (s.busAccess init a v).oneMore s F.ERR_BLK0_ACCESS k ∧ (v = none → (s.busAccess init a v).readData init = some 0) := by
  have hcount := State.accErr_oneMore s hk
  cases v with
  | none => simpa [State.busAccess, State.readBy, hread] using hcount
  | some v => simpa [State.busAccess, hwrite] using hcount

/-- Settles O3: each access is followed to the one branch of the fabric that counts it. -/
theorem accessesWithoutATargetAreCounted : Obligations.AccessesWithoutATargetAreCounted := by
  refine ⟨?unmapped, ?undecoded, ?offRead, ?offWrite⟩
  case unmapped =>
    intro s init a v hc h4 hr
    have h := State.busAccess_counted (blockOf_lt hc.2.1) (State.busRead_unmapped init hc h4 hr)
      (fun v => State.busWrite_unmapped init v hc h4 hr) v
    exact .of_ends (s.busAccess init a v) rfl (by simpa using h)
  case undecoded =>
    intro s init a v hfab hd hret h4
    have h := State.busAccess_counted (by decide) (State.busRead_undecoded init hfab hd hret h4)
      (fun v => State.busWrite_undecoded init v hfab hd hret h4) v
    exact .of_ends (s.busAccess init a v) rfl (by simpa using h)
  case offRead =>
    intro s n a _ hfab h4 hin hoff hroom
    obtain ⟨hcount, hlast⟩ := State.offNoted_event 2 0 hin hroom (by decide)
    have hlast' := congrArg (Option.map fun e => (e.1, e.2.1, e.2.2.1)) hlast
    refine .of_ends (s.readBy (.part n) a) rfl ?_
    rw [State.readBy, State.busRead_off hfab h4 hin hoff, State.offRead_part]
    exact ⟨by simpa using hcount, by simp, by simpa using hlast'⟩
  case offWrite =>
    intro s n a v _ hfab h4 hin hoff hroom
    have h := State.offNoted_event 5 6 hin hroom (by decide)
    refine .of_ends (s.busWrite (.part n) a (BitVec.ofNat 32 v)) rfl ?_
    rw [State.busWrite_off _ hfab h4 hin hoff, State.offWrite_part]
    simpa using h

end Sys2Proof.Machine
end

section
/-! What a write of a register does under the ownership rule: staging, the access codes, the counted drop (R14, R28, R47). -/

namespace Sys2Proof.Machine

/-! ### The ownership rule -/

theorem State.owned_of_mayWrite {s : State} {init : Init} {r : Reg} {i : Nat} (j w : Nat) (act : State → State)
    (hfab : s.domOn domFAB = true) (hon : s.blockOn r.block = true) (hmay : s.mayWrite init r i = true) :
    s.owned init r i j w act = act s := by
  simp [State.owned, State.ownedAt, State.reaching, State.reachable, hfab, hon, hmay]

theorem State.owned_of_not_mayWrite {s : State} {init : Init} {r : Reg} {i : Nat} (j w : Nat) (act : State → State)
    (hfab : s.domOn domFAB = true) (hon : s.blockOn r.block = true) (hmay : s.mayWrite init r i = false) :
    s.owned init r i j w act = s.ownDrop init r i (r.addr i j w) := by
  simp [State.owned, State.ownedAt, State.reaching, State.reachable, hfab, hon, hmay]

/-! ### Registers without a write path of their own -/

/-- The registers whose write `State.regWrite` gives a path of its own. -/
def ownPathRegs : List Reg :=
  [.GWY_SIG, .SCH_RFXREL, .PSW_GCTL, .VLV_GCTL, .LGT_SYNC, .PSW_AGCTL, .VLV_AGCTL, .LGT_ASYNC, .PSW_MEMBER, .VLV_MEMBER,
    .LGT_MEMBER, .SCH_RULE]

theorem State.regWrite_plain (s : State) (init : Init) {r : Reg} (i j w : Nat) (v : Word) (hr : r ∉ ownPathRegs) :
    s.regWrite init r i j w v =
      s.owned init r i j w (fun t => if r.wide then t.wideWrite init r i j w v else t.wordWrite init r i j w v) := by
  unfold State.regWrite
  split <;> simp_all [ownPathRegs]

theorem not_mem_ownPathRegs_of_wide {r : Reg} (hw : r.wide = true) (hne : r ≠ .SCH_RULE) : r ∉ ownPathRegs := by
  have hall : ∀ r ∈ ownPathRegs, r.wide = true → r = .SCH_RULE := by decide
  exact fun h => hne (hall r h hw)

theorem not_mem_ownPathRegs_of_block {r : Reg} (hb : r.block = 11 ∨ r.block = 12) : r ∉ ownPathRegs := by
  have hall : ∀ r ∈ ownPathRegs, ¬ (r.block = 11 ∨ r.block = 12) := by decide
  exact fun h => hall r h hb

theorem State.regWrite_rule (s : State) (init : Init) (i j w : Nat) (v : Word) :
    s.regWrite init .SCH_RULE i j w v = s.owned init .SCH_RULE i j w (fun t => t.ruleWrite i w v) := rfl

theorem State.wordWrite_checkOrAccess (s : State) (init : Init) {r : Reg} (i j w : Nat) (v : Word)
    (hb : r.block = 11 ∨ r.block = 12) (hw : r.writable = true) :
    s.wordWrite init r i j w v = s.setWord r i j w (s.written r i j w v) := by
  rcases hb with hb | hb <;> simp [State.wordWrite, hb, State.plainWrite, hw]

/-! ### Staged words (R28) -/

theorem find?_filter_not_append {α : Type} (l : List α) (p : α → Bool) (x : α) (hx : p x = true) :
    (l.filter (fun y => !p y) ++ [x]).find? p = some x := by
  have hnone : (l.filter (fun y => !p y)).find? p = none := by
    rw [List.find?_eq_none]
    intro y hy
    simpa using (List.mem_filter.mp hy).2
  rw [List.find?_append, hnone]
  simp [hx]

/-- A word below the last is staged for its writer, and no register changes (R28). -/
theorem State.wideWrite_stages (s : State) (init : Init) {r : Reg} (i j : Nat) {w : Nat} (v : Word)
    (hw : r.writable = true) (hlast : w + 1 < r.geom.words) :
    (s.wideWrite init r i j w v).regs = s.regs ∧
      (s.wideWrite init r i j w v).bus.staged.find?
        (fun x => x.init = init && x.reg = r && x.i = i && x.j = j && x.word == w) = some ⟨init, r, i, j, w, v⟩ := by
  simp only [State.wideWrite, hw, hlast, Bool.not_true, Bool.false_eq_true, if_false, if_true, true_and]
  exact find?_filter_not_append _ _ _ (by simp)

/-! ### The drop of a write under R47 -/

theorem State.ownDrop_part (s : State) {n a : Nat} (r : Reg) (i : Nat) :
    (s.ownDrop (.part n) r i a).oneMore s F.SYS_OWNDROP_DROPS n ∧
      (s.ownDrop (.part n) r i a).get F.SYS_OWNLAST_ADDR n =
        a / 4 % 2 ^ (F.SYS_OWNLAST_ADDR.hi + 1 - F.SYS_OWNLAST_ADDR.lo) := by
  have hne : Reg.addr .SYS_OWNLAST n 0 0 ≠ Reg.addr .SYS_OWNDROP n 0 0 := by
    simp only [Reg.addr, Reg.geom]; omega
  rw [State.ownDrop]
  constructor
  · rw [State.oneMore, State.get_put_elsewhere _ F.SYS_OWNLAST_CAUSE F.SYS_OWNDROP_DROPS _ _ _ _ _ hne,
      State.get_put_elsewhere _ F.SYS_OWNLAST_ADDR F.SYS_OWNDROP_DROPS _ _ _ _ _ hne]
    exact State.get_bump_same s F.SYS_OWNDROP_DROPS n 0 ⟨by decide, by decide⟩
  · rw [State.get_put_apart _ F.SYS_OWNLAST_CAUSE F.SYS_OWNLAST_ADDR _ _ _ ⟨by decide, by decide⟩ rfl rfl (by decide)]
    exact State.get_put_same _ F.SYS_OWNLAST_ADDR _ _ _ ⟨by decide, by decide⟩

/-- A dropped write changes no word outside the partition's drop counter and drop record. -/
theorem State.word_ownDrop_part_ne (s : State) (n a : Nat) (r r' : Reg) (i i' j' w' : Nat)
    (h1 : Reg.addr .SYS_OWNDROP n 0 0 ≠ r'.addr i' j' w') (h2 : Reg.addr .SYS_OWNLAST n 0 0 ≠ r'.addr i' j' w') :
    (s.ownDrop (.part n) r i a).word r' i' j' w' = s.word r' i' j' w' := by
  rw [State.ownDrop, State.word_put_ne _ F.SYS_OWNLAST_CAUSE _ _ _ _ _ _ _ h2,
    State.word_put_ne _ F.SYS_OWNLAST_ADDR _ _ _ _ _ _ _ h2, State.word_bump_ne _ F.SYS_OWNDROP_DROPS _ _ _ _ _ _ h1]

/-! ### Reflex rules -/

theorem regAt_rule : ∀ r < 256, regAt (Reg.addr .SCH_RULE r 0 2) = some (.SCH_RULE, r, 0, 2) := by decide +kernel

/-- Word 2 of a rule lies in block 2, in no page. -/
theorem addr_rule {r : Nat} (h : r < 256) : let a := Reg.addr .SCH_RULE r 0 2
    a % 4 = 0 ∧ inBlocks a = true ∧ blockOf a = 2 ∧ inStencils a = false ∧ pageOf a = none := by
  have haddr : Reg.addr .SCH_RULE r 0 2 = 0x40260008 + 0x20 * r := by simp only [Reg.addr, Reg.geom]; omega
  have hblock : blockOf (0x40260008 + 0x20 * r) = 2 := by unfold blockOf; omega
  rw [haddr]
  refine ⟨by omega, by rw [inBlocks_iff]; omega, hblock, ?_, by simp [pageOf, hblock]⟩
  simp only [inStencils, Bool.and_eq_false_iff, decide_eq_false_iff_not]
  omega

/-- R268 has word 2 of a rule written whether or not the rule is armed. -/
theorem State.ruleWrite_two (s : State) (r : Nat) (v : Word) : s.ruleWrite r 2 v = s.setWord .SCH_RULE r 0 2 v := by
  simp [State.ruleWrite]

theorem State.carries_block {s : State} {a i j w : Nat} {r : Reg} (hc : s.carries a) (hr : regAt a = some (r, i, j, w)) :
    s.domOn domFAB = true ∧ s.blockOn r.block = true := by
  obtain ⟨hfab, hin, hon, -, -⟩ := hc
  exact ⟨hfab, by rwa [(regAt_some hin hr).1]⟩

/-- Settles O2: each write is followed through the ownership rule to its own effect. -/
theorem registerWritesComplete : Obligations.RegisterWritesComplete := by
  refine ⟨?stage, ?codes, ?drop, ?rule⟩
  case stage =>
    intro s init a i j w r v hc h4 hr hmay hwr hwide hne hlast
    obtain ⟨hfab, hon⟩ := State.carries_block hc hr
    refine .of_ends (s.busWrite init a (BitVec.ofNat 32 v)) rfl ?_
    rw [State.busWrite_register init _ hc h4 hr, State.regWrite_plain _ _ _ _ _ _ (not_mem_ownPathRegs_of_wide hwide hne),
      State.owned_of_mayWrite _ _ _ hfab hon hmay]
    simpa [hwide] using State.wideWrite_stages s init i j (BitVec.ofNat 32 v) hwr hlast
  case codes =>
    intro s init a i j w r v hc h4 hr hmay hwr hwide hb
    obtain ⟨hfab, hon⟩ := State.carries_block hc hr
    refine .of_ends (s.busWrite init a (BitVec.ofNat 32 v)) rfl ?_
    rw [State.busWrite_register init _ hc h4 hr, State.regWrite_plain _ _ _ _ _ _ (not_mem_ownPathRegs_of_block hb),
      State.owned_of_mayWrite _ _ _ hfab hon hmay]
    simp [hwide, State.wordWrite_checkOrAccess _ _ _ _ _ _ hb hwr]
  case drop =>
    intro s n a i j w v r hc h4 _ hr hb hmay
    obtain ⟨hfab, hon⟩ := State.carries_block hc hr
    obtain ⟨hblock, haddr⟩ := regAt_some hc.2.1 hr
    refine .of_ends (s.busWrite (.part n) a (BitVec.ofNat 32 v)) rfl ?_
    rw [State.busWrite_register _ _ hc h4 hr, State.regWrite_plain _ _ _ _ _ _ (not_mem_ownPathRegs_of_block hb),
      State.owned_of_not_mayWrite _ _ _ hfab hon hmay, haddr]
    obtain ⟨hcount, hlast⟩ := State.ownDrop_part s (a := a) r i
    have hword : (s.ownDrop (.part n) r i a).word r i j w = s.word r i j w := by
      rw [hblock] at hb
      have hlow : a < 0x40D00000 := by unfold blockOf at hb; omega
      apply State.word_ownDrop_part_ne <;> rw [haddr] <;> simp only [Reg.addr, Reg.geom] <;> omega
    simpa using ⟨hcount, hlast, hword⟩
  case rule =>
    intro s init r v hlt hfab hon hmay
    obtain ⟨h4, hin, hblock, hst, hpg⟩ := addr_rule hlt
    have hc : s.carries (Reg.addr .SCH_RULE r 0 2) := ⟨hfab, hin, by rw [hblock]; exact hon, hst, hpg⟩
    refine .of_ends (s.busWrite init (Reg.addr .SCH_RULE r 0 2) (BitVec.ofNat 32 v)) rfl ?_
    rw [State.busWrite_register init _ hc h4 (regAt_rule r hlt), State.regWrite_rule,
      State.owned_of_mayWrite (r := .SCH_RULE) _ _ _ hfab hon hmay, State.ruleWrite_two]
    simp

end Sys2Proof.Machine
end

section
/-! What a load of a core does: the word that memory or the fabric gives it, and the part that goes to RD (R600 to R602). -/

namespace Sys2Proof.Machine

/-! ### Sign extension and parts of a word -/

theorem sextW_toNat (n : Nat) (x : BitVec n) (hn : 0 < n) : sextW n x.toNat = x.signExtend 32 := by
  have hpow : 2 ^ n = 2 * 2 ^ (n - 1) := by rw [← Nat.pow_succ']; congr 1; omega
  have hlt := x.isLt
  rw [sextW, BitVec.signExtend, signedOf, Nat.mod_eq_of_lt hlt, BitVec.toInt]
  congr 1
  by_cases h : x.toNat < 2 ^ (n - 1)
  · rw [if_pos h, if_pos (by omega)]; rfl
  · rw [if_neg h, if_neg (by omega)]; simp

theorem sextW_14 (imm : Nat) : sextW 14 imm = (BitVec.ofNat 14 imm).signExtend 32 := by
  rw [← sextW_toNat 14 _ (by decide)]
  simp [sextW, signedOf]

theorem bitsOf_shift (w : Word) (k n : Nat) : bitsOf w (k + n) k = ((w >>> k).setWidth (n + 1)).toNat := by
  simp [bitsOf, Nat.shiftRight_eq_div_pow, show k + n + 1 - k = n + 1 by omega]

/-- Bit n of byte k of a little-endian word (R7). -/
theorem State.getLsbD_rd32 (s : State) (p k n : Nat) (hk : k < 4) (hn : n < 8) :
    (s.rd32 p).getLsbD (8 * k + n) = (s.rd8 (p + k)).getLsbD n := by
  have hcases : k = 0 ∨ k = 1 ∨ k = 2 ∨ k = 3 := by omega
  rw [State.rd32, wordOf]
  simp only [BitVec.getLsbD_append]
  rcases hcases with rfl | rfl | rfl | rfl
  · rw [if_pos (by omega)]; simp
  · rw [if_neg (by omega), if_pos (by omega)]; simp [Nat.add_comm]
  · rw [if_neg (by omega), if_neg (by omega), if_pos (by omega)]; congr 1; omega
  · rw [if_neg (by omega), if_neg (by omega), if_neg (by omega)]; congr 1; omega

theorem State.rd32_byte (s : State) (p k : Nat) (hk : k < 4) : (s.rd32 p >>> (8 * k)).setWidth 8 = s.rd8 (p + k) := by
  apply BitVec.eq_of_getLsbD_eq
  intro n hn
  rw [BitVec.getLsbD_setWidth, BitVec.getLsbD_ushiftRight, State.getLsbD_rd32 s p k n hk hn]
  simp [hn]

theorem State.rd32_half (s : State) (p k : Nat) (hk : k < 3) : (s.rd32 p >>> (8 * k)).setWidth 16 = s.rd16 (p + k) := by
  apply BitVec.eq_of_getLsbD_eq
  intro n hn
  rw [BitVec.getLsbD_setWidth, BitVec.getLsbD_ushiftRight, State.rd16, BitVec.getLsbD_append]
  by_cases hlow : n < 8
  · rw [State.getLsbD_rd32 s p k n (by omega) hlow]
    simp [hlow, hn]
  · have hhigh := State.getLsbD_rd32 s p (k + 1) (n - 8) (by omega) (by omega)
    rw [show 8 * (k + 1) + (n - 8) = 8 * k + n by omega] at hhigh
    simp [hhigh, hlow, hn, Nat.add_assoc]

/-! ### What a load takes of the aligned word -/

theorem loadValue_half (a : Nat) (w : Word) (ha : a % 2 = 0) :
    loadValue 1 a w = ((w >>> (8 * (a % 4))).setWidth 16).signExtend 32 ∧
      loadValue 2 a w = ((w >>> (8 * (a % 4))).setWidth 16).setWidth 32 := by
  have hoff : a % 4 / 2 * 16 = 8 * (a % 4) := by omega
  simp only [loadValue, hoff, bitsOf_shift, BitVec.ofNat_toNat]
  exact ⟨sextW_toNat 16 _ (by decide), trivial⟩

theorem loadValue_byte (a : Nat) (w : Word) :
    loadValue 3 a w = ((w >>> (8 * (a % 4))).setWidth 8).signExtend 32 ∧
      loadValue 4 a w = ((w >>> (8 * (a % 4))).setWidth 8).setWidth 32 := by
  simp only [loadValue, Nat.mul_comm (a % 4) 8, bitsOf_shift, BitVec.ofNat_toNat]
  exact ⟨sextW_toNat 8 _ (by decide), trivial⟩

/-- The words of a core's own memory lie as its addresses do. -/
theorem physAt_eq (c a : Nat) : physAt c a = physAt c (a / 4 * 4) + a % 4 := by
  have hlocal : inLocal c (a / 4 * 4) = inLocal c a := by
    rw [Bool.eq_iff_iff]
    simp only [inLocal, Bool.and_eq_true, decide_eq_true_eq]
    split_ifs <;> omega
  simp only [physAt, hlocal]
  split
  · next h =>
    simp only [inLocal, Bool.and_eq_true, decide_eq_true_eq] at h
    omega
  · omega

theorem State.rd32_physAt (s : State) (c : Nat) {a : Nat} (ha : a % 4 = 0) :
    s.rd32 (physAt c (a / 4 * 4)) = s.rd32 (physAt c a) := by
  rw [word_aligned ha]

theorem State.rd16_physAt (s : State) (c : Nat) {a : Nat} (ha : a % 2 = 0) :
    (s.rd32 (physAt c (a / 4 * 4)) >>> (8 * (a % 4))).setWidth 16 = s.rd16 (physAt c a) := by
  rw [physAt_eq c a]
  exact State.rd32_half s _ _ (by omega)

theorem State.rd8_physAt (s : State) (c a : Nat) :
    (s.rd32 (physAt c (a / 4 * 4)) >>> (8 * (a % 4))).setWidth 8 = s.rd8 (physAt c a) := by
  rw [physAt_eq c a]
  exact State.rd32_byte s _ _ (by omega)

/-! ### Reads over the fabric add and remove no waiting command -/

@[simp] theorem State.canEnter_pending (s : State) (r : Reg) (c j : Nat) (ws : List Word) :
    (s.canEnter r c j ws).pending = s.pending := by
  unfold State.canEnter
  dsimp only
  split <;> simp [State.canEvent]

@[simp] theorem State.slotEnter_pending (s : State) (r : Reg) (i j : Nat) : (s.slotEnter r i j).pending = s.pending := by
  unfold State.slotEnter
  split
  · rfl
  · split
    · rfl
    · dsimp only
      split <;> simp [State.linEnter, State.setFin, State.setTci]

@[simp] theorem State.canFifoRemove_pending (s : State) (c : Nat) : (s.canFifoRemove c).pending = s.pending := by
  simp [State.canFifoRemove, State.canFifoShow, State.setCan]

@[simp] theorem State.rcClear_pending (s : State) (r : Reg) (i j w : Nat) : (s.rcClear r i j w).pending = s.pending := by
  unfold State.rcClear
  dsimp only
  split_ifs <;> rfl

@[simp] theorem State.snapTaken_pending (s : State) (mine : Bool) (r : Reg) (i j : Nat) :
    (s.snapTaken mine r i j).pending = s.pending := by
  have hfold : ∀ (ws : List Nat) (t : State), (ws.foldl (fun t w => t.rcClear r i j w) t).pending = t.pending := by
    intro ws
    induction ws with
    | nil => exact fun _ => rfl
    | cons w ws ih => intro t; rw [List.foldl_cons, ih, State.rcClear_pending]
  unfold State.snapTaken
  dsimp only
  split <;> cases mine <;> simp [State.setFin, State.setTci, hfold]

@[simp] theorem State.wideRead_pending (s : State) (init : Init) (r : Reg) (i j w : Nat) :
    (s.wideRead init r i j w).1.pending = s.pending := by
  unfold State.wideRead
  dsimp only
  split
  · simp
  · split
    · dsimp only
      split_ifs <;> simp [State.snapRelease]
    · dsimp only
      split <;> simp

@[simp] theorem State.regRead_pending (s : State) (init : Init) (r : Reg) (i j w : Nat) :
    (s.regRead init r i j w).1.pending = s.pending := by
  unfold State.regRead
  split
  · simp
  · dsimp only
    split <;> simp

@[simp] theorem State.offRead_pending (s : State) (init : Init) (a : Nat) : (s.offRead init a).pending = s.pending := by
  unfold State.offRead
  dsimp only
  split <;> simp

@[simp] theorem State.busRead_pending (s : State) (init : Init) (a : Nat) : (s.busRead init a).1.pending = s.pending := by
  unfold State.busRead
  dsimp only
  repeat' split
  all_goals simp

@[simp] theorem State.eccCount_pending (s : State) (a bits : Nat) : (s.eccCount a bits).pending = s.pending := by
  unfold State.eccCount State.eccBlock
  split_ifs <;> simp

/-! ### The words of a core -/

theorem State.insn_of_fetches {s : State} {c : Nat} (act : State → State) (h : s.fetches c) : s.insn c act = act s := by
  obtain ⟨hlive, hfetch, hperm, hgood⟩ := h
  simp [State.insn, hlive, hfetch, hperm, hgood]

@[simp] theorem State.setG_pc (s : State) (c rd : Nat) (v : Word) : (s.setG c rd v).pc c = s.pc c := by
  unfold State.setG
  split
  · rfl
  · simp [State.pc]

theorem State.yields_eq_gives (s : State) (c rd : Nat) (v : Word) : s.yields c rd v = s.gives c rd v := by
  rw [State.yields, State.advance, State.setG_pc]

theorem State.gives_pending (s : State) (c rd : Nat) (v : Word) : (s.gives c rd v).pending = s.pending := by
  rw [State.gives, State.setG]
  split <;> rfl

/-! ### Loads -/

theorem State.memRead_ram {s : State} {c a ecc : Nat} (hram : isRam c a = true) (hgood : s.wordBad (physAt c a) = false)
    (hecc : ecc < 3) : s.memRead c a ecc = (s.eccCount (physAt c a) ecc, some (s.rd32 (physAt c a))) := by
  simp [State.memRead, hram, hgood, Nat.not_le.mpr hecc]

theorem State.memRead_bus {s : State} {c a : Nat} (ecc : Nat) (hram : isRam c a = false) (hc : c ≠ 6) :
    s.memRead c a ecc = ((s.busRead (s.coreInit c) a).1, some (s.busRead (s.coreInit c) a).2) := by
  simp [State.memRead, hram, hc]

/-- A permitted, aligned load gives RD its part of the word that the read answers, and goes on. -/
theorem State.doLoad_gives {s u : State} {c kind rd rs1 imm ecc a : Nat} {w : Word} (hf : s.fetches c)
    (ha : (s.g c rs1 + (BitVec.ofNat 14 imm).signExtend 32).toNat = a) (hal : a % loadSize kind = 0)
    (hp : s.permits c a F.CPU_RBASE_R = true) (hr : s.reaches c a = true)
    (hm : s.memRead c (a / 4 * 4) ecc = (u, some w)) :
    s.doLoad c kind rd rs1 imm ecc = u.gives c rd (loadValue kind a w) := by
  have hea : s.ea c rs1 imm = a := by rw [State.ea, sextW_14, ha]
  rw [State.doLoad, State.insn_of_fetches _ hf]
  simp [hea, State.loadCause, hal, hp, hr, hm, State.yields_eq_gives]

theorem Answers.of_load {i : Instr} {s u : State} {c kind rd rs1 imm ecc a : Nat} {w v : Word}
    (he : exec i s = s.ends (s.doLoad c kind rd rs1 imm ecc)) (hf : s.fetches c)
    (ha : (s.g c rs1 + (BitVec.ofNat 14 imm).signExtend 32).toNat = a) (hal : a % loadSize kind = 0)
    (hp : s.permits c a F.CPU_RBASE_R = true) (hr : s.reaches c a = true)
    (hm : s.memRead c (a / 4 * 4) ecc = (u, some w)) (hu : u.pending = s.pending) (hv : loadValue kind a w = v) :
    Answers i s (fun t => t = u.gives c rd v) := by
  rw [State.doLoad_gives hf ha hal hp hr hm, hv] at he
  refine .of_ends _ he ?_
  rw [← hu, ← State.gives_pending u c rd v, State.withPending_pending]

theorem Answers.of_load_ram {i : Instr} {s : State} {c kind rd rs1 imm ecc a : Nat} {v : Word}
    (he : exec i s = s.ends (s.doLoad c kind rd rs1 imm ecc)) (hv : loadValue kind a (s.rd32 (physAt c (a / 4 * 4))) = v)
    (hf : s.fetches c) (ha : (s.g c rs1 + (BitVec.ofNat 14 imm).signExtend 32).toNat = a) (hal : a % loadSize kind = 0)
    (hp : s.permits c a F.CPU_RBASE_R = true) (hr : s.reaches c a = true) (hram : isRam c (a / 4 * 4) = true)
    (hgood : s.wordBad (physAt c (a / 4 * 4)) = false) (hecc : ecc < 3) :
    Answers i s (fun t => t = (s.eccCount (physAt c (a / 4 * 4)) ecc).gives c rd v) :=
  .of_load he hf ha hal hp hr (State.memRead_ram hram hgood hecc) (State.eccCount_pending _ _ _) hv

theorem Answers.of_load_bus {i : Instr} {s : State} {c kind rd rs1 imm ecc a : Nat} {v : Word}
    (he : exec i s = s.ends (s.doLoad c kind rd rs1 imm ecc))
    (hv : loadValue kind a (s.busRead (s.coreInit c) (a / 4 * 4)).2 = v)
    (hf : s.fetches c) (ha : (s.g c rs1 + (BitVec.ofNat 14 imm).signExtend 32).toNat = a) (hal : a % loadSize kind = 0)
    (hp : s.permits c a F.CPU_RBASE_R = true) (hr : s.reaches c a = true) (hram : isRam c (a / 4 * 4) = false) (hc : c ≠ 6) :
    Answers i s (fun t => t = (s.busRead (s.coreInit c) (a / 4 * 4)).1.gives c rd v) :=
  .of_load he hf ha hal hp hr (State.memRead_bus ecc hram hc) (State.busRead_pending _ _ _) hv

/-- Settles O41: every load word is `State.doLoad` of its kind, which takes its part of the aligned word. -/
theorem loadsComplete : Obligations.LoadsComplete := by
  refine ⟨?ldwRam, ?ldwBus, ?ldhRam, ?ldhBus, ?ldhuRam, ?ldhuBus, ?ldbRam, ?ldbBus, ?ldbuRam, ?ldbuBus⟩
  case ldwRam =>
    intro s c rd rs1 imm ecc a hf ha hal
    exact .of_load_ram (kind := 0) rfl (State.rd32_physAt s c hal) hf ha hal
  case ldwBus =>
    intro s c rd rs1 imm ecc a hf ha hal
    exact .of_load_bus (kind := 0) rfl rfl hf ha hal
  case ldhRam =>
    intro s c rd rs1 imm ecc a hf ha hal
    exact .of_load_ram (kind := 1) rfl (by rw [(loadValue_half _ _ hal).1, State.rd16_physAt s c hal]) hf ha hal
  case ldhBus =>
    intro s c rd rs1 imm ecc a hf ha hal
    exact .of_load_bus (kind := 1) rfl (loadValue_half _ _ hal).1 hf ha hal
  case ldhuRam =>
    intro s c rd rs1 imm ecc a hf ha hal
    exact .of_load_ram (kind := 2) rfl (by rw [(loadValue_half _ _ hal).2, State.rd16_physAt s c hal]) hf ha hal
  case ldhuBus =>
    intro s c rd rs1 imm ecc a hf ha hal
    exact .of_load_bus (kind := 2) rfl (loadValue_half _ _ hal).2 hf ha hal
  case ldbRam =>
    intro s c rd rs1 imm ecc a hf ha hal
    exact .of_load_ram (kind := 3) rfl (by rw [(loadValue_byte _ _).1, State.rd8_physAt]) hf ha hal
  case ldbBus =>
    intro s c rd rs1 imm ecc a hf ha hal
    exact .of_load_bus (kind := 3) rfl (loadValue_byte _ _).1 hf ha hal
  case ldbuRam =>
    intro s c rd rs1 imm ecc a hf ha hal
    exact .of_load_ram (kind := 4) rfl (by rw [(loadValue_byte _ _).2, State.rd8_physAt]) hf ha hal
  case ldbuBus =>
    intro s c rd rs1 imm ecc a hf ha hal
    exact .of_load_bus (kind := 4) rfl (loadValue_byte _ _).2 hf ha hal

end Sys2Proof.Machine
end

section
/-! Two statements about reads that states outside every run refute: data in a pending slot, and data in a receive FIFO, that
overwrite the counter which the release or the read counts in. -/

namespace Sys2Proof.Machine

/-! ### Words of a list that enters a register -/

theorem Reg.addr_ne_of_word (r : Reg) (i j : Nat) {w w' : Nat} (h : w ≠ w') : r.addr i j w ≠ r.addr i j w' := by
  unfold Reg.addr
  omega

theorem State.word_setWordsFrom_before (s : State) (r : Reg) (i j w w' : Nat) (vs : List Word) (h : w' < w) :
    (s.setWordsFrom r i j w vs).word r i j w' = s.word r i j w' := by
  induction vs generalizing s w with
  | nil => rfl
  | cons v vs ih =>
    rw [State.setWordsFrom, ih _ (w + 1) (by omega)]
    exact State.word_setWord_ne _ _ _ _ _ _ _ _ _ _ (Reg.addr_ne_of_word r i j (by omega))

theorem State.word_setWordsFrom (s : State) (r : Reg) (i j w k : Nat) (vs : List Word) (hk : k < vs.length) :
    (s.setWordsFrom r i j w vs).word r i j (w + k) = vs[k] := by
  induction vs generalizing s w k with
  | nil => simp at hk
  | cons v vs ih =>
    rw [State.setWordsFrom]
    cases k with
    | zero => simp [State.word_setWordsFrom_before _ _ _ _ _ w _ (Nat.lt_succ_self w)]
    | succ k => simpa [Nat.add_right_comm w 1 k, Nat.add_assoc] using ih (s.setWord r i j w v) (w + 1) k (by simpa using hk)

/-- Two names of one address with one reset value read alike. -/
theorem State.word_congr_addr (s : State) {r r' : Reg} {i j w i' j' w' : Nat} (ha : r.addr i j w = r'.addr i' j' w')
    (hr : r.rst i j w = r'.rst i' j' w') : s.word r i j w = s.word r' i' j' w' := by
  rw [State.word, State.word, ha, hr]

/-! ### O1: a slot that overwrites the counter of its own release -/

/-- The release of a snapshot that has been held for 250 µs, and its count (R23). -/
theorem exec_abandonedSnapshot {s : State} {init : Init} {a i j w : Nat} {r : Reg} {x : Snap} (h4 : a % 4 = 0)
    (hr : regAt a = some (r, i, j, w)) (hs : s.snapOf init r i j = some x) (hx : x.at_ + 250 * usUnits ≤ s.now) :
    exec (.abandonedSnapshot init a) s = s.ends ((s.snapErr r.block).snapRelease init r i j) := by
  change execAbandonedSnapshot init a s = _
  simp [execAbandonedSnapshot, word_aligned h4, hr, hs, hx]

/-- Partition 0 has held a snapshot of ERR_BLK0 of block 15 for 250 µs, and a word of zero waits in that register's slot. -/
def slotOverCounter : State :=
  { State.reset with
    now := 250 * usUnits
    bus := { State.reset.bus with
      snaps := [⟨.part 0, .ERR_BLK0, 15, 0, [], 0⟩]
      slots := [⟨.ERR_BLK0, 15, 0, [0]⟩] } }

theorem slotOverCounter_meets : let a := Reg.addr .ERR_BLK0 15 0 0
    inBlocks a = true ∧ a % 4 = 0 ∧ regAt a = some (.ERR_BLK0, 15, 0, 0) ∧
      slotOverCounter.snapOf (.part 0) .ERR_BLK0 15 0 = some ⟨.part 0, .ERR_BLK0, 15, 0, [], 0⟩ ∧
      0 + 250 * usUnits ≤ slotOverCounter.now := by
  decide +kernel

theorem slotOverCounter_loses_count :
    ¬ ((slotOverCounter.snapErr (Reg.block .ERR_BLK0)).snapRelease (.part 0) .ERR_BLK0 15 0).oneMore slotOverCounter
      F.ERR_BLK0_SNAP (Reg.block .ERR_BLK0) := by
  decide +kernel

/-- Refutes O1: its clause on abandoned snapshots takes in a state, which no run reaches, where a snapshot of ERR_BLK0 itself is
held and a word waits in that register's slot: the release counts, and the word then enters over the count.
The clause lacks the premise that r is a wide register and its slot has its number of words. -/
theorem not_registerReadsComplete : ¬ Obligations.RegisterReadsComplete := by
  rintro ⟨-, -, -, -, habandoned⟩
  obtain ⟨hin, h4, hreg, hsnap, hnow⟩ := slotOverCounter_meets
  obtain ⟨t, ht, -, hcount⟩ := habandoned slotOverCounter (.part 0) _ 15 0 0 .ERR_BLK0 _ hin h4 hreg hsnap hnow
  rw [exec_abandonedSnapshot h4 hreg hsnap hnow] at ht
  cases ht
  exact slotOverCounter_loses_count hcount

/-! ### O58: a FIFO entry that overwrites the counter of its own torn read -/

theorem State.can_setCan_same (s : State) (c : Nat) (k : CanCh) : (s.setCan c k).can_ c = k := Sparse.at_set_same _ _ _ _

/-- The oldest entry of the receive FIFO removed, the window shows the words of the next one, however many (R424). -/
theorem State.word_canFifoRemove {s : State} {c w : Nat} {x e : List Word} {es : List (List Word)}
    (hf : (s.can_ c).fifo = x :: e :: es) (hw : w < e.length) : (s.canFifoRemove c).word .CAN_FIFO c 0 w = e[w] := by
  have hne : Reg.addr .CAN_FIFOCTL c 0 0 ≠ Reg.addr .CAN_FIFO c 0 w := by
    simp only [Reg.addr, Reg.geom]; omega
  rw [State.canFifoRemove, State.canFifoShow, State.word_put_ne _ F.CAN_FIFOCTL_FILL _ _ _ _ _ _ _ hne, State.can_setCan_same,
    hf, State.setWords]
  simpa using State.word_setWordsFrom _ .CAN_FIFO c 0 0 w e hw

theorem exec_tornRead (s : State) (init : Init) (a : Nat) :
    exec (.tornRead init a) s = .next ((s.readBy init a).withPending s.pending) := rfl

/-- The owner's read of the last word of a receive FIFO without a snapshot: counted as torn, and the oldest entry removed. -/
theorem State.wideRead_fifo_torn {s : State} {init : Init} {c : Nat} (hown : s.ownRead init .CAN_FIFO c = true)
    (hs : s.snapOf init .CAN_FIFO c 0 = none) :
    (s.wideRead init .CAN_FIFO c 0 23).1 = (s.snapErr (Reg.block .CAN_FIFO)).canFifoRemove c := by
  simp [State.wideRead, hown, hs]

theorem get_of_tornRead_fifo {s t : State} {init : Init} {a c : Nat} (f : Fld) (i j : Nat) (hc : s.carries a)
    (h4 : a % 4 = 0) (hr : regAt a = some (.CAN_FIFO, c, 0, 23)) (hown : s.ownRead init .CAN_FIFO c = true)
    (hs : s.snapOf init .CAN_FIFO c 0 = none) (ht : exec (.tornRead init a) s = .next t) :
    t.get f i j = ((s.snapErr (Reg.block .CAN_FIFO)).canFifoRemove c).get f i j := by
  have hwide : Reg.wide .CAN_FIFO = true := by decide
  rw [exec_tornRead, State.readBy, State.busRead_register _ hc h4 hr, State.regRead, if_pos hwide] at ht
  cases ht
  simp [State.wideRead_fifo_torn hown hs]

/-- The word of the FIFO window of channel 9, counted on past its 24 words, at which ERR_BLK0 of block 7 lies. -/
def counterWord : Nat := (Reg.addr .ERR_BLK0 7 0 0 - Reg.addr .CAN_FIFO 9 0 0) / 4

theorem counterWord_addr : Reg.addr .ERR_BLK0 7 0 0 = Reg.addr .CAN_FIFO 9 0 counterWord := by decide +kernel

/-- Partition 0 owns the CAN channels, and the second entry in the FIFO of channel 9 is zeros that reach past the window. -/
def fifoOverCounter : State :=
  { State.reset with
    dom := 1023
    cfg := { State.reset.cfg with owners := [⟨0x0E, 0, 0, 9⟩] }
    can := ⟨[(9, { CanCh.idle with fifo := [[], List.replicate (counterWord + 1) 0] })], 0⟩ }

theorem fifoOverCounter_meets : let a := Reg.addr .CAN_FIFO 9 0 23
    fifoOverCounter.carries a ∧ a % 4 = 0 ∧ regAt a = some (.CAN_FIFO, 9, 0, 23) ∧ Reg.wide .CAN_FIFO = true ∧
      fifoOverCounter.snapOf (.part 0) .CAN_FIFO 9 0 = none ∧ fifoOverCounter.ownRead (.part 0) .CAN_FIFO 9 = true := by
  decide +kernel

theorem fifoOverCounter_loses_count :
    ((fifoOverCounter.snapErr (Reg.block .CAN_FIFO)).canFifoRemove 9).get F.ERR_BLK0_SNAP (Reg.block .CAN_FIFO) = 0 := by
  have hfifo : ((fifoOverCounter.snapErr (Reg.block .CAN_FIFO)).can_ 9).fifo = [[], List.replicate (counterWord + 1) 0] := by
    rw [State.can_, State.snapErr_can]
    rfl
  have hword := State.word_canFifoRemove (w := counterWord) hfifo (by simp)
  rw [List.getElem_replicate, ← State.word_congr_addr _ counterWord_addr (by decide +kernel)] at hword
  rw [State.get]
  change bitsOf (State.word _ .ERR_BLK0 7 0 0) 15 0 = 0
  rw [hword]
  rfl

/-- Refutes O58: its clause on torn reads takes in a state, which no run reaches, whose FIFO holds an entry of about two million
words: the read of word 23 counts, and the entry then enters the window and overwrites the count. The
clause lacks the premise that entries have 24 words. -/
theorem not_snapshotsHoldAWideRegister : ¬ Obligations.SnapshotsHoldAWideRegister := by
  intro h
  obtain ⟨hc, h4, hreg, hwide, hsnap, hown⟩ := fifoOverCounter_meets
  obtain ⟨-, -, htorn⟩ := h fifoOverCounter (.part 0) _ 9 0 23 .CAN_FIFO _ hc h4 hreg hwide (.inr (.inr rfl))
  obtain ⟨t, ht, hcount, -⟩ := htorn (by decide) hsnap
  rw [State.oneMore, get_of_tornRead_fifo _ _ _ hc h4 hreg hown hsnap ht, fifoOverCounter_loses_count] at hcount
  have htop : F.ERR_BLK0_SNAP.top = 65535 := rfl
  omega

end Sys2Proof.Machine
end

section
/-! What a write at a place of a group page stages, and what a write of a group's membership discards (R255, R256, R260). -/

namespace Sys2Proof.Machine

/-! ### Staged fields -/

@[simp] theorem State.withPending_sch (t : State) (q : List Instr) : (t.withPending q).sch = t.sch := rfl

/-- Whether a staged field is the one of register r for member m of group g. -/
def StagedFld.isFor (f : StagedFld) (block g : Nat) (r : Reg) (m : Nat) : Bool :=
  f.block == block && f.group == g && f.reg = r && f.i == m

/-- The field that is staged for a register of a group's member. -/
def State.stagedFor (s : State) (block g : Nat) (r : Reg) (m : Nat) : Option StagedFld :=
  s.sch.staged.find? (fun f => f.isFor block g r m)

theorem State.stagedFor_congr {s t : State} (h : t.sch = s.sch) (block g : Nat) (r : Reg) (m : Nat) :
    t.stagedFor block g r m = s.stagedFor block g r m := by
  rw [State.stagedFor, State.stagedFor, h]

theorem StagedFld.isFor_iff (f : StagedFld) (block g : Nat) (r : Reg) (m : Nat) :
    f.isFor block g r m = true ↔ f.block = block ∧ f.group = g ∧ f.reg = r ∧ f.i = m := by
  simp [StagedFld.isFor, and_assoc]

/-- In a group's own page a staging replaces the field whoever staged it. -/
theorem State.stage_staged (s : State) (block who : Nat) {g : Nat} (r : Reg) (m : Nat) (v : Word) (hg : g < 32) :
    (s.stage block g who r m v).sch.staged =
      s.sch.staged.filter (fun f => !f.isFor block g r m) ++ [⟨block, g, who, r, m, v⟩] := by
  simp [State.stage, StagedFld.isFor, hg]

theorem State.stage_stagedFor_same (s : State) (block who : Nat) {g : Nat} (r : Reg) (m : Nat) (v : Word) (hg : g < 32) :
    (s.stage block g who r m v).stagedFor block g r m = some ⟨block, g, who, r, m, v⟩ := by
  rw [State.stagedFor, State.stage_staged s block who r m v hg]
  exact find?_filter_not_append _ _ _ (by simp [StagedFld.isFor])

theorem State.stage_stagedFor_ne (s : State) (block who : Nat) {g : Nat} (r : Reg) {m k : Nat} (v : Word) (hg : g < 32)
    (hne : k ≠ m) : (s.stage block g who r k v).stagedFor block g r m = s.stagedFor block g r m := by
  have hother : (⟨block, g, who, r, k, v⟩ : StagedFld).isFor block g r m = false := by simp [StagedFld.isFor, hne]
  have hkeep : ∀ f : StagedFld, (!f.isFor block g r k && f.isFor block g r m) = f.isFor block g r m := by
    intro f
    simp only [StagedFld.isFor]
    grind
  rw [State.stagedFor, State.stage_staged s block who r k v hg, List.find?_append, List.find?_filter]
  simp [hkeep, hother, State.stagedFor]

/-- Every member of a list has the value staged that was written for all of it (R256). -/
theorem State.stageAll_stagedFor (s : State) (block who : Nat) {g : Nat} (r : Reg) (v : Word) (hg : g < 32) {ms : List Nat}
    {m : Nat} (hm : m ∈ ms) :
    (ms.foldl (fun t k => t.stage block g who r k v) s).stagedFor block g r m = some ⟨block, g, who, r, m, v⟩ := by
  induction ms using List.reverseRecOn with
  | nil => cases hm
  | append_singleton ks k ih =>
    rw [List.foldl_append, List.foldl_cons, List.foldl_nil]
    by_cases hk : k = m
    · rw [hk, State.stage_stagedFor_same _ _ _ _ _ _ hg]
    · have hin : m ∈ ks := by
        rcases List.mem_append.mp hm with h | h
        · exact h
        · exact absurd (List.mem_singleton.mp h).symm hk
      rw [State.stage_stagedFor_ne _ _ _ _ _ hg hk, ih hin]

/-! ### PEND -/

theorem pendFld_fits (block g : Nat) : (pendFld block g).fits := by
  unfold pendFld
  split <;> exact ⟨by decide, by decide⟩

theorem pendFld_width (block g : Nat) : (pendFld block g).hi + 1 - (pendFld block g).lo = 1 := by
  unfold pendFld
  split <;> rfl

@[simp] theorem State.putPend_sch (s : State) (block g : Nat) : (s.putPend block g).sch = s.sch := by
  simp [State.putPend]

theorem State.get_putPend (s : State) (block : Nat) {g : Nat} (hg : g < 32) :
    (s.putPend block g).get (pendFld block g) g = if s.groupStaged block g then 1 else 0 := by
  rw [State.putPend, if_pos hg, State.get_put_same _ _ _ _ _ (pendFld_fits block g), pendFld_width]
  split <;> rfl

theorem State.groupStaged_of_stagedFor {s : State} {block g m : Nat} {r : Reg} {f : StagedFld}
    (h : s.stagedFor block g r m = some f) : s.groupStaged block g = true := by
  have hfor := List.find?_some h
  rw [StagedFld.isFor_iff] at hfor
  exact List.any_eq_true.mpr ⟨f, List.mem_of_find?_eq_some h, by simp [hfor]⟩

/-! ### Writes in a group page (R256) -/

/-- An address of a group page lies in the block whose page it is. -/
theorem pageOf_some {a block g o : Nat} (h : pageOf a = some (block, g, o)) : inBlocks a = true ∧ blockOf a = block := by
  dsimp only [pageOf] at h
  split at h
  case isFalse => cases h
  case isTrue hpage =>
    have hin : inBlocks a = true := (Bool.and_eq_true_iff.mp hpage).1
    split at h
    · cases h
      exact ⟨hin, rfl⟩
    · split at h
      · cases h
        exact ⟨hin, rfl⟩
      · cases h

theorem State.busWrite_page {s : State} {a block g o : Nat} {r : Reg} (init : Init) (v : Word) (hfab : s.domOn domFAB = true)
    (h4 : a % 4 = 0) (hst : inStencils a = false) (hpg : pageOf a = some (block, g, o)) (ho : o < 0xF00)
    (hon : s.blockOn block = true) (hr : pageReg block o = some r) :
    s.busWrite init a v = s.pageWrite init block g r v a := by
  obtain ⟨hin, hblock⟩ := pageOf_some hpg
  have hle : ¬ 0xF00 ≤ o := by omega
  simp [State.busWrite, word_aligned h4, hfab, hin, hblock, hon, hst, hpg, hr, hle, inRetention_of_inBlocks hin]

/-- The members of a group that carry a register and that partition n owns. -/
def State.ownMembers (s : State) (n block g : Nat) (r : Reg) : List Nat :=
  ((s.members block g).filter (fun m => pageHas block m r)).filter (fun m => match memberTarget block m with
    | some x => s.writerOwns (.part n) x
    | none => false)

theorem State.mem_ownMembers {s : State} {n block g m x : Nat} {r : Reg} (hm : m ∈ s.members block g)
    (hhas : pageHas block m r = true) (hx : memberTarget block m = some x) (hown : s.ownerOf (targetSpec x) = some n) :
    m ∈ s.ownMembers n block g r := by
  simp [State.ownMembers, hm, hhas, hx, State.writerOwns, hown]

/-- The owner's write in a group page stages the value for its own members and counts the others as skips. -/
theorem State.pageWrite_owner {s : State} {n block g : Nat} {r : Reg} (v : Word) (a : Nat) (hg : g < 32)
    (hwr : r.writable = true) (hown : s.ownsSpec (.part n) (groupSpec block g) = true) :
    s.pageWrite (.part n) block g r v a =
      (((s.ownMembers n block g r).foldl (fun t m => t.stage block g n r m v) s).bumpBy F.SYS_OWNDROP_SKIPS
        (((s.members block g).filter (fun m => pageHas block m r)).length - (s.ownMembers n block g r).length) n).putPend
          block g := by
  rw [groupSpec] at hown
  simp only [State.pageWrite, hown, hwr, hg, Bool.or_true, Bool.not_true, Bool.false_eq_true, if_false, if_true]
  rfl

/-- After the owner's write the value is staged for each of its members, and PEND is 1. -/
theorem State.pageWrite_stages {s : State} {n block g m x : Nat} {r : Reg} (v : Word) (a : Nat) (hg : g < 32)
    (hwr : r.writable = true) (hown : s.ownsSpec (.part n) (groupSpec block g) = true) (hm : m ∈ s.members block g)
    (hhas : pageHas block m r = true) (hx : memberTarget block m = some x) (howner : s.ownerOf (targetSpec x) = some n) :
    (s.pageWrite (.part n) block g r v a).stagedFor block g r m = some ⟨block, g, n, r, m, v⟩ ∧
      (s.pageWrite (.part n) block g r v a).get (pendFld block g) g = 1 := by
  have hstaged := State.stageAll_stagedFor s block n r v hg (State.mem_ownMembers hm hhas hx howner)
  rw [State.pageWrite_owner v a hg hwr hown]
  constructor
  · rwa [State.stagedFor_congr (State.putPend_sch _ _ _), State.stagedFor_congr (State.bumpBy_sch _ _ _ _ _)]
  · rw [State.get_putPend _ _ hg, if_pos]
    exact State.groupStaged_of_stagedFor ((State.stagedFor_congr (State.bumpBy_sch _ _ _ _ _) _ _ _ _).trans hstaged)

/-! ### Writes of a group's membership (R260) -/

theorem groupReg_own {block : Nat} (hb : block = 3 ∨ block = 4 ∨ block = 5) (s : State) (g : Nat) :
    s.ownSpec (groupReg block) g = groupSpec block g := by
  rcases hb with rfl | rfl | rfl <;> rfl

theorem groupReg_block {block : Nat} (hb : block = 3 ∨ block = 4 ∨ block = 5) : (groupReg block).block = block := by
  rcases hb with rfl | rfl | rfl <;> rfl

/-- The address of word w of a group's membership. -/
def memberAddr (block g w : Nat) : Nat := 0x40000000 + 0x100000 * block + 0x80000 + 0x1000 * g + 0xF00 + 4 * w

theorem regAt_member {block : Nat} (hb : block = 3 ∨ block = 4 ∨ block = 5) : ∀ (g : Fin 32) (w : Fin 8),
    regAt (memberAddr block g w) = some (groupReg block, g.val, w.val, 0) := by
  rcases hb with rfl | rfl | rfl <;> decide +kernel

/-- A membership register lies in its group's page, beyond the channel registers. -/
theorem memberAddr_page {block g w : Nat} (hb : block = 3 ∨ block = 4 ∨ block = 5) (hg : g < 32) (hw : w < 8) :
    memberAddr block g w % 4 = 0 ∧ inStencils (memberAddr block g w) = false ∧
      pageOf (memberAddr block g w) = some (block, g, 0xF00 + 4 * w) := by
  have hin : inBlocks (memberAddr block g w) = true := by rw [inBlocks_iff, memberAddr]; omega
  have hblock : blockOf (memberAddr block g w) = block := by rw [blockOf, memberAddr]; omega
  have hoff : memberAddr block g w % 0x100000 = 0x80000 + 0x1000 * g + 0xF00 + 4 * w := by rw [memberAddr]; omega
  have hgroup : (0x80000 + 0x1000 * g + 0xF00 + 4 * w - 0x80000) / 0x1000 = g := by omega
  have hplace : (0x80000 + 0x1000 * g + 0xF00 + 4 * w) % 0x1000 = 0xF00 + 4 * w := by omega
  have hpage : 0x80000 ≤ 0x80000 + 0x1000 * g + 0xF00 + 4 * w ∧ 0x80000 + 0x1000 * g + 0xF00 + 4 * w < 0xA0000 := by omega
  refine ⟨by rw [memberAddr]; omega, ?_, ?_⟩
  · have hlow : ¬ 0x405A0000 ≤ memberAddr block g w := by rw [memberAddr]; omega
    simp [inStencils, hlow]
  · simp only [pageOf, hin, hblock, hoff, if_pos hpage, hgroup, hplace]
    rcases hb with rfl | rfl | rfl <;> rfl

theorem State.regWrite_member {block : Nat} (hb : block = 3 ∨ block = 4 ∨ block = 5) (s : State) (init : Init) (g w : Nat)
    (v : Word) : s.regWrite init (groupReg block) g w 0 v =
      s.owned init (groupReg block) g w 0 (fun t => t.memberWrite block g w v) := by
  rcases hb with rfl | rfl | rfl <;> rfl

theorem State.busWrite_member {s : State} {n block g w : Nat} (v : Word) (hb : block = 3 ∨ block = 4 ∨ block = 5) (hg : g < 32)
    (hw : w < 8) (hfab : s.domOn domFAB = true) (hon : s.blockOn block = true)
    (hown : s.ownsSpec (.part n) (groupSpec block g) = true) :
    s.busWrite (.part n) (memberAddr block g w) v = s.memberWrite block g w v := by
  obtain ⟨h4, hst, hpg⟩ := memberAddr_page hb hg hw
  obtain ⟨hin, hblock⟩ := pageOf_some hpg
  have hmay : s.mayWrite (.part n) (groupReg block) g = true := by
    rw [State.mayWrite, groupReg_own hb, hown]
    rfl
  have hwrite : s.busWrite (.part n) (memberAddr block g w) v = s.regWrite (.part n) (groupReg block) g w 0 v := by
    simp [State.busWrite, word_aligned h4, hfab, hin, hblock, hon, hst, hpg, regAt_member hb ⟨g, hg⟩ ⟨w, hw⟩]
  rw [hwrite, State.regWrite_member hb, State.owned_of_mayWrite _ _ _ hfab (by rwa [groupReg_block hb]) hmay]

theorem groupReg_geom {block : Nat} (hb : block = 3 ∨ block = 4 ∨ block = 5) :
    (groupReg block).geom = ⟨0x40080F00 + 0x100000 * block, 32, 0x1000, 8, 4, 1⟩ := by
  rcases hb with rfl | rfl | rfl <;> rfl

theorem pendFld_geom {block g : Nat} (hb : block = 3 ∨ block = 4 ∨ block = 5) (hg : g < 32) :
    (pendFld block g).reg.geom = ⟨0x40080F80 + 0x100000 * block, 32, 0x1000, 1, 0, 1⟩ := by
  unfold pendFld
  rw [decide_eq_true hg]
  rcases hb with rfl | rfl | rfl <;> rfl

/-- A group's PEND lies in no word of its membership. -/
theorem pendFld_addr_ne_member {block : Nat} (hb : block = 3 ∨ block = 4 ∨ block = 5) {g w : Nat} (hg : g < 32) (hw : w < 8) :
    (pendFld block g).reg.addr g 0 (pendFld block g).word ≠ (groupReg block).addr g w 0 := by
  simp only [Reg.addr, groupReg_geom hb, pendFld_geom hb hg]
  omega

/-- The membership register of a block's all-channel page, whose bits are those that name channels (R255). -/
def allMembersReg (block : Nat) : Reg := match block with | 3 => .PSW_AMEMBER | 4 => .VLV_AMEMBER | _ => .LGT_AMEMBER

theorem State.memberWrite_eq (s : State) (block g w : Nat) (v : Word) :
    s.memberWrite block g w v =
      (s.setWord (groupReg block) g w 0 (v &&& (allMembersReg block).rst w 0 0)).discard block g none := rfl

/-- A discard for every writer leaves none of the group's fields staged. -/
theorem State.discard_staged (s : State) (block g : Nat) :
    (s.discard block g none).sch.staged.all (fun f => !(f.block == block && f.group == g)) = true := by
  have hkeep : (s.discard block g none).sch.staged = s.sch.staged.filter (fun f => !(f.block == block && f.group == g)) := by
    simp [State.discard]
  rw [hkeep]
  exact List.all_eq_true.mpr fun f hf => (List.mem_filter.mp hf).2

theorem State.discard_pend (s : State) (block : Nat) {g : Nat} (hg : g < 32) :
    (s.discard block g none).get (pendFld block g) g = 0 := by
  have hnone := State.discard_staged s block g
  rw [← List.not_any_eq_all_not, Bool.not_eq_true', State.discard, State.putPend_sch] at hnone
  rw [State.discard, State.get_putPend _ _ hg, if_neg]
  exact Bool.not_eq_true _ ▸ hnone

theorem State.discard_member {block : Nat} (hb : block = 3 ∨ block = 4 ∨ block = 5) (s : State) {g w : Nat} (hg : g < 32)
    (hw : w < 8) : (s.discard block g none).word (groupReg block) g w 0 = s.word (groupReg block) g w 0 := by
  rw [State.discard, State.putPend, if_pos hg, State.word_put_ne _ _ _ _ _ _ _ _ _ (pendFld_addr_ne_member hb hg hw)]
  rfl

/-- Settles O4: each write is followed over the fabric to its group, and from there to what is staged and to PEND. -/
theorem groupWritesComplete : Obligations.GroupWritesComplete := by
  refine ⟨?page, ?membership⟩
  case page =>
    intro s n a g o block m x v r _ hg hfab h4 hst hpg ho hon hreg hwr hown hm hhas hx howner
    obtain ⟨hval, hpend⟩ := State.pageWrite_stages (BitVec.ofNat 32 v) a hg hwr hown hm hhas hx howner
    refine .of_ends (s.busWrite (.part n) a (BitVec.ofNat 32 v)) rfl ?_
    rw [State.busWrite_page _ _ hfab h4 hst hpg ho hon hreg]
    exact ⟨congrArg (Option.map (fun f => f.val)) hval, hpend⟩
  case membership =>
    intro s n block g w v _ hb hg hw _ hfab hon hown
    refine .of_ends (s.busWrite (.part n) (memberAddr block g w) (BitVec.ofNat 32 v)) ?_ ?_
    · change execMemberWrite (.part n) block g w v s = _
      rw [execMemberWrite, if_pos ⟨hb, hg, hw⟩, memberAddr]
    · rw [State.busWrite_member _ hb hg hw hfab hon hown, State.memberWrite_eq]
      refine ⟨?_, ?_, State.discard_pend _ block hg⟩
      · rw [State.withPending_word, State.discard_member hb _ hg hw, State.word_setWord_same]
        rfl
      · exact State.discard_staged _ block g

end Sys2Proof.Machine
end

section
/-! What a handshake link does with the words that cross it and with its lanes (R32 to R34): the counts, the reports and the move
to the spare. -/

namespace Sys2Proof.Machine

/-! ### The register file through events -/

/-- An event changes no register word but the count of events lost to a full queue. -/
theorem State.word_event_ne (s : State) (n block code item a0 a1 : Nat) (r : Reg) (i j w : Nat)
    (h : Reg.addr .ERR_CUM 27 0 0 ≠ r.addr i j w) :
    (s.event n block code item a0 a1).word r i j w = s.word r i j w := by
  unfold State.event State.enqueue
  dsimp only
  split
  · rfl
  · exact State.word_cum_ne _ _ _ _ _ _ h

theorem State.get_event_ne (s : State) (n block code item a0 a1 : Nat) (f : Fld) (i j : Nat)
    (h : Reg.addr .ERR_CUM 27 0 0 ≠ f.reg.addr i j f.word) :
    (s.event n block code item a0 a1).get f i j = s.get f i j := by
  rw [State.get, State.get, State.word_event_ne _ _ _ _ _ _ _ _ _ _ _ h]

theorem State.word_eventAll_ne (s : State) (ns : List Nat) (block code item a0 a1 : Nat) (r : Reg) (i j w : Nat)
    (h : Reg.addr .ERR_CUM 27 0 0 ≠ r.addr i j w) :
    (s.eventAll ns block code item a0 a1).word r i j w = s.word r i j w := by
  induction ns generalizing s with
  | nil => rfl
  | cons n ns ih => exact (ih _).trans (State.word_event_ne s n block code item a0 a1 r i j w h)

/-! ### Links -/

@[simp] theorem State.link_setLink_same (s : State) (l : Nat) (k : LinkState) : (s.setLink l k).link l = k :=
  Sparse.at_set_same _ _ _ _

/-- The links depend on one part of the state alone. -/
theorem State.link_congr {s t : State} (h : t.links = s.links) (l : Nat) : t.link l = s.link l := by
  rw [State.link, State.link, h]

@[simp] theorem State.withPending_links (t : State) (q : List Instr) : (t.withPending q).links = t.links := rfl
@[simp] theorem State.withPending_link (t : State) (q : List Instr) (l : Nat) : (t.withPending q).link l = t.link l := rfl

/-! ### The counters of R635 for links -/

/-- A count in a field for block 15, with its cumulative count, leaves the other fields of the word. -/
theorem State.get_bump_cum_apart (s : State) (f g : Fld) (n : Nat) (hfit : f.fits) (hg : g.reg = f.reg) (hw : g.word = f.word)
    (hapart : f.hi < g.lo ∨ g.hi < f.lo) (hn : Reg.addr .ERR_CUM n 0 0 ≠ f.reg.addr 15 0 f.word) :
    ((s.bump f 15).cum n).get g 15 = s.get g 15 := by
  have hcum : ((s.bump f 15).cum n).get g 15 = (s.bump f 15).get g 15 := by
    rw [State.get, State.get, State.word_cum_ne _ _ _ _ _ _ (by rw [hg, hw]; exact hn)]
  rw [hcum, State.bump, State.bumpBy, State.get_put_apart _ f g _ _ _ hfit hg hw hapart]
  rfl

/-! ### Lanes that fail (R33, R34) -/

/-- The log entry and the events that report a failed lane. -/
def State.laneReported (s : State) (l lane : Nat) : State :=
  (s.logEntry 2 15 0xFFFF l lane).eventAll s.runningParts 15 1 0xFFFF

theorem State.laneReported_get (s : State) (l lane : Nat) (f : Fld) (hr : f.reg = .ERR_BLK3) (hw : f.word = 0) :
    (s.laneReported l lane).get f 15 = s.get f 15 := by
  rw [State.get, State.get, hr, hw, State.laneReported, State.word_eventAll_ne _ _ _ _ _ _ _ _ _ _ _ (by decide),
    State.word_logEntry_ne _ _ _ _ _ _ _ _ _ _ (by decide) (by decide)]

@[simp] theorem State.laneReported_links (s : State) (l lane : Nat) : (s.laneReported l lane).links = s.links := by
  simp [State.laneReported]

/-- Link l as it is from the move of lane x to the spare on. -/
def State.movedLink (s : State) (l x : Nat) : LinkState :=
  { s.link l with moved := some x, pausedTo := some (s.now + 20 * usUnits), hits := Sparse.erase (s.link l).hits x }

/-- The traffic of a lane in use moves to a spare that is free and good (R34). -/
theorem State.laneFail_moves {s : State} {l x : Nat} (hx : x < 80) (hfree : (s.link l).moved = none)
    (hspare : 80 ∉ (s.link l).failed) (hgood : x ∉ (s.link l).failed) :
    s.laneFail l x = (((s.setLink l (s.movedLink l x)).bump F.ERR_BLK3_LANEMOVE 15).cum 5).laneReported l x := by
  have hle : ¬ 80 < x := by omega
  have hne : x ≠ 80 := by omega
  simp [State.laneFail, LinkState.unused, State.laneReported, State.movedLink, hfree, hspare, hgood, hle, hne]

/-- What becomes of a lane, the count of corrected words stays. -/
theorem State.laneFail_linkcorr (s : State) (l x : Nat) :
    (s.laneFail l x).get F.ERR_BLK3_LINKCORR 15 = s.get F.ERR_BLK3_LINKCORR 15 := by
  unfold State.laneFail
  dsimp only
  split
  · rfl
  split
  · rfl
  refine (State.laneReported_get _ l x F.ERR_BLK3_LINKCORR rfl rfl).trans ?_
  split
  · exact State.get_bump_cum_apart _ F.ERR_BLK3_LANEMOVE _ 5 ⟨by decide, by decide⟩ rfl rfl (by decide) (by decide)
  · exact State.get_bump_cum_apart _ F.ERR_BLK3_LANE2 _ 6 ⟨by decide, by decide⟩ rfl rfl (by decide) (by decide)

theorem State.laneHit_linkcorr (s : State) (l x : Nat) :
    (s.laneHit l x).get F.ERR_BLK3_LINKCORR 15 = s.get F.ERR_BLK3_LINKCORR 15 := by
  unfold State.laneHit
  dsimp only
  split
  · exact State.laneFail_linkcorr _ l x
  · rfl

/-! ### Words that cross a link (R32) -/

/-- The counts of an uncorrectable word. -/
def State.uncCounted (s : State) : State := (s.bump F.ERR_BLK3_LINKUNC 15).cum 4

theorem State.uncCounted_oneMore (s : State) : s.uncCounted.oneMore s F.ERR_BLK3_LINKUNC 15 :=
  State.oneMore_bump_cum s F.ERR_BLK3_LINKUNC 15 4 ⟨by decide, by decide⟩ (by decide)

@[simp] theorem State.uncCounted_links (s : State) : s.uncCounted.links = s.links := by simp [State.uncCounted]

theorem State.uncCounted_room {s : State} {n : Nat} (h : s.room n) : s.uncCounted.room n := by
  rwa [State.room, State.queue_congr (s := s) (by simp [State.uncCounted])]

theorem exec_linkWord_lost {s : State} {l : Nat} {lanes : List Nat} {parityBad : Bool} (u : LinkUse)
    (hfab : s.domOn domFAB = true) (hrun : (s.link l).pausedTo = none)
    (hbad : parityBad = true ∨ 2 ≤ (s.badLanes l lanes).length) :
    exec (.linkWord l lanes parityBad u) s = s.ends (s.uncCounted.linkDropped u) := by
  change execLinkWord l lanes parityBad u s = _
  simp [execLinkWord, State.uncCounted, hfab, hrun, hbad]

theorem exec_linkWord_corrected {s : State} {l x : Nat} {lanes : List Nat} (u : LinkUse) (hfab : s.domOn domFAB = true)
    (hrun : (s.link l).pausedTo = none) (hone : s.badLanes l lanes = [x]) :
    exec (.linkWord l lanes false u) s = s.ends (((s.bump F.ERR_BLK3_LINKCORR 15).cum 3).laneHit l x) := by
  change execLinkWord l lanes false u s = _
  simp [execLinkWord, hfab, hrun, hone]

theorem exec_linkWord_good {s : State} {l : Nat} {lanes : List Nat} (u : LinkUse) (hnone : s.badLanes l lanes = []) :
    exec (.linkWord l lanes false u) s = s.ends s := by
  change execLinkWord l lanes false u s = _
  simp [execLinkWord, hnone]

theorem State.linkDropped_other (s : State) : s.linkDropped .other = s := rfl

theorem State.linkDropped_store (s : State) (n a : Nat) :
    s.linkDropped (.store (.part n) a) = s.event n 15 5 0xFFFF a 7 := rfl

theorem filter_range_contains_singleton {n x : Nat} (h : x < n) :
    (List.range n).filter (fun y => [x].contains y) = [x] := by
  have hcount : (List.range n).count x = 1 := List.count_eq_one_of_mem List.nodup_range (List.mem_range.mpr h)
  simp only [List.contains_cons, List.contains_nil, Bool.or_false]
  rw [List.filter_beq, hcount, List.replicate_one]

theorem exec_idlePatternCheck_one {s : State} {l x : Nat} (hx : x < 80) (hfab : s.domOn domFAB = true) :
    exec (.idlePatternCheck l [x]) s = s.ends (s.laneFail l x) := by
  change execIdlePatternCheck l [x] s = _
  rw [execIdlePatternCheck, if_pos hfab, filter_range_contains_singleton (by omega)]
  rfl

/-- Settles O5: each word and each lane is followed to the one branch of the link that takes it. -/
theorem linkFaultsAreCountedAndMoved : Obligations.LinkFaultsAreCountedAndMoved := by
  refine ⟨?lost, ?corrected, ?good, ?moved, ?resumed⟩
  case lost =>
    intro s l lanes parityBad n a _ _ hfab hrun hbad hroom
    have hcount := State.uncCounted_oneMore s
    constructor
    · exact .of_ends _ (exec_linkWord_lost .other hfab hrun hbad) ⟨hcount, by simp [State.linkDropped_other]⟩
    · refine .of_ends _ (exec_linkWord_lost _ hfab hrun hbad) ?_
      rw [State.linkDropped_store]
      refine ⟨?_, by simp, ?_⟩
      · rw [State.withPending_oneMore, State.oneMore, State.get_event_ne _ _ _ _ _ _ _ F.ERR_BLK3_LINKUNC _ _ (by decide)]
        exact hcount
      · simp [State.placed, State.getLast_event_room _ _ _ _ _ _ _ (State.uncCounted_room hroom)]
  case corrected =>
    intro s l x lanes u _ hfab hrun hone
    refine .of_ends _ (exec_linkWord_corrected u hfab hrun hone) ?_
    rw [State.withPending_oneMore, State.oneMore, State.laneHit_linkcorr]
    exact State.oneMore_bump_cum s F.ERR_BLK3_LINKCORR 15 3 ⟨by decide, by decide⟩ (by decide)
  case good =>
    intro s l lanes u _ _ hnone
    exact .of_ends s (exec_linkWord_good u hnone) (State.withPending_pending s)
  case moved =>
    intro s l x _ hx hfab hfree hspare hgood
    refine .of_ends _ (exec_idlePatternCheck_one hx hfab) ?_
    rw [State.laneFail_moves hx hfree hspare hgood, State.withPending_link,
      State.link_congr (s := s.setLink l (s.movedLink l x)) (by simp), State.link_setLink_same]
    refine ⟨rfl, rfl, ?_⟩
    rw [State.withPending_oneMore, State.oneMore, State.laneReported_get _ l x F.ERR_BLK3_LANEMOVE rfl rfl]
    exact State.oneMore_bump_cum _ F.ERR_BLK3_LANEMOVE 15 5 ⟨by decide, by decide⟩ (by decide)
  case resumed =>
    intro s l
    exact .of_ends (s.setLink l { s.link l with pausedTo := none }) rfl (by simp)

end Sys2Proof.Machine
end

section
/-! What the operations of the output plane leave alone: no drive of a target, no action and no end of a claim touches the
memories or the state of the bring-up. -/

namespace Sys2Proof.Machine

/-- A state has the memories and the state of the bring-up of another. -/
@[simp] abbrev State.keeps (s t : State) : Prop := t.mem = s.mem ∧ t.boot = s.boot

theorem State.keeps_rfl (s : State) : s.keeps s := ⟨rfl, rfl⟩

theorem State.keeps.trans {s t u : State} (h : s.keeps t) (h' : t.keeps u) : s.keeps u :=
  ⟨h'.1.trans h.1, h'.2.trans h.2⟩

@[simp] theorem State.mem_ite (c : Prop) [Decidable c] (t u : State) : (if c then t else u).mem = if c then t.mem else u.mem :=
  apply_ite State.mem c t u

@[simp] theorem State.boot_ite (c : Prop) [Decidable c] (t u : State) :
    (if c then t else u).boot = if c then t.boot else u.boot :=
  apply_ite State.boot c t u

/-- A list of operations that each keep them keeps them. -/
theorem State.keeps_foldl {α : Type} (l : List α) {f : State → α → State} (h : ∀ (t : State) a, t.keeps (f t a)) (s : State) :
    s.keeps (l.foldl f s) :=
  List.foldlRecOn (motive := fun t => s.keeps t) l f s.keeps_rfl fun t ht a _ => ht.trans (h t a)

/-! ### Edges and outputs -/

@[simp] theorem State.keeps_termsSeen (s : State) : s.keeps s.termsSeen := by simp [State.termsSeen]

@[simp] theorem State.keeps_setOut (s : State) (x v : Nat) : s.keeps (s.setOut x v) := by simp [State.setOut, State.putOut]

@[simp] theorem State.keeps_putHeld (s : State) (x : Nat) : s.keeps (s.putHeld x) := by simp [State.putHeld]

@[simp] theorem State.keeps_setChan (s : State) (x : Nat) (c : Chan) : s.keeps (s.setChan x c) := by simp [State.setChan]

@[simp] theorem State.keeps_stampEdge (s : State) (x : Nat) (rise : Bool) (src plan defer : Nat) (lead : Bool) (shift : Int)
    (rule : Option Nat) : s.keeps (s.stampEdge x rise src plan defer lead shift rule) := by
  simp [State.stampEdge]

@[simp] theorem State.keeps_notifyEdge (s : State) (x : Nat) (a : Act) : s.keeps (s.notifyEdge x a) := by
  simp [State.notifyEdge]

@[simp] theorem State.keeps_edge (s : State) (x : Nat) (rise : Bool) (a : Act) (shift : Int) :
    s.keeps (s.edge x rise a shift) := by
  simp [State.edge]

/-! ### Power channels and pairs -/

@[simp] theorem State.keeps_setProt (s : State) (p : Nat) (v : ProtSt) : s.keeps (s.setProt p v) := by simp [State.setProt]

@[simp] theorem State.keeps_switchEdges (s : State) (x old new : Nat) (a : Act) : s.keeps (s.switchEdges x old new a) := by
  simp [State.switchEdges]

@[simp] theorem State.keeps_mirrorPair (s : State) (p : Nat) : s.keeps (s.mirrorPair p) := by simp [State.mirrorPair]

@[simp] theorem State.keeps_protFollow (s : State) (x new : Nat) : s.keeps (s.protFollow x new) := by simp [State.protFollow]

@[simp] theorem State.keeps_drivePair (s : State) (x st : Nat) (brake : Bool) (a : Act) : s.keeps (s.drivePair x st brake a) := by
  simp [State.drivePair]

@[simp] theorem State.keeps_drivePower (s : State) (x st : Nat) (a : Act) : s.keeps (s.drivePower x st a) := by
  simp [State.drivePower]

/-! ### Valve outputs -/

@[simp] theorem State.keeps_setVq (s : State) (b : Nat) (q : List ValveReq) : s.keeps (s.setVq b q) := by simp [State.setVq]

@[simp] theorem State.keeps_valveOn (s : State) (i : Nat) (a : Act) : s.keeps (s.valveOn i a) := by simp [State.valveOn]

@[simp] theorem State.keeps_valveUnqueue (s : State) (i : Nat) : s.keeps (s.valveUnqueue i) := by simp [State.valveUnqueue]

@[simp] theorem State.keeps_putHsum (s : State) (b : Nat) : s.keeps (s.putHsum b) := by simp [State.putHsum]

@[simp] theorem State.keeps_bankCurrent (s : State) (b : Nat) : s.keeps (s.bankCurrent b) := by simp [State.bankCurrent]

@[simp] theorem State.keeps_valveFollow (s : State) (i : Nat) : s.keeps (s.valveFollow i) := by simp [State.valveFollow]

@[simp] theorem State.keeps_valveTurnOff (s : State) (i : Nat) (a : Act) : s.keeps (s.valveTurnOff i a) := by
  simp [State.valveTurnOff]

@[simp] theorem State.keeps_valveOff (s : State) (i : Nat) (a : Act) : s.keeps (s.valveOff i a) := by simp [State.valveOff]

/-! ### LED channels -/

@[simp] theorem State.keeps_setLed (s : State) (m : Nat) (v : LedCh) : s.keeps (s.setLed m v) := by simp [State.setLed]

@[simp] theorem State.keeps_ledSetLevel (s : State) (m l : Nat) : s.keeps (s.ledSetLevel m l) := by simp [State.ledSetLevel]

@[simp] theorem State.keeps_ledFollow (s : State) (m l : Nat) : s.keeps (s.ledFollow m l) := by simp [State.ledFollow]

@[simp] theorem State.keeps_segDuty (s : State) (m : Nat) : s.keeps (s.segDuty m) :=
  State.keeps_foldl _ (fun t _ => t.keeps_setLed _ _) s

@[simp] theorem State.keeps_ledStart (s : State) (m slot : Nat) : s.keeps (s.ledStart m slot) := by simp [State.ledStart]

@[simp] theorem State.keeps_expRefresh (s : State) (k : Nat) : s.keeps (s.expRefresh k) := by simp [State.expRefresh]

@[simp] theorem State.keeps_lockRefresh (s : State) (m : Nat) : s.keeps (s.lockRefresh m) := by simp [State.lockRefresh]

@[simp] theorem State.keeps_exposures (s : State) : s.keeps s.exposures :=
  (State.keeps_foldl _ State.keeps_expRefresh s).trans (State.keeps_foldl _ State.keeps_lockRefresh _)

@[simp] theorem State.keeps_driveLed (s : State) (m st : Nat) (a : Act) : s.keeps (s.driveLed m st a) := by
  simp [State.driveLed]

/-! ### Time pulse outputs -/

@[simp] theorem State.keeps_tpoEdge (s : State) (n st instant : Nat) : s.keeps (s.tpoEdge n st instant) := by
  simp [State.tpoEdge]

@[simp] theorem State.keeps_setTpo (s : State) (n : Nat) (v : TpoSt) : s.keeps (s.setTpo n v) := by simp [State.setTpo]

@[simp] theorem State.keeps_tpoSupp (s : State) (n : Nat) : s.keeps (s.tpoSupp n) := by simp [State.tpoSupp]

@[simp] theorem State.keeps_planEdge (s : State) (n st instant : Nat) (a : Act) : s.keeps (s.planEdge n st instant a) := by
  simp [State.planEdge]

@[simp] theorem State.keeps_planWindow (s : State) (n : Nat) (a : Act) : s.keeps (s.planWindow n a) := by
  simp [State.planWindow]

@[simp] theorem State.keeps_driveTpo (s : State) (n st : Nat) (a : Act) : s.keeps (s.driveTpo n st a) := by
  unfold State.driveTpo
  dsimp only
  split
  · exact s.keeps_rfl
  split
  · split
    · simp
    · split <;> simp
  · simp

/-! ### Actions -/

@[simp] theorem State.keeps_svcTurnOn (s : State) (x : Nat) : s.keeps (s.svcTurnOn x) := by
  unfold State.svcTurnOn
  split <;> simp

@[simp] theorem State.keeps_drive (s : State) (x st : Nat) (a : Act) : s.keeps (s.drive x st a) := by simp [State.drive]

@[simp] theorem State.keeps_countExec (s : State) (a : Act) : s.keeps (s.countExec a) := by simp [State.countExec]

@[simp] theorem State.keeps_trailFrom (s : State) (x t : Nat) (a : Act) : s.keeps (s.trailFrom x t a) := by
  unfold State.trailFrom
  split <;> simp

@[simp] theorem State.keeps_trailing (s : State) (x : Nat) (a : Act) : s.keeps (s.trailing x a) := by simp [State.trailing]

@[simp] theorem State.keeps_setDiag (s : State) (x : Nat) (d : DiagSt) : s.keeps (s.setDiag x d) := by simp [State.setDiag]

@[simp] theorem State.keeps_change (s : State) (x st : Nat) (a : Act) : s.keeps (s.change x st a) := by
  unfold State.change
  split <;> simp

@[simp] theorem State.keeps_execute (s : State) (x st : Nat) (a : Act) : s.keeps (s.execute x st a) := by
  simp [State.execute]

@[simp] theorem State.keeps_recordWeight (s : State) (g w : Nat) (key : List Int) : s.keeps (s.recordWeight g w key) := by
  simp [State.recordWeight]

@[simp] theorem State.keeps_postilionDrop (s : State) (x : Nat) (a : Act) : s.keeps (s.postilionDrop x a) := by
  unfold State.postilionDrop
  dsimp only
  split <;> simp

@[simp] theorem State.keeps_postilion (s : State) (x st : Nat) (a : Act) : s.keeps (s.postilion x st a) := by
  simp [State.postilion]

@[simp] theorem State.keeps_request (s : State) (x st : Nat) (a : Act) : s.keeps (s.request x st a) := by
  simp [State.request]

@[simp] theorem State.keeps_settleLevel (s : State) (x : Nat) : s.keeps (s.settleLevel x) := by simp [State.settleLevel]

@[simp] theorem State.keeps_settle (s : State) (x src : Nat) : s.keeps (s.settle x src) := by
  unfold State.settle
  dsimp only
  split <;> simp

/-! ### Tables and rules that end -/

@[simp] theorem State.keeps_claimRelease (s : State) (r : Nat) : s.keeps (s.claimRelease r) := by
  unfold State.claimRelease
  dsimp only
  refine State.keeps.trans ?_ (State.keeps_foldl _ (fun t x => ?_) _)
  · simp [State.rfxHeld]
  · simp

@[simp] theorem State.keeps_setTable (s : State) (t : Nat) (v : TableSt) : s.keeps (s.setTable t v) := by simp [State.setTable]

@[simp] theorem State.keeps_entHandN (s : State) (t b e at_ n : Nat) : s.keeps (s.entHandN t b e at_ n) := by
  induction n generalizing s with
  | zero => exact s.keeps_rfl
  | succ n ih =>
    unfold State.entHandN
    split
    · split
      · exact State.keeps.trans (by simp [State.setEntSt]) (ih _)
      · exact s.keeps_rfl
    · exact s.keeps_rfl

@[simp] theorem State.keeps_tableHalt (s : State) (t : Nat) : s.keeps (s.tableHalt t) := by simp [State.tableHalt]

@[simp] theorem State.keeps_tableStop (s : State) (t : Nat) : s.keeps (s.tableStop t) := by
  unfold State.tableStop
  split
  · simp
  · exact (State.keeps_foldl _ (fun u e => u.keeps_entHandN t _ e _ _) s).trans (State.keeps_tableHalt _ t)

@[simp] theorem State.keeps_resetRegs (s : State) (k : Nat) (takes : Reg → Nat → Nat → Bool) :
    s.keeps (s.resetRegs k takes) := ⟨rfl, rfl⟩

/-- Emptying the tables of a part leaves the memories and the bring-up alone, but for those of the stencil library. -/
theorem State.keeps_tableWipe (s : State) {part : Nat} (h : part ≠ 0x21) : s.keeps (s.tableWipe part) := by
  unfold State.tableWipe
  rw [if_neg h]
  dsimp only
  split
  · simp
  split
  · have hstop := State.keeps_foldl (List.range 8) State.keeps_tableStop s
    exact (hstop.trans (State.keeps_foldl _ State.keeps_claimRelease _)).trans (State.keeps_resetRegs _ _ _)
  split
  · exact (State.keeps_resetRegs s _ _).trans (State.keeps_foldl _ (fun t g => by simp [State.showOut]) _)
  · exact s.keeps_rfl

/-! ### The mailbox of the metering island, and RUN -/

@[simp] theorem State.keeps_rxPut (s : State) (m : List Byte) : s.keeps (s.rxPut m) := by
  have hbytes : s.keeps ((List.range (m.length / 4)).foldl (fun t k => t.setWord .MTR_RXBUF
      ((s.get F.MTR_RXHEAD_HEAD + 4 * k) % 4096 / 4) 0 0
      (wordOf (m.getD (4 * k) 0) (m.getD (4 * k + 1) 0) (m.getD (4 * k + 2) 0) (m.getD (4 * k + 3) 0))) s) :=
    State.keeps_foldl _ (fun t k => by simp) s
  unfold State.rxPut
  dsimp only
  split <;> simpa using hbytes

@[simp] theorem State.keeps_rxDrain (s : State) (n : Nat) : s.keeps (s.rxDrain n) := by
  induction n generalizing s with
  | zero => exact s.keeps_rfl
  | succ n ih =>
    unfold State.rxDrain
    split
    · split
      · exact State.keeps.trans (by simp) (ih _)
      · exact s.keeps_rfl
    · exact s.keeps_rfl

@[simp] theorem State.keeps_mtrSend (s : State) (m : List Byte) : s.keeps (s.mtrSend m) := by
  simp [State.mtrSend, State.rxFlush]

@[simp] theorem State.keeps_mtrCounted (s : State) : s.keeps s.mtrCounted := by simp [State.mtrCounted]

@[simp] theorem State.keeps_mtrOffer (s : State) (m : List Byte) : s.keeps (s.mtrOffer m) := by simp [State.mtrOffer]

@[simp] theorem State.keeps_legalSend (s : State) : s.keeps s.legalSend := by simp [State.legalSend, State.legalTime]

@[simp] theorem State.keeps_mtrHello (s : State) : s.keeps s.mtrHello := by simp [State.mtrHello]

@[simp] theorem State.keeps_nwkRun (s : State) : s.keeps s.nwkRun :=
  State.keeps_foldl _ (fun t j => by simp [State.setNchan]) s

@[simp] theorem State.keeps_runShow (s : State) : s.keeps s.runShow := by simp [State.runShow]

@[simp] theorem State.keeps_runStart (s : State) (wake : Bool) : s.keeps (s.runStart wake) := by
  simp [State.runStart, State.setPwr, State.wakeFrames, State.dwStart, State.wakeOut]

/-- The entry of RUN leaves the memories alone. -/
@[simp] theorem State.runEnter_mem (s : State) : s.runEnter.mem = s.mem := by
  unfold State.runEnter State.runDone
  dsimp only
  split <;> simp

end Sys2Proof.Machine
end

section
/-! What the records of the register block do: the write of a check-value unit's register by the boot loader, the counts, and the
record that stands in front after one is done with (R126, R128). -/

namespace Sys2Proof.Machine

/-! ### Registers of the check-value units -/

theorem mem_ofBlock_of_regAt {a i j w : Nat} {r : Reg} (hb : inBlocks a = true) (h : regAt a = some (r, i, j, w)) :
    r ∈ Reg.ofBlock (blockOf a) := by
  rw [inBlocks_iff] at hb
  rw [regAt, if_neg (by omega), if_pos (by omega)] at h
  exact (findIn_some h).1

/-- A register of a check-value unit at a word address. -/
structure CheckUnitAt (a : Nat) (r : Reg) (i j : Nat) : Prop where
  inside : inBlocks a = true
  found : regAt a = some (r, i, j, 0)
  block : r.block = 11
  aligned : a % 4 = 0

section
variable {a i j : Nat} {r : Reg} (h : CheckUnitAt a r i j)
include h

theorem CheckUnitAt.addr_eq : r.addr i j 0 = a := (regAt_some h.inside h.found).2

theorem CheckUnitAt.blockOf_eq : blockOf a = 11 := by rw [← (regAt_some h.inside h.found).1, h.block]

theorem CheckUnitAt.range : 0x40B00000 ≤ a ∧ a < 0x40C00000 := by
  have hin := inBlocks_iff.mp h.inside
  have hk := h.blockOf_eq
  unfold blockOf at hk
  omega

theorem CheckUnitAt.pageOf_eq_none : pageOf a = none := by simp [pageOf, h.blockOf_eq]

theorem CheckUnitAt.not_inStencils : inStencils a = false := by
  have hrange := h.range
  simp only [inStencils, Bool.and_eq_false_iff, decide_eq_false_iff_not]
  omega

theorem CheckUnitAt.not_wide : r.wide = false := by
  have hmem := mem_ofBlock_of_regAt h.inside h.found
  rw [h.blockOf_eq] at hmem
  have hall : ∀ r ∈ Reg.ofBlock 11, r.wide = false := by decide
  exact hall r hmem

theorem CheckUnitAt.blockOn_eq {s : State} (hfab : s.domOn domFAB = true) : s.blockOn (blockOf a) = true := by
  rw [h.blockOf_eq]
  exact hfab

theorem CheckUnitAt.recOk_eq {s : State} (hfab : s.domOn domFAB = true) : s.recOk a = true := by
  simp [State.recOk, h.inside, h.blockOn_eq hfab, h.pageOf_eq_none, h.found]

theorem CheckUnitAt.recRead_eq (s : State) : s.recRead a = s.readWord .boot r i j 0 := by
  simp [State.recRead, h.pageOf_eq_none, h.found]

/-- The boot loader writes any register of a check-value unit while records wait (R48). -/
theorem CheckUnitAt.boot_mayWrite {s : State} (hjobs : s.boot.jobs ≠ []) : s.mayWrite .boot r i = true := by
  have hne : ∀ q : Reg, q.block ≠ 11 → r ≠ q := fun q hq hrq => hq (hrq ▸ h.block)
  simp [State.mayWrite, State.applying, hjobs, hne .PSW_PLAN (by decide), hne .PMU_PARKACK (by decide)]

/-- A write by the boot loader stores the word as the access codes of its fields have it (R14). -/
theorem CheckUnitAt.busWrite_eq {s : State} (v : Word) (hfab : s.domOn domFAB = true) (hwr : r.writable = true)
    (hjobs : s.boot.jobs ≠ []) : s.busWrite .boot a v = s.setWord r i j 0 (s.written r i j 0 v) := by
  have hc : s.carries a := ⟨hfab, h.inside, h.blockOn_eq hfab, h.not_inStencils, h.pageOf_eq_none⟩
  rw [State.busWrite_register .boot v hc h.aligned h.found,
    State.regWrite_plain _ _ _ _ _ _ (not_mem_ownPathRegs_of_block (.inl h.block)),
    State.owned_of_mayWrite _ _ _ hfab (State.carries_block hc h.found).2 (h.boot_mayWrite hjobs)]
  simp [h.not_wide, State.wordWrite_checkOrAccess _ _ _ _ _ _ (.inl h.block) hwr]

theorem CheckUnitAt.addr_ne {q : Reg} {i' j' w' : Nat} (hq : q.addr i' j' w' < 0x40B00000 ∨ 0x40C00000 ≤ q.addr i' j' w') :
    q.addr i' j' w' ≠ r.addr i j 0 := by
  have hrange := h.range
  rw [h.addr_eq]
  omega

end

theorem recAddr_aligned (ws : List Word) : recAddr ws % 4 = 0 := Nat.mul_mod_left _ _

/-! ### What a write of a word leaves of another -/

theorem State.changed_setWord_ne (s : State) (r r' : Reg) (i j w i' j' w' : Nat) (v : Word)
    (h : r.addr i j w ≠ r'.addr i' j' w') : (s.setWord r i j w v).changed r' i' j' w' = s.changed r' i' j' w' := by
  simp [State.changed, State.word_setWord_ne _ _ _ _ _ _ _ _ _ _ h]

theorem State.written_setWord_ne (s : State) (r r' : Reg) (i j w i' j' w' : Nat) (v u : Word)
    (h : r.addr i j w ≠ r'.addr i' j' w') : (s.setWord r i j w v).written r' i' j' w' u = s.written r' i' j' w' u := by
  rw [State.written, State.written, State.word_setWord_ne _ _ _ _ _ _ _ _ _ _ h, State.changed_setWord_ne _ _ _ _ _ _ _ _ _ _ h]

/-! ### The record in front -/

/-- A state with other register block records waiting. -/
def State.withJobs (s : State) (js : List RecJob) : State := { s with boot := { s.boot with jobs := js } }

@[simp] theorem State.withJobs_jobs (s : State) (js : List RecJob) : (s.withJobs js).boot.jobs = js := rfl
@[simp] theorem State.withJobs_get (s : State) (js : List RecJob) (f : Fld) (i j : Nat) :
    (s.withJobs js).get f i j = s.get f i j := rfl
@[simp] theorem State.withPending_boot (t : State) (q : List Instr) : (t.withPending q).boot = t.boot := rfl

/-- The count of a record that was applied: one of the configuration counts, one of a restarted partition does not. -/
def State.recCounted (s : State) (j : RecJob) : State := if j.part.isNone then s.bump F.SYS_REGBLK_APPLIED else s

/-- The counts of a record that failed. -/
def State.recMissed (s : State) (j : RecJob) : State :=
  (s.bump F.SYS_REGBLK_FAILED).put F.SYS_REGLAST_LAST ((j.words.headD 0).toNat / 4)

@[simp] theorem State.recCounted_boot (s : State) (j : RecJob) : (s.recCounted j).boot = s.boot := by
  unfold State.recCounted; split <;> simp

theorem State.recCounted_word (s : State) (j : RecJob) (r : Reg) (i k w : Nat)
    (h : Reg.addr .SYS_REGBLK 0 0 0 ≠ r.addr i k w) : (s.recCounted j).word r i k w = s.word r i k w := by
  unfold State.recCounted
  split
  · exact State.word_bump_ne _ F.SYS_REGBLK_APPLIED _ _ _ _ _ _ h
  · rfl

theorem State.recCounted_oneMore (s : State) {j : RecJob} (h : j.part = none) :
    (s.recCounted j).oneMore s F.SYS_REGBLK_APPLIED := by
  rw [State.recCounted, h]
  exact State.get_bump_same s F.SYS_REGBLK_APPLIED 0 0 ⟨by decide, by decide⟩

theorem State.recMissed_oneMore (s : State) (j : RecJob) : (s.recMissed j).oneMore s F.SYS_REGBLK_FAILED := by
  rw [State.oneMore, State.recMissed, State.get_put_elsewhere _ F.SYS_REGLAST_LAST F.SYS_REGBLK_FAILED _ _ _ _ _ (by decide)]
  exact State.get_bump_same s F.SYS_REGBLK_FAILED 0 0 ⟨by decide, by decide⟩

theorem State.recMissed_last (s : State) (j : RecJob) :
    (s.recMissed j).get F.SYS_REGLAST_LAST = (j.words.headD 0).toNat / 4 := by
  have hlt := (j.words.headD 0).isLt
  rw [State.recMissed, State.get_put_same _ F.SYS_REGLAST_LAST _ _ _ ⟨by decide, by decide⟩]
  exact Nat.mod_eq_of_lt (show _ < 2 ^ 30 by omega)

section
variable {s : State} {j : RecJob} {js : List RecJob} {x : Word} {more : List Word}
  (hjobs : s.boot.jobs = j :: js) (hmore : j.words.drop (recLen j.words) = x :: more)
include hjobs hmore

theorem State.recDone_true : s.recDone true = (s.recCounted j).withJobs ({ j with words := x :: more, wait := none } :: js) := by
  simp [State.recDone, hjobs, hmore, State.recCounted, State.withJobs]

theorem State.recDone_false : s.recDone false = (s.recMissed j).withJobs ({ j with words := x :: more, wait := none } :: js) := by
  simp [State.recDone, hjobs, hmore, State.recMissed, State.withJobs]

end

/-- A record stands in front, no wait is in progress, and 200 µs have passed since the last turn-on (R131). -/
theorem State.recHead_eq {s : State} {j : RecJob} {js : List RecJob} {w : Word} {rest : List Word} {op : Nat}
    (hjobs : s.boot.jobs = j :: js) (hwait : j.wait = none) (hwords : j.words = w :: rest) (hop : bitsOf w 1 0 = op)
    (hat : j.part = none → s.boot.domAt + 200 * usUnits ≤ s.now) :
    s.recHead op = some ((w :: rest).take (recLen (w :: rest))) := by
  have hdue : j.part.isSome = true ∨ s.boot.domAt + 200 * usUnits ≤ s.now := by
    cases hp : j.part with
    | none => exact .inr (hat hp)
    | some n => exact .inl rfl
  simp [State.recHead, hjobs, hwait, hwords, hop, hdue]

/-! ### Records of each kind -/

section
variable {w c : Word} {more : List Word}

theorem recLen_write (h : bitsOf w 1 0 = 0) : recLen (w :: more) = 2 := by simp [recLen, h]
theorem recLen_burst (h : bitsOf w 1 0 = 1) : recLen (w :: c :: more) = 2 + c.toNat := by simp [recLen, h]
theorem recLen_masked (h : bitsOf w 1 0 = 2) : recLen (w :: more) = 3 := by simp [recLen, h]
theorem recLen_wait (h : bitsOf w 1 0 = 3) : recLen (w :: more) = 4 := by simp [recLen, h]

end

/-- What a record that wrote leaves, where another follows it: words outside the counts as they were, and the count. -/
theorem State.recDone_true_leaves {s u : State} {j : RecJob} {js : List RecJob} {x : Word} {more : List Word}
    (hboot : u.boot = s.boot) (hcount : u.get F.SYS_REGBLK_APPLIED = s.get F.SYS_REGBLK_APPLIED)
    (hjobs : s.boot.jobs = j :: js) (hwait : j.wait = none) (hmore : j.words.drop (recLen j.words) = x :: more) :
    (∀ r i k w, Reg.addr .SYS_REGBLK 0 0 0 ≠ r.addr i k w → (u.recDone true).word r i k w = u.word r i k w) ∧
      (u.recDone true).boot.jobs = { j with words := x :: more } :: js ∧
      (j.part = none → (u.recDone true).oneMore s F.SYS_REGBLK_APPLIED) := by
  rw [State.recDone_true (by rw [hboot, hjobs]) hmore]
  refine ⟨fun r i k w h => State.recCounted_word u j r i k w h, by rw [State.withJobs_jobs, ← hwait], fun hp => ?_⟩
  rw [State.oneMore, ← hcount]
  exact State.recCounted_oneMore u hp

theorem CheckUnitAt.get_setWord_applied {a i j : Nat} {r : Reg} (h : CheckUnitAt a r i j) (s : State) (v : Word) :
    (s.setWord r i j 0 v).get F.SYS_REGBLK_APPLIED = s.get F.SYS_REGBLK_APPLIED := by
  rw [State.get, State.get, State.word_setWord_ne _ _ _ _ _ _ _ _ _ _ (h.addr_ne (.inr (by decide))).symm]

theorem CheckUnitAt.addr_regblk_ne {a i j : Nat} {r : Reg} (h : CheckUnitAt a r i j) :
    Reg.addr .SYS_REGBLK 0 0 0 ≠ r.addr i j 0 := h.addr_ne (.inr (by decide))

/-- Settles O9: each record is read off the front of its job, and its write followed over the fabric to its register. -/
theorem registerRecordsComplete : Obligations.RegisterRecordsComplete := by
  refine ⟨?write, ?burst, ?masked, ?wait, ?satisfied, ?timeout⟩
  case write =>
    intro s js j w v x more r i k n hjobs hwait hwords hop hat hfab hn hreg hblk hwr _ hin
    have hu : CheckUnitAt n r i k := ⟨hin, hreg, hblk, hn ▸ recAddr_aligned _⟩
    have hhead := State.recHead_eq hjobs hwait hwords hop hat
    rw [recLen_write hop] at hhead
    have hmore : j.words.drop (recLen j.words) = x :: more := by rw [hwords, recLen_write hop]; rfl
    have hbus := hu.busWrite_eq v hfab hwr (by simp [hjobs])
    obtain ⟨hword, hj, hcount⟩ := State.recDone_true_leaves (u := s.busWrite .boot n v) (by simp [hbus])
      (by rw [hbus, hu.get_setWord_applied]) hjobs hwait hmore
    refine .of_ends ((s.busWrite .boot n v).recDone true) ?_ ⟨?_, hj, hcount⟩
    · change execWriteRecord s = _
      simp [execWriteRecord, hhead, hn, hu.recOk_eq hfab]
    · rw [State.withPending_word, hword _ _ _ _ hu.addr_regblk_ne, hbus, State.word_setWord_same]
  case burst =>
    intro s js j w c v v2 x more r r2 i k i2 k2 n hjobs hwait hwords hop hc hat hfab hn hreg hreg2 hblk hblk2 hwr hwr2 hin hin2
    have h4 : n % 4 = 0 := hn ▸ recAddr_aligned _
    have hu : CheckUnitAt n r i k := ⟨hin, hreg, hblk, h4⟩
    have hu2 : CheckUnitAt (n + 4) r2 i2 k2 := ⟨hin2, hreg2, hblk2, by omega⟩
    have hne : r.addr i k 0 ≠ r2.addr i2 k2 0 := by rw [hu.addr_eq, hu2.addr_eq]; omega
    have hlen : recLen (w :: c :: v :: v2 :: x :: more) = 4 := by rw [recLen_burst hop, hc]; rfl
    have hhead := State.recHead_eq hjobs hwait hwords hop hat
    rw [hlen] at hhead
    have hmore : j.words.drop (recLen j.words) = x :: more := by rw [hwords, hlen]; rfl
    have hbus := hu.busWrite_eq v hfab hwr (by simp [hjobs])
    have hbus2 := hu2.busWrite_eq (s := s.busWrite .boot n v) v2 (by simpa [hbus, State.domOn] using hfab) hwr2
      (by simp [hbus, hjobs])
    obtain ⟨hword, hj, hcount⟩ := State.recDone_true_leaves (u := (s.busWrite .boot n v).busWrite .boot (n + 4) v2)
      (by rw [hbus2, State.setWord_boot, hbus, State.setWord_boot])
      (by rw [hbus2, hu2.get_setWord_applied, hbus, hu.get_setWord_applied]) hjobs hwait hmore
    refine .of_ends (((s.busWrite .boot n v).busWrite .boot (n + 4) v2).recDone true) ?_ ⟨?_, ?_, hj, hcount⟩
    · change execBurstRecord s = _
      simp [execBurstRecord, hhead, hn, hc, hu.recOk_eq hfab, hu2.recOk_eq hfab, List.range_succ]
    · rw [State.withPending_word, hword _ _ _ _ hu.addr_regblk_ne, hbus2, State.word_setWord_ne _ _ _ _ _ _ _ _ _ _ hne.symm,
        hbus, State.word_setWord_same]
    · rw [State.withPending_word, hword _ _ _ _ hu2.addr_regblk_ne, hbus2, State.word_setWord_same, hbus,
        State.written_setWord_ne _ _ _ _ _ _ _ _ _ _ _ hne]
  case masked =>
    intro s js j w m v x more r i k n hjobs hwait hwords hop hat hfab hn hreg hblk hwr hin
    have hu : CheckUnitAt n r i k := ⟨hin, hreg, hblk, hn ▸ recAddr_aligned _⟩
    have hhead := State.recHead_eq hjobs hwait hwords hop hat
    rw [recLen_masked hop] at hhead
    have hmore : j.words.drop (recLen j.words) = x :: more := by rw [hwords, recLen_masked hop]; rfl
    have hbus := hu.busWrite_eq ((s.recRead n &&& ~~~ m) ||| (v &&& m)) hfab hwr (by simp [hjobs])
    obtain ⟨hword, hj, -⟩ := State.recDone_true_leaves (u := s.busWrite .boot n ((s.recRead n &&& ~~~ m) ||| (v &&& m)))
      (by simp [hbus]) (by rw [hbus, hu.get_setWord_applied]) hjobs hwait hmore
    refine .of_ends ((s.busWrite .boot n ((s.recRead n &&& ~~~ m) ||| (v &&& m))).recDone true) ?_ ⟨?_, hj⟩
    · change execMaskedWriteRecord s = _
      simp [execMaskedWriteRecord, hhead, hn, hu.recOk_eq hfab]
    · rw [State.withPending_word, hword _ _ _ _ hu.addr_regblk_ne, hbus, State.word_setWord_same, hu.recRead_eq]
  case wait =>
    intro s js j w m v u x more n hjobs hwait hwords hop hat hn hok hlow hhigh hne
    have hhead := State.recHead_eq hjobs hwait hwords hop hat
    rw [recLen_wait hop] at hhead
    refine .of_ends (s.withJobs ({ j with wait := some (n, m, v, s.now + u.toNat * usUnits) } :: js)) ?_ rfl
    change execWaitRecord s = _
    have hnot : ¬ (u.toNat = 0 ∨ 10000 < u.toNat) := by omega
    simp [execWaitRecord, hhead, hjobs, hn, hok, hnot, hne, State.withJobs]
  case satisfied =>
    intro s js j w m v u x m2 v2 more n dl hjobs hwords hop hwait hval
    have hmore : j.words.drop (recLen j.words) = x :: more := by rw [hwords, recLen_wait hop]; rfl
    refine .of_ends (s.recDone true) ?_ ?_
    · change execWaitRecordSatisfied s = _
      simp [execWaitRecordSatisfied, hjobs, hwait, hval]
    · rw [State.recDone_true hjobs hmore]
      exact ⟨rfl, fun hp => State.recCounted_oneMore s hp⟩
  case timeout =>
    intro s js j w m v u x m2 v2 more n dl hjobs hwords hop hwait hend
    have hmore : j.words.drop (recLen j.words) = x :: more := by rw [hwords, recLen_wait hop]; rfl
    refine .of_ends (s.recDone false) ?_ ?_
    · change execWaitRecordTimeout s = _
      simp [execWaitRecordTimeout, hjobs, hwait, hend]
    · rw [State.recDone_false hjobs hmore]
      refine ⟨rfl, State.recMissed_oneMore s j, ?_⟩
      rw [State.withPending_get, State.withJobs_get, State.recMissed_last, hwords]
      rfl

end Sys2Proof.Machine
end

section
/-! What the steps of the bring-up leave: domain turn-ons, the SRAM test, the flash probe, the end of service-only state, and a part
that is accepted (R107, R119, R131, R133, R139). -/

namespace Sys2Proof.Machine

/-! ### Bits -/

theorem bit_eq_testBit (v k : Nat) : bit v k = v.testBit k := by
  rw [Nat.testBit_eq_decide_div_mod_eq]
  rfl

theorem bit_setBit_same (v k : Nat) : bit (setBit v k true) k = true := by
  unfold setBit
  split
  · assumption
  · simp_all [bit_eq_testBit, Nat.add_comm v, Nat.testBit_two_pow_add_eq]

theorem setBit_of_lt {v k : Nat} (h : v < 2 ^ k) : setBit v k true = 2 ^ k + v := by
  simp [setBit, bit_eq_testBit, Nat.testBit_lt_two_pow h, Nat.add_comm]

/-- The numbers below n that a test picks out, as a mask. -/
def maskBelow (p : Nat → Bool) (n : Nat) : Nat := (List.range n).foldl (fun m b => if p b then setBit m b true else m) 0

theorem maskBelow_succ (p : Nat → Bool) (n : Nat) :
    maskBelow p (n + 1) = if p n then setBit (maskBelow p n) n true else maskBelow p n := by
  simp [maskBelow, List.range_succ]

theorem maskBelow_lt (p : Nat → Bool) (n : Nat) : maskBelow p n < 2 ^ n := by
  induction n with
  | zero => simp [maskBelow]
  | succ n ih =>
    rw [maskBelow_succ, Nat.pow_succ]
    split
    · rw [setBit_of_lt ih]
      omega
    · omega

theorem bit_maskBelow (p : Nat → Bool) {n b : Nat} (h : b < n) : bit (maskBelow p n) b = p b := by
  induction n with
  | zero => cases h
  | succ n ih =>
    have hlt := maskBelow_lt p n
    rw [maskBelow_succ]
    rcases Nat.lt_succ_iff_lt_or_eq.mp h with hb | rfl
    · rw [← ih hb]
      split
      · rw [setBit_of_lt hlt, bit_eq_testBit, bit_eq_testBit, Nat.testBit_two_pow_add_gt hb]
      · rfl
    · split
      · rw [bit_setBit_same, ‹p b = true›]
      · simp_all [bit_eq_testBit, Nat.testBit_lt_two_pow hlt]

/-! ### Domains (R131) -/

/-- A state has the clock, the domains and the bring-up of another. -/
@[simp] abbrev State.steady (s t : State) : Prop := t.now = s.now ∧ t.dom = s.dom ∧ t.boot = s.boot

theorem State.steady.trans {s t u : State} (h : s.steady t) (h' : t.steady u) : s.steady u :=
  ⟨h'.1.trans h.1, h'.2.1.trans h.2.1, h'.2.2.trans h.2.2⟩

theorem State.steady_ite {c : Prop} [Decidable c] {s t u : State} (ht : s.steady t) (hu : s.steady u) :
    s.steady (if c then t else u) := by
  split
  · exact ht
  · exact hu

theorem State.steady_foldl {α : Type} (l : List α) {f : State → α → State} (h : ∀ (t : State) a, t.steady (f t a)) (s : State) :
    s.steady (l.foldl f s) :=
  List.foldlRecOn (motive := fun t => s.steady t) l f ⟨rfl, rfl, rfl⟩ fun t ht a _ => ht.trans (h t a)

@[simp] theorem State.steady_logDrain (s : State) : s.steady s.logDrain :=
  State.steady_foldl _ (fun t e => by simp) _

@[simp] theorem State.steady_putAligned (s : State) : s.steady s.putAligned := by simp [State.putAligned]

@[simp] theorem State.steady_bootRefresh (s : State) : s.steady s.bootRefresh := by
  unfold State.bootRefresh
  split
  · exact ⟨rfl, rfl, rfl⟩
  · simp

theorem State.steady_coarseEvents (s : State) :
    s.steady ((List.range 4).foldl (fun t n => t.eventAtStart n 0 1 0xFFFF) ((s.raise F.TIM_STAT_COARSE).cum 30)) := by
  have h := State.steady_foldl (List.range 4) (f := fun t n => t.eventAtStart n 0 1 0xFFFF) (fun t n => by simp)
    ((s.raise F.TIM_STAT_COARSE).cum 30)
  simpa [State.raise, State.noted, State.setChanged] using h

/-- A domain as its switch-on finds it: on, with T0 handed back where the domain is PD-TIM (R146). -/
def State.poweredUp (s : State) (d : Nat) : State :=
  let t := if d = domTIM ∧ s.boot.kind ≠ 0 then s.coarseResume else s
  { t.setDom d true with boot := { t.boot with domAt := t.now } }

theorem State.steady_domSwitchOn (s : State) (d : Nat) : (s.poweredUp d).steady (s.domSwitchOn d) := by
  have haligned : ∀ t : State, t.steady (if t.domOn domTIM then t.putAligned else t) := fun t =>
    State.steady_ite t.steady_putAligned ⟨rfl, rfl, rfl⟩
  unfold State.domSwitchOn
  refine State.steady.trans ?_ (haligned _)
  exact State.steady_ite (State.steady_logDrain _) (State.steady_ite (State.steady_coarseEvents _) ⟨rfl, rfl, rfl⟩)

theorem State.domOn_setDom (s : State) (d : Nat) : (s.setDom d true).domOn d = true := bit_setBit_same s.dom d

/-- A domain that is switched on is on from that instant, which no other than PD-TIM moves. -/
theorem State.domSwitchOn_leaves (s : State) (d : Nat) :
    (s.domSwitchOn d).domOn d = true ∧ (s.domSwitchOn d).boot = { s.boot with domAt := (s.domSwitchOn d).now } ∧
      (d ≠ domTIM → (s.domSwitchOn d).now = s.now) := by
  obtain ⟨hnow, hdom, hboot⟩ := s.steady_domSwitchOn d
  refine ⟨?_, ?_, fun hd => ?_⟩
  · rw [State.domOn, hdom]
    exact State.domOn_setDom _ d
  · rw [hboot, hnow, State.poweredUp]
    split <;> rfl
  · rw [hnow, State.poweredUp, if_neg (fun h => hd h.1)]
    rfl

/-- While other domains wait, a turn-on leaves the bring-up at its step. -/
theorem State.domNext_leaves {s : State} {d e : Nat} {ds : List Nat} (h : s.boot.doms = d :: e :: ds) :
    s.domNext.domOn d = true ∧ s.domNext.boot.doms = e :: ds ∧ s.domNext.boot.domAt = s.domNext.now ∧
      (d ≠ domTIM → s.domNext.now = s.now) := by
  obtain ⟨hon, hboot, hnow⟩ := State.domSwitchOn_leaves { s with boot := { s.boot with doms := e :: ds } } d
  have hnext : State.steady (State.domSwitchOn { s with boot := { s.boot with doms := e :: ds } } d) s.domNext := by
    simp only [State.domNext, h, ne_eq, reduceCtorEq, not_false_eq_true, if_true]
    split
    · split <;> simp
    · exact State.steady_bootRefresh _
  obtain ⟨hnow', hdom', hboot'⟩ := hnext
  rw [State.domOn, hdom', hboot', hnow', hboot]
  exact ⟨hon, rfl, rfl, hnow⟩

/-! ### Steps of R130 -/

theorem State.get_bootRefresh (s : State) (f : Fld) (i j : Nat) : s.bootRefresh.get f i j = s.get f i j := by
  unfold State.bootRefresh
  split <;> rfl

theorem State.bootStep_boot (s : State) (n : Nat) : (s.bootStep n).boot = { s.boot with step := n } :=
  (State.steady_bootRefresh _).2.2

theorem State.get_bootStep (s : State) (n : Nat) (f : Fld) (i j : Nat) : (s.bootStep n).get f i j = s.get f i j :=
  State.get_bootRefresh _ f i j

/-! ### The SRAM test (R133, R134) -/

/-- The banks that the SRAM test shows as lost. -/
def State.lostBanks (s : State) (faulty : List Nat) : Nat := maskBelow (fun b => (s.repairRows faulty b).isNone) 16

/-- A bank is lost if it has more faulty rows than spares. -/
theorem State.repairRows_isNone (s : State) (faulty : List Nat) (b : Nat) :
    (s.repairRows faulty b).isNone = true ↔
      8 < ((faulty.filter (fun a => a / 0x80000 == 0x200 + b)).eraseDups).length := by
  unfold State.repairRows
  dsimp only
  split <;> simp_all

theorem State.get_bumpBy_ne (s : State) (f g : Fld) (n i j i' j' : Nat)
    (h : f.reg.addr i j f.word ≠ g.reg.addr i' j' g.word) : (s.bumpBy f n i j).get g i' j' = s.get g i' j' := by
  rw [State.bumpBy, State.get_put_elsewhere _ f g _ _ _ _ _ h]
  rfl

theorem State.get_eventAtStart_ne (s : State) (n block code item a0 a1 : Nat) (f : Fld) (i j : Nat)
    (h : Reg.addr .ERR_CUM 27 0 0 ≠ f.reg.addr i j f.word) :
    (s.eventAtStart n block code item a0 a1).get f i j = s.get f i j := by
  unfold State.eventAtStart
  split
  · exact State.get_event_ne _ _ _ _ _ _ _ _ _ _ h
  · rfl

theorem State.get_foldl {α : Type} (l : List α) {f : State → α → State} (g : Fld) (i j : Nat)
    (h : ∀ (t : State) a, (f t a).get g i j = t.get g i j) (s : State) : (l.foldl f s).get g i j = s.get g i j :=
  List.foldlRecOn (motive := fun t => t.get g i j = s.get g i j) l f rfl fun t ht a _ => (h t a).trans ht

/-- The repair map of the SRAM test: the rows that it replaces, each with its spare. -/
def State.repairMap (s : State) (faulty : List Nat) : List (Nat × Nat) :=
  (((List.range 16).map (fun b => (b, s.repairRows faulty b))).map (fun c => (c.2.getD []).zipIdx)).flatten

/-- The result of the SRAM test in its registers, and the repair map in use. -/
def State.sramShown (s : State) (faulty : List Nat) : State :=
  let n := (s.repairMap faulty).length
  let t := ((s.put F.SYS_SRAMREP_LOST (s.lostBanks faulty)).put F.SYS_SRAMREP_ROWS (min 255 n)).cumBy 25 n
  { t with boot := { t.boot with sramDone := true }
           integ := { t.integ with weak := [], repair := s.repairMap faulty, mapped := s.repairMap faulty } }

/-- The events that tell every partition of the banks that are lost. -/
def State.bankEvents (s : State) (lost : Nat) : State :=
  (bitList 16 lost).foldl (fun t b => (List.range 4).foldl (fun u n => u.eventAtStart n 15 3 0xFFFF b) t) s

theorem State.sramTested_eq (s : State) (faulty : List Nat) :
    s.sramTested faulty = ((s.sramShown faulty).bankEvents (s.lostBanks faulty)).bootRefresh := by
  have hmask : ((List.range 16).map (fun b => (b, s.repairRows faulty b))).foldl
      (fun m c => if c.2.isNone then setBit m c.1 true else m) 0 = s.lostBanks faulty := by
    rw [List.foldl_map]
    rfl
  simp only [State.sramTested, hmask]
  rfl

theorem State.bankEvents_boot (s : State) (lost : Nat) : (s.bankEvents lost).boot = s.boot :=
  (State.keeps_foldl _ (fun t b => State.keeps_foldl _ (fun u n => by simp) t) s).2

theorem State.bankEvents_lost (s : State) (lost : Nat) :
    (s.bankEvents lost).get F.SYS_SRAMREP_LOST = s.get F.SYS_SRAMREP_LOST :=
  State.get_foldl _ _ _ _ (fun t b => State.get_foldl _ _ _ _
    (fun u n => State.get_eventAtStart_ne u n 15 3 0xFFFF b 0 _ _ _ (by decide)) t) s

theorem State.sramShown_lost (s : State) (faulty : List Nat) :
    (s.sramShown faulty).get F.SYS_SRAMREP_LOST = s.lostBanks faulty := by
  have hcum : (s.sramShown faulty).get F.SYS_SRAMREP_LOST =
      ((s.put F.SYS_SRAMREP_LOST (s.lostBanks faulty)).put F.SYS_SRAMREP_ROWS (min 255 (s.repairMap faulty).length)).get
        F.SYS_SRAMREP_LOST := State.get_bumpBy_ne _ F.ERR_CUM_COUNT F.SYS_SRAMREP_LOST _ _ _ _ _ (by decide)
  rw [hcum, State.get_put_apart _ F.SYS_SRAMREP_ROWS F.SYS_SRAMREP_LOST _ _ _ ⟨by decide, by decide⟩ rfl rfl (by decide),
    State.get_put_same _ F.SYS_SRAMREP_LOST _ _ _ ⟨by decide, by decide⟩]
  exact Nat.mod_eq_of_lt (maskBelow_lt _ 16)

/-- The SRAM test ends, and the banks with more faulty rows than spares are shown as lost. -/
theorem State.sramTested_leaves (s : State) (faulty : List Nat) :
    (s.sramTested faulty).boot.sramDone = true ∧ (s.sramTested faulty).get F.SYS_SRAMREP_LOST = s.lostBanks faulty := by
  rw [State.sramTested_eq, State.get_bootRefresh, State.bankEvents_lost, State.sramShown_lost,
    (State.steady_bootRefresh _).2.2, State.bankEvents_boot]
  exact ⟨rfl, rfl⟩

/-- What the end of the SRAM test leaves: a generation that was selected before goes on to its parts. -/
def State.sramEnded (s : State) (faulty : List Nat) : State :=
  if s.boot.step = 5 then (s.sramTested faulty).bootStep 6 else s.sramTested faulty

theorem State.sramEnded_leaves (s : State) (faulty : List Nat) :
    (s.sramEnded faulty).boot.sramDone = true ∧ (s.sramEnded faulty).get F.SYS_SRAMREP_LOST = s.lostBanks faulty := by
  unfold State.sramEnded
  split
  · rw [State.bootStep_boot, State.get_bootStep]
    exact s.sramTested_leaves faulty
  · exact s.sramTested_leaves faulty

/-! ### The flash probe (R107, R139) -/

theorem State.serviceOn_boot (s : State) (cause : Nat) : (s.serviceOn cause).boot =
    { s.boot with step := 12, doms := [domNET], jobs := [], parts := [], serviceAt := some s.now } := by
  simp [State.serviceOn]

theorem State.serviceOn_cause (s : State) {cause : Nat} (h : cause < 16) :
    (s.serviceOn cause).get F.SYS_BOOTSTAT_CAUSE = cause := by
  have hlog : (s.serviceOn cause).get F.SYS_BOOTSTAT_CAUSE =
      ((s.put F.SYS_BOOTSTAT_STATE 2).put F.SYS_BOOTSTAT_CAUSE cause).get F.SYS_BOOTSTAT_CAUSE :=
    congrArg (fun v => bitsOf v 19 16) (State.word_logEntry_ne _ _ _ _ _ _ .SYS_BOOTSTAT 0 0 0 (by decide) (by decide))
  rw [hlog, State.get_put_same _ F.SYS_BOOTSTAT_CAUSE _ _ _ ⟨by decide, by decide⟩]
  exact Nat.mod_eq_of_lt h

/-- The selection of a generation keeps what the probe found, and without the first chip-select leads to service-only state. -/
theorem State.selectGen_leaves (s : State) :
    s.selectGen.boot.cs = s.boot.cs ∧ s.selectGen.boot.probed = s.boot.probed ∧
      (bit s.boot.cs 0 = false → s.selectGen.boot.step = 12 ∧ s.selectGen.get F.SYS_BOOTSTAT_CAUSE = 1) := by
  unfold State.selectGen
  split
  · rw [State.serviceOn_boot]
    exact ⟨rfl, rfl, fun _ => ⟨rfl, State.serviceOn_cause s (by decide)⟩⟩
  · next hcs =>
    have hgood : bit s.boot.cs 0 ≠ false := by simpa using hcs
    split
    · rw [State.serviceOn_boot]
      exact ⟨rfl, rfl, fun h => absurd h hgood⟩
    · dsimp only
      split
      · rw [State.bootStep_boot]
        exact ⟨rfl, rfl, fun h => absurd h hgood⟩
      · rw [(State.steady_bootRefresh _).2.2]
        exact ⟨rfl, rfl, fun h => absurd h hgood⟩

/-- The verdicts of the probe on the two chip-selects. -/
def csHeld (f0 f1 : FlashId) : Nat := (if flashConforms f0 then 1 else 0) + (if flashConforms f1 then 2 else 0)

theorem bit_csHeld {f0 f1 : FlashId} (h : flashConforms f0 = false) : bit (csHeld f0 f1) 0 = false := by
  cases hf : flashConforms f1 <;> simp [csHeld, h, hf, bit]

/-- The verdicts of the probe in the bring-up and in SYS_BOOTSTAT. -/
def State.probeShown (s : State) (f0 f1 : FlashId) : State :=
  ({ s with boot := { s.boot with cs := csHeld f0 f1 } }.put F.SYS_BOOTSTAT_CS0OK (csHeld f0 f1 % 2)).put F.SYS_BOOTSTAT_CS1OK
    (csHeld f0 f1 / 2)

/-- The state in which a generation is selected after a probe. -/
def State.probeDone (s : State) (f0 f1 : FlashId) : State :=
  { s.probeShown f0 f1 with boot := { (s.probeShown f0 f1).boot with probed := true } }.bootStep 5

theorem exec_flashProbeEnd {s : State} (f0 f1 : FlashId) (hstep : s.boot.step = 4) (hkind : s.boot.kind ≠ 2) :
    exec (.flashProbeEnd f0 f1) s = s.ends (s.probeDone f0 f1).selectGen := by
  change execFlashProbeEnd f0 f1 s = _
  rw [execFlashProbeEnd, if_pos hstep]
  simp only [if_neg hkind]
  rfl

theorem State.probeDone_boot (s : State) (f0 f1 : FlashId) :
    (s.probeDone f0 f1).boot = { s.boot with cs := csHeld f0 f1, probed := true, step := 5 } := by
  rw [State.probeDone, State.bootStep_boot]
  simp [State.probeShown]

/-! ### Service-only state (R139) -/

theorem State.serviceEntry_pwr (s : State) : s.serviceEntry.pwr = 2 := by
  change ((s.setPwr 2).put F.PMU_STATE_PHASE 2).get F.PMU_STATE_STATE = 2
  rw [State.get_put_apart _ F.PMU_STATE_PHASE F.PMU_STATE_STATE _ _ _ ⟨by decide, by decide⟩ rfl rfl (by decide), State.setPwr,
    State.get_put_same _ F.PMU_STATE_STATE _ _ _ ⟨by decide, by decide⟩]
  rfl

theorem State.serviceEntry_phase (s : State) : s.serviceEntry.get F.PMU_STATE_PHASE = 2 :=
  State.get_put_same (s.setPwr 2) F.PMU_STATE_PHASE 2 0 0 ⟨by decide, by decide⟩

/-! ### Bytes of memory -/

theorem State.rd8_congr {s t : State} (h : t.mem = s.mem) (a : Nat) : t.rd8 a = s.rd8 a := by rw [State.rd8, State.rd8, h]

theorem State.rdBytes_congr {s t : State} (h : t.mem = s.mem) (a n : Nat) : t.rdBytes a n = s.rdBytes a n := by
  simp [State.rdBytes, State.rd8_congr h]

/-- Bytes that are written read back. -/
theorem State.rdBytes_wrBytes (s : State) (a : Nat) (bs : List Byte) : (s.wrBytes a bs).rdBytes a bs.length = bs := by
  induction bs generalizing s a with
  | nil => rfl
  | cons b bs ih =>
    have hfirst : ((s.wr8 a b).wrBytes (a + 1) bs).rd8 a = b := by
      rw [State.rd8_wrBytes_outside _ _ _ _ (by omega), State.rd8_wr8_same]
    have hrest := ih (s.wr8 a b) (a + 1)
    simp only [State.rdBytes] at hrest
    simp only [State.rdBytes, State.wrBytes, List.length_cons, List.range_succ_eq_map, List.map_cons, List.map_map, Nat.add_zero,
      hfirst]
    refine congrArg (b :: ·) (Eq.trans (List.map_congr_left fun k _ => ?_) hrest)
    simp [Nat.add_comm, Nat.add_left_comm]

/-- The memories after a write depend on the memories before it alone. -/
theorem State.wrBytes_mem_congr {s t : State} (h : t.mem = s.mem) (a : Nat) (bs : List Byte) :
    (t.wrBytes a bs).mem = (s.wrBytes a bs).mem := by
  induction bs generalizing s t a with
  | nil => exact h
  | cons b bs ih => exact ih (by rw [State.wr8, State.wr8, h]) (a + 1)

@[simp] theorem State.keeps_madeGood (s : State) (a n : Nat) : s.keeps (s.madeGood a n) := ⟨rfl, rfl⟩

/-! ### The directory of a generation (R115) -/

/-- Two states whose flash reads alike. -/
def State.sameFlash (s t : State) : Prop := ∀ a < 0x28000000, t.rd8 a = s.rd8 a

theorem genBase_lt (g : Nat) : genBase g < 0x27000000 := by
  unfold genBase
  split <;> omega

section
variable {s t : State} (h : s.sameFlash t)
include h

theorem State.sameFlash.rd32 {a : Nat} (ha : a + 3 < 0x28000000) : t.rd32 a = s.rd32 a := by
  rw [State.rd32, State.rd32, h a (by omega), h (a + 1) (by omega), h (a + 2) (by omega), h (a + 3) ha]

theorem State.sameFlash.nums {a n : Nat} (ha : a + n ≤ 0x28000000) : t.nums a n = s.nums a n := by
  have hbytes : t.rdBytes a n = s.rdBytes a n :=
    List.map_congr_left fun k hk => h (a + k) (by have := List.mem_range.mp hk; omega)
  rw [State.nums, State.nums, hbytes]

theorem State.sameFlash.dirGood (g : Nat) : t.dirGood g = s.dirGood g := by
  have hg := genBase_lt g
  simp only [State.dirGood]
  rw [h.nums (by omega), h.nums (by omega), h.rd32 (by omega)]

theorem State.sameFlash.dirEntry (g part : Nat) : t.dirEntry g part = s.dirEntry g part := by
  have hg := genBase_lt g
  have hread : ∀ k ∈ List.range 16, t.rd8 (genBase g + 0x10 + 16 * k) = s.rd8 (genBase g + 0x10 + 16 * k) := fun k hk =>
    h _ (by have := List.mem_range.mp hk; omega)
  have hfind := List.find?_congr (fun k hk => congrArg (fun b : Byte => b.toNat == part) (hread k hk))
  rw [State.dirEntry, State.dirEntry, h.dirGood, hfind]
  refine if_congr Iff.rfl (Option.map_congr fun k hk => ?_) rfl
  have hk16 := List.mem_range.mp (List.mem_of_find?_eq_some hk)
  rw [h.rd32 (by omega), h.rd32 (by omega)]

end

theorem State.sameFlash_of_mem {s t : State} (h : t.mem = s.mem) : s.sameFlash t := fun a _ => State.rd8_congr h a

theorem State.partHead_congr {s t : State} (h : t.mem = s.mem) (g part : Nat) : t.partHead g part = s.partHead g part := by
  simp [State.partHead, (State.sameFlash_of_mem h).dirEntry, State.rd32, State.rd8_congr h]

/-! ### Parts that need no check (R130, R138) -/

@[simp] theorem State.keeps_bootRefresh (s : State) : s.keeps s.bootRefresh := by
  simp [State.bootRefresh, State.wdRefresh, State.wdStart]

@[simp] theorem State.keeps_partCode (s : State) (part code : Nat) : s.keeps (s.partCode part code) := by
  simp [State.partCode]

/-- A part other than the stencil library that is not loaded is noted, and no memory changes. -/
theorem State.notLoaded_leaves (s : State) {part : Nat} (h : part ≠ 0x21) :
    (s.notLoaded part).mem = s.mem ∧ (s.notLoaded part).boot = { s.boot with missing := s.boot.missing ++ [part] } := by
  have hwipe : s.keeps (if part < 0x20 then s else s.tableWipe part) := by
    split
    · exact s.keeps_rfl
    · exact s.keeps_tableWipe h
  have hports : ∀ t : State, t.keeps (if part = 0x20 then (List.range 10).foldl (fun t p => t.put F.ESW_PCTL_EN 0 p) t else t) :=
    fun t => by
      split
      · exact State.keeps_foldl _ (fun t p => by simp) t
      · exact t.keeps_rfl
  obtain ⟨hmem, hboot⟩ := hwipe.trans (hports _)
  unfold State.notLoaded
  dsimp only
  rw [State.eventAtStart_mem, State.eventAtStart_boot, hboot]
  exact ⟨hmem, rfl⟩

/-- Whether a part is passed over because its domain is off. -/
def State.domainUnused (s : State) (part : Nat) : Bool :=
  match partDomain part with
  | some d => !s.domOn d
  | none => false

/-- A part that the generation lacks is passed over: the AON core without its image does not start, a restart in an activation ends. -/
def State.passedOver (s : State) (part : Nat) : State :=
  let s1 := (s.partCode part 0).notLoaded part
  let s2 := if part = 2 then { s1.setCore 5 Core.off with boot := { s1.boot with entries := Sparse.erase s1.boot.entries 4 } } else s1
  if s2.boot.kind = 3 ∧ 0x10 ≤ part then s2.restartDrop (part - 0x10) else s2

theorem State.partsNext_cons (s : State) (p : Nat) (ps : List Nat) :
    s.partsNext (p :: ps) =
      if s.partAbsent p then (s.partCode p 0).partsNext ps
      else if s.domainUnused p then (s.partCode p 3).partsNext ps
      else if (s.dirEntry s.boot.gen p).isNone then (s.passedOver p).partsNext ps
      else { s with boot := { s.boot with parts := p :: ps } } := by
  rw [State.partsNext]
  rfl

theorem State.partsNext_nil_mem {s : State} (hkind : s.boot.kind ≠ 3) : (s.partsNext []).mem = s.mem := by
  simp [State.partsNext, State.partsDone, hkind]

theorem State.passedOver_leaves {s : State} {part : Nat} (hpart : part ≠ 0x21) (hkind : s.boot.kind ≠ 3) :
    (s.passedOver part).mem = s.mem ∧ (s.passedOver part).boot.kind = s.boot.kind ∧
      (s.passedOver part).boot.gen = s.boot.gen := by
  obtain ⟨hmem, hboot⟩ := (s.partCode part 0).notLoaded_leaves hpart
  rcases eq_or_ne part 2 with rfl | h2
  · simp [State.passedOver, hboot, hmem]
  · simp [State.passedOver, h2, hboot, hmem, hkind]

/-- While the generation holds a stencil library, the passing over of parts leaves the memories as they are. -/
theorem State.partsNext_mem (ps : List Nat) {s : State} (hkind : s.boot.kind ≠ 3)
    (hdir : (s.dirEntry s.boot.gen 0x21).isSome = true) : (s.partsNext ps).mem = s.mem := by
  induction ps generalizing s with
  | nil => exact State.partsNext_nil_mem hkind
  | cons p ps ih =>
    have hnext : ∀ t : State, t.mem = s.mem → t.boot.kind = s.boot.kind → t.boot.gen = s.boot.gen →
        (t.partsNext ps).mem = s.mem := fun t hm hk hg => by
      rw [ih (by rwa [hk]) (by rwa [hg, (State.sameFlash_of_mem hm).dirEntry]), hm]
    rw [State.partsNext_cons]
    split_ifs with _ _ hnone
    · exact hnext _ (by simp) (by simp) (by simp)
    · exact hnext _ (by simp) (by simp) (by simp)
    · have hp : p ≠ 0x21 := by
        rintro rfl
        simp_all
      obtain ⟨hm, hk, hg⟩ := State.passedOver_leaves hp hkind
      exact hnext _ hm hk hg
    · rfl

/-! ### The stencil library (R119, R120) -/

/-- A part whose opening fails has a reason. -/
theorem State.partOpen_error {s : State} {a why : Nat} (h : s.partOpen a = .error why) : why ≠ 0 := by
  rintro rfl
  simp only [State.partOpen] at h
  split at h
  · cases h
  split at h
  · cases h
  split at h
  · cases h
  split at h <;> cases h

theorem State.loadAt_stencils (s : State) (core load len : Nat) :
    s.loadAt 0x21 core load len = if 0x405A0000 ≤ load ∧ load + len ≤ 0x405B0000 then some load else none := by
  simp [State.loadAt]

theorem State.partJudge_core (s : State) (g core verdict : Nat) :
    s.partJudge g 0x21 core verdict = s.partJudge g 0x21 0x11 verdict := by
  simp only [State.partJudge, State.loadAt_stencils]

/-- A stencil library that is accepted lies within stencil program memory. -/
theorem State.stencils_within {s : State} {g verdict h len load e : Nat} {body : List Byte}
    (hhead : s.partHead g 0x21 = some (h, len, load, e)) (hjudge : s.partJudge g 0x21 0x11 verdict = (0, body)) :
    0x405A0000 ≤ load ∧ load + len ≤ 0x405B0000 := by
  by_contra hout
  have hnone : (s.loadAt 0x21 0x11 load len).isNone = true := by rw [State.loadAt_stencils, if_neg hout]; rfl
  unfold State.partJudge at hjudge
  rw [hhead] at hjudge
  split at hjudge
  · next heq =>
    cases heq
    simp only [hnone, if_true] at hjudge
    split at hjudge
    · simp at hjudge
    split at hjudge
    · simp at hjudge
    split at hjudge
    · next why herr => exact State.partOpen_error herr (congrArg Prod.fst hjudge)
    · simp at hjudge
  · simp at hjudge

/-- A state in which a part counts as missing no longer. -/
def State.present (s : State) (part : Nat) : State :=
  { s with boot := { s.boot with missing := s.boot.missing.filter (fun p => p != part) } }

/-- An accepted stencil library is written to its LOAD address (R119). -/
theorem State.partUse_stencils {s : State} {g h len load e : Nat} (body : List Byte) (vs : List (Nat × Word))
    (hkind : s.boot.kind ≠ 3) (hhead : s.partHead g 0x21 = some (h, len, load, e))
    (hwithin : 0x405A0000 ≤ load ∧ load + len ≤ 0x405B0000) :
    s.partUse g 0x21 body vs = ((s.present 0x21).wrBytes load body).madeGood load body.length := by
  have hload : ∀ t : State, t.mem = s.mem → t.partLoad g 0x21 0 body = (t.wrBytes load body).madeGood load body.length :=
    fun t ht => by simp [State.partLoad, State.partHead_congr ht, hhead, State.loadAt_stencils, hwithin]
  simp [State.partUse, State.tableClear, State.present, hkind, hload]

/-- The state in which an accepted stencil library has been written and the watchdog refreshed. -/
def State.stencilsLoaded (s : State) (load : Nat) (body : List Byte) : State :=
  ((((s.partCode 0x21 1).present 0x21).wrBytes load body).madeGood load body.length).bootRefresh

theorem State.partChecked_stencils {s : State} {verdict h len load e : Nat} {body : List Byte} (rest : List Nat)
    (vs : List (Nat × Word)) (hkind : s.boot.kind ≠ 3) (hparts : s.boot.parts = 0x21 :: rest)
    (hhead : s.partHead s.boot.gen 0x21 = some (h, len, load, e))
    (hjudge : s.partJudge s.boot.gen 0x21 0x11 verdict = (0, body)) :
    s.partChecked 0x21 verdict vs = (s.stencilsLoaded load body).partsNext rest := by
  obtain ⟨hmem, hboot⟩ := s.keeps_partCode 0x21 1
  have huse := State.partUse_stencils (s := s.partCode 0x21 1) (g := s.boot.gen) body vs (by rwa [hboot])
    (by rwa [State.partHead_congr hmem]) (State.stencils_within hhead hjudge)
  simp only [State.partChecked, State.partJudge_core s s.boot.gen _ verdict, hjudge, if_true, huse, hparts]
  rfl

theorem State.stencilsLoaded_mem (s : State) (load : Nat) (body : List Byte) :
    (s.stencilsLoaded load body).mem = (s.wrBytes load body).mem := by
  rw [State.stencilsLoaded, (State.keeps_bootRefresh _).1]
  exact State.wrBytes_mem_congr (t := (s.partCode 0x21 1).present 0x21) (s.keeps_partCode 0x21 1).1 load body

theorem State.stencilsLoaded_boot (s : State) (load : Nat) (body : List Byte) :
    (s.stencilsLoaded load body).boot = (s.present 0x21).boot := by
  rw [State.stencilsLoaded, (State.steady_bootRefresh _).2.2]
  simp [State.present]

/-- The writing of a stencil library leaves the flash as it is. -/
theorem State.sameFlash_stencilsLoaded (s : State) {load : Nat} (body : List Byte) (h : 0x405A0000 ≤ load) :
    s.sameFlash (s.stencilsLoaded load body) := fun a ha => by
  rw [State.rd8_congr (State.stencilsLoaded_mem s load body), State.rd8_wrBytes_outside _ _ _ _ (by omega)]

/-- Settles O8: each step of the bring-up is followed to the state that it leaves; what comes after a stencil library is loaded
touches no memory. -/
theorem bringUpStepsComplete : Obligations.BringUpStepsComplete := by
  refine ⟨?turnOn, ?sramTest, ?probe, ?serviceOnly, ?part⟩
  case turnOn =>
    intro s d e ds hdoms hat
    refine .of_ends s.domNext ?_ (State.domNext_leaves hdoms)
    change execDomainTurnOn s = _
    rw [execDomainTurnOn, if_pos hat]
  case sramTest =>
    intro s faulty hkind hnot hfab hlow hhigh
    obtain ⟨hdone, hlost⟩ := s.sramEnded_leaves faulty
    refine .of_ends (s.sramEnded faulty) ?_ ⟨hdone, fun b hb => ?_⟩
    · change execSramTestEnd faulty s = _
      rw [execSramTestEnd, if_pos ⟨hkind, hnot, hfab, hlow, hhigh⟩, State.sramEnded]
    · rw [State.withPending_get, hlost, State.lostBanks, bit_maskBelow _ hb]
      exact s.repairRows_isNone faulty b
  case probe =>
    intro s f0 f1 hstep hkind
    obtain ⟨hcs, hprobed, hservice⟩ := (s.probeDone f0 f1).selectGen_leaves
    rw [State.probeDone_boot] at hcs hprobed hservice
    exact .of_ends _ (exec_flashProbeEnd f0 f1 hstep hkind) ⟨hcs, hprobed, fun hf => hservice (bit_csHeld hf)⟩
  case serviceOnly =>
    intro s f hat hstep hsess hend hpwr
    refine .of_ends s.serviceEntry ?_ ⟨s.serviceEntry_pwr, s.serviceEntry_phase, rfl, rfl⟩
    change execServiceOnlyTimeout s = _
    simp [execServiceOnlyTimeout, hat, hstep, hsess, hend, hpwr]
  case part =>
    intro s verdict h len load e body addrs rest vals hstep hkind hparts hhead hjudge
    have hwithin := State.stencils_within hhead hjudge
    have hdir : ((s.stencilsLoaded load body).dirEntry (s.stencilsLoaded load body).boot.gen 0x21).isSome = true := by
      rw [State.stencilsLoaded_boot, (s.sameFlash_stencilsLoaded body hwithin.1).dirEntry]
      change (s.dirEntry s.boot.gen 0x21).isSome = true
      rw [← Option.isSome_map, ← State.partHead, hhead]
      rfl
    refine .of_ends ((s.stencilsLoaded load body).partsNext rest) ?_ ?_
    · change execPartCheckEnd 0x21 verdict addrs vals s = _
      simp [execPartCheckEnd, hstep, hparts, State.partChecked_stencils rest _ hkind hparts hhead hjudge]
    · have hmem : ((s.stencilsLoaded load body).partsNext rest).mem = (s.wrBytes load body).mem := by
        rw [State.partsNext_mem rest (by rw [State.stencilsLoaded_boot]; exact hkind) hdir, State.stencilsLoaded_mem]
      exact (State.rdBytes_congr hmem load body.length).trans (State.rdBytes_wrBytes s load body)

end Sys2Proof.Machine
end

section
/-! What an edge at a capture input leaves while its capture register is locked: the stamp goes to the pending slot, and nothing marks
it as unread (R26, R181, R182). -/

namespace Sys2Proof.Machine

/-! ### Capture inputs -/

@[simp] theorem State.withPending_tci (t : State) (q : List Instr) (i : Nat) : (t.withPending q).tci i = t.tci i := rfl

@[simp] theorem State.tci_setTci_same (s : State) (i : Nat) (v : TciSt) : (s.setTci i v).tci i = v := Sparse.at_set_same _ _ _ _

/-- The capture inputs depend on the state of the timebase alone. -/
theorem State.tci_congr {s t : State} (h : t.tim = s.tim) (i : Nat) : t.tci i = s.tci i := by rw [State.tci, State.tci, h]

/-- A stamp that goes to the pending slot leaves the capture inputs as they are: its register holds no newer capture yet. -/
theorem State.tciStamp_tim_of_locked {s : State} {i : Nat} (rise : Bool) (h : s.locked .TIM_TCICAP i 0 = true) :
    (s.tciStamp i rise).tim = s.tim := by
  unfold State.tciStamp
  simp only [h, if_true, State.eventTo_tim]
  split <;> simp

/-- The first edge at an input that both edges are stamped for. -/
theorem exec_tciEdge_first {s : State} {i : Nat} (rise : Bool) (hi : i < 8) (hon : s.domOn domTIM = true)
    (hlast : (s.tci i).last = none) (hedge : s.get F.TIM_TCICTL_EDGE i = 3) :
    exec (.tciEdge i rise) s = s.ends ((s.setTci i { s.tci i with last := some s.now }).tciStamp i rise) := by
  change execTciEdge i rise s = _
  have hle : ¬ 8 ≤ i := by omega
  simp [execTciEdge, hle, hon, hlast, hedge]

/-! ### O12: an edge under a lock -/

/-- Partition 0 holds a snapshot of the capture of TCI0, which both edges are stamped for and whose captures have all been read. -/
def lockedCapture : State :=
  { State.reset with
    dom := 1023
    bus := { State.reset.bus with snaps := [⟨.part 0, .TIM_TCICAP, 0, 0, [0, 0, 0, 0], 0⟩] } }.put F.TIM_TCICTL_EDGE 3 0

theorem lockedCapture_meets :
    lockedCapture.domOn domTIM = true ∧ (lockedCapture.tci 0).last = none ∧ (lockedCapture.tci 0).unread = false ∧
      lockedCapture.get F.TIM_TCICTL_EDGE 0 = 3 ∧ lockedCapture.locked .TIM_TCICAP 0 0 = true := by
  decide +kernel

/-- Refutes O12: its clause on capture inputs has every stamped edge leave an unread capture, also while a snapshot locks the capture
register. There the stamp waits in the pending slot (R26), and until the lock's end the input has nothing unread. The clause lacks
the premise that the register is not locked, which it has for the capture's words. -/
theorem not_shadowAndTimePinsComplete : ¬ Obligations.ShadowAndTimePinsComplete := by
  rintro ⟨-, -, -, -, -, -, -, -, -, -, hcapture⟩
  obtain ⟨hon, hlast, hread, hedge, hlock⟩ := lockedCapture_meets
  obtain ⟨t, ht, -, -, hunread, -⟩ := hcapture lockedCapture 0 true (by decide) hon (by rw [hlast]; rfl) (.inl hedge)
  have hlock' : (lockedCapture.setTci 0 { lockedCapture.tci 0 with last := some lockedCapture.now }).locked .TIM_TCICAP 0 0 = true :=
    hlock
  have hkept := State.tci_congr (State.tciStamp_tim_of_locked true hlock') 0
  rw [State.tci_setTci_same] at hkept
  rw [exec_tciEdge_first true (by decide) hon hlast hedge, State.ends_eq] at ht
  cases ht
  have hstill := (congrArg TciSt.unread hkept).trans hread
  exact Bool.false_ne_true (hstill.symm.trans hunread)

end Sys2Proof.Machine
end

section
/-! One address of the register file through the shared operations: what each leaves alone there. -/

namespace Sys2Proof.Machine

/-- Two states hold the same at an address of the register file. -/
def State.sameAt (s t : State) (a : Nat) : Prop := Sparse.get t.regs a = Sparse.get s.regs a

theorem State.sameAt_rfl (s : State) (a : Nat) : s.sameAt s a := rfl

theorem State.sameAt_of_regs {s t : State} (h : t.regs = s.regs) (a : Nat) : s.sameAt t a := by rw [State.sameAt, h]

theorem State.sameAt.trans {s t u : State} {a : Nat} (h : s.sameAt t a) (h' : t.sameAt u a) : s.sameAt u a :=
  Eq.trans h' h

theorem State.sameAt.word {s t : State} {r : Reg} {i j w : Nat} (h : s.sameAt t (r.addr i j w)) :
    t.word r i j w = s.word r i j w := by
  rw [State.word, State.word, h]

theorem State.sameAt.get {s t : State} {f : Fld} {i j : Nat} (h : s.sameAt t (f.reg.addr i j f.word)) :
    t.get f i j = s.get f i j := by
  rw [State.get, State.get, h.word]

theorem State.sameAt_foldl {α : Type} {a : Nat} (l : List α) {f : State → α → State}
    (h : ∀ x ∈ l, ∀ t : State, t.sameAt (f t x) a) (s : State) : s.sameAt (l.foldl f s) a :=
  List.foldlRecOn (motive := fun t => s.sameAt t a) l f (s.sameAt_rfl a) fun t ht x hx => ht.trans (h x hx t)

section
variable {a : Nat}

theorem State.sameAt_setWord (s : State) {r : Reg} {i j w : Nat} (v : Word) (h : r.addr i j w ≠ a) :
    s.sameAt (s.setWord r i j w v) a :=
  State.regs_setWord_ne _ _ _ _ _ _ _ h

theorem State.sameAt_put (s : State) {f : Fld} {i j : Nat} (v : Nat) (h : f.reg.addr i j f.word ≠ a) :
    s.sameAt (s.put f v i j) a :=
  s.sameAt_setWord _ h

theorem State.sameAt_bumpBy (s : State) {f : Fld} {i j : Nat} (n : Nat) (h : f.reg.addr i j f.word ≠ a) :
    s.sameAt (s.bumpBy f n i j) a :=
  State.sameAt_put (s.noted f n i j) _ h

theorem State.sameAt_bump (s : State) {f : Fld} {i j : Nat} (h : f.reg.addr i j f.word ≠ a) : s.sameAt (s.bump f i j) a :=
  s.sameAt_bumpBy 1 h

theorem State.sameAt_event (s : State) (n block code item a0 a1 : Nat) (h : Reg.addr .ERR_CUM 27 0 0 ≠ a) :
    s.sameAt (s.event n block code item a0 a1) a := by
  unfold State.event State.enqueue
  dsimp only
  split
  · exact s.sameAt_rfl a
  · exact State.sameAt_bump (f := F.ERR_CUM_COUNT) _ h

theorem State.sameAt_eventTo (s : State) (sp : OwnSpec) (block code item a0 a1 : Nat) (h : Reg.addr .ERR_CUM 27 0 0 ≠ a) :
    s.sameAt (s.eventTo sp block code item a0 a1) a := by
  unfold State.eventTo
  split
  · exact s.sameAt_event _ _ _ _ _ _ h
  · exact s.sameAt_rfl a

theorem State.sameAt_eventAll (s : State) (ns : List Nat) (block code item a0 a1 : Nat) (h : Reg.addr .ERR_CUM 27 0 0 ≠ a) :
    s.sameAt (s.eventAll ns block code item a0 a1) a :=
  State.sameAt_foldl ns (fun n _ t => t.sameAt_event n block code item a0 a1 h) s

theorem State.sameAt_setWordsFrom (s : State) {r : Reg} {i j : Nat} (w : Nat) (vs : List Word)
    (h : ∀ k < vs.length, r.addr i j (w + k) ≠ a) : s.sameAt (s.setWordsFrom r i j w vs) a := by
  induction vs generalizing s w with
  | nil => exact s.sameAt_rfl a
  | cons v vs ih =>
    refine (s.sameAt_setWord v (h 0 (by simp))).trans (ih _ (w + 1) fun k hk => ?_)
    rw [Nat.add_assoc, Nat.add_comm 1 k]
    exact h (k + 1) (by simpa using hk)

/-- Data that is delivered goes to the words of its register or to its pending slot (R26). -/
theorem State.sameAt_deliver (s : State) {r : Reg} {i j : Nat} (ws : List Word) (h : ∀ k < ws.length, r.addr i j k ≠ a) :
    s.sameAt (s.deliver r i j ws) a := by
  unfold State.deliver
  split
  · exact s.sameAt_rfl a
  · exact s.sameAt_setWordsFrom 0 ws (by simpa using h)

end

end Sys2Proof.Machine
end

section
/-! The ports of the switch: what an operation on one of them leaves of the others and of the rest of the state, and what the counting of
credits leaves (R211). -/

namespace Sys2Proof.Machine

/-! ### One port -/

@[simp] theorem State.eport_setEport_same (s : State) (p : Nat) (v : EthPort) : (s.setEport p v).eport p = v :=
  Sparse.at_set_same _ _ _ _

theorem State.eport_setEport_ne (s : State) {p p' : Nat} (v : EthPort) (h : p ≠ p') : (s.setEport p v).eport p' = s.eport p' :=
  Sparse.at_set_ne _ _ _ _ _ h

@[simp] theorem State.equeue_setEqueue_same (s : State) (p q : Nat) (fs : List Frame) : (s.setEqueue p q fs).equeue p q = fs := by
  simp [State.equeue, State.setEqueue]

/-! ### Changes of ports alone -/

/-- A state differs from another in the ports of the switch alone. -/
def State.portsOnly (s t : State) : Prop := ∃ ps, t = { s with eth := { s.eth with ports := ps } }

theorem State.portsOnly_rfl (s : State) : s.portsOnly s := ⟨s.eth.ports, rfl⟩

theorem State.portsOnly.trans {s t u : State} (h : s.portsOnly t) (h' : t.portsOnly u) : s.portsOnly u := by
  obtain ⟨ps, rfl⟩ := h
  obtain ⟨qs, rfl⟩ := h'
  exact ⟨qs, rfl⟩

theorem State.portsOnly_setEport (s : State) (p : Nat) (v : EthPort) : s.portsOnly (s.setEport p v) := ⟨_, rfl⟩

theorem State.portsOnly_foldl {α : Type} (l : List α) {f : State → α → State} (h : ∀ (t : State) a, t.portsOnly (f t a))
    (s : State) : s.portsOnly (l.foldl f s) :=
  List.foldlRecOn (motive := fun t => s.portsOnly t) l f s.portsOnly_rfl fun t ht a _ => ht.trans (h t a)

section
variable {s t : State} (h : s.portsOnly t)
include h

theorem State.portsOnly.regs : t.regs = s.regs := by obtain ⟨ps, rfl⟩ := h; rfl
theorem State.portsOnly.now : t.now = s.now := by obtain ⟨ps, rfl⟩ := h; rfl
theorem State.portsOnly.mem : t.mem = s.mem := by obtain ⟨ps, rfl⟩ := h; rfl
theorem State.portsOnly.tim : t.tim = s.tim := by obtain ⟨ps, rfl⟩ := h; rfl
theorem State.portsOnly.fdb : t.eth.fdb = s.eth.fdb := by obtain ⟨ps, rfl⟩ := h; rfl
theorem State.portsOnly.get (f : Fld) (i j : Nat) : t.get f i j = s.get f i j := by obtain ⟨ps, rfl⟩ := h; rfl

end

/-! ### Traffic -/

/-- Every port has the queues, the transmission and the gPTP messages that it has in another state. -/
def State.sameTraffic (s t : State) : Prop :=
  ∀ p, (t.eport p).queues = (s.eport p).queues ∧ (t.eport p).busyTo = (s.eport p).busyTo ∧ (t.eport p).ptp = (s.eport p).ptp

theorem State.sameTraffic.trans {s t u : State} (h : s.sameTraffic t) (h' : t.sameTraffic u) : s.sameTraffic u := fun p =>
  ⟨(h' p).1.trans (h p).1, (h' p).2.1.trans (h p).2.1, (h' p).2.2.trans (h p).2.2⟩

theorem State.sameTraffic_of_ports {s t : State} (h : t.eth.ports = s.eth.ports) : s.sameTraffic t := fun p => by
  simp [State.eport, h]

/-- A port takes the place of one with the same traffic. -/
theorem State.sameTraffic_setEport (s : State) {p : Nat} {v : EthPort} (hq : v.queues = (s.eport p).queues)
    (hb : v.busyTo = (s.eport p).busyTo) (hp : v.ptp = (s.eport p).ptp) : s.sameTraffic (s.setEport p v) := by
  intro p'
  rcases eq_or_ne p p' with rfl | h
  · simp [hq, hb, hp]
  · simp [State.eport_setEport_ne s v h]

theorem State.sameTraffic_foldl {α : Type} (l : List α) {f : State → α → State} (h : ∀ (t : State) a, t.sameTraffic (f t a))
    (s : State) : s.sameTraffic (l.foldl f s) :=
  List.foldlRecOn (motive := fun t => s.sameTraffic t) l f (State.sameTraffic_of_ports rfl) fun t ht a _ => ht.trans (h t a)

theorem State.sameTraffic.equeue {s t : State} (h : s.sameTraffic t) (p q : Nat) : t.equeue p q = s.equeue p q := by
  rw [State.equeue, State.equeue, (h p).1]

theorem State.sameTraffic.portCells {s t : State} (h : s.sameTraffic t) (p : Nat) : t.portCells p = s.portCells p := by
  simp [State.portCells, h.equeue]

/-! ### Credits (R211) -/

theorem State.portsOnly_creditOne (s : State) (p q : Nat) : s.portsOnly (s.creditOne p q) := by
  unfold State.creditOne
  dsimp only
  split
  · exact s.portsOnly_rfl
  · exact s.portsOnly_setEport _ _

theorem State.sameTraffic_creditOne (s : State) (p q : Nat) : s.sameTraffic (s.creditOne p q) := by
  unfold State.creditOne
  dsimp only
  split
  · exact State.sameTraffic_of_ports rfl
  · exact s.sameTraffic_setEport rfl rfl rfl

theorem State.portsOnly_creditTick (s : State) (p : Nat) : s.portsOnly (s.creditTick p) :=
  (State.portsOnly_foldl _ (fun t q => t.portsOnly_creditOne p q) s).trans (State.portsOnly_setEport _ _ _)

theorem State.sameTraffic_creditTick (s : State) (p : Nat) : s.sameTraffic (s.creditTick p) :=
  (State.sameTraffic_foldl _ (fun t q => t.sameTraffic_creditOne p q) s).trans (State.sameTraffic_setEport _ rfl rfl rfl)

theorem State.portsOnly_creditTicks (s : State) : s.portsOnly s.creditTicks :=
  State.portsOnly_foldl _ State.portsOnly_creditTick s

end Sys2Proof.Machine
end

section
/-! A frame that comes in: what learning its source changes, and the copy that joins a queue (R203 to R209). -/

namespace Sys2Proof.Machine

/-! ### Learning (R207) -/

/-- What a frame's source leads to: the entry that it sets, by index, or none, and what it counts (1 a move, 2 a full bucket). -/
def State.toLearn (s0 : State) (p vid mac : Nat) : Option (Nat × Option FdbEnt × Nat) :=
  let s := s0.fdbCycle
  if 11 ≤ p ∨ !s.on F.ESW_PCTL_LEARN p ∨ !s.on F.ESW_VLAN_LEARN vid ∨ (s.now, fdbBucket vid mac) ∈ s.eth.cmds then none
  else match s.fdbFind vid mac with
    | some k =>
      match s.fdbAt k with
      | some e => if e.static then none else some (k, some { e with ports := 2 ^ p, seen := s.now }, if e.ports = 2 ^ p then 0 else 1)
      | none => none
    | none =>
      match s.fdbFree vid mac with
      | some k => some (k, some ⟨mac, vid, false, 2 ^ p, s.now⟩, 0)
      | none => some (0, none, 2)

theorem State.learn_eq (s : State) (p vid mac : Nat) :
    s.learn p vid mac = match s.toLearn p vid mac with
      | none => s.fdbCycle
      | some (k, e, counted) => s.fdbCycle.learnSet (fdbBucket vid mac) k e counted := by
  unfold State.learn State.toLearn
  dsimp only
  split
  · rfl
  · cases s.fdbCycle.fdbFind vid mac with
    | some k =>
      dsimp only
      cases s.fdbCycle.fdbAt k with
      | some e =>
        dsimp only
        split <;> rfl
      | none => rfl
    | none =>
      dsimp only
      cases s.fdbCycle.fdbFree vid mac <;> rfl

/-- What is learnt does not depend on the ports' own state. -/
theorem State.learn_setEport (s : State) (p' : Nat) (v : EthPort) (p vid mac : Nat) :
    (s.setEport p' v).learn p vid mac = (s.learn p vid mac).setEport p' v := by
  have hsame : (s.setEport p' v).toLearn p vid mac = s.toLearn p vid mac := rfl
  rw [State.learn_eq, State.learn_eq, hsame]
  cases s.toLearn p vid mac with
  | none => rfl
  | some x =>
    obtain ⟨k, e, counted⟩ := x
    unfold State.learnSet
    cases e <;> dsimp only <;> split_ifs <;> rfl

/-- Learning leaves the ports, the fuses and the clock, and writes the counters of ESW_STAT alone. -/
structure State.Learned (s t : State) : Prop where
  ports : t.eth.ports = s.eth.ports
  fuse : t.fuse = s.fuse
  now : t.now = s.now
  sameAt : ∀ a ≠ Reg.addr .ESW_STAT 0 0 0, s.sameAt t a

theorem State.Learned.count {s t : State} (h : s.Learned t) (counted : Nat) :
    s.Learned (if counted = 1 then t.bump F.ESW_STAT_MOVES else if counted = 2 then t.bump F.ESW_STAT_LEARNFULL else t) := by
  obtain ⟨hports, hfuse, hnow, hsame⟩ := h
  split_ifs
  · exact ⟨hports, hfuse, hnow, fun a ha => (hsame a ha).trans (t.sameAt_bump (f := F.ESW_STAT_MOVES) ha.symm)⟩
  · exact ⟨hports, hfuse, hnow, fun a ha => (hsame a ha).trans (t.sameAt_bump (f := F.ESW_STAT_LEARNFULL) ha.symm)⟩
  · exact ⟨hports, hfuse, hnow, hsame⟩

theorem State.learnSet_leaves (s : State) (b k : Nat) (e : Option FdbEnt) (counted : Nat) :
    s.Learned (s.learnSet b k e counted) := by
  unfold State.learnSet
  refine State.Learned.count ?_ counted
  cases e <;> exact ⟨rfl, rfl, rfl, fun _ _ => rfl⟩

theorem State.learn_leaves (s : State) (p vid mac : Nat) : s.Learned (s.learn p vid mac) := by
  rw [State.learn_eq]
  cases s.toLearn p vid mac with
  | none => exact ⟨rfl, rfl, rfl, fun _ _ => rfl⟩
  | some x =>
    obtain ⟨hports, hfuse, hnow, hsame⟩ := s.fdbCycle.learnSet_leaves (fdbBucket vid mac) x.1 x.2.1 x.2.2
    exact ⟨hports, hfuse, hnow, hsame⟩

/-! ### Forwarding to one port (R206, R209) -/

theorem State.forward_one {s : State} {f : Frame} {q : Nat} (hports : s.destPorts f = [q]) (hq : q < 11)
    (hstore : s.cutThrough f f.ingress q = false) :
    (s.forward f none).1 = (s.enq q { f with queue := s.mapQueue q f.pcp }).1 := by
  have hfab : ¬ 11 ≤ q := by omega
  simp [State.forward, hports, hfab, hstore]

/-- A copy for which its port has the cells and its queue the room joins the queue. -/
theorem State.enq_joins {s : State} {q : Nat} {f : Frame} (hcells : f.cells ≤ s.cellsFree q)
    (hroom : cellsOf (s.equeue q f.queue) < s.get F.ESW_PQLIM_LIM q f.queue) :
    (s.enq q f).1 = (s.creditTick q).setEqueue q f.queue ((s.creditTick q).equeue q f.queue ++ [f]) := by
  simp [State.enq, hcells, hroom]

theorem State.granted_congr {s t : State} {ps : List Nat} (h : ∀ p ∈ ps, t.get F.ESW_PQMAP_RESV p = s.get F.ESW_PQMAP_RESV p)
    (left : Nat) : t.granted left ps = s.granted left ps := by
  induction ps generalizing left with
  | nil => rfl
  | cons p ps ih =>
    simp only [State.granted, h p List.mem_cons_self, ih fun p' hp' => h p' (List.mem_cons_of_mem _ hp')]

/-- The cells that a port has free depend on the queues and on the reservations. -/
theorem State.cellsFree_congr {s t : State} (htraffic : s.sameTraffic t)
    (hresv : ∀ p < 15, t.get F.ESW_PQMAP_RESV p = s.get F.ESW_PQMAP_RESV p) (q : Nat) : t.cellsFree q = s.cellsFree q := by
  have hports : ∀ p ∈ bufPorts, p < 15 := by decide
  simp [State.cellsFree, State.granted_congr (fun p hp => hresv p (hports p hp)), htraffic.portCells]

/-! ### Classification (R203, R204, R216) -/

section
variable (bs : List Byte) (pvid dpcp ingress stamp : Nat)

theorem parseFrame_ingress : (parseFrame bs pvid dpcp ingress stamp).ingress = ingress := by
  unfold parseFrame
  dsimp only
  split <;> rfl

theorem parseFrame_vid_lt (h : pvid < 4096) : (parseFrame bs pvid dpcp ingress stamp).vid < 4096 := by
  unfold parseFrame
  dsimp only
  split
  · dsimp only
    split <;> omega
  · exact h

end

/-- A frame that nothing takes out is learnt and forwarded. -/
theorem State.ingress_forwards {s : State} {f : Frame} {n : Nat} {tag : Option Nat} (hp : f.ingress < 10)
    (hcontrol : f.etype ≠ 0x8808) (hvid : f.vid ≠ 4095) (hdst : f.dst ≠ ptpAddr)
    (hmember : bit (s.get F.ESW_VLAN_MEMBER f.vid) f.ingress = true) (hservice : ¬ (f.ingress = 9 ∧ s.service f = true))
    (hstream : ∀ k < 256, s.streamHit k f = false) :
    s.ingress f n none tag = (s.learn f.ingress f.vid f.src).forward f none := by
  have h10 : f.ingress ≠ 10 := by omega
  have hpolice : s.police f n = (s, true) := by
    have hnone : (List.range 256).find? (fun k => s.streamHit k f) = none :=
      List.find?_eq_none.mpr fun k hk => by simp [hstream k (List.mem_range.mp hk)]
    simp [State.police, hnone]
  have hservice' : ¬ (f.ingress = 9 ∧ s.service f = true ∧ f.vid ≠ 4095 ∧
      (tag.isNone = true ∨ bit (s.get F.ESW_VLAN_MEMBER f.vid) 9 = true)) := fun h => hservice ⟨h.1, h.2.1⟩
  simp only [State.ingress, if_neg hcontrol, if_neg h10, if_neg hservice', if_neg hvid, if_neg hdst, hmember, hpolice,
    Bool.not_true, Bool.false_eq_true, if_false]

/-! ### The frame that comes in (R203) -/

/-- A port notes that a frame came in. -/
def State.noteSeen (s : State) (p : Nat) : State := s.setEport p { s.eport p with seen := some s.now }

theorem State.sameTraffic_noteSeen (s : State) (p : Nat) : s.sameTraffic (s.noteSeen p) := s.sameTraffic_setEport rfl rfl rfl

/-- A good frame goes on to its classification, counted. -/
theorem exec_frameReceive_good {s : State} {p : Nat} {frame : List Byte} {f : Frame} (hp : p < 10) (hnet : s.domOn domNET = true)
    (hup : s.portUp p = true) (hlow : 64 ≤ frame.length) (hhigh : frame.length ≤ 1522)
    (hfcs : frame.drop (frame.length - 4) = fcsOf (frame.take (frame.length - 4)))
    (hf : parseFrame (frame.take (frame.length - 4)) (s.get F.ESW_PCTL_PVID p) (s.get F.ESW_PCTL_DPCP p) p s.now = f) :
    exec (.frameReceive p frame) s =
      s.ends (((s.noteSeen p).bump F.ESW_PCNT_COUNT p 0).ingress f frame.length none (tagOf (frame.take (frame.length - 4)))).1 := by
  change execFrameReceive p frame s = _
  have hle : ¬ 10 < p := by omega
  have hlen : ¬ (frame.length < 64 ∨ 1522 < frame.length) := by omega
  simp [execFrameReceive, hle, hnet, hup, hlen, hfcs, hf, State.noteSeen]

/-- The state in which a good frame is counted and its source is learnt, but for the port's note of it. -/
def State.received (s : State) (p : Nat) (f : Frame) : State := (s.bump F.ESW_PCNT_COUNT p 0).learn p f.vid f.src

theorem State.noteSeen_received (s : State) (p : Nat) (f : Frame) :
    ((s.noteSeen p).bump F.ESW_PCNT_COUNT p 0).learn p f.vid f.src =
      (s.received p f).setEport p { s.eport p with seen := some s.now } :=
  State.learn_setEport (s.bump F.ESW_PCNT_COUNT p 0) p { s.eport p with seen := some s.now } p f.vid f.src

section
variable (s : State) (p : Nat) (f : Frame)

theorem State.received_count : (s.received p f).oneMore s F.ESW_PCNT_COUNT p 0 := by
  have hlearn := (s.bump F.ESW_PCNT_COUNT p 0).learn_leaves p f.vid f.src
  rw [State.oneMore, State.received, (hlearn.sameAt _ _).get]
  · exact State.get_bump_same s F.ESW_PCNT_COUNT p 0 ⟨by decide, by decide⟩
  · simp only [F.ESW_PCNT_COUNT, Reg.addr, Reg.geom]
    omega

theorem State.sameTraffic_received : s.sameTraffic (s.received p f) :=
  State.sameTraffic_of_ports ((s.bump F.ESW_PCNT_COUNT p 0).learn_leaves p f.vid f.src).ports

theorem State.sameAt_received {a : Nat} (hstat : a ≠ Reg.addr .ESW_STAT 0 0 0) (hcnt : Reg.addr .ESW_PCNT p 0 0 ≠ a) :
    s.sameAt (s.received p f) a :=
  (s.sameAt_bump (f := F.ESW_PCNT_COUNT) hcnt).trans
    (((s.bump F.ESW_PCNT_COUNT p 0).learn_leaves p f.vid f.src).sameAt a hstat)

end

/-- A frame that comes in leaves what the ports' pages hold below their counters. -/
theorem State.get_received (s : State) {p i j : Nat} (f : Frame) {g : Fld} (hi : i < 15) (hpage : g.reg.geom.s1 = 0x1000)
    (hlow : 0x40110000 ≤ g.reg.geom.base + g.reg.geom.s2 * j + 4 * g.word)
    (hhigh : g.reg.geom.base + g.reg.geom.s2 * j + 4 * g.word < 0x40110100) : (s.received p f).get g i j = s.get g i j := by
  refine (s.sameAt_received p f ?_ ?_).get
  · simp only [Reg.addr, hpage, show Reg.geom .ESW_STAT = ⟨0x40100000, 1, 0, 1, 0, 1⟩ from rfl]
    omega
  · simp only [Reg.addr, hpage, show Reg.geom .ESW_PCNT = ⟨0x40110100, 15, 0x1000, 8, 4, 1⟩ from rfl]
    omega

theorem State.mapQueue_lt (s : State) (q pcp : Nat) : s.mapQueue q pcp < 8 := Nat.mod_lt _ (by decide)

section
variable (s : State) (p : Nat) (f : Frame) {q : Nat}

theorem State.received_mapQueue (hq : q < 15) (pcp : Nat) : (s.received p f).mapQueue q pcp = s.mapQueue q pcp := by
  rw [State.mapQueue, State.mapQueue, s.get_received f hq rfl (by decide) (by decide)]

theorem State.received_cutThrough (hp : p < 15) (hq : q < 15) : (s.received p f).cutThrough f p q = s.cutThrough f p q := by
  rw [State.cutThrough, State.cutThrough, s.get_received f hp rfl (by decide) (by decide), s.received_mapQueue p f hq,
    (s.sameTraffic_received p f).equeue]

theorem State.received_cellsFree : (s.received p f).cellsFree q = s.cellsFree q :=
  State.cellsFree_congr (s.sameTraffic_received p f) (fun _ hr => s.get_received f hr rfl (by decide) (by decide)) q

theorem State.received_lim (hq : q < 15) {k : Nat} (hk : k < 8) :
    (s.received p f).get F.ESW_PQLIM_LIM q k = s.get F.ESW_PQLIM_LIM q k :=
  s.get_received f hq rfl (by simp only [F.ESW_PQLIM_LIM, Reg.geom]; omega) (by simp only [F.ESW_PQLIM_LIM, Reg.geom]; omega)

end

/-- The count of a frame leaves the tables of VLANs and streams. -/
theorem State.get_counted (s : State) {p i j : Nat} {g : Fld} (hp : p < 15) (h : 0x40120000 ≤ g.reg.addr i j g.word) :
    (s.bump F.ESW_PCNT_COUNT p 0).get g i j = s.get g i j := by
  refine (s.sameAt_bump (f := F.ESW_PCNT_COUNT) ?_).get
  simp only [F.ESW_PCNT_COUNT, show Reg.addr .ESW_PCNT p 0 0 = 0x40110100 + 0x1000 * p + 4 * 0 + 4 * 0 from rfl]
  omega

theorem State.counted_streamHit (s : State) {p : Nat} (hp : p < 15) (k : Nat) (f : Frame) :
    (s.bump F.ESW_PCNT_COUNT p 0).streamHit k f = s.streamHit k f := by
  have hget : ∀ g : Fld, g.reg = .ESW_STREAM → (s.bump F.ESW_PCNT_COUNT p 0).get g k = s.get g k := fun g hg =>
    s.get_counted hp (by rw [hg]; simp only [Reg.addr, Reg.geom]; omega)
  simp [State.streamHit, hget, F.ESW_STREAM_MAC_HI, F.ESW_STREAM_MAC_LO, F.ESW_STREAM_MODE, F.ESW_STREAM_PORTS, F.ESW_STREAM_VID]

end Sys2Proof.Machine
end

section
/-! A transmission opportunity of a port whose one frame is ready: the head of its queue leaves (R210 to R212). -/

namespace Sys2Proof.Machine

/-- The one entry of a list that a partial function answers is the first that it answers. -/
theorem head?_filterMap_of_only {α β : Type} {l : List α} {g : α → Option β} {a : α} {b : β} (ha : a ∈ l) (hg : g a = some b)
    (hother : ∀ x ∈ l, x ≠ a → g x = none) : (l.filterMap g).head? = some b := by
  induction l with
  | nil => cases ha
  | cons x xs ih =>
    rcases eq_or_ne x a with rfl | hne
    · simp [hg]
    · have hx := hother x List.mem_cons_self hne
      have hmem : a ∈ xs := (List.mem_cons.mp ha).resolve_left hne.symm
      rw [List.filterMap_cons_none hx]
      exact ih hmem fun y hy => hother y (List.mem_cons_of_mem _ hy)

/-- No frame that waits at a port has a launch instant. -/
def State.noLaunch (s : State) (p : Nat) : Prop := ∀ q < 8, ∀ f ∈ s.equeue p q, f.launch = none

theorem State.dropLate_of_noLaunch {s : State} {p q : Nat} (h : s.noLaunch p) (hq : q < 8) (n : Nat) : s.dropLate p q n = s := by
  cases n with
  | zero => rfl
  | succ n =>
    unfold State.dropLate
    split
    · next f fs hqueue =>
      have hf := h q hq f (by rw [hqueue]; exact List.mem_cons_self)
      simp [hf]
    · rfl

theorem State.dropsLate_of_noLaunch {s : State} {p : Nat} (h : s.noLaunch p) :
    (List.range 8).foldl (fun t q => t.dropLate p q (t.equeue p q).length) s = s :=
  List.foldlRecOn (motive := fun t => t = s) _ _ rfl fun t ht q hq => by
    rw [ht]
    exact State.dropLate_of_noLaunch h (List.mem_range.mp hq) _

/-- A port without gates, shaper, gPTP messages and launch instants keeps no queue from starting. -/
theorem State.queueGoes_of_free {s : State} {p q : Nat} (hq : q < 8) (hptp : (s.eport p).ptp = []) (hlaunch : s.noLaunch p)
    (hgates : s.get F.ESW_PTASCTL_EN p = 0) (hshaper : s.shaped p q = false) (dur : Nat) : s.queueGoes p q dur = true := by
  have hopen : ∀ k < 8, bit 255 k = true := by decide
  have hblocks : s.blocksLaunch p q (s.now + dur) = false := by
    have hnone : ∀ k < 8, ∀ f ∈ s.equeue p k, s.launchAt f = none := fun k hk f hf => by simp [State.launchAt, hlaunch k hk f hf]
    simp only [State.blocksLaunch, hptp, List.any_nil, Bool.false_or, List.any_eq_false, List.mem_filter, List.mem_range]
    intro k hk
    simp only [List.any_eq_true, not_exists, not_and]
    intro f hf
    simp [hnone k hk.1 f hf]
  simp [State.queueGoes, State.gatesNow, State.gateFits, State.on, hgates, hshaper, hopen q hq, hblocks]

/-- The queue that a port serves is the only one with a frame. -/
theorem State.pickQueue_only {s : State} {p q : Nat} {f : Frame} {fs : List Frame} (hq : q < 8) (hqueue : s.equeue p q = f :: fs)
    (hother : ∀ k < 8, k ≠ q → s.equeue p k = []) (hptp : (s.eport p).ptp = []) (hlaunch : s.noLaunch p)
    (hgates : s.get F.ESW_PTASCTL_EN p = 0) (hshaper : s.shaped p q = false) : s.pickQueue p = some (q, f) := by
  have hmem : ∀ k, k ∈ [7, 6, 5, 4, 3, 2, 1, 0] ↔ k < 8 := by intro k; simp; omega
  have hf : f.launch = none := hlaunch q hq f (by rw [hqueue]; exact List.mem_cons_self)
  refine head?_filterMap_of_only ((hmem q).mpr hq) ?_ fun k hk hne => ?_
  · simp [hqueue, State.eligible, hf, State.queueGoes_of_free hq hptp hlaunch hgates hshaper]
  · simp [hother k ((hmem k).mp hk) hne]

/-- What a port is while it sends a frame that begins now. -/
def State.sendingPort (s : State) (p q : Nat) (f : Frame) (fs : List Frame) : EthPort :=
  { s.eport p with
    queues := Sparse.set (s.eport p).queues q fs, busyTo := s.now + s.frameTime p f, sent := some ⟨some f, none, s.now, false⟩ }

/-- A frame without launch instant, descriptor and remote access leaves from an unshaped queue. -/
theorem State.sendFrame_plain {s : State} {p q : Nat} {f : Frame} {fs : List Frame} (hp : p < 11) (hqueue : s.equeue p q = f :: fs)
    (hshaper : s.shaped p q = false) (hlaunch : f.launch = none) (hdesc : f.desc = none) (hatts : f.atts = []) :
    s.sendFrame p q 0 f =
      (((s.setEqueue p q fs).bump F.ESW_PCNT_COUNT p 1).setEport p (s.sendingPort p q f fs)) := by
  have hfab : ¬ 11 ≤ p := by omega
  have hshaper' : (s.setEqueue p q fs).shaped p q = false := hshaper
  have hlate : s.lateness f = 0 := by simp [State.lateness, State.launchAt, hlaunch]
  have hport : ((s.setEqueue p q fs).bump F.ESW_PCNT_COUNT p 1).eport p =
      { s.eport p with queues := Sparse.set (s.eport p).queues q fs } := State.eport_setEport_same _ _ _
  simp [State.sendFrame, State.bufRead, State.creditSpend, State.txBack, State.attStart, State.sendingPort, hqueue, hfab, hshaper',
    hlate, hdesc, hatts, hport]

end Sys2Proof.Machine
end

section
/-! One bit of a number that is set or cleared: the bits beside it, and the numbers that fit a field. -/

namespace Sys2Proof.Machine

/-- A bit that is set or cleared leaves the bits above it. -/
theorem setBit_div (v k : Nat) (b : Bool) : setBit v k b / 2 ^ (k + 1) = v / 2 ^ (k + 1) := by
  have hadd : (v + 2 ^ k) / 2 ^ k = v / 2 ^ k + 1 := Nat.add_div_right v (by positivity)
  have hsub : (v - 2 ^ k) / 2 ^ k = v / 2 ^ k - 1 := by simpa using Nat.sub_mul_div v (2 ^ k) 1
  rw [Nat.pow_succ, ← Nat.div_div_eq_div_mul, ← Nat.div_div_eq_div_mul]
  unfold setBit
  split
  · next hset =>
    rw [bit, beq_iff_eq] at hset
    cases b
    · rw [if_neg Bool.false_ne_true, hsub]
      generalize v / 2 ^ k = m at hset ⊢
      omega
    · rfl
  · next hclear =>
    rw [bit, beq_iff_eq] at hclear
    cases b
    · rfl
    · rw [if_pos rfl, hadd]
      omega

/-- A bit that is set or cleared leaves the bits below it. -/
theorem setBit_mod (v k : Nat) (b : Bool) : setBit v k b % 2 ^ k = v % 2 ^ k := by
  unfold setBit
  split
  · next hset =>
    have hle : 2 ^ k ≤ v := by
      by_contra hlt
      rw [bit_eq_testBit, Nat.testBit_lt_two_pow (Nat.lt_of_not_le hlt)] at hset
      cases hset
    cases b
    · simpa using (Nat.mod_eq_sub_mod hle).symm
    · rfl
  · cases b
    · rfl
    · simp

theorem bit_setBit_ne (v : Nat) {k j : Nat} (b : Bool) (h : k ≠ j) : bit (setBit v k b) j = bit v j := by
  simp only [bit_eq_testBit]
  rcases Nat.lt_or_gt_of_ne h with hlt | hgt
  · obtain ⟨d, rfl⟩ := Nat.exists_eq_add_of_lt hlt
    rw [show k + d + 1 = d + (k + 1) by omega, Nat.testBit_add, Nat.testBit_add, setBit_div]
  · have hlow := congrArg (fun x => x.testBit j) (setBit_mod v k b)
    simpa [Nat.testBit_mod_two_pow, hgt] using hlow

theorem bit_setBit_false (v k : Nat) : bit (setBit v k false) k = false := by
  have hsub : (v - 2 ^ k) / 2 ^ k = v / 2 ^ k - 1 := by simpa using Nat.sub_mul_div v (2 ^ k) 1
  unfold setBit
  split
  · next hset =>
    simp only [bit, beq_iff_eq] at hset
    simp only [Bool.false_eq_true, if_false, bit, hsub, beq_eq_false_iff_ne]
    omega
  · next hclear => simpa using hclear

/-- A number that fits n bits still does with one of them set or cleared. -/
theorem setBit_lt {v k n : Nat} (b : Bool) (hv : v < 2 ^ n) (hk : k < n) : setBit v k b < 2 ^ n := by
  have hpow : 2 ^ n = 2 ^ (n - (k + 1)) * 2 ^ (k + 1) := by rw [← Nat.pow_add]; congr 1; omega
  rw [hpow] at hv ⊢
  rw [← Nat.div_lt_iff_lt_mul (by positivity)] at hv ⊢
  rwa [setBit_div]

/-- A field's bit that is set or cleared through the field. -/
theorem State.get_put_setBit (s : State) (f : Fld) (k : Nat) (b : Bool) (i j : Nat) (hf : f.fits) (hk : k < f.hi + 1 - f.lo) :
    (s.put f (setBit (s.get f i j) k b) i j).get f i j = setBit (s.get f i j) k b := by
  rw [State.get_put_same _ _ _ _ _ hf]
  exact Nat.mod_eq_of_lt (setBit_lt b (bitsOf_lt _ _ _) hk)

end Sys2Proof.Machine
end

section
/-! A link that is trained and one that falls, and the switch as a whole: what each command on frames and links leaves (R152, R184,
R193, R203 to R210). -/

namespace Sys2Proof.Machine

@[simp] theorem State.withPending_eport (t : State) (q : List Instr) (p : Nat) : (t.withPending q).eport p = t.eport p := rfl
@[simp] theorem State.withPending_equeue (t : State) (q : List Instr) (p k : Nat) :
    (t.withPending q).equeue p k = t.equeue p k := rfl
@[simp] theorem State.withPending_eth (t : State) (q : List Instr) : (t.withPending q).eth = t.eth := rfl
@[simp] theorem State.withPending_mem (t : State) (q : List Instr) : (t.withPending q).mem = t.mem := rfl

/-! ### Training (R152, R184, R193) -/

/-- The audit at a training writes the two words of its own register alone. -/
theorem State.sameAt_auditTraining (s : State) (k : Nat) (made : Bool) (rtt : Option Nat) {a : Nat}
    (h0 : Reg.addr .TIM_AUD k 0 0 ≠ a) (h1 : Reg.addr .TIM_AUD k 0 1 ≠ a) : s.sameAt (s.auditTraining k made rtt) a := by
  have hnone : s.sameAt (s.auditNone k) a := (s.sameAt_setWord 0 h0).trans (State.sameAt_setWord _ 0 h1)
  have hput : ∀ (t : State) (f : Fld) (v : Nat), f.reg = .TIM_AUD → f.word = 0 → t.sameAt (t.put f v k) a :=
    fun t f v hr hw => t.sameAt_put v (by rw [hr, hw]; exact h0)
  unfold State.auditTraining
  dsimp only
  split
  · exact hnone
  · split
    · exact hnone.trans (hput _ _ _ rfl rfl)
    · next r =>
      have hcable := (hnone.trans (hput ((s.auditNone k).setAudit k { AuditSt.none_ with rtt := some r }) F.TIM_AUD_RANGE
        (if r * 5 < 384 ∨ 2464 < r then 1 else 0) rfl rfl)).trans (hput _ F.TIM_AUD_CABLE
          (Int.ofNat (r / 2) + (s.auditNone k).rounded (r % 2 = 0)).toNat rfl rfl)
      split
      · exact hcable.trans (hput _ _ _ rfl rfl)
      · exact hcable

/-- What the reflection of a port with a PHY shows of the cable. -/
def cableSeen (audited : Bool) (rtt : Option Nat) (cable : Nat) : Nat := if audited = true ∧ rtt.isSome = true then cable % 4 else 3

theorem cableSeen_lt (audited : Bool) (rtt : Option Nat) (cable : Nat) : cableSeen audited rtt cable < 4 := by
  unfold cableSeen
  split <;> omega

theorem State.linkTrained_phy {s : State} {p : Nat} (hp : p < 8) (audited : Bool) (rtt : Option Nat) (path : Bool) (cable sqi : Nat) :
    s.linkTrained p path audited rtt cable sqi =
      if cableSeen audited rtt cable = 1 ∨ cableSeen audited rtt cable = 2 then s.put F.ESW_PSTAT_CABLE (cableSeen audited rtt cable) p
      else ((((s.put F.ESW_PSTAT_CABLE (cableSeen audited rtt cable) p).pathTraining p path).auditTraining p audited rtt).put
        F.ESW_PSTAT_LINK 1 p).put F.ESW_PSTAT_SQI sqi p := by
  have h8 : p ≠ 8 := by omega
  have hseen : (if (p < 8 ∨ p = 10) ∧ audited = true ∧ rtt.isSome = true then cable % 4 else 3) = cableSeen audited rtt cable := by
    simp [cableSeen, hp]
  unfold State.linkTrained
  dsimp only
  rw [hseen, if_pos hp, if_neg h8]

theorem exec_linkTrainingEnd {s : State} {p : Nat} (hp : p < 8) (hnet : s.domOn domNET = true) (hen : s.get F.ESW_PCTL_EN p = 1)
    (path audited : Bool) (rtt : Option Nat) (cable sqi : Nat) :
    exec (.linkTrainingEnd p path audited rtt cable sqi) s = s.ends (s.linkTrained p path audited rtt cable sqi) := by
  change execLinkTrainingEnd p path audited rtt cable sqi s = _
  have hlt : p < 11 := by omega
  simp [execLinkTrainingEnd, hlt, hnet, State.on, hen]

/-- The fields of a port's status lie in one word, apart. -/
theorem State.get_put_pstat (s : State) (p : Nat) (f g : Fld) (v : Nat) (hf : f.fits) (hfr : f.reg = .ESW_PSTAT)
    (hgr : g.reg = .ESW_PSTAT) (hw : g.word = f.word) (hapart : f.hi < g.lo ∨ g.hi < f.lo) :
    (s.put f v p).get g p = s.get g p :=
  State.get_put_apart _ _ _ _ _ _ hf (hgr.trans hfr.symm) hw hapart

/-- A training that finds a sound cable and a good path shows the link, the cable and the quality, and calibrates the port. -/
theorem State.linkTrained_up {s : State} {p cable sqi : Nat} {audited : Bool} {rtt : Option Nat} (hp : p < 8) (hsqi : sqi < 8)
    (hsound : cableSeen audited rtt cable ≠ 1 ∧ cableSeen audited rtt cable ≠ 2) :
    let t := s.linkTrained p true audited rtt cable sqi
    t.get F.ESW_PSTAT_LINK p = 1 ∧ t.get F.ESW_PSTAT_CABLE p = cableSeen audited rtt cable ∧ t.get F.ESW_PSTAT_SQI p = sqi ∧
      bit (t.get F.TIM_CALSTAT_PORT) p = true := by
  dsimp only
  rw [State.linkTrained_phy hp, if_neg (by tauto)]
  set c := cableSeen audited rtt cable
  have hc : c < 4 := cableSeen_lt audited rtt cable
  have haudit : ∀ t : State, ∀ a, a < 0x40003010 ∨ 0x40004000 ≤ a → t.sameAt (t.auditTraining p audited rtt) a := fun t a ha =>
    t.sameAt_auditTraining p audited rtt (by simp only [Reg.addr, Reg.geom]; omega) (by simp only [Reg.addr, Reg.geom]; omega)
  have hport : ∀ (t : State) (f : Fld) (v : Nat), f.reg = .ESW_PSTAT → f.word = 0 →
      (t.put f v p).get F.TIM_CALSTAT_PORT = t.get F.TIM_CALSTAT_PORT := fun t f v hr hw =>
    t.get_put_elsewhere _ _ _ _ _ _ _ (by rw [hr, hw]; simp only [F.TIM_CALSTAT_PORT, Reg.addr, Reg.geom]; omega)
  refine ⟨?_, ?_, ?_, ?_⟩
  · rw [State.get_put_pstat _ p F.ESW_PSTAT_SQI F.ESW_PSTAT_LINK _ ⟨by decide, by decide⟩ rfl rfl rfl (by decide),
      State.get_put_same _ F.ESW_PSTAT_LINK _ _ _ ⟨by decide, by decide⟩]
    rfl
  · rw [State.get_put_pstat _ p F.ESW_PSTAT_SQI F.ESW_PSTAT_CABLE _ ⟨by decide, by decide⟩ rfl rfl rfl (by decide),
      State.get_put_pstat _ p F.ESW_PSTAT_LINK F.ESW_PSTAT_CABLE _ ⟨by decide, by decide⟩ rfl rfl rfl (by decide),
      (haudit _ _ (by simp only [F.ESW_PSTAT_CABLE, Reg.addr, Reg.geom]; omega)).get]
    change ((s.put F.ESW_PSTAT_CABLE c p).put F.TIM_CALSTAT_PORT _).get F.ESW_PSTAT_CABLE p = c
    rw [State.get_put_elsewhere _ F.TIM_CALSTAT_PORT F.ESW_PSTAT_CABLE _ _ _ _ _
      (by simp only [F.TIM_CALSTAT_PORT, F.ESW_PSTAT_CABLE, Reg.addr, Reg.geom]; omega),
      State.get_put_same _ F.ESW_PSTAT_CABLE _ _ _ ⟨by decide, by decide⟩]
    exact Nat.mod_eq_of_lt hc
  · rw [State.get_put_same _ F.ESW_PSTAT_SQI _ _ _ ⟨by decide, by decide⟩]
    exact Nat.mod_eq_of_lt hsqi
  · rw [hport _ _ _ rfl rfl, hport _ _ _ rfl rfl, (haudit _ _ (.inl (by decide))).get]
    change bit (((s.put F.ESW_PSTAT_CABLE c p).calPort p true).get F.TIM_CALSTAT_PORT) p = true
    rw [State.calPort, State.get_put_setBit _ F.TIM_CALSTAT_PORT _ _ _ _ ⟨by decide, by decide⟩ (show p < 11 by omega)]
    exact bit_setBit_same _ _

/-- A training that finds an open or short cable shows it and raises no link. -/
theorem State.linkTrained_badCable {s : State} {p cable : Nat} (hp : p < 8) (hcable : cable % 4 = 1 ∨ cable % 4 = 2) (path : Bool)
    (sqi r : Nat) :
    let t := s.linkTrained p path true (some r) cable sqi
    t.get F.ESW_PSTAT_LINK p = s.get F.ESW_PSTAT_LINK p ∧ t.get F.ESW_PSTAT_CABLE p = cable % 4 := by
  have hseen : cableSeen true (some r) cable = cable % 4 := by simp [cableSeen]
  dsimp only
  rw [State.linkTrained_phy hp, hseen, if_pos hcable]
  refine ⟨s.get_put_pstat p F.ESW_PSTAT_CABLE F.ESW_PSTAT_LINK _ ⟨by decide, by decide⟩ rfl rfl rfl (by decide), ?_⟩
  rw [State.get_put_same _ F.ESW_PSTAT_CABLE _ _ _ ⟨by decide, by decide⟩]
  exact Nat.mod_mod _ _

/-! ### A link that falls (R152) -/

/-- What a port shows once its link is down: no calibration, no link, not asCapable. -/
def State.linkShownDown (s : State) (p : Nat) : State := ((s.calPort p false).put F.ESW_PSTAT_LINK 0 p).putAscap p false

theorem State.linkShownDown_leaves (s : State) {p : Nat} (hp : p < 11) :
    (s.linkShownDown p).get F.ESW_PSTAT_LINK p = 0 ∧ (s.linkShownDown p).get F.ESW_PSTAT_ASCAP p = 0 ∧
      bit ((s.linkShownDown p).get F.TIM_CALSTAT_PORT) p = false := by
  have hport : ∀ (t : State) (f : Fld) (v : Nat), f.reg = .ESW_PSTAT → f.word = 0 →
      (t.put f v p).get F.TIM_CALSTAT_PORT = t.get F.TIM_CALSTAT_PORT := fun t f v hr hw =>
    t.get_put_elsewhere _ _ _ _ _ _ _ (by rw [hr, hw]; simp only [F.TIM_CALSTAT_PORT, Reg.addr, Reg.geom]; omega)
  rw [State.linkShownDown, State.putAscap]
  refine ⟨?_, ?_, ?_⟩
  · rw [State.get_put_pstat _ p F.ESW_PSTAT_ASCAP F.ESW_PSTAT_LINK _ ⟨by decide, by decide⟩ rfl rfl rfl (by decide),
      State.get_put_same _ F.ESW_PSTAT_LINK _ _ _ ⟨by decide, by decide⟩]
    rfl
  · rw [State.get_put_same _ F.ESW_PSTAT_ASCAP _ _ _ ⟨by decide, by decide⟩]
    rfl
  · rw [hport _ _ _ rfl rfl, hport _ _ _ rfl rfl, State.calPort,
      State.get_put_setBit _ F.TIM_CALSTAT_PORT _ _ _ _ ⟨by decide, by decide⟩ hp]
    exact bit_setBit_false _ _

/-- The audit of a port whose link is down is in use no more. -/
def State.auditStopped (s : State) (p : Nat) : State :=
  let k := if p = 10 then 8 else p
  if p < 8 ∨ p = 10 then ((s.put F.TIM_AUD_VALID 0 k).put F.TIM_AUD_APPLIED 0 k).setAudit k AuditSt.none_ else s

theorem State.sameAt_auditStopped (s : State) (p : Nat) {a : Nat} (ha : a < 0x40003010 ∨ 0x40004000 ≤ a) :
    s.sameAt (s.auditStopped p) a := by
  have hne : p < 8 ∨ p = 10 → Reg.addr .TIM_AUD (if p = 10 then 8 else p) 0 0 ≠ a := fun hphy => by
    simp only [Reg.addr, Reg.geom]
    split <;> omega
  unfold State.auditStopped
  dsimp only
  generalize hk : (if p = 10 then 8 else p) = k at hne ⊢
  split
  · next hphy =>
    have hput : ∀ (t : State) (f : Fld) (v : Nat), f.reg = .TIM_AUD → f.word = 0 → t.sameAt (t.put f v k) a := fun t f v hr hw =>
      t.sameAt_put v (by rw [hr, hw]; exact hne hphy)
    exact ((hput s F.TIM_AUD_VALID 0 rfl rfl).trans (hput _ F.TIM_AUD_APPLIED 0 rfl rfl)).trans (State.sameAt_of_regs rfl a)
  · exact s.sameAt_rfl a

@[simp] theorem State.auditStopped_eth (s : State) (p : Nat) : (s.auditStopped p).eth = s.eth := by
  unfold State.auditStopped
  dsimp only
  split
  · rfl
  · rfl

@[simp] theorem State.auditStopped_upd (s : State) (p : Nat) : (s.auditStopped p).upd = s.upd := by
  unfold State.auditStopped
  dsimp only
  split
  · rfl
  · rfl

theorem State.linkLost_eq (s : State) (p : Nat) : s.linkLost p =
    ((s.linkShownDown p).auditStopped p).setEport p { s.eport p with pdOpen := none, good := 0, ptp := [] } := by
  have hport : ((s.linkShownDown p).auditStopped p).eport p = s.eport p := by
    rw [State.eport, State.auditStopped_eth]
    rfl
  rw [← hport]
  rfl

/-- A link falls while no Siari session is open. -/
theorem State.linkFall_of_no_session {s : State} (p : Nat) (h : s.upd.sessions = []) : s.linkFall p = s.linkLost p := by
  have hupd : (s.linkLost p).upd.sessions = [] := by
    rw [State.linkLost_eq]
    exact (congrArg UpdState.sessions ((s.linkShownDown p).auditStopped_upd p)).trans h
  simp [State.linkFall, hupd]

/-! ### Frames out (R210) -/

/-- The counting of credits leaves what a port sends. -/
theorem State.sendingPort_creditTick (s : State) (p q : Nat) (f : Frame) (fs : List Frame) :
    ((s.creditTick p).sendingPort p q f fs).busyTo = s.now + s.frameTime p f ∧
      ((s.creditTick p).sendingPort p q f fs).sent = some ⟨some f, none, s.now, false⟩ := by
  have honly := s.portsOnly_creditTick p
  have htime : (s.creditTick p).frameTime p f = s.frameTime p f := by
    rw [State.frameTime, State.frameTime, State.taggedAt, State.taggedAt, honly.get]
  exact ⟨congrArg₂ (· + ·) honly.now htime, congrArg (fun n => some (Sent.mk (some f) none n false)) honly.now⟩

/-- A port without gPTP messages that drops no late frame sends the frame that it picks. -/
theorem State.egress_of_pick {s u : State} {p q fault : Nat} {f : Frame}
    (hdrops : (List.range 8).foldl (fun t q => t.dropLate p q (t.equeue p q).length) (s.creditTick p) = u)
    (hfirst : u.ptpFirst p = none) (hgeneral : u.ptpGeneral p = none) (hpick : u.pickQueue p = some (q, f)) :
    s.egress p fault = u.sendFrame p q fault f := by
  unfold State.egress
  rw [hdrops]
  dsimp only
  rw [hfirst]
  dsimp only
  rw [hgeneral]
  dsimp only
  rw [hpick]

/-- The opportunity of a port with one queue of frames that wait for nothing. -/
theorem State.egress_only {s : State} {p q : Nat} {f : Frame} {fs : List Frame} (hp : p < 11) (hq : q < 8)
    (hqueue : s.equeue p q = f :: fs) (hother : ∀ k < 8, k ≠ q → s.equeue p k = []) (hptp : (s.eport p).ptp = [])
    (hlaunch : s.noLaunch p) (hgates : s.get F.ESW_PTASCTL_EN p = 0) (hshaper : s.shaped p q = false) (hdesc : f.desc = none)
    (hatts : f.atts = []) :
    s.egress p 0 = (((s.creditTick p).setEqueue p q fs).bump F.ESW_PCNT_COUNT p 1).setEport p ((s.creditTick p).sendingPort p q f fs) := by
  have honly := s.portsOnly_creditTick p
  have htraffic := s.sameTraffic_creditTick p
  have hqueue' : (s.creditTick p).equeue p q = f :: fs := by rw [htraffic.equeue, hqueue]
  have hptp' : ((s.creditTick p).eport p).ptp = [] := by rw [(htraffic p).2.2, hptp]
  have hlaunch' : (s.creditTick p).noLaunch p := fun k hk g hg => hlaunch k hk g (by rwa [htraffic.equeue] at hg)
  have hgates' : (s.creditTick p).get F.ESW_PTASCTL_EN p = 0 := by rw [honly.get, hgates]
  have hshaper' : (s.creditTick p).shaped p q = false := by
    rw [← hshaper]
    simp only [State.shaped, State.on, honly.get]
  have hpick := State.pickQueue_only hq hqueue' (fun k hk hne => by rw [htraffic.equeue, hother k hk hne]) hptp' hlaunch' hgates' hshaper'
  have hfirst : (s.creditTick p).ptpFirst p = none := by simp [State.ptpFirst, hptp']
  have hgeneral : (s.creditTick p).ptpGeneral p = none := by simp [State.ptpGeneral, hptp']
  have hf : f.launch = none := hlaunch q hq f (by rw [hqueue]; exact List.mem_cons_self)
  have hsend := State.sendFrame_plain hp hqueue' hshaper' hf hdesc hatts
  rw [State.egress_of_pick (State.dropsLate_of_noLaunch hlaunch') hfirst hgeneral hpick, hsend]

theorem exec_egressStart_free {s : State} {p : Nat} (hp : p < 10) (hnet : s.domOn domNET = true) (hup : s.portUp p = true)
    (hfree : (s.eport p).busyTo ≤ s.now) : exec (.egressStart p 0 false) s = s.ends (s.egress p 0) := by
  change execEgressStart p 0 false s = _
  have h14 : ¬ 14 < p := by omega
  have h10 : p ≠ 10 := by omega
  simp [execEgressStart, h14, h10, hnet, hup, Nat.not_lt.mpr hfree]

/-! ### Bad frames (R203) -/

/-- A bad frame of a port that cuts nothing through is counted and noted. -/
theorem exec_frameReceive_bad {s : State} {p : Nat} {frame : List Byte} (hlow : 8 ≤ p) (hp : p < 11) (hnet : s.domOn domNET = true)
    (hup : s.portUp p = true) (hbad : frame.length < 64 ∨ 1522 < frame.length ∨
      frame.drop (frame.length - 4) ≠ fcsOf (frame.take (frame.length - 4))) :
    exec (.frameReceive p frame) s = s.ends ((s.noteSeen p).bump F.ESW_PCNT_COUNT p 2) := by
  change execFrameReceive p frame s = _
  have h10 : ¬ 10 < p := by omega
  have h8 : ¬ p < 8 := by omega
  by_cases hlen : frame.length < 64 ∨ 1522 < frame.length
  · simp [execFrameReceive, h10, hnet, hup, hlen, State.noteSeen]
  · have hfcs : frame.drop (frame.length - 4) ≠ fcsOf (frame.take (frame.length - 4)) := by tauto
    simp [execFrameReceive, h10, hnet, hup, hlen, hfcs, h8, State.noteSeen]

end Sys2Proof.Machine
end

section
/-! Frames in and out, link training and link loss: each command's effect put together (R152, R186, R203 to R210). -/

namespace Sys2Proof.Machine

/-! ### Frames in -/

/-- The copy of a frame that was counted and learnt joins the queue that had room for it before. -/
theorem State.received_joins {s : State} {p q : Nat} {f : Frame} (hp : p < 10) (hq : q < 10)
    (hports : (s.received p f).destPorts f = [q]) (hingress : f.ingress = p) (hstore : s.cutThrough f p q = false)
    (hcells : f.cells ≤ s.cellsFree q)
    (hroom : cellsOf (s.equeue q (s.mapQueue q f.pcp)) < s.get F.ESW_PQLIM_LIM q (s.mapQueue q f.pcp)) (v : EthPort)
    (hv : v.queues = (s.eport p).queues) (hb : v.busyTo = (s.eport p).busyTo) (hptp : v.ptp = (s.eport p).ptp) :
    let t := (((s.received p f).setEport p v).forward f none).1
    t.oneMore s F.ESW_PCNT_COUNT p 0 ∧
      t.equeue q (s.mapQueue q f.pcp) = s.equeue q (s.mapQueue q f.pcp) ++ [{ f with queue := s.mapQueue q f.pcp }] ∧
      (t.eport p).busyTo = (s.eport p).busyTo := by
  dsimp only
  set u := (s.received p f).setEport p v
  have htraffic : s.sameTraffic u := by
    have hreceived := s.sameTraffic_received p f
    refine hreceived.trans (State.sameTraffic_setEport _ ?_ ?_ ?_)
    · rw [hv, (hreceived p).1]
    · rw [hb, (hreceived p).2.1]
    · rw [hptp, (hreceived p).2.2]
  have hmap : u.mapQueue q f.pcp = s.mapQueue q f.pcp := s.received_mapQueue p f (by omega) f.pcp
  have hcut : u.cutThrough f p q = false := by
    rw [← hstore, ← s.received_cutThrough p f (by omega) (show q < 15 by omega), State.cutThrough, State.cutThrough,
      htraffic.equeue, (s.sameTraffic_received p f).equeue]
    rfl
  have hfree : u.cellsFree q = s.cellsFree q := State.cellsFree_congr htraffic
    (fun r hr => s.get_received f hr rfl (by decide) (by decide)) q
  have hlim : u.get F.ESW_PQLIM_LIM q (s.mapQueue q f.pcp) = s.get F.ESW_PQLIM_LIM q (s.mapQueue q f.pcp) :=
    s.received_lim p f (by omega) (s.mapQueue_lt q f.pcp)
  have hcount : u.oneMore s F.ESW_PCNT_COUNT p 0 := s.received_count p f
  rw [State.forward_one (s := u) hports (by omega) (by rw [hingress]; exact hcut), hmap,
    State.enq_joins (by rw [hfree]; exact hcells) (by rw [htraffic.equeue, hlim]; exact hroom)]
  have htick := htraffic.trans (u.sameTraffic_creditTick q)
  refine ⟨?_, ?_, ?_⟩
  · exact ((u.portsOnly_creditTick q).get _ _ _).trans hcount
  · rw [State.equeue_setEqueue_same, htick.equeue]
  · rw [← (htick p).2.1]
    rcases eq_or_ne q p with rfl | hne
    · rw [State.setEqueue, State.eport_setEport_same]
    · rw [State.setEqueue, State.eport_setEport_ne _ _ hne]

/-- A good frame that its VLAN admits and that no stream matches. -/
theorem State.counted_ingress {s : State} {p n : Nat} {f : Frame} {tag : Option Nat} (hp : p < 10) (hingress : f.ingress = p)
    (hvlan : f.vid < 4096) (hcontrol : f.etype ≠ 0x8808) (hvid : f.vid ≠ 4095) (hdst : f.dst ≠ ptpAddr)
    (hmember : bit (s.get F.ESW_VLAN_MEMBER f.vid) p = true) (hservice : ¬ (p = 9 ∧ s.service f = true))
    (hstream : (List.range 256).all (fun k => !s.streamHit k f) = true) :
    ((s.noteSeen p).bump F.ESW_PCNT_COUNT p 0).ingress f n none tag =
      ((s.received p f).setEport p { s.eport p with seen := some s.now }).forward f none := by
  rw [List.all_eq_true] at hstream
  subst hingress
  rw [State.ingress_forwards (s := (s.noteSeen f.ingress).bump F.ESW_PCNT_COUNT f.ingress 0) hp hcontrol hvid hdst ?_ hservice ?_,
    State.noteSeen_received]
  · rw [← hmember]
    refine congrArg (bit · f.ingress) (s.get_counted (by omega) ?_)
    simp only [F.ESW_VLAN_MEMBER, Reg.addr, Reg.geom]
    omega
  · intro k hk
    have hmiss := hstream k (List.mem_range.mpr hk)
    rw [Bool.not_eq_true'] at hmiss
    rw [← hmiss]
    exact s.counted_streamHit (by omega) k f

/-! ### Frames out and bad frames -/

/-- A port that takes the place of another, once the queue is written and the frame counted. -/
theorem State.sent_leaves (u : State) (p q : Nat) (fs : List Frame) (v : EthPort) :
    let t := ((u.setEqueue p q fs).bump F.ESW_PCNT_COUNT p 1).setEport p v
    t.eport p = v ∧ t.oneMore u F.ESW_PCNT_COUNT p 1 ∧ t.mem = u.mem :=
  ⟨State.eport_setEport_same _ _ _, State.get_bump_same u F.ESW_PCNT_COUNT p 1 ⟨by decide, by decide⟩, rfl⟩

/-- What the opportunity of a port with one queue of frames leaves. -/
theorem State.egress_leaves {s : State} {p q : Nat} {f : Frame} {fs : List Frame}
    (h : s.egress p 0 =
      (((s.creditTick p).setEqueue p q fs).bump F.ESW_PCNT_COUNT p 1).setEport p ((s.creditTick p).sendingPort p q f fs)) :
    (s.egress p 0).equeue p q = fs ∧ ((s.egress p 0).eport p).busyTo = s.now + s.frameTime p f ∧
      ((s.egress p 0).eport p).sent = some ⟨some f, none, s.now, false⟩ ∧ (s.egress p 0).oneMore s F.ESW_PCNT_COUNT p 1 ∧
      (s.egress p 0).mem = s.mem := by
  have honly := s.portsOnly_creditTick p
  obtain ⟨hbusy, hsent⟩ := s.sendingPort_creditTick p q f fs
  obtain ⟨hport, hcount, hmem⟩ := (s.creditTick p).sent_leaves p q fs ((s.creditTick p).sendingPort p q f fs)
  rw [State.oneMore, honly.get] at hcount
  rw [← h] at hport hcount hmem
  refine ⟨?_, ?_, ?_, hcount, hmem.trans honly.mem⟩
  · rw [State.equeue, hport]
    exact Sparse.at_set_same _ _ _ _
  · rw [hport, hbusy]
  · rw [hport, hsent]

/-- What a bad frame leaves. -/
theorem State.badFrame_leaves (s : State) (p : Nat) :
    let t := (s.noteSeen p).bump F.ESW_PCNT_COUNT p 2
    t.oneMore s F.ESW_PCNT_COUNT p 2 ∧ t.eport p = { s.eport p with seen := some s.now } ∧ t.eth.fdb = s.eth.fdb :=
  ⟨State.get_bump_same s F.ESW_PCNT_COUNT p 2 ⟨by decide, by decide⟩, State.eport_setEport_same _ _ _, rfl⟩

/-! ### A link that falls -/

theorem State.linkLost_leaves (s : State) {p : Nat} (hp : p < 11) :
    (s.linkLost p).get F.ESW_PSTAT_LINK p = 0 ∧ (s.linkLost p).get F.ESW_PSTAT_ASCAP p = 0 ∧
      bit ((s.linkLost p).get F.TIM_CALSTAT_PORT) p = false ∧ ((s.linkLost p).eport p).ptp = [] ∧
      ((s.linkLost p).eport p).queues = (s.eport p).queues := by
  obtain ⟨hlink, hascap, hcal⟩ := s.linkShownDown_leaves hp
  have hsame : ∀ a, a < 0x40003010 ∨ 0x40004000 ≤ a → (s.linkShownDown p).sameAt (s.linkLost p) a := fun a ha => by
    rw [State.linkLost_eq]
    exact State.sameAt_auditStopped _ p ha
  have hport : (s.linkLost p).eport p = { s.eport p with pdOpen := none, good := 0, ptp := [] } := by
    rw [State.linkLost_eq, State.eport_setEport_same]
  have hpstat : ∀ f : Fld, f.reg = .ESW_PSTAT → f.word = 0 → (s.linkLost p).get f p = (s.linkShownDown p).get f p :=
    fun f hr hw => (hsame _ (by rw [hr, hw]; simp only [Reg.addr, Reg.geom]; omega)).get
  refine ⟨(hpstat _ rfl rfl).trans hlink, (hpstat _ rfl rfl).trans hascap, ?_, ?_, ?_⟩
  · rw [(hsame _ (.inl (by decide))).get, hcal]
  · rw [hport]
  · rw [hport]

/-! ### The statement -/

/-- Settles O15: what is learnt and counted leaves the queues and their limits, so that the copy joins the queue that was free for it; the
only queue of a port is the one it serves; training and link loss write the port's words of ESW_PSTAT, TIM_CALSTAT and TIM_AUD alone. -/
theorem framesAndPortsComplete : Obligations.FramesAndPortsComplete := by
  unfold Obligations.FramesAndPortsComplete
  refine ⟨?receive, ?bad, ?send, ?trained, ?lost, ?cable⟩
  case receive =>
    intro s p q frame f hp hnet hup hlow hhigh hfcs hf hcontrol hvid hdst hmember hservice hstream hports hq hstore hcells hroom
    have hingress : f.ingress = p := by rw [← hf]; exact parseFrame_ingress _ _ _ _ _
    have hvlan : f.vid < 4096 := by rw [← hf]; exact parseFrame_vid_lt _ _ _ _ _ (bitsOf_lt _ _ _)
    refine Answers.of_ends _ (exec_frameReceive_good hp hnet hup hlow hhigh hfcs hf) ?_
    rw [State.counted_ingress hp hingress hvlan hcontrol hvid hdst hmember hservice hstream]
    exact State.received_joins hp hq hports hingress hstore hcells hroom _ rfl rfl rfl
  case bad =>
    intro s p frame hlow hp hnet hup hbad
    obtain ⟨hcount, hport, hfdb⟩ := s.badFrame_leaves p
    refine Answers.of_ends _ (exec_frameReceive_bad hlow hp hnet hup hbad) ⟨hcount, ?_, ?_, hfdb⟩
    · rw [State.withPending_eport, hport]
    · rw [State.withPending_eport, hport]
  case send =>
    intro s p q f fs hp hnet hup hfree hptp hq hqueue hall hgates hshaper hdesc hatts
    rw [List.all_eq_true] at hall
    have hall' : ∀ k < 8, (k = q ∨ s.equeue p k = []) ∧ ∀ g ∈ s.equeue p k, g.launch = none := fun k hk => by
      simpa using hall k (List.mem_range.mpr hk)
    have hsends := State.egress_only (by omega) hq hqueue (fun k hk hne => (hall' k hk).1.resolve_left hne) hptp
      (fun k hk => (hall' k hk).2) hgates hshaper hdesc hatts
    refine Answers.of_ends _ (exec_egressStart_free hp hnet hup hfree) ?_
    simpa only [State.withPending_equeue, State.withPending_eport, State.withPending_oneMore, State.withPending_mem]
      using State.egress_leaves hsends
  case trained =>
    intro s p cable sqi audited rtt hp hsound hnet hen hsqi
    refine Answers.of_ends _ (exec_linkTrainingEnd hp hnet hen true audited rtt cable sqi) (State.linkTrained_up hp hsqi ?_)
    unfold cableSeen
    split_ifs with hseen
    · exact not_or.mp fun h => hsound ⟨hseen.1, hseen.2, h⟩
    · decide
  case lost =>
    intro s p hp hnone
    have hexec : exec (.linkDown p) s = s.ends (s.linkLost p) := by
      rw [← State.linkFall_of_no_session p hnone]
      change s.ends (if p < 11 then s.linkFall p else s) = _
      rw [if_pos hp]
    refine Answers.of_ends _ hexec ?_
    simpa only [State.withPending_get, State.withPending_eport] using s.linkLost_leaves hp
  case cable =>
    intro s p cable sqi r path hp hnet hen hcable
    refine Answers.of_ends _ (exec_linkTrainingEnd hp hnet hen path true (some r) cable sqi) ?_
    simpa only [State.withPending_get] using State.linkTrained_badCable hp hcable path sqi r

end Sys2Proof.Machine
end

section
/-! The scales of the timebase: what the operations of the servo leave of a scale and of its registers (R150, R156 to R168). -/

namespace Sys2Proof.Machine

theorem codeOf_lt (n : Nat) (v : Int) : codeOf n v < 2 ^ n := by
  have hpos : (0 : Int) < Int.ofNat (2 ^ n) := Int.natCast_pos.mpr (Nat.two_pow_pos n)
  rw [codeOf, Int.toNat_lt (Int.emod_nonneg v hpos.ne')]
  exact Int.emod_lt_of_pos v hpos

/-! ### One scale -/

@[simp] theorem State.withPending_scale (t : State) (q : List Instr) (n : Nat) : (t.withPending q).scale n = t.scale n := rfl
@[simp] theorem State.withPending_scaleValid (t : State) (q : List Instr) (n : Nat) :
    (t.withPending q).scaleValid n = t.scaleValid n := rfl
@[simp] theorem State.withPending_incrRate (t : State) (q : List Instr) (n : Nat) : (t.withPending q).incrRate n = t.incrRate n := rfl
@[simp] theorem State.withPending_tim (t : State) (q : List Instr) : (t.withPending q).tim = t.tim := rfl

section
variable (s : State) (n : Nat)

@[simp] theorem State.scale_setScale_same (v : Scale) : (s.setScale n v).scale n = v := Sparse.at_set_same _ _ _ _

@[simp] theorem State.setScale_word (v : Scale) (r : Reg) (i j w : Nat) : (s.setScale n v).word r i j w = s.word r i j w := rfl
@[simp] theorem State.setScale_get (v : Scale) (f : Fld) (i j : Nat) : (s.setScale n v).get f i j = s.get f i j := rfl
@[simp] theorem State.setScale_rmax (v : Scale) : (s.setScale n v).rmax n = s.rmax n := by
  rw [State.rmax, State.rmax, State.setScale_get]
@[simp] theorem State.setScale_now (v : Scale) : (s.setScale n v).now = s.now := rfl
@[simp] theorem State.setScale_applyTick (v : Scale) : (s.setScale n v).applyTick = s.applyTick := rfl

@[simp] theorem State.put_scale (f : Fld) (v i j : Nat) : (s.put f v i j).scale n = s.scale n := rfl
@[simp] theorem State.put_applyTick (f : Fld) (v i j : Nat) : (s.put f v i j).applyTick = s.applyTick := rfl
@[simp] theorem State.bump_scale (f : Fld) (i j : Nat) : (s.bump f i j).scale n = s.scale n := rfl

/-! ### Rates and steps that wait -/

@[simp] theorem State.rateLater_get (r : Int) (f : Fld) (i j : Nat) : (s.rateLater n r).get f i j = s.get f i j := rfl
@[simp] theorem State.rateLater_word (r : Int) (g : Reg) (i j w : Nat) : (s.rateLater n r).word g i j w = s.word g i j w := rfl
@[simp] theorem State.stepLater_get (e : Int) (f : Fld) (i j : Nat) : (s.stepLater n e).get f i j = s.get f i j := rfl
@[simp] theorem State.stepLater_word (e : Int) (g : Reg) (i j w : Nat) : (s.stepLater n e).word g i j w = s.word g i j w := rfl
@[simp] theorem State.putRate_scale (r : Int) : (s.putRate n r).scale n = s.scale n := rfl

@[simp] theorem State.rateLater_scale (r : Int) :
    (s.rateLater n r).scale n = { s.scale n with rateAt := (s.scale n).rateAt ++ [(s.applyTick, r)] } :=
  s.scale_setScale_same n _

/-- The integral part that an offset leads to (R160). -/
def State.integNext (s : State) (n : Nat) (e : Int) : Int :=
  clampInt (-s.rmax n) (s.rmax n) ((s.scale n).integ + Int.ofNat (s.get F.TIM_SGAIN_KI n) * e)

/-- The rate that an offset leads to (R160). -/
def State.rateNext (s : State) (n : Nat) (e : Int) : Int :=
  clampInt (-s.rmax n) (s.rmax n) (Int.ofNat (s.get F.TIM_SGAIN_KP n) * e + s.integNext n e)

@[simp] theorem State.servoRate_get (e : Int) (f : Fld) (i j : Nat) : (s.servoRate n e).get f i j = s.get f i j := rfl

@[simp] theorem State.servoRate_scale (e : Int) :
    (s.servoRate n e).scale n =
      { s.scale n with integ := s.integNext n e, rateAt := (s.scale n).rateAt ++ [(s.applyTick, s.rateNext n e)] } := by
  unfold State.servoRate
  dsimp only
  rw [State.rateLater_scale, State.scale_setScale_same, State.setScale_applyTick]
  rfl

@[simp] theorem State.stepLater_scale (e : Int) :
    (s.stepLater n e).scale n = { s.scale n with stepAt := (s.scale n).stepAt ++ [(s.applyTick, e)] } :=
  s.scale_setScale_same n _

/-! ### The last offset (R156) -/

@[simp] theorem State.putLast_scale (e : Int) : (s.putLast n e).scale n = { s.scale n with lastAcc := some s.now } :=
  State.scale_setScale_same _ n _

@[simp] theorem State.putLast_applyTick (e : Int) : (s.putLast n e).applyTick = s.applyTick := by
  have hnow : (s.putLast n e).now = s.now := State.deliver_now _ _ _ _ _
  rw [State.applyTick, State.applyTick, hnow]

variable {n} in
/-- The last offset goes to the two words of its register. -/
theorem State.putLast_get (e : Int) {f : Fld} (h0 : Reg.addr .TIM_SLAST n 0 0 ≠ f.reg.addr n 0 f.word)
    (h1 : Reg.addr .TIM_SLAST n 0 1 ≠ f.reg.addr n 0 f.word) : (s.putLast n e).get f n = s.get f n := by
  refine State.sameAt.get (s.sameAt_deliver _ fun k hk => ?_)
  match k, hk with
  | 0, _ => exact h0
  | 1, _ => exact h1

@[simp] theorem State.putLast_state (e : Int) : (s.putLast n e).get F.TIM_SSTAT_STATE n = s.get F.TIM_SSTAT_STATE n :=
  s.putLast_get e (by simp only [F.TIM_SSTAT_STATE, Reg.addr, Reg.geom]; omega) (by simp only [F.TIM_SSTAT_STATE, Reg.addr, Reg.geom]; omega)

@[simp] theorem State.putLast_kp (e : Int) : (s.putLast n e).get F.TIM_SGAIN_KP n = s.get F.TIM_SGAIN_KP n :=
  s.putLast_get e (by simp only [F.TIM_SGAIN_KP, Reg.addr, Reg.geom]; omega) (by simp only [F.TIM_SGAIN_KP, Reg.addr, Reg.geom]; omega)

@[simp] theorem State.putLast_ki (e : Int) : (s.putLast n e).get F.TIM_SGAIN_KI n = s.get F.TIM_SGAIN_KI n :=
  s.putLast_get e (by simp only [F.TIM_SGAIN_KI, Reg.addr, Reg.geom]; omega) (by simp only [F.TIM_SGAIN_KI, Reg.addr, Reg.geom]; omega)

@[simp] theorem State.putLast_rmax (e : Int) : (s.putLast n e).rmax n = s.rmax n := by
  rw [State.rmax, State.rmax, s.putLast_get e (by simp only [F.TIM_SCTL_RMAX, Reg.addr, Reg.geom]; omega)
    (by simp only [F.TIM_SCTL_RMAX, Reg.addr, Reg.geom]; omega)]

/-! ### The state and the rate of a scale -/

@[simp] theorem State.put_state (v : Nat) : (s.put F.TIM_SSTAT_STATE v n).get F.TIM_SSTAT_STATE n = v % 8 :=
  s.get_put_same F.TIM_SSTAT_STATE v n 0 ⟨by decide, by decide⟩

@[simp] theorem State.putRate_rate (r : Int) : (s.putRate n r).get F.TIM_SRATE_RATE n = codeOf 32 (r / 2 ^ 16) := by
  rw [State.putRate, State.get_put_same _ F.TIM_SRATE_RATE _ _ _ ⟨by decide, by decide⟩]
  refine Nat.mod_eq_of_lt ?_
  exact codeOf_lt 32 _

/-- The rate shown is a word of its own. -/
theorem State.putRate_get (r : Int) {f : Fld} (h : Reg.addr .TIM_SRATE n 0 0 ≠ f.reg.addr n 0 f.word) :
    (s.putRate n r).get f n = s.get f n :=
  s.get_put_elsewhere F.TIM_SRATE_RATE f _ _ _ _ _ h

@[simp] theorem State.putRate_state (r : Int) : (s.putRate n r).get F.TIM_SSTAT_STATE n = s.get F.TIM_SSTAT_STATE n :=
  s.putRate_get n r (by simp only [F.TIM_SSTAT_STATE, Reg.addr, Reg.geom]; omega)

end

/-! ### An offset (R157 to R161) -/

/-- A scale notes the offset that came in. -/
def State.offsetSeen (s : State) (n : Nat) (e : Int) : State := s.setScale n { s.scale n with prev := some (e, s.now) }

/-- The last accepted offset of a scale lies far enough back for another one (R157). -/
def State.offsetDue (s : State) (n : Nat) : Bool := (s.scale n).lastAcc.all (fun u => decide (u + 15625 * usUnits ≤ s.now))

theorem le_of_all {o : Option Nat} {u w now : Nat} (h : o.all (fun u => decide (u + w ≤ now)) = true) (hu : o = some u) :
    u + w ≤ now := by
  subst hu
  simpa only [Option.all_some, decide_eq_true_eq] using h

theorem State.endHoldover_of_ne {s : State} {n : Nat} (h : s.get F.TIM_SSTAT_STATE n ≠ 3) : s.endHoldover n = s := by
  rw [State.endHoldover, if_neg h]

section
variable {s : State} {n : Nat} (e : Int)

theorem State.offsetSeen_endHoldover (h : s.get F.TIM_SSTAT_STATE n ≠ 3) : (s.offsetSeen n e).endHoldover n = s.offsetSeen n e :=
  State.endHoldover_of_ne h

variable (hdue : s.offsetDue n = true)
include hdue

theorem State.le_of_offsetDue {u : Nat} (hlast : (s.scale n).lastAcc = some u) : u + 15625 * usUnits ≤ s.now :=
  le_of_all hdue hlast

/-- An offset that finds its scale in ACQUIRE decides a step. -/
theorem State.offset_acquire (hstate : s.get F.TIM_SSTAT_STATE n = 1) :
    s.offset n e = (((s.offsetSeen n e).put F.TIM_SSTAT_STATE 2 n).putLast n e).stepLater n e := by
  rw [← State.offsetSeen_endHoldover e (show s.get F.TIM_SSTAT_STATE n ≠ 3 by rw [hstate]; decide)]
  unfold State.offset State.offsetSeen
  dsimp only
  rw [if_neg (show ¬ (s.get F.TIM_SSTAT_STATE n = 0 ∨ s.get F.TIM_SSTAT_STATE n = 4) by rw [hstate]; decide), if_pos hstate]
  split
  · next u hlast =>
    have hle := State.le_of_offsetDue hdue hlast
    rw [if_neg (by simpa only [decide_eq_true_eq, Nat.not_lt] using hle)]
  · rw [if_neg Bool.false_ne_true]

/-- An offset within the step threshold that finds its scale in TRACK decides a rate. -/
theorem State.offset_track (hstate : s.get F.TIM_SSTAT_STATE n = 2) (hsmall : e.natAbs ≤ s.stepThr n) :
    s.offset n e = ((s.offsetSeen n e).putLast n e).servoRate n e := by
  rw [← State.offsetSeen_endHoldover e (show s.get F.TIM_SSTAT_STATE n ≠ 3 by rw [hstate]; decide)]
  unfold State.offset State.offsetSeen
  dsimp only
  rw [if_neg (show ¬ (s.get F.TIM_SSTAT_STATE n = 0 ∨ s.get F.TIM_SSTAT_STATE n = 4) by rw [hstate]; decide),
    if_neg (show ¬ s.get F.TIM_SSTAT_STATE n = 1 by rw [hstate]; decide), if_pos hsmall]
  split
  · next u hlast =>
    have hle := State.le_of_offsetDue hdue hlast
    rw [if_neg (by simpa only [decide_eq_true_eq, Nat.not_lt] using hle)]
  · rw [if_neg Bool.false_ne_true]

end

/-- What an offset that finds its scale in ACQUIRE leaves. -/
theorem State.offset_acquire_leaves {s : State} {n : Nat} (e : Int) (hdue : s.offsetDue n = true)
    (hstate : s.get F.TIM_SSTAT_STATE n = 1) :
    ((s.offset n e).scale n).lastAcc = some s.now ∧
      ((s.offset n e).scale n).stepAt = (s.scale n).stepAt ++ [(s.applyTick, e)] ∧
      ((s.offset n e).scale n).pulse = (s.scale n).pulse ∧ (s.offset n e).get F.TIM_SSTAT_STATE n = 2 := by
  rw [State.offset_acquire e hdue hstate]
  simp [State.offsetSeen]

/-- What a small offset that finds its scale in TRACK leaves. -/
theorem State.offset_track_leaves {s : State} {n : Nat} (e : Int) (hdue : s.offsetDue n = true)
    (hstate : s.get F.TIM_SSTAT_STATE n = 2) (hsmall : e.natAbs ≤ s.stepThr n) :
    ((s.offset n e).scale n).lastAcc = some s.now ∧
      ((s.offset n e).scale n).integ =
        clampInt (-s.rmax n) (s.rmax n) ((s.scale n).integ + Int.ofNat (s.get F.TIM_SGAIN_KI n) * e) ∧
      ((s.offset n e).scale n).rateAt = (s.scale n).rateAt ++
        [(s.applyTick, clampInt (-s.rmax n) (s.rmax n) (Int.ofNat (s.get F.TIM_SGAIN_KP n) * e + ((s.offset n e).scale n).integ))] ∧
      (s.offset n e).get F.TIM_SSTAT_STATE n = 2 := by
  have hinteg : ((s.offsetSeen n e).putLast n e).integNext n e = s.integNext n e := by
    simp only [State.integNext, State.putLast_rmax, State.putLast_ki, State.putLast_scale, State.offsetSeen, State.setScale_rmax,
      State.setScale_get, State.scale_setScale_same]
  have hrate : ((s.offsetSeen n e).putLast n e).rateNext n e = s.rateNext n e := by
    rw [State.rateNext, State.rateNext, hinteg]
    simp only [State.putLast_rmax, State.putLast_kp, State.offsetSeen, State.setScale_rmax, State.setScale_get]
  rw [State.offset_track e hdue hstate hsmall, State.servoRate_scale, hinteg, hrate, State.putLast_scale, State.putLast_applyTick,
    State.servoRate_get, State.putLast_state]
  simp [State.offsetSeen, State.integNext, State.rateNext, hstate]

end Sys2Proof.Machine
end

section
/-! A step of a scale: what hangs on the scale, in the tables, the time pulse outputs and the ports, follows it and leaves the scales alone
(R159, R176, R214, R250). -/

namespace Sys2Proof.Machine

/-! ### Changes that leave the scales -/

/-- Two states have the same scales at the same instant, and the same registers of the scales. -/
structure State.sameScales (s t : State) : Prop where
  scales : t.tim.scales = s.tim.scales
  now : t.now = s.now
  sameAt : ∀ a < 0x40001000, s.sameAt t a

theorem State.sameScales_of_eq {s t : State} (htim : t.tim = s.tim) (hnow : t.now = s.now) (hregs : t.regs = s.regs) :
    s.sameScales t :=
  ⟨congrArg _ htim, hnow, fun a _ => State.sameAt_of_regs hregs a⟩

theorem State.sameScales_rfl (s : State) : s.sameScales s := State.sameScales_of_eq rfl rfl rfl

theorem State.sameScales.trans {s t u : State} (h : s.sameScales t) (h' : t.sameScales u) : s.sameScales u :=
  ⟨h'.scales.trans h.scales, h'.now.trans h.now, fun a ha => (h.sameAt a ha).trans (h'.sameAt a ha)⟩

theorem State.sameScales_foldl {α : Type} (l : List α) {f : State → α → State} (h : ∀ (t : State) a, t.sameScales (f t a))
    (s : State) : s.sameScales (l.foldl f s) :=
  List.foldlRecOn (motive := fun t => s.sameScales t) l f s.sameScales_rfl fun t ht a _ => ht.trans (h t a)

section
variable {s t : State} (h : s.sameScales t)
include h

theorem State.sameScales.scale (n : Nat) : t.scale n = s.scale n := by rw [State.scale, State.scale, h.scales]

theorem State.sameScales.get {f : Fld} {i j : Nat} (ha : f.reg.addr i j f.word < 0x40001000) : t.get f i j = s.get f i j :=
  (h.sameAt _ ha).get

theorem State.sameScales.scaleValid (n : Nat) : t.scaleValid n = s.scaleValid n := by
  match n with
  | 0 => rfl
  | 1 => rw [State.scaleValid, State.scaleValid, State.on, State.on, h.get (by decide)]
  | 2 => rw [State.scaleValid, State.scaleValid, State.on, State.on, h.get (by decide)]
  | n + 3 => rfl

theorem State.sameScales.scaleFine (n u : Nat) : t.scaleFine n u = s.scaleFine n u := by
  rw [State.scaleFine, State.scaleFine, h.scaleValid, h.scale]

end

section
variable (s : State)

theorem State.sameScales_put {f : Fld} (v : Nat) {i j : Nat} (h : 0x40001000 ≤ f.reg.addr i j f.word) : s.sameScales (s.put f v i j) :=
  ⟨rfl, rfl, fun _ ha => s.sameAt_put v (Nat.ne_of_gt (Nat.lt_of_lt_of_le ha h))⟩

theorem State.sameScales_bumpBy {f : Fld} (n : Nat) {i j : Nat} (h : 0x40001000 ≤ f.reg.addr i j f.word) :
    s.sameScales (s.bumpBy f n i j) :=
  ⟨rfl, rfl, fun _ ha => s.sameAt_bumpBy n (Nat.ne_of_gt (Nat.lt_of_lt_of_le ha h))⟩

theorem State.sameScales_eventAll (ns : List Nat) (block code item a0 a1 : Nat) :
    s.sameScales (s.eventAll ns block code item a0 a1) :=
  ⟨by rw [State.eventAll_tim], State.eventAll_now _ _ _ _ _ _ _,
    fun a ha => s.sameAt_eventAll ns block code item a0 a1 (by simp only [Reg.addr, Reg.geom]; omega)⟩

theorem State.sameScales_eventTo (sp : OwnSpec) (block code item a0 a1 : Nat) :
    s.sameScales (s.eventTo sp block code item a0 a1) :=
  ⟨by rw [State.eventTo_tim], State.eventTo_now _ _ _ _ _ _ _,
    fun a ha => s.sameAt_eventTo sp block code item a0 a1 (by simp only [Reg.addr, Reg.geom]; omega)⟩

theorem State.portsOnly.sameScales {s t : State} (h : s.portsOnly t) : s.sameScales t :=
  State.sameScales_of_eq h.tim h.now h.regs

/-! ### Tables -/

theorem State.sameScales_setEntSt (t b e : Nat) (v : EntSt) : s.sameScales (s.setEntSt t b e v) :=
  State.sameScales_of_eq rfl rfl rfl

theorem State.sameScales_entHandN (t b e at_ fuel : Nat) : s.sameScales (s.entHandN t b e at_ fuel) := by
  induction fuel generalizing s with
  | zero => exact s.sameScales_rfl
  | succ fuel ih =>
    unfold State.entHandN
    split
    · split
      · exact (s.sameScales_setEntSt _ _ _ _).trans (ih _)
      · exact s.sameScales_rfl
    · exact s.sameScales_rfl

theorem State.sameScales_entHand (t b e at_ : Nat) : s.sameScales (s.entHand t b e at_) := s.sameScales_entHandN t b e at_ _

theorem State.sameScales_tableHand (t n tick : Nat) : s.sameScales (s.tableHand t n tick) := by
  unfold State.tableHand
  dsimp only
  split
  · exact s.sameScales_rfl
  · exact State.sameScales_foldl _ (fun u q => u.sameScales_entHand t _ q tick) s

theorem State.sameScales_tableHalt (t : Nat) : s.sameScales (s.tableHalt t) := by
  have hset : s.sameScales (s.setTable t { s.table t with runHeld := false }) := State.sameScales_of_eq rfl rfl rfl
  have hput := State.sameScales_put (s.setTable t { s.table t with runHeld := false }) (f := F.SCH_TCTL_RUN) 0 (i := t) (j := 0)
    (by simp only [F.SCH_TCTL_RUN, Reg.addr, Reg.geom]; omega)
  exact (hset.trans hput).trans (State.sameScales_of_eq rfl rfl rfl)

theorem State.sameScales_entStep (t b q tick : Nat) (e : Int) : s.sameScales (s.entStep t b q tick e) := by
  unfold State.entStep
  dsimp only
  split
  · exact s.sameScales_setEntSt _ _ _ _
  · exact (s.sameScales_setEntSt _ _ _ _).trans
      (State.sameScales_bumpBy _ _ (by simp only [F.SCH_TCNT0_PASSED, Reg.addr, Reg.geom]; omega))

theorem State.sameScales_tableStep (t n tick : Nat) (e : Int) : s.sameScales (s.tableStep t n tick e) := by
  unfold State.tableStep
  dsimp only
  split
  · exact s.sameScales_rfl
  split
  · exact ((State.sameScales_foldl _ (fun u q => u.sameScales_entHand t _ q tick) s).trans (State.sameScales_tableHalt _ t)).trans
      (State.sameScales_eventTo _ _ _ _ _ _ _)
  · exact State.sameScales_foldl _ (fun u q => u.sameScales_entStep t _ q tick e) s

theorem State.sameScales_tableResume (t n tick : Nat) : s.sameScales (s.tableResume t n tick) := by
  unfold State.tableResume
  dsimp only
  split
  · exact s.sameScales_rfl
  · exact State.sameScales_foldl _ (fun u q => u.sameScales_setEntSt _ _ _ _) s

/-! ### Time pulse outputs and ports -/

theorem State.sameScales_tpoDone (n : Nat) : s.sameScales (s.tpoDone n) := by
  unfold State.tpoDone
  split
  · split
    · exact s.sameScales_put _ (by simp only [F.TIM_TPOSTAT_DONE, Reg.addr, Reg.geom]; omega)
    · exact s.sameScales_rfl
  · exact s.sameScales_rfl

theorem State.sameScales_tpoPass (n k : Nat) : s.sameScales (s.tpoPass n k) := by
  unfold State.tpoPass
  refine State.sameScales.trans ?_ (State.sameScales_tpoDone _ n)
  refine State.sameScales.trans ?_ (State.sameScales_bumpBy _ _ (by simp only [F.TIM_TPOSTAT_SUPP, Reg.addr, Reg.geom]; omega))
  exact ⟨rfl, rfl, fun _ _ => rfl⟩

theorem State.sameScales_tpoStep (n t : Nat) : s.sameScales (s.tpoStep n t) := by
  unfold State.tpoStep
  split
  · exact s.sameScales_tpoPass n _
  · exact s.sameScales_rfl

theorem State.portsOnly_gateHold (tick p : Nat) : s.portsOnly (s.gateHold tick p) := by
  unfold State.gateHold
  dsimp only
  split
  · exact s.portsOnly_rfl
  · exact s.portsOnly_setEport _ _

theorem State.sameScales_gateStep (tick : Nat) : s.sameScales (s.gateStep tick) :=
  State.portsOnly.sameScales (State.portsOnly_foldl _ (fun t p => t.portsOnly_gateHold tick p) s)

/-! ### The step (R159) -/

/-- The step itself, once what was handed before it is on its way. -/
def State.stepTaken (s : State) (n u : Nat) (e : Int) : State :=
  ((s.setScale n { s.scale n with
      base := s.scaleFine n u + e * 2 ^ 56, at_ := u, integ := 0, stepAt := (s.scale n).stepAt.drop 1 }).put
    (if n = 1 then F.TIM_STAT_V1 else F.TIM_STAT_V2) 1).bump F.TIM_SCNT_STEPS n

/-- What follows a step first: its event to who has pulses or tables, and the tables. -/
def State.stepFollowed (s : State) (was : Bool) (n u : Nat) (e : Int) : State :=
  (List.range 8).foldl (fun t q => if was then t.tableStep q n u e else t.tableResume q n u)
    (s.eventAll s.stepAudience 0 3 n (codeOf 64 e) (codeOf 64 e / 2 ^ 32))

theorem State.sameScales_stepFollowed (was : Bool) (n u : Nat) (e : Int) : s.sameScales (s.stepFollowed was n u e) := by
  refine (s.sameScales_eventAll _ _ _ _ _ _).trans (State.sameScales_foldl _ (fun t q => ?_) _)
  split
  · exact t.sameScales_tableStep q n u e
  · exact t.sameScales_tableResume q n u

/-- What is served before a step of a scale. -/
def State.stepServed (s : State) (n u : Nat) : State :=
  (List.range 8).foldl (fun t q => t.tableHand q n u) (if n = 1 then s.creditTicks else s)

theorem State.sameScales_stepServed (n u : Nat) : s.sameScales (s.stepServed n u) := by
  refine State.sameScales.trans ?_ (State.sameScales_foldl _ (fun t q => t.sameScales_tableHand q n u) _)
  split
  · exact s.portsOnly_creditTicks.sameScales
  · exact s.sameScales_rfl

/-- The time pulse outputs of a scale that made a step. -/
def State.tposFollowed (s : State) (n u : Nat) : State :=
  ((List.range 16).filter (fun q => s.get F.TIM_TPOCTL_SCALE q == n)).foldl (fun t q => t.tpoStep q u) s

theorem State.sameScales_tposFollowed (n u : Nat) : s.sameScales (s.tposFollowed n u) :=
  State.sameScales_foldl _ (fun t q => t.sameScales_tpoStep q u) s

/-- What hangs on a scale is served before its step and follows it after. -/
theorem State.stepNow_eq (n u : Nat) (e : Int) :
    s.stepNow n u e =
      (if n = 1 then
        ((((s.stepServed n u).stepTaken n u e).stepFollowed (s.on (if n = 1 then F.TIM_STAT_V1 else F.TIM_STAT_V2)) n u e).tposFollowed n
          u).gateStep u
      else (((s.stepServed n u).stepTaken n u e).stepFollowed (s.on (if n = 1 then F.TIM_STAT_V1 else F.TIM_STAT_V2)) n u
        e).tposFollowed n u) := rfl

theorem State.sameScales_stepNow (n u : Nat) (e : Int) : ((s.stepServed n u).stepTaken n u e).sameScales (s.stepNow n u e) := by
  rw [State.stepNow_eq]
  generalize s.on (if n = 1 then F.TIM_STAT_V1 else F.TIM_STAT_V2) = was
  have hfollowed := (State.sameScales_stepFollowed ((s.stepServed n u).stepTaken n u e) was n u e).trans
    (State.sameScales_tposFollowed _ n u)
  split
  · exact hfollowed.trans (State.sameScales_gateStep _ u)
  · exact hfollowed

theorem State.stepTaken_scaleValid {n : Nat} (hn : n = 1 ∨ n = 2) (u : Nat) (e : Int) :
    (s.stepTaken n u e).scaleValid n = true := by
  rw [State.stepTaken]
  rcases hn with rfl | rfl
  · rw [if_pos rfl, State.scaleValid, State.on, State.bump,
      State.get_bumpBy_ne _ F.TIM_SCNT_STEPS F.TIM_STAT_V1 _ _ _ _ _ (by decide),
      State.get_put_same _ F.TIM_STAT_V1 _ _ _ ⟨by decide, by decide⟩]
    rfl
  · rw [if_neg (by decide), State.scaleValid, State.on, State.bump,
      State.get_bumpBy_ne _ F.TIM_SCNT_STEPS F.TIM_STAT_V2 _ _ _ _ _ (by decide),
      State.get_put_same _ F.TIM_STAT_V2 _ _ _ ⟨by decide, by decide⟩]
    rfl

theorem State.stepTaken_steps {n : Nat} (hn : n = 1 ∨ n = 2) (u : Nat) (e : Int) :
    (s.stepTaken n u e).oneMore s F.TIM_SCNT_STEPS n := by
  have helse : ∀ (t : State) (f : Fld) (v : Nat), f.reg = .TIM_STAT → f.word = 0 →
      (t.put f v).get F.TIM_SCNT_STEPS n = t.get F.TIM_SCNT_STEPS n := fun t f v hr hw =>
    t.get_put_elsewhere f F.TIM_SCNT_STEPS _ _ _ _ _ (by rw [hr, hw]; rcases hn with rfl | rfl <;> decide)
  rw [State.oneMore, State.stepTaken, State.get_bump_same _ F.TIM_SCNT_STEPS _ _ ⟨by decide, by decide⟩, helse, State.setScale_get]
  · split <;> rfl
  · split <;> rfl

/-- What a step leaves of its scale. -/
theorem State.stepNow_leaves {s : State} {n : Nat} (hn : n = 1 ∨ n = 2) (u : Nat) (e : Int) :
    (s.stepNow n u e).scale n =
        { s.scale n with base := s.scaleFine n u + e * 2 ^ 56, at_ := u, integ := 0, stepAt := (s.scale n).stepAt.drop 1 } ∧
      (s.stepNow n u e).scaleValid n = true ∧ (s.stepNow n u e).oneMore s F.TIM_SCNT_STEPS n := by
  have hserved := s.sameScales_stepServed n u
  have hstep := s.sameScales_stepNow n u e
  refine ⟨?_, ?_, ?_⟩
  · rw [hstep.scale, State.stepTaken, State.bump_scale, State.put_scale, State.scale_setScale_same, hserved.scale,
      hserved.scaleFine]
  · rw [hstep.scaleValid]
    exact State.stepTaken_scaleValid _ hn u e
  · have hlow : Reg.addr .TIM_SCNT n 0 0 < 0x40001000 := by rcases hn with rfl | rfl <;> decide
    have hafter := hstep.get (f := F.TIM_SCNT_STEPS) hlow
    have hbefore := hserved.get (f := F.TIM_SCNT_STEPS) hlow
    have hcount := (s.stepServed n u).stepTaken_steps hn u e
    rw [State.oneMore, hbefore, ← hafter] at hcount
    exact hcount

end

end Sys2Proof.Machine
end

section
/-! The registers that command a scale (R161, R162, R165, R167, R168), and the calibration bits of the decoders (R151). -/

namespace Sys2Proof.Machine

/-! ### Words written field by field -/

/-- A write that changes a field of RW bits alone puts the field's value. -/
theorem State.plainWrite_setBits (s : State) (r : Reg) (i j w v : Nat) {hi lo : Nat} (hle : lo ≤ hi) (h32 : hi ≤ 31)
    (hwritable : r.writable = true) (hw1c : maskOf r.fields w (· == .w1c) = 0) (hw1s : maskOf r.fields w (· == .w1s) = 0)
    (hlacks : r.lacks i = 0) (hrw : ∀ k, lo ≤ k → k ≤ hi → (maskOf r.fields w (· == .rw)).getLsbD k = true) :
    s.plainWrite r i j w (setBits (s.word r i j w) hi lo v) = s.setWord r i j w (setBits (s.word r i j w) hi lo v) := by
  have hwritten : s.written r i j w (setBits (s.word r i j w) hi lo v) = setBits (s.word r i j w) hi lo v := by
    rw [State.written, Reg.written, hw1c, hw1s, hlacks]
    apply BitVec.eq_of_getLsbD_eq
    intro k hk
    simp only [BitVec.getLsbD_or, BitVec.getLsbD_and, BitVec.getLsbD_not, setBits_getLsbD _ _ _ _ _ hle h32]
    by_cases hin : lo ≤ k ∧ k ≤ hi
    · rw [if_pos hin, hrw k hin.1 hin.2]
      simp [hk]
    · cases (maskOf r.fields w (· == .rw)).getLsbD k <;> simp [hin, hk]
  rw [State.plainWrite, if_pos hwritable, hwritten]

/-- A field that is replaced by its own value leaves the word. -/
theorem setBits_bitsOf_self (w : Word) {hi lo : Nat} (hle : lo ≤ hi) (h32 : hi ≤ 31) : setBits w hi lo (bitsOf w hi lo) = w := by
  apply BitVec.eq_of_getLsbD_eq
  intro k hk
  rw [setBits_getLsbD _ _ _ _ _ hle h32, bitsOf_testBit]
  split
  · next hin =>
    obtain ⟨hlo, hhi⟩ := hin
    simp [show lo + (k - lo) = k by omega, show k - lo < hi + 1 - lo by omega]
  · rfl

theorem setBit_true_of_bit {v k : Nat} (h : bit v k = true) : setBit v k true = v := by
  rw [setBit, if_pos h, if_pos rfl]

/-! ### Decoders (R151) -/

/-- A decoder's bit is set in one word; ALIGNED, which follows, stands in another. -/
theorem State.calDec_word (s : State) (d : Nat) (b : Bool) :
    (s.calDec d b).word .TIM_CALSTAT 0 0 0 =
      (s.put F.TIM_CALSTAT_DEC (setBit (s.get F.TIM_CALSTAT_DEC) d b)).word .TIM_CALSTAT 0 0 0 :=
  State.word_put_ne _ F.TIM_STAT_ALIGNED _ _ _ _ _ _ _ (by decide)

theorem State.calDec_get (s : State) {d : Nat} (hd : d < 10) (b : Bool) :
    (s.calDec d b).get F.TIM_CALSTAT_DEC = setBit (s.get F.TIM_CALSTAT_DEC) d b := by
  rw [← s.get_put_setBit F.TIM_CALSTAT_DEC d b 0 0 ⟨by decide, by decide⟩ hd]
  exact congrArg (fun w => bitsOf w F.TIM_CALSTAT_DEC.hi F.TIM_CALSTAT_DEC.lo) (s.calDec_word d b)

theorem State.calDec_word_of_set {s : State} {d : Nat} (h : bit (s.get F.TIM_CALSTAT_DEC) d = true) :
    (s.calDec d true).word .TIM_CALSTAT 0 0 0 = s.word .TIM_CALSTAT 0 0 0 := by
  rw [State.calDec_word, setBit_true_of_bit h, State.put]
  exact (State.word_setWord_same _ _ _ _ _ _).trans (setBits_bitsOf_self _ (by decide) (by decide))

/-! ### MODE (R161) -/

/-- A change of MODE is noted. -/
def State.modeSeen (s : State) (n : Nat) : State := s.setScale n { s.scale n with pulse := none, waitFrom := s.now }

/-- A scale takes a state with a rate that is decided and shown at once. -/
def State.rateState (s : State) (n st : Nat) (r : Int) : State := ((s.put F.TIM_SSTAT_STATE st n).rateLater n r).putRate n r

/-- The rate that TIM_INCRn gives is that of its word. -/
theorem State.incrRate_congr {s t : State} {n : Nat} (h : t.word .TIM_INCR n 0 0 = s.word .TIM_INCR n 0 0) :
    t.incrRate n = s.incrRate n := by
  have hget : ∀ f : Fld, f.reg = .TIM_INCR → f.word = 0 → t.get f n = s.get f n := fun f hr hw => by
    rw [State.get, State.get, hr, hw, h]
  rw [State.incrRate, State.incrRate, hget F.TIM_INCR_NS rfl rfl, hget F.TIM_INCR_FRAC rfl rfl]

@[simp] theorem State.modeSeen_scale (s : State) (n : Nat) :
    (s.modeSeen n).scale n = { s.scale n with pulse := none, waitFrom := s.now } :=
  s.scale_setScale_same n _

theorem State.modeTo_servo (s : State) (n : Nat) : s.modeTo n 0 1 = (s.modeSeen n).rateState n 1 0 := by
  rw [State.modeTo, if_neg (by decide)]
  rfl

theorem State.modeTo_off (s : State) (n : Nat) {old : Nat} (h : old ≠ 0) : s.modeTo n old 0 = (s.modeSeen n).rateState n 0 0 := by
  rw [State.modeTo, if_neg h]
  rfl

theorem State.modeTo_increment (s : State) (n : Nat) {old : Nat} (h : old ≠ 2) :
    s.modeTo n old 2 = ((s.modeSeen n).setScale n { (s.modeSeen n).scale n with integ := 0 }).rateState n 4 (s.incrRate n) := by
  set u := ((s.modeSeen n).put F.TIM_SSTAT_STATE 4 n).setScale n { (s.modeSeen n).scale n with integ := 0 }
  have hincr : u.incrRate n = s.incrRate n := State.incrRate_congr
    (s.word_put_ne F.TIM_SSTAT_STATE 4 n 0 .TIM_INCR n 0 0 (by simp only [F.TIM_SSTAT_STATE, Reg.addr, Reg.geom]; omega))
  rw [State.modeTo, if_neg h]
  change (u.rateLater n (u.incrRate n)).putRate n (u.incrRate n) = _
  rw [hincr]
  rfl

theorem State.rateState_leaves (s : State) (n st : Nat) (r : Int) :
    (s.rateState n st r).get F.TIM_SSTAT_STATE n = st % 8 ∧ (s.rateState n st r).get F.TIM_SRATE_RATE n = codeOf 32 (r / 2 ^ 16) ∧
      (s.rateState n st r).scale n = { s.scale n with rateAt := (s.scale n).rateAt ++ [(s.applyTick, r)] } := by
  rw [State.rateState, State.putRate_state, State.rateLater_get, State.put_state, State.putRate_rate, State.putRate_scale,
    State.rateLater_scale, State.put_scale, State.put_applyTick]
  exact ⟨rfl, rfl, rfl⟩

theorem State.rateState_sctl (s : State) (n st : Nat) (r : Int) {f : Fld} (hr : f.reg = .TIM_SCTL) (hw : f.word = 0) :
    (s.rateState n st r).get f n = s.get f n := by
  rw [State.rateState, State.putRate_get _ _ _ (by rw [hr, hw]; simp only [Reg.addr, Reg.geom]; omega), State.rateLater_get]
  exact s.get_put_elsewhere F.TIM_SSTAT_STATE f _ _ _ _ _ (by
    rw [hr, hw]; simp only [F.TIM_SSTAT_STATE, Reg.addr, Reg.geom]; omega)

section
variable {s : State} {n m : Nat} (hm : m < 3)
include hm

theorem State.put_mode_get : (s.put F.TIM_SCTL_MODE m n).get F.TIM_SCTL_MODE n = m := by
  rw [State.get_put_same _ F.TIM_SCTL_MODE _ _ _ ⟨by decide, by decide⟩]
  exact Nat.mod_eq_of_lt (Nat.lt_of_lt_of_le hm (by decide))

/-- A write of MODE with the other fields as they stand acts as the change of MODE. -/
theorem State.sctlWrite_mode (hsrc : s.get F.TIM_SCTL_SRC n ≠ 0 → srcOf n (s.get F.TIM_SCTL_SRC n) ≠ 0) :
    s.sctlWrite n (setBits (s.word .TIM_SCTL n 0 0) 1 0 m) = (s.put F.TIM_SCTL_MODE m n).modeTo n (s.smode n) m := by
  have hrw : ∀ k, 0 ≤ k → k ≤ 1 → (maskOf (Reg.fields .TIM_SCTL) 0 (· == .rw)).getLsbD k = true := by
    intro k _ hk
    interval_cases k <;> decide
  have hplain : s.plainWrite .TIM_SCTL n 0 0 (setBits (s.word .TIM_SCTL n 0 0) 1 0 m) = s.put F.TIM_SCTL_MODE m n :=
    s.plainWrite_setBits .TIM_SCTL n 0 0 m (by decide) (by decide) (by decide) (by decide) (by decide) rfl hrw
  have hkept : (s.put F.TIM_SCTL_MODE m n).get F.TIM_SCTL_SRC n = s.get F.TIM_SCTL_SRC n :=
    s.get_put_apart F.TIM_SCTL_MODE F.TIM_SCTL_SRC _ _ _ ⟨by decide, by decide⟩ rfl rfl (by decide)
  have hmode : (s.put F.TIM_SCTL_MODE m n).smode n = m := by
    rw [State.smode, State.put_mode_get hm, if_neg (by omega)]
  unfold State.sctlWrite
  dsimp only
  rw [hplain, hkept, if_neg (show ¬ (s.get F.TIM_SCTL_SRC n ≠ 0 ∧ srcOf n (s.get F.TIM_SCTL_SRC n) = 0) from
    fun h => hsrc h.1 h.2), if_neg (not_not.mpr rfl), hmode]

/-- What a write of MODE leaves that ends in a state with a rate. -/
theorem State.rateState_mode_leaves {t : State} (hword : t.word .TIM_SCTL n 0 0 = (s.put F.TIM_SCTL_MODE m n).word .TIM_SCTL n 0 0)
    (htick : t.applyTick = s.applyTick) (st : Nat) (r : Int) :
    (t.rateState n st r).get F.TIM_SCTL_MODE n = m ∧ (t.rateState n st r).get F.TIM_SSTAT_STATE n = st % 8 ∧
      (t.rateState n st r).get F.TIM_SRATE_RATE n = codeOf 32 (r / 2 ^ 16) ∧
      (t.rateState n st r).scale n = { t.scale n with rateAt := (t.scale n).rateAt ++ [(s.applyTick, r)] } ∧
      (t.rateState n st r).get F.TIM_SCTL_SRC n = s.get F.TIM_SCTL_SRC n := by
  have hget : ∀ f : Fld, f.reg = .TIM_SCTL → f.word = 0 → t.get f n = (s.put F.TIM_SCTL_MODE m n).get f n := fun f hr hw => by
    rw [State.get, State.get, hr, hw, hword]
  obtain ⟨hstate, hrate, hscale⟩ := t.rateState_leaves n st r
  refine ⟨?_, hstate, hrate, by rw [hscale, htick], ?_⟩
  · rw [State.rateState_sctl _ _ _ _ rfl rfl, hget _ rfl rfl, State.put_mode_get hm]
  · rw [State.rateState_sctl _ _ _ _ rfl rfl, hget _ rfl rfl]
    exact s.get_put_apart F.TIM_SCTL_MODE F.TIM_SCTL_SRC _ _ _ ⟨by decide, by decide⟩ rfl rfl (by decide)

end

/-- A write of MODE by who may write it. -/
theorem State.modeBy_of_mayWrite {s : State} {init : Init} {n m : Nat} (hn : n = 1 ∨ n = 2) (hfab : s.domOn domFAB = true)
    (hon : s.blockOn 0 = true) (hmay : s.mayWrite init .TIM_SCTL n = true) (hm : m < 3)
    (hsrc : s.get F.TIM_SCTL_SRC n ≠ 0 → srcOf n (s.get F.TIM_SCTL_SRC n) ≠ 0) :
    s.modeBy init n m = (s.put F.TIM_SCTL_MODE m n).modeTo n (s.smode n) m := by
  rw [State.modeBy, if_pos hn, State.owned_of_mayWrite (r := .TIM_SCTL) 0 0 _ hfab hon hmay, State.sctlWrite_mode hm hsrc]

/-! ### TIM_INCRn (R168) -/

/-- An increment within its limits is stored as it is, and gives the rate of a scale in INCREMENT. -/
theorem State.incrWrite_of_within {s : State} {n v : Nat} (hlow : incrLow ≤ v) (hhigh : v ≤ incrHigh) :
    s.incrWrite n v =
      if s.get F.TIM_SSTAT_STATE n = 4 then
        ((s.setWord .TIM_INCR n 0 0 (BitVec.ofNat 32 v)).rateLater n ((s.setWord .TIM_INCR n 0 0 (BitVec.ofNat 32 v)).incrRate n)).putRate n
          ((s.setWord .TIM_INCR n 0 0 (BitVec.ofNat 32 v)).incrRate n)
      else s.setWord .TIM_INCR n 0 0 (BitVec.ofNat 32 v) := by
  have hv : v % 2 ^ 32 = v := by
    unfold incrHigh at hhigh
    omega
  have hclamp : clampNat incrLow incrHigh v = v := by
    rw [clampNat, if_neg (Nat.not_lt.mpr hlow), if_neg (Nat.not_lt.mpr hhigh)]
  have hstate : (s.setWord .TIM_INCR n 0 0 (BitVec.ofNat 32 v)).get F.TIM_SSTAT_STATE n = s.get F.TIM_SSTAT_STATE n := by
    rw [State.get, State.get, State.word_setWord_ne]
    simp only [F.TIM_SSTAT_STATE, Reg.addr, Reg.geom]
    omega
  unfold State.incrWrite
  dsimp only
  rw [hv, hclamp, if_neg (not_not.mpr rfl), hstate]

theorem State.incrWrite_leaves {s : State} {n v : Nat} (hlow : incrLow ≤ v) (hhigh : v ≤ incrHigh) :
    (s.incrWrite n v).word .TIM_INCR n 0 0 = BitVec.ofNat 32 v ∧
      (s.incrWrite n v).word .TIM_SCNT n 0 0 = s.word .TIM_SCNT n 0 0 ∧
      (s.get F.TIM_SSTAT_STATE n = 4 →
        ((s.incrWrite n v).scale n).rateAt = (s.scale n).rateAt ++ [(s.applyTick, (s.incrWrite n v).incrRate n)]) := by
  rw [State.incrWrite_of_within hlow hhigh]
  set u := s.setWord .TIM_INCR n 0 0 (BitVec.ofNat 32 v)
  have hword : u.word .TIM_INCR n 0 0 = BitVec.ofNat 32 v := State.word_setWord_same _ _ _ _ _ _
  have hcount : u.word .TIM_SCNT n 0 0 = s.word .TIM_SCNT n 0 0 :=
    State.word_setWord_ne _ _ _ _ _ _ _ _ _ _ (by simp only [Reg.addr, Reg.geom]; omega)
  have helse : ∀ r : Reg, Reg.addr .TIM_SRATE n 0 0 ≠ r.addr n 0 0 →
      ((u.rateLater n (u.incrRate n)).putRate n (u.incrRate n)).word r n 0 0 = u.word r n 0 0 := fun r h =>
    State.word_put_ne _ F.TIM_SRATE_RATE _ _ _ _ _ _ _ h
  have hincr := helse .TIM_INCR (by simp only [Reg.addr, Reg.geom]; omega)
  split
  · refine ⟨hincr.trans hword, (helse .TIM_SCNT (by simp only [Reg.addr, Reg.geom]; omega)).trans hcount, fun _ => ?_⟩
    rw [State.putRate_scale, State.rateLater_scale, State.incrRate_congr hincr]
    rfl
  · next hstate => exact ⟨hword, hcount, fun h => absurd h hstate⟩

end Sys2Proof.Machine
end

section
/-! The timebase's commands put together: T3, decoders, offsets, steps, rates, HOLDOVER and the registers that command a scale (R148 to
R168). -/

namespace Sys2Proof.Machine

/-! ### What each command leaves -/

theorem State.legalTime_leaves (s : State) (v : Nat) :
    (s.legalTime v).tim.t3 = v ∧ (s.legalTime v).tim.t3At = s.now ∧ (s.legalTime v).tim.t3From = s.applyTick ∧
      (s.legalTime v).get F.TIM_STAT_V3 = 1 ∧ (s.legalTime v).get F.TIM_STAT_V1 = s.get F.TIM_STAT_V1 := by
  refine ⟨rfl, rfl, rfl, ?_, ?_⟩
  · exact State.get_put_same _ F.TIM_STAT_V3 1 0 0 ⟨by decide, by decide⟩
  · exact State.get_put_apart _ F.TIM_STAT_V3 F.TIM_STAT_V1 1 0 0 ⟨by decide, by decide⟩ rfl rfl (by decide)

/-- Decoder d is calibrated; the other decoders' bits stay. -/
theorem State.calDec_leaves (s : State) {d : Nat} (hd : d < 10) :
    bit ((s.calDec d true).get F.TIM_CALSTAT_DEC) d = true ∧
      (List.range 10).all (fun k => k == d || bit ((s.calDec d true).get F.TIM_CALSTAT_DEC) k ==
        bit (s.get F.TIM_CALSTAT_DEC) k) = true := by
  rw [s.calDec_get hd]
  refine ⟨bit_setBit_same _ _, List.all_eq_true.mpr fun k _ => ?_⟩
  rcases eq_or_ne k d with rfl | hne
  · simp
  · simp [bit_setBit_ne _ _ hne.symm]

/-- The entry of HOLDOVER. -/
def State.heldOver (s : State) (n : Nat) : State :=
  ((s.put F.TIM_SSTAT_STATE 3 n).bump F.TIM_SSTAT_HOLDS n).eventTo (.item 0x12 0) 0 4 n

theorem State.heldOver_leaves (s : State) {n : Nat} (hn : n = 1 ∨ n = 2) :
    (s.heldOver n).get F.TIM_SSTAT_STATE n = 3 ∧ (s.heldOver n).oneMore s F.TIM_SSTAT_HOLDS n ∧ (s.heldOver n).scale n = s.scale n := by
  have hlow : Reg.addr .TIM_SSTAT n 0 0 < 0x40001000 := by rcases hn with rfl | rfl <;> decide
  have hevent := State.sameScales_eventTo ((s.put F.TIM_SSTAT_STATE 3 n).bump F.TIM_SSTAT_HOLDS n) (.item 0x12 0) 0 4 n 0 0
  refine ⟨?_, ?_, ?_⟩
  · refine (hevent.get (f := F.TIM_SSTAT_STATE) hlow).trans ?_
    refine (State.get_put_apart _ F.TIM_SSTAT_HOLDS F.TIM_SSTAT_STATE _ n 0 ⟨by decide, by decide⟩ rfl rfl (by decide)).trans ?_
    exact s.put_state n 3
  · refine (hevent.get (f := F.TIM_SSTAT_HOLDS) hlow).trans ?_
    rw [State.get_bump_same _ F.TIM_SSTAT_HOLDS _ _ ⟨by decide, by decide⟩,
      s.get_put_apart F.TIM_SSTAT_STATE F.TIM_SSTAT_HOLDS 3 n 0 ⟨by decide, by decide⟩ rfl rfl (by decide)]
  · exact hevent.scale n

/-- A pulse within its window is noted and gives an offset. -/
theorem exec_gnssPulse {s : State} {n : Nat} {rise : Bool} (hn : n = 1 ∨ n = 2) (hsrc : s.get F.TIM_SCTL_SRC n = 3)
    (hedge : leadingEdge (s.get F.TIM_TCICTL_EDGE (s.get F.TIM_SCTL_TCI n)) rise = true) (hon : s.domOn domTIM = true)
    (hwindow : (s.scale n).pulse.all (fun u => decide (u + 999900 * usUnits ≤ s.now) && decide (s.now ≤ u + 1000100 * usUnits)) = true) :
    exec (.gnssPulse n rise) s = s.ends ((s.setScale n { s.scale n with pulse := some s.now }).offset n
      ((2 * (s.scaleAt n s.now - signedOf 32 (s.get F.TIM_SPPS_DELAY n) * 4096) + Int.ofNat secFine) / (2 * Int.ofNat secFine) *
        Int.ofNat secFine - (s.scaleAt n s.now - signedOf 32 (s.get F.TIM_SPPS_DELAY n) * 4096))) := by
  change execGnssPulse n rise s = _
  unfold execGnssPulse
  dsimp only
  rw [if_pos ⟨hn, hsrc, hedge, hon⟩]
  split
  · next u hpulse =>
    rw [hpulse, Option.all_some] at hwindow
    rw [if_pos hwindow]
  · rw [if_pos rfl]

/-- A write of a register of the timebase's owner, block 0. -/
theorem State.ends_owned {s : State} {init : Init} {r : Reg} {n : Nat} (w : Nat) (act : State → State) (hr : r.block = 0)
    (hn : n = 1 ∨ n = 2) (hfab : s.domOn domFAB = true) (hon : s.blockOn 0 = true) (hmay : s.mayWrite init r n = true) :
    s.ends (if n = 1 ∨ n = 2 then s.owned init r n 0 w act else s) = s.ends (act s) := by
  rw [if_pos hn, State.owned_of_mayWrite 0 w act hfab (by rw [hr]; exact hon) hmay]

/-! ### The statement -/

/-- Settles O11: an offset goes the way of the state it finds, ACQUIRE or TRACK; what follows a step leaves the scales alone; a write of MODE
is its change, with the scale's state and rate. -/
theorem scalesAndServoComplete : Obligations.ScalesAndServoComplete := by
  unfold Obligations.ScalesAndServoComplete
  refine ⟨?legal, ?timeout, ?decoder, ?background, ?track, ?acquire, ?step, ?rate, ?holdover, ?servo, ?increment, ?off, ?offset, ?feed,
    ?pulse, ?incr⟩
  case legal =>
    intro s v hon
    refine Answers.of_ends (s.legalTime v) ?_ ?_
    · change s.ends (if s.domOn domTIM = true then s.legalTime v else s) = _
      rw [if_pos hon]
    · simpa only [State.withPending_get, State.withPending_tim] using s.legalTime_leaves v
  case timeout =>
    intro s hvalid hdue
    refine Answers.of_ends (s.put F.TIM_STAT_V3 0) ?_ ⟨?_, rfl⟩
    · change s.ends (if s.on F.TIM_STAT_V3 = true ∧ s.tim.t3At + 3 * secUnits ≤ s.now then s.put F.TIM_STAT_V3 0 else s) = _
      rw [if_pos ⟨by rw [State.on, hvalid]; rfl, hdue⟩]
    · rw [State.withPending_get]
      exact s.get_put_same F.TIM_STAT_V3 0 0 0 ⟨by decide, by decide⟩
  case decoder =>
    intro s d hd hon
    refine Answers.of_ends (s.calDec d true) ?_ ?_
    · change s.ends (if d < 10 ∧ s.domOn (decDom d) = true then s.calDec d true else s) = _
      rw [if_pos ⟨hd, hon⟩]
    · simpa only [State.withPending_get] using s.calDec_leaves hd
  case background =>
    intro s d hd hon hset
    refine Answers.of_ends (s.calDec d true) ?_ ?_
    · change s.ends (if d < 10 ∧ s.domOn (decDom d) = true ∧ bit (s.get F.TIM_CALSTAT_DEC) d = true then s.calDec d true else s) = _
      rw [if_pos ⟨hd, hon, hset⟩]
    · rw [State.withPending_word]
      exact State.calDec_word_of_set hset
  case track =>
    intro s n e hn hsrc hon hstate hdue hsmall
    refine Answers.of_ends (s.offset n e) ?_ ?_
    · change s.ends (if (n = 1 ∨ n = 2) ∧ srcOf n (s.get F.TIM_SCTL_SRC n) ≠ 0 ∧ s.domOn domTIM = true then s.offset n e else s) = _
      rw [if_pos ⟨hn, hsrc, hon⟩]
    · simpa only [State.withPending_get, State.withPending_scale] using State.offset_track_leaves e hdue hstate hsmall
  case acquire =>
    intro s n e hn hsrc hon hstate hdue
    refine Answers.of_ends (s.offset n e) ?_ ?_
    · change s.ends (if (n = 1 ∨ n = 2) ∧ srcOf n (s.get F.TIM_SCTL_SRC n) ≠ 0 ∧ s.domOn domTIM = true then s.offset n e else s) = _
      rw [if_pos ⟨hn, hsrc, hon⟩]
    · obtain ⟨hlast, hstep, -, hstate'⟩ := State.offset_acquire_leaves e hdue hstate
      simpa only [State.withPending_get, State.withPending_scale] using ⟨hlast, hstep, hstate'⟩
  case step =>
    intro s n u e rest hn hhead hdue
    refine Answers.of_ends (s.stepNow n u e) ?_ ?_
    · change execScaleStep n s = _
      simp only [execScaleStep, hhead, if_pos (show (n = 1 ∨ n = 2) ∧ u ≤ s.now from ⟨hn, hdue⟩)]
    · obtain ⟨hscale, hvalid, hcount⟩ := State.stepNow_leaves hn u e
      simp only [State.withPending_scale, State.withPending_scaleValid, State.withPending_oneMore]
      rw [hscale]
      exact ⟨rfl, rfl, rfl, by rw [hhead]; rfl, hvalid, hcount⟩
  case rate =>
    intro s n u r rest hn hhead hdue
    refine Answers.of_ends ((s.setScale n { s.scale n with base := s.scaleFine n u, at_ := u, rate := r, rateAt := rest }).putRate n r)
      ?_ ?_
    · change execRateUpdate n s = _
      simp only [execRateUpdate, hhead, if_pos (show (n = 1 ∨ n = 2) ∧ u ≤ s.now from ⟨hn, hdue⟩)]
    · rw [State.withPending_scale, State.withPending_get, State.putRate_scale, State.scale_setScale_same, State.putRate_rate]
      exact ⟨rfl, rfl, rfl, rfl, rfl⟩
  case holdover =>
    intro s n hn hstate hdue
    refine Answers.of_ends (s.heldOver n) ?_ ?_
    · change execHoldoverEntry n s = _
      unfold execHoldoverEntry
      dsimp only
      rw [if_pos ⟨hn, hstate, hdue⟩]
      rfl
    · simpa only [State.withPending_get, State.withPending_scale, State.withPending_oneMore] using s.heldOver_leaves hn
  case servo =>
    intro s init n hn hfab hon hmay hold hsrc
    have hmode := State.modeBy_of_mayWrite (m := 1) hn hfab hon hmay (by decide) hsrc
    rw [hold, State.modeTo_servo] at hmode
    refine Answers.of_ends _ (congrArg s.ends hmode) ?_
    obtain ⟨hnew, hstate, hrate, hscale, hkept⟩ := State.rateState_mode_leaves (s := s) (n := n) (m := 1) (by decide)
      (t := (s.put F.TIM_SCTL_MODE 1 n).modeSeen n) rfl rfl 1 0
    simp only [State.withPending_get, State.withPending_scale]
    rw [hscale, State.modeSeen_scale]
    exact ⟨hnew, hstate, hrate, rfl, hkept⟩
  case increment =>
    intro s init n hn hfab hon hmay hold hsrc
    have hmode := State.modeBy_of_mayWrite (m := 2) hn hfab hon hmay (by decide) hsrc
    have hincr : (s.put F.TIM_SCTL_MODE 2 n).incrRate n = s.incrRate n := State.incrRate_congr
      (s.word_put_ne F.TIM_SCTL_MODE 2 n 0 .TIM_INCR n 0 0 (by simp only [F.TIM_SCTL_MODE, Reg.addr, Reg.geom]; omega))
    rw [State.modeTo_increment _ _ hold, hincr] at hmode
    refine Answers.of_ends _ (congrArg s.ends hmode) ?_
    obtain ⟨hnew, hstate, -, hscale, hkept⟩ := State.rateState_mode_leaves (s := s) (n := n) (m := 2) (by decide)
      (t := ((s.put F.TIM_SCTL_MODE 2 n).modeSeen n).setScale n { ((s.put F.TIM_SCTL_MODE 2 n).modeSeen n).scale n with integ := 0 })
      rfl rfl 4 (s.incrRate n)
    simp only [State.withPending_get, State.withPending_scale]
    rw [hscale, State.scale_setScale_same, State.modeSeen_scale]
    exact ⟨hnew, hstate, rfl, rfl, hkept⟩
  case off =>
    intro s init n hn hfab hon hmay hold hsrc
    have hmode := State.modeBy_of_mayWrite (m := 0) hn hfab hon hmay (by decide) hsrc
    rw [State.modeTo_off _ _ hold] at hmode
    refine Answers.of_ends _ (congrArg s.ends hmode) ?_
    obtain ⟨hnew, hstate, hrate, hscale, hkept⟩ := State.rateState_mode_leaves (s := s) (n := n) (m := 0) (by decide)
      (t := (s.put F.TIM_SCTL_MODE 0 n).modeSeen n) rfl rfl 0 0
    simp only [State.withPending_get, State.withPending_scale]
    rw [hscale, State.modeSeen_scale]
    exact ⟨hnew, hstate, hrate, rfl, hkept⟩
  case offset =>
    intro s init n e hn hfab hon hmay h1 h2 h3 hsum
    have happly : s.offsApply n e = s.stepLater n e := by
      rw [State.offsApply, if_neg (by tauto), if_neg (Int.not_lt.mpr hsum)]
    refine Answers.of_ends (s.stepLater n e) ?_ ?_
    · rw [← happly]
      exact State.ends_owned 1 _ rfl hn hfab hon hmay
    · rw [State.withPending_scale, State.stepLater_scale, State.withPending_word, State.stepLater_word]
      exact ⟨rfl, rfl⟩
  case feed =>
    intro s init n e hn hfab hon hmay hsrc hstate hdue
    have happly : s.feedApply n e = s.offset n e := by rw [State.feedApply, if_pos hsrc]
    refine Answers.of_ends (s.offset n e) ?_ ?_
    · rw [← happly]
      exact State.ends_owned 1 _ rfl hn hfab hon hmay
    · obtain ⟨hlast, hstep, -, hstate'⟩ := State.offset_acquire_leaves e hdue hstate
      simpa only [State.withPending_get, State.withPending_scale] using ⟨hlast, hstep, hstate'⟩
  case pulse =>
    intro s n rise d hn hsrc hedge hon hwindow hdue hstate hd
    subst hd
    refine Answers.of_ends _ (exec_gnssPulse hn hsrc hedge hon hwindow) ?_
    have hdue' : (s.setScale n { s.scale n with pulse := some s.now }).offsetDue n = true := by
      rw [State.offsetDue, State.scale_setScale_same]
      exact hdue
    obtain ⟨hlast, hstep, hpulse, hstate'⟩ := State.offset_acquire_leaves _ hdue' hstate
    rw [State.scale_setScale_same] at hstep hpulse
    simp only [State.withPending_get, State.withPending_scale]
    exact ⟨hpulse, hstep, hstate'⟩
  case incr =>
    intro s init n v hn hfab hon hmay hlow hhigh
    refine Answers.of_ends (s.incrWrite n v) (State.ends_owned 0 _ rfl hn hfab hon hmay) ?_
    simpa only [State.withPending_word, State.withPending_scale, State.withPending_incrRate] using
      State.incrWrite_leaves hlow hhigh

end Sys2Proof.Machine
end

section
/-! The gPTP engine: what its operations leave of a domain and of a port, and each of its commands put together (R220 to R226). -/

namespace Sys2Proof.Machine

/-! ### One domain -/

@[simp] theorem State.withPending_ptpDom (t : State) (q : List Instr) (d : Nat) : (t.withPending q).ptpDom d = t.ptpDom d := rfl

@[simp] theorem State.ptpDom_setPtpDom_same (s : State) (d : Nat) (v : PtpDom) : (s.setPtpDom d v).ptpDom d = v :=
  Sparse.at_set_same _ _ _ _

/-- The domains depend on what the switch keeps of them alone. -/
theorem State.ptpDom_congr {s t : State} (h : t.eth.doms = s.eth.doms) (d : Nat) : t.ptpDom d = s.ptpDom d := by
  rw [State.ptpDom, State.ptpDom, h]

/-! ### A Sync on its way (R222 to R224) -/

theorem State.relayOne_doms (s : State) (d q : Nat) (y : SyncSt) : (s.relayOne d q y).eth.doms = s.eth.doms := by
  unfold State.relayOne
  dsimp only
  split
  · rfl
  · rfl

theorem State.relay_doms (s : State) (d : Nat) (y : SyncSt) : (s.relay d y).eth.doms = s.eth.doms :=
  List.foldlRecOn (motive := fun t : State => t.eth.doms = s.eth.doms) _ _ rfl fun t ht q _ => by
    split
    · rw [State.relayOne_doms, ht]
    · exact ht

@[simp] theorem State.endHoldover_eth (s : State) (n : Nat) : (s.endHoldover n).eth = s.eth := by
  unfold State.endHoldover
  split
  · rw [State.eventTo_eth]
    rfl
  · rfl

@[simp] theorem State.putLast_eth (s : State) (n : Nat) (e : Int) : (s.putLast n e).eth = s.eth := State.deliver_eth _ _ _ _ _

@[simp] theorem State.setScale_eth (s : State) (n : Nat) (v : Scale) : (s.setScale n v).eth = s.eth := rfl
@[simp] theorem State.stepLater_eth (s : State) (n : Nat) (e : Int) : (s.stepLater n e).eth = s.eth := rfl
@[simp] theorem State.servoRate_eth (s : State) (n : Nat) (e : Int) : (s.servoRate n e).eth = s.eth := rfl
@[simp] theorem State.rej_eth (s : State) (n : Nat) : (s.rej n).eth = s.eth := rfl

/-- Every way of an offset, dropped, accepted or rejected, leaves the switch. -/
theorem State.offset_eth (s : State) (n : Nat) (e : Int) : (s.offset n e).eth = s.eth := by
  simp only [State.offset, apply_ite State.eth, State.rej_eth, State.putLast_eth, State.put_eth, State.endHoldover_eth,
    State.setScale_eth, State.stepLater_eth, State.servoRate_eth, ite_self]

theorem State.syncOffset_eth (s : State) (d : Nat) (y : SyncSt) : (s.syncOffset d y).eth = s.eth := by
  unfold State.syncOffset State.sourceOffset
  split
  · exact State.offset_eth _ _ _
  · rfl

/-- A Sync that is complete is held in its domain, which has its sync from now on. -/
theorem State.syncAccept_ptpDom (s : State) (d : Nat) (y : SyncSt) :
    (s.syncAccept d y).ptpDom d = { s.ptpDom d with sync := some y, last := s.now, lost := false } := by
  have hevent : ∀ (t : State) (b : Bool), (if b then t.eventTo switchOwner 1 2 d else t).eth = t.eth := fun t b => by
    cases b
    · rfl
    · exact State.eventTo_eth _ _ _ _ _ _ _
  unfold State.syncAccept
  dsimp only
  rw [State.ptpDom_congr (congrArg EthState.doms (State.syncOffset_eth _ d y)), State.ptpDom_congr (State.relay_doms _ d y),
    State.ptpDom_congr (congrArg EthState.doms (hevent _ _)), State.ptpDom_setPtpDom_same]

theorem exec_syncReceive {s : State} {d p : Nat} (seq : Nat) (two : Bool) (origin corr : Int) (hd : d < 2) (hp : p < 10)
    (hnet : s.domOn domNET = true) (hrole : s.ptpRole d p = 2) (hup : s.ptpUp d p = true) (hnone : (s.ptpDom d).sync = none) :
    exec (.syncReceive d p seq two origin corr) s =
      s.ends (if two then s.setPtpDom d { s.ptpDom d with sync := some ⟨p, seq, s.now, origin, corr, two⟩ }
        else s.syncAccept d ⟨p, seq, s.now, origin, corr, two⟩) := by
  change execSyncReceive d p seq two origin corr s = _
  have hd' : ¬ 1 < d := by omega
  have hp' : ¬ 9 < p := by omega
  simp [execSyncReceive, hd', hp', hnet, hrole, hup, hnone]

/-- The Follow_Up of the Sync that waits completes it. -/
theorem exec_followUpReceive {s : State} {d p seq stamp : Nat} {origin0 corr0 : Int} (origin corr : Int)
    (hnet : s.domOn domNET = true) (hwaits : (s.ptpDom d).sync = some ⟨p, seq, stamp, origin0, corr0, true⟩) :
    exec (.followUpReceive d p seq origin corr) s = s.ends (s.syncAccept d ⟨p, seq, stamp, origin, corr0 + corr, false⟩) := by
  change execFollowUpReceive d p seq origin corr s = _
  simp [execFollowUpReceive, hnet, hwaits]

/-! ### Timeouts (R225, R226) -/

theorem exec_followUpTimeout {s : State} {d p seq stamp : Nat} {origin corr : Int}
    (hwaits : (s.ptpDom d).sync = some ⟨p, seq, stamp, origin, corr, true⟩) (hdue : stamp + 10 * msUnits ≤ s.now) :
    exec (.followUpTimeout d) s = s.ends (s.fuMissed d) := by
  change execFollowUpTimeout d s = _
  simp [execFollowUpTimeout, hwaits, hdue]

theorem State.fuMissed_leaves (s : State) (d : Nat) :
    ((s.fuMissed d).ptpDom d).sync = none ∧ (s.fuMissed d).oneMore s F.ESW_PTPCNT_FUMISS d :=
  ⟨congrArg PtpDom.sync (State.ptpDom_setPtpDom_same s d _),
    State.get_bump_same (s.setPtpDom d _) F.ESW_PTPCNT_FUMISS d 0 ⟨by decide, by decide⟩⟩

/-- A domain whose Syncs stay away loses its sync: it serves as grandmaster from now on, and the switch owner is told (R226). -/
def State.syncLost (s : State) (d : Nat) : State :=
  ((s.setPtpDom d { s.ptpDom d with lost := true, gmNext := s.now }).bump F.ESW_PTPCNT_SYNCTO d).eventTo switchOwner 1 1 d

theorem exec_syncTimeout {s : State} {d : Nat} (hd : d < 2) (hslave : (s.slavePort d).isSome = true)
    (hlost : (s.ptpDom d).lost = false) (hdue : (s.ptpDom d).last + 3 * s.syncInterval d ≤ s.now) (hnet : s.domOn domNET = true) :
    exec (.syncTimeout d) s = s.ends (s.syncLost d) := by
  change execSyncTimeout d s = _
  simp only [execSyncTimeout, hd, hslave, hlost, hdue, hnet, and_self, if_true]
  rfl

theorem State.syncLost_leaves (s : State) {d : Nat} (hd : d < 2) :
    (s.syncLost d).ptpDom d = { s.ptpDom d with lost := true, gmNext := s.now } ∧ (s.syncLost d).oneMore s F.ESW_PTPCNT_SYNCTO d := by
  constructor
  · rw [State.syncLost, State.ptpDom_congr (congrArg EthState.doms (State.eventTo_eth _ _ _ _ _ _ _))]
    exact State.ptpDom_setPtpDom_same s d _
  · have hevent := State.sameAt_eventTo ((s.setPtpDom d { s.ptpDom d with lost := true, gmNext := s.now }).bump F.ESW_PTPCNT_SYNCTO d)
      switchOwner 1 1 d 0 0 (a := Reg.addr .ESW_PTPCNT d 0 0) (by simp only [Reg.addr, Reg.geom]; omega)
    exact (hevent.get (f := F.ESW_PTPCNT_SYNCTO)).trans
      (State.get_bump_same (s.setPtpDom d _) F.ESW_PTPCNT_SYNCTO d 0 ⟨by decide, by decide⟩)

/-! ### Messages of the engine (R220, R223) -/

theorem State.ptpSend_ptpDom (s : State) (p : Nat) (m : PtpTx) (d : Nat) : (s.ptpSend p m).ptpDom d = s.ptpDom d := rfl

theorem State.ptpSend_ptp (s : State) (p : Nat) (m : PtpTx) : ((s.ptpSend p m).eport p).ptp = (s.eport p).ptp ++ [m] :=
  congrArg EthPort.ptp (State.eport_setEport_same s p _)

/-- The grandmaster's one master port, in one-step, has a Sync whose origin is its launch instant. -/
theorem exec_grandmasterSyncInterval {s : State} {d q : Nat} (hd : d < 2) (hnet : s.domOn domNET = true) (hgm : s.isGm d = true)
    (hdue : (s.ptpDom d).gmNext ≤ s.now) (hports : s.masterPorts d = [q]) (hvalid : s.scaleValid (d + 1) = true)
    (hone : bit (s.get F.ESW_PTPSTEP_ONESTEP d) q = true) :
    exec (.grandmasterSyncInterval d) s = s.ends ((s.setPtpDom d
      { s.ptpDom d with gmNext := s.now + s.syncInterval d, seq := ((s.ptpDom d).seq + 1) % 65536 }).ptpSend q
        ⟨0, d, (s.ptpDom d).seq, s.freeAt d q, s.freeAt d q, 0, false, false⟩) := by
  change execGrandmasterSyncInterval d s = _
  have hvalid' : ∀ v, (s.setPtpDom d v).scaleValid (d + 1) = true := fun _ => hvalid
  have hone' : ∀ v, bit ((s.setPtpDom d v).get F.ESW_PTPSTEP_ONESTEP d) q = true := fun _ => hone
  have hfree : ∀ v, (s.setPtpDom d v).freeAt d q = s.freeAt d q := fun _ => rfl
  simp [execGrandmasterSyncInterval, hd, hnet, hgm, hdue, hports, hvalid', hone', hfree]

theorem exec_announceSend {s : State} {d q : Nat} (hd : d < 2) (hnet : s.domOn domNET = true) (hdue : (s.ptpDom d).annNext ≤ s.now)
    (hports : s.masterPorts d = [q]) (hq : q ≠ 8) :
    exec (.announceSend d) s = s.ends ((s.setPtpDom d
      { s.ptpDom d with
        annNext := s.now + logInterval (-128) 16 (s.get F.ESW_PTPINT_ANNLOG d), annSeq := ((s.ptpDom d).annSeq + 1) % 65536 }).ptpSend q
          ⟨2, d, (s.ptpDom d).annSeq, Int.ofNat (fineOf s.now), 0, 0, false, false⟩) := by
  change execAnnounceSend d s = _
  simp [execAnnounceSend, hd, hnet, hdue, hports, hq]

/-! ### Messages that are counted (R220) -/

theorem exec_announceReceive {s : State} {d p : Nat} (hd : d < 2) (hp : p < 10) (hup : s.portUp p = true) (hnet : s.domOn domNET = true) :
    exec (.announceReceive d p) s = s.ends (s.bump F.ESW_PTPCNT_ANNRX d) := by
  change execAnnounceReceive d p s = _
  simp [execAnnounceReceive, hd, hp, hup, hnet]

theorem exec_signalingReceive {s : State} {d p : Nat} (hd : d < 2) (hp : p < 10) (hup : s.portUp p = true) (hnet : s.domOn domNET = true) :
    exec (.signalingReceive d p) s = s.ends (s.bump F.ESW_PTPCNT_SIGRX d) := by
  change execSignalingReceive d p s = _
  simp [execSignalingReceive, hd, hp, hup, hnet]

/-! ### Peer delay (R220) -/

/-- An exchange that had no response breaks the row of good ones of its port. -/
def State.pdBroken (s : State) (p : Nat) : State :=
  if (s.eport p).pdOpen.isSome then (s.putAscap p false).setEport p { s.eport p with good := 0 } else s

/-- A port begins a peer-delay exchange: its request goes out. -/
def State.pdBegun (s : State) (p : Nat) : State :=
  ((s.pdBroken p).setEport p { (s.pdBroken p).eport p with pdOpen := some s.now, pdLast := some s.now }).ptpSend p
    ⟨3, 0, 0, Int.ofNat (fineOf s.now), 0, 0, false, false⟩

theorem exec_pdelayExchange {s : State} {p : Nat} (hp : p < 8 ∨ p = 9) (hnet : s.domOn domNET = true) (hup : s.portUp p = true)
    (hdue : (s.eport p).pdLast.all (fun u => decide (u + s.pdInterval ≤ s.now)) = true) :
    exec (.pdelayExchange p) s = s.ends (s.pdBegun p) := by
  change execPdelayExchange p s = _
  unfold execPdelayExchange
  dsimp only
  rw [if_pos]
  · rfl
  · refine ⟨hp, hnet, hup, ?_⟩
    cases hlast : (s.eport p).pdLast with
    | none => rfl
    | some u => simpa only [hlast, Option.all_some] using hdue

theorem State.putAscap_get (s : State) (p : Nat) (b : Bool) : (s.putAscap p b).get F.ESW_PSTAT_ASCAP p = if b then 3 else 0 := by
  rw [State.putAscap, State.get_put_same _ F.ESW_PSTAT_ASCAP _ _ _ ⟨by decide, by decide⟩]
  cases b <;> rfl

theorem State.pdBegun_eport (s : State) (p : Nat) :
    (s.pdBegun p).eport p =
      { (s.pdBroken p).eport p with
        pdOpen := some s.now, pdLast := some s.now
        ptp := ((s.pdBroken p).eport p).ptp ++ [⟨3, 0, 0, Int.ofNat (fineOf s.now), 0, 0, false, false⟩] } := by
  rw [State.pdBegun, State.ptpSend, State.eport_setEport_same, State.eport_setEport_same]

/-- An exchange without response leaves no good one and the port not asCapable. -/
theorem State.pdBegun_of_open {s : State} {p : Nat} (hopen : (s.eport p).pdOpen.isSome = true) :
    ((s.pdBegun p).eport p).good = 0 ∧ (s.pdBegun p).get F.ESW_PSTAT_ASCAP p = 0 := by
  have hbroken : s.pdBroken p = (s.putAscap p false).setEport p { s.eport p with good := 0 } := if_pos hopen
  constructor
  · rw [State.pdBegun_eport, hbroken, State.eport_setEport_same]
  · change (s.pdBroken p).get F.ESW_PSTAT_ASCAP p = 0
    rw [hbroken]
    exact s.putAscap_get p false

/-- P9, which has no audit, takes the delay as it is measured. -/
theorem State.pathDelay_nine (s : State) (mean : Int) : s.pathDelay 9 mean = (s, mean) := by
  unfold State.pathDelay
  split
  · simp
  · simp

theorem exec_pdelayResponse_nine {s : State} {u : Nat} {turnaround : Int} (hnet : s.domOn domNET = true) (hup : s.portUp 9 = true)
    (hopen : (s.eport 9).pdOpen = some u)
    (hfine : (Int.ofNat (fineOf (s.now - u)) - turnaround) / 2 ≤ Int.ofNat (s.get F.ESW_PDCTL_THRESH) * 65536) :
    exec (.pdelayResponse 9 turnaround) s = s.ends ((s.setEport 9
      { s.eport 9 with
        pdOpen := none, mean := (Int.ofNat (fineOf (s.now - u)) - turnaround) / 2, good := (s.eport 9).good + 1 }).putAscap 9
          (decide (3 ≤ (s.eport 9).good + 1))) := by
  change execPdelayResponse 9 turnaround s = _
  have haudit : ∀ mean, s.auditDelay 9 mean = s := fun _ => by rw [State.auditDelay, if_pos (.inl (by decide))]
  unfold execPdelayResponse
  dsimp only
  rw [hopen]
  dsimp only
  rw [if_pos ⟨.inr rfl, hnet, hup⟩, State.pathDelay_nine]
  dsimp only
  rw [haudit, if_pos (decide_eq_true hfine)]

/-! ### Roles (R221) -/

theorem State.roleWrite_of_one_slave (s : State) (d : Nat) {v : Nat} (hone : slavesOf v ≤ 1) :
    s.roleWrite d v =
      (s.put F.ESW_PTPROLE_ROLE v d).setPtpDom d { s.ptpDom d with sync := none, last := s.now, lost := false, gmNext := s.now } :=
  if_neg (Nat.not_lt.mpr hone)

/-! ### The statement -/

/-- Settles O16: a complete Sync is held with its instant, and neither its relay nor its offset reaches the domains; a timeout, a message
that is sent and an exchange of peer delay write their domain, their port and their counter alone. -/
theorem gptpEngineCompletes : Obligations.GptpEngineCompletes := by
  unfold Obligations.GptpEngineCompletes
  refine ⟨?sync, ?followUp, ?discarded, ?lost, ?grandmaster, ?announce, ?announceIn, ?signalingIn, ?exchange, ?response, ?role⟩
  case sync =>
    intro s d p seq two origin corr hd hp hnet hrole hup hnone
    refine Answers.of_ends _ (exec_syncReceive seq two origin corr hd hp hnet hrole hup hnone) ?_
    cases two with
    | true =>
      rw [if_pos rfl, State.withPending_ptpDom, State.ptpDom_setPtpDom_same]
      exact ⟨rfl, rfl, rfl⟩
    | false =>
      rw [if_neg Bool.false_ne_true, State.withPending_ptpDom, State.syncAccept_ptpDom]
      exact ⟨rfl, rfl, rfl⟩
  case followUp =>
    intro s d p seq stamp origin0 origin corr0 corr _ hnet hwaits
    refine Answers.of_ends _ (exec_followUpReceive origin corr hnet hwaits) ?_
    rw [State.withPending_ptpDom, State.syncAccept_ptpDom]
    exact ⟨rfl, rfl, rfl⟩
  case discarded =>
    intro s d p seq stamp origin corr hwaits hdue _
    exact Answers.of_ends _ (exec_followUpTimeout hwaits hdue) (s.fuMissed_leaves d)
  case lost =>
    intro s d hd hslave hlost hdue hnet
    obtain ⟨hdom, hcount⟩ := s.syncLost_leaves hd
    refine Answers.of_ends _ (exec_syncTimeout hd hslave hlost hdue hnet) ?_
    rw [State.withPending_ptpDom, hdom]
    exact ⟨rfl, rfl, hcount⟩
  case grandmaster =>
    intro s d q hd hnet hgm hdue hports hvalid hone
    refine Answers.of_ends _ (exec_grandmasterSyncInterval hd hnet hgm hdue hports hvalid hone) ?_
    rw [State.withPending_ptpDom, State.withPending_eport, State.ptpSend_ptpDom, State.ptpDom_setPtpDom_same]
    exact ⟨rfl, rfl, State.ptpSend_ptp _ _ _⟩
  case announce =>
    intro s d q hd hnet hdue hports hq
    refine Answers.of_ends _ (exec_announceSend hd hnet hdue hports hq) ?_
    rw [State.withPending_ptpDom, State.withPending_eport, State.ptpSend_ptpDom, State.ptpDom_setPtpDom_same]
    exact ⟨rfl, State.ptpSend_ptp _ _ _, rfl⟩
  case announceIn =>
    intro s d p hd hp hup hnet
    exact Answers.of_ends _ (exec_announceReceive hd hp hup hnet)
      ⟨s.get_bump_same F.ESW_PTPCNT_ANNRX d 0 ⟨by decide, by decide⟩, rfl⟩
  case signalingIn =>
    intro s d p hd hp hup hnet
    exact Answers.of_ends _ (exec_signalingReceive hd hp hup hnet)
      ⟨s.get_bump_same F.ESW_PTPCNT_SIGRX d 0 ⟨by decide, by decide⟩, rfl⟩
  case exchange =>
    intro s p hp hnet hup hdue
    refine Answers.of_ends _ (exec_pdelayExchange hp hnet hup hdue) ?_
    rw [State.withPending_eport]
    refine ⟨?_, ?_, State.pdBegun_of_open⟩
    · rw [State.pdBegun_eport]
    · rw [State.pdBegun_eport]
  case response =>
    intro s p u turnaround hlow hhigh hnet hup hopen hfine
    obtain rfl : p = 9 := by omega
    refine Answers.of_ends _ (exec_pdelayResponse_nine hnet hup hopen hfine) ?_
    have hport := State.eport_setEport_same s 9
      { s.eport 9 with
        pdOpen := none, mean := (Int.ofNat (fineOf (s.now - u)) - turnaround) / 2, good := (s.eport 9).good + 1 }
    refine ⟨congrArg EthPort.pdOpen hport, congrArg EthPort.mean hport, congrArg EthPort.good hport, ?_⟩
    rw [State.withPending_get, State.putAscap_get]
    simp only [decide_eq_true_eq]
  case role =>
    intro s init d v hd hfab hon hmay hone
    refine Answers.of_ends (s.roleWrite d v) ?_ ?_
    · change s.ends (if d < 2 then s.owned init .ESW_PTPROLE d 0 0 (fun t => t.roleWrite d v) else s) = _
      rw [if_pos hd, State.owned_of_mayWrite (r := .ESW_PTPROLE) 0 0 _ hfab hon hmay]
    · rw [State.withPending_get, State.withPending_ptpDom, s.roleWrite_of_one_slave d hone, State.ptpDom_setPtpDom_same]
      exact ⟨s.get_put_same F.ESW_PTPROLE_ROLE v d 0 ⟨by decide, by decide⟩, rfl, rfl, rfl⟩

end Sys2Proof.Machine
end

section
/-! The forwarding table: what a command of ESW_FDBCMD does to the bucket it addresses, and what it shows (R205, R207, R208). -/

namespace Sys2Proof.Machine

/-! ### Entries -/

@[simp] theorem State.withPending_fdbAt (t : State) (q : List Instr) (k : Nat) : (t.withPending q).fdbAt k = t.fdbAt k := rfl
@[simp] theorem State.withPending_fdbKey (t : State) (q : List Instr) : (t.withPending q).fdbKey = t.fdbKey := rfl

@[simp] theorem State.fdbAt_setFdb_same (s : State) (k : Nat) (e : Option FdbEnt) : (s.setFdb k e).fdbAt k = e := by
  cases e with
  | some e => exact Sparse.get_set_same _ _ _
  | none => exact Sparse.get_erase_same _ _

@[simp] theorem State.setFdb_get (s : State) (k : Nat) (e : Option FdbEnt) (f : Fld) (i j : Nat) :
    (s.setFdb k e).get f i j = s.get f i j := rfl

/-- The table depends on what the switch keeps of it alone. -/
theorem State.fdbAt_congr {s t : State} (h : t.eth = s.eth) (k : Nat) : t.fdbAt k = s.fdbAt k := by rw [State.fdbAt, State.fdbAt, h]

theorem exec_entryAgeing {s : State} {k : Nat} {e : FdbEnt} (hat : s.fdbAt k = some e) (hdynamic : e.static = false)
    (hold : e.seen + max 1 (s.get F.ESW_AGE_AGETIME) * secUnits ≤ s.now) : exec (.entryAgeing k) s = s.ends (s.setFdb k none) := by
  change execEntryAgeing k s = _
  unfold execEntryAgeing
  rw [hat]
  dsimp only
  rw [if_pos ⟨hdynamic, hold⟩]

/-! ### What was learnt in the cycle of a command (R208) -/

/-- A command addresses a bucket in a cycle in which nothing is learnt. -/
def State.fdbAddressed (s : State) (b : Nat) : State :=
  { s with eth := { s.eth with learnt := [], cmds := s.eth.cmds.filter (fun x => x.1 == s.now) ++ [(s.now, b)] } }

theorem State.learnDrop_of_none {s : State} (b : Nat) (hnone : s.eth.learnt.all (fun x => x.at_ != s.now) = true) :
    s.learnDrop b = s.fdbAddressed b := by
  have hcycle : s.eth.learnt.filter (fun x => x.at_ == s.now) = [] := by
    rw [List.all_eq_true] at hnone
    exact List.filter_eq_nil_iff.mpr fun x hx => by simpa using hnone x hx
  simp [State.learnDrop, State.fdbCycle, State.fdbAddressed, hcycle]

/-- The one entry that was learnt in the cycle and bucket of a command, without a count, is as it was before. -/
theorem State.learnDrop_of_one {s : State} {x : Learnt} (hlearnt : s.eth.learnt = [x]) (hnow : x.at_ = s.now) (hcount : x.counted = 0) :
    (s.learnDrop x.bucket).fdbAt x.idx = x.old ∧ (s.learnDrop x.bucket).eth.learnt = [] := by
  have hcycle : s.fdbCycle.eth.learnt = [x] := by simp [State.fdbCycle, hlearnt, hnow]
  constructor
  · have hdrop : s.learnDrop x.bucket = { s.fdbCycle.setFdb x.idx x.old with
        eth := { (s.fdbCycle.setFdb x.idx x.old).eth with learnt := [], cmds := s.fdbCycle.eth.cmds ++ [(s.fdbCycle.now, x.bucket)] } } := by
      simp [State.learnDrop, hcycle, hcount, State.setFdb]
    rw [hdrop]
    exact State.fdbAt_setFdb_same s.fdbCycle x.idx x.old
  · simp [State.learnDrop, hcycle, hcount, State.setFdb]

/-! ### The answer in ESW_FDBCMD -/

/-- A command by key shows where it found the entry. -/
def State.fdbHit (s : State) (k : Nat) : State := ((s.put F.ESW_FDBCMD_FULL 0).put F.ESW_FDBCMD_HIT 1).put F.ESW_FDBCMD_INDEX k

/-- A command by key shows that it found no entry. -/
def State.fdbMiss (s : State) : State := (s.put F.ESW_FDBCMD_FULL 0).put F.ESW_FDBCMD_HIT 0

theorem State.get_put_index (s : State) (k : Nat) : (s.put F.ESW_FDBCMD_INDEX k).get F.ESW_FDBCMD_INDEX = k % 8192 :=
  s.get_put_same F.ESW_FDBCMD_INDEX k 0 0 ⟨by decide, by decide⟩

/-- The index shown leaves what the answer shows above it. -/
theorem State.get_put_index_above (s : State) (k : Nat) {f : Fld} (hr : f.reg = .ESW_FDBCMD) (hw : f.word = 0) (hlo : 12 < f.lo) :
    (s.put F.ESW_FDBCMD_INDEX k).get f = s.get f :=
  s.get_put_apart F.ESW_FDBCMD_INDEX f k 0 0 ⟨by decide, by decide⟩ hr hw (.inl hlo)

theorem State.get_put_hit (s : State) (v : Nat) : (s.put F.ESW_FDBCMD_HIT v).get F.ESW_FDBCMD_HIT = v % 2 :=
  s.get_put_same F.ESW_FDBCMD_HIT v 0 0 ⟨by decide, by decide⟩

theorem State.get_full_of_answer (s : State) (v : Nat) :
    ((s.put F.ESW_FDBCMD_FULL 0).put F.ESW_FDBCMD_HIT v).get F.ESW_FDBCMD_FULL = 0 := by
  rw [State.get_put_apart _ F.ESW_FDBCMD_HIT F.ESW_FDBCMD_FULL _ _ _ ⟨by decide, by decide⟩ rfl rfl (by decide)]
  exact s.get_put_same F.ESW_FDBCMD_FULL 0 0 0 ⟨by decide, by decide⟩

theorem State.fdbHit_leaves (s : State) (k : Nat) :
    (s.fdbHit k).get F.ESW_FDBCMD_HIT = 1 ∧ (s.fdbHit k).get F.ESW_FDBCMD_INDEX = k % 8192 ∧
      (s.fdbHit k).get F.ESW_FDBCMD_FULL = 0 := by
  refine ⟨?_, State.get_put_index _ k, ?_⟩
  · rw [State.fdbHit, State.get_put_index_above _ k rfl rfl (by decide), State.get_put_hit]
  · rw [State.fdbHit, State.get_put_index_above _ k rfl rfl (by decide), State.get_full_of_answer]

/-! ### The entry in ESW_FDBDATA -/

/-- Two states have the same three words of ESW_FDBDATA. -/
def State.sameData (s t : State) : Prop := ∀ w < 3, s.sameAt t (Reg.addr .ESW_FDBDATA 0 0 w)

theorem State.sameData.get {s t : State} (h : s.sameData t) {f : Fld} (hr : f.reg = .ESW_FDBDATA) (hw : f.word < 3) :
    t.get f = s.get f :=
  State.sameAt.get (by rw [hr]; exact h _ hw)

theorem State.sameData.fdbKey {s t : State} (h : s.sameData t) : t.fdbKey = s.fdbKey := by
  rw [State.fdbKey, State.fdbKey, h.get (f := F.ESW_FDBDATA_VID) rfl (by decide), h.get (f := F.ESW_FDBDATA_MAC_HI) rfl (by decide),
    h.get (f := F.ESW_FDBDATA_MAC_LO) rfl (by decide)]

/-- The command register is a word of its own. -/
theorem State.sameData_put (s : State) {f : Fld} (v : Nat) (hr : f.reg = .ESW_FDBCMD) (hw : f.word = 0) : s.sameData (s.put f v) :=
  fun w _ => s.sameAt_put v (by rw [hr, hw]; simp only [Reg.addr, Reg.geom]; omega)

/-- The key of an entry is shown. -/
def State.keyShown (s : State) (vid mac : Nat) : State :=
  ((s.put F.ESW_FDBDATA_MAC_LO mac).put F.ESW_FDBDATA_MAC_HI (mac / 2 ^ 32)).put F.ESW_FDBDATA_VID vid

/-- The rest of an entry is shown. -/
def State.restShown (s : State) (e : FdbEnt) : State :=
  ((s.put F.ESW_FDBDATA_VALID 1).put F.ESW_FDBDATA_STATIC (if e.static then 1 else 0)).put F.ESW_FDBDATA_PORTS e.ports

theorem State.fdbShow_some (s : State) (e : FdbEnt) : s.fdbShow (some e) = (s.keyShown e.vid e.mac).restShown e := rfl

/-- An entry is shown in ESW_FDBDATA alone. -/
theorem State.sameAt_fdbShow (s : State) (e : Option FdbEnt) {a : Nat} (h : ∀ w < 3, Reg.addr .ESW_FDBDATA 0 0 w ≠ a) :
    s.sameAt (s.fdbShow e) a := by
  cases e with
  | some e =>
    have hput : ∀ (t : State) (f : Fld) (v : Nat), f.reg = .ESW_FDBDATA → f.word < 3 → t.sameAt (t.put f v) a := fun t f v hr hw =>
      t.sameAt_put v (by rw [hr]; exact h _ hw)
    exact (((((hput s F.ESW_FDBDATA_MAC_LO _ rfl (by decide)).trans (hput _ F.ESW_FDBDATA_MAC_HI _ rfl (by decide))).trans
      (hput _ F.ESW_FDBDATA_VID _ rfl (by decide))).trans (hput _ F.ESW_FDBDATA_VALID _ rfl (by decide))).trans
      (hput _ F.ESW_FDBDATA_STATIC _ rfl (by decide))).trans (hput _ F.ESW_FDBDATA_PORTS _ rfl (by decide))
  | none => exact s.sameAt_setWordsFrom 0 [0, 0, 0] fun k hk => by simpa using h k hk

theorem State.fdbShow_cmd (s : State) (e : Option FdbEnt) {f : Fld} (hr : f.reg = .ESW_FDBCMD) (hw : f.word = 0) :
    (s.fdbShow e).get f = s.get f :=
  State.sameAt.get (s.sameAt_fdbShow e fun w _ => by rw [hr, hw]; simp only [Reg.addr, Reg.geom]; omega)

@[simp] theorem State.fdbShow_eth (s : State) (e : Option FdbEnt) : (s.fdbShow e).eth = s.eth := by
  cases e with
  | some e => simp only [State.fdbShow_some, State.restShown, State.keyShown, State.put_eth]
  | none => exact State.setWords_eth _ _ _ _ _

theorem State.restShown_valid (s : State) (e : FdbEnt) : (s.restShown e).get F.ESW_FDBDATA_VALID = 1 := by
  rw [State.restShown, State.get_put_apart _ F.ESW_FDBDATA_PORTS F.ESW_FDBDATA_VALID _ _ _ ⟨by decide, by decide⟩ rfl rfl (by decide),
    State.get_put_apart _ F.ESW_FDBDATA_STATIC F.ESW_FDBDATA_VALID _ _ _ ⟨by decide, by decide⟩ rfl rfl (by decide)]
  exact s.get_put_same F.ESW_FDBDATA_VALID 1 0 0 ⟨by decide, by decide⟩

theorem State.restShown_ports (s : State) (e : FdbEnt) : (s.restShown e).get F.ESW_FDBDATA_PORTS = e.ports % 2 ^ 15 :=
  State.get_put_same _ F.ESW_FDBDATA_PORTS _ 0 0 ⟨by decide, by decide⟩

theorem State.restShown_fdbKey (s : State) (e : FdbEnt) : (s.restShown e).fdbKey = s.fdbKey := by
  have hput : ∀ (t : State) (f g : Fld) (v : Nat), f.reg = .ESW_FDBDATA → f.word = 2 → g.reg = .ESW_FDBDATA → g.word < 2 →
      (t.put f v).get g = t.get g := fun t f g v hr hw hr' hw' =>
    t.get_put_elsewhere f g _ _ _ _ _ (by rw [hr, hw, hr']; simp only [Reg.addr, Reg.geom]; omega)
  have hget : ∀ g : Fld, g.reg = .ESW_FDBDATA → g.word < 2 → (s.restShown e).get g = s.get g := fun g hr hw => by
    rw [State.restShown, hput _ _ g _ rfl rfl hr hw, hput _ _ g _ rfl rfl hr hw, hput _ _ g _ rfl rfl hr hw]
  rw [State.fdbKey, State.fdbKey, hget F.ESW_FDBDATA_VID rfl (by decide), hget F.ESW_FDBDATA_MAC_HI rfl (by decide),
    hget F.ESW_FDBDATA_MAC_LO rfl (by decide)]

/-- A key of 12 and 48 bits is shown whole. -/
theorem State.keyShown_fdbKey (s : State) {vid mac : Nat} (hvid : vid < 4096) (hmac : mac < 2 ^ 48) :
    (s.keyShown vid mac).fdbKey = (vid, mac) := by
  have hshown : (s.keyShown vid mac).get F.ESW_FDBDATA_VID = vid % 2 ^ 12 :=
    State.get_put_same _ F.ESW_FDBDATA_VID _ 0 0 ⟨by decide, by decide⟩
  have hhigh : (s.keyShown vid mac).get F.ESW_FDBDATA_MAC_HI = mac / 2 ^ 32 % 2 ^ 16 := by
    rw [State.keyShown, State.get_put_apart _ F.ESW_FDBDATA_VID F.ESW_FDBDATA_MAC_HI _ _ _ ⟨by decide, by decide⟩ rfl rfl (by decide)]
    exact State.get_put_same _ F.ESW_FDBDATA_MAC_HI _ 0 0 ⟨by decide, by decide⟩
  have hlow : (s.keyShown vid mac).get F.ESW_FDBDATA_MAC_LO = mac % 2 ^ 32 := by
    rw [State.keyShown, State.get_put_elsewhere _ F.ESW_FDBDATA_VID F.ESW_FDBDATA_MAC_LO _ _ _ _ _ (by decide),
      State.get_put_elsewhere _ F.ESW_FDBDATA_MAC_HI F.ESW_FDBDATA_MAC_LO _ _ _ _ _ (by decide)]
    exact s.get_put_same F.ESW_FDBDATA_MAC_LO _ 0 0 ⟨by decide, by decide⟩
  rw [State.fdbKey, hshown, hhigh, hlow]
  refine Prod.ext ?_ ?_ <;> dsimp only <;> omega

/-- What is shown of a place of the table: whether it holds an entry, and the entry's key. -/
theorem State.fdbShow_leaves (s : State) (o : Option FdbEnt) :
    (s.fdbShow o).get F.ESW_FDBDATA_VALID = (if o.isSome then 1 else 0) ∧
      o.all (fun e => !(decide (e.vid < 4096) && decide (e.mac < 2 ^ 48)) || (s.fdbShow o).fdbKey == (e.vid, e.mac)) = true := by
  cases o with
  | none =>
    have hword : (s.fdbShow none).word .ESW_FDBDATA 0 0 2 = 0 := State.word_setWord_same _ _ _ _ _ _
    exact ⟨congrArg (fun w => bitsOf w F.ESW_FDBDATA_VALID.hi F.ESW_FDBDATA_VALID.lo) hword, rfl⟩
  | some e =>
    rw [State.fdbShow_some]
    refine ⟨State.restShown_valid _ e, ?_⟩
    rw [Option.all_some, State.restShown_fdbKey]
    by_cases hkey : e.vid < 4096 ∧ e.mac < 2 ^ 48
    · simp [s.keyShown_fdbKey hkey.1 hkey.2]
    · simp only [Bool.or_eq_true, Bool.not_eq_true', Bool.and_eq_false_iff, decide_eq_false_iff_not]
      exact .inl (by tauto)

/-! ### Commands -/

/-- The entry that ESW_FDBDATA holds for a key. -/
def State.fdbEntry (s : State) (vid mac : Nat) : Option FdbEnt :=
  if s.on F.ESW_FDBDATA_VALID then some ⟨mac, vid, s.on F.ESW_FDBDATA_STATIC, s.get F.ESW_FDBDATA_PORTS, s.now⟩ else none

theorem State.fdbEntry_of_valid {s : State} (vid mac : Nat) (h : s.get F.ESW_FDBDATA_VALID = 1) :
    s.fdbEntry vid mac = some ⟨mac, vid, s.on F.ESW_FDBDATA_STATIC, s.get F.ESW_FDBDATA_PORTS, s.now⟩ := by
  simp [State.fdbEntry, State.on, h]

theorem State.fdbCmd_read (s : State) : s.fdbCmd 0 =
    (s.learnDrop (s.get F.ESW_FDBCMD_INDEX / 4)).fdbShow ((s.learnDrop (s.get F.ESW_FDBCMD_INDEX / 4)).fdbAt
      ((s.learnDrop (s.get F.ESW_FDBCMD_INDEX / 4)).get F.ESW_FDBCMD_INDEX)) := rfl

/-- What a command by key does with the entry it found: a write replaces it, a look-up shows it, a delete removes it. -/
def State.fdbFound (s : State) (vid mac k : Nat) : Nat → State
  | 1 => (s.fdbHit k).setFdb k (s.fdbEntry vid mac)
  | 2 => (s.fdbHit k).fdbShow (s.fdbAt k)
  | _ => (s.fdbHit k).setFdb k none

section
variable {s u : State} {vid mac k : Nat} (hkey : s.fdbKey = (vid, mac)) (hdrop : s.learnDrop (fdbBucket vid mac) = u)
include hkey hdrop

theorem State.fdbCmd_found {op : Nat} (hop : op ≠ 0) (hfind : u.fdbFind vid mac = some k) :
    s.fdbCmd op = u.fdbFound vid mac k op := by
  unfold State.fdbCmd
  rw [hkey]
  dsimp only
  rw [if_neg hop, hdrop, hfind]
  match op, hop with
  | 1, _ => rfl
  | 2, _ => rfl
  | n + 3, _ => rfl

theorem State.fdbCmd_write_free (hfind : u.fdbFind vid mac = none) (hfree : u.fdbFree vid mac = some k)
    (hvalid : u.get F.ESW_FDBDATA_VALID = 1) :
    s.fdbCmd 1 = (u.fdbMiss.setFdb k (u.fdbEntry vid mac)).put F.ESW_FDBCMD_INDEX k := by
  unfold State.fdbCmd
  rw [hkey]
  dsimp only
  rw [if_neg (by decide), hdrop, hfind, hfree]
  exact if_pos (by rw [← State.fdbEntry, State.fdbEntry_of_valid vid mac hvalid]; rfl)

theorem State.fdbCmd_lookUp_missing (hfind : u.fdbFind vid mac = none) : s.fdbCmd 2 = u.fdbMiss := by
  unfold State.fdbCmd
  rw [hkey]
  dsimp only
  rw [if_neg (by decide), hdrop, hfind]
  rfl

/-- A look-up changes nothing in the switch but what its cycle drops. -/
theorem State.fdbCmd_lookUp_eth : (s.fdbCmd 2).eth = u.eth := by
  cases hfind : u.fdbFind vid mac with
  | some k => rw [State.fdbCmd_found hkey hdrop (by decide) hfind, State.fdbFound, State.fdbShow_eth]; rfl
  | none => rw [State.fdbCmd_lookUp_missing hkey hdrop hfind]; rfl

end

/-! ### Commands of who may write them -/

/-- A command as its writer gives it, before it acts. -/
def State.fdbAsked (s : State) (idx : Nat) : State := s.put F.ESW_FDBCMD_INDEX idx

theorem State.sameData_fdbAsked (s : State) (idx : Nat) : s.sameData (s.fdbAsked idx) := s.sameData_put idx rfl rfl

theorem State.fdbAsked_key {s : State} {vid mac : Nat} (idx : Nat) (hkey : s.fdbKey = (vid, mac)) : (s.fdbAsked idx).fdbKey = (vid, mac) :=
  (s.sameData_fdbAsked idx).fdbKey.trans hkey

/-- A command in whose cycle nothing was learnt. -/
theorem State.fdbAsked_learnDrop {s : State} (idx b : Nat) (hnone : s.eth.learnt.all (fun x => x.at_ != s.now) = true) :
    (s.fdbAsked idx).learnDrop b = (s.fdbAsked idx).fdbAddressed b :=
  State.learnDrop_of_none b hnone

theorem State.sameData_addressed (s : State) (idx b : Nat) : s.sameData ((s.fdbAsked idx).fdbAddressed b) := s.sameData_fdbAsked idx

theorem State.fdbWrite_of_mayWrite {s : State} {init : Init} (op idx : Nat) (hfab : s.domOn domFAB = true) (hon : s.blockOn 1 = true)
    (hmay : s.mayWrite init .ESW_FDBCMD 0 = true) : s.fdbWrite init op idx = (s.fdbAsked idx).fdbCmd op :=
  State.owned_of_mayWrite (r := .ESW_FDBCMD) 0 0 _ hfab hon hmay

section
variable {s : State} {init : Init} (hfab : s.domOn domFAB = true) (hon : s.blockOn 1 = true)
  (hmay : s.mayWrite init .ESW_FDBCMD 0 = true)
include hfab hon hmay

theorem exec_fdbReadIndex (k : Nat) : exec (.fdbReadIndex init k) s = s.ends ((s.fdbAsked k).fdbCmd 0) :=
  congrArg s.ends (State.fdbWrite_of_mayWrite 0 k hfab hon hmay)

theorem exec_fdbWriteByKey : exec (.fdbWriteByKey init) s = s.ends ((s.fdbAsked (s.get F.ESW_FDBCMD_INDEX)).fdbCmd 1) :=
  congrArg s.ends (State.fdbWrite_of_mayWrite 1 _ hfab hon hmay)

theorem exec_fdbLookUpKey : exec (.fdbLookUpKey init) s = s.ends ((s.fdbAsked (s.get F.ESW_FDBCMD_INDEX)).fdbCmd 2) :=
  congrArg s.ends (State.fdbWrite_of_mayWrite 2 _ hfab hon hmay)

theorem exec_fdbDeleteByKey : exec (.fdbDeleteByKey init) s = s.ends ((s.fdbAsked (s.get F.ESW_FDBCMD_INDEX)).fdbCmd 3) :=
  congrArg s.ends (State.fdbWrite_of_mayWrite 3 _ hfab hon hmay)

end

/-! ### What each command leaves -/

section
variable {s : State} (hnone : s.eth.learnt.all (fun x => x.at_ != s.now) = true)
include hnone

theorem State.fdbRead_leaves {k : Nat} (hk : k < 8192) :
    let t := (s.fdbAsked k).fdbCmd 0
    t.get F.ESW_FDBCMD_INDEX = k ∧ t.get F.ESW_FDBDATA_VALID = (if (s.fdbAt k).isSome then 1 else 0) ∧
      (s.fdbAt k).all (fun e => !(decide (e.vid < 4096) && decide (e.mac < 2 ^ 48)) || t.fdbKey == (e.vid, e.mac)) = true ∧
      t.eth.fdb = s.eth.fdb ∧ t.eth.ports = s.eth.ports := by
  have hindex : (s.fdbAsked k).get F.ESW_FDBCMD_INDEX = k := (s.get_put_index k).trans (Nat.mod_eq_of_lt hk)
  have hshow : (s.fdbAsked k).fdbCmd 0 = ((s.fdbAsked k).fdbAddressed (k / 4)).fdbShow (s.fdbAt k) := by
    rw [State.fdbCmd_read, hindex, State.fdbAsked_learnDrop k (k / 4) hnone]
    exact congrArg (fun i => ((s.fdbAsked k).fdbAddressed (k / 4)).fdbShow (s.fdbAt i)) hindex
  dsimp only
  rw [hshow, State.fdbShow_eth]
  obtain ⟨hvalid, hkey⟩ := State.fdbShow_leaves ((s.fdbAsked k).fdbAddressed (k / 4)) (s.fdbAt k)
  exact ⟨(State.fdbShow_cmd _ _ rfl rfl).trans hindex, hvalid, hkey, rfl, rfl⟩

variable {vid mac k : Nat} (hkey : s.fdbKey = (vid, mac)) (idx : Nat)
include hkey

theorem State.fdbWrite_leaves (hplace : s.fdbFind vid mac = some k ∨ (s.fdbFind vid mac = none ∧ s.fdbFree vid mac = some k))
    (hvalid : s.get F.ESW_FDBDATA_VALID = 1) :
    let t := (s.fdbAsked idx).fdbCmd 1
    t.fdbAt k = some ⟨mac, vid, s.on F.ESW_FDBDATA_STATIC, s.get F.ESW_FDBDATA_PORTS, s.now⟩ ∧
      t.get F.ESW_FDBCMD_INDEX = k % 8192 ∧ t.get F.ESW_FDBCMD_FULL = 0 := by
  set u := (s.fdbAsked idx).fdbAddressed (fdbBucket vid mac)
  have hdata : s.sameData u := s.sameData_addressed idx _
  have hdrop : (s.fdbAsked idx).learnDrop (fdbBucket vid mac) = u := State.fdbAsked_learnDrop idx _ hnone
  have hvalid' : u.get F.ESW_FDBDATA_VALID = 1 := (hdata.get rfl (by decide)).trans hvalid
  have hentry : u.fdbEntry vid mac = some ⟨mac, vid, s.on F.ESW_FDBDATA_STATIC, s.get F.ESW_FDBDATA_PORTS, s.now⟩ := by
    rw [State.fdbEntry_of_valid vid mac hvalid', State.on, State.on, hdata.get (f := F.ESW_FDBDATA_STATIC) rfl (by decide),
      hdata.get (f := F.ESW_FDBDATA_PORTS) rfl (by decide)]
    rfl
  dsimp only
  rcases hplace with hfind | ⟨hfind, hfree⟩
  · rw [State.fdbCmd_found (State.fdbAsked_key idx hkey) hdrop (k := k) (by decide) hfind, State.fdbFound, hentry]
    obtain ⟨-, hindex, hfull⟩ := u.fdbHit_leaves k
    rw [State.setFdb_get, State.setFdb_get]
    exact ⟨State.fdbAt_setFdb_same _ _ _, hindex, hfull⟩
  · rw [State.fdbCmd_write_free (State.fdbAsked_key idx hkey) hdrop (k := k) hfind hfree hvalid', hentry]
    refine ⟨(State.fdbAt_congr (State.put_eth _ _ _ _ _) k).trans (State.fdbAt_setFdb_same _ _ _), State.get_put_index _ k, ?_⟩
    rw [State.get_put_index_above _ k rfl rfl (by decide), State.setFdb_get]
    exact u.get_full_of_answer 0

theorem State.fdbLookUp_found_leaves {e : FdbEnt} (hfind : s.fdbFind vid mac = some k) (hat : s.fdbAt k = some e) :
    let t := (s.fdbAsked idx).fdbCmd 2
    t.get F.ESW_FDBCMD_HIT = 1 ∧ t.get F.ESW_FDBCMD_INDEX = k % 8192 ∧ t.get F.ESW_FDBDATA_PORTS = e.ports % 2 ^ 15 ∧
      t.get F.ESW_FDBDATA_VALID = 1 ∧ t.eth.fdb = s.eth.fdb ∧ t.eth.ports = s.eth.ports := by
  set u := (s.fdbAsked idx).fdbAddressed (fdbBucket vid mac)
  have hdrop : (s.fdbAsked idx).learnDrop (fdbBucket vid mac) = u := State.fdbAsked_learnDrop idx _ hnone
  have hat' : u.fdbAt k = some e := hat
  dsimp only
  rw [State.fdbCmd_lookUp_eth (State.fdbAsked_key idx hkey) hdrop,
    State.fdbCmd_found (State.fdbAsked_key idx hkey) hdrop (k := k) (by decide) hfind, State.fdbFound, hat']
  obtain ⟨hhit, hindex, -⟩ := u.fdbHit_leaves k
  exact ⟨(State.fdbShow_cmd _ _ rfl rfl).trans hhit, (State.fdbShow_cmd _ _ rfl rfl).trans hindex, State.restShown_ports _ e,
    State.restShown_valid _ e, rfl, rfl⟩

theorem State.fdbLookUp_missing_leaves (hfind : s.fdbFind vid mac = none) :
    let t := (s.fdbAsked idx).fdbCmd 2
    t.get F.ESW_FDBCMD_HIT = 0 ∧ t.eth.fdb = s.eth.fdb ∧ t.eth.ports = s.eth.ports ∧ t.fdbKey = s.fdbKey := by
  set u := (s.fdbAsked idx).fdbAddressed (fdbBucket vid mac)
  have hdata : s.sameData u := s.sameData_addressed idx _
  have hdrop : (s.fdbAsked idx).learnDrop (fdbBucket vid mac) = u := State.fdbAsked_learnDrop idx _ hnone
  dsimp only
  rw [State.fdbCmd_lookUp_missing (State.fdbAsked_key idx hkey) hdrop hfind]
  refine ⟨State.get_put_hit _ 0, rfl, rfl, ?_⟩
  rw [← hdata.fdbKey, State.fdbMiss, (State.sameData_put _ 0 rfl rfl).fdbKey, (State.sameData_put _ 0 rfl rfl).fdbKey]

theorem State.fdbDelete_leaves (hfind : s.fdbFind vid mac = some k) :
    ((s.fdbAsked idx).fdbCmd 3).fdbAt k = none ∧ ((s.fdbAsked idx).fdbCmd 3).get F.ESW_FDBCMD_HIT = 1 := by
  set u := (s.fdbAsked idx).fdbAddressed (fdbBucket vid mac)
  have hdrop : (s.fdbAsked idx).learnDrop (fdbBucket vid mac) = u := State.fdbAsked_learnDrop idx _ hnone
  have hfound : (s.fdbAsked idx).fdbCmd 3 = (u.fdbHit k).setFdb k none :=
    State.fdbCmd_found (State.fdbAsked_key idx hkey) hdrop (by decide) hfind
  rw [hfound, State.setFdb_get]
  exact ⟨State.fdbAt_setFdb_same _ _ _, (State.fdbHit_leaves _ k).1⟩

end

/-- A look-up in the bucket and the cycle of an address that was learnt. -/
theorem State.fdbLookUp_drops {s : State} {vid mac : Nat} {x : Learnt} (idx : Nat) (hkey : s.fdbKey = (vid, mac))
    (hlearnt : s.eth.learnt = [x]) (hnow : x.at_ = s.now) (hcount : x.counted = 0) (hbucket : x.bucket = fdbBucket vid mac) :
    ((s.fdbAsked idx).fdbCmd 2).fdbAt x.idx = x.old ∧ ((s.fdbAsked idx).fdbCmd 2).eth.learnt = [] := by
  have heth := State.fdbCmd_lookUp_eth (State.fdbAsked_key idx hkey) rfl
  obtain ⟨hat, hempty⟩ := State.learnDrop_of_one (s := s.fdbAsked idx) hlearnt hnow hcount
  rw [hbucket] at hat hempty
  rw [State.fdbAt_congr heth, heth]
  exact ⟨hat, hempty⟩

end Sys2Proof.Machine
end

section
/-! The gate lists: what a pending change and the end of an entry leave of a port's list (R212, R213). -/

namespace Sys2Proof.Machine

@[simp] theorem State.withPending_gateEnt (t : State) (q : List Instr) (p e : Nat) : (t.withPending q).gateEnt p e = t.gateEnt p e := rfl

/-- The counting of a port's credits leaves the rest of the port. -/
theorem State.creditTick_eport (s : State) (p : Nat) :
    ∃ c, (s.creditTick p).eport p = { s.eport p with credits := c, creditAt := s.now } := by
  have hcounted : ∃ c, ((List.range 8).foldl (fun t q => t.creditOne p q) s).eport p = { s.eport p with credits := c } :=
    List.foldlRecOn (motive := fun t : State => ∃ c, t.eport p = { s.eport p with credits := c }) _ _ ⟨_, rfl⟩ fun t ht q _ => by
      obtain ⟨c, hc⟩ := ht
      unfold State.creditOne
      dsimp only
      split
      · exact ⟨c, hc⟩
      · rw [State.setCredit, State.eport_setEport_same, hc]
        exact ⟨_, rfl⟩
  obtain ⟨c, hc⟩ := hcounted
  refine ⟨c, ?_⟩
  rw [State.creditTick, State.eport_setEport_same, hc]

theorem State.portsOnly.gateEnt {s t : State} (h : s.portsOnly t) (p e : Nat) : t.gateEnt p e = s.gateEnt p e := by
  simp only [State.gateEnt, State.bankEnt, h.get]

/-! ### The entry in force (R212) -/

theorem State.portsOnly_gateEnter (s : State) (p e : Nat) (start cycEnd : Int) : s.portsOnly (s.gateEnter p e start cycEnd) :=
  s.portsOnly_setEport p _

/-- A port enters an entry of its list, which leaves the rest of the port. -/
theorem State.gateEnter_leaves (s : State) (p e : Nat) (start cycEnd : Int) :
    ((s.gateEnter p e start cycEnd).eport p).run.idx = some e ∧ ((s.gateEnter p e start cycEnd).eport p).run.cycEnd = cycEnd ∧
      ((s.gateEnter p e start cycEnd).eport p).run.gates = ((s.gateEnter p e start cycEnd).gateEnt p e).1 ∧
      ((s.gateEnter p e start cycEnd).eport p).changeAt = (s.eport p).changeAt := by
  rw [(s.portsOnly_gateEnter p e start cycEnd).gateEnt, State.gateEnter, State.eport_setEport_same]
  exact ⟨rfl, rfl, rfl, rfl⟩

/-- What follows the entry in force of a list. -/
def State.gateNext (s : State) (p e : Nat) (r : GateRun) : State :=
  if r.until_ < r.cycEnd then (s.creditTick p).gateEnter p (e + 1) r.until_ r.cycEnd
  else (s.creditTick p).gateEnter p 0 r.cycEnd (r.cycEnd + r.cycle)

theorem exec_gateEntryEnd {s : State} {p e : Nat} (hp : p < 11) (hen : s.get F.ESW_PTASCTL_EN p = 1) (hlen : (s.eport p).run.len ≠ 0)
    (hvalid : s.scaleValid 1 = true) (hdue : (s.eport p).run.until_ ≤ s.scaleAt 1 s.now) (hidx : (s.eport p).run.idx = some e) :
    exec (.gateEntryEnd p) s = s.ends (s.gateNext p e (s.eport p).run) := by
  change execGateEntryEnd p s = _
  have hon : s.on F.ESW_PTASCTL_EN p = true := by simp [State.on, hen]
  unfold execGateEntryEnd
  dsimp only
  rw [if_pos ⟨hp, hon, hlen, hvalid, hdue⟩, hidx]
  rfl

theorem State.gateNext_leaves (s : State) (p e : Nat) (r : GateRun) :
    (if r.until_ < r.cycEnd then
        ((s.gateNext p e r).eport p).run.idx = some (e + 1) ∧ ((s.gateNext p e r).eport p).run.cycEnd = r.cycEnd
      else ((s.gateNext p e r).eport p).run.idx = some 0 ∧ ((s.gateNext p e r).eport p).run.cycEnd = r.cycEnd + r.cycle) ∧
      (s.gateNext p e r).regs = s.regs := by
  unfold State.gateNext
  split
  · obtain ⟨hidx, hend, -, -⟩ := (s.creditTick p).gateEnter_leaves p (e + 1) r.until_ r.cycEnd
    exact ⟨⟨hidx, hend⟩, ((s.portsOnly_creditTick p).trans (State.portsOnly_gateEnter _ _ _ _ _)).regs⟩
  · obtain ⟨hidx, hend, -, -⟩ := (s.creditTick p).gateEnter_leaves p 0 r.cycEnd (r.cycEnd + r.cycle)
    exact ⟨⟨hidx, hend⟩, ((s.portsOnly_creditTick p).trans (State.portsOnly_gateEnter _ _ _ _ _)).regs⟩

/-! ### A change of the list (R213) -/

theorem State.gateChange_leaves {s : State} {p : Nat} (hidle : s.get F.ESW_PTASCTL_CHANGE p = 0) :
    (s.gateChange p).get F.ESW_PTASCTL_CHANGE p = 1 ∧
      (s.gateChange p).eport p = { s.eport p with changeAt := some s.applyTick } := by
  have hoff : ¬ s.on F.ESW_PTASCTL_CHANGE p = true := by simp [State.on, hidle]
  rw [State.gateChange, if_neg hoff]
  exact ⟨s.get_put_same F.ESW_PTASCTL_CHANGE 1 p 0 ⟨by decide, by decide⟩, State.eport_setEport_same _ _ _⟩

/-- The registers and the port when its admin bank becomes the operational one. -/
def State.gateSwapped (s : State) (p : Nat) (r : GateRun) : State :=
  let s1 := ((s.creditTick p).put F.ESW_PTASCTL_OPBANK (1 - s.get F.ESW_PTASCTL_OPBANK p) p).put F.ESW_PTASCTL_CHANGE 0 p
  s1.setEport p { s1.eport p with changeAt := none, run := r }

/-- The list that a port takes up at a change. -/
def State.gateTaken (s : State) (p : Nat) : GateRun :=
  ⟨Int.ofNat (s.timeAt .ESW_PTASBASE p 0 0 / 4096 * 4096), gateCycle s p, clampNat 1 512 (s.get F.ESW_PTASCTL_LEN p), none, 0, 0, 255⟩

theorem exec_gateListSwitch {s : State} {p : Nat} {u : Int} (hp : p < 11) (hchange : s.get F.ESW_PTASCTL_CHANGE p = 1)
    (hat : s.gateSwitchAt p = some u) (hdue : u ≤ s.scaleAt 1 s.now) :
    exec (.gateListSwitch p) s = s.ends ((s.gateSwapped p (s.gateTaken p)).gateEnter p 0 u (u + gateCycle s p)) := by
  change execGateListSwitch p s = _
  have hon : s.on F.ESW_PTASCTL_CHANGE p = true := by simp [State.on, hchange]
  unfold execGateListSwitch
  rw [hat]
  dsimp only
  rw [if_pos ⟨hp, hon, hdue⟩]
  rfl

theorem State.gateSwapped_leaves (s : State) (p : Nat) (r : GateRun) :
    (s.gateSwapped p r).get F.ESW_PTASCTL_OPBANK p = 1 - s.get F.ESW_PTASCTL_OPBANK p ∧
      (s.gateSwapped p r).get F.ESW_PTASCTL_CHANGE p = 0 ∧ ((s.gateSwapped p r).eport p).changeAt = none := by
  have hport : ∀ f : Fld, (s.gateSwapped p r).get f p =
      (((s.creditTick p).put F.ESW_PTASCTL_OPBANK (1 - s.get F.ESW_PTASCTL_OPBANK p) p).put F.ESW_PTASCTL_CHANGE 0 p).get f p := fun _ => rfl
  refine ⟨?_, ?_, ?_⟩
  · rw [hport, State.get_put_apart _ F.ESW_PTASCTL_CHANGE F.ESW_PTASCTL_OPBANK _ _ _ ⟨by decide, by decide⟩ rfl rfl (by decide),
      State.get_put_same _ F.ESW_PTASCTL_OPBANK _ _ _ ⟨by decide, by decide⟩]
    exact Nat.mod_eq_of_lt (Nat.lt_of_le_of_lt (Nat.sub_le _ _) (by decide))
  · rw [hport, State.get_put_same _ F.ESW_PTASCTL_CHANGE _ _ _ ⟨by decide, by decide⟩]
    rfl
  · rw [State.gateSwapped, State.eport_setEport_same]

end Sys2Proof.Machine
end

section
/-! The rings of the fabric ports: their bases, and the descriptors that a new TAIL has processed (R215, R228). -/

namespace Sys2Proof.Machine

/-! ### Whether a ring runs -/

theorem State.ringRuns_put_tail (s : State) {p : Nat} (v : Nat) : (s.put F.ESW_FPTXTAIL_TAIL v p).ringRuns p false = s.ringRuns p false := by
  have hget : ∀ f : Fld, f.reg = .ESW_FPTXSIZE ∨ f.reg = .ESW_FPTXBASE → f.word = 0 →
      (s.put F.ESW_FPTXTAIL_TAIL v p).get f p = s.get f p := fun f hr hw =>
    s.get_put_elsewhere F.ESW_FPTXTAIL_TAIL f _ _ _ _ _ (by
      rw [hw]; rcases hr with hr | hr <;> simp only [hr, F.ESW_FPTXTAIL_TAIL, Reg.addr, Reg.geom] <;> omega)
  unfold State.ringRuns
  simp only [Bool.false_eq_true, if_false, hget F.ESW_FPTXSIZE_SIZE (.inl rfl) rfl, hget F.ESW_FPTXBASE_BASE (.inr rfl) rfl]
  rfl

/-- A transmit ring that runs has 16 to 1,024 descriptors. -/
theorem State.size_of_ringRuns {s : State} {p : Nat} (h : s.ringRuns p false = true) :
    16 ≤ s.get F.ESW_FPTXSIZE_SIZE p ∧ s.get F.ESW_FPTXSIZE_SIZE p ≤ 1024 := by
  have hsizes : ∀ n ∈ [16, 32, 64, 128, 256, 512, 1024], 16 ≤ n ∧ n ≤ 1024 := by decide
  simp only [State.ringRuns, Bool.and_eq_true, Bool.false_eq_true, if_false] at h
  exact hsizes _ (List.contains_iff_mem.mp h.1.1.1)

/-! ### TAIL (R228) -/

theorem State.get_put_tail_head (s : State) (p v : Nat) :
    (s.put F.ESW_FPTXTAIL_TAIL v p).get F.ESW_FPTXHEAD_HEAD p = s.get F.ESW_FPTXHEAD_HEAD p :=
  s.get_put_elsewhere F.ESW_FPTXTAIL_TAIL F.ESW_FPTXHEAD_HEAD _ _ _ _ _ (by
    simp only [F.ESW_FPTXTAIL_TAIL, F.ESW_FPTXHEAD_HEAD, Reg.addr, Reg.geom]; omega)

theorem State.get_put_tail_size (s : State) (p v : Nat) :
    (s.put F.ESW_FPTXTAIL_TAIL v p).get F.ESW_FPTXSIZE_SIZE p = s.get F.ESW_FPTXSIZE_SIZE p :=
  s.get_put_elsewhere F.ESW_FPTXTAIL_TAIL F.ESW_FPTXSIZE_SIZE _ _ _ _ _ (by
    simp only [F.ESW_FPTXTAIL_TAIL, F.ESW_FPTXSIZE_SIZE, Reg.addr, Reg.geom]; omega)

theorem State.get_put_tail_base (s : State) (p v : Nat) :
    (s.put F.ESW_FPTXTAIL_TAIL v p).get F.ESW_FPTXBASE_BASE p = s.get F.ESW_FPTXBASE_BASE p :=
  s.get_put_elsewhere F.ESW_FPTXTAIL_TAIL F.ESW_FPTXBASE_BASE _ _ _ _ _ (by
    simp only [F.ESW_FPTXTAIL_TAIL, F.ESW_FPTXBASE_BASE, Reg.addr, Reg.geom]; omega)

theorem State.get_put_tail (s : State) (p v : Nat) : (s.put F.ESW_FPTXTAIL_TAIL v p).get F.ESW_FPTXTAIL_TAIL p = v % 1024 :=
  s.get_put_same F.ESW_FPTXTAIL_TAIL v p 0 ⟨by decide, by decide⟩

/-- A ring with nothing to send stays as it is. -/
theorem State.txRun_of_empty {s : State} {p : Nat} (h : s.get F.ESW_FPTXHEAD_HEAD p = s.get F.ESW_FPTXTAIL_TAIL p) (n : Nat) :
    s.txRun p n = s := by
  cases n with
  | zero => rfl
  | succ n => exact if_pos h

theorem State.txTail_runs {s : State} {p : Nat} (v : Nat) (hruns : s.ringRuns p false = true) (hnet : s.domOn domNET = true) :
    s.txTail p v = (s.put F.ESW_FPTXTAIL_TAIL v p).txRun p (s.get F.ESW_FPTXSIZE_SIZE p) := by
  have hgo : ((s.put F.ESW_FPTXTAIL_TAIL v p).ringRuns p false && (s.put F.ESW_FPTXTAIL_TAIL v p).domOn domNET) = true := by
    rw [s.ringRuns_put_tail v, hruns]
    exact hnet
  unfold State.txTail
  dsimp only
  rw [if_pos hgo, State.get_put_tail_size]

/-- A ring that does not run, or has nothing to send, takes its TAIL and keeps its head. -/
theorem State.txTail_idle {s : State} {p v : Nat} (h : s.get F.ESW_FPTXHEAD_HEAD p = v % 1024 ∨ s.ringRuns p false = false) :
    s.txTail p v = s.put F.ESW_FPTXTAIL_TAIL v p := by
  unfold State.txTail
  dsimp only
  split
  · next hgo =>
    rw [Bool.and_eq_true, s.ringRuns_put_tail v] at hgo
    have hhead := h.resolve_right (by simp [hgo.1])
    exact State.txRun_of_empty (by rw [State.get_put_tail_head, State.get_put_tail, hhead]) _
  · rfl

theorem exec_txTailAdvance {s : State} {init : Init} {p : Nat} (v : Nat) (hp : p < 4) (hfab : s.domOn domFAB = true)
    (hon : s.blockOn 1 = true) (hmay : s.mayWrite init .ESW_FPTXTAIL p = true) :
    exec (.txTailAdvance init p v) s = s.ends (s.txTail p v) := by
  change execTxTailAdvance init p v s = _
  rw [execTxTailAdvance, if_pos hp, State.owned_of_mayWrite (r := .ESW_FPTXTAIL) 0 0 _ hfab hon hmay]

/-! ### A descriptor (R228) -/

/-- A descriptor of a frame too short or too long. -/
theorem State.txOne_of_badLength {s : State} {p d : Nat} (hlen : bitsOf (s.rd32 (d + 4)) 15 0 < 60 ∨ 1518 < bitsOf (s.rd32 (d + 4)) 15 0) :
    s.txOne p d = (s.bump F.ESW_PCNT_COUNT (11 + p) 0).descBack d 2 none none := by
  unfold State.txOne
  dsimp only
  rw [if_pos (by omega)]

theorem State.rd32_congr {s t : State} (h : t.mem = s.mem) (a : Nat) : t.rd32 a = s.rd32 a := by
  simp only [State.rd32, State.rd8_congr h]

/-- The ring goes on past the descriptor at HEAD, which the device owns. -/
theorem State.txRun_owned {s : State} {p d : Nat} (n : Nat) (hmore : s.get F.ESW_FPTXHEAD_HEAD p ≠ s.get F.ESW_FPTXTAIL_TAIL p)
    (hd : d = 32 * s.get F.ESW_FPTXBASE_BASE p + 32 * s.get F.ESW_FPTXHEAD_HEAD p) (hgood : s.badIn d 32 = none)
    (hown : bitsOf (s.rd32 (d + 4)) 31 31 = 1) :
    s.txRun p (n + 1) = ((s.txOne p d).put F.ESW_FPTXHEAD_HEAD
      ((s.get F.ESW_FPTXHEAD_HEAD p + 1) % max 1 (s.get F.ESW_FPTXSIZE_SIZE p)) p).txRun p n := by
  subst hd
  rw [State.txRun]
  dsimp only
  rw [if_neg hmore, hgood]
  dsimp only
  rw [if_neg (by rw [hown]; decide)]

/-- The descriptor at HEAD returned with RES 2 and its frame counted; HEAD moved on. -/
def State.txReturned (s : State) (p d h : Nat) : State :=
  ((s.bump F.ESW_PCNT_COUNT (11 + p) 0).descBack d 2 none none).put F.ESW_FPTXHEAD_HEAD h p

/-- A descriptor that is returned without a frame of its own is written in its second word alone. -/
theorem State.descBack_plain (s : State) (d res : Nat) :
    s.descBack d res none none = s.wr32 (d + 4) (setBits (setBits (s.rd32 (d + 4)) 31 31 0) 19 16 res) := rfl

section
variable (s : State) {p : Nat} (d h : Nat)

theorem State.txReturned_mem :
    (s.txReturned p d h).mem = (s.wr32 (d + 4) (setBits (setBits (s.rd32 (d + 4)) 31 31 0) 19 16 2)).mem := rfl

theorem State.txReturned_eth : (s.txReturned p d h).eth = s.eth := by
  rw [State.txReturned, State.put_eth, State.descBack_plain, State.wr32_eth, State.bump_eth]

/-- The returned descriptor changes no register but the counter of its port and HEAD. -/
theorem State.txReturned_sameAt {a : Nat} (hcnt : Reg.addr .ESW_PCNT (11 + p) 0 0 ≠ a) (hhead : Reg.addr .ESW_FPTXHEAD p 0 0 ≠ a) :
    s.sameAt (s.txReturned p d h) a := by
  have hback : ∀ t : State, t.sameAt (t.descBack d 2 none none) a := fun t => State.sameAt_of_regs (State.wr32_regs _ _ _) a
  exact ((s.sameAt_bump (f := F.ESW_PCNT_COUNT) hcnt).trans (hback _)).trans (State.sameAt_put (f := F.ESW_FPTXHEAD_HEAD) _ h hhead)

theorem State.txReturned_head : (s.txReturned p d h).get F.ESW_FPTXHEAD_HEAD p = h % 1024 :=
  State.get_put_same _ F.ESW_FPTXHEAD_HEAD h p 0 ⟨by decide, by decide⟩

theorem State.txReturned_tail (hp : p < 4) : (s.txReturned p d h).get F.ESW_FPTXTAIL_TAIL p = s.get F.ESW_FPTXTAIL_TAIL p :=
  State.sameAt.get (s.txReturned_sameAt d h (by simp only [F.ESW_FPTXTAIL_TAIL, Reg.addr, Reg.geom]; omega)
    (by simp only [F.ESW_FPTXTAIL_TAIL, Reg.addr, Reg.geom]; omega))

theorem State.txReturned_count (hp : p < 4) : (s.txReturned p d h).oneMore s F.ESW_PCNT_COUNT (11 + p) 0 := by
  have hback : ∀ t : State, (t.descBack d 2 none none).get F.ESW_PCNT_COUNT (11 + p) 0 = t.get F.ESW_PCNT_COUNT (11 + p) 0 := fun t =>
    State.sameAt.get (State.sameAt_of_regs (State.wr32_regs _ _ _) _)
  rw [State.oneMore, State.txReturned, State.get_put_elsewhere _ F.ESW_FPTXHEAD_HEAD F.ESW_PCNT_COUNT _ _ _ _ _ (by
    simp only [F.ESW_FPTXHEAD_HEAD, F.ESW_PCNT_COUNT, Reg.addr, Reg.geom]; omega), hback]
  exact s.get_bump_same F.ESW_PCNT_COUNT (11 + p) 0 ⟨by decide, by decide⟩

end

/-- A new TAIL one past the head of a ring whose descriptor there names a frame too short or too long. -/
theorem State.txTail_of_badLength {s : State} {p v d : Nat} (hp : p < 4) (hruns : s.ringRuns p false = true) (hnet : s.domOn domNET = true)
    (hv : v % 1024 = (s.get F.ESW_FPTXHEAD_HEAD p + 1) % s.get F.ESW_FPTXSIZE_SIZE p)
    (hd : d = 32 * s.get F.ESW_FPTXBASE_BASE p + 32 * s.get F.ESW_FPTXHEAD_HEAD p) (hgood : s.badIn d 32 = none)
    (hown : bitsOf (s.rd32 (d + 4)) 31 31 = 1)
    (hlen : bitsOf (s.rd32 (d + 4)) 15 0 < 60 ∨ 1518 < bitsOf (s.rd32 (d + 4)) 15 0) :
    s.txTail p v = (s.put F.ESW_FPTXTAIL_TAIL v p).txReturned p d (v % 1024) := by
  obtain ⟨hmin, -⟩ := State.size_of_ringRuns hruns
  obtain ⟨n, hn⟩ := Nat.exists_eq_add_of_lt (show 0 < s.get F.ESW_FPTXSIZE_SIZE p by omega)
  set u := s.put F.ESW_FPTXTAIL_TAIL v p
  have hmore : u.get F.ESW_FPTXHEAD_HEAD p ≠ u.get F.ESW_FPTXTAIL_TAIL p := by
    rw [State.get_put_tail_head, State.get_put_tail, hv]
    intro hsame
    generalize s.get F.ESW_FPTXHEAD_HEAD p = head at hsame
    rcases Nat.lt_or_ge (head + 1) (s.get F.ESW_FPTXSIZE_SIZE p) with hlt | hge
    · rw [Nat.mod_eq_of_lt hlt] at hsame
      omega
    · have hbelow := Nat.mod_lt (head + 1) (show s.get F.ESW_FPTXSIZE_SIZE p > 0 by omega)
      obtain hend : head + 1 = s.get F.ESW_FPTXSIZE_SIZE p := by omega
      rw [hend, Nat.mod_self] at hsame
      omega
  have hlost : u.get F.SYS_SRAMREP_LOST = s.get F.SYS_SRAMREP_LOST :=
    s.get_put_elsewhere F.ESW_FPTXTAIL_TAIL F.SYS_SRAMREP_LOST _ _ _ _ _ (by
      simp only [F.ESW_FPTXTAIL_TAIL, F.SYS_SRAMREP_LOST, Reg.addr, Reg.geom]; omega)
  have hgood' : u.badIn d 32 = none := by
    rw [← hgood]
    simp only [State.badIn, State.wordBad, State.lostBank, hlost]
    rfl
  have hnext : (u.get F.ESW_FPTXHEAD_HEAD p + 1) % max 1 (u.get F.ESW_FPTXSIZE_SIZE p) = v % 1024 := by
    rw [State.get_put_tail_head, State.get_put_tail_size, Nat.max_eq_right (by omega), hv]
  have hreturned : u.txRun p (0 + n + 1) = (u.txReturned p d (v % 1024)).txRun p (0 + n) := by
    rw [State.txRun_owned (0 + n) hmore (by rw [State.get_put_tail_base, State.get_put_tail_head, hd]) hgood' hown,
      State.txOne_of_badLength (s := u) hlen, hnext]
    rfl
  rw [State.txTail_runs v hruns hnet, hn, hreturned, State.txRun_of_empty]
  rw [State.txReturned_head, u.txReturned_tail _ _ hp, State.get_put_tail, Nat.mod_mod]

/-- What a new TAIL leaves once the descriptor before it is returned. -/
theorem State.putTail_txReturned_leaves (s : State) {p v d : Nat} (hp : p < 4) :
    let t := (s.put F.ESW_FPTXTAIL_TAIL v p).txReturned p d (v % 1024)
    t.rd32 (d + 4) = setBits (setBits (s.rd32 (d + 4)) 31 31 0) 19 16 2 ∧ t.memOutside s (d + 4) (d + 8) ∧
      t.get F.ESW_FPTXHEAD_HEAD p = v % 1024 ∧ t.get F.ESW_FPTXTAIL_TAIL p = v % 1024 ∧ t.oneMore s F.ESW_PCNT_COUNT (11 + p) 0 ∧
      t.eth = s.eth := by
  dsimp only
  set u := s.put F.ESW_FPTXTAIL_TAIL v p
  have hmem := u.txReturned_mem (p := p) d (v % 1024)
  have hcount : u.get F.ESW_PCNT_COUNT (11 + p) 0 = s.get F.ESW_PCNT_COUNT (11 + p) 0 :=
    s.get_put_elsewhere F.ESW_FPTXTAIL_TAIL F.ESW_PCNT_COUNT _ _ _ _ _ (by
      simp only [F.ESW_FPTXTAIL_TAIL, F.ESW_PCNT_COUNT, Reg.addr, Reg.geom]; omega)
  refine ⟨?_, fun a ha => ?_, ?_, ?_, ?_, State.txReturned_eth _ _ _⟩
  · rw [State.rd32_congr hmem, State.rd32_wr32_same]
    rfl
  · rw [State.rd8_congr hmem, State.rd8_wr32_outside _ _ _ _ (by omega)]
    rfl
  · rw [State.txReturned_head, Nat.mod_mod]
  · rw [u.txReturned_tail _ _ hp, State.get_put_tail]
  · rw [State.oneMore, ← hcount]
    exact u.txReturned_count d _ hp

/-! ### Ring bases (R228) -/

/-- What the switch keeps beside its registers leaves them as they are. -/
theorem State.setEth_get (s : State) (e : EthState) (f : Fld) (i j : Nat) : ({ s with eth := e } : State).get f i j = s.get f i j := rfl

/-- The register of a ring's base. -/
def ringBaseFld (rx : Bool) : Fld := if rx then F.ESW_FPRXBASE_BASE else F.ESW_FPTXBASE_BASE

/-- The number of a ring among those that a refused base has stopped. -/
def ringNo (p : Nat) (rx : Bool) : Nat := 2 * p + if rx then 1 else 0

theorem exec_ringBaseWrite {s : State} {init : Init} {p a : Nat} {rx : Bool} (hp : p < 4) (hfab : s.domOn domFAB = true)
    (hon : s.blockOn 1 = true) (hmay : s.mayWrite init (if rx then .ESW_FPRXBASE else .ESW_FPTXBASE) p = true) :
    exec (.ringBaseWrite init p rx a) s = s.ends (s.ringBase p rx a) := by
  change execRingBaseWrite init p rx a s = _
  rw [execRingBaseWrite, if_pos hp, State.owned_of_mayWrite 0 0 _ hfab (by cases rx <;> exact hon) hmay]

/-- A base in the partition's range is taken, and its ring is stopped no more. -/
theorem State.ringBase_taken (s : State) {p a : Nat} (rx : Bool) (hlo : (s.partRange p).1 ≤ a) (hhi : a < (s.partRange p).2)
    (ha : a < 2 ^ 32) :
    (s.ringBase p rx a).get (ringBaseFld rx) p = a / 32 ∧ (s.ringBase p rx a).eth.stopped.contains (ringNo p rx) = false := by
  have htaken : s.ringBase p rx a = { s.put (ringBaseFld rx) (a / 32) p with
      eth := { s.eth with stopped := s.eth.stopped.filter (fun x => x != ringNo p rx) } } := if_pos ⟨hlo, hhi⟩
  rw [htaken]
  constructor
  · refine (s.get_put_same (ringBaseFld rx) (a / 32) p 0 ?_).trans ?_
    · cases rx <;> exact ⟨by decide, by decide⟩
    · have hwidth : (ringBaseFld rx).hi + 1 - (ringBaseFld rx).lo = 27 := by cases rx <;> rfl
      rw [hwidth]
      exact Nat.mod_eq_of_lt (by omega)
  · simp [List.contains_eq_mem]

/-- A base outside the partition's range is counted, and its ring is stopped. -/
theorem State.ringBase_refused (s : State) {p a : Nat} (rx : Bool) (hp : p < 4) (hout : a < (s.partRange p).1 ∨ (s.partRange p).2 ≤ a) :
    (s.ringBase p rx a).get (ringBaseFld rx) p = s.get (ringBaseFld rx) p ∧ (s.ringBase p rx a).ringRuns p rx = false ∧
      (s.ringBase p rx a).oneMore s F.ERR_BLK0_ACCESS 1 := by
  have hrefused : s.ringBase p rx a = { s.accErr 1 with
      eth := { s.eth with stopped := s.eth.stopped.filter (fun x => x != ringNo p rx) ++ [ringNo p rx] } } :=
    if_neg (show ¬ ((s.partRange p).1 ≤ a ∧ a < (s.partRange p).2) by omega)
  refine ⟨?_, ?_, ?_⟩
  · have hbase : (ringBaseFld rx).reg.addr p 0 (ringBaseFld rx).word < 0x4010d100 := by
      cases rx <;> simp only [ringBaseFld, F.ESW_FPRXBASE_BASE, F.ESW_FPTXBASE_BASE, Bool.false_eq_true, if_false, if_true, Reg.addr,
        Reg.geom] <;> omega
    rw [hrefused, State.setEth_get, State.accErr, State.get, State.word_cum_ne, State.word_bump_ne, State.get]
    · refine (Nat.lt_of_lt_of_le hbase ?_).ne'
      decide
    · refine (Nat.lt_of_lt_of_le hbase ?_).ne'
      decide
  · have hstopped : (s.ringBase p rx a).eth.stopped.contains (ringNo p rx) = true := by simp [hrefused, List.contains_eq_mem]
    unfold State.ringRuns
    dsimp only
    rw [show (2 * p + if rx = true then 1 else 0) = ringNo p rx from rfl, hstopped]
    simp
  · rw [hrefused, State.oneMore, State.setEth_get]
    exact s.accErr_oneMore (by decide)

end Sys2Proof.Machine
end

section
/-! The forwarding table, the gate lists and the rings: each command's effect put together (R205, R207, R208, R212, R213, R228). -/

namespace Sys2Proof.Machine

theorem State.domNET_of_blockOn {s : State} (h : s.blockOn 1 = true) : s.domOn domNET = true := h

/-- Settles O14: a command on the table acts on its bucket once what was learnt there in its cycle is dropped; the counting of credits leaves
a port's gate list; a ring returns the descriptor at its head and stops where HEAD meets TAIL. -/
theorem switchTablesAndRingsComplete : Obligations.SwitchTablesAndRingsComplete := by
  unfold Obligations.SwitchTablesAndRingsComplete
  refine ⟨?read, ?write, ?lookUp, ?missing, ?delete, ?flush, ?ageing, ?change, ?swap, ?entryEnd, ?rxTail, ?idle, ?base, ?refused,
    ?dropped, ?run, ?returned⟩
  case read =>
    intro s init k hfab hon hmay hnone hk
    refine Answers.of_ends _ (exec_fdbReadIndex hfab hon hmay k) ?_
    simpa only [State.withPending_get, State.withPending_fdbKey, State.withPending_eth] using
      State.fdbRead_leaves hnone hk
  case write =>
    intro s init vid mac k hfab hon hmay hnone hkey hplace hvalid
    refine Answers.of_ends _ (exec_fdbWriteByKey hfab hon hmay) ?_
    simpa only [State.withPending_get, State.withPending_fdbAt] using
      State.fdbWrite_leaves hnone hkey _ hplace hvalid
  case lookUp =>
    intro s init vid mac k e hfab hon hmay hnone hkey hfind hat
    refine Answers.of_ends _ (exec_fdbLookUpKey hfab hon hmay) ?_
    simpa only [State.withPending_get, State.withPending_eth] using
      State.fdbLookUp_found_leaves hnone hkey _ hfind hat
  case missing =>
    intro s init vid mac hfab hon hmay hnone hkey hfind
    refine Answers.of_ends _ (exec_fdbLookUpKey hfab hon hmay) ?_
    simpa only [State.withPending_get, State.withPending_fdbKey, State.withPending_eth] using
      State.fdbLookUp_missing_leaves hnone hkey _ hfind
  case delete =>
    intro s init vid mac k hfab hon hmay hnone hkey hfind _
    refine Answers.of_ends _ (exec_fdbDeleteByKey hfab hon hmay) ?_
    simpa only [State.withPending_get, State.withPending_fdbAt] using
      State.fdbDelete_leaves hnone hkey _ hfind
  case flush =>
    intro s init hfab hon hmay
    exact Answers.of_ends s.fdbFlush (congrArg s.ends (State.owned_of_mayWrite (r := .ESW_AGE) 0 0 _ hfab hon hmay)) ⟨rfl, rfl⟩
  case ageing =>
    intro s k e hat hdynamic hold _
    exact Answers.of_ends _ (exec_entryAgeing hat hdynamic hold) ⟨State.fdbAt_setFdb_same s k none, rfl⟩
  case change =>
    intro s init p hp hfab hon hmay hidle
    obtain ⟨hchange, hport⟩ := State.gateChange_leaves hidle
    refine Answers.of_ends (s.gateChange p) ?_ ?_
    · change s.ends (if p < 11 then s.owned init .ESW_PTASCTL p 0 0 (fun t => t.gateChange p) else s) = _
      rw [if_pos hp, State.owned_of_mayWrite (r := .ESW_PTASCTL) 0 0 _ hfab hon hmay]
    · rw [State.withPending_eport, hport]
      exact ⟨hchange, rfl, rfl⟩
  case swap =>
    intro s p u hp hchange hat hdue
    obtain ⟨hbank, hdone, hnone⟩ := s.gateSwapped_leaves p (s.gateTaken p)
    obtain ⟨hidx, -, hgates, hkept⟩ := (s.gateSwapped p (s.gateTaken p)).gateEnter_leaves p 0 u (u + gateCycle s p)
    have honly := (s.gateSwapped p (s.gateTaken p)).portsOnly_gateEnter p 0 u (u + gateCycle s p)
    refine Answers.of_ends _ (exec_gateListSwitch hp hchange hat hdue) ?_
    simpa only [State.withPending_get, State.withPending_eport, State.withPending_gateEnt] using
      ⟨(honly.get _ _ _).trans hbank, (honly.get _ _ _).trans hdone, hkept.trans hnone, hidx, hgates⟩
  case entryEnd =>
    intro s p e hp hen hlen hvalid hdue hidx
    exact Answers.of_ends _ (exec_gateEntryEnd hp hen hlen hvalid hdue hidx) (s.gateNext_leaves p e (s.eport p).run)
  case rxTail =>
    intro s init p v hp hfab hon hmay
    refine Answers.of_ends (s.put F.ESW_FPRXTAIL_TAIL v p) ?_
      ⟨s.get_put_same F.ESW_FPRXTAIL_TAIL v p 0 ⟨by decide, by decide⟩, rfl⟩
    change s.ends (if p < 4 then s.owned init .ESW_FPRXTAIL p 0 0 (fun t => t.put F.ESW_FPRXTAIL_TAIL v p) else s) = _
    rw [if_pos hp, State.owned_of_mayWrite (r := .ESW_FPRXTAIL) 0 0 _ hfab hon hmay]
  case idle =>
    intro s init p v hp hfab hon hmay hidle
    refine Answers.of_ends _ (exec_txTailAdvance v hp hfab hon hmay) ?_
    rw [State.txTail_idle hidle]
    exact ⟨s.get_put_tail p v, s.get_put_tail_head p v, rfl⟩
  case base =>
    intro s init p a rx hp hfab hon hmay hlo hhi ha
    exact Answers.of_ends _ (exec_ringBaseWrite hp hfab hon hmay) (s.ringBase_taken rx hlo hhi ha)
  case refused =>
    intro s init p a rx hp hfab hon hmay hout
    exact Answers.of_ends _ (exec_ringBaseWrite hp hfab hon hmay) (s.ringBase_refused rx hp hout)
  case dropped =>
    intro s init vid mac x hfab hon hmay hkey hlearnt hnow hcount hbucket _
    refine Answers.of_ends _ (exec_fdbLookUpKey hfab hon hmay) ?_
    simpa only [State.withPending_fdbAt, State.withPending_eth] using
      State.fdbLookUp_drops _ hkey hlearnt hnow hcount hbucket
  case run =>
    intro s init p v hp hfab hon hmay hruns
    refine Answers.of_ends _ (exec_txTailAdvance v hp hfab hon hmay) ?_
    rw [State.txTail_runs v hruns (State.domNET_of_blockOn hon)]
    rfl
  case returned =>
    intro s init p v d len hp hfab hon hmay hruns hv hd hgood hown hlen hbad
    refine Answers.of_ends _ (exec_txTailAdvance v hp hfab hon hmay) ?_
    rw [State.txTail_of_badLength hp hruns (State.domNET_of_blockOn hon) hv hd hgood hown (by rw [hlen]; exact hbad)]
    have hleaves := s.putTail_txReturned_leaves (v := v) (d := d) hp
    generalize (s.put F.ESW_FPTXTAIL_TAIL v p).txReturned p d (v % 1024) = t at hleaves ⊢
    exact hleaves

end Sys2Proof.Machine
end

section
/-! Command fields: a write of one queues its request and leaves the registers alone (R253, R284, R358). -/

namespace Sys2Proof.Machine

/-- The state once one more request has left its core. -/
def State.requested (s : State) (q : ImmReq) : State := { s with sch := { s.sch with imm := s.sch.imm ++ [q] } }

/-- A command that puts a request under way answers with that request behind the others and the registers as they were. -/
theorem Answers.of_requested {c : Instr} {s : State} {q : ImmReq} (h : exec c s = s.ends (s.requested q)) :
    Answers c s (fun t => t.sch.imm = s.sch.imm ++ [q] ∧ t.regs = s.regs) :=
  .of_ends _ h ⟨rfl, rfl⟩

theorem State.immediate_requests {s : State} {x code lvl : Nat} {st l : Option Nat} (init : Init) (hcode : code ≠ 0)
    (hodd : s.oddMember x = false) (hact : cmdAction x code lvl = some (st, l)) :
    s.immediate init x code lvl = s.requested ⟨x, st, l, partOf init⟩ := by
  simp [State.immediate, State.requested, hcode, hodd, hact]

/-- Only half-bridges are members of pairs. -/
theorem State.oddMember_of_ge (s : State) {x : Nat} (h : 72 ≤ x) : s.oddMember x = false := by
  simp [State.oddMember, State.inPair, Nat.not_lt.mpr h]

theorem State.oddMember_of_lt (s : State) {x : Nat} (h : x < 64) : s.oddMember x = false := by
  simp [State.oddMember, State.inPair, Nat.not_le.mpr h]

/-- The CMD field of a word that holds a code alone. -/
theorem bitsOf_cmd_ofNat {code : Nat} (h : code < 8) : bitsOf (BitVec.ofNat 32 code) 2 0 = code := by
  interval_cases code <;> rfl

theorem State.pswCmd_requests {s : State} {init : Init} {x code : Nat} {st : Nat} (hx : isPower x = true ∧ x < 72)
    (hfab : s.domOn domFAB = true) (hon : s.blockOn 3 = true) (hmay : s.mayWrite init .PSW_CMD x = true)
    (hodd : s.oddMember x = false) (hcode : code ≠ 0 ∧ code < 8) (hact : cmdAction x code 0 = some (some st, none)) :
    s.pswCmd init x code = s.requested ⟨x, some st, none, partOf init⟩ := by
  rw [State.pswCmd, hx.1, decide_eq_true hx.2, Bool.and_self, if_pos rfl,
    State.owned_of_mayWrite (r := .PSW_CMD) 0 0 _ hfab hon hmay]
  change s.immediate init x (bitsOf (BitVec.ofNat 32 code) 2 0) 0 = _
  rw [bitsOf_cmd_ofNat hcode.2]
  exact State.immediate_requests init hcode.1 hodd hact

theorem State.vlvCmd_requests {s : State} {init : Init} {i code st : Nat} (hi : i < 24) (hfab : s.domOn domFAB = true)
    (hon : s.blockOn 4 = true) (hmay : s.mayWrite init .VLV_CMD i = true) (hcode : code ≠ 0 ∧ code < 3)
    (hact : cmdAction (80 + i) code 0 = some (some st, none)) :
    s.vlvCmd init i code = s.requested ⟨80 + i, some st, none, partOf init⟩ := by
  rw [State.vlvCmd, if_pos hi, State.owned_of_mayWrite (r := .VLV_CMD) 0 0 _ hfab hon hmay]
  change s.immediate init (80 + i) (if bitsOf (BitVec.ofNat 32 code) 2 0 = 3 then 4 else bitsOf (BitVec.ofNat 32 code) 2 0) 0 = _
  rw [bitsOf_cmd_ofNat (by omega), if_neg (by omega)]
  exact State.immediate_requests init hcode.1 (s.oddMember_of_ge (by omega)) hact

/-- The CMD and LEVEL fields of a word of LGT_CMD. -/
theorem bitsOf_lgtCmd {code lvl : Nat} (hc : code < 8) (hl : lvl < 65536) :
    bitsOf (BitVec.ofNat 32 (lvl * 65536 + code)) 2 0 = code ∧ bitsOf (BitVec.ofNat 32 (lvl * 65536 + code)) 31 16 = lvl := by
  simp only [bitsOf, BitVec.toNat_ofNat]
  omega

/-- The code of LGT_CMD as an action's: LEVEL is 4 there. -/
def ledCode (c : Nat) : Nat := if c = 4 then 3 else if c = 3 then 7 else c

theorem State.lgtCmd_requests {s : State} {init : Init} {m code lvl : Nat} {st l : Option Nat} (hm : isLed (m + 128) = true)
    (hfab : s.domOn domFAB = true) (hon : s.blockOn 5 = true) (hmay : s.mayWrite init .LGT_CMD m = true)
    (hcode : code ≠ 0 ∧ code < 8) (hact : cmdAction (m + 128) (ledCode code) (lvl % 65536) = some (st, l)) :
    s.lgtCmd init m code lvl = s.requested ⟨m + 128, st, l, partOf init⟩ := by
  have hne : ledCode code ≠ 0 := by unfold ledCode; split <;> [skip; split] <;> omega
  obtain ⟨hcmd, hlvl⟩ := bitsOf_lgtCmd hcode.2 (Nat.mod_lt lvl (by decide))
  rw [State.lgtCmd, if_pos hm, State.owned_of_mayWrite (r := .LGT_CMD) 0 0 _ hfab hon hmay]
  change s.immediate init (m + 128) (ledCode (bitsOf _ 2 0)) (bitsOf _ 31 16) = _
  rw [hcmd, hlvl]
  exact State.immediate_requests init hne (s.oddMember_of_ge (by omega)) hact

/-- LEVEL lights a channel of its own at a level; a matrix segment has none. -/
theorem cmdAction_level {m : Nat} (hm : isLed (m + 128) = true) (hmx : isMx m = false) (lvl : Nat) :
    cmdAction (m + 128) 3 lvl = some (none, some lvl) := by
  simp [cmdAction, hm, hmx]

/-- Settles O17: each write is followed through the ownership rule to the request that its code makes. -/
theorem requestsLeaveTheirCore : Obligations.RequestsLeaveTheirCore := by
  refine ⟨?on, ?off, ?low, ?valveOn, ?valveOff, ?ledOn, ?ledOff, ?level⟩
  case on =>
    intro s init x hx hfab hon hmay hodd
    exact .of_requested (congrArg s.ends (State.pswCmd_requests hx hfab hon hmay hodd (by decide) rfl))
  case off =>
    intro s init x hx hfab hon hmay hodd
    exact .of_requested (congrArg s.ends (State.pswCmd_requests hx hfab hon hmay hodd (by decide) rfl))
  case low =>
    intro s init x hx hfab hon hmay hodd
    have hpower : isPower x = true := by simp [isPower, hx]
    exact .of_requested (congrArg s.ends
      (State.pswCmd_requests ⟨hpower, hx.2⟩ hfab hon hmay hodd (by decide) (by simp [cmdAction, hx])))
  case valveOn =>
    intro s init i hi hfab hon hmay
    exact .of_requested (congrArg s.ends (State.vlvCmd_requests hi hfab hon hmay (by decide) rfl))
  case valveOff =>
    intro s init i hi hfab hon hmay
    exact .of_requested (congrArg s.ends (State.vlvCmd_requests hi hfab hon hmay (by decide) rfl))
  case ledOn =>
    intro s init m hm hfab hon hmay
    exact .of_requested (congrArg s.ends (State.lgtCmd_requests hm hfab hon hmay (by decide) rfl))
  case ledOff =>
    intro s init m hm hfab hon hmay
    exact .of_requested (congrArg s.ends (State.lgtCmd_requests hm hfab hon hmay (by decide) rfl))
  case level =>
    intro s init m lvl hm hmx hfab hon hmay
    exact .of_requested (congrArg s.ends (State.lgtCmd_requests hm hfab hon hmay (by decide) (cmdAction_level hm hmx _)))

end Sys2Proof.Machine
end

section
/-! A change of a high-side channel: what its edges, its drive and its protection leave of the registers and of the schedule plane
(R233, R281, R287, R649). -/

namespace Sys2Proof.Machine

/-! ### Edges -/

/-- An address that no edge of an action writes: it lies neither among the edge stamps nor in the block of the system's own registers. -/
def offEdges (a : Nat) : Prop := a < 0x40270000 ∨ 0x40280000 ≤ a ∧ a < 0x40F00000

/-- An edge stamp has eight words. -/
theorem stamp_length (stamp plan : Nat) (w3 : Word) (c : Prop) [Decidable c] :
    (t0Words stamp ++ [w3] ++ (if c then [0, 0, 0] else t0Words plan) ++ [0]).length = 8 := by
  split <;> rfl

section
variable {a : Nat} (ha : offEdges a)
include ha

theorem State.sameAt_stampEdge (s : State) {x : Nat} (hx : x < 292) (rise : Bool) (src plan defer : Nat) (lead : Bool) (shift : Int)
    (rule : Option Nat) : s.sameAt (s.stampEdge x rise src plan defer lead shift rule) a := by
  refine State.sameAt_deliver (r := .SCH_EDGE) s _ fun k hk => ?_
  have hk8 : k < 8 := by
    rw [stamp_length] at hk
    exact hk
  simp only [offEdges] at ha
  simp only [Reg.addr, Reg.geom]
  omega

theorem offEdges.cum_ne : Reg.addr .ERR_CUM 27 0 0 ≠ a := by
  have hcum : Reg.addr .ERR_CUM 27 0 0 = 0x40F0126C := rfl
  simp only [offEdges] at ha
  omega

theorem State.sameAt_notifyEdge (s : State) (x : Nat) (b : Act) : s.sameAt (s.notifyEdge x b) a := by
  unfold State.notifyEdge
  split
  · exact s.sameAt_eventTo _ _ _ _ _ _ ha.cum_ne
  · exact s.sameAt_rfl a

theorem State.sameAt_edge (s : State) {x : Nat} (hx : x < 292) (rise : Bool) (b : Act) (shift : Int) :
    s.sameAt (s.edge x rise b shift) a :=
  (s.sameAt_stampEdge ha hx rise b.src b.plan b.steps b.lead shift _).trans (State.sameAt_notifyEdge ha _ x b)

theorem State.sameAt_switchEdges (s : State) {x : Nat} (hx : x < 292) (old new : Nat) (b : Act) :
    s.sameAt (s.switchEdges x old new b) a := by
  unfold State.switchEdges
  split
  · exact s.sameAt_rfl a
  split
  · exact (s.sameAt_edge ha hx _ _ _).trans (State.sameAt_edge ha _ hx _ _ _)
  · exact s.sameAt_edge ha hx _ _ _

/-- The end of an in-service test that a turn-on brings (R649). -/
theorem State.sameAt_svcTurnOn (s : State) (x : Nat) : s.sameAt (s.svcTurnOn x) a := by
  unfold State.svcTurnOn
  split
  · next n _ _ =>
    have hne : Reg.addr .SYS_TEST n 0 0 ≠ a := by
      simp only [offEdges] at ha
      simp only [Reg.addr, Reg.geom]
      omega
    exact (State.sameAt_put (f := F.SYS_TEST_BUSY) _ 0 hne).trans (State.sameAt_put (f := F.SYS_TEST_RES) _ 4 hne)
  · exact s.sameAt_rfl a

end

@[simp] theorem State.edge_sch (s : State) (x : Nat) (rise : Bool) (b : Act) (shift : Int) : (s.edge x rise b shift).sch = s.sch := by
  have hstamp : ∀ rule, (s.stampEdge x rise b.src b.plan b.steps b.lead shift rule).sch = s.sch := by simp [State.stampEdge]
  unfold State.edge State.notifyEdge
  split
  · rw [State.eventTo_sch, hstamp]
  · exact hstamp _

@[simp] theorem State.switchEdges_sch (s : State) (x old new : Nat) (b : Act) : (s.switchEdges x old new b).sch = s.sch := by
  unfold State.switchEdges
  split
  · rfl
  split <;> simp

@[simp] theorem State.svcTurnOn_sch (s : State) (x : Nat) : (s.svcTurnOn x).sch = s.sch := by
  unfold State.svcTurnOn
  split <;> simp

/-! ### Kinds of target -/

section
variable {x : Nat} (hx : x < 60)
include hx

theorem isPower_of_lt : isPower x = true := by simp [isPower, hx]

theorem isValve_of_lt : isValve x = false := by simp only [isValve]; grind

theorem isLed_of_lt : isLed x = false := by simp only [isLed]; grind

theorem State.inPair_of_lt (s : State) : s.inPair x = false := by
  have h : ¬ 64 ≤ x := by omega
  simp [State.inPair, h]

theorem State.out_of_lt (s : State) : s.out x = s.get F.PSW_CMD_OUT x := by rw [State.out, if_pos (by omega)]

theorem State.und_of_lt (s : State) : s.und x = s.get F.PSW_CMD_UND x := by rw [State.und, if_pos (by omega)]

theorem State.stands_of_lt (s : State) (st : Nat) : s.stands x st = (s.out x == st) := by
  simp [State.stands, isValve_of_lt hx, s.inPair_of_lt hx, isLed_of_lt hx]

theorem addr_psw_cmd_offEdges : offEdges (Reg.addr .PSW_CMD x 0 0) := by
  simp only [offEdges, Reg.addr, Reg.geom]
  omega

end

/-! ### One channel driven -/

/-- What a change of high-side channel x to a state leaves: the output so, the underlying state as it was, of the schedule plane only
channels, what is known of terms and the trailing edges `ps` changed, and no word below the channels' own registers but edge stamps. -/
structure State.Driven (s t : State) (x st : Nat) (ps : List Pulse) : Prop where
  out : t.out x = st
  und : t.und x = s.und x
  sch : ∃ cs tr, t.sch = { s.sch with chans := cs, truth := tr, pulses := ps }
  words : ∀ a, offEdges a → a < 0x40300000 → s.sameAt t a

theorem State.termsSeen_sch (s : State) : ∃ tr, s.termsSeen.sch = { s.sch with truth := tr } := by
  unfold State.termsSeen
  split
  · exact ⟨_, rfl⟩
  · exact ⟨_, rfl⟩

theorem State.termsSeen_regs (s : State) : s.termsSeen.regs = s.regs := by
  unfold State.termsSeen
  split <;> rfl

@[simp] theorem State.sch_ite (c : Prop) [Decidable c] (t u : State) : (if c then t else u).sch = if c then t.sch else u.sch :=
  apply_ite State.sch c t u

theorem State.setOut_sch (s : State) (x v : Nat) : ∃ tr, (s.setOut x v).sch = { s.sch with truth := tr } := by
  obtain ⟨tr, h⟩ := (s.putOut x v).termsSeen_sch
  have hput : (s.putOut x v).sch = s.sch := by simp [State.putOut]
  exact ⟨tr, h.trans (by rw [hput])⟩

@[simp] theorem State.protFollow_sch (s : State) (x new : Nat) : (s.protFollow x new).sch = s.sch := by
  simp [State.protFollow, State.mirrorPair, State.setProt]

theorem State.Driven.of_out {s : State} {x st : Nat} (h : s.out x = st) : s.Driven s x st s.sch.pulses :=
  ⟨h, rfl, ⟨_, _, rfl⟩, fun a _ _ => s.sameAt_rfl a⟩

/-- A channel whose output has changed to a state at an instant. -/
def Chan.changed (c : Chan) (st u : Nat) : Chan :=
  if st = 0 then { c with offSince := some u } else { c with onSince := some u }

/-- A drive of a high-side channel that does not stand so yet: its edges, its output, the instant of the change, its protection state. -/
def State.driven (s : State) (x st : Nat) (a : Act) : State :=
  let u := (s.switchEdges x (s.out x) st a).setOut x st
  (u.setChan x ((u.chan x).changed st (s.effective x a.plan))).protFollow x st

theorem addr_psw_prot_ne_cmd (x y : Nat) : Reg.addr .PSW_PROT x 0 0 ≠ Reg.addr .PSW_CMD y 0 0 := by
  simp only [Reg.addr, Reg.geom]
  omega

section
variable {x : Nat} (hx : x < 60)
include hx

theorem State.drivePower_of_lt (s : State) (st : Nat) (a : Act) :
    s.drivePower x st a = if s.out x = st then s else s.driven x st a := by
  simp only [State.drivePower, s.inPair_of_lt hx, Bool.false_eq_true, if_false, State.driven, Chan.changed]
  split
  · rfl
  · split <;> rfl

theorem State.drive_of_lt (s : State) (st : Nat) (a : Act) :
    s.drive x st a = (if st = 0 then s else s.svcTurnOn x).drivePower x st a := by
  simp only [State.drive, isPower_of_lt hx, if_true, State.oddMember_of_lt _ (show x < 64 by omega), Bool.false_eq_true, if_false]

theorem State.setOut_regs (s : State) (v : Nat) : (s.setOut x v).regs = (s.put F.PSW_CMD_OUT v x).regs := by
  rw [State.setOut, State.termsSeen_regs, State.putOut, if_pos (by omega)]

theorem State.sameAt_protFollow (s : State) (new : Nat) {a : Nat} (ha : Reg.addr .PSW_PROT x 0 0 ≠ a) :
    s.sameAt (s.protFollow x new) a := by
  have hmirror : ∀ u : State, u.mirrorPair x = u := fun u => by simp [State.mirrorPair, u.inPair_of_lt hx]
  have hput := s.sameAt_put (f := F.PSW_PROT_STATE) (i := x) (followState (s.get F.PSW_PROT_STATE x) (new != 0)) ha
  unfold State.protFollow
  rw [hmirror]
  split
  · exact hput
  · exact hput

/-- After a drive an address holds what it holds after the edges with the output, the protection state apart. -/
theorem State.sameAt_put_driven (s : State) (st : Nat) (a : Act) {b : Nat} (hb : Reg.addr .PSW_PROT x 0 0 ≠ b) :
    ((s.switchEdges x (s.out x) st a).put F.PSW_CMD_OUT st x).sameAt (s.driven x st a) b := by
  have hout : ∀ c, ((s.switchEdges x (s.out x) st a).put F.PSW_CMD_OUT st x).sameAt
      (((s.switchEdges x (s.out x) st a).setOut x st).setChan x c) b := fun _ => State.sameAt_of_regs (State.setOut_regs hx _ st) b
  exact (hout _).trans (State.sameAt_protFollow hx _ st hb)

/-- A drive of a channel that does not stand so yet. -/
theorem State.driven_leaves (s : State) {st : Nat} (hst : st < 4) (a : Act) : s.Driven (s.driven x st a) x st s.sch.pulses where
  out := by
    rw [State.out_of_lt hx, (s.sameAt_put_driven hx st a (addr_psw_prot_ne_cmd x x)).get (f := F.PSW_CMD_OUT),
      State.get_put_same _ _ _ _ _ ⟨by decide, by decide⟩]
    exact Nat.mod_eq_of_lt hst
  und := by
    rw [State.und_of_lt hx, State.und_of_lt hx,
      (s.sameAt_put_driven hx st a (addr_psw_prot_ne_cmd x x)).get (f := F.PSW_CMD_UND),
      State.get_put_apart _ F.PSW_CMD_OUT F.PSW_CMD_UND _ _ _ ⟨by decide, by decide⟩ rfl rfl (by decide),
      (s.sameAt_switchEdges (addr_psw_cmd_offEdges hx) (by omega) _ st a).get (f := F.PSW_CMD_UND)]
  sch := by
    obtain ⟨tr, h⟩ := (s.switchEdges x (s.out x) st a).setOut_sch x st
    rw [State.switchEdges_sch] at h
    exact ⟨_, tr, by rw [State.driven, State.protFollow_sch, State.setChan, h]⟩
  words := by
    intro b hoff hlow
    have hcmd : Reg.addr .PSW_CMD x 0 0 ≠ b := by simp only [Reg.addr, Reg.geom]; omega
    have hprot : Reg.addr .PSW_PROT x 0 0 ≠ b := by simp only [Reg.addr, Reg.geom]; omega
    exact ((s.sameAt_switchEdges hoff (by omega) _ st a).trans (State.sameAt_put (f := F.PSW_CMD_OUT) _ st hcmd)).trans
      (s.sameAt_put_driven hx st a hprot)

/-- A drive of a high-side channel ends an in-service test where it turns on. -/
theorem State.drive_leaves (s : State) {st : Nat} (hst : st < 4) (a : Act) : s.Driven (s.drive x st a) x st s.sch.pulses := by
  have hpower : ∀ u : State, u.Driven (u.drivePower x st a) x st u.sch.pulses := by
    intro u
    rw [u.drivePower_of_lt hx]
    split
    · next h => exact State.Driven.of_out h
    · exact u.driven_leaves hx hst a
  rw [s.drive_of_lt hx]
  split
  · exact hpower s
  · obtain ⟨hout, hund, hsch, hwords⟩ := hpower (s.svcTurnOn x)
    refine ⟨hout, hund.trans ?_, ?_, fun b hoff hlow => (State.sameAt_svcTurnOn hoff s x).trans (hwords b hoff hlow)⟩
    · rw [State.und_of_lt hx, State.und_of_lt hx,
        (s.sameAt_svcTurnOn (addr_psw_cmd_offEdges hx) x).get (f := F.PSW_CMD_UND)]
    · rwa [State.svcTurnOn_sch] at hsch

/-- No diagnostic stretch delays a turn-on, nor a turn-off where none is planned (R301). -/
theorem State.change_leaves (s : State) {st : Nat} (hst : st < 4) (a : Act) (h : st ≠ 0 ∨ (s.diag x).planned = false) :
    s.Driven (s.change x st a) x st s.sch.pulses := by
  have hnone : s.stretches x st a = none := by
    rcases h with h | h <;> simp [State.stretches, h]
  rw [State.change, hnone]
  exact s.drive_leaves hx hst a

end

end Sys2Proof.Machine
end

section
/-! Actions on a high-side channel that nothing holds: what an action that reaches it leaves (R235, R236, R239, R242). -/

namespace Sys2Proof.Machine

/-! ### Execution -/

/-- A state with another schedule plane beside the registers. -/
def State.withSch (s : State) (v : SchState) : State := { s with sch := v }

/-- A trailing edge that is set out changes nothing else. -/
theorem State.trailing_eq (s : State) (x : Nat) (a : Act) : ∃ ps, s.trailing x a = s.withSch { s.sch with pulses := ps } := by
  unfold State.trailing State.trailFrom
  split
  · exact ⟨_, rfl⟩
  split
  · split
    · exact ⟨_, rfl⟩
    · exact ⟨_, rfl⟩
  · exact ⟨_, rfl⟩

theorem State.Driven.trailing {s t : State} {x st : Nat} {ps : List Pulse} (h : s.Driven t x st ps) (hx : x < 60) (a : Act) :
    ∃ qs, s.Driven (t.trailing x a) x st qs := by
  obtain ⟨qs, hqs⟩ := t.trailing_eq x a
  obtain ⟨hout, hund, ⟨cs, tr, hsch⟩, hwords⟩ := h
  rw [State.und_of_lt hx] at hund
  rw [hqs]
  exact ⟨qs, hout, (State.und_of_lt hx _).trans hund, ⟨cs, tr, by rw [State.withSch, hsch]⟩, hwords⟩

theorem State.countExec_psw (s : State) (a : Act) : (s.countExec a).psw = s.psw := by
  unfold State.countExec
  split <;> simp

theorem State.countExec_sch (s : State) (a : Act) : (s.countExec a).sch = s.sch := by
  unfold State.countExec
  split <;> simp

theorem State.diag_congr {s t : State} (h : t.psw = s.psw) (x : Nat) : t.diag x = s.diag x := by rw [State.diag, State.diag, h]

section
variable {x st : Nat} {a : Act} (hx : x < 60) (hst : st < 4)
include hx hst

theorem State.execute_leaves (s : State) (hstretch : st ≠ 0 ∨ (s.diag x).planned = false) :
    ∃ ps, (s.countExec a).Driven (s.execute x st a) x st ps :=
  (State.change_leaves hx _ hst a (by rwa [State.diag_congr (s.countExec_psw a)])).trailing hx a

/-- A request for a channel whose turn-on the postilion does not count. -/
theorem State.request_leaves (s : State) (hstretch : st ≠ 0 ∨ (s.diag x).planned = false) (hclass : s.inrush x a = 0)
    (hout : (s.countExec a).out x = s.out x) : ∃ ps, (s.countExec a).Driven (s.request x st a) x st ps := by
  have hcount : s.counted x st a = false := by simp [State.counted, hclass]
  rw [State.request, s.stands_of_lt hx, hcount]
  split
  · next hstands =>
    have hdriven := State.Driven.of_out (hout.trans (eq_of_beq hstands))
    split
    · exact hdriven.trailing hx a
    · exact ⟨_, hdriven⟩
  · exact s.execute_leaves hx hst hstretch

end

theorem le_addr_psw_cmd (x : Nat) : 0x40300000 ≤ Reg.addr .PSW_CMD x 0 0 := by
  simp only [Reg.addr, Reg.geom]
  omega

theorem addr_tcnt0_lt {q : Nat} (hq : q < 8) : Reg.addr .SCH_TCNT0 q 0 0 < 0x40270000 := by
  simp only [Reg.addr, Reg.geom]
  omega

/-- The executed actions of a table are counted away from the command word of every channel. -/
theorem State.sameAt_countExec (s : State) {a : Act} (hcount : a.src = 4 → a.table < 8) {b : Nat} (hb : 0x40300000 ≤ b) :
    s.sameAt (s.countExec a) b := by
  unfold State.countExec
  split
  · next hsrc =>
    have hlow := addr_tcnt0_lt (hcount hsrc)
    exact s.sameAt_bump (f := F.SCH_TCNT0_EXEC) (lt_of_lt_of_le (hlow.trans (by decide)) hb).ne
  · exact s.sameAt_rfl b

/-! ### Actions -/

/-- An action contends with none where no other was applied at its grid slot (R236). -/
theorem State.contend_alone {s : State} {x : Nat} {a : Act} (act : State → State)
    (h : (s.chan x).last.all (fun l => l.slot != a.plan) = true) : s.contend x a act = act s := by
  unfold State.contend
  split
  · next l hl =>
    rw [hl] at h
    rw [if_neg (by simpa using h)]
  · rfl

/-- The channels after one of them is set. -/
@[simp] theorem State.chan_setChan_same (s : State) (x : Nat) (c : Chan) : (s.setChan x c).chan x = c := Sparse.at_set_same _ _ _ _

/-- The channel that an action takes: its deferred turn-ons are gone, its underlying state is the action's. -/
def State.taken (s : State) (x st : Nat) : State :=
  let s0 := s.cancelDeferred x
  (s0.setChan x { s0.chan x with undSet := true, winSet := (s0.chan x).winSet || (s0.chan x).window.isSome }).setUnd x st

section
variable {x : Nat} (hx : x < 60)
include hx

theorem State.setUnd_of_lt (s : State) (v : Nat) : s.setUnd x v = s.put F.PSW_CMD_UND v x := by
  rw [State.setUnd, if_pos (by omega)]

theorem State.chan_setUnd (s : State) (v : Nat) : (s.setUnd x v).chan x = s.chan x := by
  rw [State.setUnd_of_lt hx, State.chan, State.chan, State.put_sch]

theorem State.towHolds_setUnd (s : State) (v : Nat) : (s.setUnd x v).towHolds x = s.towHolds x := by
  have hne : Reg.addr .PSW_CMD x 0 0 ≠ Reg.addr .PSW_WDSTAT 0 0 0 := by simp only [Reg.addr, Reg.geom]; omega
  rw [State.setUnd_of_lt hx, State.towHolds, State.towHolds, State.on, State.on,
    (s.sameAt_put (f := F.PSW_CMD_UND) v hne).get (f := F.PSW_WDSTAT_TOWACT)]

theorem State.heldFor_setUnd (s : State) (v src : Nat) : (s.setUnd x v).heldFor x src = s.heldFor x src := by
  simp only [State.heldFor, s.chan_setUnd hx v, s.towHolds_setUnd hx v]

theorem State.und_setUnd (s : State) {v : Nat} (hv : v < 4) : (s.setUnd x v).und x = v := by
  rw [State.und_of_lt hx, State.setUnd_of_lt hx, State.get_put_same _ _ _ _ _ ⟨by decide, by decide⟩]
  exact Nat.mod_eq_of_lt hv

theorem State.taken_sch (s : State) (st : Nat) :
    ∃ cs ds, (s.taken x st).sch = { s.sch with chans := cs, defer := ds } :=
  ⟨_, _, by rw [State.taken, State.setUnd_of_lt hx, State.put_sch]; rfl⟩

theorem State.taken_psw (s : State) (st : Nat) : (s.taken x st).psw = s.psw := by
  rw [State.taken, State.setUnd_of_lt hx, State.put_psw]
  rfl

theorem State.sameAt_taken (s : State) (st : Nat) {b : Nat} (hb : Reg.addr .PSW_CMD x 0 0 ≠ b) : s.sameAt (s.taken x st) b := by
  rw [State.taken, State.setUnd_of_lt hx]
  exact State.sameAt_put (f := F.PSW_CMD_UND) _ st hb

/-- No hold depends on the underlying state or on whether it is set. -/
theorem State.heldFor_taken (s : State) (st src : Nat) : (s.taken x st).heldFor x src = s.heldFor x src := by
  rw [State.taken, State.heldFor_setUnd hx]
  simp only [State.heldFor, State.chan_setChan_same]
  rfl

theorem State.inrush_taken (s : State) (st : Nat) (a : Act) : (s.taken x st).inrush x a = s.inrush x a := by
  have hne : Reg.addr .PSW_CMD x 0 0 ≠ Reg.addr .SCH_ICLS (x / 16) 0 0 := by simp only [Reg.addr, Reg.geom]; omega
  rw [State.inrush, State.inrush, (s.sameAt_taken hx st hne).get (f := F.SCH_ICLS_CLS)]

theorem State.apply_free {s : State} {a : Act} {st : Nat} (hst : a.st = some st) (hlvl : a.lvl = none)
    (hheld : s.heldFor x a.src = false) :
    s.apply x a = (s.cancelDeferred x).noteAct ((s.taken x st).request x st a) x a := by
  have hheld' := (s.heldFor_taken hx st a.src).trans hheld
  have htest : (s.taken x st).underTest x = false := by simp [State.underTest, isLed_of_lt hx]
  have hwin : (s.taken x st).winHit x a = s.taken x st := by simp [State.winHit, isLed_of_lt hx]
  rw [State.taken] at hheld' htest hwin
  simp only [State.apply, hst, hlvl, htest, hheld', hwin, Bool.false_eq_true, if_false]
  rfl

end

/-- What an action leaves on a high-side channel that follows it: output and underlying state so, the requests and the occurrences as
they stand, and a schedule action counted. -/
structure State.Obeyed (s t : State) (x st : Nat) (a : Act) : Prop where
  out : t.out x = st
  und : t.und x = st
  imm : t.sch.imm = s.sch.imm
  ents : t.sch.ents = s.sch.ents
  exec : a.src = 4 → t.oneMore s F.SCH_TCNT0_EXEC a.table

/-- The note of an action, for another of its grid slot, is no output. -/
theorem State.Obeyed.noteAct {s t : State} {x st : Nat} {a : Act} (h : s.Obeyed t x st a) (hx : x < 60) (s0 : State) :
    s.Obeyed (s0.noteAct t x a) x st a := by
  obtain ⟨hout, hund, himm, hents, hexec⟩ := h
  rw [State.und_of_lt hx] at hund
  exact ⟨hout, (State.und_of_lt hx _).trans hund, himm, hents, hexec⟩

section
variable {s : State} {x st : Nat} {a : Act} (hx : x < 60) (hst : st < 4) (hcount : a.src = 4 → a.table < 8)
  (hstretch : st ≠ 0 ∨ (s.diag x).planned = false) (hclass : s.inrush x a = 0)
include hx hst hcount hstretch hclass

/-- The request of an action for the channel that it has taken. -/
theorem State.request_taken : s.Obeyed ((s.taken x st).request x st a) x st a := by
  have hcmd : (s.taken x st).sameAt ((s.taken x st).countExec a) (Reg.addr .PSW_CMD x 0 0) :=
    State.sameAt_countExec _ hcount (le_addr_psw_cmd x)
  have hout : ((s.taken x st).countExec a).out x = (s.taken x st).out x := by
    rw [State.out_of_lt hx, State.out_of_lt hx, hcmd.get (f := F.PSW_CMD_OUT)]
  obtain ⟨ps, h⟩ := State.request_leaves hx hst _ (by rwa [State.diag_congr (s.taken_psw hx st)])
    ((s.inrush_taken hx st a).trans hclass) hout
  obtain ⟨cs, tr, hsch⟩ := h.sch
  obtain ⟨cs', ds, htaken⟩ := s.taken_sch hx st
  rw [State.countExec_sch, htaken] at hsch
  refine ⟨h.out, ?_, by rw [hsch], by rw [hsch], fun hsrc => ?_⟩
  · rw [h.und, State.und_of_lt hx, hcmd.get (f := F.PSW_CMD_UND), ← State.und_of_lt hx]
    exact State.und_setUnd hx _ hst
  · have hlow := addr_tcnt0_lt (hcount hsrc)
    have hne : Reg.addr .PSW_CMD x 0 0 ≠ Reg.addr .SCH_TCNT0 a.table 0 0 :=
      (lt_of_lt_of_le (hlow.trans (by decide)) (le_addr_psw_cmd x)).ne'
    rw [State.oneMore, (h.words _ (.inl hlow) (by omega)).get (f := F.SCH_TCNT0_EXEC), State.countExec, if_pos hsrc,
      State.get_bump_same _ _ _ _ ⟨by decide, by decide⟩, (s.sameAt_taken hx st hne).get (f := F.SCH_TCNT0_EXEC)]

/-- An action that reaches a channel free to follow it. -/
theorem State.actOn_leaves (hact : a.st = some st) (hlvl : a.lvl = none) (hheld : s.heldFor x a.src = false)
    (halone : (s.chan x).last.all (fun l => l.slot != a.plan) = true) : s.Obeyed (s.actOn x a) x st a := by
  rw [State.actOn, State.contend_alone _ halone, State.apply_free hx hact hlvl hheld]
  exact (State.request_taken hx hst hcount hstretch hclass).noteAct hx _

end

end Sys2Proof.Machine
end

section
/-! Requests, occurrences, trailing edges and deferred turn-ons that reach their targets (R235, R239, R242, R253, R264,
R630). -/

namespace Sys2Proof.Machine

@[simp] theorem State.withPending_out (t : State) (q : List Instr) (x : Nat) : (t.withPending q).out x = t.out x := rfl
@[simp] theorem State.withPending_und (t : State) (q : List Instr) (x : Nat) : (t.withPending q).und x = t.und x := rfl
@[simp] theorem State.withPending_entSt (t : State) (q : List Instr) (k b e : Nat) : (t.withPending q).entSt k b e = t.entSt k b e := rfl

/-! ### Requests (R253) -/

theorem exec_immediateRequestArrival {s : State} {x : Nat} {q : ImmReq} (hq : s.sch.imm.find? (fun q => q.x == x) = some q)
    (hclock : s.clocked = true) : exec (.immediateRequestArrival x) s =
      s.ends ((s.withSch { s.sch with imm := s.sch.imm.erase q }).actOn x (s.immAct x q.st q.lvl q.who none)) := by
  change execImmediateRequestArrival x s = _
  simp only [execImmediateRequestArrival, hclock, Bool.and_true, hq]
  rfl

/-! ### Occurrences (R239, R242, R630) -/

/-- ON for a channel that the table's owner owns. -/
theorem State.occur_on {s : State} {t b e x plan : Nat} (next : Option Nat) (hx : x < 60)
    (haction : s.get F.SCH_ENTRY_ACTION t (entJ b e) = 1) (htgt : s.entTgt t b e = .one x)
    (hown : s.whoOwns (s.ownerOf (.item 0x09 t)) x = true) :
    s.occur t b e plan next = s.actOn x (s.entAct t b e plan next (gridOf x) (some 1) none) := by
  have htarget : s.accepts x 1 = true := by
    simp [State.accepts, isTarget, isPower_of_lt hx, s.oddMember_of_lt (x := x) (by omega)]
  simp [State.occur, State.actTgt, haction, htgt, hown, htarget, actionState, Tgt.grid]

/-- The state once the next occurrence of an entry is taken. -/
def State.occurrenceTaken (s : State) (t b e : Nat) : State := s.setEntSt t b e { s.entSt t b e with k := (s.entSt t b e).k + 1 }

theorem exec_scheduleOccurrence {s : State} {q e b plan : Nat} (unc : Bool) (hruns : s.planeRuns = true) (hq : q < 8) (he : e < 512)
    (hbank : s.actBank q = b) (hhanded : (s.entSt q b e).handed = []) (hnext : s.entNext q b e = some plan)
    (hrun : s.get F.SCH_TCTL_RUN q = 1) (hdue : plan ≤ s.now) : exec (.scheduleOccurrence q e unc) s =
      s.ends (if unc then s.entLost q b e else (s.occurrenceTaken q b e).occur q b e plan (s.entAfter q b e)) := by
  subst hbank
  change execScheduleOccurrence q e unc s = _
  simp [execScheduleOccurrence, State.occurrenceTaken, hruns, Nat.not_le.mpr hq, Nat.not_le.mpr he, hhanded, hnext, State.on, hrun, hdue]

@[simp] theorem State.entSt_setEntSt_same (s : State) (t b e : Nat) (v : EntSt) : (s.setEntSt t b e v).entSt t b e = v :=
  Sparse.at_set_same _ _ _ _

theorem State.entSt_congr {s t : State} (h : t.sch.ents = s.sch.ents) (k b e : Nat) : t.entSt k b e = s.entSt k b e := by
  rw [State.entSt, State.entSt, h]

@[simp] theorem State.ramLost_sch (s : State) (k row a : Nat) : (s.ramLost k row a).sch = s.sch := by
  simp [State.ramLost, State.eccBlock]

@[simp] theorem State.markBad_sch (s : State) (a : Nat) : (s.markBad a).sch = s.sch := by
  unfold State.markBad
  dsimp only
  split <;> rfl

theorem State.markBad_regs (s : State) (a : Nat) : (s.markBad a).regs = s.regs := by
  unfold State.markBad
  dsimp only
  split <;> rfl

/-- The loss of a word of the schedule block's RAM counts in its uncorrectable errors. -/
theorem State.ramLost_counts (s : State) (row a : Nat) : (s.ramLost 2 row a).oneMore s F.ERR_BLK2_UNCORR 2 := by
  rw [State.ramLost, State.oneMore, State.get, State.word_logEntry_ne _ _ _ _ _ _ _ _ _ _ (by decide) (by decide)]
  exact State.oneMore_bump_cum s F.ERR_BLK2_UNCORR 2 2 ⟨by decide, by decide⟩ (by decide)

/-- Nothing below the block of the system's own registers counts it. -/
theorem State.word_ramLost_below (s : State) (row a : Nat) {r : Reg} {i j w : Nat} (h : r.addr i j w < 0x40F00000) :
    (s.ramLost 2 row a).word r i j w = s.word r i j w := by
  have hne : ∀ {q : Reg} {k : Nat}, 0x40F00000 ≤ q.addr k 0 0 → q.addr k 0 0 ≠ r.addr i j w := fun hq => (lt_of_lt_of_le h hq).ne'
  rw [State.ramLost, State.word_logEntry_ne _ _ _ _ _ _ _ _ _ _ (hne (by decide)) (hne (by decide))]
  exact (State.word_cum_ne _ 2 _ _ _ _ (hne (by decide))).trans (State.word_bump_ne s F.ERR_BLK2_UNCORR 2 0 _ _ _ _ (hne (by decide)))

/-- The read of an entry that finds an uncorrectable word. -/
theorem State.entLost_leaves (s : State) {q : Nat} (b e : Nat) (hq : q < 8) :
    ((s.entLost q b e).entSt q b e).bad = true ∧ ((s.entLost q b e).entSt q b e).k = (s.entSt q b e).k ∧
      (s.entLost q b e).oneMore s F.SCH_TCNT1_BADENT q ∧ (s.entLost q b e).oneMore s F.ERR_BLK2_UNCORR 2 ∧
      (s.entLost q b e).sch.chans = s.sch.chans := by
  have hlow : Reg.addr .SCH_TCNT1 q 0 0 < 0x40F00000 := by simp only [Reg.addr, Reg.geom]; omega
  have hmark : ∀ a f i j, (s.markBad a).get f i j = s.get f i j := fun a _ _ _ =>
    (State.sameAt_of_regs (s.markBad_regs a) _).get
  have hent : (s.entLost q b e).entSt q b e = { s.entSt q b e with bad := true } := by
    rw [State.entLost, State.entSt_congr (congrArg SchState.ents (State.bump_sch _ _ _ _))]
    exact State.entSt_setEntSt_same _ _ _ _ _
  refine ⟨by rw [hent], by rw [hent], ?_, ?_, ?_⟩
  · rw [State.oneMore, State.entLost, State.get_bump_same _ _ _ _ ⟨by decide, by decide⟩, ← hmark (Reg.SCH_ENTRY.addr q (entJ b e) 0)]
    exact congrArg (fun w => min F.SCH_TCNT1_BADENT.top (bitsOf w 7 0 + 1)) (State.word_ramLost_below _ 8 _ hlow)
  · rw [State.oneMore, State.entLost,
      (State.sameAt_bump _ (f := F.SCH_TCNT1_BADENT) (lt_of_lt_of_le hlow (by decide)).ne).get (f := F.ERR_BLK2_UNCORR),
      ← hmark (Reg.SCH_ENTRY.addr q (entJ b e) 0)]
    exact State.ramLost_counts _ 8 _
  · simp [State.entLost, State.setEntSt]

/-! ### Trailing edges (R242) -/

/-- The action of a trailing edge. -/
def Pulse.trail (p : Pulse) : Act := { p.act with st := some 0, plan := p.due, steps := 0 }

/-- What a trailing edge that no other action meets does: off the underlying state, and the output unless it is held or off already. -/
def State.trailed (s : State) (x : Nat) (a : Act) : State :=
  let t := s.setUnd x 0
  s.noteAct (if t.heldFor x a.src || t.stands x 0 then t else t.change x 0 a) x a

theorem exec_pulseTrailingEdge {s : State} {x : Nat} {p : Pulse}
    (hp : s.sch.pulses.find? (fun p => p.x == x && decide (p.due ≤ s.now)) = some p) (hclock : s.clocked = true)
    (hclaim : p.claim = none) (halone : (s.chan x).last.all (fun l => l.slot != p.due) = true) : exec (.pulseTrailingEdge x) s =
      s.ends ((s.withSch { s.sch with pulses := s.sch.pulses.erase p }).trailed x p.trail) := by
  change execPulseTrailingEdge x s = _
  simp only [execPulseTrailingEdge, hclock, Bool.and_true, hp, hclaim]
  rw [State.contend_alone _ halone]
  rfl

theorem State.trailed_leaves {s : State} {x : Nat} {a : Act} (hx : x < 60) (hheld : s.heldFor x a.src = false)
    (hstretch : (s.diag x).planned = false) :
    (s.trailed x a).und x = 0 ∧ (s.trailed x a).out x = 0 ∧ (s.trailed x a).sch.pulses = s.sch.pulses := by
  have hpsw : (s.setUnd x 0).psw = s.psw := by rw [State.setUnd_of_lt hx, State.put_psw]
  have hsch : (s.setUnd x 0).sch = s.sch := by rw [State.setUnd_of_lt hx, State.put_sch]
  have hdriven : (s.setUnd x 0).Driven (if (s.setUnd x 0).stands x 0 then s.setUnd x 0 else (s.setUnd x 0).change x 0 a) x 0
      (s.setUnd x 0).sch.pulses := by
    split
    · next hstands => exact State.Driven.of_out (eq_of_beq ((State.stands_of_lt hx _ 0).symm.trans hstands))
    · exact State.change_leaves hx _ (by decide) a (.inr (by rwa [State.diag_congr hpsw]))
  obtain ⟨hout, hund, ⟨cs, tr, hkept⟩, -⟩ := hdriven
  rw [State.und_setUnd hx _ (by decide), State.und_of_lt hx] at hund
  simp only [State.trailed, State.heldFor_setUnd hx, hheld, Bool.false_or]
  exact ⟨(State.und_of_lt hx _).trans hund, hout, (congrArg SchState.pulses hkept).trans (by rw [hsch])⟩

/-! ### Deferred turn-ons (R264, R266) -/

theorem exec_deferredTurnOnDue {s : State} {x : Nat} {d : Deferral}
    (hd : s.sch.defer.find? (fun d => d.x == x && decide (d.due ≤ s.now)) = some d) (hclock : s.clocked = true)
    (hheld : s.heldFor x d.act.src = false) : exec (.deferredTurnOnDue x) s =
      s.ends ((s.withSch { s.sch with defer := s.sch.defer.erase d }).postilion x (d.act.st.getD 1) d.act) := by
  have hheld' : (s.withSch { s.sch with defer := s.sch.defer.erase d }).heldFor x d.act.src = false := hheld
  change execDeferredTurnOnDue x s = _
  simp only [execDeferredTurnOnDue, hclock, Bool.true_or, Bool.and_true, hd]
  rw [State.withSch] at hheld'
  simp only [hheld', Bool.false_eq_true, false_and, if_false]
  rfl

/-- A turn-on that fits its budget turns its channel on and defers nothing. -/
theorem State.postilion_fits {s : State} {x st : Nat} {a : Act} (hx : x < 60) (hst : st < 4) (hon : st ≠ 0)
    (hfits : s.fits (tabGroup x) (s.weight x (s.inrush x a)) a.key = true) :
    (s.postilion x st a).out x = st ∧ (s.postilion x st a).sch.defer = s.sch.defer := by
  rw [State.postilion, if_pos (.inr hfits)]
  obtain ⟨ps, h⟩ := State.execute_leaves (a := a) hx hst (s.recordWeight (tabGroup x) (s.weight x (s.inrush x a)) a.key) (.inl hon)
  obtain ⟨cs, tr, hsch⟩ := h.sch
  refine ⟨h.out, ?_⟩
  rw [hsch, State.countExec_sch]
  rfl

end Sys2Proof.Machine
end

section
/-! Commits: what leaves a core, what a discard drops, and a commit that arrives with one register staged (R256, R257, R260). -/

namespace Sys2Proof.Machine

/-! ### Writes of a commit register -/

theorem groupOk_iff (block g : Nat) : groupOk block g = true ↔ (block = 3 ∨ block = 4 ∨ block = 5) ∧ g ≤ 32 := by
  simp [groupOk, or_assoc]

theorem gctlReg_block {block : Nat} (hb : block = 3 ∨ block = 4 ∨ block = 5) (g : Nat) : (gctlReg block g).block = block := by
  unfold gctlReg
  generalize decide (g < 32) = low
  rcases hb with rfl | rfl | rfl <;> cases low <;> rfl

/-- A write of a commit register by one who may write it: the group's owner, or any partition in the all-channel page (R51, R260). -/
theorem State.gctlBy_allowed {s : State} {init : Init} {block g n : Nat} (v : Word) (hgroup : groupOk block g = true)
    (hfab : s.domOn domFAB = true) (hon : s.blockOn block = true) (hmay : g < 32 → s.mayWrite init (gctlReg block g) g = true)
    (hpart : 32 ≤ g → init = .part n) : s.gctlBy init block g v = s.gctlWrite init block g v := by
  obtain ⟨hb, -⟩ := (groupOk_iff block g).mp hgroup
  rw [State.gctlBy, hgroup]
  by_cases hg : g < 32
  · rw [if_neg (by decide), if_pos hg, State.owned_of_mayWrite _ _ _ hfab (by rwa [gctlReg_block hb]) (hmay hg)]
  · rw [if_neg (by decide), if_neg hg, hpart (Nat.le_of_not_lt hg)]
    simp [State.reaching, State.reachable, hfab, hon]

/-- COMMIT alone. -/
theorem State.gctlWrite_commit (s : State) (init : Init) (block g : Nat) : s.gctlWrite init block g 0x80000000 =
    s.withSch { s.sch with commits := s.sch.commits ++ [⟨block, g, some (writerNo init)⟩] } := rfl

/-! ### Stagings that end -/

/-- The stagings that stay when those of a group end, in the all-channel page those of one writer. -/
def State.stagedApart (s : State) (block g who : Nat) : List StagedFld :=
  s.sch.staged.filter (fun f => !(f.block == block && f.group == g && (decide (g < 32) || f.who == who)))

/-- The state once they have ended and PEND shows it. -/
def State.unstaged (s : State) (block g who : Nat) : State :=
  (s.withSch { s.sch with staged := s.stagedApart block g who }).putPend block g

/-- DISCARD alone. -/
theorem State.gctlWrite_discard (s : State) (init : Init) (block g : Nat) :
    s.gctlWrite init block g 0x40000000 = s.unstaged block g (writerNo init) := rfl

theorem State.unstaged_sch (s : State) (block g who : Nat) :
    (s.unstaged block g who).sch = { s.sch with staged := s.stagedApart block g who } := State.putPend_sch _ _ _

theorem State.get_pend_unstaged (s : State) (block who : Nat) {g : Nat} (hg : g < 32) :
    (s.unstaged block g who).get (pendFld block g) g = 0 := by
  have hnone : (s.withSch { s.sch with staged := s.stagedApart block g who }).groupStaged block g = false := by
    refine List.any_eq_false.mpr fun f hf => ?_
    have hkept := (List.mem_filter.mp hf).2
    simpa [hg, imp_iff_not_or] using hkept
  rw [State.unstaged, State.get_putPend _ _ hg, hnone]
  rfl

/-! ### A commit that arrives (R257, R259) -/

theorem memberTarget_psw {m : Nat} (h : isPower m = true) : memberTarget 3 m = some m := by simp [memberTarget, h]

theorem nodup_memberBits (block : Nat) : (memberBits block).Nodup := List.nodup_range.filter _

theorem mem_memberBits_psw {m : Nat} (h : isPower m = true) : m ∈ memberBits 3 := by
  have hlt : m < 164 := by
    simp only [isPower, Bool.or_eq_true, Bool.and_eq_true, decide_eq_true_eq] at h
    omega
  simp [memberBits, memberTarget_psw h, hlt]

/-- A list without repetition meets one staged field once, at its member. -/
theorem flatMap_filter_single {l : List Nat} (hl : l.Nodup) {f : StagedFld} (hf : f.i ∈ l) :
    l.flatMap (fun m => [f].filter (fun f => f.i == m)) = [f] := by
  have hmap : ∀ l : List Nat, l.flatMap (fun m => [f].filter (fun f => f.i == m)) = (l.filter (· == f.i)).map (fun _ => f) := by
    intro l
    induction l with
    | nil => rfl
    | cons m ms ih =>
      rw [List.flatMap_cons, ih]
      by_cases h : f.i = m
      · simp [h]
      · simp [h, Ne.symm h]
  rw [hmap, List.filter_beq, List.count_eq_one_of_mem hl hf]
  rfl

/-- What a commit takes out of a group's page with one field staged there. -/
theorem State.unstage_single {s : State} {g who : Nat} {f : StagedFld} (hg : g < 32)
    (hf : s.sch.staged.filter (fun f => f.block == 3 && f.group == g) = [f]) (hpower : isPower f.i = true) :
    s.unstage 3 g who = (s.unstaged 3 g who, [f]) := by
  have hstaged : s.sch.staged.filter (fun f => f.block == 3 && f.group == g && (decide (g < 32) || f.who == who)) = [f] := by
    simpa [hg] using hf
  rw [State.unstage, hstaged, flatMap_filter_single (nodup_memberBits 3) (mem_memberBits_psw hpower)]
  rfl

/-- A staged configuration register of a power channel takes its value, as the access codes of its fields have it (R14). -/
theorem State.commitOne_cfg {s : State} {f : StagedFld} (act : Nat → Option Nat → Option Nat → Act) (hblock : f.block = 3)
    (hreg : f.reg = .PSW_CFG) (hpower : isPower f.i = true) (hfirst : s.writeYields f (act f.i none none).plan = false) :
    s.commitOne f act = (s.noteWrite f (act f.i none none).plan).setWord .PSW_CFG f.i 0 0 (s.written .PSW_CFG f.i 0 0 f.val) := by
  simp only [State.commitOne, hblock, memberTarget_psw hpower, hreg, hfirst, Bool.false_eq_true, if_false, if_true]
  rfl

/-- What a commit leaves of a group with one configuration register of a power channel staged. -/
theorem State.commit_cfg {s : State} {g who : Nat} {f : StagedFld} (act : Nat → Option Nat → Option Nat → Act) (hg : g < 32)
    (hf : s.sch.staged.filter (fun f => f.block == 3 && f.group == g) = [f]) (hreg : f.reg = .PSW_CFG) (hpower : isPower f.i = true)
    (hfirst : s.writeYields f (act f.i none none).plan = false) :
    (s.commit 3 g who act).sch.commits = s.sch.commits ∧ (s.commit 3 g who act).sch.staged = s.stagedApart 3 g who ∧
      (s.commit 3 g who act).get F.PSW_GCTL_PEND g = 0 ∧
      (s.commit 3 g who act).word .PSW_CFG f.i 0 0 = s.written .PSW_CFG f.i 0 0 f.val := by
  have hblock : f.block = 3 := by
    have hmem : f ∈ s.sch.staged.filter (fun f => f.block == 3 && f.group == g) := by rw [hf]; exact List.mem_singleton_self f
    have hpage := (List.mem_filter.mp hmem).2
    simp only [Bool.and_eq_true, beq_iff_eq] at hpage
    exact hpage.1
  have hlt : f.i < 72 := by
    simp only [isPower, Bool.or_eq_true, Bool.and_eq_true, decide_eq_true_eq] at hpower
    omega
  have hpend : pendFld 3 g = F.PSW_GCTL_PEND := by simp [pendFld, hg]
  have hne : Reg.addr .PSW_GCTL g 0 0 ≠ Reg.addr .PSW_CFG f.i 0 0 := by simp only [Reg.addr, Reg.geom]; omega
  have hyields : (s.unstaged 3 g who).writeYields f (act f.i none none).plan = false := by
    rwa [State.writeYields, State.unstaged_sch]
  have hsch := s.unstaged_sch 3 g who
  rw [State.commit, State.unstage_single hg hf hpower, List.foldl_cons, List.foldl_nil, State.commitOne_cfg act hblock hreg hpower hyields]
  refine ⟨(congrArg SchState.commits hsch).trans rfl, (congrArg SchState.staged hsch).trans rfl, ?_, ?_⟩
  · rw [(State.sameAt_setWord _ _ hne.symm).get (f := F.PSW_GCTL_PEND), ← hpend]
    exact s.get_pend_unstaged 3 who hg
  · rw [State.word_setWord_same, State.unstaged, State.putPend, if_pos hg, hpend]
    exact State.written_setWord_ne _ .PSW_GCTL _ _ _ _ _ _ _ _ _ hne

theorem exec_commitArrival {s : State} {block g : Nat} {q : CommitReq}
    (hq : s.sch.commits.find? (fun q => q.block == block && q.group == g) = some q) (hclock : s.clocked = true) :
    exec (.commitArrival block g) s =
      s.ends ((s.withSch { s.sch with commits := s.sch.commits.erase q }).commit block g (q.who.getD 7) (fun x st lvl =>
        s.immAct x st lvl (if q.who.getD 7 < 4 then some (q.who.getD 7) else none) (some g))) := by
  change execCommitArrival block g s = _
  simp only [execCommitArrival, hclock, Bool.and_true, hq]
  rfl

/-! ### The statement -/

/-- Settles O18: an action meets no other at its grid slot and no hold, so that it drives its channel, and the drive touches neither the
requests, the trailing edges and the occurrences that stand nor the counters of the tables; a commit's register lies apart from
its group's PEND. -/
theorem actionsReachTheirTargets : Obligations.ActionsReachTheirTargets := by
  refine ⟨?request, ?occurrence, ?trailing, ?deferred, ?commit, ?committing, ?discard, ?lost⟩
  case request =>
    intro s x v q hq hclock hx hst hlvl hv halone hheld hclass hplanned
    have hobeyed : (s.withSch { s.sch with imm := s.sch.imm.erase q }).Obeyed _ x v _ :=
      State.actOn_leaves (a := s.immAct x q.st q.lvl q.who none) hx (by omega) (fun h : 5 = 4 => absurd h (by decide)) (.inr hplanned)
        (by rw [hst, hlvl]; exact hclass) hst hlvl hheld ?_
    · exact .of_ends _ (exec_immediateRequestArrival hq hclock) ⟨hobeyed.und, hobeyed.out, hobeyed.imm⟩
    · rw [State.immAct, gridOf, if_pos (by omega)]
      exact halone
  case occurrence =>
    intro s q e b x plan hruns hq he hbank hhanded hnext hrun hdue haction htgt hx hown halone hheld hclass
    have hobeyed : (s.occurrenceTaken q b e).Obeyed _ x 1 _ :=
      State.actOn_leaves (a := (s.occurrenceTaken q b e).entAct q b e plan (s.entAfter q b e) (gridOf x) (some 1) none) hx
        (by decide) (fun _ => hq) (.inl (by decide)) hclass rfl rfl hheld halone
    refine .of_ends _ (exec_scheduleOccurrence false hruns hq he hbank hhanded hnext hrun hdue) ?_
    rw [if_neg (by decide), State.occur_on (s := s.occurrenceTaken q b e) _ hx haction htgt hown]
    refine ⟨hobeyed.und, hobeyed.out, ?_, hobeyed.exec rfl⟩
    rw [State.withPending_entSt, State.entSt_congr hobeyed.ents, State.occurrenceTaken, State.entSt_setEntSt_same]
  case trailing =>
    intro s x p hp hclock hclaim halone hx hheld hplanned
    exact .of_ends _ (exec_pulseTrailingEdge hp hclock hclaim halone)
      (State.trailed_leaves (s := s.withSch { s.sch with pulses := s.sch.pulses.erase p }) hx hheld hplanned)
  case deferred =>
    intro s x d hd hclock hx hst hheld hfits
    refine .of_ends _ (exec_deferredTurnOnDue hd hclock hheld) ?_
    rw [hst]
    exact State.postilion_fits (s := s.withSch { s.sch with defer := s.sch.defer.erase d }) hx (by decide) (by decide) hfits
  case commit =>
    intro s g q f hq hclock hg hf hreg hpower hfirst
    obtain ⟨hcommits, hstaged, hpend, hword⟩ := State.commit_cfg
      (s := s.withSch { s.sch with commits := s.sch.commits.erase q }) (who := q.who.getD 7)
      (fun x st lvl => s.immAct x st lvl (if q.who.getD 7 < 4 then some (q.who.getD 7) else none) (some g)) hg hf hreg hpower hfirst
    refine .of_ends _ (exec_commitArrival hq hclock) ⟨hcommits, hstaged.trans ?_, hpend, hword⟩
    simp [State.stagedApart, State.withSch, hg]
  case committing =>
    intro s init block g n hgroup hfab hon hmay hpart
    exact .of_ends _ (congrArg s.ends ((State.gctlBy_allowed _ hgroup hfab hon hmay hpart).trans (s.gctlWrite_commit init block g)))
      ⟨rfl, rfl⟩
  case discard =>
    intro s init block g n hgroup hfab hon hmay hpart
    have hsch := s.unstaged_sch block g (writerNo init)
    exact .of_ends _ (congrArg s.ends ((State.gctlBy_allowed _ hgroup hfab hon hmay hpart).trans (s.gctlWrite_discard init block g)))
      ⟨congrArg SchState.staged hsch, (congrArg SchState.commits hsch).trans rfl, s.get_pend_unstaged block (writerNo init)⟩
  case lost =>
    intro s q e b plan hruns hq he hbank hhanded hnext hrun hdue
    exact .of_ends (s.entLost q b e) (exec_scheduleOccurrence true hruns hq he hbank hhanded hnext hrun hdue) (s.entLost_leaves b e hq)

end Sys2Proof.Machine
end

section
/-! A rule that reads as uncorrectable (R270, R630): a state outside every run whose release of the rule's claims overwrites the count
that the loss has just made. -/

namespace Sys2Proof.Machine

/-- What a command answers holds of the one state that it ends in. -/
theorem Answers.of_ends_eq {c : Instr} {s u : State} {P : State → Prop} (h : Answers c s P) (he : exec c s = s.ends u) :
    P (u.withPending s.pending) := by
  obtain ⟨t, ht, hp⟩ := h
  rw [he] at ht
  cases ht
  exact hp

theorem exec_reflexFire_lost {s : State} {r : Nat} (hr : r < 256) (hruns : s.planeRuns = true) (hen : s.get F.SCH_RULE_EN r = 1) :
    exec (.reflexFire r true) s =
      s.ends (((s.ramLost 2 9 (Reg.SCH_RULE.addr r 0 0)).put F.SCH_RULE_EN 0 r).claimRelease r) := by
  change execReflexFire r true s = _
  simp [execReflexFire, hr, hruns, State.on, hen]

/-- Rule 0 is armed and holds TPO0, whose underlying state is on. An in-service test of TPO0 is under way in the name of a partition
of number 950, whose SYS_TEST would lie at the address of the schedule block's ERR_BLK2; a turn-on of the target ends the test there
(R649). -/
def strayTest : State :=
  { State.reset with
    sch := { State.reset.sch with
      chans := [(384, { Chan.idle with claims := [⟨0, some 0, none, none⟩], und := 1, undSet := true })] }
    integ := { State.reset.integ with tests := [(950, ⟨1, 3, 304, 0⟩)] } }.put F.SCH_RULE_EN 1 0

theorem strayTest_meets :
    Reg.addr .SYS_TEST 950 0 0 = Reg.addr .ERR_BLK2 2 0 0 ∧ svcTarget 3 304 = 384 ∧ strayTest.planeRuns = true ∧
      strayTest.get F.SCH_RULE_EN 0 = 1 ∧ strayTest.get F.ERR_BLK2_UNCORR 2 = 0 := by
  decide +kernel

/-- RES 4 of the test stands in the count, bit 26 of the word. -/
theorem strayTest_overwrites_count :
    (((strayTest.ramLost 2 9 (Reg.SCH_RULE.addr 0 0 0)).put F.SCH_RULE_EN 0 0).claimRelease 0).get F.ERR_BLK2_UNCORR 2 = 1025 := by
  decide +kernel

/-- Refutes O19: its clause on a rule whose words read as uncorrectable takes in a state, which no run reaches, with an in-service test
under the number of no partition. The target that the released claim gives back turns on, which ends that test with RES 4; the word that
takes it is the one that has just counted the loss, and the count is not one more. The clause lacks the premise that tests are kept
for the partitions 0 to 3 alone. -/
theorem not_tablesAndRulesComplete : ¬ Obligations.TablesAndRulesComplete := by
  rintro ⟨-, -, -, -, -, -, -, -, -, -, -, -, hlost⟩
  obtain ⟨-, -, hruns, hen, hzero⟩ := strayTest_meets
  obtain ⟨-, -, -, hcount⟩ := (hlost strayTest 0 (by decide) hruns hen).of_ends_eq (exec_reflexFire_lost (by decide) hruns hen)
  rw [State.withPending_oneMore, State.oneMore, strayTest_overwrites_count, hzero] at hcount
  exact absurd hcount (by decide)

end Sys2Proof.Machine
end

section
/-! The protective record of a high-side channel: what leaves it alone, and what the end of a protective hold makes of it (R235, R290). -/

namespace Sys2Proof.Machine

/-! ### What lies aside from the output plane -/

/-- The registers below the system's own, the schedule plane and the power switch block are as they were. -/
structure State.Aside (s t : State) : Prop where
  words : ∀ (r : Reg) (i j w : Nat), r.addr i j w < 0x40F00000 → t.word r i j w = s.word r i j w
  sch : t.sch = s.sch
  psw : t.psw = s.psw

theorem State.Aside.trans {s t u : State} (h : s.Aside t) (h' : t.Aside u) : s.Aside u :=
  ⟨fun r i j w hlow => (h'.words r i j w hlow).trans (h.words r i j w hlow), h'.sch.trans h.sch, h'.psw.trans h.psw⟩

theorem State.Aside.get {s t : State} (h : s.Aside t) {f : Fld} {i j : Nat} (hlow : f.reg.addr i j f.word < 0x40F00000) :
    t.get f i j = s.get f i j := by
  rw [State.get, State.get, h.words _ _ _ _ hlow]

theorem State.aside_rfl (s : State) : s.Aside s := ⟨fun _ _ _ _ _ => rfl, rfl, rfl⟩

theorem State.aside_of_sameAt {s t : State} (hregs : ∀ a < 0x40F00000, s.sameAt t a) (hsch : t.sch = s.sch) (hpsw : t.psw = s.psw) :
    s.Aside t := ⟨fun _ _ _ _ hlow => (hregs _ hlow).word, hsch, hpsw⟩

theorem addr_cum_ne_of_lt (n : Nat) {a : Nat} (h : a < 0x40F00000) : Reg.addr .ERR_CUM n 0 0 ≠ a := by
  simp only [Reg.addr, Reg.geom]
  omega

theorem State.aside_cum (s : State) (n : Nat) : s.Aside (s.cum n) :=
  State.aside_of_sameAt (fun _ ha => s.sameAt_bump (f := F.ERR_CUM_COUNT) (addr_cum_ne_of_lt n ha)) (s.cum_sch n) (s.cum_psw n)

theorem State.aside_eventTo (s : State) (sp : OwnSpec) (block code item a0 a1 : Nat) : s.Aside (s.eventTo sp block code item a0 a1) :=
  State.aside_of_sameAt (fun _ ha => s.sameAt_eventTo _ _ _ _ _ _ (addr_cum_ne_of_lt 27 ha)) (by simp) (by simp)

theorem State.aside_logEntry (s : State) (typ block item a0 a1 : Nat) : s.Aside (s.logEntry typ block item a0 a1) := by
  refine ⟨fun r i j w hlow => s.word_logEntry_ne typ block item a0 a1 r i j w ?_ (addr_cum_ne_of_lt 26 hlow),
    by simp, by simp⟩
  exact ((show r.addr i j w < _ from hlow).trans_le (by decide)).ne'

theorem State.aside_svcTurnOn (s : State) (x : Nat) : s.Aside (s.svcTurnOn x) := by
  unfold State.svcTurnOn
  split
  · next n _ _ =>
    refine State.aside_of_sameAt (fun a ha => ?_) rfl rfl
    have hne : Reg.addr .SYS_TEST n 0 0 ≠ a := by simp only [Reg.addr, Reg.geom]; omega
    exact (State.sameAt_put (f := F.SYS_TEST_BUSY) _ 0 hne).trans (State.sameAt_put (f := F.SYS_TEST_RES) _ 4 hne)
  · exact s.aside_rfl

/-- A latch of a channel is told in a queue and in the event log. -/
theorem State.aside_tellLatch (s : State) {p : Nat} (hp : p < 60) (cause : Nat) : s.Aside (s.tellLatch p cause) := by
  rw [State.tellLatch, if_pos (by omega)]
  exact (s.aside_eventTo _ _ _ _ _ _).trans (State.aside_logEntry _ _ _ _ _ _)

theorem State.aside_ite {c : Prop} [Decidable c] {s t u : State} (ht : c → s.Aside t) (hu : s.Aside u) : s.Aside (if c then t else u) := by
  split
  · next h => exact ht h
  · exact hu

theorem State.aside_wakePulse (s : State) (src : Nat) : s.Aside (s.wakePulse src) :=
  State.aside_ite (fun _ => ⟨fun _ _ _ _ _ => rfl, rfl, rfl⟩) s.aside_rfl

/-- A wake that is latched in PARK shows in no register yet (R534). -/
theorem State.aside_latchWake {s : State} (hpark : s.get F.PMU_STATE_STATE = 3) (w : Wake) : s.Aside (s.latchWake w) := by
  simp only [State.latchWake, hpark, Nat.reduceEqDiff, false_and, if_false]
  refine State.Aside.trans ?_ (State.aside_wakePulse _ _)
  exact ⟨fun _ _ _ _ _ => rfl, rfl, rfl⟩

theorem State.aside_parkFault (s : State) (p : Nat) : s.Aside (s.parkFault p) :=
  State.aside_ite (fun h => State.aside_latchWake h.1 _) s.aside_rfl

/-! ### The fields of a high-side channel -/

section
variable {p : Nat} (hp : p < 60)
include hp

theorem State.site_of_lt (s : State) : s.site p = p := by simp [State.site, State.oddMember_of_lt s (show p < 64 by omega)]

theorem isSite_of_lt : isSite p = true := by simp [isSite, isPower_of_lt hp]

theorem siteIdx_of_lt : siteIdx p = p := if_pos (by omega)

theorem siteFld_of_lt (f g h : Fld) : siteFld p f g h = f := if_pos (by omega)

theorem State.mirrorPair_of_lt (s : State) : s.mirrorPair p = s := by simp [State.mirrorPair, s.inPair_of_lt hp]

theorem State.pstate_of_lt (s : State) : s.pstate p = s.get F.PSW_PROT_STATE p := by
  rw [State.pstate, fState, siteFld_of_lt hp, siteIdx_of_lt hp]

theorem State.pput_of_lt (s : State) (f : Fld) (v : Nat) : s.pput f p v = s.put f v p := by
  rw [State.pput, siteIdx_of_lt hp, State.mirrorPair_of_lt hp]

theorem State.putHeld_of_lt (s : State) : s.putHeld p = s.put F.PSW_CMD_HELD (if s.held p then 1 else 0) p := by
  rw [State.putHeld]
  exact if_pos (by omega)

end

theorem State.chan_congr {s t : State} (h : t.sch.chans = s.sch.chans) (x : Nat) : t.chan x = s.chan x := by
  rw [State.chan, State.chan, h]

theorem State.prot_congr {s t : State} (h : t.psw = s.psw) (p : Nat) : t.prot p = s.prot p := by rw [State.prot, State.prot, h]

@[simp] theorem State.prot_setProt_same (s : State) (p : Nat) (v : ProtSt) : (s.setProt p v).prot p = v := Sparse.at_set_same _ _ _ _

@[simp] theorem State.setProt_get (s : State) (p : Nat) (v : ProtSt) (f : Fld) (i j : Nat) : (s.setProt p v).get f i j = s.get f i j := rfl

@[simp] theorem State.put_prot (s : State) (f : Fld) (v i j p : Nat) : (s.put f v i j).prot p = s.prot p := rfl

/-- A field of PSW_PROT that lies above STATE: attempts, cause, warning or latch. -/
def Fld.aboveState (f : Fld) : Prop := f.reg = .PSW_PROT ∧ f.word = 0 ∧ F.PSW_PROT_STATE.hi < f.lo

theorem State.get_put_pstate (s : State) {f : Fld} (hf : f.aboveState) (v p : Nat) :
    (s.put F.PSW_PROT_STATE v p).get f p = s.get f p := by
  obtain ⟨hr, hw, hlo⟩ := hf
  exact State.get_put_apart s F.PSW_PROT_STATE f v p 0 ⟨by decide, by decide⟩ hr hw (.inl hlo)

/-! ### What leaves the protective record of a channel -/

/-- The protective record of channel p is as it was: what PSW_PROT shows beside STATE, the reasons that hold it off, and its timers but
for that of its limit. -/
structure State.SameRecord (s t : State) (p : Nat) : Prop where
  fields : ∀ f : Fld, f.aboveState → t.get f p = s.get f p
  reasons : (t.chan p).prot = (s.chan p).prot
  timers : ∃ l, t.prot p = { s.prot p with limitFrom := l }

theorem State.SameRecord.trans {s t u : State} {p : Nat} (h : s.SameRecord t p) (h' : t.SameRecord u p) : s.SameRecord u p := by
  obtain ⟨l, hl⟩ := h'.timers
  obtain ⟨l', hl'⟩ := h.timers
  exact ⟨fun f hf => (h'.fields f hf).trans (h.fields f hf), h'.reasons.trans h.reasons, l, by rw [hl, hl']⟩

theorem State.sameRecord_of_sameAt {s t : State} {p : Nat} (hword : s.sameAt t (Reg.addr .PSW_PROT p 0 0))
    (hchans : t.sch.chans = s.sch.chans) (hpsw : t.psw = s.psw) : s.SameRecord t p :=
  ⟨fun f ⟨hr, hw, _⟩ => State.sameAt.get (by rwa [hr, hw]), by rw [State.chan_congr hchans], _, State.prot_congr hpsw p⟩

theorem State.sameRecord_of_regs {s t : State} {p : Nat} (hregs : t.regs = s.regs) (hchans : t.sch.chans = s.sch.chans)
    (hpsw : t.psw = s.psw) : s.SameRecord t p := State.sameRecord_of_sameAt (State.sameAt_of_regs hregs _) hchans hpsw

theorem State.sameRecord_rfl (s : State) (p : Nat) : s.SameRecord s p := State.sameRecord_of_regs rfl rfl rfl

@[simp] theorem State.termsSeen_psw (s : State) : s.termsSeen.psw = s.psw := by
  unfold State.termsSeen
  split <;> rfl

@[simp] theorem State.edge_psw (s : State) (x : Nat) (rise : Bool) (a : Act) (shift : Int) : (s.edge x rise a shift).psw = s.psw := by
  have hstamp : ∀ rule, (s.stampEdge x rise a.src a.plan a.steps a.lead shift rule).psw = s.psw := by simp [State.stampEdge]
  unfold State.edge State.notifyEdge
  split
  · rw [State.eventTo_psw, hstamp]
  · exact hstamp _

@[simp] theorem State.switchEdges_psw (s : State) (x old new : Nat) (a : Act) : (s.switchEdges x old new a).psw = s.psw := by
  unfold State.switchEdges
  split
  · rfl
  split <;> simp

theorem State.sameRecord_trailing (s : State) (p : Nat) (a : Act) : s.SameRecord (s.trailing p a) p := by
  obtain ⟨ps, h⟩ := s.trailing_eq p a
  rw [h]
  exact State.sameRecord_of_regs rfl rfl rfl

theorem State.setHold_chan (s : State) (x reason : Nat) (b : Bool) :
    ((s.setHold x reason b).chan x).prot = setBit (s.chan x).prot reason b := by
  obtain ⟨tr, h⟩ := (s.setChan x { s.chan x with prot := setBit (s.chan x).prot reason b }).termsSeen_sch
  rw [State.setHold, State.chan_congr (s := s.setChan x _) (by rw [h]), State.chan_setChan_same]

theorem Chan.changed_prot (c : Chan) (st u : Nat) : (c.changed st u).prot = c.prot := by
  unfold Chan.changed
  split <;> rfl

section
variable {p : Nat} (hp : p < 60)
include hp

theorem addr_psw_prot_offEdges : offEdges (Reg.addr .PSW_PROT p 0 0) := by
  simp only [offEdges, Reg.addr, Reg.geom]
  omega

theorem State.Aside.sameRecord {s t : State} (h : s.Aside t) : s.SameRecord t p := by
  refine ⟨fun f ⟨hr, hw, _⟩ => h.get ?_, by rw [State.chan_congr (congrArg SchState.chans h.sch)], _, State.prot_congr h.psw p⟩
  rw [hr, hw]
  simp only [Reg.addr, Reg.geom]
  omega

theorem State.sameRecord_protFollow (s : State) (new : Nat) : s.SameRecord (s.protFollow p new) p := by
  have hput : s.SameRecord (s.put F.PSW_PROT_STATE (followState (s.get F.PSW_PROT_STATE p) (new != 0)) p) p :=
    ⟨fun f hf => s.get_put_pstate hf _ p, rfl, _, rfl⟩
  simp only [State.protFollow, State.mirrorPair_of_lt hp]
  split
  · exact ⟨hput.fields, hput.reasons, none, by simp⟩
  · exact hput

theorem State.sameRecord_driven (s : State) (st : Nat) (a : Act) : s.SameRecord (s.driven p st a) p := by
  have hedges : s.SameRecord (s.switchEdges p (s.out p) st a) p :=
    State.sameRecord_of_sameAt (s.sameAt_switchEdges (addr_psw_prot_offEdges hp) (by omega) _ st a)
      (by rw [State.switchEdges_sch]) (by simp)
  have hout : ∀ u : State, u.SameRecord (u.setOut p st) p := by
    intro u
    obtain ⟨tr, hsch⟩ := u.setOut_sch p st
    have hpsw : (u.setOut p st).psw = u.psw := by
      rw [State.setOut, State.termsSeen_psw, State.putOut, if_pos (by omega), State.put_psw]
    refine State.sameRecord_of_sameAt ?_ (by rw [hsch]) hpsw
    exact (u.sameAt_put (f := F.PSW_CMD_OUT) st (addr_psw_prot_ne_cmd p p).symm).trans
      (State.sameAt_of_regs (State.setOut_regs hp u st) _)
  have hchan : ∀ (u : State) (v : Nat), u.SameRecord (u.setChan p ((u.chan p).changed st v)) p := fun u v =>
    ⟨fun _ _ => rfl, by rw [State.chan_setChan_same, Chan.changed_prot], _, rfl⟩
  exact ((hedges.trans (hout _)).trans (hchan _ _)).trans (State.sameRecord_protFollow hp _ st)

theorem State.sameRecord_drive (s : State) (st : Nat) (a : Act) : s.SameRecord (s.drive p st a) p := by
  have hpower : ∀ u : State, u.SameRecord (u.drivePower p st a) p := by
    intro u
    rw [u.drivePower_of_lt hp]
    split
    · exact u.sameRecord_rfl p
    · exact u.sameRecord_driven hp st a
  rw [s.drive_of_lt hp]
  split
  · exact hpower s
  · exact ((s.aside_svcTurnOn p).sameRecord hp).trans (hpower _)

/-- A word that a drive of the channel does not write: no edge stamp, none of the system's own, not its command and protection words. -/
theorem State.sameAt_drive (s : State) (st : Nat) (a : Act) {b : Nat} (hoff : offEdges b) (hcmd : Reg.addr .PSW_CMD p 0 0 ≠ b)
    (hprot : Reg.addr .PSW_PROT p 0 0 ≠ b) : s.sameAt (s.drive p st a) b := by
  have hpower : ∀ u : State, u.sameAt (u.drivePower p st a) b := by
    intro u
    rw [u.drivePower_of_lt hp]
    split
    · exact u.sameAt_rfl b
    · exact ((u.sameAt_switchEdges hoff (by omega) _ st a).trans (State.sameAt_put (f := F.PSW_CMD_OUT) _ st hcmd)).trans
        (u.sameAt_put_driven hp st a hprot)
  rw [s.drive_of_lt hp]
  split
  · exact hpower s
  · exact (State.sameAt_svcTurnOn hoff s p).trans (hpower _)

/-! ### Requests of the device itself -/

section
variable {a : Act} (hown : 5 < a.src)
include hown

/-- An action of the device itself counts in no table, and no diagnostic stretch delays it (R301). -/
theorem State.sameRecord_execute (s : State) (st : Nat) : s.SameRecord (s.execute p st a) p := by
  have hcount : s.countExec a = s := if_neg (by omega)
  have hnone : s.stretches p st a = none := by
    have hsrc : ¬ a.src ≤ 5 := by omega
    simp [State.stretches, hsrc]
  rw [State.execute, hcount, State.change, hnone]
  exact (s.sameRecord_drive hp st a).trans (State.sameRecord_trailing _ p a)

/-- The postilion admits or defers an action whose deferral is unbounded (R265). -/
theorem State.sameRecord_postilion (s : State) (st : Nat) (hmax : a.maxdef = none) : s.SameRecord (s.postilion p st a) p := by
  have hpcnt : Reg.addr .SCH_PCNT (tabGroup p) 0 0 ≠ Reg.addr .PSW_PROT p 0 0 := by
    have hgroup : tabGroup p < 4 := by unfold tabGroup; split_ifs <;> omega
    simp only [Reg.addr, Reg.geom]
    omega
  have hbump : s.SameRecord (s.bump F.SCH_PCNT_DEFERRED (tabGroup p)) p :=
    State.sameRecord_of_sameAt (s.sameAt_bump (f := F.SCH_PCNT_DEFERRED) hpcnt) rfl rfl
  simp only [State.postilion, hmax, if_true]
  split
  · refine State.SameRecord.trans ?_ (State.sameRecord_execute hp hown _ st)
    exact State.sameRecord_of_regs rfl rfl rfl
  · split
    · exact hbump.trans (State.sameRecord_of_regs rfl rfl rfl)
    · exact State.sameRecord_of_regs rfl rfl rfl

theorem State.sameRecord_request (s : State) (st : Nat) (hmax : a.maxdef = none) : s.SameRecord (s.request p st a) p := by
  have hcount : s.countExec a = s := if_neg (by omega)
  rw [State.request, hcount]
  split
  · split
    · exact s.sameRecord_trailing p a
    · exact s.sameRecord_rfl p
  split
  · exact s.sameRecord_postilion hp hown st hmax
  · exact s.sameRecord_execute hp hown st

end

theorem State.sameRecord_putHeld (s : State) : s.SameRecord (s.putHeld p) p := by
  rw [State.putHeld_of_lt hp]
  exact State.sameRecord_of_sameAt (s.sameAt_put (f := F.PSW_CMD_HELD) _ (addr_psw_prot_ne_cmd p p).symm) rfl rfl

/-- A channel that takes its state at the end of a hold (R235). -/
theorem State.sameRecord_settle (s : State) : s.SameRecord (s.settle p 7) p := by
  have hlevel : ∀ u : State, u.settleLevel p = u := fun u => by simp [State.settleLevel, isLed_of_lt hp]
  refine (s.sameRecord_putHeld hp).trans ?_
  unfold State.settle
  simp only [hlevel]
  split
  · refine State.sameRecord_request hp ?_ _ _ rfl
    simp only [ownAct]
    split <;> decide
  · exact State.sameRecord_rfl _ p

/-! ### A hold and its end -/

/-- The end of a protective hold takes its reason away and leaves the rest of the record. -/
theorem State.holdEnd_leaves (s : State) : bit ((s.holdEnd p pOff).chan p).prot pOff = false ∧
    (∀ f : Fld, f.aboveState → (s.holdEnd p pOff).get f p = s.get f p) ∧
    ∃ l, (s.holdEnd p pOff).prot p = { s.prot p with limitFrom := l } := by
  obtain ⟨hfields, hreasons, l, htimers⟩ := (s.setHold p pOff false).sameRecord_settle hp
  have hregs : (s.setHold p pOff false).regs = s.regs := by rw [State.setHold, State.termsSeen_regs]; rfl
  have hpsw : (s.setHold p pOff false).psw = s.psw := by rw [State.setHold, State.termsSeen_psw]; rfl
  refine ⟨?_, fun f hf => (hfields f hf).trans (State.sameAt_of_regs hregs _).get, l, ?_⟩
  · rw [State.holdEnd, hreasons, State.setHold_chan, bit_setBit_false]
  · rw [State.holdEnd, htimers, State.prot_congr hpsw]

/-- What the end of a protective hold leaves (R290): the channel free of it, CLEAN counting from now. -/
structure State.Released (s t : State) (p : Nat) : Prop where
  free : bit (t.chan p).prot pOff = false
  pauseEnd : (t.prot p).pauseEnd = none
  cleanFrom : (t.prot p).cleanFrom = some s.now
  hot : (t.prot p).hot = (s.prot p).hot
  fields : ∀ f : Fld, f.aboveState → t.get f p = s.get f p

theorem State.protRelease_leaves (s : State) : s.Released (s.protRelease p) p := by
  have heq : s.protRelease p = ((s.setProt p { s.prot p with pauseEnd := none, cleanFrom := some s.now }).put F.PSW_PROT_STATE
      (s.restState p) p).holdEnd p pOff := by
    rw [State.protRelease, fState, siteFld_of_lt hp, State.pput_of_lt hp, State.mirrorPair_of_lt hp]
    exact if_pos (by omega)
  rw [heq]
  obtain ⟨hfree, hfields, l, htimers⟩ := State.holdEnd_leaves hp
    ((s.setProt p { s.prot p with pauseEnd := none, cleanFrom := some s.now }).put F.PSW_PROT_STATE (s.restState p) p)
  rw [State.put_prot, State.prot_setProt_same] at htimers
  exact ⟨hfree, by rw [htimers], by rw [htimers], by rw [htimers], fun f hf => (hfields f hf).trans (State.get_put_pstate _ hf _ p)⟩

end

end Sys2Proof.Machine
end

section
/-! A protective switch-off of a high-side channel: what it leaves when it begins a retry pause and when it latches (R288 to R290,
R298). -/

namespace Sys2Proof.Machine

/-- A channel that protection switches off for a cause: held off, with one more attempt and the cause shown. -/
def State.causeShown (s : State) (p cause : Nat) (hot : Bool) : State :=
  (((s.holdOff p pOff).setProt p { s.prot p with
    limitFrom := none, offAt := some (s.now / 1600), hot := hot, cleanFrom := none, pauseEnd := none }).put F.PSW_PROT_ATT
    (min 31 (s.get F.PSW_PROT_ATT p + 1)) p).put F.PSW_PROT_CAUSE cause p

/-- The same channel with the cause counted and its result shown, before the switch-off latches or begins a retry pause. -/
def State.tripped (s : State) (p cause : Nat) (low hot : Bool) : State :=
  (((s.causeShown p cause hot).bump (causeCnt cause) p).setResult p (causeResult p cause low)).cum 13

/-- A channel that is latched, the latch shown and counted. -/
def State.latched (s : State) (p : Nat) : State := ((s.put F.PSW_PROT_LATCH 1 p).put F.PSW_PROT_STATE 5 p).bump F.PSW_CNT_LATCHES p

/-- The latch of a channel that has been switched off for a cause, with the owner and the event log told of it. -/
def State.latchTold (s : State) (p cause : Nat) : State := ((s.latched p).cum 14).tellLatch p cause

/-- The retry pause of a channel that has been switched off. -/
def State.pausing (s : State) (p till : Nat) : State :=
  (s.setProt p { s.prot p with pauseEnd := some till }).put F.PSW_PROT_STATE 3 p

/-- A channel whose junction is above release, with the warning shown. -/
def State.overheated (s : State) (p : Nat) : State :=
  let t := s.put F.PSW_PROT_TWARN 1 p
  t.setProt p { t.prot p with hot := true }

/-- What a protective switch-off of a channel for a cause leaves, whether it latches or pauses: one more attempt, the cause, its count and
its result, and the channel held off. -/
structure State.Tripped (s t : State) (p c result : Nat) : Prop where
  att : t.get F.PSW_PROT_ATT p = min 31 (s.get F.PSW_PROT_ATT p + 1)
  cause : t.get F.PSW_PROT_CAUSE p = c
  out : t.get F.PSW_CMD_OUT p = 0
  held : bit (t.chan p).prot pOff = true
  count : t.oneMore s (causeCnt c) p
  result : t.get F.PSW_DIAG_RESULT p = result

/-- A field that tells of a switch-off: of the command or diagnosis word, an attempt or cause, or the count of a cause. -/
def Fld.tellsTrip (f : Fld) : Prop := f.word = 0 ∧ (f.reg = .PSW_CMD ∨ f.reg = .PSW_PROT ∧ F.PSW_PROT_CAUSE.lo ≤ f.lo ∨
  f.reg = .PSW_CNT ∧ F.PSW_CNT_LATCHES.hi < f.lo ∨ f.reg = .PSW_DIAG)

/-- A counter of a cause lies in PSW_CNT above LATCHES. -/
theorem causeCnt_spec (cause : Nat) : (causeCnt cause).reg = .PSW_CNT ∧ (causeCnt cause).word = 0 ∧ (causeCnt cause).fits ∧
    F.PSW_CNT_LATCHES.hi < (causeCnt cause).lo := by
  unfold causeCnt
  split <;> exact ⟨rfl, rfl, ⟨by decide, by decide⟩, by decide⟩

theorem State.Tripped.frame {s t u : State} {p c result : Nat} (h : s.Tripped t p c result) (hchans : u.sch.chans = t.sch.chans)
    (hget : ∀ f : Fld, f.tellsTrip → u.get f p = t.get f p) : s.Tripped u p c result := by
  obtain ⟨hcr, hcw, -, hlo⟩ := causeCnt_spec c
  have hprot : ∀ f : Fld, f.reg = .PSW_PROT → f.word = 0 → F.PSW_PROT_CAUSE.lo ≤ f.lo → u.get f p = t.get f p :=
    fun f hr hw hf => hget f ⟨hw, .inr (.inl ⟨hr, hf⟩)⟩
  exact ⟨(hprot F.PSW_PROT_ATT rfl rfl (by decide)).trans h.att, (hprot F.PSW_PROT_CAUSE rfl rfl (by decide)).trans h.cause,
    (hget F.PSW_CMD_OUT ⟨rfl, .inl rfl⟩).trans h.out, by rw [State.chan_congr hchans, h.held],
    (hget _ ⟨hcw, .inr (.inr (.inl ⟨hcr, hlo⟩))⟩).trans h.count,
    (hget F.PSW_DIAG_RESULT ⟨rfl, .inr (.inr (.inr rfl))⟩).trans h.result⟩

/-- Where the command, protection, diagnosis and count words of a channel lie. -/
theorem addr_psw_channel (p : Nat) : Reg.addr .PSW_CMD p 0 0 = 0x40300000 + 0x30 * p ∧ Reg.addr .PSW_PROT p 0 0 = 0x40300008 + 0x30 * p ∧
    Reg.addr .PSW_DIAG p 0 0 = 0x4030000C + 0x30 * p ∧ Reg.addr .PSW_CNT p 0 0 = 0x40300010 + 0x30 * p := by
  simp only [Reg.addr, Reg.geom]
  omega

/-- What a latch shows: its state and itself, and one more latch. -/
theorem State.latched_leaves (s : State) (p : Nat) : (s.latched p).get F.PSW_PROT_STATE p = 5 ∧ (s.latched p).get F.PSW_PROT_LATCH p = 1 ∧
    (s.latched p).oneMore s F.PSW_CNT_LATCHES p := by
  obtain ⟨-, hprot, -, hcnt⟩ := addr_psw_channel p
  have hne : Reg.addr .PSW_PROT p 0 0 ≠ Reg.addr .PSW_CNT p 0 0 := by omega
  have hbump : ∀ f : Fld, f.reg = .PSW_PROT → f.word = 0 → (s.latched p).get f p =
      ((s.put F.PSW_PROT_LATCH 1 p).put F.PSW_PROT_STATE 5 p).get f p := by
    intro f hr hw
    refine (State.sameAt_bump (f := F.PSW_CNT_LATCHES) _ ?_).get
    rw [hr, hw]
    exact hne.symm
  refine ⟨?_, ?_, ?_⟩
  · rw [hbump _ rfl rfl, State.get_put_same _ _ _ _ _ ⟨by decide, by decide⟩]
    rfl
  · rw [hbump _ rfl rfl, State.get_put_pstate _ ⟨rfl, rfl, by decide⟩, State.get_put_same _ _ _ _ _ ⟨by decide, by decide⟩]
    rfl
  · rw [State.oneMore, State.latched, State.get_bump_same _ _ _ _ ⟨by decide, by decide⟩,
      State.get_put_elsewhere _ F.PSW_PROT_STATE F.PSW_CNT_LATCHES _ _ _ _ _ hne,
      State.get_put_elsewhere _ F.PSW_PROT_LATCH F.PSW_CNT_LATCHES _ _ _ _ _ hne]

/-- A channel that has overheated after its switch-off: the warning and the junction stand beside all that the switch-off left. -/
theorem State.overheated_leaves (s : State) (p : Nat) : (s.overheated p).get F.PSW_PROT_TWARN p = 1 ∧ ((s.overheated p).prot p).hot = true ∧
    ((s.overheated p).prot p).pauseEnd = (s.prot p).pauseEnd ∧ (s.overheated p).get F.PSW_PROT_STATE p = s.get F.PSW_PROT_STATE p ∧
    (s.overheated p).get F.PSW_PROT_ATT p = s.get F.PSW_PROT_ATT p := by
  have hbeside : ∀ f : Fld, f.reg = .PSW_PROT → f.word = 0 → F.PSW_PROT_TWARN.hi < f.lo ∨ f.hi < F.PSW_PROT_TWARN.lo →
      (s.overheated p).get f p = s.get f p := fun f hr hw hapart =>
    State.get_put_apart s F.PSW_PROT_TWARN f 1 p 0 ⟨by decide, by decide⟩ hr hw hapart
  refine ⟨State.get_put_same s F.PSW_PROT_TWARN 1 p 0 ⟨by decide, by decide⟩, ?_, ?_, hbeside _ rfl rfl (by decide),
    hbeside _ rfl rfl (by decide)⟩
  · rw [State.overheated, State.prot_setProt_same]
  · rw [State.overheated, State.prot_setProt_same]
    rfl

section
variable {s t : State} {p c result : Nat} (h : s.Tripped t p c result)
include h

theorem State.Tripped.aside (hp : p < 60) {u : State} (ha : t.Aside u) : s.Tripped u p c result := by
  obtain ⟨hcmd, hprot, hdiag, hcnt⟩ := addr_psw_channel p
  refine h.frame (congrArg SchState.chans ha.sch) fun f ⟨hw, hr⟩ => ha.get ?_
  rw [hw]
  rcases hr with hr | ⟨hr, -⟩ | ⟨hr, -⟩ | hr <;> rw [hr] <;> omega

/-- A field of PSW_PROT below CAUSE may be set. -/
theorem State.Tripped.put_prot {f : Fld} (hr : f.reg = .PSW_PROT) (hw : f.word = 0) (hf : f.fits) (hlow : f.hi < F.PSW_PROT_CAUSE.lo)
    (v : Nat) : s.Tripped (t.put f v p) p c result := by
  obtain ⟨hcmd, hprot, hdiag, hcnt⟩ := addr_psw_channel p
  refine h.frame rfl fun g ⟨hgw, hgr⟩ => ?_
  rcases hgr with hgr | ⟨hgr, hlo⟩ | ⟨hgr, -⟩ | hgr
  case inr.inl => exact State.get_put_apart t f g v p 0 hf (hgr.trans hr.symm) (hgw.trans hw.symm) (.inl (hlow.trans_le hlo))
  all_goals
    refine State.get_put_elsewhere t f g v p 0 p 0 ?_
    rw [hr, hw, hgr, hgw]
    omega

/-- LATCHES may be counted. -/
theorem State.Tripped.bump_latches : s.Tripped (t.bump F.PSW_CNT_LATCHES p) p c result := by
  obtain ⟨hcmd, hprot, hdiag, hcnt⟩ := addr_psw_channel p
  refine h.frame rfl fun g ⟨hgw, hgr⟩ => ?_
  rcases hgr with hgr | ⟨hgr, -⟩ | ⟨hgr, hlo⟩ | hgr
  case inr.inr.inl =>
    exact State.get_put_apart (t.noted F.PSW_CNT_LATCHES 1 p 0) F.PSW_CNT_LATCHES g _ p 0 ⟨by decide, by decide⟩ hgr hgw (.inl hlo)
  all_goals
    refine (t.sameAt_bump (f := F.PSW_CNT_LATCHES) (i := p) (j := 0) ?_).get
    change Reg.addr .PSW_CNT p 0 0 ≠ _
    rw [hgr, hgw]
    omega

theorem State.Tripped.latched : s.Tripped (t.latched p) p c result :=
  ((h.put_prot (f := F.PSW_PROT_LATCH) rfl rfl ⟨by decide, by decide⟩ (by decide) 1).put_prot (f := F.PSW_PROT_STATE) rfl rfl
    ⟨by decide, by decide⟩ (by decide) 5).bump_latches

theorem State.Tripped.overheated : s.Tripped (t.overheated p) p c result :=
  (h.put_prot (f := F.PSW_PROT_TWARN) rfl rfl ⟨by decide, by decide⟩ (by decide) 1).frame rfl fun _ _ => rfl

theorem State.Tripped.pausing (till : Nat) : s.Tripped (t.pausing p till) p c result :=
  State.Tripped.put_prot (t := t.setProt p _) (f := F.PSW_PROT_STATE) (h.frame rfl fun _ _ => rfl) rfl rfl ⟨by decide, by decide⟩
    (by decide) 3

end

theorem State.causeShown_get (s : State) (p cause : Nat) (hot : Bool) {f : Fld} (hne : Reg.addr .PSW_PROT p 0 0 ≠ f.reg.addr p 0 f.word) :
    (s.causeShown p cause hot).get f p = (s.holdOff p pOff).get f p :=
  ((State.sameAt_put (f := F.PSW_PROT_ATT) ((s.holdOff p pOff).setProt p _) _ hne).trans
    (State.sameAt_put (f := F.PSW_PROT_CAUSE) _ cause hne)).get

theorem State.causeShown_prot (s : State) (p : Nat) {cause : Nat} (hcause : cause < 8) (hot : Bool) :
    (s.causeShown p cause hot).get F.PSW_PROT_ATT p = min 31 (s.get F.PSW_PROT_ATT p + 1) ∧
      (s.causeShown p cause hot).get F.PSW_PROT_CAUSE p = cause := by
  refine ⟨?_, (State.get_put_same _ _ _ _ _ ⟨by decide, by decide⟩).trans (Nat.mod_eq_of_lt hcause)⟩
  rw [State.causeShown, State.get_put_apart _ F.PSW_PROT_CAUSE F.PSW_PROT_ATT _ _ _ ⟨by decide, by decide⟩ rfl rfl (by decide),
    State.get_put_same _ _ _ _ _ ⟨by decide, by decide⟩]
  exact Nat.mod_eq_of_lt (Nat.lt_succ_of_le (Nat.min_le_left _ _))

/-- A cause in a channel that conducts is a protective switch-off (R288). -/
theorem State.protCause_conducting {s : State} {p : Nat} (hstate : s.pstate p = 1 ∨ s.pstate p = 2) (cause : Nat) (low hot : Bool) :
    s.protCause p cause low hot = s.protOff p cause low hot := by
  rw [State.protCause]
  exact if_pos hstate

section
variable {p : Nat} (hp : p < 60)
include hp

theorem State.protOff_eq (s : State) (cause : Nat) (low hot : Bool) : s.protOff p cause low hot =
    (if max 1 (s.get F.PSW_CFG_NMAX p) ≤ min 31 (s.get F.PSW_PROT_ATT p + 1) then (s.tripped p cause low hot).latchTold p cause
    else (s.tripped p cause low hot).pausing p (s.now + s.pause p (min 31 (s.get F.PSW_PROT_ATT p + 1)))).parkFault p := by
  have h72 : p < 72 := by omega
  have h104 : p < 104 := by omega
  simp only [State.protOff, State.siteHold, State.tripped, State.causeShown, State.latched, State.latchTold, State.pausing,
    fAtt, fCause, fLatch, fState, fNmax, siteFld_of_lt hp, siteIdx_of_lt hp, State.pput_of_lt hp, h72, h104, if_true]

/-- A protective hold switches the channel off, and leaves every word but its command and its protection, the edge stamps and the system's
own. -/
theorem State.holdOff_leaves (s : State) : (s.holdOff p pOff).out p = 0 ∧ bit ((s.holdOff p pOff).chan p).prot pOff = true ∧
    ∀ a, offEdges a → Reg.addr .PSW_CMD p 0 0 ≠ a → Reg.addr .PSW_PROT p 0 0 ≠ a → s.sameAt (s.holdOff p pOff) a := by
  have hregs : (s.setHold p pOff true).regs = s.regs := by rw [State.setHold, State.termsSeen_regs]; rfl
  refine ⟨(State.drive_leaves hp _ (by decide) _).out, ?_, fun a hoff hcmd hprot => ?_⟩
  · rw [State.holdOff, (State.sameRecord_drive hp _ 0 _).reasons, (State.sameRecord_putHeld hp _).reasons, State.setHold_chan,
      bit_setBit_same]
  · refine (State.sameAt_of_regs hregs a).trans (State.sameAt.trans ?_ (State.sameAt_drive hp _ 0 _ hoff hcmd hprot))
    rw [State.putHeld_of_lt hp]
    exact State.sameAt_put (f := F.PSW_CMD_HELD) _ _ hcmd

theorem State.setResult_leaves (s : State) {r : Nat} (hr : r < 16) : (s.setResult p r).get F.PSW_DIAG_RESULT p = r ∧
    (s.setResult p r).sch = s.sch ∧ (s.setResult p r).psw = s.psw ∧
    ∀ a < 0x40F00000, Reg.addr .PSW_DIAG p 0 0 ≠ a → s.sameAt (s.setResult p r) a := by
  rw [State.setResult, if_pos (by omega)]
  split
  · next h => exact ⟨h, rfl, rfl, fun a _ _ => s.sameAt_rfl a⟩
  · refine ⟨?_, by simp, by simp, fun a hlow hne => (State.sameAt_put (f := F.PSW_DIAG_RESULT) _ r hne).trans ?_⟩
    · obtain ⟨-, -, hdiag, -⟩ := addr_psw_channel p
      rw [(State.aside_eventTo _ _ _ _ _ _ _).get (show Reg.addr .PSW_DIAG p 0 0 < _ by omega),
        State.get_put_same _ _ _ _ _ ⟨by decide, by decide⟩]
      exact Nat.mod_eq_of_lt hr
    · exact State.sameAt_eventTo _ _ _ _ _ _ _ (addr_cum_ne_of_lt 27 hlow)

/-- The finding of each cause on a high-side channel (R298). -/
theorem causeResult_of_lt (low : Bool) :
    causeResult p 1 low = (if low then 3 else 5) ∧ causeResult p 2 low = 4 ∧ causeResult p 3 low = 6 :=
  ⟨if_pos (by omega), if_pos (by omega), if_pos (by omega)⟩

theorem causeResult_lt (cause : Nat) (low : Bool) : causeResult p cause low < 16 := by
  unfold causeResult
  rw [if_pos (by omega)]
  split
  · cases low <;> decide
  · decide
  · decide

/-- The count of the cause and its result touch neither the command word nor the protection word. -/
theorem State.tripped_get (s : State) (cause : Nat) (low hot : Bool) {f : Fld} (hw : f.word = 0)
    (hr : f.reg = .PSW_CMD ∨ f.reg = .PSW_PROT) :
    (s.tripped p cause low hot).get f p = (s.causeShown p cause hot).get f p := by
  obtain ⟨hcmd, hprot, hdiag, hcnt⟩ := addr_psw_channel p
  obtain ⟨hcr, hcw, -⟩ := causeCnt_spec cause
  obtain ⟨-, -, -, hwords⟩ := ((s.causeShown p cause hot).bump (causeCnt cause) p).setResult_leaves hp (causeResult_lt hp cause low)
  have hat : f.reg.addr p 0 f.word < 0x40F00000 ∧ Reg.addr .PSW_DIAG p 0 0 ≠ f.reg.addr p 0 f.word ∧
      (causeCnt cause).reg.addr p 0 (causeCnt cause).word ≠ f.reg.addr p 0 f.word := by
    rw [hw, hcr, hcw]
    rcases hr with hr | hr <;> rw [hr] <;> omega
  obtain ⟨hlow, hne, hne'⟩ := hat
  exact (State.aside_cum _ 13).get hlow |>.trans ((hwords _ hlow hne).get.trans ((s.causeShown p cause hot).sameAt_bump hne').get)

/-- Of the counts only that of the cause changes. -/
theorem State.tripped_count (s : State) (cause : Nat) (low hot : Bool) : (s.tripped p cause low hot).oneMore s (causeCnt cause) p ∧
    (s.tripped p cause low hot).get F.PSW_CNT_LATCHES p = s.get F.PSW_CNT_LATCHES p := by
  obtain ⟨hcmd, hprot, hdiag, hcnt⟩ := addr_psw_channel p
  obtain ⟨hcr, hcw, hcfit, hclo⟩ := causeCnt_spec cause
  obtain ⟨-, -, hhold⟩ := s.holdOff_leaves hp
  obtain ⟨-, -, -, hwords⟩ := ((s.causeShown p cause hot).bump (causeCnt cause) p).setResult_leaves hp (causeResult_lt hp cause low)
  have hafter : ∀ f : Fld, f.reg = .PSW_CNT → f.word = 0 → (s.tripped p cause low hot).get f p =
      ((s.causeShown p cause hot).bump (causeCnt cause) p).get f p := by
    intro f hr hw
    have hat : f.reg.addr p 0 f.word = 0x40300010 + 0x30 * p := by rw [hr, hw, hcnt]
    exact ((State.aside_cum _ 13).get (by omega)).trans (hwords _ (by omega) (by omega)).get
  have hbefore : ∀ f : Fld, f.reg = .PSW_CNT → f.word = 0 → (s.causeShown p cause hot).get f p = s.get f p := by
    intro f hr hw
    have hat : f.reg.addr p 0 f.word = 0x40300010 + 0x30 * p := by rw [hr, hw, hcnt]
    rw [State.causeShown_get s p cause hot (by omega)]
    exact (hhold _ (.inr (by omega)) (by omega) (by omega)).get
  constructor
  · rw [State.oneMore, hafter _ hcr hcw, State.get_bump_same _ _ _ _ hcfit, hbefore _ hcr hcw]
  · rw [hafter _ rfl rfl, ← hbefore _ rfl rfl]
    exact State.get_put_apart ((s.causeShown p cause hot).noted (causeCnt cause) 1 p 0) (causeCnt cause) F.PSW_CNT_LATCHES _ p 0 hcfit
      hcr.symm hcw.symm (.inr hclo)

/-- A protective switch-off up to its latch or pause. -/
theorem State.tripped_leaves (s : State) {cause : Nat} (hcause : cause < 8) (low hot : Bool) :
    s.Tripped (s.tripped p cause low hot) p cause (causeResult p cause low) := by
  obtain ⟨hcmd, hprot, hdiag, hcnt⟩ := addr_psw_channel p
  obtain ⟨hout, hheld, -⟩ := s.holdOff_leaves hp
  obtain ⟨hatt, hshown⟩ := s.causeShown_prot p hcause hot
  obtain ⟨hresult, hsch, -, -⟩ := ((s.causeShown p cause hot).bump (causeCnt cause) p).setResult_leaves hp (causeResult_lt hp cause low)
  have hchans : (s.tripped p cause low hot).sch = (s.holdOff p pOff).sch := by
    rw [State.tripped, State.cum_sch, hsch, State.bump_sch]
    rfl
  rw [State.out_of_lt hp] at hout
  exact {
    att := (s.tripped_get hp cause low hot rfl (.inr rfl)).trans hatt
    cause := (s.tripped_get hp cause low hot rfl (.inr rfl)).trans hshown
    out := (s.tripped_get hp cause low hot rfl (.inl rfl)).trans ((s.causeShown_get p cause hot (addr_psw_prot_ne_cmd p p)).trans hout)
    held := by rw [State.chan_congr (congrArg SchState.chans hchans), hheld]
    count := (s.tripped_count hp cause low hot).1
    result := by
      rw [State.tripped, (State.aside_cum _ 13).get (f := F.PSW_DIAG_RESULT) (show Reg.addr .PSW_DIAG p 0 0 < _ by omega), hresult] }

theorem State.tripped_pauseEnd (s : State) (cause : Nat) (low hot : Bool) : ((s.tripped p cause low hot).prot p).pauseEnd = none := by
  obtain ⟨-, -, hpsw, -⟩ := ((s.causeShown p cause hot).bump (causeCnt cause) p).setResult_leaves hp (causeResult_lt hp cause low)
  have hshown : (s.tripped p cause low hot).psw = (s.causeShown p cause hot).psw := by
    rw [State.tripped, State.cum_psw, hpsw, State.bump_psw]
  rw [State.prot_congr hshown, State.causeShown, State.put_prot, State.put_prot, State.prot_setProt_same]

/-! ### Retry pause and latch -/

/-- A switch-off before the last attempt begins a retry pause (R289). -/
theorem State.protOff_pauses {s : State} {cause : Nat} (hcause : cause < 8) (low hot : Bool)
    (hatt : s.get F.PSW_PROT_ATT p + 1 < max 1 (s.get F.PSW_CFG_NMAX p)) :
    s.Tripped (s.protOff p cause low hot) p cause (causeResult p cause low) ∧ (s.protOff p cause low hot).get F.PSW_PROT_STATE p = 3 ∧
      (s.protOff p cause low hot).get F.PSW_PROT_ATT p = s.get F.PSW_PROT_ATT p + 1 ∧
      ((s.protOff p cause low hot).prot p).pauseEnd = some (s.now + s.pause p (s.get F.PSW_PROT_ATT p + 1)) := by
  obtain ⟨-, hprot, -, -⟩ := addr_psw_channel p
  have hnmax : s.get F.PSW_CFG_NMAX p < 32 := bitsOf_lt _ _ _
  have hmin : min 31 (s.get F.PSW_PROT_ATT p + 1) = s.get F.PSW_PROT_ATT p + 1 := by omega
  rw [State.protOff_eq hp, hmin, if_neg (by omega)]
  have htrip := s.tripped_leaves hp hcause low hot
  generalize s.tripped p cause low hot = u at htrip
  have haside := (u.pausing p (s.now + s.pause p (s.get F.PSW_PROT_ATT p + 1))).aside_parkFault p
  have htold := (htrip.pausing _).aside hp haside
  refine ⟨htold, ?_, htold.att.trans hmin, ?_⟩
  · rw [haside.get (show Reg.addr .PSW_PROT p 0 0 < _ by omega), State.pausing, State.get_put_same _ _ _ _ _ ⟨by decide, by decide⟩]
    rfl
  · rw [State.prot_congr haside.psw, State.pausing, State.put_prot, State.prot_setProt_same]

/-- The last attempt latches the channel (R290): it is told, counted, and no pause runs. -/
theorem State.protOff_latches {s : State} {cause : Nat} (hcause : cause < 8) (low hot : Bool)
    (hatt : max 1 (s.get F.PSW_CFG_NMAX p) ≤ min 31 (s.get F.PSW_PROT_ATT p + 1)) :
    s.Tripped (s.protOff p cause low hot) p cause (causeResult p cause low) ∧ (s.protOff p cause low hot).get F.PSW_PROT_STATE p = 5 ∧
      (s.protOff p cause low hot).get F.PSW_PROT_LATCH p = 1 ∧ (s.protOff p cause low hot).oneMore s F.PSW_CNT_LATCHES p ∧
      ((s.protOff p cause low hot).prot p).pauseEnd = none := by
  obtain ⟨-, hprot, -, hcnt⟩ := addr_psw_channel p
  rw [State.protOff_eq hp, if_pos hatt]
  have htrip := s.tripped_leaves hp hcause low hot
  have hbefore := (s.tripped_count hp cause low hot).2
  have hnone := s.tripped_pauseEnd hp cause low hot
  generalize s.tripped p cause low hot = u at htrip hbefore hnone
  obtain ⟨hstate, hlatch, hcount⟩ := u.latched_leaves p
  have haside : (u.latched p).Aside ((u.latchTold p cause).parkFault p) :=
    ((State.aside_cum _ 14).trans (State.aside_tellLatch _ hp cause)).trans (State.aside_parkFault _ p)
  have hshown : ∀ f : Fld, f.reg.addr p 0 f.word < 0x40F00000 → ((u.latchTold p cause).parkFault p).get f p = (u.latched p).get f p :=
    fun f hlow => haside.get hlow
  refine ⟨htrip.latched.aside hp haside, ?_, ?_, ?_, ?_⟩
  · rw [hshown F.PSW_PROT_STATE (show Reg.addr .PSW_PROT p 0 0 < _ by omega), hstate]
  · rw [hshown F.PSW_PROT_LATCH (show Reg.addr .PSW_PROT p 0 0 < _ by omega), hlatch]
  · rw [State.oneMore, hshown F.PSW_CNT_LATCHES (show Reg.addr .PSW_CNT p 0 0 < _ by omega), hcount, hbefore]
  · rw [State.prot_congr haside.psw, State.prot_congr (s := u) (t := u.latched p) rfl, hnone]

end

end Sys2Proof.Machine
end

section
/-! The protection of a high-side channel put together: limit, protective switch-off, retry pause, latch, CLR and CLEAN (R287 to R292,
R298). -/

namespace Sys2Proof.Machine

@[simp] theorem State.withPending_pstate (t : State) (q : List Instr) (p : Nat) : (t.withPending q).pstate p = t.pstate p := rfl
@[simp] theorem State.withPending_prot (t : State) (q : List Instr) (p : Nat) : (t.withPending q).prot p = t.prot p := rfl

section
variable {p : Nat} (hp : p < 60)
include hp

theorem exec_currentLimitEntry {s : State} (hstate : s.pstate p = 1) : exec (.currentLimitEntry p) s =
    s.ends ((s.setProt p { s.prot p with limitFrom := some s.now }).put F.PSW_PROT_STATE 2 p) := by
  change execCurrentLimitEntry p s = _
  simp [execCurrentLimitEntry, State.site_of_lt hp, isSite_of_lt hp, hstate, fState, siteFld_of_lt hp, State.pput_of_lt hp]

theorem exec_limitExit {s : State} (hstate : s.pstate p = 2) : exec (.limitExit p) s =
    s.ends ((s.setProt p { s.prot p with limitFrom := none }).put F.PSW_PROT_STATE 1 p) := by
  change execLimitExit p s = _
  simp [execLimitExit, State.site_of_lt hp, isSite_of_lt hp, hstate, fState, siteFld_of_lt hp, State.pput_of_lt hp]

theorem exec_shortClassified {s : State} (hstate : s.pstate p = 2) (low hot : Bool) :
    exec (.shortClassified p low hot) s = s.ends (s.protOff p 1 low hot) := by
  change execShortClassified p low hot s = _
  simp [execShortClassified, State.site_of_lt hp, isSite_of_lt hp, hstate, State.protCause_conducting (.inr hstate)]

theorem exec_overloadClassified {s : State} {u : Nat} (hstate : s.pstate p = 2) (hfrom : (s.prot p).limitFrom = some u)
    (hdue : u + s.tovl p ≤ s.now) (low hot : Bool) : exec (.overloadClassified p low hot) s = s.ends (s.protOff p 2 low hot) := by
  change execOverloadClassified p low hot s = _
  simp [execOverloadClassified, State.site_of_lt hp, isSite_of_lt hp, hstate, hfrom, hdue, State.protCause_conducting (.inr hstate)]

theorem exec_thermalShutdown {s : State} (hstate : s.pstate p = 1 ∨ s.pstate p = 2) (low : Bool) :
    exec (.thermalShutdown p low) s = s.ends ((s.protOff p 3 low true).overheated p) := by
  change execThermalShutdown p low s = _
  simp only [execThermalShutdown, State.site_of_lt hp, isSite_of_lt hp, if_true, State.protCause_conducting hstate, fTwarn,
    siteFld_of_lt hp, State.pput_of_lt hp, State.overheated]

/-- The end of a retry pause of a channel that has cooled. -/
theorem exec_retryPauseEnd_cool {s : State} {u : Nat} (hstate : s.pstate p = 3) (hend : (s.prot p).pauseEnd = some u) (hdue : u ≤ s.now)
    (hhot : (s.prot p).hot = false) : exec (.retryPauseEnd p) s = s.ends (s.protRelease p) := by
  change execRetryPauseEnd p s = _
  simp [execRetryPauseEnd, State.site_of_lt hp, isSite_of_lt hp, hstate, hend, hdue, hhot]

theorem exec_retryPauseEnd_hot {s : State} {u : Nat} (hstate : s.pstate p = 3) (hend : (s.prot p).pauseEnd = some u) (hdue : u ≤ s.now)
    (hhot : (s.prot p).hot = true) : exec (.retryPauseEnd p) s =
      s.ends ((s.setProt p { s.prot p with pauseEnd := none }).put F.PSW_PROT_STATE 4 p) := by
  change execRetryPauseEnd p s = _
  simp [execRetryPauseEnd, State.site_of_lt hp, isSite_of_lt hp, hstate, hend, hdue, hhot, fState, siteFld_of_lt hp, State.pput_of_lt hp]

/-- A channel that has cooled to release, and whether it is still warm. -/
def State.cooled (s : State) (p : Nat) (warm : Bool) : State :=
  (s.setProt p { s.prot p with hot := false }).put F.PSW_PROT_TWARN (if warm then 1 else 0) p

theorem exec_thermalRelease {s : State} (hstate : s.pstate p = 4) (warm : Bool) :
    exec (.thermalRelease p warm) s = s.ends ((s.cooled p warm).protRelease p) := by
  have hkept : (s.cooled p warm).pstate p = 4 := by
    rw [State.pstate_of_lt hp] at hstate
    rw [State.pstate_of_lt hp, State.cooled,
      State.get_put_apart _ F.PSW_PROT_TWARN F.PSW_PROT_STATE _ _ _ ⟨by decide, by decide⟩ rfl rfl (by decide), State.setProt_get, hstate]
  change execThermalRelease p warm s = _
  rw [State.cooled] at hkept
  simp only [execThermalRelease, State.site_of_lt hp, isSite_of_lt hp, if_true, fTwarn, siteFld_of_lt hp, State.pput_of_lt hp, hkept,
    State.cooled]

/-- A channel whose attempts and latch CLR has cleared. -/
def State.cleared (s : State) (p : Nat) : State := (s.put F.PSW_PROT_ATT 0 p).put F.PSW_PROT_LATCH 0 p

theorem exec_protClear {s : State} {init : Init} (hfab : s.domOn domFAB = true) (hon : s.blockOn 3 = true)
    (hmay : s.mayWrite init .PSW_PROT p = true) (hlow : 3 ≤ s.pstate p) (hhigh : s.pstate p ≤ 5) (hhot : (s.prot p).hot = false) :
    exec (.protClear init p) s = s.ends ((s.cleared p).protRelease p) := by
  have hheld : s.pstate p = 3 ∨ s.pstate p = 4 ∨ s.pstate p = 5 := by omega
  have hreg : protReg p = .PSW_PROT := if_pos (by omega)
  change execProtClear init p s = _
  rw [execProtClear, isSite_of_lt hp, if_pos rfl, hreg, siteIdx_of_lt hp, State.owned_of_mayWrite (r := .PSW_PROT) 0 0 _ hfab hon hmay]
  simp only [State.protClear, State.site_of_lt hp, hheld, if_true, fAtt, fLatch, siteFld_of_lt hp, State.pput_of_lt hp, State.put_prot,
    hhot, Bool.false_eq_true, if_false, State.cleared]

theorem exec_cleanExpiry {s : State} {u : Nat} (hstate : s.pstate p = 0 ∨ s.pstate p = 1 ∨ s.pstate p = 2 ∨ s.pstate p = 6)
    (hfrom : (s.prot p).cleanFrom = some u) (hdue : u + s.clean p ≤ s.now) :
    exec (.cleanExpiry p) s = s.ends ((s.setProt p { s.prot p with cleanFrom := none }).put F.PSW_PROT_ATT 0 p) := by
  have hfree : (s.pstate p == 0 || s.pstate p == 1 || s.pstate p == 2 || s.pstate p == 6) = true := by simpa [or_assoc] using hstate
  change execCleanExpiry p s = _
  simp only [execCleanExpiry, State.site_of_lt hp, isSite_of_lt hp, hfrom, hfree, hdue, decide_true, Bool.and_self, if_true, fAtt,
    siteFld_of_lt hp, State.pput_of_lt hp]

/-- A timer and STATE of a channel that are set leave its output. -/
theorem State.stateShown_leaves (s : State) (v : ProtSt) {st : Nat} (hst : st < 8) :
    ((s.setProt p v).put F.PSW_PROT_STATE st p).pstate p = st ∧ ((s.setProt p v).put F.PSW_PROT_STATE st p).prot p = v ∧
      ((s.setProt p v).put F.PSW_PROT_STATE st p).out p = s.out p := by
  refine ⟨?_, by rw [State.put_prot, State.prot_setProt_same], ?_⟩
  · rw [State.pstate_of_lt hp, State.get_put_same _ _ _ _ _ ⟨by decide, by decide⟩]
    exact Nat.mod_eq_of_lt hst
  · rw [State.out_of_lt hp, State.out_of_lt hp,
      State.get_put_elsewhere _ F.PSW_PROT_STATE F.PSW_CMD_OUT _ _ _ _ _ (addr_psw_prot_ne_cmd p p), State.setProt_get]

end

/-- Settles O20. A protective switch-off is the hold of the channel with its cause shown and counted, which then pauses or latches; the end
of a hold is its release, and the state that the channel then takes leaves its protective record alone. -/
theorem protectionOfChannelsCompletes : Obligations.ProtectionOfChannelsCompletes := by
  refine ⟨?limit, ?exit, ?short, ?overload, ?thermal, ?latch, ?pauseEnd, ?pauseEndHot, ?release, ?clear, ?clean⟩
  case limit =>
    intro s p hp hstate
    obtain ⟨hshown, htimers, hout⟩ := s.stateShown_leaves hp { s.prot p with limitFrom := some s.now } (show 2 < 8 by decide)
    exact .of_ends _ (exec_currentLimitEntry hp hstate) ⟨hshown, congrArg ProtSt.limitFrom htimers, hout⟩
  case exit =>
    intro s p hp hstate
    obtain ⟨hshown, htimers, hout⟩ := s.stateShown_leaves hp { s.prot p with limitFrom := none } (show 1 < 8 by decide)
    exact .of_ends _ (exec_limitExit hp hstate) ⟨hshown, congrArg ProtSt.limitFrom htimers, hout⟩
  case short =>
    intro s p low hot hp hstate hatt
    obtain ⟨htrip, hshown, hcount, htill⟩ := State.protOff_pauses hp (show 1 < 8 by decide) low hot hatt
    exact .of_ends _ (exec_shortClassified hp hstate low hot) ⟨(State.pstate_of_lt hp _).trans hshown, hcount, htrip.cause,
      (State.out_of_lt hp _).trans htrip.out, htrip.held, htill, htrip.count, htrip.result.trans (causeResult_of_lt hp low).1⟩
  case overload =>
    intro s p u low hot hp hstate hfrom hdue hatt
    obtain ⟨htrip, hshown, hcount, htill⟩ := State.protOff_pauses hp (show 2 < 8 by decide) low hot hatt
    exact .of_ends _ (exec_overloadClassified hp hstate hfrom hdue low hot) ⟨(State.pstate_of_lt hp _).trans hshown, hcount, htrip.cause,
      (State.out_of_lt hp _).trans htrip.out, htrip.held, htill, htrip.count, htrip.result.trans (causeResult_of_lt hp low).2.1⟩
  case thermal =>
    intro s p low hp hstate hatt
    obtain ⟨htrip, hshown, hcount, htill⟩ := State.protOff_pauses hp (show 3 < 8 by decide) low true hatt
    obtain ⟨hwarn, hhot, hend, hkept, hattempts⟩ := (s.protOff p 3 low true).overheated_leaves p
    have htrip' := htrip.overheated
    exact .of_ends _ (exec_thermalShutdown hp hstate low) ⟨(State.pstate_of_lt hp _).trans (hkept.trans hshown), hattempts.trans hcount,
      htrip'.cause, (State.out_of_lt hp _).trans htrip'.out, htrip'.held, hend.trans htill, htrip'.count,
      htrip'.result.trans (causeResult_of_lt hp low).2.2, hwarn, hhot⟩
  case latch =>
    intro s p low hot hp hstate hatt
    obtain ⟨htrip, hshown, hlatch, hcount, hend⟩ := State.protOff_latches hp (show 1 < 8 by decide) low hot hatt
    exact .of_ends _ (exec_shortClassified hp hstate low hot) ⟨(State.pstate_of_lt hp _).trans hshown, hlatch,
      (State.out_of_lt hp _).trans htrip.out, htrip.held, hcount, hend⟩
  case pauseEnd =>
    intro s p u hp hstate hend hdue hhot
    have h := s.protRelease_leaves hp
    exact .of_ends _ (exec_retryPauseEnd_cool hp hstate hend hdue hhot) ⟨h.free, h.pauseEnd, h.cleanFrom⟩
  case pauseEndHot =>
    intro s p u hp hstate hend hdue hhot
    obtain ⟨hshown, htimers, hout⟩ := s.stateShown_leaves hp { s.prot p with pauseEnd := none } (show 4 < 8 by decide)
    exact .of_ends _ (exec_retryPauseEnd_hot hp hstate hend hdue hhot) ⟨hshown, congrArg ProtSt.pauseEnd htimers, hout⟩
  case release =>
    intro s p warm hp hstate
    have h := (s.cooled p warm).protRelease_leaves hp
    refine .of_ends _ (exec_thermalRelease hp hstate warm) ⟨h.free, h.pauseEnd, h.cleanFrom, ?_, ?_⟩
    · exact h.hot.trans (by rw [State.cooled, State.put_prot, State.prot_setProt_same])
    · refine (h.fields F.PSW_PROT_TWARN ⟨rfl, rfl, by decide⟩).trans ?_
      rw [State.cooled, State.get_put_same _ _ _ _ _ ⟨by decide, by decide⟩]
      cases warm <;> rfl
  case clear =>
    intro s init p hp hfab hon hmay hlow hhigh hhot
    have h := (s.cleared p).protRelease_leaves hp
    refine .of_ends _ (exec_protClear hp hfab hon hmay hlow hhigh hhot) ⟨h.free, h.pauseEnd, h.cleanFrom, ?_, ?_⟩
    · refine (h.fields F.PSW_PROT_ATT ⟨rfl, rfl, by decide⟩).trans ?_
      rw [State.cleared, State.get_put_apart _ F.PSW_PROT_LATCH F.PSW_PROT_ATT _ _ _ ⟨by decide, by decide⟩ rfl rfl (by decide),
        State.get_put_same _ _ _ _ _ ⟨by decide, by decide⟩]
      rfl
    · refine (h.fields F.PSW_PROT_LATCH ⟨rfl, rfl, by decide⟩).trans ?_
      rw [State.cleared, State.get_put_same _ _ _ _ _ ⟨by decide, by decide⟩]
      rfl
  case clean =>
    intro s p u hp hstate hfrom hdue
    refine .of_ends _ (exec_cleanExpiry hp hstate hfrom hdue) ⟨?_, ?_, ?_⟩
    · exact State.get_put_same _ F.PSW_PROT_ATT 0 p 0 ⟨by decide, by decide⟩
    · rw [State.withPending_prot, State.put_prot, State.prot_setProt_same]
    · rw [State.withPending_pstate, State.pstate_of_lt hp, State.pstate_of_lt hp,
        State.get_put_apart _ F.PSW_PROT_ATT F.PSW_PROT_STATE _ _ _ ⟨by decide, by decide⟩ rfl rfl (by decide), State.setProt_get]

end Sys2Proof.Machine
end

section
/-! A write of STOP beyond the commit point of PARK entry (R285, R531): a pair that parking has switched off coasts, whatever STOP says. -/

namespace Sys2Proof.Machine

theorem exec_stopWrite {s : State} {init : Init} {k : Nat} (brake : Bool) (hk : k < 4) (hfab : s.domOn domFAB = true)
    (hon : s.blockOn 3 = true) (hmay : s.mayWrite init .PSW_BPAIR k = true) : exec (.stopWrite init k brake) s =
      s.ends (s.bpairWrite k (setBits (s.word .PSW_BPAIR k 0 0) 1 1 (if brake then 1 else 0))) := by
  change execStopWrite init k brake s = _
  rw [execStopWrite, if_pos hk, State.owned_of_mayWrite (r := .PSW_BPAIR) 0 0 _ hfab hon hmay]

/-- The device in PARK entry just beyond the commit point, with the fabric and the power switches still on: pair 2 is in pair mode and off,
not park-held, and partition 0 owns the block. -/
def parkedPair : State :=
  (({ State.reset with
    dom := 2 ^ domFAB + 2 ^ domPWR
    cfg := { CfgState.reset with owners := [⟨0x12, 0, 3, 3⟩] }
    pmu := { State.reset.pmu with commitAt := some 0, handed := true } }.setPwr 2).put F.PMU_STATE_PHASE 4).put F.PSW_BPAIR_PAIR 1 2

theorem parkedPair_meets :
    parkedPair.domOn domFAB = true ∧ parkedPair.blockOn 3 = true ∧ parkedPair.mayWrite (.part 0) .PSW_BPAIR 2 = true ∧
      parkedPair.get F.PSW_BPAIR_PAIR 2 = 1 ∧ parkedPair.out 68 = 0 ∧ parkedPair.held 68 = false := by
  decide +kernel

theorem parkedPair_coasts :
    ((parkedPair.bpairWrite 2 (setBits (parkedPair.word .PSW_BPAIR 2 0 0) 1 1 1)).chan 68).brake = false := by
  decide +kernel

/-- Refutes O21: its clause on STOP says that a pair in its stop state that nothing holds brakes after STOP := 1. Beyond the commit point of
PARK entry a pair that is not park-held stays switched off (R531), and the write leaves it in coast; the clause lacks the premise that
parking has not switched the pair off. -/
theorem not_pairsDiagnosisAndTowlineComplete : ¬ Obligations.PairsDiagnosisAndTowlineComplete := by
  rintro ⟨-, -, hstop, -⟩
  obtain ⟨hfab, hon, hmay, hpair, hout, hheld⟩ := parkedPair_meets
  obtain ⟨hbrake, -, -⟩ := (hstop parkedPair (.part 0) 2 true (by decide) hfab hon hmay hpair hout hheld).of_ends_eq
    (exec_stopWrite true (by decide) hfab hon hmay)
  exact Bool.false_ne_true (parkedPair_coasts.symm.trans hbrake)

end Sys2Proof.Machine
end

section
/-! The end of a valve output's peak (R325) beyond the commit point of PARK entry (R531): a park-held output completes its peak and stays in
hold, whatever HMODE says (R543). -/

namespace Sys2Proof.Machine

theorem exec_commitPoint {s : State} (hpwr : s.pwr = 2) (hphase : s.get F.PMU_STATE_PHASE = 3) (hnone : s.pmu.commitAt = none) :
    exec .commitPoint s = s.ends s.commitPoint := by
  change execCommitPoint s = _
  rw [execCommitPoint, if_pos ⟨hpwr, hphase, by rw [hnone]; rfl⟩]

theorem exec_tpeakExpiry {s : State} {i : Nat} (hi : i < 24) (hphase : s.get F.VLV_CMD_PHASE i = 3) (hdue : s.phaseDue i = true) :
    exec (.tpeakExpiry i) s = s.ends (s.holdFromPeak i) := by
  change execTpeakExpiry i s = _
  rw [execTpeakExpiry, if_pos ⟨hi, hphase, hdue⟩]

/-! ### The timer of hold -/

theorem State.vout_congr {s t : State} (h : t.vlv = s.vlv) (i : Nat) : t.vout i = s.vout i := by rw [State.vout, State.vout, h]

@[simp] theorem State.withPending_vout (t : State) (q : List Instr) (i : Nat) : (t.withPending q).vout i = t.vout i := rfl

@[simp] theorem State.bankCurrent_vlv (s : State) (b : Nat) : (s.bankCurrent b).vlv = s.vlv := by
  unfold State.bankCurrent
  split <;> rfl

/-- When the hold that output i enters now ends by itself: after THOLD where HMODE is 1, and not at all once parking keeps the output. -/
def State.holdTill (s : State) (i : Nat) : Option Nat :=
  if bit (s.vout i).prof.toNat 31 && !(s.pmu.handed && s.parkHeld (80 + i)) then
    some (s.now + max 1 (bitsOf (s.vout i).time 15 0) * msUnits)
  else none

theorem State.enterHold_until (s : State) (i : Nat) : ((s.enterHold i).vout i).until_ = s.holdTill i := by
  rw [State.enterHold, State.vout_congr (State.bankCurrent_vlv _ _)]
  exact congrArg ValveOut.until_ (Sparse.at_set_same _ i { s.vout i with until_ := s.holdTill i } _)

/-- The current that hold begins with is shown away from PARKHELD. -/
theorem State.holdFromPeak_until (s : State) (i : Nat) : ((s.holdFromPeak i).vout i).until_ = s.holdTill i := by
  have hne : Reg.addr .VLV_DIAG i 0 0 ≠ Reg.addr .PMU_PARKHELD ((80 + i) / 32) 0 0 := by
    simp only [Reg.addr, Reg.geom]
    omega
  have hheld : ∀ v, ((s.put F.VLV_DIAG_ISENSE v i).tookFresh).parkHeld (80 + i) = s.parkHeld (80 + i) := fun v =>
    congrArg (fun w : Word => bit w.toNat ((80 + i) % 32)) (s.word_put_ne F.VLV_DIAG_ISENSE v i 0 .PMU_PARKHELD _ 0 0 hne)
  rw [State.holdFromPeak, State.enterHold_until, State.holdTill, hheld]
  rfl

/-! ### O22: a peak that ends beyond the commit point -/

/-- The device in PARK entry, about to reach its commit point. Output VB0.0, target 80, is park-held and in peak regulation, whose time is
over; its profile asks for a timed hold of 1 s. -/
def peakAtCommit : State :=
  ((((((({ State.reset with dom := 2 ^ domFAB + 2 ^ domPWR }.setPwr 2).put F.PMU_STATE_PHASE 3).setWord .PMU_PARKHELD 2 0 0 0x00010000#32).put
    F.VLV_CMD_PHASE 3 0).put F.VLV_CMD_OUT 1 0).put F.VLV_PROT_STATE 1 0).put F.VLV_BPROT_STATE 1 0).setVout 0
      { ValveOut.idle with until_ := some 0, prof := 0x80000000#32, time := 1000#32 }

theorem peakAtCommit_passes : Answers .commitPoint peakAtCommit (fun s => s.get F.VLV_CMD_PHASE 0 = 3 ∧ s.phaseDue 0 = true ∧
    bit (s.vout 0).prof.toNat 31 = true ∧ s.holdTill 0 = none) :=
  .of_ends _ (exec_commitPoint (by decide +kernel) (by decide +kernel) rfl) (by decide +kernel)

/-- Refutes O22: its clause on the end of peak regulation says that HMODE 1 gives hold a timer. In the state that the commit point of PARK entry
leaves, a park-held output in peak completes its peak and then stays in hold (R543), so no timer runs. The clause lacks the premise that
parking does not keep the output. -/
theorem not_valveCommandsComplete : ¬ Obligations.ValveCommandsComplete := by
  rintro ⟨-, -, -, hpeak, -⟩
  obtain ⟨s, -, hphase, hdue, htimed, hnever⟩ := peakAtCommit_passes
  obtain ⟨-, htill, -⟩ := (hpeak s 0 (by decide) hphase hdue).of_ends_eq (exec_tpeakExpiry (by decide) hphase hdue)
  rw [State.withPending_vout, s.holdFromPeak_until, hnever, if_pos htimed] at htill
  exact Option.some_ne_none _ htill.symm

end Sys2Proof.Machine
end

section
/-! A STOP of a stencil whose LGT_STNCTL holds the GO bit (R378): the write that carries both is a GO on a running stencil, and is dropped. -/

namespace Sys2Proof.Machine

/-- STOP is a write of LGT_STNCTL with STOP beside what the word holds. -/
theorem exec_stencilStop {s : State} {init : Init} {i : Nat} (hi : i < 16) (hfab : s.domOn domFAB = true) (hon : s.blockOn 5 = true)
    (hmay : s.mayWrite init .LGT_STNCTL i = true) :
    exec (.stencilStop init i) s = s.ends (s.stnWrite i (s.word .LGT_STNCTL i 0 0 ||| 0x40000000)) := by
  change execStencilStop init i s = _
  rw [execStencilStop, if_pos hi, State.owned_of_mayWrite (r := .LGT_STNCTL) 0 0 _ hfab hon hmay]

/-- GO on a stencil that runs drops the write, whatever else it carries (R378). -/
theorem State.stnWrite_dropped {s : State} {i : Nat} {v : Word} (hgo : bitsOf v 31 31 = 1) (hruns : s.get F.LGT_STNSTAT_STATE i = 2) :
    s.stnWrite i v = s.accErr 5 :=
  if_pos ⟨hgo, .inr hruns⟩

theorem State.stnState_accErr (s : State) {i : Nat} (hi : i < 16) :
    (s.accErr 5).get F.LGT_STNSTAT_STATE i = s.get F.LGT_STNSTAT_STATE i := by
  have hblk : Reg.addr .ERR_BLK0 5 0 0 ≠ Reg.addr .LGT_STNSTAT i 0 0 := by simp only [Reg.addr, Reg.geom]; omega
  have hcum : Reg.addr .ERR_CUM 18 0 0 ≠ Reg.addr .LGT_STNSTAT i 0 0 := by simp only [Reg.addr, Reg.geom]; omega
  exact ((s.sameAt_bump (f := F.ERR_BLK0_ACCESS) hblk).trans (State.sameAt_bump (f := F.ERR_CUM_COUNT) _ hcum)).get

/-- Stencil 0 runs and is partition 0's. Its LGT_STNCTL holds GO, a write-only bit that no write stores. -/
def goStored : State :=
  (({ State.reset with
    dom := 2 ^ domFAB + 2 ^ domLGT
    cfg := { CfgState.reset with owners := [⟨0x0B, 0, 160, 160⟩] } }).put F.LGT_STNSTAT_STATE 2 0).put F.LGT_STNCTL_GO 1 0

theorem goStored_meets :
    goStored.domOn domFAB = true ∧ goStored.blockOn 5 = true ∧ goStored.mayWrite (.part 0) .LGT_STNCTL 0 = true ∧
      goStored.get F.LGT_STNSTAT_STATE 0 = 2 ∧ bitsOf (goStored.word .LGT_STNCTL 0 0 0 ||| 0x40000000) 31 31 = 1 := by
  decide +kernel

/-- Refutes O24: its clause on STOP takes in a state, which no run reaches, whose LGT_STNCTL holds the write-only bit GO. The command
writes STOP beside what the word holds, so that the write carries GO too; GO on a running stencil is dropped (R378), and the stencil
runs on. The clause lacks the premise that the word holds no GO. -/
theorem not_windowsStencilsAndNeighbourTestComplete : ¬ Obligations.WindowsStencilsAndNeighbourTestComplete := by
  rintro ⟨-, -, -, -, hstop, -⟩
  obtain ⟨hfab, hon, hmay, hruns, hgo⟩ := goStored_meets
  have hi : 0 < 16 := by decide
  obtain ⟨hstopped, -, -⟩ := (hstop goStored (.part 0) 0 hi hfab hon hmay (.inr hruns)).of_ends_eq (exec_stencilStop hi hfab hon hmay)
  rw [State.withPending_get, State.stnWrite_dropped hgo hruns, State.stnState_accErr _ hi, hruns] at hstopped
  exact absurd hstopped (by decide)

end Sys2Proof.Machine
end

section
/-! A change of an LED channel: what its edges, its light and its holds leave of the registers and of the schedule plane (R233, R354
to R363). Channels are membership bits m, at target index m + 128. -/

namespace Sys2Proof.Machine

/-! ### What a change of one channel leaves -/

/-- An address that no change of LED channel m writes: no edge stamp, none of the system's own, not the channel's LGT_STATE and, of an AM
channel, not its LGT_AMDIAG. -/
def ledAway (m a : Nat) : Prop :=
  offEdges a ∧ Reg.addr .LGT_STATE m 0 0 ≠ a ∧ (128 ≤ m → Reg.addr .LGT_AMDIAG (m - 128) 0 0 ≠ a)

/-- Of the registers only those of LED channel m and edge stamps have changed, of the schedule plane only what is known of terms. -/
structure State.LedOnly (s t : State) (m : Nat) : Prop where
  words : ∀ a, ledAway m a → s.sameAt t a
  sch : ∃ tr, t.sch = { s.sch with truth := tr }

theorem State.LedOnly.trans {s t u : State} {m : Nat} (h : s.LedOnly t m) (h' : t.LedOnly u m) : s.LedOnly u m := by
  obtain ⟨tr, hsch⟩ := h.sch
  obtain ⟨tr', hsch'⟩ := h'.sch
  exact ⟨fun a ha => (h.words a ha).trans (h'.words a ha), tr', by rw [hsch', hsch]⟩

theorem State.LedOnly.chan {s t : State} {m : Nat} (h : s.LedOnly t m) (x : Nat) : t.chan x = s.chan x := by
  obtain ⟨tr, hsch⟩ := h.sch
  exact State.chan_congr (by rw [hsch]) x

theorem State.LedOnly.get {s t : State} {m : Nat} (h : s.LedOnly t m) {f : Fld} {i j : Nat} (ha : ledAway m (f.reg.addr i j f.word)) :
    t.get f i j = s.get f i j := (h.words _ ha).get

theorem State.ledOnly_of_regs {s t : State} (m : Nat) (hregs : t.regs = s.regs) (hsch : t.sch = s.sch) : s.LedOnly t m :=
  ⟨fun a _ => State.sameAt_of_regs hregs a, _, hsch⟩

theorem State.ledOnly_rfl (s : State) (m : Nat) : s.LedOnly s m := State.ledOnly_of_regs m rfl rfl

theorem State.ledOnly_ite {c : Prop} [Decidable c] {s t u : State} {m : Nat} (ht : s.LedOnly t m) (hu : s.LedOnly u m) :
    s.LedOnly (if c then t else u) m := by
  split
  · exact ht
  · exact hu

theorem State.ledOnly_setLed (s : State) (m k : Nat) (v : LedCh) : s.LedOnly (s.setLed k v) m := State.ledOnly_of_regs m rfl rfl

theorem State.ledOnly_foldl {α : Type} {m : Nat} (l : List α) {f : State → α → State} (h : ∀ (t : State) a, t.LedOnly (f t a) m)
    (s : State) : s.LedOnly (l.foldl f s) m :=
  List.foldlRecOn (motive := fun t => s.LedOnly t m) l f (s.ledOnly_rfl m) fun t ht a _ => ht.trans (h t a)

/-- A field of the channel's LGT_STATE is set. -/
theorem State.ledOnly_put (s : State) {f : Fld} (hr : f.reg = .LGT_STATE) (hw : f.word = 0) (v m : Nat) : s.LedOnly (s.put f v m) m :=
  ⟨fun _ ⟨_, hne, _⟩ => s.sameAt_put v (by rwa [hr, hw]), _, rfl⟩

/-! ### LED targets -/

theorem isPower_ledTarget (m : Nat) : isPower (m + 128) = false := by
  have h1 : ¬ m + 128 < 60 := by omega
  have h2 : ¬ m + 128 < 72 := by omega
  simp [isPower, h1, h2]

theorem isValve_ledTarget (m : Nat) : isValve (m + 128) = false := by
  have h : ¬ m + 128 < 104 := by omega
  simp [isValve, h]

section
variable {m : Nat} (hm : isLed (m + 128) = true)
include hm

theorem isLed_bit : m < 16 ∨ 32 ≤ m ∧ m < 164 := by
  simp only [isLed, Bool.or_eq_true, Bool.and_eq_true, decide_eq_true_eq] at hm
  omega

theorem State.out_of_isLed (s : State) : s.out (m + 128) = s.get F.LGT_STATE_OUT m := by
  have hbit := isLed_bit hm
  rw [State.out, if_neg (by omega), if_neg (by omega), if_pos (by omega), Nat.add_sub_cancel]

theorem State.setOut_of_isLed (s : State) (v : Nat) : s.setOut (m + 128) v = (s.put F.LGT_STATE_OUT v m).termsSeen := by
  have hbit := isLed_bit hm
  rw [State.setOut, State.putOut, if_neg (by omega), if_neg (by omega), if_pos (by omega), Nat.add_sub_cancel]

theorem addr_ledState_offEdges : offEdges (Reg.addr .LGT_STATE m 0 0) := by
  have hbit := isLed_bit hm
  simp only [offEdges, Reg.addr, Reg.geom]
  omega

/-! ### Edges, holds and light -/

theorem State.ledOnly_edge (s : State) (rise : Bool) (a : Act) (shift : Int) : s.LedOnly (s.edge (m + 128) rise a shift) m := by
  have hbit := isLed_bit hm
  exact ⟨fun b ⟨hoff, _, _⟩ => s.sameAt_edge hoff (by omega) rise a shift, _, s.edge_sch _ rise a shift⟩

theorem State.ledOnly_setOut (s : State) (v : Nat) : s.LedOnly (s.setOut (m + 128) v) m := by
  refine ⟨fun b hb => ?_, s.setOut_sch _ v⟩
  rw [State.setOut_of_isLed hm]
  exact ((s.ledOnly_put (f := F.LGT_STATE_OUT) rfl rfl v m).words b hb).trans (State.sameAt_of_regs (State.termsSeen_regs _) b)

theorem State.ledOnly_putHeld (s : State) : s.LedOnly (s.putHeld (m + 128)) m := by
  have hbit := isLed_bit hm
  rw [State.putHeld, if_neg (by omega), if_neg (by omega), if_pos (by omega), Nat.add_sub_cancel]
  exact (s.ledOnly_put (f := F.LGT_STATE_HELD) rfl rfl _ m).trans (State.ledOnly_put _ (f := F.LGT_STATE_PSTATE) rfl rfl _ m)

end

theorem State.ledOnly_svcTurnOn (s : State) (x m : Nat) : s.LedOnly (s.svcTurnOn x) m :=
  ⟨fun _ ⟨hoff, _, _⟩ => s.sameAt_svcTurnOn hoff x, _, s.svcTurnOn_sch x⟩

theorem State.ledOnly_ledSetLevel (s : State) (m l : Nat) : s.LedOnly (s.ledSetLevel m l) m :=
  State.ledOnly_ite (s.ledOnly_rfl m) (s.ledOnly_put (f := F.LGT_STATE_LEVEL) rfl rfl l m)

/-- CLAMP of an AM channel shows whether its level was clamped. -/
theorem State.ledOnly_clamp (s : State) {m : Nat} (hm : 128 ≤ m) (v : Nat) : s.LedOnly (s.put F.LGT_AMDIAG_CLAMP v (m - 128)) m :=
  ⟨fun _ ⟨_, _, hne⟩ => s.sameAt_put v (hne hm), _, rfl⟩

theorem State.ledOnly_ledFollow (s : State) (m l : Nat) : s.LedOnly (s.ledFollow m l) m := by
  unfold State.ledFollow
  split
  · exact s.ledOnly_rfl m
  split
  · next hm => exact ((s.ledOnly_setLed m m _).trans (State.ledOnly_clamp _ hm _)).trans (State.ledOnly_setLed _ m m _)
  · exact (s.ledOnly_setLed m m _).trans (State.ledOnly_setLed _ m m _)

theorem State.ledOnly_segDuty (s : State) (n m : Nat) : s.LedOnly (s.segDuty n) m :=
  State.ledOnly_foldl _ (fun t _ => t.ledOnly_setLed m _ _) s

theorem State.ledOnly_lockRefresh (s : State) (m : Nat) : s.LedOnly (s.lockRefresh m) m :=
  State.ledOnly_ite (s.ledOnly_rfl m) (s.ledOnly_put (f := F.LGT_STATE_LOCKED) rfl rfl _ m)

theorem State.ledOnly_ledStart (s : State) (m slot : Nat) : s.LedOnly (s.ledStart m slot) m :=
  (((s.ledOnly_ledFollow m _).trans (State.ledOnly_put _ (f := F.LGT_STATE_RANGE) rfl rfl _ m)).trans (State.ledOnly_setLed _ m m _)).trans
    (State.ledOnly_segDuty _ m m)

theorem State.ledOnly_settleLevel (s : State) (m : Nat) : s.LedOnly (s.settleLevel (m + 128)) m := by
  simp only [State.settleLevel, Nat.add_sub_cancel]
  refine State.ledOnly_ite ?_ (s.ledOnly_rfl m)
  have hdefault := State.ledOnly_ite (c := s.byDefault (m + 128) = true) (s.ledOnly_ledSetLevel m (s.get F.LGT_DEF_DEFLVL m)) (s.ledOnly_rfl m)
  exact State.ledOnly_ite hdefault (hdefault.trans (State.ledOnly_ledFollow _ m _))

/-! ### Drives and requests -/

/-- An action that is no PULSE and that no table counts changes an LED channel unless it stands so: the postilion and the diagnosis
have no part in it. -/
theorem State.request_ledTarget (s : State) (m st : Nat) {a : Act} (hsrc : a.src ≠ 4) (hwidth : a.width = none) :
    s.request (m + 128) st a = if s.stands (m + 128) st then s else s.drive (m + 128) st a := by
  have hcount : s.countExec a = s := if_neg hsrc
  have htrail : ∀ t : State, t.trailing (m + 128) a = t := fun t => by
    simp [State.trailing, State.trailFrom, isValve_ledTarget m, hwidth]
  have hnone : s.stretches (m + 128) st a = none := by simp [State.stretches, isPower_ledTarget m]
  have hcounted : s.counted (m + 128) st a = false := by simp [State.counted, isPower_ledTarget m]
  simp only [State.request, hcount, htrail, hcounted, State.execute, State.change, hnone, Bool.false_eq_true, if_false, ite_self]

section
variable {m : Nat} (hm : isLed (m + 128) = true)
include hm

theorem State.ledOnly_driveLed (s : State) (st : Nat) (a : Act) : s.LedOnly (s.driveLed m st a) m := by
  have hchange : ∀ (u : State) (v : Nat) (rise : Bool), u.LedOnly ((u.setOut (m + 128) v).edge (m + 128) rise a) m := fun u v rise =>
    (u.ledOnly_setOut hm v).trans (State.ledOnly_edge hm _ rise a 0)
  unfold State.driveLed
  dsimp only
  split
  · refine (s.ledOnly_setLed m m _).trans (State.ledOnly_ite (State.ledOnly_rfl _ m) ?_)
    exact (hchange _ 0 false).trans (State.ledOnly_put _ (f := F.LGT_STATE_LOCKED) rfl rfl 0 m)
  · refine State.ledOnly_ite (s.ledOnly_rfl m) (State.ledOnly_ite (s.ledOnly_setLed m m _) ?_)
    refine State.ledOnly_ite (hchange s 1 true) ?_
    exact ((hchange s 1 true).trans (State.ledOnly_ledStart _ m _)).trans (State.ledOnly_lockRefresh _ m)

theorem State.drive_of_isLed (s : State) (st : Nat) (a : Act) :
    s.drive (m + 128) st a = (if st = 0 then s else s.svcTurnOn (m + 128)).driveLed m st a := by
  simp only [State.drive, isPower_ledTarget m, isValve_ledTarget m, hm, Bool.false_eq_true, if_false, if_true, Nat.add_sub_cancel]

theorem State.ledOnly_drive (s : State) (st : Nat) (a : Act) : s.LedOnly (s.drive (m + 128) st a) m := by
  rw [State.drive_of_isLed hm]
  exact (State.ledOnly_ite (s.ledOnly_rfl m) (s.ledOnly_svcTurnOn _ m)).trans (State.ledOnly_driveLed hm _ st a)

/-- A channel that takes its state at the end of a hold (R235). -/
theorem State.ledOnly_settle (s : State) : s.LedOnly (s.settle (m + 128) 7) m := by
  have hlevel := (s.ledOnly_putHeld hm).trans (State.ledOnly_settleLevel _ m)
  have hsrc : ∀ b : Bool, (if b = true then 6 else 7) ≠ 4 := by decide
  simp only [State.settle, Nat.reduceEqDiff, if_false]
  split
  · refine hlevel.trans ?_
    rw [State.request_ledTarget _ m _ (hsrc _) rfl]
    exact State.ledOnly_ite (State.ledOnly_rfl _ m) (State.ledOnly_drive hm _ _ _)
  · exact hlevel

/-! ### A hold and its end -/

theorem State.driveLed_off_out (s : State) (a : Act) : (s.driveLed m 0 a).out (m + 128) = 0 := by
  simp only [State.driveLed, if_true]
  generalize s.setLed m { s.led m with starting := none, lit := false } = u
  split
  · next h => exact h
  · have hoff := addr_ledState_offEdges hm
    have hbit := isLed_bit hm
    rw [State.out_of_isLed hm, State.get_put_apart _ F.LGT_STATE_LOCKED F.LGT_STATE_OUT _ _ _ ⟨by decide, by decide⟩ rfl rfl (by decide),
      (State.sameAt_edge hoff _ (by omega) false a 0).get (f := F.LGT_STATE_OUT), State.setOut_of_isLed hm,
      (State.sameAt_of_regs (State.termsSeen_regs _) _).get (f := F.LGT_STATE_OUT), State.get_put_same _ _ _ _ _ ⟨by decide, by decide⟩,
      Nat.zero_mod]

end

theorem State.setHold_regs (s : State) (x reason : Nat) (b : Bool) : (s.setHold x reason b).regs = s.regs := by
  rw [State.setHold, State.termsSeen_regs]
  rfl

theorem State.setHold_chan_ne (s : State) {x y : Nat} (reason : Nat) (b : Bool) (h : x ≠ y) : (s.setHold x reason b).chan y = s.chan y := by
  obtain ⟨tr, hsch⟩ := (s.setChan x { s.chan x with prot := setBit (s.chan x).prot reason b }).termsSeen_sch
  rw [State.setHold, State.chan_congr (s := s.setChan x _) (by rw [hsch])]
  exact Sparse.at_set_ne _ _ _ _ _ h

/-- A reason that holds LED channel m off is set or cleared, and nothing else has changed but registers of the channel. -/
structure State.LedHold (s t : State) (m reason : Nat) (b : Bool) : Prop where
  words : ∀ a, ledAway m a → s.sameAt t a
  reason : bit (t.chan (m + 128)).prot reason = b
  others : ∀ x, x ≠ m + 128 → t.chan x = s.chan x

theorem State.LedHold.get {s t : State} {m reason : Nat} {b : Bool} (h : s.LedHold t m reason b) {f : Fld} {i j : Nat}
    (ha : ledAway m (f.reg.addr i j f.word)) : t.get f i j = s.get f i j := (h.words _ ha).get

theorem State.LedOnly.hold {s t : State} {m reason : Nat} {b : Bool} (h : (s.setHold (m + 128) reason b).LedOnly t m) :
    s.LedHold t m reason b where
  words a ha := (State.sameAt_of_regs (s.setHold_regs _ _ _) a).trans (h.words a ha)
  reason := by
    rw [h.chan, State.setHold_chan]
    cases b
    · exact bit_setBit_false _ _
    · exact bit_setBit_same _ _
  others x hx := (h.chan x).trans (s.setHold_chan_ne reason b hx.symm)

section
variable {m : Nat} (hm : isLed (m + 128) = true)
include hm

theorem State.holdOff_led (s : State) (reason : Nat) :
    (s.holdOff (m + 128) reason).out (m + 128) = 0 ∧ s.LedHold (s.holdOff (m + 128) reason) m reason true := by
  refine ⟨?_, ((State.ledOnly_putHeld hm _).trans (State.ledOnly_drive hm _ 0 _)).hold⟩
  rw [State.holdOff, State.drive_of_isLed hm, if_pos rfl]
  exact State.driveLed_off_out hm _ _

theorem State.holdEnd_led (s : State) (reason : Nat) : s.LedHold (s.holdEnd (m + 128) reason) m reason false :=
  (State.ledOnly_settle hm _).hold

end

end Sys2Proof.Machine
end

section
/-! Results and protective switch-offs of LED channels: what RESULT, a fault and CLR leave (R364, R365, R379 to R381). -/

namespace Sys2Proof.Machine

/-! ### RESULT (R381) -/

/-- RESULT of LED channel m, and its index in its register. -/
def resultFld (m : Nat) : Fld := if m < 16 then F.LGT_SDIAG_RESULT else if m < 128 then F.LGT_MXDIAG_RESULT else F.LGT_AMDIAG_RESULT
def resultIdx (m : Nat) : Nat := if m < 16 then m else if m < 128 then m - 32 else m - 128

theorem resultFld_spec (m : Nat) : (resultFld m).fits ∧ (resultFld m).lo = 28 ∧ (resultFld m).hi = 31 := by
  unfold resultFld
  split
  · exact ⟨⟨by decide, by decide⟩, rfl, rfl⟩
  split
  · exact ⟨⟨by decide, by decide⟩, rfl, rfl⟩
  · exact ⟨⟨by decide, by decide⟩, rfl, rfl⟩

/-- The word that holds RESULT of channel m. -/
def resultAddr (m : Nat) : Nat :=
  if m < 16 then Reg.addr .LGT_SDIAG m 0 0 else if m < 128 then Reg.addr .LGT_MXDIAG (m - 32) 0 0 else Reg.addr .LGT_AMDIAG (m - 128) 0 0

theorem resultFld_addr (m : Nat) : (resultFld m).reg.addr (resultIdx m) 0 (resultFld m).word = resultAddr m := by
  unfold resultFld resultIdx resultAddr
  split
  · rfl
  split
  · rfl
  · rfl

/-- RESULT of channel m has been set; of the registers below the system's own nothing else has changed, and the schedule plane has not. -/
structure State.Resulted (s t : State) (m r : Nat) : Prop where
  result : t.get (resultFld m) (resultIdx m) = r
  beside : ∀ f : Fld, f.reg = (resultFld m).reg → f.word = (resultFld m).word → f.hi < 28 → t.get f (resultIdx m) = s.get f (resultIdx m)
  words : ∀ (r' : Reg) (i j w : Nat), r'.addr i j w < 0x40F00000 → resultAddr m ≠ r'.addr i j w → t.word r' i j w = s.word r' i j w
  sch : t.sch = s.sch

theorem State.Resulted.get {s t : State} {m r : Nat} (h : s.Resulted t m r) {f : Fld} {i j : Nat}
    (ha : f.reg.addr i j f.word < 0x40F00000 ∧ resultAddr m ≠ f.reg.addr i j f.word) : t.get f i j = s.get f i j := by
  rw [State.get, State.get, h.words _ _ _ _ ha.1 ha.2]

theorem State.ledResult_eq (s : State) (m r : Nat) : s.ledResult m r =
    if s.get (resultFld m) (resultIdx m) = r then s
    else (s.put (resultFld m) r (resultIdx m)).eventTo (ledBitSpec m) 5 1 (m + 128) r := rfl

theorem resultOf_string {m : Nat} (hm : m < 16) :
    resultFld m = F.LGT_SDIAG_RESULT ∧ resultIdx m = m ∧ resultAddr m = Reg.addr .LGT_SDIAG m 0 0 :=
  ⟨if_pos hm, if_pos hm, if_pos hm⟩

theorem resultOf_segment {g : Nat} (hg : g < 96) :
    resultFld (32 + g) = F.LGT_MXDIAG_RESULT ∧ resultIdx (32 + g) = g ∧ resultAddr (32 + g) = Reg.addr .LGT_MXDIAG g 0 0 := by
  have h1 : ¬ 32 + g < 16 := by omega
  have h2 : 32 + g < 128 := by omega
  simp only [resultFld, resultIdx, resultAddr, h1, h2, if_false, if_true, Nat.add_sub_cancel_left, and_self]

theorem resultOf_am (i : Nat) :
    resultFld (128 + i) = F.LGT_AMDIAG_RESULT ∧ resultIdx (128 + i) = i ∧ resultAddr (128 + i) = Reg.addr .LGT_AMDIAG i 0 0 := by
  have h1 : ¬ 128 + i < 16 := by omega
  have h2 : ¬ 128 + i < 128 := by omega
  simp only [resultFld, resultIdx, resultAddr, h1, h2, if_false, Nat.add_sub_cancel_left, and_self]

theorem resultAddr_lt {m : Nat} (hm : m < 164) : resultAddr m < 0x40F00000 := by
  simp only [resultAddr, Reg.addr, Reg.geom]
  split_ifs <;> omega

theorem State.ledResult_leaves (s : State) {m r : Nat} (hm : m < 164) (hr : r < 16) : s.Resulted (s.ledResult m r) m r := by
  obtain ⟨hfits, hlo, hhi⟩ := resultFld_spec m
  rw [State.ledResult_eq]
  split
  · next h => exact ⟨h, fun _ _ _ _ => rfl, fun _ _ _ _ _ _ => rfl, rfl⟩
  · have hlow := resultAddr_lt hm
    have htold := (s.put (resultFld m) r (resultIdx m)).aside_eventTo (ledBitSpec m) 5 1 (m + 128) r 0
    refine ⟨?_, fun f hreg hword hf => ?_, fun r' i j w ha hne => ?_, by simp⟩
    · rw [htold.get (by rwa [resultFld_addr]), State.get_put_same _ _ _ _ _ hfits, hlo, hhi]
      exact Nat.mod_eq_of_lt hr
    · rw [htold.get (by rwa [hreg, hword, resultFld_addr]), State.get_put_apart s _ f _ _ 0 hfits hreg hword (.inr (by omega))]
    · rw [htold.words _ _ _ _ ha, (s.sameAt_put r (by rwa [resultFld_addr])).word]

/-- RESULT of a channel lies apart from LGT_STATE of every one and from LGT_STAT. -/
theorem resultAddr_ne {m : Nat} (hm : m < 164) :
    (∀ k < 164, resultAddr m ≠ Reg.addr .LGT_STATE k 0 0) ∧ resultAddr m ≠ Reg.addr .LGT_STAT 0 0 0 ∧
      (∀ k < 16, resultAddr m ≠ Reg.addr .LGT_SPROT k 0 0) ∧ ∀ k < 36, resultAddr m ≠ Reg.addr .LGT_APROT k 0 0 := by
  refine ⟨fun k _ => ?_, ?_, fun k _ => ?_, fun k _ => ?_⟩ <;> simp only [resultAddr, Reg.addr, Reg.geom] <;> split_ifs <;> omega

theorem ledState_lt {k : Nat} (hk : k < 164) : Reg.addr .LGT_STATE k 0 0 < 0x40F00000 := by
  simp only [Reg.addr, Reg.geom]
  omega

/-- RESULT is no output. -/
theorem State.Resulted.out {s t : State} {m r k : Nat} (h : s.Resulted t m r) (hm : m < 164) (hk : isLed (k + 128) = true) :
    t.out (k + 128) = s.out (k + 128) := by
  have hbit := isLed_bit hk
  obtain ⟨hstate, -⟩ := resultAddr_ne hm
  rw [State.out_of_isLed hk, State.out_of_isLed hk]
  exact h.get ⟨ledState_lt (by omega), hstate k (by omega)⟩

theorem State.Resulted.aside {s t u : State} {m r : Nat} (hm : m < 164) (h : s.Resulted t m r) (ha : t.Aside u) : s.Resulted u m r where
  result := by rw [ha.get (by rw [resultFld_addr]; exact resultAddr_lt hm), h.result]
  beside f hr hw hf := by rw [ha.get (by rw [hr, hw, resultFld_addr]; exact resultAddr_lt hm), h.beside f hr hw hf]
  words r' i j w hlow hne := (ha.words r' i j w hlow).trans (h.words r' i j w hlow hne)
  sch := ha.sch.trans h.sch

/-! ### Protective switch-offs (R379, R380) -/

/-- A switch-off is counted and logged. -/
def State.tripTold (s : State) (i m cause : Nat) : State := ((s.cum 15).cum 14).logEntry 12 5 i (m + 128) cause

theorem State.aside_tripTold (s : State) (i m cause : Nat) : s.Aside (s.tripTold i m cause) :=
  ((s.aside_cum 15).trans (State.aside_cum _ 14)).trans (State.aside_logEntry _ _ _ _ _ _)

/-- The count of a string's fault: shorts and opens have a counter of their own. -/
def State.tripCounted (s : State) (m cause : Nat) : State :=
  if cause = 1 then s.bump F.LGT_SCNT_SHORTS m else if cause = 2 then s.bump F.LGT_SCNT_OPENS m else s

/-- RESULT of a string after a fault. -/
def tripResult (cause : Nat) : Nat := match cause with | 1 => 3 | 2 => 2 | _ => 4

/-- A channel whose latch shows a cause, held off. -/
def State.stringHeld (s : State) (m cause : Nat) : State :=
  ((s.put F.LGT_SPROT_LATCH 1 m).put F.LGT_SPROT_CAUSE cause m).holdOff (m + 128) pOff

theorem State.ledTrip_string (s : State) {m : Nat} (hm : m < 16) (cause : Nat) :
    s.ledTrip m cause = (((s.stringHeld m cause).tripCounted m cause).ledResult m (tripResult cause)).tripTold m m cause := by
  simp only [State.ledTrip, hm, if_true, true_and]
  rfl

/-- The count of a fault changes LGT_SCNT of its string alone. -/
theorem State.tripCounted_get (s : State) (m cause : Nat) {f : Fld} (h : Reg.addr .LGT_SCNT m 0 0 ≠ f.reg.addr m 0 f.word) :
    (s.tripCounted m cause).get f m = s.get f m := by
  unfold State.tripCounted
  split
  · exact (s.sameAt_bump (f := F.LGT_SCNT_SHORTS) h).get
  split
  · exact (s.sameAt_bump (f := F.LGT_SCNT_OPENS) h).get
  · rfl

@[simp] theorem State.tripCounted_sch (s : State) (m cause : Nat) : (s.tripCounted m cause).sch = s.sch := by
  simp [State.tripCounted]

theorem tripResult_lt (cause : Nat) : tripResult cause < 16 := by
  unfold tripResult
  split <;> decide

/-- An AM channel held off for a cause that its latch shows. -/
def State.amHeld (s : State) (i cause : Nat) : State :=
  ((s.put F.LGT_APROT_LATCH 1 i).put F.LGT_APROT_CAUSE cause i).holdOff (128 + i + 128) pOff

theorem State.ledTrip_am (s : State) (i cause : Nat) :
    s.ledTrip (128 + i) cause = ((s.amHeld i cause).ledResult (128 + i) (if cause = 4 then 3 else 4)).tripTold i (128 + i) cause := by
  have hm : ¬ 128 + i < 16 := by omega
  simp only [State.ledTrip, hm, if_false, false_and, Nat.add_sub_cancel_left]
  rfl

theorem isLed_string {m : Nat} (hm : m < 16) : isLed (m + 128) = true := by simp [isLed]; omega
theorem isLed_segment {g : Nat} (hg : g < 96) : isLed (32 + g + 128) = true := by simp [isLed]; omega
theorem isLed_am {i : Nat} (hi : i < 36) : isLed (128 + i + 128) = true := by simp [isLed]; omega

/-- The registers of strings, segments, curves and stencils, and LGT_STAT, lie away from every channel's own. -/
theorem ledAway_of_between {m a : Nat} (hm : isLed (m + 128) = true)
    (h : 0x40510000 ≤ a ∧ a < 0x40530000 ∨ 0x40540000 ≤ a ∧ a < 0x40600000) : ledAway m a := by
  have hbit := isLed_bit hm
  simp only [ledAway, offEdges, Reg.addr, Reg.geom]
  omega

/-- The addresses of the registers of channel i, string i, segment i and AM channel i. -/
theorem addr_lgt (i : Nat) :
    Reg.addr .LGT_STATE i 0 0 = 0x40500004 + 0x10 * i ∧ Reg.addr .LGT_SPROT i 0 0 = 0x40510000 + 0x40 * i ∧
      Reg.addr .LGT_SDIAG i 0 0 = 0x40510008 + 0x40 * i ∧ Reg.addr .LGT_SCNT i 0 0 = 0x4051000c + 0x40 * i ∧
      Reg.addr .LGT_MXDIAG i 0 0 = 0x40520000 + 4 * i ∧ Reg.addr .LGT_APROT i 0 0 = 0x40530000 + 0x10 * i ∧
      Reg.addr .LGT_AMDIAG i 0 0 = 0x40530004 + 0x10 * i := by
  simp only [Reg.addr, Reg.geom]
  omega

/-- What a switch-off of string m leaves: the string off and held, the cause in its latch and in RESULT, and its other findings as they
were. -/
structure State.StringTripped (s t : State) (m cause : Nat) : Prop where
  out : t.out (m + 128) = 0
  held : bit (t.chan (m + 128)).prot pOff = true
  latch : t.get F.LGT_SPROT_LATCH m = 1
  shown : t.get F.LGT_SPROT_CAUSE m = cause
  result : t.get F.LGT_SDIAG_RESULT m = tripResult cause
  findings : ∀ f : Fld, f.reg = .LGT_SDIAG → f.word = 0 → f.hi < 28 → t.get f m = s.get f m

section
variable {m : Nat} (hm : m < 16)
include hm

theorem State.stringHeld_leaves (s : State) {cause : Nat} (hcause : cause < 16) :
    (s.stringHeld m cause).out (m + 128) = 0 ∧ bit ((s.stringHeld m cause).chan (m + 128)).prot pOff = true ∧
      (s.stringHeld m cause).get F.LGT_SPROT_LATCH m = 1 ∧ (s.stringHeld m cause).get F.LGT_SPROT_CAUSE m = cause ∧
      ∀ f : Fld, f.word = 0 → f.reg = .LGT_SDIAG ∨ f.reg = .LGT_SCNT → (s.stringHeld m cause).get f m = s.get f m := by
  obtain ⟨-, hprot, hdiag, hcnt, -⟩ := addr_lgt m
  have hled := isLed_string hm
  obtain ⟨hout, hheld⟩ := State.holdOff_led hled ((s.put F.LGT_SPROT_LATCH 1 m).put F.LGT_SPROT_CAUSE cause m) pOff
  have haway : ledAway m (Reg.addr .LGT_SPROT m 0 0) := ledAway_of_between hled (by omega)
  refine ⟨hout, hheld.reason, ?_, ?_, fun f hw hr => ?_⟩
  · rw [State.stringHeld, hheld.get (f := F.LGT_SPROT_LATCH) haway,
      State.get_put_apart _ F.LGT_SPROT_CAUSE F.LGT_SPROT_LATCH _ _ _ ⟨by decide, by decide⟩ rfl rfl (by decide)]
    exact State.get_put_same _ F.LGT_SPROT_LATCH _ _ _ ⟨by decide, by decide⟩
  · rw [State.stringHeld, hheld.get (f := F.LGT_SPROT_CAUSE) haway, State.get_put_same _ _ _ _ _ ⟨by decide, by decide⟩]
    exact Nat.mod_eq_of_lt hcause
  · have hat : Reg.addr .LGT_SPROT m 0 0 ≠ f.reg.addr m 0 f.word ∧ ledAway m (f.reg.addr m 0 f.word) := by
      rw [hw]
      rcases hr with hr | hr <;> rw [hr] <;> exact ⟨by omega, ledAway_of_between hled (by omega)⟩
    rw [State.stringHeld, hheld.get hat.2, (State.sameAt_put _ (f := F.LGT_SPROT_CAUSE) cause hat.1).get,
      (State.sameAt_put _ (f := F.LGT_SPROT_LATCH) 1 hat.1).get]

/-- A switch-off of string m from the state in which it is held and counted. -/
theorem State.ledTrip_string_resulted (s : State) (cause : Nat) :
    ((s.stringHeld m cause).tripCounted m cause).Resulted (s.ledTrip m cause) m (tripResult cause) := by
  rw [State.ledTrip_string s hm]
  exact (State.ledResult_leaves _ (by omega) (tripResult_lt cause)).aside (by omega) (State.aside_tripTold _ _ _ _)

theorem State.stringTrip_leaves (s : State) {cause : Nat} (hcause : cause < 16) : s.StringTripped (s.ledTrip m cause) m cause := by
  obtain ⟨hstate, hprot, hdiag, hcnt, -⟩ := addr_lgt m
  obtain ⟨hfld, hidx, hres⟩ := resultOf_string hm
  have htail := s.ledTrip_string_resulted hm cause
  obtain ⟨hout, hheld, hlatch, hshown, hkept⟩ := s.stringHeld_leaves hm hcause
  rw [State.out_of_isLed (isLed_string hm)] at hout
  have hafter : ∀ f : Fld, f.word = 0 → f.reg = .LGT_STATE ∨ f.reg = .LGT_SPROT →
      (s.ledTrip m cause).get f m = (s.stringHeld m cause).get f m := by
    intro f hw hr
    have hat : Reg.addr .LGT_SCNT m 0 0 ≠ f.reg.addr m 0 f.word ∧ f.reg.addr m 0 f.word < 0x40F00000 ∧
        resultAddr m ≠ f.reg.addr m 0 f.word := by
      rw [hw, hres]
      rcases hr with hr | hr <;> rw [hr] <;> omega
    rw [htail.get hat.2, State.tripCounted_get _ _ _ hat.1]
  refine ⟨?_, ?_, (hafter _ rfl (.inr rfl)).trans hlatch, (hafter _ rfl (.inr rfl)).trans hshown, ?_, fun f hr hw hf => ?_⟩
  · rw [State.out_of_isLed (isLed_string hm)]
    exact (hafter _ rfl (.inl rfl)).trans hout
  · rw [State.chan_congr (congrArg SchState.chans htail.sch),
      State.chan_congr (congrArg SchState.chans (State.tripCounted_sch _ _ _)), hheld]
  · rw [← htail.result, hfld, hidx]
  · have hbeside := htail.beside f (by rw [hr, hfld]; rfl) (by rw [hw, hfld]; rfl) hf
    rw [hidx] at hbeside
    rw [hbeside, State.tripCounted_get _ _ _ (by rw [hr, hw]; omega), hkept f hw (.inl hr)]

/-- The counter of the fault is one up. -/
theorem State.stringTrip_counts (s : State) {cause : Nat} (hcause : cause < 16) {f : Fld} (hf : f.fits) (hr : f.reg = .LGT_SCNT)
    (hw : f.word = 0) (hcount : ∀ u : State, u.tripCounted m cause = u.bump f m) : (s.ledTrip m cause).oneMore s f m := by
  obtain ⟨-, -, hdiag, hcnt, -⟩ := addr_lgt m
  obtain ⟨-, -, -, -, hkept⟩ := s.stringHeld_leaves hm hcause
  have hat : f.reg.addr m 0 f.word < 0x40F00000 ∧ resultAddr m ≠ f.reg.addr m 0 f.word := by
    rw [(resultOf_string hm).2.2, hr, hw]
    omega
  rw [State.oneMore, (s.ledTrip_string_resulted hm cause).get hat, hcount, State.get_bump_same _ _ _ _ hf, hkept f hw (.inr hr)]

end

/-- What a switch-off of AM channel i leaves: the channel off and held, the cause in its latch, and its RESULT. -/
theorem State.amTrip_leaves (s : State) {i cause : Nat} (hi : i < 36) (hcause : cause < 16) :
    (s.ledTrip (128 + i) cause).out (128 + i + 128) = 0 ∧ bit ((s.ledTrip (128 + i) cause).chan (128 + i + 128)).prot pOff = true ∧
      (s.ledTrip (128 + i) cause).get F.LGT_APROT_LATCH i = 1 ∧ (s.ledTrip (128 + i) cause).get F.LGT_APROT_CAUSE i = cause ∧
      (s.ledTrip (128 + i) cause).get F.LGT_AMDIAG_RESULT i = (if cause = 4 then 3 else 4) := by
  obtain ⟨-, -, -, -, -, hprot, hdiag⟩ := addr_lgt i
  have hled := isLed_am hi
  obtain ⟨hout, hheld⟩ := State.holdOff_led hled ((s.put F.LGT_APROT_LATCH 1 i).put F.LGT_APROT_CAUSE cause i) pOff
  obtain ⟨hfld, hidx, haddr⟩ := resultOf_am i
  have hr : (if cause = 4 then 3 else 4) < 16 := by split <;> decide
  have htail : (s.amHeld i cause).Resulted (s.ledTrip (128 + i) cause) (128 + i) (if cause = 4 then 3 else 4) := by
    rw [State.ledTrip_am]
    exact (State.ledResult_leaves _ (by omega) hr).aside (by omega) (State.aside_tripTold _ _ _ _)
  have haway : ledAway (128 + i) (Reg.addr .LGT_APROT i 0 0) := by
    simp only [ledAway, offEdges, Reg.addr, Reg.geom]
    omega
  have hafter : ∀ f : Fld, f.word = 0 → f.reg = .LGT_APROT → (s.ledTrip (128 + i) cause).get f i =
      ((s.put F.LGT_APROT_LATCH 1 i).put F.LGT_APROT_CAUSE cause i).get f i := by
    intro f hw hreg
    rw [htail.get (by rw [hreg, hw, haddr]; omega)]
    exact hheld.get (by rwa [hreg, hw])
  refine ⟨?_, ?_, ?_, ?_, ?_⟩
  · exact (htail.out (by omega) hled).trans hout
  · rw [State.chan_congr (congrArg SchState.chans htail.sch)]
    exact hheld.reason
  · rw [hafter _ rfl rfl,
      State.get_put_apart _ F.LGT_APROT_CAUSE F.LGT_APROT_LATCH _ _ _ ⟨by decide, by decide⟩ rfl rfl (by decide)]
    exact State.get_put_same _ F.LGT_APROT_LATCH _ _ _ ⟨by decide, by decide⟩
  · rw [hafter _ rfl rfl, State.get_put_same _ _ _ _ _ ⟨by decide, by decide⟩]
    exact Nat.mod_eq_of_lt hcause
  · rw [← htail.result, hfld, hidx]

end Sys2Proof.Machine
end

section
/-! What holds all strings and AM channels off, and CLR: each channel in turn, and what the turns of the others leave of it (R357, R365,
R379, R381). -/

namespace Sys2Proof.Machine

/-- A list of operations, one for each of its members: what each brings about for its member stands at the end, where the others keep it. -/
theorem foldl_establishes {α σ : Type} {I : σ → Prop} {P : α → σ → Prop} {f : σ → α → σ} {s : σ} (l : List α) (hI : I s)
    (hstep : ∀ a ∈ l, ∀ t, I t → I (f t a) ∧ P a (f t a))
    (hkeep : ∀ a ∈ l, ∀ b ∈ l, b ≠ a → ∀ t, I t → P b t → P b (f t a)) :
    I (l.foldl f s) ∧ ∀ a ∈ l, P a (l.foldl f s) := by
  induction l using List.reverseRecOn with
  | nil => exact ⟨hI, by simp⟩
  | append_singleton l a ih =>
    obtain ⟨hinv, hall⟩ := ih (fun b hb => hstep b (List.mem_append_left _ hb))
      (fun b hb c hc => hkeep b (List.mem_append_left _ hb) c (List.mem_append_left _ hc))
    have ha : a ∈ l ++ [a] := List.mem_append_right _ List.mem_cons_self
    rw [List.foldl_append, List.foldl_cons, List.foldl_nil]
    refine ⟨(hstep a ha _ hinv).1, fun b hb => ?_⟩
    by_cases hba : b = a
    · rw [hba]
      exact (hstep a ha _ hinv).2
    · have hbl : b ∈ l := by simpa [hba] using hb
      exact hkeep a ha b hb hba _ hinv (hall b hbl)

/-! ### One channel in turn -/

theorem mem_lightBits {m : Nat} : m ∈ lightBits ↔ m < 16 ∨ 128 ≤ m ∧ m < 164 := by
  simp only [lightBits, List.mem_append, List.mem_range, List.mem_map]
  constructor
  · rintro (h | ⟨a, h, rfl⟩)
    · exact .inl h
    · omega
  · rintro (h | h)
    · exact .inl h
    · exact .inr ⟨m - 128, by omega, by omega⟩

theorem isLed_light {m : Nat} (hm : m ∈ lightBits) : isLed (m + 128) = true := by
  rw [mem_lightBits] at hm
  simp only [isLed, Bool.or_eq_true, Bool.and_eq_true, decide_eq_true_eq]
  omega

/-- Nothing has changed of the registers but channel m's own and its RESULT, and of the channels none but m. -/
structure State.LedTurn (s t : State) (m : Nat) : Prop where
  words : ∀ (r : Reg) (i j w : Nat), ledAway m (r.addr i j w) → resultAddr m ≠ r.addr i j w → t.word r i j w = s.word r i j w
  others : ∀ x, x ≠ m + 128 → t.chan x = s.chan x

theorem State.LedTurn.trans {s t u : State} {m : Nat} (h : s.LedTurn t m) (h' : t.LedTurn u m) : s.LedTurn u m :=
  ⟨fun r i j w ha hne => (h'.words r i j w ha hne).trans (h.words r i j w ha hne), fun x hx => (h'.others x hx).trans (h.others x hx)⟩

theorem State.LedTurn.get {s t : State} {m : Nat} (h : s.LedTurn t m) {f : Fld} {i j : Nat} (ha : ledAway m (f.reg.addr i j f.word))
    (hne : resultAddr m ≠ f.reg.addr i j f.word) : t.get f i j = s.get f i j := by
  rw [State.get, State.get, h.words _ _ _ _ ha hne]

theorem State.ledTurn_rfl (s : State) (m : Nat) : s.LedTurn s m := ⟨fun _ _ _ _ _ _ => rfl, fun _ _ => rfl⟩

theorem State.LedHold.turn {s t : State} {m reason : Nat} {b : Bool} (h : s.LedHold t m reason b) : s.LedTurn t m :=
  ⟨fun _ _ _ _ ha _ => (h.words _ ha).word, h.others⟩

theorem ledAway.lt {m a : Nat} (h : ledAway m a) : a < 0x40F00000 := by
  obtain ⟨hoff, -, -⟩ := h
  simp only [offEdges] at hoff
  omega

theorem State.Resulted.turn {s t : State} {m r : Nat} (h : s.Resulted t m r) : s.LedTurn t m :=
  ⟨fun _ _ _ _ ha hne => h.words _ _ _ _ ha.lt hne, fun x _ => by rw [State.chan_congr (congrArg SchState.chans h.sch)]⟩

theorem resultAddr_ne_sdiag {m k : Nat} (hk : k < 16) (h : k ≠ m) : resultAddr m ≠ Reg.addr .LGT_SDIAG k 0 0 := by
  simp only [resultAddr, Reg.addr, Reg.geom]
  split_ifs <;> omega

theorem State.ledTurn_ite {c : Prop} [Decidable c] {s t u : State} {m : Nat} (ht : s.LedTurn t m) (hu : s.LedTurn u m) :
    s.LedTurn (if c then t else u) m := by
  split
  · exact ht
  · exact hu

theorem ledAway_state {m k : Nat} (hm : isLed (m + 128) = true) (hk : k < 164) (h : k ≠ m) : ledAway m (Reg.addr .LGT_STATE k 0 0) := by
  have hbit := isLed_bit hm
  simp only [ledAway, offEdges, Reg.addr, Reg.geom]
  omega

theorem ledAway_sprot {m k : Nat} (hm : isLed (m + 128) = true) (hk : k < 16) : ledAway m (Reg.addr .LGT_SPROT k 0 0) :=
  ledAway_of_between hm (by simp only [Reg.addr, Reg.geom]; omega)

theorem ledAway_aprot {m k : Nat} (hm : isLed (m + 128) = true) (hk : k < 36) : ledAway m (Reg.addr .LGT_APROT k 0 0) := by
  have hbit := isLed_bit hm
  simp only [ledAway, offEdges, Reg.addr, Reg.geom]
  omega

theorem ledAway_stat {m : Nat} (hm : isLed (m + 128) = true) : ledAway m (Reg.addr .LGT_STAT 0 0 0) :=
  ledAway_of_between hm (.inr (by decide))

theorem State.LedTurn.out {s t : State} {m k : Nat} (h : s.LedTurn t m) (hm : isLed (m + 128) = true) (hk : isLed (k + 128) = true)
    (hne : k ≠ m) : t.out (k + 128) = s.out (k + 128) := by
  have hbit := isLed_bit hm
  have hbit' := isLed_bit hk
  obtain ⟨hstate, -⟩ := resultAddr_ne (m := m) (by omega)
  rw [State.out_of_isLed hk, State.out_of_isLed hk]
  exact h.get (f := F.LGT_STATE_OUT) (ledAway_state hm (by omega) hne) (hstate k (by omega))

theorem State.LedTurn.stat {s t : State} {m : Nat} (h : s.LedTurn t m) (hm : isLed (m + 128) = true) {f : Fld} (hr : f.reg = .LGT_STAT)
    (hw : f.word = 0) : t.get f = s.get f := by
  have hbit := isLed_bit hm
  obtain ⟨-, hstat, -⟩ := resultAddr_ne (m := m) (by omega)
  exact h.get (by rw [hr, hw]; exact ledAway_stat hm) (by rw [hr, hw]; exact hstat)

/-! ### A supply stop or a die shutdown, and its end (R357, R379) -/

/-- One string or AM channel is held off for a reason, with a result. -/
def State.lightOff (reason res : Nat) (s : State) (m : Nat) : State :=
  if reason = pSupply ∧ 128 ≤ m then s.holdOff (m + 128) reason else (s.holdOff (m + 128) reason).ledResult m res

theorem State.lightsOff_eq (s : State) (reason res : Nat) : s.lightsOff reason res = lightBits.foldl (State.lightOff reason res) s := rfl

/-- What a channel shows that is held off for a reason: it is dark, and a string's RESULT so. -/
structure State.LightHeld (s : State) (reason res m : Nat) : Prop where
  out : s.out (m + 128) = 0
  held : bit (s.chan (m + 128)).prot reason = true
  result : m < 16 → s.get F.LGT_SDIAG_RESULT m = res

theorem State.lightOff_leaves (s : State) {reason res m : Nat} (hres : res < 16) (hm : m ∈ lightBits) :
    s.LedTurn (State.lightOff reason res s m) m ∧ (State.lightOff reason res s m).LightHeld reason res m := by
  have hled := isLed_light hm
  have hbit := isLed_bit hled
  obtain ⟨hout, hheld⟩ := s.holdOff_led hled reason
  have hr := (s.holdOff (m + 128) reason).ledResult_leaves (show m < 164 by omega) hres
  unfold State.lightOff
  split
  · next h => exact ⟨hheld.turn, hout, hheld.reason, fun h16 => by omega⟩
  · refine ⟨hheld.turn.trans hr.turn, (hr.out (by omega) hled).trans hout, ?_, fun h16 => ?_⟩
    · rw [State.chan_congr (congrArg SchState.chans hr.sch)]
      exact hheld.reason
    · obtain ⟨hfld, hidx, -⟩ := resultOf_string h16
      have hresult := hr.result
      rwa [hfld, hidx] at hresult

theorem State.LightHeld.keep {s t : State} {reason res m k : Nat} (h : s.LightHeld reason res k) (ht : s.LedTurn t m)
    (hm : m ∈ lightBits) (hk : k ∈ lightBits) (hne : k ≠ m) : t.LightHeld reason res k where
  out := (ht.out (isLed_light hm) (isLed_light hk) hne).trans h.out
  held := by rw [ht.others _ (by omega), h.held]
  result h16 := by
    have haway : ledAway m (Reg.addr .LGT_SDIAG k 0 0) := ledAway_of_between (isLed_light hm) (by simp only [Reg.addr, Reg.geom]; omega)
    rw [ht.get (f := F.LGT_SDIAG_RESULT) haway (resultAddr_ne_sdiag h16 hne), h.result h16]

/-- The fields of LGT_STAT stand beside the channels. -/
def State.sameStat (s t : State) : Prop := ∀ f : Fld, f.reg = .LGT_STAT → f.word = 0 → t.get f = s.get f

theorem State.LedTurn.sameStat {s t u : State} {m : Nat} (h : t.LedTurn u m) (hm : m ∈ lightBits) (hs : s.sameStat t) : s.sameStat u :=
  fun f hr hw => (h.stat (isLed_light hm) hr hw).trans (hs f hr hw)

theorem State.lightsOff_leaves (s : State) {reason res : Nat} (hres : res < 16) :
    s.sameStat (s.lightsOff reason res) ∧ ∀ m ∈ lightBits, (s.lightsOff reason res).LightHeld reason res m := by
  rw [State.lightsOff_eq]
  refine foldl_establishes (I := s.sameStat) (P := fun m t => t.LightHeld reason res m) lightBits (fun _ _ _ => rfl)
    (fun m hm t ht => ?_) (fun m hm k hk hne t _ h => h.keep (t.lightOff_leaves hres hm).1 hm hk hne)
  obtain ⟨hturn, hheld⟩ := t.lightOff_leaves (reason := reason) hres hm
  exact ⟨hturn.sameStat hm ht, hheld⟩

/-- A channel that a reason holds is given back; what no reason holds stays. -/
def State.givenBack (s : State) (m reason : Nat) : State :=
  if bit (s.chan (m + 128)).prot reason then s.holdEnd (m + 128) reason else s

theorem State.givenBack_leaves (s : State) {m : Nat} (hm : isLed (m + 128) = true) (reason : Nat) :
    s.LedTurn (s.givenBack m reason) m ∧ bit ((s.givenBack m reason).chan (m + 128)).prot reason = false := by
  have hend := s.holdEnd_led hm reason
  unfold State.givenBack
  split
  · exact ⟨hend.turn, hend.reason⟩
  · next h => exact ⟨s.ledTurn_rfl m, by simpa using h⟩

/-- One string or AM channel is given back; the supply fault of a string is no longer shown. -/
def State.lightBack (reason : Nat) (s : State) (m : Nat) : State :=
  if reason = pSupply ∧ m < 16 ∧ (s.givenBack m reason).get F.LGT_SDIAG_RESULT m = 6 then (s.givenBack m reason).ledResult m 0
  else s.givenBack m reason

theorem State.lightsBack_eq (s : State) (reason : Nat) : s.lightsBack reason = lightBits.foldl (State.lightBack reason) s := rfl

theorem State.lightBack_leaves (s : State) {m : Nat} (hm : m ∈ lightBits) (reason : Nat) :
    s.LedTurn (State.lightBack reason s m) m ∧ bit ((State.lightBack reason s m).chan (m + 128)).prot reason = false := by
  have hled := isLed_light hm
  have hbit := isLed_bit hled
  obtain ⟨hturn, hfree⟩ := s.givenBack_leaves hled reason
  unfold State.lightBack
  split
  · have hr := (s.givenBack m reason).ledResult_leaves (show m < 164 by omega) (show 0 < 16 by decide)
    exact ⟨hturn.trans hr.turn, by rw [State.chan_congr (congrArg SchState.chans hr.sch), hfree]⟩
  · exact ⟨hturn, hfree⟩

theorem State.lightsBack_leaves (s : State) (reason : Nat) :
    s.sameStat (s.lightsBack reason) ∧ ∀ m ∈ lightBits, bit ((s.lightsBack reason).chan (m + 128)).prot reason = false := by
  rw [State.lightsBack_eq]
  refine foldl_establishes (I := s.sameStat) (P := fun m t => bit (t.chan (m + 128)).prot reason = false) lightBits (fun _ _ _ => rfl)
    (fun m hm t ht => ?_) (fun m hm k _ hne t _ h => ?_)
  · obtain ⟨hturn, hfree⟩ := t.lightBack_leaves hm reason
    exact ⟨hturn.sameStat hm ht, hfree⟩
  · rw [(t.lightBack_leaves hm reason).1.others _ (by omega), h]

/-! ### CLR (R365, R381) -/

/-- The latch of a string or AM channel is cleared. -/
def State.unlatched (s : State) (m : Nat) : State := if m < 16 then s.put F.LGT_SPROT_LATCH 0 m else s.put F.LGT_APROT_LATCH 0 (m - 128)

theorem State.ledClear_eq (s : State) (m : Nat) :
    s.ledClear m = ((segBits m).foldl (fun t g => t.givenBack g pBypass) (s.unlatched m)).givenBack m pOff := rfl

theorem mem_segBits {m g : Nat} (h : g ∈ segBits m) : 32 ≤ g ∧ g < 128 := by
  unfold segBits at h
  split at h
  · simp only [List.mem_map, List.mem_range] at h
    omega
  · cases h

theorem isLed_of_mem_segBits {m g : Nat} (h : g ∈ segBits m) : isLed (g + 128) = true := by
  have hg := mem_segBits h
  simp only [isLed, Bool.or_eq_true, Bool.and_eq_true, decide_eq_true_eq]
  omega

/-- The bypasses of a string's segments end one by one. -/
theorem State.bypassesEnd_leaves (s : State) (m : Nat) {f : Fld} {i : Nat}
    (hf : ∀ g, isLed (g + 128) = true → ledAway g (f.reg.addr i 0 f.word) ∧ resultAddr g ≠ f.reg.addr i 0 f.word) :
    ((segBits m).foldl (fun t g => t.givenBack g pBypass) s).get f i = s.get f i ∧
      ∀ g ∈ segBits m, bit (((segBits m).foldl (fun t g => t.givenBack g pBypass) s).chan (g + 128)).prot pBypass = false := by
  refine foldl_establishes (I := fun t : State => t.get f i = s.get f i)
    (P := fun g t => bit (State.chan t (g + 128)).prot pBypass = false) (segBits m) rfl (fun g hg t ht => ?_) (fun g hg k _ hne t _ h => ?_)
  · obtain ⟨hturn, hfree⟩ := t.givenBack_leaves (isLed_of_mem_segBits hg) pBypass
    obtain ⟨haway, hne⟩ := hf g (isLed_of_mem_segBits hg)
    exact ⟨(hturn.get haway hne).trans ht, hfree⟩
  · rw [(t.givenBack_leaves (isLed_of_mem_segBits hg) pBypass).1.others _ (by omega), h]

theorem State.ledClear_leaves (s : State) {m : Nat} (hm : m ∈ lightBits) {f : Fld} {i : Nat}
    (hf : ∀ g, isLed (g + 128) = true → ledAway g (f.reg.addr i 0 f.word) ∧ resultAddr g ≠ f.reg.addr i 0 f.word) :
    (s.ledClear m).get f i = (s.unlatched m).get f i ∧ bit ((s.ledClear m).chan (m + 128)).prot pOff = false ∧
      (segBits m).all (fun g => !bit ((s.ledClear m).chan (g + 128)).prot pBypass) = true := by
  have hled := isLed_light hm
  obtain ⟨hkept, hended⟩ := (s.unlatched m).bypassesEnd_leaves m hf
  rw [State.ledClear_eq]
  generalize (segBits m).foldl (fun t g => t.givenBack g pBypass) (s.unlatched m) = u at hkept hended
  obtain ⟨hturn, hfree⟩ := u.givenBack_leaves hled pOff
  obtain ⟨haway, hne⟩ := hf m hled
  refine ⟨(hturn.get haway hne).trans hkept, hfree, ?_⟩
  rw [List.all_eq_true]
  intro g hg
  have hg' := mem_segBits hg
  rw [mem_lightBits] at hm
  rw [hturn.others _ (by omega), hended g hg]
  rfl

theorem State.ledClear_string (s : State) {m : Nat} (hm : m < 16) : (s.ledClear m).get F.LGT_SPROT_LATCH m = 0 ∧
    bit ((s.ledClear m).chan (m + 128)).prot pOff = false ∧
    (segBits m).all (fun g => !bit ((s.ledClear m).chan (g + 128)).prot pBypass) = true := by
  obtain ⟨hlatch, hfree, hsegs⟩ := s.ledClear_leaves (mem_lightBits.mpr (.inl hm)) (f := F.LGT_SPROT_LATCH) (i := m) fun g hg => by
    have hbit := isLed_bit hg
    obtain ⟨-, -, hne, -⟩ := resultAddr_ne (m := g) (by omega)
    exact ⟨ledAway_sprot hg hm, hne m hm⟩
  refine ⟨?_, hfree, hsegs⟩
  rw [hlatch, State.unlatched, if_pos hm, State.get_put_same _ _ _ _ _ ⟨by decide, by decide⟩, Nat.zero_mod]

theorem State.ledClear_am (s : State) {m : Nat} (hlow : 128 ≤ m) (hm : m < 164) : (s.ledClear m).get F.LGT_APROT_LATCH (m - 128) = 0 ∧
    bit ((s.ledClear m).chan (m + 128)).prot pOff = false := by
  have hlight := mem_lightBits.mpr (.inr ⟨hlow, hm⟩)
  obtain ⟨hlatch, hfree, -⟩ := s.ledClear_leaves hlight (f := F.LGT_APROT_LATCH) (i := m - 128) fun g hg => by
    have hbit := isLed_bit hg
    obtain ⟨-, -, -, hne⟩ := resultAddr_ne (m := g) (by omega)
    exact ⟨ledAway_aprot hg (by omega), hne _ (by omega)⟩
  refine ⟨?_, hfree⟩
  rw [hlatch, State.unlatched, if_neg (by omega), State.get_put_same _ _ _ _ _ ⟨by decide, by decide⟩, Nat.zero_mod]

end Sys2Proof.Machine
end

section
/-! The light of a channel: what the start of a period and the start of a string leave of its record, and the gain of AM channels (R355,
R359 to R363, R367). -/

namespace Sys2Proof.Machine

/-! ### The record of a channel -/

@[simp] theorem State.withPending_led (t : State) (q : List Instr) (m : Nat) : (t.withPending q).led m = t.led m := rfl
@[simp] theorem State.withPending_chan (t : State) (q : List Instr) (x : Nat) : (t.withPending q).chan x = t.chan x := rfl

@[simp] theorem State.led_setLed_same (s : State) (m : Nat) (v : LedCh) : (s.setLed m v).led m = v := Sparse.at_set_same _ _ _ _

theorem State.led_congr {s t : State} (h : t.lgt = s.lgt) (m : Nat) : t.led m = s.led m := by rw [State.led, State.led, h]

@[simp] theorem State.termsSeen_lgt (s : State) : s.termsSeen.lgt = s.lgt := by
  unfold State.termsSeen
  split <;> rfl

@[simp] theorem State.edge_lgt (s : State) (x : Nat) (rise : Bool) (a : Act) (shift : Int) : (s.edge x rise a shift).lgt = s.lgt := by
  simp [State.edge, State.notifyEdge, State.stampEdge, apply_ite State.lgt]

/-- The segments of a string take their DUTY; no string or AM channel is one of them. -/
theorem State.led_segDuty (s : State) (n : Nat) {m : Nat} (hm : m ∈ lightBits) : (s.segDuty n).led m = s.led m := by
  rw [mem_lightBits] at hm
  refine List.foldlRecOn (motive := fun t : State => t.led m = s.led m) (segBits n) _ rfl fun t ht g hg => ?_
  have hg' := mem_segBits hg
  rw [← ht]
  exact Sparse.at_set_ne _ _ _ _ _ (by omega)

@[simp] theorem State.led_lockRefresh (s : State) (n m : Nat) : (s.lockRefresh n).led m = s.led m := by
  unfold State.lockRefresh
  split <;> rfl

/-- A new level changes the level in effect and the N to come. -/
theorem State.led_ledFollow (s : State) (m l : Nat) : ∃ lvl n, (s.ledFollow m l).led m = { s.led m with lvl := lvl, nNext := n } := by
  unfold State.ledFollow
  split
  · exact ⟨_, _, rfl⟩
  split
  · exact ⟨_, _, by rw [State.led_setLed_same, State.led_congr (State.put_lgt _ _ _ _ _), State.led_setLed_same]⟩
  · exact ⟨_, _, by rw [State.led_setLed_same, State.led_setLed_same]⟩

theorem isMx_of_light {m : Nat} (hm : m ∈ lightBits) : isMx m = false := by
  rw [mem_lightBits] at hm
  simp only [isMx, Bool.and_eq_false_iff, decide_eq_false_iff_not]
  omega

/-! ### A field of LGT_STATE beside OUT -/

/-- A field of LGT_STATE that shares no bit with OUT may be set. -/
theorem State.out_put {m : Nat} (hm : isLed (m + 128) = true) (s : State) {f : Fld} (hr : f.reg = .LGT_STATE) (hw : f.word = 0)
    (hf : f.fits) (hapart : f.hi < F.LGT_STATE_OUT.lo ∨ F.LGT_STATE_OUT.hi < f.lo) (v : Nat) :
    (s.put f v m).out (m + 128) = s.out (m + 128) := by
  rw [State.out_of_isLed hm, State.out_of_isLed hm]
  exact State.get_put_apart s f F.LGT_STATE_OUT v m 0 hf hr.symm hw.symm hapart

theorem State.out_lockRefresh {m : Nat} (hm : isLed (m + 128) = true) (s : State) : (s.lockRefresh m).out (m + 128) = s.out (m + 128) := by
  unfold State.lockRefresh
  split
  · rfl
  · exact s.out_put hm (f := F.LGT_STATE_LOCKED) rfl rfl ⟨by decide, by decide⟩ (by decide) _

theorem State.out_of_regs {m : Nat} (hm : isLed (m + 128) = true) {s t : State} (h : t.regs = s.regs) : t.out (m + 128) = s.out (m + 128) := by
  rw [State.out_of_isLed hm, State.out_of_isLed hm, (State.sameAt_of_regs h _).get (f := F.LGT_STATE_OUT)]

theorem State.segDuty_regs (s : State) (n : Nat) : (s.segDuty n).regs = s.regs :=
  List.foldlRecOn (motive := fun t : State => t.regs = s.regs) (segBits n) _ rfl fun _ ht _ _ => ht

theorem State.out_ledFollow {m : Nat} (hm : isLed (m + 128) = true) (s : State) (l : Nat) :
    (s.ledFollow m l).out (m + 128) = s.out (m + 128) := by
  have hbit := isLed_bit hm
  unfold State.ledFollow
  split
  · rfl
  split
  · have hne : Reg.addr .LGT_AMDIAG (m - 128) 0 0 ≠ Reg.addr .LGT_STATE m 0 0 := by simp only [Reg.addr, Reg.geom]; omega
    have hclamp : ∀ (u : State) (v : Nat), (u.put F.LGT_AMDIAG_CLAMP v (m - 128)).out (m + 128) = u.out (m + 128) := fun u v => by
      rw [State.out_of_isLed hm, State.out_of_isLed hm, (u.sameAt_put (f := F.LGT_AMDIAG_CLAMP) v hne).get (f := F.LGT_STATE_OUT)]
    exact (State.out_of_regs hm rfl).trans ((hclamp _ _).trans (State.out_of_regs hm rfl))
  · exact State.out_of_regs hm rfl

/-! ### Periods (R355, R360) -/

/-- A period starts: its instant and its N, which is that of hold mode while that locks the channel. -/
theorem State.ledPeriodStart_leaves (s : State) {m : Nat} (hm : m ∈ lightBits) (u : Nat) :
    ((s.ledPeriodStart m u).led m).pstart = u ∧
      ((s.ledPeriodStart m u).led m).n = (if s.get F.LGT_DIM_LOCK m = 2 ∧ s.ledLocked m = true then (s.led m).nHold.getD (s.led m).nNext
        else (s.led m).nNext) ∧
      (s.ledPeriodStart m u).out (m + 128) = s.out (m + 128) := by
  have hled := isLed_light hm
  refine ⟨?_, ?_, ?_⟩
  · simp only [State.ledPeriodStart, State.led_lockRefresh, State.led_segDuty _ _ hm, State.led_setLed_same]
  · simp only [State.ledPeriodStart, State.led_lockRefresh, State.led_segDuty _ _ hm, State.led_setLed_same]
    split <;> rfl
  · rw [State.ledPeriodStart, State.out_lockRefresh hled, State.out_of_regs hled (State.segDuty_regs _ _)]
    exact (State.out_of_regs hled rfl).trans (s.out_put hled (f := F.LGT_STATE_RANGE) rfl rfl ⟨by decide, by decide⟩ (by decide) _)

/-- The light of a channel that starts at a slot: its periods run from there, and its output stands. -/
theorem State.ledStart_leaves (s : State) {m : Nat} (hm : m ∈ lightBits) (slot : Nat) :
    ((s.ledStart m slot).led m).starting = (s.led m).starting ∧ ((s.ledStart m slot).led m).pstart = slot ∧
      (s.ledStart m slot).out (m + 128) = s.out (m + 128) := by
  have hled := isLed_light hm
  obtain ⟨lvl, n, hfollow⟩ := s.led_ledFollow m (s.levelFor m)
  refine ⟨?_, ?_, ?_⟩
  · simp only [State.ledStart, State.led_segDuty _ _ hm, State.led_setLed_same, State.led_congr (State.put_lgt _ _ _ _ _), hfollow]
  · simp only [State.ledStart, State.led_segDuty _ _ hm, State.led_setLed_same]
  · rw [State.ledStart, State.out_of_regs hled (State.segDuty_regs _ _)]
    have hrange := State.out_put hled (s.ledFollow m (s.levelFor m)) (f := F.LGT_STATE_RANGE) rfl rfl ⟨by decide, by decide⟩ (by decide)
    exact (State.out_of_regs hled rfl).trans ((hrange _).trans (s.out_ledFollow hled _))

/-- A string that waited for regulation opens its shunt. -/
def State.stringStarts (s : State) (m : Nat) (a : Act) : State :=
  ((((s.setLed m { s.led m with starting := none }).setOut (m + 128) 1).edge (m + 128) true { a with lead := false }).ledStart m
    (slotAt 160 s.now)).lockRefresh m

theorem State.stringStarts_leaves (s : State) {m : Nat} (hm : m ∈ lightBits) (a : Act) :
    ((s.stringStarts m a).led m).starting = none ∧ (s.stringStarts m a).out (m + 128) = 1 ∧
      ((s.stringStarts m a).led m).pstart = slotAt 160 s.now := by
  have hled := isLed_light hm
  have hbit := isLed_bit hled
  have hlit : ∀ u : State, ((u.setOut (m + 128) 1).edge (m + 128) true { a with lead := false }).led m = u.led m := fun u =>
    State.led_congr (by rw [State.edge_lgt, State.setOut_of_isLed hled, State.termsSeen_lgt, State.put_lgt]) m
  obtain ⟨hstart, hpstart, hout⟩ := State.ledStart_leaves
    (((s.setLed m { s.led m with starting := none }).setOut (m + 128) 1).edge (m + 128) true { a with lead := false }) hm (slotAt 160 s.now)
  simp only [State.stringStarts, State.led_lockRefresh]
  refine ⟨?_, ?_, hpstart⟩
  · rw [hstart, hlit, State.led_setLed_same]
  · rw [State.out_lockRefresh hled, hout, State.out_of_isLed hled,
      (State.sameAt_edge (addr_ledState_offEdges hled) _ (by omega) true _ 0).get (f := F.LGT_STATE_OUT), State.setOut_of_isLed hled,
      (State.sameAt_of_regs (State.termsSeen_regs _) _).get (f := F.LGT_STATE_OUT), State.get_put_same _ _ _ _ _ ⟨by decide, by decide⟩]
    rfl

end Sys2Proof.Machine
end

section
/-! Gains and segments: the gain that a curve gives its AM channel, and a segment that is shorted or bypassed (R364, R365, R367). -/

namespace Sys2Proof.Machine

/-! ### The gain of an AM channel (R367) -/

theorem State.LedOnly.turn {s t : State} {m : Nat} (h : s.LedOnly t m) : s.LedTurn t m :=
  ⟨fun _ _ _ _ ha _ => (h.words _ ha).word, fun x _ => h.chan x⟩

/-- A field of an AM channel's LGT_AMDIAG is set. -/
theorem State.ledTurn_amDiag (s : State) {f : Fld} (hr : f.reg = .LGT_AMDIAG) (hw : f.word = 0) (v i : Nat) :
    s.LedTurn (s.put f v i) (128 + i) := by
  refine ⟨fun r a b w ⟨_, _, hne⟩ _ => (s.sameAt_put (i := i) v ?_).word, fun _ _ => rfl⟩
  rw [hr, hw]
  simpa using hne (by omega)

theorem State.ledResult_turn (s : State) {m r : Nat} (hm : m < 164) (hr : r < 16) : s.LedTurn (s.ledResult m r) m :=
  (s.ledResult_leaves hm hr).turn

theorem State.gainTo_turn (s : State) {i : Nat} (hi : i < 36) (t : Int) : s.LedTurn (s.gainTo i t) (128 + i) := by
  have hput := s.ledTurn_amDiag (f := F.LGT_AMDIAG_GAIN) rfl rfl (s.curveGain (s.get F.LGT_DIM_CURVE (128 + i)) t s.fresh) i
  have htook : ∀ u : State, u.LedTurn u.tookFresh (128 + i) := fun u => (State.ledOnly_of_regs (s := u) (t := u.tookFresh) _ rfl rfl).turn
  have hfound := hput.trans (htook _)
  have hnone := (s.ledTurn_amDiag (f := F.LGT_AMDIAG_GAIN) rfl rfl 1024 i).trans
    (State.ledResult_turn _ (show 128 + i < 164 by omega) (show 6 < 16 by decide))
  have hshown := hfound.trans (State.ledResult_turn _ (show 128 + i < 164 by omega) (show 0 < 16 by decide))
  exact (State.ledTurn_ite (State.ledTurn_ite hshown hfound) hnone).trans (State.ledOnly_ledFollow _ _ _).turn

/-- A channel's level and its CLAMP leave its gain. -/
theorem State.gain_ledFollow (s : State) (i l : Nat) : (s.ledFollow (128 + i) l).get F.LGT_AMDIAG_GAIN i = s.get F.LGT_AMDIAG_GAIN i := by
  have hclamp : ∀ (u : State) (v : Nat), (u.put F.LGT_AMDIAG_CLAMP v (128 + i - 128)).get F.LGT_AMDIAG_GAIN i = u.get F.LGT_AMDIAG_GAIN i :=
    fun u v => by
      rw [Nat.add_sub_cancel_left]
      exact State.get_put_apart u F.LGT_AMDIAG_CLAMP F.LGT_AMDIAG_GAIN v i 0 ⟨by decide, by decide⟩ rfl rfl (by decide)
  unfold State.ledFollow
  split
  · rfl
  · simp only [show 128 ≤ 128 + i by omega, if_true]
    exact hclamp _ _

theorem State.curveG_lt (s : State) (c j : Nat) : s.curveG c j < 4096 :=
  Nat.max_lt.mpr ⟨by decide, bitsOf_lt _ _ _⟩

/-- At or below the lowest point of a curve the gain is that point's. -/
theorem State.gainTo_gain (s : State) (i : Nat) {t : Int} (hi : i < 36) (hok : s.curveOk (s.get F.LGT_DIM_CURVE (128 + i)) = true)
    (ht : t ≤ s.curveT (s.get F.LGT_DIM_CURVE (128 + i)) 0) :
    (s.gainTo i t).get F.LGT_AMDIAG_GAIN i = s.curveG (s.get F.LGT_DIM_CURVE (128 + i)) 0 := by
  obtain ⟨hfld, hidx, -⟩ := resultOf_am i
  have hlow : s.curveGain (s.get F.LGT_DIM_CURVE (128 + i)) t s.fresh = s.curveG (s.get F.LGT_DIM_CURVE (128 + i)) 0 := if_pos ht
  have hput : ((s.put F.LGT_AMDIAG_GAIN (s.curveG (s.get F.LGT_DIM_CURVE (128 + i)) 0) i).tookFresh).get F.LGT_AMDIAG_GAIN i =
      s.curveG (s.get F.LGT_DIM_CURVE (128 + i)) 0 :=
    (State.get_put_same s F.LGT_AMDIAG_GAIN _ i 0 ⟨by decide, by decide⟩).trans (Nat.mod_eq_of_lt (s.curveG_lt _ 0))
  simp only [State.gainTo, State.gain_ledFollow, hok, if_true, hlow]
  split
  · have hbeside := (State.ledResult_leaves ((s.put F.LGT_AMDIAG_GAIN (s.curveG (s.get F.LGT_DIM_CURVE (128 + i)) 0) i).tookFresh)
      (show 128 + i < 164 by omega) (show 0 < 16 by decide)).beside F.LGT_AMDIAG_GAIN (by rw [hfld]; rfl) (by rw [hfld]; rfl) (by decide)
    rw [hidx] at hbeside
    rw [hbeside, hput]
  · exact hput

/-- A curve is its eight words. -/
theorem State.curve_congr {s t : State} {c : Nat} (h : ∀ j < 8, t.word .LGT_CURVE c 0 j = s.word .LGT_CURVE c 0 j) :
    t.curveOk c = s.curveOk c ∧ t.curveT c 0 = s.curveT c 0 ∧ t.curveG c 0 = s.curveG c 0 := by
  have htemp : ∀ j < 8, t.curveT c j = s.curveT c j := fun j hj => by rw [State.curveT, State.curveT, h j hj]
  refine ⟨?_, htemp 0 (by decide), by rw [State.curveG, State.curveG, h 0 (by decide)]⟩
  rw [Bool.eq_iff_iff]
  simp only [State.curveOk, List.all_eq_true, List.mem_range]
  refine forall₂_congr fun j hj => ?_
  rw [htemp j (by omega), htemp (j + 1) (by omega)]

/-- The curves, the temperatures and what lies above them stand apart from AM channel b; so do every channel's LGT_DIM and the LGT_AMDIAG of
the others. -/
theorem apart_am_of_high {b a : Nat} (hb : b < 36) (h : 0x40540000 ≤ a ∧ a < 0x40600000) :
    ledAway (128 + b) a ∧ resultAddr (128 + b) ≠ a := by
  obtain ⟨-, -, haddr⟩ := resultOf_am b
  obtain ⟨-, -, -, -, -, -, hdiag⟩ := addr_lgt b
  exact ⟨ledAway_of_between (isLed_am hb) (.inr h), by omega⟩

theorem apart_am_dim {b k : Nat} (hk : k < 164) :
    ledAway (128 + b) (Reg.addr .LGT_DIM k 0 0) ∧ resultAddr (128 + b) ≠ Reg.addr .LGT_DIM k 0 0 := by
  obtain ⟨-, -, haddr⟩ := resultOf_am b
  rw [haddr]
  simp only [ledAway, offEdges, Reg.addr, Reg.geom]
  omega

theorem apart_am_amDiag {b k : Nat} (hb : b < 36) (hk : k < 36) (hne : k ≠ b) :
    ledAway (128 + b) (Reg.addr .LGT_AMDIAG k 0 0) ∧ resultAddr (128 + b) ≠ Reg.addr .LGT_AMDIAG k 0 0 := by
  obtain ⟨-, -, haddr⟩ := resultOf_am b
  rw [haddr]
  simp only [ledAway, offEdges, Reg.addr, Reg.geom]
  omega

/-- The gain that a channel takes leaves the curves, their choice, the temperatures, and the gains of the others. -/
theorem State.gainTo_keeps (s : State) {b c q : Nat} (hb : b < 36) (hq : q < 12) (hc : c < 4) (t : Int) :
    (∀ j < 8, (s.gainTo b t).word .LGT_CURVE c 0 j = s.word .LGT_CURVE c 0 j) ∧
      (∀ i < 36, (s.gainTo b t).get F.LGT_DIM_CURVE (128 + i) = s.get F.LGT_DIM_CURVE (128 + i)) ∧
      (s.gainTo b t).word .LGT_TRIT 0 0 (q / 4) = s.word .LGT_TRIT 0 0 (q / 4) ∧
      ∀ i < 36, i ≠ b → (s.gainTo b t).get F.LGT_AMDIAG_GAIN i = s.get F.LGT_AMDIAG_GAIN i := by
  have hturn := s.gainTo_turn hb t
  have htrit := apart_am_of_high (a := Reg.addr .LGT_TRIT 0 0 (q / 4)) hb (by simp only [Reg.addr, Reg.geom]; omega)
  refine ⟨fun j hj => ?_, fun i hi => ?_, hturn.words _ _ _ _ htrit.1 htrit.2, fun i hi hne => ?_⟩
  · have haway := apart_am_of_high (a := Reg.addr .LGT_CURVE c 0 j) hb (by simp only [Reg.addr, Reg.geom]; omega)
    exact hturn.words _ _ _ _ haway.1 haway.2
  · have haway := apart_am_dim (b := b) (k := 128 + i) (by omega)
    exact hturn.get (f := F.LGT_DIM_CURVE) haway.1 haway.2
  · have haway := apart_am_amDiag hb hi hne
    exact hturn.get (f := F.LGT_AMDIAG_GAIN) haway.1 haway.2

/-- The measured temperature of a triplet is noted. -/
def State.tempNoted (s : State) (q temp : Nat) : State :=
  s.setWord .LGT_TRIT 0 0 (q / 4) (setBits (s.word .LGT_TRIT 0 0 (q / 4)) (8 * (q % 4) + 7) (8 * (q % 4)) temp)

/-- The channels of a triplet take their gains. -/
def State.gainsTaken (s : State) (q : Nat) (t : Int) : State := [3 * q, 3 * q + 1, 3 * q + 2].foldl (fun u i => u.gainTo i t) s

/-- The gain of each channel of a triplet at or below its curve's lowest point; the temperature stays noted. -/
theorem State.gainsTaken_leaves (s : State) {q i : Nat} {t : Int} (hq : q < 12) (hlow : 3 * q ≤ i) (hhigh : i < 3 * q + 3)
    (hok : s.curveOk (s.get F.LGT_DIM_CURVE (128 + i)) = true) (ht : t ≤ s.curveT (s.get F.LGT_DIM_CURVE (128 + i)) 0) :
    (s.gainsTaken q t).get F.LGT_AMDIAG_GAIN i = s.curveG (s.get F.LGT_DIM_CURVE (128 + i)) 0 ∧
      (s.gainsTaken q t).word .LGT_TRIT 0 0 (q / 4) = s.word .LGT_TRIT 0 0 (q / 4) := by
  have hi : i < 36 := by omega
  have hc : s.get F.LGT_DIM_CURVE (128 + i) < 4 := bitsOf_lt _ _ _
  generalize hcurve : s.get F.LGT_DIM_CURVE (128 + i) = c at hok ht hc
  obtain ⟨⟨-, -, htemp⟩, hall⟩ := foldl_establishes (s := s)
    (I := fun u => (∀ j < 8, u.word .LGT_CURVE c 0 j = s.word .LGT_CURVE c 0 j) ∧ u.get F.LGT_DIM_CURVE (128 + i) = c ∧
      u.word .LGT_TRIT 0 0 (q / 4) = s.word .LGT_TRIT 0 0 (q / 4))
    (P := fun b u => b = i → u.get F.LGT_AMDIAG_GAIN i = s.curveG c 0) (f := fun u b => u.gainTo b t) [3 * q, 3 * q + 1, 3 * q + 2]
    ⟨fun _ _ => rfl, hcurve, rfl⟩
    (fun b hb u ⟨hwords, hdim, htrit⟩ => by
      have hb' : b < 36 := by simp at hb; omega
      obtain ⟨hwords', hdim', htrit', -⟩ := u.gainTo_keeps hb' hq hc t
      obtain ⟨hok', ht', hg'⟩ := State.curve_congr hwords
      refine ⟨⟨fun j hj => (hwords' j hj).trans (hwords j hj), (hdim' i hi).trans hdim, htrit'.trans htrit⟩, ?_⟩
      rintro rfl
      rw [u.gainTo_gain b hb' (by rwa [hdim, hok']) (by rwa [hdim, ht']), hdim, hg'])
    (fun b hb k _ hne u _ h hk => by
      have hb' : b < 36 := by simp at hb; omega
      have hne' : i ≠ b := by omega
      rw [(u.gainTo_keeps hb' hq hc t).2.2.2 i hi hne', h hk])
  exact ⟨hall i (by simp; omega) rfl, htemp⟩

/-! ### Segments (R364, R365) -/

/-- A segment and its string show what was found, with the voltage across the segment. -/
def State.segmentShown (s : State) (g r : Nat) : State := (s.ledResult (32 + g) r).segFault g

theorem State.segmentShown_leaves (s : State) {g r : Nat} (hg : g < 96) (hr : r < 16) :
    (s.segmentShown g r).get F.LGT_MXDIAG_RESULT g = r ∧ (s.segmentShown g r).get F.LGT_MXDIAG_VSEG g = s.get F.LGT_MXDIAG_VSEG g ∧
      (s.segmentShown g r).get F.LGT_SDIAG_RESULT (g / 12) = 7 ∧ (s.segmentShown g r).sch = s.sch ∧
      (∀ k, isLed (k + 128) = true → (s.segmentShown g r).out (k + 128) = s.out (k + 128)) ∧
      ∀ f : Fld, f.reg = .LGT_SCNT → f.word = 0 → (s.segmentShown g r).get f (g / 12) = s.get f (g / 12) := by
  have hn : g / 12 < 16 := by omega
  obtain ⟨hfld, hidx, haddr⟩ := resultOf_segment hg
  obtain ⟨hfld', hidx', haddr'⟩ := resultOf_string hn
  have hseg := s.ledResult_leaves (show 32 + g < 164 by omega) hr
  have hstr := (s.ledResult (32 + g) r).ledResult_leaves (show g / 12 < 164 by omega) (show 7 < 16 by decide)
  obtain ⟨-, -, -, -, hmx, -⟩ := addr_lgt g
  obtain ⟨-, -, hsd, hcnt, -⟩ := addr_lgt (g / 12)
  have hapart : Reg.addr .LGT_MXDIAG g 0 0 < 0x40F00000 ∧ resultAddr (g / 12) ≠ Reg.addr .LGT_MXDIAG g 0 0 := by omega
  have hresult := hseg.result
  have hshown := hstr.result
  rw [hfld, hidx] at hresult
  rw [hfld', hidx'] at hshown
  have hbeside := hseg.beside F.LGT_MXDIAG_VSEG (by rw [hfld]; rfl) (by rw [hfld]; rfl) (by decide)
  rw [hidx] at hbeside
  refine ⟨(hstr.get (f := F.LGT_MXDIAG_RESULT) hapart).trans hresult, (hstr.get (f := F.LGT_MXDIAG_VSEG) hapart).trans hbeside, hshown,
    hstr.sch.trans hseg.sch, fun k hk => (hstr.out (by omega) hk).trans (hseg.out (by omega) hk), fun f hreg hw => ?_⟩
  exact (hstr.get (by rw [hreg, hw]; omega)).trans (hseg.get (by rw [hreg, hw]; omega))

/-- The voltage across a segment is noted. -/
def State.vsegNoted (s : State) (g v : Nat) : State := s.put F.LGT_MXDIAG_VSEG (min 255 v) g

theorem State.vsegNoted_vseg (s : State) (g v : Nat) : (s.vsegNoted g v).get F.LGT_MXDIAG_VSEG g = min 255 v :=
  (State.get_put_same s F.LGT_MXDIAG_VSEG _ g 0 ⟨by decide, by decide⟩).trans (Nat.mod_eq_of_lt (Nat.lt_succ_of_le (Nat.min_le_left _ _)))

theorem State.vsegNoted_out (s : State) {g k : Nat} (hg : g < 96) (hk : isLed (k + 128) = true) (v : Nat) :
    (s.vsegNoted g v).out (k + 128) = s.out (k + 128) := by
  have hbit := isLed_bit hk
  have hne : Reg.addr .LGT_MXDIAG g 0 0 ≠ Reg.addr .LGT_STATE k 0 0 := by simp only [Reg.addr, Reg.geom]; omega
  rw [State.out_of_isLed hk, State.out_of_isLed hk]
  exact (s.sameAt_put (f := F.LGT_MXDIAG_VSEG) _ hne).get (f := F.LGT_STATE_OUT)

/-- A segment whose switch has closed over an open LED, counted at its string. -/
def State.segmentBypassed (s : State) (g v : Nat) : State :=
  ((s.vsegNoted g v).holdOff (32 + g + 128) pBypass).bump F.LGT_SCNT_BYPASS (g / 12)

theorem State.segmentBypassed_leaves (s : State) {g : Nat} (hg : g < 96) (v : Nat) :
    (s.segmentBypassed g v).get F.LGT_MXDIAG_VSEG g = min 255 v ∧ (s.segmentBypassed g v).out (32 + g + 128) = 0 ∧
      bit ((s.segmentBypassed g v).chan (32 + g + 128)).prot pBypass = true ∧
      (s.segmentBypassed g v).oneMore s F.LGT_SCNT_BYPASS (g / 12) := by
  have hled := isLed_segment hg
  obtain ⟨-, -, -, -, hmx, -⟩ := addr_lgt g
  obtain ⟨-, -, -, hcnt, -⟩ := addr_lgt (g / 12)
  obtain ⟨hstate, -⟩ := addr_lgt (32 + g)
  obtain ⟨hout, hheld⟩ := State.holdOff_led hled (s.vsegNoted g v) pBypass
  have hmxAway : ledAway (32 + g) (Reg.addr .LGT_MXDIAG g 0 0) := ledAway_of_between hled (by omega)
  have hcntAway : ledAway (32 + g) (Reg.addr .LGT_SCNT (g / 12) 0 0) := ledAway_of_between hled (by omega)
  have hbump : ∀ (u : State) {f : Fld} {i : Nat}, Reg.addr .LGT_SCNT (g / 12) 0 0 ≠ f.reg.addr i 0 f.word →
      (u.bump F.LGT_SCNT_BYPASS (g / 12)).get f i = u.get f i := fun u _ _ hne => (u.sameAt_bump (f := F.LGT_SCNT_BYPASS) hne).get
  refine ⟨?_, ?_, ?_, ?_⟩
  · rw [State.segmentBypassed, hbump _ (f := F.LGT_MXDIAG_VSEG) (by change _ ≠ Reg.addr .LGT_MXDIAG g 0 0; omega),
      hheld.get (f := F.LGT_MXDIAG_VSEG) hmxAway, s.vsegNoted_vseg g v]
  · rw [State.out_of_isLed hled] at hout ⊢
    rw [State.segmentBypassed, hbump _ (f := F.LGT_STATE_OUT) (by change _ ≠ Reg.addr .LGT_STATE (32 + g) 0 0; omega), hout]
  · rw [State.segmentBypassed, State.chan_congr (congrArg SchState.chans (State.bump_sch _ _ _ _))]
    exact hheld.reason
  · rw [State.oneMore, State.segmentBypassed, State.get_bump_same _ _ _ _ ⟨by decide, by decide⟩,
      hheld.get (f := F.LGT_SCNT_BYPASS) hcntAway, State.vsegNoted,
      (s.sameAt_put (f := F.LGT_MXDIAG_VSEG) _ (by change Reg.addr .LGT_MXDIAG g 0 0 ≠ Reg.addr .LGT_SCNT (g / 12) 0 0; omega)).get
        (f := F.LGT_SCNT_BYPASS)]

end Sys2Proof.Machine
end

section
/-! The LED channels' commands put together: periods, start, supply stop and die shutdown, segments, gain, faults and CLR (R355 to R367,
R379 to R381). -/

namespace Sys2Proof.Machine

/-! ### What each command does -/

theorem exec_undercoatPeriodStart {s : State} {m : Nat} (hm : lightBits.contains m = true) (hon : s.out (m + 128) ≠ 0)
    (hdue : (s.led m).pstart + s.ledPeriod m ≤ s.now) (hfree : s.ledFrozen m = false) :
    exec (.undercoatPeriodStart m) s = s.ends (s.ledPeriodStart m ((s.led m).pstart + s.ledPeriod m)) := by
  change execUndercoatPeriodStart m s = _
  simp [execUndercoatPeriodStart, -List.contains_eq_mem, hm, hon, hdue, hfree]

theorem exec_undercoatPulseEnd {s : State} {m : Nat} (hm : lightBits.contains m = true) (hon : s.out (m + 128) ≠ 0)
    (hunder : s.get F.LGT_STATE_RANGE m = 1) (hlit : (s.led m).lit = true) (hfree : s.ledFrozen m = false) (hn : (s.led m).n < 1024)
    (hdue : (s.led m).pstart + (s.led m).n * (s.ledPeriod m / 1024) ≤ s.now) :
    exec (.undercoatPulseEnd m) s = s.ends (s.setLed m { s.led m with lit := false }) := by
  change execUndercoatPulseEnd m s = _
  simp [execUndercoatPulseEnd, -List.contains_eq_mem, State.on, hm, hon, hunder, hlit, hfree, hn, hdue]

theorem exec_stringStartTimeEnd {s : State} {m : Nat} {a : Act} (hstart : (s.led m).starting = some a) :
    exec (.stringStartTimeEnd m) s = s.ends (s.stringStarts m a) := by
  change execStringStartTimeEnd m s = _
  rw [execStringStartTimeEnd, hstart]
  rfl

theorem exec_segmentShort {s : State} {g : Nat} (v : Nat) (hg : g < 96) (hon : s.out (160 + g) ≠ 0) (hstr : s.out (128 + g / 12) ≠ 0) :
    exec (.segmentShort g v) s = s.ends ((s.vsegNoted g v).segmentShown g 3) := by
  change execSegmentShort g v s = _
  rw [execSegmentShort, if_pos ⟨hg, hon, hstr⟩]
  rfl

theorem exec_segmentBypass {s : State} {g : Nat} (v : Nat) (hg : g < 96) (hon : s.out (160 + g) ≠ 0)
    (hbyp : s.get F.LGT_SCFG_OPENBYP (g / 12) ≠ 0) :
    exec (.segmentBypass g v) s = s.ends ((s.segmentBypassed g v).segmentShown g 2) := by
  have hon' : s.on F.LGT_SCFG_OPENBYP (g / 12) = true := by simpa [State.on] using hbyp
  have hx : 160 + g = 32 + g + 128 := by omega
  change execSegmentBypass g v s = _
  rw [execSegmentBypass, if_pos ⟨hg, hon, hon'⟩, hx]
  rfl

theorem exec_gainUpdate {s : State} {q temp : Nat} (hq : q < 12) (hmeasured : temp % 256 ≠ 0x80) :
    exec (.gainUpdate q temp) s = s.ends ((s.tempNoted q temp).gainsTaken q (signedOf 8 temp)) := by
  change execGainUpdate q temp s = _
  simp only [execGainUpdate, hq, hmeasured, if_true, if_false]
  rfl

theorem exec_stringShort {s : State} {m : Nat} (v : Nat) (hm : m < 16) (hon : s.out (m + 128) ≠ 0) (hlit : s.anyLit m = true) :
    exec (.stringShort m v) s = s.ends ((s.put F.LGT_SDIAG_VOUT (min 1023 v) m).ledTrip m 1) := by
  change execStringShort m v s = _
  rw [execStringShort, if_pos ⟨hm, hon, hlit⟩]

theorem exec_stringOpen {s : State} {m : Nat} (v idrv : Nat) (hm : m < 16) (hon : s.out (m + 128) ≠ 0) :
    exec (.stringOpen m v idrv) s =
      s.ends (((s.put F.LGT_SDIAG_VOUT (min 1023 v) m).put F.LGT_SDIAG_IDRV (min 0xFFF idrv) m).ledTrip m 2) := by
  change execStringOpen m v idrv s = _
  rw [execStringOpen, if_pos ⟨hm, hon⟩]

theorem exec_amPinOvervoltage {s : State} {i : Nat} (hi : i < 36) (hon : s.out (256 + i) ≠ 0) :
    exec (.amPinOvervoltage i) s = s.ends (s.ledTrip (128 + i) 4) := by
  change execAmPinOvervoltage i s = _
  rw [execAmPinOvervoltage, if_pos ⟨hi, hon⟩]

theorem exec_amLowHeadroom {s : State} {i : Nat} (hi : i < 36) (hon : s.out (256 + i) ≠ 0) :
    exec (.amLowHeadroom i) s = s.ends (s.ledResult (128 + i) 2) := by
  change execAmLowHeadroom i s = _
  rw [execAmLowHeadroom, if_pos ⟨hi, hon⟩]

theorem exec_ledProtClear_string {s : State} {init : Init} {m : Nat} (hm : m < 16) (hfab : s.domOn domFAB = true)
    (hon : s.blockOn 5 = true) (hmay : s.mayWrite init .LGT_SPROT m = true) : exec (.ledProtClear init m) s = s.ends (s.ledClear m) := by
  change execLedProtClear init m s = _
  rw [execLedProtClear, if_pos hm, State.owned_of_mayWrite (r := .LGT_SPROT) 0 0 _ hfab hon hmay]

theorem exec_ledProtClear_am {s : State} {init : Init} {m : Nat} (hlow : 128 ≤ m) (hm : m < 164) (hfab : s.domOn domFAB = true)
    (hon : s.blockOn 5 = true) (hmay : s.mayWrite init .LGT_APROT (m - 128) = true) :
    exec (.ledProtClear init m) s = s.ends (s.ledClear m) := by
  change execLedProtClear init m s = _
  rw [execLedProtClear, if_neg (by omega), if_pos ⟨hlow, hm⟩, State.owned_of_mayWrite (r := .LGT_APROT) 0 0 _ hfab hon hmay]

/-! ### What each command leaves -/

theorem lightBits_all {p : Nat → Bool} (h : ∀ m ∈ lightBits, p m = true) : lightBits.all p = true := List.all_eq_true.mpr h

/-- A field that a value fits is set to it. -/
theorem State.get_put_fit (s : State) (f : Fld) {v : Nat} (i : Nat) (hf : f.fits) (hv : v < 2 ^ (f.hi + 1 - f.lo)) : (s.put f v i).get f i = v :=
  (State.get_put_same s f v i 0 hf).trans (Nat.mod_eq_of_lt hv)

/-- A supply stop shows in LGT_STAT. -/
def State.supplyShown (s : State) (low v : Nat) : State := (s.put F.LGT_STAT_VLOW low).put F.LGT_STAT_VLED (min 1023 v)

theorem State.supplyShown_stat (s : State) {low : Nat} (hlow : low < 2) (v : Nat) :
    (s.supplyShown low v).get F.LGT_STAT_VLOW = low ∧ (s.supplyShown low v).get F.LGT_STAT_VLED = min 1023 v := by
  refine ⟨?_, State.get_put_fit _ F.LGT_STAT_VLED 0 ⟨by decide, by decide⟩ (Nat.lt_succ_of_le (Nat.min_le_left _ _))⟩
  rw [State.supplyShown, State.get_put_apart _ F.LGT_STAT_VLED F.LGT_STAT_VLOW _ _ _ ⟨by decide, by decide⟩ rfl rfl (by decide)]
  exact s.get_put_fit F.LGT_STAT_VLOW 0 ⟨by decide, by decide⟩ hlow

/-- A die shutdown, or its end, shows in LGT_STAT. -/
def State.dieShown (s : State) (shut warn tj : Nat) : State :=
  ((s.put F.LGT_STAT_TSHUT shut).put F.LGT_STAT_TWARN warn).put F.LGT_STAT_TJ tj

theorem State.dieShown_stat (s : State) {shut warn tj : Nat} (hshut : shut < 2) (hwarn : warn < 2) (htj : tj < 256) :
    (s.dieShown shut warn tj).get F.LGT_STAT_TSHUT = shut ∧ (s.dieShown shut warn tj).get F.LGT_STAT_TWARN = warn ∧
      (s.dieShown shut warn tj).get F.LGT_STAT_TJ = tj := by
  have hfits : F.LGT_STAT_TJ.fits := ⟨by decide, by decide⟩
  refine ⟨?_, ?_, State.get_put_fit _ F.LGT_STAT_TJ 0 hfits (htj.trans (by decide))⟩
  · rw [State.dieShown, State.get_put_apart _ F.LGT_STAT_TJ F.LGT_STAT_TSHUT _ _ _ hfits rfl rfl (by decide),
      State.get_put_apart _ F.LGT_STAT_TWARN F.LGT_STAT_TSHUT _ _ _ ⟨by decide, by decide⟩ rfl rfl (by decide)]
    exact s.get_put_fit F.LGT_STAT_TSHUT 0 ⟨by decide, by decide⟩ hshut
  · rw [State.dieShown, State.get_put_apart _ F.LGT_STAT_TJ F.LGT_STAT_TWARN _ _ _ hfits rfl rfl (by decide)]
    exact State.get_put_fit _ F.LGT_STAT_TWARN 0 ⟨by decide, by decide⟩ hwarn

/-- The choice of a curve and the curves stand beside the temperatures. -/
theorem State.tempNoted_leaves (s : State) {q i : Nat} (hi : i < 36) (temp : Nat) :
    (s.tempNoted q temp).get F.LGT_DIM_CURVE (128 + i) = s.get F.LGT_DIM_CURVE (128 + i) ∧
      (∀ c < 4, ∀ j < 8, (s.tempNoted q temp).word .LGT_CURVE c 0 j = s.word .LGT_CURVE c 0 j) ∧
      bitsOf ((s.tempNoted q temp).word .LGT_TRIT 0 0 (q / 4)) (8 * (q % 4) + 7) (8 * (q % 4)) = temp % 256 := by
  refine ⟨(s.sameAt_setWord _ ?_).get, fun c hc j hj => (s.sameAt_setWord _ ?_).word, ?_⟩
  · change Reg.addr .LGT_TRIT 0 0 (q / 4) ≠ Reg.addr .LGT_DIM (128 + i) 0 0
    simp only [Reg.addr, Reg.geom]
    omega
  · simp only [Reg.addr, Reg.geom]
    omega
  · rw [State.tempNoted, State.word_setWord_same, bitsOf_setBits_same _ _ _ _ (by omega) (by omega),
      show 8 * (q % 4) + 7 + 1 - 8 * (q % 4) = 8 by omega]
    rfl

/-- Settles O23: a change of a channel is followed through its edges and its light, which touch its own registers alone; what holds all
channels goes through them one by one, each leaving the others as they are; a fault is a hold with its cause, count and result. -/
theorem lightsAndTheirFaultsComplete : Obligations.LightsAndTheirFaultsComplete := by
  refine ⟨?period, ?pulse, ?start, ?stop, ?resume, ?shutdown, ?release, ?short, ?bypass, ?gain, ?stringShort, ?stringOpen, ?pinOver,
    ?headroom, ?clrString, ?clrAm⟩
  case period =>
    intro s m hm hon hdue hfree
    exact .of_ends _ (exec_undercoatPeriodStart hm hon hdue hfree) (s.ledPeriodStart_leaves (List.contains_iff_mem.mp hm) _)
  case pulse =>
    intro s m hm hon hunder hlit hfree hn hdue
    exact .of_ends _ (exec_undercoatPulseEnd hm hon hunder hlit hfree hn hdue) rfl
  case start =>
    intro s m a hm hstart
    exact .of_ends _ (exec_stringStartTimeEnd hstart) (s.stringStarts_leaves (List.contains_iff_mem.mp hm) a)
  case stop =>
    intro s v
    obtain ⟨hstat, hall⟩ := (s.supplyShown 1 v).lightsOff_leaves (reason := pSupply) (show 6 < 16 by decide)
    obtain ⟨hvlow, hvled⟩ := s.supplyShown_stat (show 1 < 2 by decide) v
    refine .of_ends ((s.supplyShown 1 v).lightsOff pSupply 6) rfl
      ⟨(hstat _ rfl rfl).trans hvlow, (hstat _ rfl rfl).trans hvled, List.all_eq_true.mpr fun m hm => ?_⟩
    have hm16 := List.mem_range.mp hm
    obtain ⟨hout, hheld, hresult⟩ := hall m (mem_lightBits.mpr (.inl hm16))
    simp [hout, hheld, hresult hm16]
  case resume =>
    intro s v
    obtain ⟨hstat, hall⟩ := (s.supplyShown 0 v).lightsBack_leaves pSupply
    obtain ⟨hvlow, hvled⟩ := s.supplyShown_stat (show 0 < 2 by decide) v
    exact .of_ends ((s.supplyShown 0 v).lightsBack pSupply) rfl
      ⟨(hstat _ rfl rfl).trans hvlow, (hstat _ rfl rfl).trans hvled, lightBits_all fun m hm => by simp [hall m hm]⟩
  case shutdown =>
    intro s tj htj
    obtain ⟨hstat, hall⟩ := (s.dieShown 1 1 tj).lightsOff_leaves (reason := pThermal) (show 5 < 16 by decide)
    obtain ⟨hshut, -, hshown⟩ := s.dieShown_stat (show 1 < 2 by decide) (show 1 < 2 by decide) htj
    refine .of_ends ((s.dieShown 1 1 tj).lightsOff pThermal 5) rfl
      ⟨(hstat _ rfl rfl).trans hshut, (hstat _ rfl rfl).trans hshown, lightBits_all fun m hm => ?_⟩
    obtain ⟨hout, hheld, -⟩ := hall m hm
    simp [hout, hheld]
  case release =>
    intro s tj warm htj
    have hwarm : (if warm then 1 else 0) < 2 := by cases warm <;> decide
    obtain ⟨hstat, hall⟩ := (s.dieShown 0 (if warm then 1 else 0) tj).lightsBack_leaves pThermal
    obtain ⟨hshut, hwarn, hshown⟩ := s.dieShown_stat (show 0 < 2 by decide) hwarm htj
    exact .of_ends ((s.dieShown 0 (if warm then 1 else 0) tj).lightsBack pThermal) rfl
      ⟨(hstat _ rfl rfl).trans hshut, (hstat _ rfl rfl).trans hwarn, (hstat _ rfl rfl).trans hshown,
        lightBits_all fun m hm => by simp [hall m hm]⟩
  case short =>
    intro s g v hg hon hstr
    have hx : 160 + g = 32 + g + 128 := by omega
    obtain ⟨hresult, hvseg, hshown, -, hout, -⟩ := (s.vsegNoted g v).segmentShown_leaves hg (show 3 < 16 by decide)
    refine .of_ends _ (exec_segmentShort v hg hon hstr) ⟨hvseg.trans (s.vsegNoted_vseg g v), hresult, hshown, ?_⟩
    rw [hx, State.withPending_out, hout _ (isLed_segment hg), s.vsegNoted_out hg (isLed_segment hg)]
  case bypass =>
    intro s g v hg hon hbyp
    have hx : 160 + g = 32 + g + 128 := by omega
    obtain ⟨hresult, hvseg, -, hsch, hout, hcnt⟩ := (s.segmentBypassed g v).segmentShown_leaves hg (show 2 < 16 by decide)
    obtain ⟨hvseg', hoff, hheld, hcount⟩ := s.segmentBypassed_leaves hg v
    refine .of_ends _ (exec_segmentBypass v hg hon hbyp) ⟨hvseg.trans hvseg', hresult, ?_, ?_, (hcnt _ rfl rfl).trans hcount⟩
    · rw [hx, State.withPending_out, hout _ (isLed_segment hg), hoff]
    · rw [hx, State.withPending_chan, State.chan_congr (congrArg SchState.chans hsch), hheld]
  case gain =>
    intro s q temp i hq hlow hhigh hmeasured hok ht
    have hi : i < 36 := by omega
    obtain ⟨hdim, hwords, htemp⟩ := s.tempNoted_leaves (q := q) hi temp
    obtain ⟨hok', ht', hg'⟩ := State.curve_congr (hwords (s.get F.LGT_DIM_CURVE (128 + i)) (bitsOf_lt _ _ _))
    have hpoint : signedOf 8 temp ≤ (s.tempNoted q temp).curveT ((s.tempNoted q temp).get F.LGT_DIM_CURVE (128 + i)) 0 := by
      rwa [hdim, ht']
    obtain ⟨hgain, hkept⟩ := (s.tempNoted q temp).gainsTaken_leaves hq hlow hhigh (by rw [hdim, hok', hok]) hpoint
    refine .of_ends _ (exec_gainUpdate hq hmeasured) ⟨?_, ?_⟩
    · rw [State.withPending_get, hgain, hdim, hg']
    · rw [State.withPending_word, hkept, htemp]
  case stringShort =>
    intro s m v hm hon hlit
    have hvout : (s.put F.LGT_SDIAG_VOUT (min 1023 v) m).get F.LGT_SDIAG_VOUT m = min 1023 v :=
      s.get_put_fit F.LGT_SDIAG_VOUT m ⟨by decide, by decide⟩ (Nat.lt_succ_of_le (Nat.min_le_left _ _))
    have hcnt : Reg.addr .LGT_SDIAG m 0 0 ≠ Reg.addr .LGT_SCNT m 0 0 := by simp only [Reg.addr, Reg.geom]; omega
    have htrip := (s.put F.LGT_SDIAG_VOUT (min 1023 v) m).stringTrip_leaves hm (show 1 < 16 by decide)
    have hcount := (s.put F.LGT_SDIAG_VOUT (min 1023 v) m).stringTrip_counts hm (show 1 < 16 by decide) (f := F.LGT_SCNT_SHORTS)
      ⟨by decide, by decide⟩ rfl rfl fun _ => rfl
    rw [State.oneMore, (s.sameAt_put (f := F.LGT_SDIAG_VOUT) _ hcnt).get (f := F.LGT_SCNT_SHORTS)] at hcount
    exact .of_ends _ (exec_stringShort v hm hon hlit)
      ⟨htrip.out, htrip.held, htrip.latch, htrip.shown, htrip.result, hcount, (htrip.findings _ rfl rfl (by decide)).trans hvout⟩
  case stringOpen =>
    intro s m v idrv hm hon
    have hidrv : ((s.put F.LGT_SDIAG_VOUT (min 1023 v) m).put F.LGT_SDIAG_IDRV (min 0xFFF idrv) m).get F.LGT_SDIAG_IDRV m = min 0xFFF idrv :=
      State.get_put_fit _ F.LGT_SDIAG_IDRV m ⟨by decide, by decide⟩ (Nat.lt_succ_of_le (Nat.min_le_left _ _))
    have hcnt : Reg.addr .LGT_SDIAG m 0 0 ≠ Reg.addr .LGT_SCNT m 0 0 := by simp only [Reg.addr, Reg.geom]; omega
    have htrip := State.stringTrip_leaves hm ((s.put F.LGT_SDIAG_VOUT (min 1023 v) m).put F.LGT_SDIAG_IDRV (min 0xFFF idrv) m)
      (show 2 < 16 by decide)
    have hcount := State.stringTrip_counts hm ((s.put F.LGT_SDIAG_VOUT (min 1023 v) m).put F.LGT_SDIAG_IDRV (min 0xFFF idrv) m)
      (show 2 < 16 by decide) (f := F.LGT_SCNT_OPENS) ⟨by decide, by decide⟩ rfl rfl fun _ => rfl
    rw [State.oneMore, (State.sameAt_put _ (f := F.LGT_SDIAG_IDRV) _ hcnt).get (f := F.LGT_SCNT_OPENS),
      (s.sameAt_put (f := F.LGT_SDIAG_VOUT) _ hcnt).get (f := F.LGT_SCNT_OPENS)] at hcount
    exact .of_ends _ (exec_stringOpen v idrv hm hon)
      ⟨htrip.out, htrip.held, htrip.latch, htrip.shown, htrip.result, hcount, (htrip.findings _ rfl rfl (by decide)).trans hidrv⟩
  case pinOver =>
    rintro s m i hi rfl hon
    exact .of_ends _ (exec_amPinOvervoltage hi hon) (s.amTrip_leaves hi (show 4 < 16 by decide))
  case headroom =>
    intro s i hi hon
    have hx : 256 + i = 128 + i + 128 := by omega
    obtain ⟨hfld, hidx, -⟩ := resultOf_am i
    have htold := s.ledResult_leaves (show 128 + i < 164 by omega) (show 2 < 16 by decide)
    have hresult := htold.result
    rw [hfld, hidx] at hresult
    refine .of_ends _ (exec_amLowHeadroom hi hon) ⟨hresult, ?_, ?_⟩
    · rw [hx, State.withPending_out, htold.out (by omega) (isLed_am hi)]
    · rw [State.withPending_chan, State.chan_congr (congrArg SchState.chans htold.sch)]
  case clrString =>
    intro s init m hm hfab hon hmay
    exact .of_ends _ (exec_ledProtClear_string hm hfab hon hmay) (s.ledClear_string hm)
  case clrAm =>
    intro s init m hlow hm hfab hon hmay
    exact .of_ends _ (exec_ledProtClear_am hlow hm hfab hon hmay) (s.ledClear_am hlow hm)

end Sys2Proof.Machine
end

section
/-! The field inputs: RAW, the filter, contact cleaning, conversions and thresholds, events and wakes while parked, each with what it
leaves alone (R395 to R410). -/

namespace Sys2Proof.Machine

/-! ### Inputs beside their registers -/

@[simp] theorem State.setFin_get (s : State) (i : Nat) (v : FinIn) (f : Fld) (k j : Nat) : (s.setFin i v).get f k j = s.get f k j := rfl

@[simp] theorem State.setFin_fin_same (s : State) (i : Nat) (v : FinIn) : (s.setFin i v).fin_ i = v := Sparse.at_set_same _ _ _ _

theorem State.setFin_fin_ne (s : State) {i k : Nat} (v : FinIn) (h : k ≠ i) : (s.setFin k v).fin_ i = s.fin_ i := Sparse.at_set_ne _ _ _ _ _ h

theorem State.fin_congr {s t : State} (h : t.fin = s.fin) (i : Nat) : t.fin_ i = s.fin_ i := by rw [State.fin_, State.fin_, h]

theorem State.sameAt_setFin (s : State) (i : Nat) (v : FinIn) (a : Nat) : s.sameAt (s.setFin i v) a := rfl

@[simp] theorem State.termsSeen_fin (s : State) : s.termsSeen.fin = s.fin := by
  unfold State.termsSeen
  split <;> rfl

theorem State.sameAt.on {s t : State} {f : Fld} {i j : Nat} (h : s.sameAt t (f.reg.addr i j f.word)) : t.on f i j = s.on f i j := by
  rw [State.on, State.on, h.get]

/-- A field of one bit shows the truth value that is put there. -/
theorem State.on_put_bit (s : State) {f : Fld} (i : Nat) (b : Bool) (hone : f.hi = f.lo) (h31 : f.hi ≤ 31) :
    (s.put f (if b then 1 else 0) i).on f i = b := by
  rw [State.on, State.get_put_same _ _ _ _ _ ⟨hone.ge, h31⟩, hone, Nat.add_sub_cancel_left]
  cases b <;> rfl

/-! ### RAW (R395, R403, R407) -/

/-- RAW of input i is b, and nothing else has changed of the registers and of the input but since when. -/
structure State.TakesRaw (s t : State) (i : Nat) (b : Bool) : Prop where
  raw : t.on F.FIN_STATE_RAW i = b
  filtered : t.get F.FIN_STATE_STATE i = s.get F.FIN_STATE_STATE i
  record : ∃ since, t.fin_ i = { s.fin_ i with rawSince := since }
  elsewhere : ∀ a, Reg.addr .FIN_STATE i 0 0 ≠ a → s.sameAt t a

theorem State.takesRaw_rfl (s : State) (i : Nat) : s.TakesRaw s i (s.on F.FIN_STATE_RAW i) := ⟨rfl, rfl, ⟨_, rfl⟩, fun a _ => s.sameAt_rfl a⟩

theorem State.setRaw_takesRaw (s : State) (i : Nat) (b : Bool) : s.TakesRaw (s.setRaw i b) i b := by
  unfold State.setRaw
  split
  · next h => exact h ▸ s.takesRaw_rfl i
  · have hregs : ∀ a, (s.put F.FIN_STATE_RAW (if b then 1 else 0) i).sameAt
        (((s.put F.FIN_STATE_RAW (if b then 1 else 0) i).setFin i { s.fin_ i with rawSince := s.now }).termsSeen) a :=
      State.sameAt_of_regs (State.termsSeen_regs _)
    refine ⟨?_, ?_, ⟨s.now, ?_⟩, fun a ha => (s.sameAt_put (f := F.FIN_STATE_RAW) _ ha).trans (hregs a)⟩
    · exact (hregs _).on.trans (s.on_put_bit i b rfl (by decide))
    · exact (hregs _).get.trans (s.get_put_apart F.FIN_STATE_RAW F.FIN_STATE_STATE _ _ _ ⟨by decide, by decide⟩ rfl rfl (by decide))
    · rw [State.fin_congr (State.termsSeen_fin _), State.setFin_fin_same]

theorem State.rawHeld_eq_false {s : State} {i : Nat} (h : s.on F.FIN_CFG_POL i = true ∨ s.get F.PMU_SUPPLY_ZONE ≠ 0) :
    s.rawHeld i = false := by
  rw [State.rawHeld]
  rcases h with h | h <;> simp [h]

theorem State.rawByPin_takesRaw {s : State} {i : Nat} (high : Bool) (hfree : s.rawHeld i = false) :
    s.TakesRaw (s.rawByPin i high) i ((high == s.on F.FIN_CFG_POL i) != s.on F.FIN_CFG_INV i) := by
  rw [State.rawByPin, hfree]
  exact s.setRaw_takesRaw i _

/-- Whatever VALUE is, at most RAW follows it. -/
theorem State.rawByValue_takesRaw (s : State) (i : Nat) : ∃ b, s.TakesRaw (s.rawByValue i) i b := by
  unfold State.rawByValue
  dsimp only
  split_ifs
  · exact ⟨_, s.takesRaw_rfl i⟩
  · exact ⟨_, s.setRaw_takesRaw i _⟩
  · exact ⟨_, s.setRaw_takesRaw i _⟩
  · exact ⟨_, s.setRaw_takesRaw i _⟩
  · exact ⟨_, s.takesRaw_rfl i⟩

/-- At HI or above, RAW is active (R403). -/
theorem State.rawByValue_reached {s : State} {i : Nat} (hfree : s.rawHeld i = false) (hle : s.get F.FIN_ATHR_LO i ≤ s.get F.FIN_ATHR_HI i)
    (hv : s.get F.FIN_ATHR_HI i ≤ s.get F.FIN_AVAL_VALUE i) : s.rawByValue i = s.setRaw i (!s.on F.FIN_CFG_INV i) := by
  rw [State.rawByValue, hfree, if_neg Bool.false_ne_true, if_neg (Nat.not_lt.mpr hle), if_pos hv]

/-! ### Events (R406) and messages to the gateway (R496) -/

theorem State.sameAt_finEvent (s : State) (i code arg : Nat) {a : Nat} (hlow : a < 0x40600C00) : s.sameAt (s.finEvent i code arg) a := by
  unfold State.finEvent
  dsimp only
  split_ifs
  · exact s.sameAt_rfl a
  · exact s.sameAt_event _ _ _ _ _ _ (addr_cum_ne_of_lt 27 (hlow.trans (by decide)))
  · exact s.sameAt_bump (f := F.FIN_STAT_EVDROP) (hlow.trans (by decide)).ne'

theorem State.sameAt_toGateway (s : State) (m : Msg) (a : Nat) : s.sameAt (s.toGateway m) a := by
  unfold State.toGateway
  split <;> rfl

/-- The registers of the input sets lie below the fast stamps. -/
theorem addr_inputSet {i : Nat} (hi : i < 96) :
    Reg.addr .FIN_STATE i 0 0 < 0x40600C00 ∧ Reg.addr .FIN_ATHR i 0 0 < 0x40600C00 := by
  simp only [Reg.addr, Reg.geom]
  omega

/-! ### Contact cleaning (R401) -/

/-- FIN_STATE of every input is another state's but for CLNACT and CLNW. -/
def State.CleansOnly (s t : State) : Prop :=
  ∀ f : Fld, f.reg = .FIN_STATE → f.word = 0 → f.hi < 2 ∨ 3 < f.lo → ∀ i, t.get f i = s.get f i

theorem State.cleansOnly_rfl (s : State) : s.CleansOnly s := fun _ _ _ _ _ => rfl

theorem State.CleansOnly.trans {s t u : State} (h : s.CleansOnly t) (h' : t.CleansOnly u) : s.CleansOnly u :=
  fun f hr hw ha i => (h' f hr hw ha i).trans (h f hr hw ha i)

theorem State.cleansOnly_put (s : State) {f : Fld} (v k : Nat) (hr : f.reg = .FIN_STATE) (hw : f.word = 0) (hf : f.fits)
    (hlo : 2 ≤ f.lo) (hhi : f.hi ≤ 3) : s.CleansOnly (s.put f v k) := by
  intro g hgr hgw hga i
  by_cases hik : k = i
  · subst hik
    exact s.get_put_apart f g v k 0 hf (hgr.trans hr.symm) (hgw.trans hw.symm) (by omega)
  · refine s.get_put_elsewhere f g v k 0 i 0 ?_
    rw [hr, hw, hgr, hgw]
    simp only [Reg.addr, Reg.geom]
    omega

theorem State.cleansOnly_clnact (s : State) (v k : Nat) : s.CleansOnly (s.put F.FIN_STATE_CLNACT v k) :=
  s.cleansOnly_put v k rfl rfl ⟨by decide, by decide⟩ (by decide) (by decide)

theorem State.cleansOnly_clnw (s : State) (v k : Nat) : s.CleansOnly (s.put F.FIN_STATE_CLNW v k) :=
  s.cleansOnly_put v k rfl rfl ⟨by decide, by decide⟩ (by decide) (by decide)

theorem State.cleansOnly_cleanStart (s : State) (k : Nat) : s.CleansOnly (s.cleanStart k) :=
  (s.cleansOnly_clnact 1 k).trans (State.cleansOnly_clnw _ 0 k)

/-- The next pulse is that of a waiting input, if one begins at all. -/
theorem State.cleanNext_cases (s : State) : s.cleanNext = s ∨ ∃ k, s.get F.FIN_STATE_CLNW k ≠ 0 ∧ s.cleanNext = s.cleanStart k := by
  unfold State.cleanNext
  split
  · split
    · next k hk => exact .inr ⟨k, by simpa [State.on] using List.find?_some hk, rfl⟩
    · exact .inl rfl
  · exact .inl rfl

theorem State.cleansOnly_cleanNext (s : State) : s.CleansOnly s.cleanNext := by
  rcases s.cleanNext_cases with h | ⟨k, -, h⟩
  · exact h.symm ▸ s.cleansOnly_rfl
  · exact h.symm ▸ s.cleansOnly_cleanStart k

theorem State.cleansOnly_cleanAsk (s : State) (k : Nat) : s.CleansOnly (s.cleanAsk k) := by
  unfold State.cleanAsk
  split
  · exact s.cleansOnly_cleanStart k
  · exact s.cleansOnly_clnw 1 k

theorem State.cleansOnly_cleanStop (s : State) (k : Nat) : s.CleansOnly (s.cleanStop k) :=
  ((s.cleansOnly_clnact 0 k).trans (State.cleansOnly_clnw _ 0 k)).trans (State.cleansOnly_cleanNext _)

/-- An input whose pulse does not wait stands aside when the next pulse begins. -/
theorem State.cleanNext_spares {s : State} {i : Nat} (hwait : s.get F.FIN_STATE_CLNW i = 0) :
    s.sameAt s.cleanNext (Reg.addr .FIN_STATE i 0 0) ∧ s.cleanNext.fin_ i = s.fin_ i := by
  rcases s.cleanNext_cases with h | ⟨k, hk, h⟩
  · rw [h]
    exact ⟨s.sameAt_rfl _, rfl⟩
  · have hne : k ≠ i := fun hki => hk (hki ▸ hwait)
    have haddr : Reg.addr .FIN_STATE k 0 0 ≠ Reg.addr .FIN_STATE i 0 0 := by
      simp only [Reg.addr, Reg.geom]
      omega
    rw [h]
    exact ⟨((s.sameAt_put (f := F.FIN_STATE_CLNACT) 1 haddr).trans (State.sameAt_put (f := F.FIN_STATE_CLNW) _ 0 haddr)).trans
      (State.sameAt_setFin _ _ _ _), State.setFin_fin_ne _ _ hne⟩

/-! ### The filter (R399) -/

/-- STATE takes a value and the change is counted and told to the gateway. -/
def State.filterPassed (s : State) (i : Nat) (b : Bool) : State :=
  (((s.put F.FIN_STATE_STATE (if b then 1 else 0) i).bump F.FIN_STATE_TOGGLES i).termsSeen).toGateway
    ⟨0x40, i, false, false, false, [if b then 1 else 0], none, 0, 0, 0⟩

/-- A change of STATE begins, asks for or ends a cleaning pulse. -/
def State.cleanFollow (s : State) (i : Nat) (b : Bool) : State :=
  if b then (if s.on F.FIN_CFG_CLEAN i then s.cleanAsk i else s) else s.cleanStop i

theorem State.setState_eq (s : State) (i : Nat) (b : Bool) :
    s.setState i b = ((s.filterPassed i b).cleanFollow i b).finEvent i 1 (if b then 1 else 0) := rfl

theorem State.cleansOnly_cleanFollow (s : State) (i : Nat) (b : Bool) : s.CleansOnly (s.cleanFollow i b) := by
  unfold State.cleanFollow
  split_ifs
  · exact s.cleansOnly_cleanAsk i
  · exact s.cleansOnly_rfl
  · exact s.cleansOnly_cleanStop i

theorem State.filterPassed_leaves (s : State) (i : Nat) (b : Bool) :
    (s.filterPassed i b).on F.FIN_STATE_STATE i = b ∧ (s.filterPassed i b).oneMore s F.FIN_STATE_TOGGLES i ∧
      (s.filterPassed i b).on F.FIN_STATE_RAW i = s.on F.FIN_STATE_RAW i := by
  have hstate : F.FIN_STATE_STATE.fits := ⟨by decide, by decide⟩
  have htog : F.FIN_STATE_TOGGLES.fits := ⟨by decide, by decide⟩
  have hregs : ∀ a, ((s.put F.FIN_STATE_STATE (if b then 1 else 0) i).bump F.FIN_STATE_TOGGLES i).sameAt (s.filterPassed i b) a :=
    fun a => (State.sameAt_of_regs (State.termsSeen_regs _) a).trans (State.sameAt_toGateway _ _ a)
  have hbeside : ∀ (u : State) (f : Fld), f.reg = .FIN_STATE → f.word = 0 → f.hi < 16 →
      (u.bump F.FIN_STATE_TOGGLES i).get f i = u.get f i := fun u f hr hw hlow =>
    (u.noted F.FIN_STATE_TOGGLES 1 i).get_put_apart F.FIN_STATE_TOGGLES f _ i 0 htog hr hw (.inr hlow)
  refine ⟨?_, ?_, ?_⟩
  · rw [(hregs _).on, State.on, hbeside _ F.FIN_STATE_STATE rfl rfl (by decide)]
    exact s.on_put_bit i b rfl (by decide)
  · rw [State.oneMore, (hregs _).get, State.get_bump_same _ _ _ _ htog,
      s.get_put_apart F.FIN_STATE_STATE F.FIN_STATE_TOGGLES _ _ _ hstate rfl rfl (by decide)]
  · rw [(hregs _).on, State.on, hbeside _ F.FIN_STATE_RAW rfl rfl (by decide),
      s.get_put_apart F.FIN_STATE_STATE F.FIN_STATE_RAW _ _ _ hstate rfl rfl (by decide), State.on]

/-- Neither the cleaning nor the event of a change touches STATE, RAW and TOGGLES. -/
theorem State.setState_get (s : State) {i : Nat} (hi : i < 96) (b : Bool) {f : Fld} (hr : f.reg = .FIN_STATE) (hw : f.word = 0)
    (hapart : f.hi < 2 ∨ 3 < f.lo) : (s.setState i b).get f i = (s.filterPassed i b).get f i := by
  have haddr : f.reg.addr i 0 f.word < 0x40600C00 := by
    rw [hr, hw]
    exact (addr_inputSet hi).1
  rw [State.setState_eq, (State.sameAt_finEvent _ _ _ _ haddr).get, (s.filterPassed i b).cleansOnly_cleanFollow i b f hr hw hapart i]

/-- R399: STATE takes a value, TOGGLES counts it, and RAW stays. -/
theorem State.setState_leaves (s : State) {i : Nat} (hi : i < 96) (b : Bool) :
    (s.setState i b).on F.FIN_STATE_STATE i = b ∧ (s.setState i b).oneMore s F.FIN_STATE_TOGGLES i ∧
      (s.setState i b).on F.FIN_STATE_RAW i = s.on F.FIN_STATE_RAW i := by
  rw [State.oneMore, State.on, State.on, s.setState_get hi b (f := F.FIN_STATE_STATE) rfl rfl (by decide),
    s.setState_get hi b (f := F.FIN_STATE_TOGGLES) rfl rfl (by decide), s.setState_get hi b (f := F.FIN_STATE_RAW) rfl rfl (by decide)]
  exact s.filterPassed_leaves i b

/-! ### Conversions and thresholds (R402, R403) -/

/-- A conversion of an input gives VALUE and counts SEQ, and the next one is due. -/
def State.converted (s : State) (i v due : Nat) : State :=
  ((s.put F.FIN_AVAL_VALUE v i).wrap F.FIN_AVAL_SEQ i).setFin i { s.fin_ i with convAt := due }

theorem State.sameAt_converted (s : State) {i : Nat} (v due : Nat) {a : Nat} (ha : Reg.addr .FIN_AVAL i 0 0 ≠ a) :
    s.sameAt (s.converted i v due) a :=
  ((s.sameAt_put (f := F.FIN_AVAL_VALUE) v ha).trans (State.sameAt_put (f := F.FIN_AVAL_SEQ) _ _ ha)).trans (State.sameAt_setFin _ _ _ _)

theorem State.converted_leaves (s : State) (i due : Nat) {v : Nat} (hv : v ≤ 0xFFF) :
    (s.converted i v due).get F.FIN_AVAL_VALUE i = v ∧
      (s.converted i v due).get F.FIN_AVAL_SEQ i = (s.get F.FIN_AVAL_SEQ i + 1) % 65536 := by
  have hvalue : F.FIN_AVAL_VALUE.fits := ⟨by decide, by decide⟩
  have hseq : F.FIN_AVAL_SEQ.fits := ⟨by decide, by decide⟩
  rw [State.converted, State.setFin_get, State.setFin_get, State.wrap]
  constructor
  · rw [State.get_put_apart _ F.FIN_AVAL_SEQ F.FIN_AVAL_VALUE _ _ _ hseq rfl rfl (by decide)]
    exact s.get_put_fit F.FIN_AVAL_VALUE i hvalue (Nat.lt_succ_of_le hv)
  · rw [State.get_put_same _ _ _ _ _ hseq, s.get_put_apart F.FIN_AVAL_VALUE F.FIN_AVAL_SEQ _ _ _ hvalue rfl rfl (by decide)]
    rfl

/-- HI and LO as a write of FIN_ATHR sets them. -/
def State.thresholdsSet (s : State) (i hi lo : Nat) : State := (s.put F.FIN_ATHR_HI hi i).put F.FIN_ATHR_LO lo i

theorem State.thresholdsSet_leaves (s : State) (i hi lo : Nat) :
    (s.thresholdsSet i hi lo).get F.FIN_ATHR_HI i = hi % 4096 ∧ (s.thresholdsSet i hi lo).get F.FIN_ATHR_LO i = lo % 4096 := by
  have hlo : F.FIN_ATHR_LO.fits := ⟨by decide, by decide⟩
  refine ⟨?_, State.get_put_same _ _ _ _ _ hlo⟩
  rw [State.thresholdsSet, State.get_put_apart _ F.FIN_ATHR_LO F.FIN_ATHR_HI _ _ _ hlo rfl rfl (by decide)]
  exact State.get_put_same _ _ _ _ _ ⟨by decide, by decide⟩

/-- The word of FIN_ATHR holds both thresholds. -/
theorem bitsOf_thresholds (hi lo : Nat) :
    bitsOf (BitVec.ofNat 32 (hi % 4096 * 65536 + lo % 4096)) 27 16 = hi % 4096 ∧
      bitsOf (BitVec.ofNat 32 (hi % 4096 * 65536 + lo % 4096)) 11 0 = lo % 4096 := by
  simp only [bitsOf, BitVec.toNat_ofNat]
  omega

/-- Judging RAW anew and naming a threshold fault leave the thresholds that a write sets. -/
theorem State.sameAt_athrWrite (s : State) {i : Nat} (hi : i < 96) (v : Word) :
    (s.thresholdsSet i (bitsOf v 27 16) (bitsOf v 11 0)).sameAt (s.athrWrite i v) (Reg.addr .FIN_ATHR i 0 0) := by
  have hlow := (addr_inputSet hi).2
  have hne : Reg.addr .FIN_STATE i 0 0 ≠ Reg.addr .FIN_ATHR i 0 0 := by
    simp only [Reg.addr, Reg.geom]
    omega
  obtain ⟨b, hraw⟩ := (s.thresholdsSet i (bitsOf v 27 16) (bitsOf v 11 0)).rawByValue_takesRaw i
  change State.sameAt _ (if bitsOf v 27 16 < bitsOf v 11 0 then
    (if (s.thresholdsSet i (bitsOf v 27 16) (bitsOf v 11 0)).analogue i then
      (s.thresholdsSet i (bitsOf v 27 16) (bitsOf v 11 0)).rawByValue i
    else s.thresholdsSet i (bitsOf v 27 16) (bitsOf v 11 0)).finEvent i 3 0
    else s.thresholdsSet i (bitsOf v 27 16) (bitsOf v 11 0)) _
  split_ifs
  · exact (hraw.elsewhere _ hne).trans (State.sameAt_finEvent _ _ _ _ hlow)
  · exact State.sameAt_finEvent _ _ _ _ hlow
  · exact State.sameAt_rfl _ _

/-! ### Wakes while parked (R410, R534) -/

/-- A wake that arises while the device is parked is latched, and shows in no register and in no field input yet. -/
theorem State.raiseWake_of_parked {s : State} (hpark : s.parked = true) (w : Wake) :
    (s.raiseWake w).regs = s.regs ∧ (s.raiseWake w).fin = s.fin := by
  have hpwr : s.get F.PMU_STATE_STATE = 3 ∨ s.get F.PMU_STATE_STATE = 4 := by simpa [State.parked] using hpark
  have hrun : ¬ (s.pwr = 0 ∨ s.pwr = 1) := by rw [State.pwr]; omega
  have hentry : s.inEntry = false := by
    rw [State.inEntry, State.pwr]
    rcases hpwr with h | h <;> simp [h]
  have hup : s.get F.PMU_STATE_STATE ≠ 5 := by omega
  unfold State.raiseWake
  rw [if_neg hrun, hentry, if_neg Bool.false_ne_true]
  split_ifs
  · exact ⟨rfl, rfl⟩
  · simp only [State.latchWake, hup, false_and, if_false, State.wakePulse]
    split <;> exact ⟨rfl, rfl⟩

end Sys2Proof.Machine
end

section
/-! The field inputs' commands put together: pins, filter, cleaning, conversions, thresholds, fast edges and parked polling (R395 to R410). -/

namespace Sys2Proof.Machine

/-! ### What each command does -/

/-- The level of a pin is noted. -/
def State.pinSeen (s : State) (i : Nat) (high : Bool) : State := s.setFin i { s.fin_ i with pin := some high }

/-- The level of a pin is noted, and RAW follows it. -/
def State.pinTaken (s : State) (i : Nat) (high : Bool) : State := (s.pinSeen i high).rawByPin i high

theorem State.pinTaken_leaves {s : State} {i : Nat} (high : Bool) (hfree : s.on F.FIN_CFG_POL i = true ∨ s.get F.PMU_SUPPLY_ZONE ≠ 0) :
    (s.pinTaken i high).on F.FIN_STATE_RAW i = ((high == s.on F.FIN_CFG_POL i) != s.on F.FIN_CFG_INV i) ∧
      ((s.pinTaken i high).fin_ i).pin = some high ∧
      (s.pinTaken i high).get F.FIN_STATE_STATE i = s.get F.FIN_STATE_STATE i ∧
      ∀ a, Reg.addr .FIN_STATE i 0 0 ≠ a → s.sameAt (s.pinTaken i high) a := by
  have hraw := State.rawByPin_takesRaw (s := s.pinSeen i high) high (State.rawHeld_eq_false (s := s) hfree)
  obtain ⟨_, hrec⟩ := hraw.record
  refine ⟨hraw.raw, ?_, hraw.filtered, hraw.elsewhere⟩
  rw [State.pinTaken, hrec, State.pinSeen, State.setFin_fin_same]

theorem exec_inputThresholdCrossing {s : State} {i : Nat} (high : Bool) (hi : i < 88) (hruns : s.finRuns = true)
    (hswitch : s.analogue i = false) : exec (.inputThresholdCrossing i high) s = s.ends (s.pinTaken i high) := by
  have hsame : (s.pinSeen i high).analogue i = false := hswitch
  change execInputThresholdCrossing i high s = _
  rw [execInputThresholdCrossing, if_neg (by simp [hruns, hi])]
  change s.ends (if (s.pinSeen i high).analogue i then _ else _) = _
  rw [hsame]
  rfl

theorem exec_filterElapsed {s : State} {i : Nat} (hi : i < 96) (hruns : s.finRuns = true)
    (hdiff : s.on F.FIN_STATE_RAW i ≠ s.on F.FIN_STATE_STATE i) (hdue : s.filtDue i ≤ s.now) :
    exec (.filterElapsed i) s = s.ends (s.setState i (s.on F.FIN_STATE_RAW i)) := by
  change execFilterElapsed i s = _
  rw [execFilterElapsed, if_pos ⟨hi, hruns, hdiff, hdue⟩]

theorem exec_filtWrite {s : State} {init : Init} {i : Nat} (v : Nat) (hi : i < 96) (hfab : s.domOn domFAB = true)
    (hon : s.blockOn 6 = true) (hmay : s.mayWrite init .FIN_FILT i = true) :
    exec (.filtWrite init i v) s = s.ends (s.put F.FIN_FILT_FILT v i) := by
  change execFiltWrite init i v s = _
  rw [execFiltWrite, if_pos hi, State.owned_of_mayWrite (r := .FIN_FILT) 0 0 _ hfab hon hmay]

/-- The cleaning pulse of an input is over. -/
def State.pulseOver (s : State) (i : Nat) : State := (s.put F.FIN_STATE_CLNACT 0 i).setFin i { s.fin_ i with cleanEnd := none }

theorem exec_cleaningPulseEnd {s : State} {i e : Nat} (hend : (s.fin_ i).cleanEnd = some e) (hdue : e ≤ s.now) :
    exec (.cleaningPulseEnd i) s = s.ends (s.pulseOver i).cleanNext := by
  change execCleaningPulseEnd i s = _
  simp only [execCleaningPulseEnd, hend, hdue, if_true]
  rfl

/-- The wait of an input for its pulse is over. -/
def State.waitOver (s : State) (i : Nat) : State := (s.put F.FIN_STATE_CLNW 0 i).setFin i { s.fin_ i with waitFrom := none }

theorem exec_cleaningWaitDrop {s : State} {i e : Nat} (hwait : (s.fin_ i).waitFrom = some e) (hdue : e + 20 * msUnits ≤ s.now) :
    exec (.cleaningWaitDrop i) s = s.ends ((s.waitOver i).bump F.FIN_STAT_CLNDROP) := by
  change execCleaningWaitDrop i s = _
  simp only [execCleaningWaitDrop, hwait, hdue, if_true]
  rfl

theorem exec_analogueConversion {s : State} {i uv v : Nat} (hana : s.analogue i = true) (hruns : s.finRuns = true)
    (hdue : (s.fin_ i).convAt ≤ s.now) (hv : min 0xFFF (uv / (if s.on F.FIN_ACFG_RANGE i then 10000 else 1250)) = v) :
    exec (.analogueConversion i uv) s =
      s.ends ((s.converted i v (s.now + max 1 (s.get F.FIN_ACFG_SPER i) * 100 * usUnits)).rawByValue i) := by
  change execAnalogueConversion i uv s = _
  rw [execAnalogueConversion, if_pos ⟨hana, hruns, hdue⟩, hv]
  rfl

theorem exec_athrWrite {s : State} {init : Init} {i : Nat} (hi lo : Nat) (hlow : 64 ≤ i) (hhigh : i < 88) (hfab : s.domOn domFAB = true)
    (hon : s.blockOn 6 = true) (hmay : s.mayWrite init .FIN_ATHR i = true) :
    exec (.athrWrite init i hi lo) s = s.ends (s.athrWrite i (BitVec.ofNat 32 (hi % 4096 * 65536 + lo % 4096))) := by
  change execAthrWrite init i hi lo s = _
  rw [execAthrWrite, if_pos ⟨hlow, hhigh⟩, State.owned_of_mayWrite (r := .FIN_ATHR) 0 0 _ hfab hon hmay]

/-- Whether the last edge of a fast input that was told apart lies less than 100 ns back (R405). -/
def State.edgeNear (s : State) (i : Nat) : Bool :=
  match (s.fin_ i).edgeAt with
  | some t => decide (s.now < t + 1600)
  | none => false

/-- In u the edge that s meets is noted, if it can be told apart from the one before. -/
def State.edgeNoted (s u : State) (i : Nat) : State :=
  if s.edgeNear i then u else u.setFin i { u.fin_ i with edgeAt := some s.now }

theorem State.edgeNoted_leaves (s u : State) (i : Nat) :
    (s.edgeNoted u i).regs = u.regs ∧ ((s.edgeNoted u i).fin_ i).pin = (u.fin_ i).pin := by
  unfold State.edgeNoted
  split
  · exact ⟨rfl, rfl⟩
  · exact ⟨rfl, by rw [State.setFin_fin_same]⟩

/-- An edge of a fast input's pin that is not stamped. -/
def State.edgeSeen (s : State) (i : Nat) (high : Bool) : State :=
  if (s.pinTaken i high).on F.FIN_STATE_RAW i = s.on F.FIN_STATE_RAW i then s.pinTaken i high else s.edgeNoted (s.pinTaken i high) i

theorem State.edgeSeen_leaves (s : State) (i : Nat) (high : Bool) :
    (s.edgeSeen i high).regs = (s.pinTaken i high).regs ∧ ((s.edgeSeen i high).fin_ i).pin = ((s.pinTaken i high).fin_ i).pin := by
  unfold State.edgeSeen
  split
  · exact ⟨rfl, rfl⟩
  · exact s.edgeNoted_leaves _ i

theorem exec_fastInputEdge_unstamped {s : State} {i : Nat} (high : Bool) (hlow : 88 ≤ i) (hhigh : i < 96) (hruns : s.finRuns = true)
    (hstamp : (s.pinTaken i high).on F.FIN_CFG_STAMP i = false) : exec (.fastInputEdge i high) s = s.ends (s.edgeSeen i high) := by
  have hgo : ¬ (i < 88 ∨ 95 < i ∨ (!s.finRuns) = true) := by
    simp [hruns]
    omega
  have hoff : (s.edgeNoted (s.pinTaken i high) i).on F.FIN_CFG_STAMP i = false :=
    ((State.sameAt_of_regs (s.edgeNoted_leaves _ i).1 _).on (f := F.FIN_CFG_STAMP)).trans hstamp
  have hno : ¬ ((s.edgeNoted (s.pinTaken i high) i).on F.FIN_CFG_STAMP i = true ∧ s.edgeNear i = false) := by simp [hoff]
  change execFastInputEdge i high s = _
  rw [execFastInputEdge, if_neg hgo]
  change s.ends (if (s.pinTaken i high).on F.FIN_STATE_RAW i = s.on F.FIN_STATE_RAW i then s.pinTaken i high
    else if (s.edgeNoted (s.pinTaken i high) i).on F.FIN_CFG_STAMP i = true ∧ s.edgeNear i = false then _
    else s.edgeNoted (s.pinTaken i high) i) = _
  rw [if_neg hno]
  rfl

/-- The inputs of a group that a burst finds different from their references. -/
def State.differing (s : State) (g : Nat) (found : List Nat) : List Nat :=
  ((s.groupInputs g).filter (fun c => burstRaw found c != c.2.2)).map (fun c => c.1)

theorem State.differing_isEmpty (s : State) (g : Nat) (found : List Nat) :
    (s.differing g found).isEmpty = (s.groupInputs g).all (fun c => burstRaw found c == c.2.2) := by
  rw [Bool.eq_iff_iff]
  simp [State.differing]

/-- The burst of a group has been made: the next is due after its period, and a confirming burst follows where an input differs (R410). -/
def State.groupPolled (s : State) (g per : Nat) (found : List Nat) : State :=
  { s.burst g found with fin := { (s.burst g found).fin with
    next := Sparse.set s.fin.next g (s.now + per)
    confirm := if (s.groupInputs g).all (fun c => burstRaw found c == c.2.2) then s.fin.confirm
      else s.fin.confirm ++ [(g, s.differing g found, s.now + msUnits)] } }

theorem exec_pollingBurst {s : State} {g w per : Nat} (found : List Nat) (hgroup : Sparse.get s.fin.groups g = some w)
    (hper : s.burstPeriod w = some per) (hpark : s.parked = true) (hdue : Sparse.at s.fin.next g 0 ≤ s.now) :
    exec (.pollingBurst g found) s = s.ends (s.groupPolled g per found) := by
  change execPollingBurst g found s = _
  rw [State.groupPolled, ← s.differing_isEmpty]
  simp only [execPollingBurst, hgroup, hper, hpark, hdue, and_self, if_true]
  rfl

/-- The confirming burst of a group has been made, and others wait. -/
def State.burstConfirmed (s : State) (g : Nat) (found : List Nat) (rest : List (Nat × List Nat × Nat)) : State :=
  { s.burst g found with fin := { (s.burst g found).fin with confirm := rest } }

/-- The confirming burst has been made, and its group's input wake is counted (R410). -/
def State.pollWoken (s : State) (g : Nat) (found : List Nat) (rest : List (Nat × List Nat × Nat)) : State :=
  ((s.burstConfirmed g found rest).bump F.FIN_STAT_POLLWAKE).put F.FIN_STAT_LASTGRP g

theorem State.sameAt_pollWoken (s : State) (g : Nat) (found : List Nat) (rest : List (Nat × List Nat × Nat)) {a : Nat}
    (ha : Reg.addr .FIN_STAT 0 0 0 ≠ a) : s.sameAt (s.pollWoken g found rest) a :=
  ((s.burstConfirmed g found rest).sameAt_bump (f := F.FIN_STAT_POLLWAKE) ha).trans (State.sameAt_put (f := F.FIN_STAT_LASTGRP) _ g ha)

theorem State.pollWoken_leaves (s : State) {g : Nat} (hg : g < 8) (found : List Nat) (rest : List (Nat × List Nat × Nat)) :
    (s.pollWoken g found rest).get F.FIN_STAT_LASTGRP = g ∧ (s.pollWoken g found rest).oneMore s F.FIN_STAT_POLLWAKE ∧
      (s.pollWoken g found rest).fin.confirm = rest := by
  have hlast : F.FIN_STAT_LASTGRP.fits := ⟨by decide, by decide⟩
  refine ⟨State.get_put_fit _ F.FIN_STAT_LASTGRP 0 hlast (hg.trans (by decide)), ?_, rfl⟩
  rw [State.oneMore, State.pollWoken, State.get_put_apart _ F.FIN_STAT_LASTGRP F.FIN_STAT_POLLWAKE _ _ _ hlast rfl rfl (by decide),
    State.get_bump_same _ _ _ _ ⟨by decide, by decide⟩]
  rfl

theorem exec_confirmingBurst_woken {s : State} {g d : Nat} {diff found : List Nat} {rest : List (Nat × List Nat × Nat)}
    (hnext : s.fin.confirm = (g, diff, d) :: rest) (hdue : d ≤ s.now) (hpark : s.parked = true)
    (hdiff : (s.groupInputs g).any (fun c => diff.contains c.1 && (burstRaw found c != c.2.2)) = true) :
    exec (.confirmingBurst found) s = s.ends ((s.pollWoken g found rest).raiseWake ⟨2, none, 0, 0, 0, 0, 0, false⟩) := by
  change execConfirmingBurst found s = _
  simp only [execConfirmingBurst, hnext, hdue, hpark, and_self, if_true, hdiff]
  rfl

/-- The registers of an analogue input's own set that a conversion reads or writes lie apart, and apart from the supply's. -/
theorem addr_fin_apart_aval {s : State} {i : Nat} (hana : s.analogue i = true) :
    Reg.addr .FIN_STATE i 0 0 ≠ Reg.addr .FIN_AVAL i 0 0 ∧ Reg.addr .FIN_AVAL i 0 0 ≠ Reg.addr .FIN_STATE i 0 0 ∧
      Reg.addr .FIN_AVAL i 0 0 ≠ Reg.addr .FIN_CFG i 0 0 ∧ Reg.addr .FIN_AVAL i 0 0 ≠ Reg.addr .FIN_ATHR i 0 0 ∧
      Reg.addr .FIN_AVAL i 0 0 ≠ Reg.addr .PMU_SUPPLY 0 0 0 := by
  have hi : i < 88 := by simp [State.analogue] at hana; omega
  simp only [Reg.addr, Reg.geom]
  omega

/-- Settles O25: RAW is taken in one way by pins, fast edges and conversions, which leaves the filter's STATE; a change of STATE, the next
cleaning pulse and the events of an input each touch only their own registers; a wake while parked is latched and shows in none. -/
theorem fieldInputsComplete : Obligations.FieldInputsComplete := by
  refine ⟨?crossing, ?filter, ?filt, ?pulse, ?wait, ?conversion, ?thresholds, ?edge, ?burst, ?confirming⟩
  case crossing =>
    intro s i high hi hruns hswitch hfree
    obtain ⟨hraw, hpin, hstate, -⟩ := State.pinTaken_leaves high hfree
    exact .of_ends _ (exec_inputThresholdCrossing high hi hruns hswitch) ⟨hraw, hpin, hstate⟩
  case filter =>
    intro s i hi hruns hdiff hdue
    exact .of_ends _ (exec_filterElapsed hi hruns hdiff hdue) (s.setState_leaves hi _)
  case filt =>
    intro s init i v hi hfab hon hmay
    exact .of_ends _ (exec_filtWrite v hi hfab hon hmay) ⟨s.get_put_same F.FIN_FILT_FILT v i 0 ⟨by decide, by decide⟩, rfl⟩
  case pulse =>
    intro s i e hi hend hdue hwait
    have hact : F.FIN_STATE_CLNACT.fits := ⟨by decide, by decide⟩
    have hnone : (s.pulseOver i).get F.FIN_STATE_CLNW i = 0 :=
      (s.get_put_apart F.FIN_STATE_CLNACT F.FIN_STATE_CLNW 0 i 0 hact rfl rfl (by decide)).trans hwait
    obtain ⟨hregs, hrec⟩ := State.cleanNext_spares hnone
    refine .of_ends _ (exec_cleaningPulseEnd hend hdue) ⟨?_, ?_, ?_⟩
    · exact (hregs.get (f := F.FIN_STATE_CLNACT)).trans (s.get_put_same F.FIN_STATE_CLNACT 0 i 0 hact)
    · exact (congrArg FinIn.cleanEnd hrec).trans (by rw [State.pulseOver, State.setFin_fin_same])
    · exact (hregs.get (f := F.FIN_STATE_STATE)).trans
        (s.get_put_apart F.FIN_STATE_CLNACT F.FIN_STATE_STATE 0 i 0 hact rfl rfl (by decide))
  case wait =>
    intro s i e hi hwait hdue
    have hstat : Reg.addr .FIN_STAT 0 0 0 ≠ Reg.addr .FIN_STATE i 0 0 := ((addr_inputSet hi).1.trans (by decide)).ne'
    refine .of_ends _ (exec_cleaningWaitDrop hwait hdue) ⟨?_, ?_, ?_⟩
    · exact ((s.waitOver i).sameAt_bump (f := F.FIN_STAT_CLNDROP) hstat).get (f := F.FIN_STATE_CLNW) |>.trans
        (s.get_put_same F.FIN_STATE_CLNW 0 i 0 ⟨by decide, by decide⟩)
    · have hrec : ((s.waitOver i).bump F.FIN_STAT_CLNDROP).fin_ i = (s.waitOver i).fin_ i := State.fin_congr (State.bump_fin _ _ _ _) i
      exact (congrArg FinIn.waitFrom hrec).trans (by rw [State.waitOver, State.setFin_fin_same])
    · have hput : (s.waitOver i).get F.FIN_STAT_CLNDROP = s.get F.FIN_STAT_CLNDROP :=
        (s.sameAt_put (f := F.FIN_STATE_CLNW) 0 hstat.symm).get (f := F.FIN_STAT_CLNDROP)
      rw [State.withPending_oneMore, State.oneMore, ← hput]
      exact State.get_bump_same _ F.FIN_STAT_CLNDROP 0 0 ⟨by decide, by decide⟩
  case conversion =>
    intro s i uv v hana hruns hdue hv
    have hle : v ≤ 0xFFF := hv ▸ Nat.min_le_left _ _
    generalize hat : s.now + max 1 (s.get F.FIN_ACFG_SPER i) * 100 * usUnits = due
    obtain ⟨hvalue, hseq⟩ := s.converted_leaves i due hle
    obtain ⟨b, hraw⟩ := (s.converted i v due).rawByValue_takesRaw i
    obtain ⟨_, hrec⟩ := hraw.record
    obtain ⟨haval, hstate, hcfg, hathr, hzone⟩ := addr_fin_apart_aval hana
    have hkept : ∀ {a}, Reg.addr .FIN_AVAL i 0 0 ≠ a → s.sameAt (s.converted i v due) a := s.sameAt_converted v due
    refine .of_ends _ (hat ▸ exec_analogueConversion hana hruns hdue hv) ⟨?_, ?_, ?_, ?_, ?_⟩
    · exact ((hraw.elsewhere _ haval).get (f := F.FIN_AVAL_VALUE)).trans hvalue
    · exact ((hraw.elsewhere _ haval).get (f := F.FIN_AVAL_SEQ)).trans hseq
    · exact (congrArg FinIn.convAt hrec).trans (by rw [State.converted, State.setFin_fin_same])
    · intro hfree hbounds hreached
      have hfree' : (s.converted i v due).rawHeld i = false := State.rawHeld_eq_false (by
        rwa [(hkept hcfg).on (f := F.FIN_CFG_POL), (hkept hzone).get (f := F.PMU_SUPPLY_ZONE)])
      have hinv : (s.converted i v due).on F.FIN_CFG_INV i = s.on F.FIN_CFG_INV i := (hkept hcfg).on (f := F.FIN_CFG_INV)
      have hset := State.rawByValue_reached hfree'
        (by rwa [(hkept hathr).get (f := F.FIN_ATHR_LO), (hkept hathr).get (f := F.FIN_ATHR_HI)])
        (by rwa [(hkept hathr).get (f := F.FIN_ATHR_HI), hvalue])
      rw [hinv] at hset
      exact (congrArg (fun t : State => t.on F.FIN_STATE_RAW i) hset).trans (State.setRaw_takesRaw _ i _).raw
    · exact hraw.filtered.trans ((hkept hstate).get (f := F.FIN_STATE_STATE))
  case thresholds =>
    intro s init i hi lo hlow hhigh hfab hon hmay
    obtain ⟨hhi, hlo⟩ := bitsOf_thresholds hi lo
    have hkept := s.sameAt_athrWrite (show i < 96 by omega) (BitVec.ofNat 32 (hi % 4096 * 65536 + lo % 4096))
    rw [hhi, hlo] at hkept
    obtain ⟨hset, hset'⟩ := s.thresholdsSet_leaves i (hi % 4096) (lo % 4096)
    rw [Nat.mod_mod] at hset hset'
    exact .of_ends _ (exec_athrWrite hi lo hlow hhigh hfab hon hmay)
      ⟨(hkept.get (f := F.FIN_ATHR_HI)).trans hset, (hkept.get (f := F.FIN_ATHR_LO)).trans hset'⟩
  case edge =>
    intro s i high hlow hhigh hruns hfree hstamp
    obtain ⟨hraw, hpin, -, helse⟩ := State.pinTaken_leaves high hfree
    obtain ⟨hregs, hsame⟩ := s.edgeSeen_leaves i high
    have hcfg : Reg.addr .FIN_STATE i 0 0 ≠ Reg.addr .FIN_CFG i 0 0 := by
      simp only [Reg.addr, Reg.geom]
      omega
    have hoff : s.on F.FIN_CFG_STAMP i = false := by simp [State.on, hstamp]
    refine .of_ends _ (exec_fastInputEdge_unstamped high hlow hhigh hruns (((helse _ hcfg).on (f := F.FIN_CFG_STAMP)).trans hoff))
      ⟨((State.sameAt_of_regs hregs _).on (f := F.FIN_STATE_RAW)).trans hraw, hsame.trans hpin, List.map_congr_left fun w hw => ?_⟩
    have hw4 : w < 4 := List.mem_range.mp hw
    have hne : Reg.addr .FIN_STATE i 0 0 ≠ Reg.addr .FIN_FSTAMP (i - 88) 0 w := by
      simp only [Reg.addr, Reg.geom]
      omega
    exact ((helse _ hne).trans (State.sameAt_of_regs hregs _)).word
  case burst =>
    intro s g w per found hgroup hper hpark hdue
    exact .of_ends _ (exec_pollingBurst found hgroup hper hpark hdue) ⟨Sparse.get_set_same _ _ _, rfl, rfl⟩
  case confirming =>
    intro s g d diff found rest hg hnext hdue hpark hdiff
    obtain ⟨hlast, hcount, hrest⟩ := s.pollWoken_leaves hg found rest
    have hstill : (s.pollWoken g found rest).parked = true := by
      rw [State.parked, (s.sameAt_pollWoken g found rest (by decide)).get (f := F.PMU_STATE_STATE)]
      exact hpark
    obtain ⟨hregs, hfin⟩ := State.raiseWake_of_parked hstill ⟨2, none, 0, 0, 0, 0, 0, false⟩
    refine .of_ends _ (exec_confirmingBurst_woken hnext hdue hpark hdiff) ⟨?_, ?_, ?_⟩
    · exact ((State.sameAt_of_regs hregs _).get (f := F.FIN_STAT_LASTGRP)).trans hlast
    · exact ((State.sameAt_of_regs hregs _).get (f := F.FIN_STAT_POLLWAKE)).trans hcount
    · exact (congrArg FinState.confirm hfin).trans hrest

end Sys2Proof.Machine
end
